-- ==== Sys2Proof/Word.lean ====
section
/-! DEFINITION. The byte, and tables indexed by a natural number. -/

namespace Sys2Proof

/-- The unit of every command, record and memory of the manual (00_scope.md R7). -/
abbrev Byte := BitVec 8

/-- An indexed set of like things, as a list of (index, value) pairs.
In canonical form the indices rise strictly and no value equals the one an absent index reads as. -/
abbrev Tab (α : Type) := List (Nat × α)

end Sys2Proof
end

