-- ==== Sys2Proof/Types.lean ====
section
/-! DEFINITION. The plain data that commands carry and that the state holds besides words: a mailbox request, what the
environment reports, and the small enumerations. -/

namespace Sys2Proof

/-- A mailbox request as it stands in the request area at its doorbell (18_pumphouse.md Table 18.4).
`fn` is the PCIe function: 0 for PF0, 1 + n for VFn.  The opcode is given by the command itself. -/
structure Req where
  fn : Fin 17
  flags : BitVec 8
  seq : BitVec 32
  length : BitVec 32
  payload : List Byte
  deriving DecidableEq, Repr

/-- How an I2C transaction ends on the wire (18_pumphouse.md R405, R406). -/
inductive I2cEnd where
  /-- Acknowledged; the bytes read, and whether the PEC, if any, was right. -/
  | acked (rdata : List Byte) (pecOk : Bool)
  /-- The target did not acknowledge its address. -/
  | nak
  /-- Still on the bus: a later command tells how it goes on. -/
  | onBus
  deriving DecidableEq, Repr

/-- What the ECC of an on-chip memory reports on an access. -/
inductive EccErr where
  | ok
  | corrected
  | uncorrectable
  deriving DecidableEq, Repr

/-- What a DRAM access reports (17_dram.md R379, R387). -/
inductive DramErr where
  | ok
  | corrected
  | uncorrectable (synd : BitVec 16) (rank : Bool)
  | caParity
  | writeCrc
  deriving DecidableEq, Repr

/-- The clients of the DRAM (17_dram.md Table 17.1, Table 17.5 FAIL_CLIENT). -/
inductive DramClient where
  | sounding
  | staging
  | pumphouse
  | patrol
  | read
  deriving DecidableEq, Repr

/-- JTAG instructions (23_test.md Table 23.1, R488). `hidden` is any private instruction. -/
inductive JtagIr where
  | bypass
  | idcode
  | samplePreload
  | extest
  | clamp
  | highz
  | extestPulse
  | extestTrain
  | hidden (code : Nat)
  deriving DecidableEq, Repr

/-- Why a bank group fails (08_ferry_reservoir.md R203). -/
inductive BankFault where
  | eccError
  | selfCheck
  deriving DecidableEq, Repr

/-- How a pump engine fails (05_pumps.md R133). -/
inductive PumpFault where
  | microParity (addr : Fin 16384)
  | nanoParity (addr : Fin 1024)
  | readBack
  | selfCheck
  deriving DecidableEq, Repr

/-- The directories of the Weir (10_weir_windlass.md R225). -/
inductive WeirDir where
  | account
  | instrument
  | position
  deriving DecidableEq, Repr

/-- Why a river port leaves UP (04_river_ports.md R107). -/
inductive LinkLoss where
  | blockLock
  | hiBer
  | localFault
  | remoteFault
  deriving DecidableEq, Repr

/-- What a river port's receiver reports outside UP (04_river_ports.md R107). -/
inductive LockEv where
  | lock
  | noLock
  | hiBer
  | localFault
  | remoteFault
  | faultEnds
  deriving DecidableEq, Repr

/-- Where an RDMA packet arrives (14_remote_memory.md R313). -/
inductive PktVia where
  /-- A RoCEv2 packet on a river port. -/
  | river (p : Fin 64)
  /-- A fabric message from a device, for a berth. -/
  | fabric (src : Fin 1024) (berth : Fin 16)
  deriving DecidableEq, Repr

/-- What probing reads from a cartridge (16_cistern.md R360). -/
structure ProbeRes where
  /-- The link trained at Gen4 x4. -/
  linkFull : Bool
  /-- Block size, zones, zone size and pages are those of R355. -/
  geometryOk : Bool
  /-- The volatile write cache was disabled. -/
  cacheOff : Bool
  /-- The 1,024-byte identity log page over NVMe. -/
  ident : List Byte
  /-- Bytes 0 to 127 of the page over the sideband. -/
  side : List Byte
  /-- CART_SERIAL returned by Authenticate. -/
  authSerial : List Byte
  /-- The signature returned by Authenticate. -/
  authSig : List Byte
  /-- Zones the zone report shows as not empty. -/
  usedZones : Fin 8193
  deriving DecidableEq, Repr

/-- An instruction that the Pumphouse core retires, or a trap it takes: its program counter, the next one, and what the instruction stream
reports of it (22_counters_trace.md Table 22.3). -/
inductive Retired where
  | plain (pc next : BitVec 64)
  | branch (pc next : BitVec 64) (taken : Bool)
  | indirect (pc target : BitVec 64)
  | trapped (mepc mcause handler : BitVec 64)
  deriving DecidableEq, Repr

/-- What the Pumphouse core has done since the last heartbeat: the instructions it retired, the fetch blocks it discarded, the cycles its
store buffer was full, and the stores that are still in that buffer (18_pumphouse.md R402, R403, 22_counters_trace.md Table 22.1). -/
structure CoreRun where
  retired : List Retired
  discarded : Nat
  stalls : Nat
  buffered : List (Nat × BitVec 64)
  deriving DecidableEq, Repr

/-- The outcome of start-up training: the highest speed each channel trained at, none where it failed at both (17_dram.md R385). -/
structure TrainRes where
  dc0 : Option (Fin 3)
  dc1 : Option (Fin 3)
  /-- The regulators whose VOUT_MODE is not one the Orkai writes: 0 the VDD_CORE regulator, then those of the board's other rails
  (18_pumphouse.md R404). -/
  badModes : List (Fin 7) := []
  deriving DecidableEq, Repr

/-- The status of a mailbox response (18_pumphouse.md Table 18.5). -/
inductive Status where
  | ok
  | busy
  | badLen
  | badParam
  | noPerm
  | noResource
  | state
  | timeout
  | hwFault
  | frozen
  | unsupported
  deriving DecidableEq, Repr

/-- The role a mailbox request carries by the function it comes from (09_berths.md R207, R209). -/
inductive Role where
  | harbour
  | berth (b : Nat)
  | auditor
  /-- A virtual function that is disabled. -/
  | absent
  deriving DecidableEq, Repr

/-- The privileges of Table 22.1's filters (22_counters_trace.md R467). -/
inductive Priv where
  | harbour
  | berth
  | firmware
  deriving DecidableEq, Repr

/-- One occurrence that the programmable counters may count (22_counters_trace.md R467): its privilege, the masters it names as
(MASTER_KIND, index), its index or address as (ADDR_KIND, space, value), and its class value. -/
structure Occ where
  priv : Option Priv := none
  masters : List (Nat × Nat) := []
  addr : Option (Nat × Nat × Nat) := none
  cls : Option Nat := none
  deriving DecidableEq, Repr

/-- The servo states (02_tide_gauge.md Table 02.5). -/
inductive Servo where
  | free
  | acquire
  | locked
  | holdover
  deriving DecidableEq, Repr

/-- One entry of a mailbox event ring (18_pumphouse.md Table 18.6); DLEN is the length of the detail. -/
structure EventEntry where
  code : BitVec 16 := 0
  eseq : BitVec 32 := 0
  stamp : Nat := 0
  detail : List Byte := []
  deriving DecidableEq, Repr

/-- An I2C transaction of the Orkai (18_pumphouse.md R404, Table 18.11).
`fn` is the function whose system.i2c it serves; none for a guard write. -/
structure I2cTxn where
  fn : Option Nat := none
  addr : BitVec 8 := 0
  wdata : List Byte := []
  rlen : Nat := 0
  pec : Bool := false
  deriving DecidableEq, Repr

/-- The board descriptor in use (18_pumphouse.md Table 18.2). -/
structure BoardDesc where
  dc0 : BitVec 8 := 0
  dc1 : BitVec 8 := 0
  vcoreAddr : BitVec 8 := 0x40
  rails : List Byte := []
  temps : List Byte := []
  speeds : BitVec 8 := 0
  deriving DecidableEq, Repr

/-- A configuration of the latency guard (03_self_timed_core.md Table 03.6). -/
structure GuardCfg where
  enable : Bool := true
  stepMv : BitVec 8 := 5
  target : BitVec 16 := 450
  hyst : BitVec 16 := 15
  ceil : BitVec 8 := 40
  fixed : BitVec 8 := 30
  deriving DecidableEq, Repr

/-- Where a frame comes from. -/
inductive FrameSrc where
  /-- A river port. -/
  | port (p : Nat)
  /-- Transmit ring r of berth b. -/
  | ring (b r : Nat)
  /-- A block message of the fabric. -/
  | fabric (src : Nat)
  /-- A RoCEv2 packet of a queue pair. -/
  | rdma (q : Nat)
  /-- The Pumphouse or the hardware itself. -/
  | system
  deriving DecidableEq, Repr

/-- A transmit descriptor that has been read (19_host_rings.md Table 19.2). -/
structure TxDesc where
  eop : Bool := false
  tsReq : Bool := false
  tag : BitVec 64 := 0
  port : Nat := 0
  tc : Nat := 0
  data : List Byte := []
  dmaErr : Bool := false
  /-- Skipped with LEN 0 (R420). -/
  skipped : Bool := false
  deriving DecidableEq, Repr

/-- A run of transmit descriptors waiting to be written back together (19_host_rings.md R419). -/
structure TxFrame where
  descs : List TxDesc := []
  /-- The frame queued for them, if any. -/
  frame : Option Nat := none
  /-- Table 19.3, once known. -/
  status : Option (BitVec 8) := none
  te : Nat := 0
  deriving DecidableEq, Repr

/-- One RDMA packet: its BTH and the extended headers its opcode has (14_remote_memory.md Table 14.1, RoCEv2). -/
structure RdmaPkt where
  op : Nat := 0
  solicited : Bool := false
  pkey : Nat := 0xFFFF
  becn : Bool := false
  qpn : Nat := 0
  ackReq : Bool := false
  psn : Nat := 0
  /-- RETH. -/
  va : Nat := 0
  rkey : Nat := 0
  dlen : Nat := 0
  /-- AETH. -/
  syndrome : Nat := 0
  msn : Nat := 0
  /-- ImmDt. -/
  imm : Nat := 0
  payload : List Byte := []
  /-- Received with an ECN-CE mark. -/
  ce : Bool := false
  /-- On the LOCAL path, the host memory a READ request reads. -/
  source : List Byte := []
  deriving DecidableEq, Repr

/-- What the Orkai puts out at its contacts. -/
inductive Out where
  /-- An MSI-X message of a function on a vector. -/
  | msix (fn vec : Nat)
  /-- The value a register read returns. -/
  | readData (fn : Nat) (off : Nat) (value : Nat)
  /-- Bytes sent on a river port, FCS included. -/
  | wire (port : Nat) (bytes : List Byte)
  /-- A posted write to host memory. -/
  | dmaWrite (fn : Nat) (addr : Nat) (data : List Byte)
  /-- A read of host memory: the data come with a later command. -/
  | dmaRead (fn : Nat) (addr len : Nat)
  /-- Bytes sent on a Crossing: a flit, a TS set or a training marker. -/
  | crossing (k : Nat) (bytes : List Byte)
  /-- A training or control pattern on a Crossing that is not a flit. -/
  | training (k : Nat) (what : String) (arg : Nat)
  /-- An NVMe command to a bay: set and opcode, and its data. -/
  | nvme (bay : Nat) (opcode : Nat) (arg : Nat) (data : List Byte)
  /-- A write on a board-management bus. -/
  | i2c (bus addr : Nat) (data : List Byte)
  /-- A VOUT_COMMAND to the VDD_CORE regulator, as a VCODE. -/
  | vout (vcode : Nat)
  /-- A command on the bus of a DRAM channel (Table 17.6 CMD). -/
  | dram (c cmd : Nat)
  /-- A PTP message sent on a river port: transport (Table 02.11) and the message from its common header on. -/
  | ptp (port transport : Nat) (msg : List Byte)
  /-- PPS_OUT and REF_OUT rise. -/
  | ppsOut
  deriving DecidableEq, Repr

/-- What the QSPI NOR holds when the part is first powered, erased elsewhere (log entry 9): a boot-control block that prefers slot A, with
its CRC; a board descriptor with 16 GiB on each channel and the VDD_CORE regulator at 0x40, with its CRC; and the header of firmware 4.2
in slot A (18_pumphouse.md Tables 18.1, 18.2 and 18.7). -/
def factoryFlash : Tab (BitVec 8) :=
  [(0x0000, 0x00), (0x0FFC, 0x38), (0x0FFD, 0xDE), (0x0FFE, 0x5D), (0x0FFF, 0x60)]
  ++ [(0x1000, 0x4F), (0x1001, 0x4B), (0x1002, 0x42), (0x1003, 0x44), (0x1004, 1), (0x1005, 1), (0x1006, 1), (0x1007, 0x40)]
  ++ (List.range 11).map (fun i => (0x1008 + i, 0))
  ++ [(0x1FFC, 0x5A), (0x1FFD, 0x89), (0x1FFE, 0x3D), (0x1FFF, 0xA2)]
  ++ [(0x100000, 0x4F), (0x100001, 0x4B), (0x100002, 0x46), (0x100003, 0x57), (0x100004, 4), (0x100005, 2)]
  ++ (List.range 6).map (fun i => (0x100006 + i, 0))
  ++ [(0x10000C, 1), (0x10000D, 0), (0x10000E, 0), (0x10000F, 0), (0x100010, 0), (0x100011, 0), (0x100012, 0), (0x100013, 0)]

end Sys2Proof
end

