-- ==== Sys2Proof/Syntax.lean ====
section
/-! DEFINITION. The commands: one constructor per row of the command table. -/

namespace Sys2Proof

/-- A command to the Orkai.  A mailbox command carries the request that stands in the function's request area at the doorbell
(18_pumphouse.md R397); any other command carries what the environment reports with it. -/
inductive Instr where
  /-- SYSTEM_PING (R399): A ping request (LENGTH 0 with a parameterised opcode, or system.ping) returns OK with PING set and the firmware identity payload, and changes nothing. -/
  | systemPing (rq : Req)
  /-- SYSTEM_INFO (R412): Returns the ping payload, both slot headers, PREFERRED, TRIED and the fused rollback count. -/
  | systemInfo (rq : Req)
  /-- SYSTEM_FW_STAGE (R412): Writes a chunk of a firmware image into the staging area at OFFSET. -/
  | systemFwStage (rq : Req)
  /-- SYSTEM_FW_COMMIT (R395): Writes the staged image to the slot that is not running, verifies it, makes it PREFERRED and clears TRIED, optionally advancing the rollback count. -/
  | systemFwCommit (rq : Req) (flashOk : Bool)
  /-- SYSTEM_RESTART (R409): Returns OK, then restarts the Pumphouse as a watchdog restart does. -/
  | systemRestart (rq : Req)
  /-- SYSTEM_I2C (R412): Runs one I2C transaction on BM0 or BM1 under the arbitration and retry rules and returns the read bytes. -/
  | systemI2c (rq : Req) (env : I2cEnd)
  /-- UNSUPPORTED_OPCODE (R398): A mailbox request whose opcode is not defined returns UNSUPPORTED with LENGTH 0. -/
  | unsupportedOpcode (rq : Req) (code : BitVec 16)
  /-- MBX_OVERRUN (R397): A doorbell written while BUSY is set sets OVERRUN and is otherwise ignored. -/
  | mbxOverrun (fn : Fin 17)
  /-- MBX_EVT_CONS_WRITE (R401): The host advances the consumer index of its event ring, which re-enables the MSI-X message; values outside [CONS, PROD] are ignored. -/
  | mbxEvtConsWrite (fn : Fin 17) (v : BitVec 16)
  /-- MBX_EVT_LOST_READ (R12): A read of MBX_EVT_LOST returns the count of events lost to a full ring and clears it in one indivisible access. -/
  | mbxEvtLostRead (fn : Fin 17)
  /-- TIDE_NOW_NS_READ (R71): A read of TIDE_NOW_NS returns the current NS and latches SEC and FRAC of the same instant for the following reads. -/
  | tideNowNsRead (fn : Fin 17)
  /-- COUNTER_LOW_HALF_READ (R465): A 32-bit read of a counter's low half latches bits [47:32] for the next read of the high half of the same slot. -/
  | counterLowHalfRead (fn : Fin 17) (off : BitVec 32)
  /-- SUMP_STATUS_WRITE (R443): An RW1C write to STATUS_LO or STATUS_HI clears the named SUMP_STATUS bits, except a bit whose source latches in the same cycle. -/
  | sumpStatusWrite (hi : Bool) (mask : BitVec 32)
  /-- PMON_OVF_WRITE (R468): An RW1C write to PMON_OVF clears the overflow bits of the named programmable counters. -/
  | pmonOvfWrite (w : Fin 4) (mask : BitVec 32)
  /-- REGISTER_WRITE (R12): A host write to any other register updates RW fields, clears RW1C bits, and is ignored for RO, RWL-locked and reserved fields or when its domain is off. -/
  | registerWrite (fn : Fin 17) (off : BitVec 32) (v : BitVec 32)
  /-- BERTH_CREATE (R217): Creates a berth: generates and certifies its Ed25519 key, places its RDMA blocks, opens its chain with the OPEN record and enables its VF. -/
  | berthCreate (rq : Req) (keyOk : Bool)
  /-- BERTH_DESTROY (R220): Tears a berth down: stops its ports, drains its queues, rejects held frames, flushes queue pairs, writes the final seal, zeroises the key and releases every resource. -/
  | berthDestroy (rq : Req)
  /-- DESTROY_DRAIN_TIMEOUT (R220): 1 ms after teardown begins, the destroyed berth's queued frames still waiting are dropped and recorded. -/
  | destroyDrainTimeout (b : Fin 16)
  /-- BERTH_ASSIGN_PORT (R210): Assigns a disabled river port whole, adds a VLAN and TC share, or releases all assignment of the port. -/
  | berthAssignPort (rq : Req)
  /-- BERTH_GANGWAY (R213): Sets or deletes a one-way PORT, RING or RDMA gangway from a source berth towards a destination berth. -/
  | berthGangway (rq : Req)
  /-- BERTH_GET_KEY (R222): Returns a berth's public key and DER certificate. -/
  | berthGetKey (rq : Req)
  /-- BERTH_STATUS (R222): Returns a berth's state, ports and shares, gangways and resource holdings. -/
  | berthStatus (rq : Req)
  /-- BERTH_SET_AUDITOR (R207): Designates the auditor function on a VF whose berth does not exist, or removes it. -/
  | berthSetAuditor (rq : Req)
  /-- BERTH_RESET (R219): Resets a berth's host rings, mailbox and event ring, puts its queue pairs into the error state and writes a RESET record. -/
  | berthReset (rq : Req)
  /-- FUNCTION_LEVEL_RESET (R219): A PCIe function-level reset of VFb resets berth b's rings, mailbox and queue pairs as berth.reset does and writes a RESET record. -/
  | functionLevelReset (b : Fin 16)
  /-- PORT_QUAD_CONFIG (R113): Sets a quad's rate, bond, media, AN, per-port FEC, settle limit and recalibration mode, settling the synthesiser when rate or bond changes. -/
  | portQuadConfig (rq : Req)
  /-- PORT_ENABLE (R107): Enables or disables a river port and sets its LINK_UP_DEBOUNCE. -/
  | portEnable (rq : Req)
  /-- PORT_SET_FLOW (R99): Sets a port's flow-control mode, PFC class mask and transmitted quanta. -/
  | portSetFlow (rq : Req)
  /-- PORT_RECAL (R103): Starts recalibration of a quad's synthesiser: drain, settle, resume. -/
  | portRecal (rq : Req)
  /-- PORT_GET_STATUS (R113): Returns RP_STATUS, the quad's RQ_STATUS and the port counters. -/
  | portGetStatus (rq : Req)
  /-- TIME_GET_STATUS (R71): Returns the sync-state word, bound, UTC offset, interpolator and dissent state and the tide-gauge counters. -/
  | timeGetStatus (rq : Req)
  /-- TIME_SET_SOURCE (R48): Names the phase source and frequency source with their parameters, driving servo transitions as Table 02.6 states. -/
  | timeSetSource (rq : Req)
  /-- TIME_SET_TAI (R66): Gives the TAI second for the next PPS_IN edge; refused with STATE while LOCKED or HOLDOVER. -/
  | timeSetTai (rq : Req)
  /-- TIME_SET_UTC (R47): Sets TAI − UTC and any leap indication, at once or at the end of the named UTC day. -/
  | timeSetUtc (rq : Req)
  /-- TIME_SET_PORT_DELAY (R58): Sets a port's ingress and egress board delays used by stamp calibration. -/
  | timeSetPortDelay (rq : Req)
  /-- TIME_PTP_CONFIG (R50): Configures a PTP instance: domain, clock type, delay mechanism, transport, steps, intervals, ports and priorities. -/
  | timePtpConfig (rq : Req)
  /-- TIME_SET_FAIL_CLOSED (R57): Enables or disables time-fail-closed for a berth and sets its TFC_THRESH. -/
  | timeSetFailClosed (rq : Req)
  /-- TIME_SET_HOLDOVER (R54): Sets HOLD_RATE, HOLD_AGE, HOLDOVER_LIMIT and STEP_THRESH. -/
  | timeSetHoldover (rq : Req)
  /-- TIME_SET_DISSENT (R60): Sets DISSENT_LIMIT and a Crossing's configured asymmetry for witness exchange. -/
  | timeSetDissent (rq : Req)
  /-- PUMP_STAGE (R138): Writes a chunk of the microcode image into the staging area. -/
  | pumpStage (rq : Req)
  /-- PUMP_COMMIT (R130): Checks the staged image's digest and starts the engine-by-engine hitless patch to a new generation. -/
  | pumpCommit (rq : Req)
  /-- PUMP_SET_PROFILE (R117): Sets a berth's profile enable bit and micro-store entry address. -/
  | pumpSetProfile (rq : Req)
  /-- PUMP_SET_ACTION (R124): Sets a berth's action and mirror destination for one parse-failure class. -/
  | pumpSetAction (rq : Req)
  /-- PUMP_FRAG_CONFIG (R127): Sets FRAG_AGE of the fragment table. -/
  | pumpFragConfig (rq : Req)
  /-- PUMP_STATUS (R139): Returns the PUMP registers and each engine's generation and digest. -/
  | pumpStatus (rq : Req)
  /-- PUMP_ENGINE_CTL (R135): Removes a pump engine from rotation, or readmits it after reload, memory BIST and self-check. -/
  | pumpEngineCtl (rq : Req) (checksOk : Bool)
  /-- PUMP_LOCK_PATCH (R139): Burns PATCH_LOCK irreversibly, allowing one commit per chip reset afterwards. -/
  | pumpLockPatch (rq : Req)
  /-- STRAINER_PARTITION (R145): Sets a berth's rule range and its pattern and state-block quotas. -/
  | strainerPartition (rq : Req)
  /-- STRAINER_PATTERN_STAGE (R143): Writes a chunk of a Chilin pattern image for a berth into staging. -/
  | strainerPatternStage (rq : Req)
  /-- STRAINER_PATTERN_COMMIT (R143): Checks the staged pattern image and installs it in every automaton unit, with a CONFIG record before its first scanned frame. -/
  | strainerPatternCommit (rq : Req)
  /-- STRAINER_BERTH_CONFIG (R140): Sets a berth's scan window, NOMATCH action and HANDLE_AGE. -/
  | strainerBerthConfig (rq : Req)
  /-- STRAINER_RULE_INSERT (R150): Inserts a rule at an index by a background block move of the following entries. -/
  | strainerRuleInsert (rq : Req)
  /-- STRAINER_RULE_DELETE (R151): Invalidates a rule and closes the hole by a background block move. -/
  | strainerRuleDelete (rq : Req)
  /-- STRAINER_RULE_WRITE (R156): Rewrites a used rule entry in place. -/
  | strainerRuleWrite (rq : Req)
  /-- STRAINER_LOOKUP_CMD (R147): Looks a given 41-byte key up in the berth's range and returns the lookup result. -/
  | strainerLookupCmd (rq : Req)
  /-- STRAINER_MATCH_NEXT (R149): Steps a match handle to the next matching entry in priority order, or returns END. -/
  | strainerMatchNext (rq : Req)
  /-- STRAINER_STATUS (R160): Returns the STRN registers and every berth's partition and pattern-set digest. -/
  | strainerStatus (rq : Req)
  /-- MOVE_STEP (R150): The move engine, given a free lookup slot, copies one rule entry to its neighbour and invalidates the source indivisibly, shifting live match contexts. -/
  | moveStep
  /-- TABLES_PARTITION (R171): Sets a berth's partition of one forwarding table. -/
  | tablesPartition (rq : Req)
  /-- TABLES_PROTECT (R176): Chooses flushing or sounding, REPAIR and the shadow address for a table, restarting any stopped sounding. -/
  | tablesProtect (rq : Req)
  /-- TABLES_BERTH_CONFIG (R161): Sets a berth's forwarding mode, miss actions, learning, default VLAN, flood group and L2_AGE. -/
  | tablesBerthConfig (rq : Req)
  /-- TABLES_L2_WRITE (R170): Adds a static L2 entry or deletes an entry. -/
  | tablesL2Write (rq : Req)
  /-- TABLES_ROUTE_WRITE (R179): Adds, replaces or deletes an IPv4 or IPv6 route so that every lookup sees the table before or after. -/
  | tablesRouteWrite (rq : Req)
  /-- TABLES_MCAST_WRITE (R167): Writes a multicast group's port mask and ring mask. -/
  | tablesMcastWrite (rq : Req)
  /-- TABLES_ECMP_WRITE (R166): Writes an ECMP group into fresh member slots and swings its group entry. -/
  | tablesEcmpWrite (rq : Req)
  /-- TABLES_LOOKUP (R185): Looks a key up in a berth's table without learning or setting HIT and returns result and hit status. -/
  | tablesLookup (rq : Req)
  /-- TABLES_STATUS (R185): Returns the FWD registers and every berth's table partitions and use. -/
  | tablesStatus (rq : Req)
  /-- QUEUEING_FERRY_WRITE (R186): Adds, replaces or deletes a ferry-gate entry within the berth's range, keeping launch sets consistent. -/
  | queueingFerryWrite (rq : Req)
  /-- QUEUEING_QUOTA (R191): Sets a berth's ferry range and its reservoir GUAR and MAX. -/
  | queueingQuota (rq : Req)
  /-- QUEUEING_QUEUE_CONFIG (R197): Sets a queue's SP or DRR mode, SAFE_STOP, QUANTUM and QMAX. -/
  | queueingQueueConfig (rq : Req)
  /-- QUEUEING_SHAPER (R199): Enables a queue or port shaper and sets its RATE, BURST and OVERHEAD, handling debt or FORGIVE. -/
  | queueingShaper (rq : Req)
  /-- QUEUEING_PAUSE_THRESH (R200): Sets the XOFF and XON thresholds of a port class or of Pause. -/
  | queueingPauseThresh (rq : Req)
  /-- QUEUEING_STATUS (R206): Returns the RSV registers and each berth's ferry range and cell holdings. -/
  | queueingStatus (rq : Req)
  /-- QUEUEING_RING_CONFIG (R413): Configures a berth's receive or transmit ring: SIZE, BASE, BUF_SIZE, RX_WAIT, moderation and TX_OK. -/
  | queueingRingConfig (rq : Req)
  /-- QUEUEING_RING_STATUS (R428): Returns a ring's size, indices, phase, ARM, TX_OK and counters. -/
  | queueingRingStatus (rq : Req)
  /-- RISK_PARTITION (R225): Sets a berth's account and instrument directory partitions and its Windlass element budgets. -/
  | riskPartition (rq : Req)
  /-- RISK_BERTH_CONFIG (R232): Sets a berth's gate, CHECK_HOLD, EXEMPT_OK, AUTO, FIRM_ON, STALE_ACTION, hold limits and headroom age. -/
  | riskBerthConfig (rq : Req)
  /-- RISK_ACCOUNT_WRITE (R236): Sets, deletes or adjusts an account entry between two verdicts. -/
  | riskAccountWrite (rq : Req)
  /-- RISK_INSTRUMENT_WRITE (R225): Sets or deletes an instrument entry. -/
  | riskInstrumentWrite (rq : Req)
  /-- RISK_POSITION_WRITE (R236): Sets, deletes or adjusts a position counter, clearing poison on set. -/
  | riskPositionWrite (rq : Req)
  /-- RISK_RELEASE (R238): Ends a held frame by rejecting it, judging it again, or accepting it without checks, then records and enqueues or frees it. -/
  | riskRelease (rq : Req)
  /-- RISK_FIRM_WRITE (R239): Sets FIRM_LIMIT of a firm group. -/
  | riskFirmWrite (rq : Req)
  /-- RISK_SCENARIO_STAGE (R241): Writes a chunk of the scenario matrix S. -/
  | riskScenarioStage (rq : Req)
  /-- RISK_WINDLASS_RUN (R242): Configures, starts at once or stops periodic runs of the berth's Windlass product. -/
  | riskWindlassRun (rq : Req)
  /-- RISK_STATUS (R249): Returns a berth's risk configuration, holdings, held-frame count, HEAD_AGE and per-group exposure and accumulators. -/
  | riskStatus (rq : Req)
  /-- FABRIC_LINK_CONFIG (R261): Sets a Crossing's recalibration mode, LINK_DOWN_TIME and VC weights. -/
  | fabricLinkConfig (rq : Req)
  /-- FABRIC_LINK_CTL (R271): Disables, enables, fast-retrains, restores to 4 lanes or recalibrates a Crossing. -/
  | fabricLinkCtl (rq : Req)
  /-- FABRIC_LINK_STATUS (R271): Returns a Crossing's registers and counters. -/
  | fabricLinkStatus (rq : Req)
  /-- FABRIC_CONFIG (R295): Sets root priority, root coordinate, box check, spare and express roles, TRANSIT and CONVERGE_LIMIT. -/
  | fabricConfig (rq : Req)
  /-- FABRIC_STATUS (R295): Returns the FAB registers, counters and the peer ID of each Crossing. -/
  | fabricStatus (rq : Req)
  /-- FABRIC_ROUTE_QUERY (R295): Returns output link, starting half, hop count and MID towards a destination on a VC. -/
  | fabricRouteQuery (rq : Req)
  /-- FABRIC_REDISCOVER (R295): Clears every device ID and restarts discovery across the fabric. -/
  | fabricRediscover (rq : Req)
  /-- COLLECTIVE_GROUP_CREATE (R298): Creates a collective group with a TAG, kind, extent and TIMEOUT. -/
  | collectiveGroupCreate (rq : Req)
  /-- COLLECTIVE_GROUP_DESTROY (R307): Destroys a group that has no pending operation. -/
  | collectiveGroupDestroy (rq : Req)
  /-- COLLECTIVE_START (R311): Posts a collective operation in a group and returns its OP_SEQ. -/
  | collectiveStart (rq : Req) (data : List Byte)
  /-- COLLECTIVE_ABORT (R308): Abandons a pending operation, ending it ABORTED and sending ABORT to ring successors. -/
  | collectiveAbort (rq : Req)
  /-- COLLECTIVE_STATUS (R311): Returns a group's kind, extent, next OP_SEQ and pending operations. -/
  | collectiveStatus (rq : Req)
  /-- RDMA_QUOTA (R317): Moves or resizes a berth's queue-pair and memory-region blocks. -/
  | rdmaQuota (rq : Req)
  /-- RDMA_MR_REG (R318): Registers a memory region with address, length, PD, access bits and KEY8 and returns its key. -/
  | rdmaMrReg (rq : Req)
  /-- RDMA_MR_DEREG (R327): Deregisters a memory region, effective at a packet boundary. -/
  | rdmaMrDereg (rq : Req)
  /-- RDMA_CQ_CREATE (R321): Creates a completion queue ring in host memory. -/
  | rdmaCqCreate (rq : Req)
  /-- RDMA_CQ_DESTROY (R321): Destroys a completion queue. -/
  | rdmaCqDestroy (rq : Req)
  /-- RDMA_QP_CREATE (R313): Creates a queue pair with its path, PD, CQs, ring depths and addresses. -/
  | rdmaQpCreate (rq : Req)
  /-- RDMA_QP_MODIFY (R334): Moves a queue pair through RESET, INIT, RTR, RTS or ERR, setting its connection parameters. -/
  | rdmaQpModify (rq : Req)
  /-- RDMA_QP_QUERY (R334): Returns a queue pair's state, settings, PSNs, window and retransmission count. -/
  | rdmaQpQuery (rq : Req)
  /-- RDMA_QP_DESTROY (R334): Destroys a queue pair in RESET or ERR. -/
  | rdmaQpDestroy (rq : Req)
  /-- RDMA_STATUS (R334): Returns RDMA_STATUS and the berth's blocks and their use. -/
  | rdmaStatus (rq : Req)
  /-- LEDGER_CONFIG (R340): Sets a berth's pressure policy, GAP_OK and SEAL_INTERVAL. -/
  | ledgerConfig (rq : Req)
  /-- LEDGER_STAGING (R353): Places and sizes the DRAM staging ring while no page is staged. -/
  | ledgerStaging (rq : Req)
  /-- LEDGER_SEAL_NOW (R353): Seals a berth's chain at once and returns the seal's SEQ once signed. -/
  | ledgerSealNow (rq : Req)
  /-- LEDGER_STATUS (R353): Returns a chain's last SEQ, seal SEQ and stamp, open page, last page hash, buffers and pressure state. -/
  | ledgerStatus (rq : Req)
  /-- LEDGER_DEVICE_CERT (R353): Returns the device certificate. -/
  | ledgerDeviceCert (rq : Req)
  /-- CISTERN_STATUS (R374): Returns both bays' registers, identity headers and the Cistern counters. -/
  | cisternStatus (rq : Req)
  /-- CISTERN_CONFIG (R367): Sets HK_SHARE and CAP_WARN. -/
  | cisternConfig (rq : Req)
  /-- CISTERN_SWAP (R364): Hands the ACTIVE role over to the STANDBY bay. -/
  | cisternSwap (rq : Req)
  /-- CISTERN_RELEASE (R374): Flushes and finishes a bay and makes it RELEASED, switching first if it is ACTIVE. -/
  | cisternRelease (rq : Req)
  /-- CISTERN_IDENTITY (R374): Returns a bay's 1,024-byte identity log page. -/
  | cisternIdentity (rq : Req)
  /-- CISTERN_RETIRE_CHALLENGE (R366): Obtains a 32-byte retire nonce from the cartridge. -/
  | cisternRetireChallenge (rq : Req) (hwFault : Bool)
  /-- CISTERN_RETIRE (R366): Passes the custodian-signed retire buffer; on a valid signature every zone is reset and the bay probes again. -/
  | cisternRetire (rq : Req) (hwFault : Bool)
  /-- CISTERN_READ (R374): Reads one 4,096-byte page from a cartridge. -/
  | cisternRead (rq : Req) (hwFault : Bool)
  /-- DRAM_CONFIG (R384): Sets a channel's SR_IDLE, PATROL_GAP and AUTO_RECOVER. -/
  | dramConfig (rq : Req)
  /-- DRAM_STATUS (R392): Returns a channel's registers and counters. -/
  | dramStatus (rq : Req)
  /-- DRAM_CAPTURE (R392): Returns the freeze capture registers and command history. -/
  | dramCapture (rq : Req)
  /-- DRAM_RECOVER (R389): Resets and retrains a frozen channel, poisoning the failing block. -/
  | dramRecover (rq : Req)
  /-- DRAM_READ (R392): Reads one 64-byte block and its ECC status; an uncorrectable read freezes the channel. -/
  | dramRead (rq : Req) (err : DramErr)
  /-- SUMP_SET_REACTION (R435): Sets the reaction bits and scope of a sump source. -/
  | sumpSetReaction (rq : Req)
  /-- SUMP_CLEAR (R434): Clears SUMP_STATUS bits and optionally re-arms, clearing SUMP_FIRST, SUMP_MERGED and the running reaction and releasing ERR_N. -/
  | sumpClear (rq : Req)
  /-- SUMP_SAFE_ENTER (R446): Enters the safe state with the given scope without raising an event. -/
  | sumpSafeEnter (rq : Req)
  /-- SUMP_SAFE_RELEASE (R441): Ends the safe state, flushing or resuming the stopped queues. -/
  | sumpSafeRelease (rq : Req)
  /-- SUMP_INJECT (R446): Raises a sump event as its block would, with KIND INJECTED. -/
  | sumpInject (rq : Req)
  /-- SUMP_STATUS (R446): Returns the SUMP registers and counters. -/
  | sumpStatus (rq : Req)
  /-- SUMP_CONFIG (R437): Sets CHIP_RST_DELAY. -/
  | sumpConfig (rq : Req)
  /-- POWER_DOMAIN (R449): Switches a power domain off or on once its precondition holds. -/
  | powerDomain (rq : Req)
  /-- DOMAIN_SWITCH_DONE (R449): A domain finishes switching off, or finishes ramp, local reset, BIST and isolation release on, and power.domain returns. -/
  | domainSwitchDone (d : Fin 144) (bistOk : Bool) (failMem : BitVec 16)
  /-- BANK_GROUP_OFF_TIMEOUT (R457): A bank group still holding cells 10 ms after its off command returns to the free list and the command returns TIMEOUT. -/
  | bankGroupOffTimeout (g : Fin 32)
  /-- POWER_STATUS (R464): Returns the PWR registers and counters. -/
  | powerStatus (rq : Req)
  /-- POWER_CHIP_RESET (R453): Returns OK, runs last gasp and then a chip reset. -/
  | powerChipReset (rq : Req)
  /-- POWER_THERM_CONFIG (R506): Sets WARN_TJ. -/
  | powerThermConfig (rq : Req)
  /-- POWER_GUARD_CONFIG (R80): Enables or disables the latency guard and sets its step, target, hysteresis, ceiling and fixed voltage. -/
  | powerGuardConfig (rq : Req)
  /-- POWER_GUARD_STATUS (R93): Returns PWR_GUARD_STATUS, PWR_LAT_BOUND, per-sentinel predictions and PWR_CONFLICT_US. -/
  | powerGuardStatus (rq : Req)
  /-- POWER_SET_CAP (R82): Sets POWER_CAP and the latency-first or cap-first mode. -/
  | powerSetCap (rq : Req)
  /-- COUNTERS_CONFIG (R467): Configures a programmable counter's event, filters, enable, clear and overflow stop. -/
  | countersConfig (rq : Req)
  /-- COUNTERS_SNAPSHOT (R469): Copies every programmable counter into SNAP on one edge, optionally clearing them on the same edge. -/
  | countersSnapshot (rq : Req)
  /-- COUNTERS_TELE_CONFIG (R470): Sets TELE_PERIOD of periodic telemetry. -/
  | countersTeleConfig (rq : Req)
  /-- COUNTERS_TELE_READ (R478): Returns a telemetry sample by age. -/
  | countersTeleRead (rq : Req)
  /-- TRACE_CONFIG (R471): Enables the instruction and flow streams, sets mode, flow sampling and berths, or clears the buffer. -/
  | traceConfig (rq : Req)
  /-- TRACE_READ (R478): Returns TRACE_WPTR and a run of trace packets. -/
  | traceRead (rq : Req)
  /-- TEST_PGC (R480): Starts, stops or clears a lane's pattern generator and checker with pattern, loopback and flags. -/
  | testPgc (rq : Req)
  /-- TEST_PGC_STATUS (R492): Returns a lane's PGC status and counters. -/
  | testPgcStatus (rq : Req) (errors : Nat)
  /-- TEST_MARGIN (R483): Offsets a lane's sampler in phase and voltage and starts counting for DWELL. -/
  | testMargin (rq : Req)
  /-- MARGIN_DWELL_END (R483): At the end of DWELL the offsets are restored and the point's errors and bits are returned. -/
  | marginDwellEnd (lane : Fin 96) (bits : BitVec 48) (errors : BitVec 48)
  /-- TEST_MBIST (R485): Takes a domain out of service, runs memory BIST and returns it to service or leaves it off on failure. -/
  | testMbist (rq : Req)
  /-- TAP_RESET (R486): TRST_N, five TCK cycles with TMS high, or VDD_AON power-up reset the TAP and select IDCODE. -/
  | tapReset
  /-- TAP_INSTRUCTION_LOAD (R487): A JTAG instruction is loaded, selecting BYPASS when it needs PORST_N asserted or is private on a locked part. -/
  | tapInstructionLoad (ir : JtagIr)
  /-- FRAME_START (R21): A frame's SFD passes a river port's ingress PCS: it is stamped, assigned to its berth and its header copy dispatched to a pump engine. -/
  | frameStart (p : Fin 64) (bytes : List Byte) (phase : Fin 32)
  /-- HOLDING_BUFFER_DISPATCH (R115): A header copy waiting in the manifold holding buffer is dispatched when a context frees. -/
  | holdingBufferDispatch
  /-- CELL_ALLOCATE (R191): As a frame's bytes arrive it takes the next reservoir cell from its berth's guarantee or the shared pool, or is dropped when none is free. -/
  | cellAllocate (f : Nat)
  /-- LAUNCH_LOOKUP (R23): Once the destination address has crossed the ingress landing, the ferry gate looks up the launch set and launches the frame on the ferry lane or refuses it. -/
  | launchLookup (f : Nat) (err : EccErr)
  /-- CONFIRM_COMPARE (R187): Once the VLAN and L4 bytes have arrived, the ferry gate checks them against the launch set. -/
  | confirmCompare (f : Nat)
  /-- OVERSIZE_CUT (R96): A frame that reaches 9,216 bytes without ending is ended there, counted oversize and treated as an FCS error. -/
  | oversizeCut (f : Nat)
  /-- INGRESS_FRAME_END (R27): A frame's last byte is received and its FCS checked; a runt is classed RUNT. -/
  | ingressFrameEnd (f : Nat) (fecCorr fecUncorr : Nat)
  /-- PARSE_COMMIT (R116): A pump engine ends parsing and hands the class, ORDER mark, keys, Weir fields and digest to the strainer and the Weir. -/
  | parseCommit (f : Nat)
  /-- FRAG_AGE_EXPIRY (R127): A fragment-table entry reaches FRAG_AGE and is freed. -/
  | fragAgeExpiry (k : Fin 4096)
  /-- STRAINER_LOOKUP (R147): At the later of commit and GROUPS ready, the rule table is searched in the berth's range and the result goes to the Weir. -/
  | strainerLookup (f : Nat)
  /-- HANDLE_AGE_EXPIRY (R148): A match context reaches HANDLE_AGE after allocation and is freed. -/
  | handleAgeExpiry (b : Fin 16) (slot : Fin 64)
  /-- WEIR_VERDICT (R234): At the later of commit and the strainer result, the Weir judges the order and applies its updates indivisibly with the verdict, which goes to the egress landing. -/
  | weirVerdict (f : Nat)
  /-- FORWARDING_RESULT (R175): After commit the forwarding tables are looked up and the result reaches the reservoir. -/
  | forwardingResult (f : Nat)
  /-- STOMP_DECISION (R31): At D a ferry frame's verdict or stomp reason is applied; with no verdict it is stomped LATE. -/
  | stompDecision (f : Nat)
  /-- ENQUEUE (R193): A reservoir frame with both verdict and forwarding result is enqueued, dropped on QMAX, sent to a Crossing, or dropped on REJECT. -/
  | enqueue (f : Nat)
  /-- EGRESS_SELECT (R197): At a frame boundary a port starts the next ferry, SP or DRR frame whose shapers allow, stamping its SFD. -/
  | egressSelect (p : Fin 64) (phase : Fin 32)
  /-- MATCHER_ROUND (R196): The central matcher runs a request-grant-accept round granting bank-group reads to quays. -/
  | matcherRound
  /-- EGRESS_FRAME_END (R198): A frame's transmission ends: shapers are charged, deficits updated and cells freed. -/
  | egressFrameEnd (p : Fin 64) (err : EccErr)
  /-- BANK_GROUP_FAIL (R203): A bank group with four uncorrectable errors within 1 ms or a self-check mismatch leaves service. -/
  | bankGroupFail (g : Fin 32) (cause : BankFault)
  /-- SETTLE_LIMIT_DROP (R104): A frame queued for a settling quad whose wait reaches PORT_SETTLE_LIMIT is dropped and recorded SETTLE_DROP. -/
  | settleLimitDrop (f : Nat)
  /-- ORDER_RECORD (R37): When an order-bearing frame's fate is final, its ORDER record is appended to its berth's chain. -/
  | orderRecord (f : Nat)
  /-- HOLD_TIMEOUT (R238): A held frame reaches HOLD_TIMEOUT and is rejected with HOLD_EXPIRED. -/
  | holdTimeout (f : Nat)
  /-- PUMP_FAIL (R133): A pump engine fails on parity, read-back or self-check, leaves rotation and its uncommitted frames are reparsed on another engine. -/
  | pumpFail (e : Fin 16) (kind : PumpFault)
  /-- GOLDEN_SELF_CHECK (R133): Every 1 ms the manifold runs the golden header through the next engine and compares the CRC. -/
  | goldenSelfCheck (crcOk : Bool)
  /-- PATCH_ENGINE_LOAD (R130): Once an engine's contexts have drained, it loads the staged image, verifies it, self-checks, writes CONFIG records and returns to rotation. -/
  | patchEngineLoad (checksOk : Bool)
  /-- PUMP_PATCH_STALL (R131): A CONFIG record not accepted within 10 ms stops the patch with that engine out of rotation. -/
  | pumpPatchStall
  /-- TABLE_BACKGROUND_ACCESS (R178): A table memory grants its background task an access, which flushes or sounds one word. -/
  | tableBackgroundAccess (t : Fin 7) (m : Fin 6) (err : EccErr) (same : Bool)
  /-- RULE_FLUSHING (R157): Background flushing reads one rule or automaton word per 4,096 lookup slots. -/
  | ruleFlushing (unit : Fin 4) (automaton : Bool) (err : EccErr)
  /-- DIRECTORY_FLUSHING (R245): Background flushing reads one Weir directory entry per 4,096 verdicts. -/
  | directoryFlushing (dir : WeirDir) (way : Nat) (err : EccErr)
  /-- L2_AGE_SWEEP (R173): Every L2_AGE ÷ 2 the ager clears HIT bits and removes dynamic entries whose HIT was already clear. -/
  | l2AgeSweep (b : Fin 16)
  /-- STRN_UNIT_FAIL (R158): A strainer unit failing self-check leaves service and its partner time-shares its ports. -/
  | strnUnitFail (u : Fin 4)
  /-- WINDLASS_PERIOD (R243): A periodic Windlass run falls due and starts, or is skipped when the previous run has not ended. -/
  | windlassPeriod (b : Fin 16)
  /-- OUTPUT_TILE_DONE (R242): An output tile's block products and residue check complete and it is handed off or kept. -/
  | outputTileDone (ix : Fin 4) (t : Fin 4) (residueOk : Bool)
  /-- EXPOSURE_INSTALL (R242): The reduced product yields E, which is installed with its snapshot stamp and LOCAL_PREV cleared. -/
  | exposureInstall
  /-- WIND_TILE_FAIL (R246): A Windlass tile fails and the remaining tiles recompute the tiles not yet handed off. -/
  | windTileFail (t : Fin 4)
  /-- INTERP_HANDOVER (R43): Every 10 ms the phase bus hands over to the freshly calibrated interpolator on a counter edge. -/
  | interpHandover (diffPs : Nat)
  /-- PPS_IN_EDGE (R49): A PPS_IN rising edge is accepted within PPS_WINDOW and aligned, or rejected and counted. -/
  | ppsInEdge (phase : Fin 32)
  /-- PPS_LOSS (R49): No PPS_IN edge for 1.5 s disqualifies PPS_IN. -/
  | ppsLoss
  /-- PTP_MESSAGE (R50): A PTP message received on a river port is processed by its instance, or discarded and counted when it uses an unsupported option. -/
  | ptpMessage (p : Fin 64) (bytes : List Byte) (phase : Fin 32)
  /-- PTP_RECEIPT_TIMEOUT (R67): The Announce receipt timeout expires or three sync intervals pass without Sync, and the PTP source is lost. -/
  | ptpReceiptTimeout (ix : Fin 4)
  /-- REF_IN_LOSS (R67): REF_IN departs by more than 100 ppm or is absent for 10 µs and is lost. -/
  | refInLoss
  /-- HOLDOVER_LIMIT (R53): Holdover time reaches HOLDOVER_LIMIT and the servo goes to FREE. -/
  | holdoverLimit
  /-- UTC_DAY_END (R47): At the end of the named UTC day the pending offset or leap is applied to TIDE_UTC. -/
  | utcDayEnd
  /-- PPS_OUT (R502): PPS_OUT and REF_OUT rise as the tide gauge's NS passes 0. -/
  | ppsOut
  /-- WITNESS_ROUND (R263): Every 1 ms each side of an UP Crossing sends W_REQ. -/
  | witnessRound (k : Fin 8) (phase : Fin 32)
  /-- W_REQ (R263): A received W_REQ is stamped and answered with W_RESP. -/
  | wReq (k : Fin 8) (bytes : List Byte) (phase : Fin 32)
  /-- W_RESP (R264): A received W_RESP is stamped and the peer offset and path delay are computed. -/
  | wResp (k : Fin 8) (bytes : List Byte) (phase : Fin 32)
  /-- WITNESS_MISSED (R264): W_RESP not arriving within 100 µs makes the round missed. -/
  | witnessMissed (k : Fin 8)
  /-- SENTINEL_READ (R78): Every 1 µs the guard reads the sentinels, forms P and steps VDD_CORE up or down. -/
  | sentinelRead (preds : List (BitVec 16))
  /-- LAT_BOUND_RETURN (R80): After P has stayed at or below target for 1 ms, LAT_BOUND returns to FERRY_LAT_TARGET. -/
  | latBoundReturn
  /-- POWER_READING (R82): Every 100 µs READ_POUT is summed and VCAP lowered or raised against POWER_CAP. -/
  | powerReading (watts : Nat)
  /-- GUARD_PMBUS (R90): A VOUT_COMMAND not acknowledged or not read back within 10 mV after 50 µs is retried and the guard freezes. -/
  | guardPmbus (acked : Bool)
  /-- SYNTH_DRAIN_DONE (R103): The last frame in transmission on a draining quad ends and settling begins. -/
  | synthDrainDone (q : Fin 16)
  /-- SYNTH_LOCK (R103): The quad synthesiser reports lock and each port sends idle for 2 µs. -/
  | synthLock (q : Fin 16)
  /-- SETTLE_RESUME (R103): After 2 µs of idle with no fault received, a port resumes starting frames. -/
  | settleResume (p : Fin 64)
  /-- SYNTH_LOCK_TIMEOUT (R110): A synthesiser not locked within 500 µs is retried, and after 3 retries the quad enters FAILED. -/
  | synthLockTimeout (q : Fin 16)
  /-- RP_RECAL_DUE (R106): Tj drift since last calibration reaches 50 °C or 80 °C and raises RP_RECAL_DUE or recalibrates the quad. -/
  | rpRecalDue (q : Fin 16)
  /-- RP_LINK_DOWN (R107): A port leaves UP on loss of block lock, hi_ber or a received fault. -/
  | rpLinkDown (p : Fin 64) (cause : LinkLoss)
  /-- LINK_UP_DEBOUNCE (R107): A port that has held clean block lock for LINK_UP_DEBOUNCE enters UP. -/
  | linkUpDebounce (p : Fin 64)
  /-- AN_RESTART (R97): With no shared ability, a copper port restarts auto-negotiation every 500 ms. -/
  | anRestart (p : Fin 64)
  /-- PAUSE_RECEIVE (R99): A received Pause or PFC frame is consumed and pauses or resumes the named traffic. -/
  | pauseReceive (p : Fin 64) (bytes : List Byte)
  /-- PAUSE_EXPIRE (R99): A received pause time runs out and the paused traffic resumes. -/
  | pauseExpire (p : Fin 64) (cls : Option (Fin 8))
  /-- PAUSE_REFRESH (R99): While a threshold condition lasts, a transmitted Pause or PFC frame is refreshed at half its quanta time. -/
  | pauseRefresh (p : Fin 64)
  /-- LPI_RECEIVE (R98): Received LPI is treated as idle and counted. -/
  | lpiReceive (p : Fin 64)
  /-- FLIT_RECEIVE (R257): A DATA flit arrives on a Crossing and is accepted in sequence or discarded with RETRY. -/
  | flitReceive (k : Fin 8) (bytes : List Byte) (bad : Nat)
  /-- CTRL_FLIT (R258): A received CTRL flit updates ACK and credits, starts a replay on RETRY, or suspends sending on HOLD. -/
  | ctrlFlit (k : Fin 8) (bytes : List Byte)
  /-- FLIT_SEND (R261): At each flit boundary the sender chooses replay, a due CTRL flit, BYP or a weighted VC. -/
  | flitSend (k : Fin 8) (phase : Fin 32)
  /-- CTRL_FLIT_DUE (R259): 64 ns with an unsent FREED advance or ACK makes a CTRL flit due. -/
  | ctrlFlitDue (k : Fin 8)
  /-- RETRY_RESEND (R257): 1 µs without the expected flit resends RETRY. -/
  | retryResend (k : Fin 8)
  /-- REPLAY_TIMEOUT (R258): 2 µs without an acknowledgement advance replays from the oldest unacknowledged flit. -/
  | replayTimeout (k : Fin 8)
  /-- TS_RECEIVE (R252): A TS set is received, teaching lane mapping, serial and RX_EXPECT, and completes training on DONE. -/
  | tsReceive (k : Fin 8) (lane : Fin 4) (bytes : List Byte)
  /-- QUIESCE_RECEIVE (R262): A received QUIESCE starts the peer's grace, suspending lane-failure and link-down detection and retry counting. -/
  | quiesceReceive (k : Fin 8)
  /-- QUIESCE_GRACE_END (R262): The peer's QUIESCE grace expires. -/
  | quiesceGraceEnd (k : Fin 8)
  /-- XL_RECAL_DUE (R262): Crossing temperature drift of 50 °C or 80 °C raises XL_RECAL_DUE or starts recalibration. -/
  | xlRecalDue (k : Fin 8)
  /-- XL_SYNTH_LOCK (R262): A recalibrating Crossing synthesiser locks and the direction fast-trains and resumes. -/
  | xlSynthLock (k : Fin 8)
  /-- LANE_FAIL (R266): A receive lane out of lock for 200 ns or with 32 sync-header errors in 10 µs fails; HOLD then DEGRADE are sent. -/
  | laneFail (k : Fin 8) (lane : Fin 4)
  /-- DEGRADE_RECEIVE (R266): A received DEGRADE moves the direction to a lane pair and starts fast training. -/
  | degradeReceive (k : Fin 8) (pair : Fin 2)
  /-- XL_LINK_DOWN (R268): A link is declared down after LINK_DOWN_TIME without lock or other causes, and its unacknowledged flits are settled by VC. -/
  | xlLinkDown (k : Fin 8)
  /-- FAST_TRAINING_TIMEOUT (R267): Fast training not completed within 1 ms declares the link down. -/
  | fastTrainingTimeout (k : Fin 8)
  /-- HAIL_SEND (R278): HAIL is sent on each UP link every 100 µs while discovering, every 1 ms otherwise. -/
  | hailSend
  /-- HAIL (R279): A received HAIL updates the best root candidate. -/
  | hail (k : Fin 8) (bytes : List Byte)
  /-- ROOT_ELECT (R279): After ELECT_QUIET without a better candidate, the best device becomes root and assigns coordinates. -/
  | rootElect
  /-- ADJ (R280): A received ADJ is relayed and added to the root's adjacency graph. -/
  | adj (k : Fin 8) (bytes : List Byte)
  /-- ASSIGN (R280): A received ASSIGN sets a device's coordinate and box and resets receivers' last MSG_ID for it. -/
  | assign (k : Fin 8) (bytes : List Byte)
  /-- LSA (R291): A received LSA with a higher epoch puts the device into CONVERGING and recomputes routes. -/
  | lsa (k : Fin 8) (bytes : List Byte)
  /-- INSTALLED_SEND (R291): 20 µs after the last LSA a converging device floods INSTALLED. -/
  | installedSend
  /-- INSTALLED (R291): The root receives INSTALLED and floods RESUME when all reachable devices have reported. -/
  | installed (k : Fin 8) (bytes : List Byte)
  /-- CONVERGE_LIMIT (R291): CONVERGE_LIMIT expires and the root floods RESUME. -/
  | convergeLimit
  /-- RESUME (R291): A received RESUME makes the Pumphouse resend returned messages and release held injection. -/
  | resume (k : Fin 8) (bytes : List Byte)
  /-- FABRIC_MESSAGE (R282): A routed fabric message is delivered, relayed, or ejected at its intermediate and re-injected. -/
  | fabricMessage (k : Fin 8) (vc : Fin 5) (half : Fin 2)
  /-- FAB_GAP (R288): A gap open for 1 ms or a full reorder store releases the lowest held message. -/
  | fabGap (src : Fin 1024) (vc : Fin 5)
  /-- COL_MESSAGE (R304): A received collective message is checked, reduced and forwarded, or waits in the early-arrival store. -/
  | colMessage (k : Fin 8) (bytes : List Byte)
  /-- EARLY_ARRIVAL_STALE (R304): A waiting early message whose operation has not started within TIMEOUT is discarded. -/
  | earlyArrivalStale (ix : Nat)
  /-- COLLECTIVE_TIMEOUT (R308): An expected message missing for TIMEOUT ends the operation and sends ABORT. -/
  | collectiveTimeout (slot : Fin 8)
  /-- WORK_REQUEST_FETCHED (R319): Work requests read from host memory arrive and the requester starts sending within its window. -/
  | workRequestFetched (q : Fin 4096) (recv : Bool) (wqes : List (List Byte)) (data : List (List Byte))
  /-- RDMA_PACKET (R322): A RoCEv2 or fabric RDMA packet is handled by responder or requester: placement, acknowledgement, NAK or completion. -/
  | rdmaPacket (via : PktVia) (bytes : List Byte) (data : List Byte)
  /-- RDMA_RETRANSMIT_TIMEOUT (R322): No acknowledgement advance for the timeout retransmits from the oldest unacknowledged PSN. -/
  | rdmaRetransmitTimeout (q : Fin 4096)
  /-- ACK_COALESCE_TIMEOUT (R322): An acknowledgement is sent 2 µs after the last packet it covers. -/
  | ackCoalesceTimeout (q : Fin 4096)
  /-- RNR_TIMER (R323): The RNR wait ends and the requester retries. -/
  | rnrTimer (q : Fin 4096)
  /-- RDMA_ENGINE_FAIL (R331): An uncorrectable context-memory error puts every queue pair of the engine into the error state. -/
  | rdmaEngineFail (e : Fin 2)
  /-- RDMA_SQ_DB (R333): A write to RDMA_SQ_DB posts send work requests up to the producer index. -/
  | rdmaSqDb (b : Fin 16) (v : BitVec 32)
  /-- RDMA_RQ_DB (R333): A write to RDMA_RQ_DB posts receive work requests up to the producer index. -/
  | rdmaRqDb (b : Fin 16) (v : BitVec 32)
  /-- RDMA_CQ_DB (R321): A write to RDMA_CQ_DB advances the CQ consumer index and optionally arms it. -/
  | rdmaCqDb (b : Fin 16) (v : BitVec 32)
  /-- RX_DOORBELL (R421): A receive-ring doorbell posts buffers up to the producer index and applies ARM, or is counted as DB_ERR. -/
  | rxDoorbell (b : Fin 16) (r : Fin 4) (v : BitVec 32)
  /-- TX_DOORBELL (R421): A transmit-ring doorbell posts descriptors up to the producer index and applies ARM, or is counted as DB_ERR. -/
  | txDoorbell (b : Fin 16) (r : Fin 4) (v : BitVec 32)
  /-- TX_DESC_FETCHED (R418): Transmit descriptors and data read from host memory arrive and the frame is queued, or written back with an error. -/
  | txDescFetched (b : Fin 16) (r : Fin 4) (desc : List Byte) (data : Option (List Byte))
  /-- HOST_DELIVERY (R422): A host queue is served in rotation and its frame is written into posted receive buffers. -/
  | hostDelivery (bufs : List (BitVec 64))
  /-- RX_WAIT_EXPIRY (R422): No buffer posted within RX_WAIT truncates the frame. -/
  | rxWaitExpiry (b : Fin 16) (r : Fin 4)
  /-- ITR_TIMER (R423): The oldest unsignalled writeback reaches ITR_US and an armed ring sends its MSI-X message. -/
  | itrTimer (tx : Bool) (b : Fin 16) (r : Fin 4)
  /-- SEAL_DUE (R340): A seal falls due for a chain and is written in the next two free slots. -/
  | sealDue (b : Fin 16)
  /-- PAGE_HASH_DONE (R346): A closed page's hash completes, allowing the next page's hash and seal. -/
  | pageHashDone (b : Fin 16)
  /-- SEAL_SIGNED (R339): A seal signature completes and is self-verified, closing its page. -/
  | sealSigned (b : Fin 16) (selfOk : Bool)
  /-- PAGE_WRITE (R342): A closed page leaves its buffer for the Cistern or the staging ring, oldest first. -/
  | pageWrite
  /-- ZONE_APPEND_COMPLETE (R357): A Zone Append completes, freeing its page buffer or staging slot. -/
  | zoneAppendComplete (n : Fin 2) (ix : Nat) (ok : Bool)
  /-- STAGING_READBACK (R347): A staged page is read back for the Cistern, or a LOST record is appended when it reads uncorrectable. -/
  | stagingReadback (err : EccErr)
  /-- LEDG_ENGINE_FAIL (R348): A ledger engine failing self-check hands all berths to the other engine. -/
  | ledgEngineFail (e : Fin 2)
  /-- BAY_INSERT (R361): CBn_PRSNT_N stable for 20 ms starts probing of the bay. -/
  | bayInsert (n : Fin 2)
  /-- PROBE_COMPLETE (R360): Probing checks end and the bay becomes ACTIVE, STANDBY or REFUSED. -/
  | probeComplete (n : Fin 2) (res : ProbeRes)
  /-- PROBE_LINK_TIMEOUT (R360): The bay link not trained within 100 ms refuses the cartridge. -/
  | probeLinkTimeout (n : Fin 2)
  /-- BAY_REMOVE (R364): CBn_PRSNT_N deasserts and the bay becomes EMPTY, switching if it was ACTIVE. -/
  | bayRemove (n : Fin 2)
  /-- LATCH_OPEN (R364): Opening the bay latch hands over or flushes and releases the bay. -/
  | latchOpen (n : Fin 2)
  /-- LATCH_CLOSE (R368): Closing the latch on a RELEASED bay starts probing again. -/
  | latchClose (n : Fin 2)
  /-- SWITCH_REISSUE (R364): 2 ms after a switch trigger, pages without a completion are reissued to the new bay. -/
  | switchReissue (n : Fin 2)
  /-- LIFE_READ (R363): Every 1 s LIFE_USED is read, raising life warnings or making the bay WORN. -/
  | lifeRead (n : Fin 2) (ident : List Byte)
  /-- ASYNC_EVENT (R369): A cartridge Asynchronous Event triggers a life read or puts the bay into FAULT on a media error. -/
  | asyncEvent (n : Fin 2) (mediaError : Bool) (ident : List Byte)
  /-- HK_PERIOD (R367): At each 100 ms period a housekeeping window is granted, or revoked when a page waits. -/
  | hkPeriod
  /-- ADMIN_TIMEOUT (R369): An admin command not completed in 1 s puts the bay into FAULT. -/
  | adminTimeout (n : Fin 2)
  /-- APPEND_STALL (R370): An append outside a housekeeping window taking over 1 ms is counted; 64 in 1 s raise CIST_HK_VIOLATION. -/
  | appendStall (n : Fin 2)
  /-- RETIRE_NONCE_EXPIRY (R366): A retire nonce expires 60 s after issue. -/
  | retireNonceExpiry (n : Fin 2)
  /-- BAY_LINK_LOSS (R371): Loss of a bay's PCIe link with the cartridge present acts as removal then insertion. -/
  | bayLinkLoss (n : Fin 2)
  /-- DRAM_REQUEST (R384): A client request reaches a DRAM channel and is served, waits for self-refresh exit, or freezes the channel on an uncorrectable error. -/
  | dramRequest (c : Fin 2) (client : DramClient) (write : Bool) (addr : BitVec 64) (data : List Byte) (err : DramErr)
  /-- SR_IDLE_EXPIRY (R384): A channel idle for SR_IDLE enters self-refresh. -/
  | srIdleExpiry (c : Fin 2)
  /-- SR_ENTRY_DONE (R388): Self-refresh entry completes, setting CONTENT_KEPT after a freeze or starting a waiting exit. -/
  | srEntryDone (c : Fin 2)
  /-- REFRESH (R383): tREFI expires and a same-bank refresh is issued. -/
  | refresh (c : Fin 2)
  /-- MR4_READ (R383): Every 100 µs MR4 of each rank is read and the refresh interval adjusted. -/
  | mr4Read (c : Fin 2) (hottest : Int) (aboveRated : Bool) (corrected : Nat)
  /-- PATROL_SCRUB (R381): Every PATROL_GAP the patrol reads one block and handles any error. -/
  | patrolScrub (c : Fin 2) (err : DramErr)
  /-- DRIFT_UPDATE (R385): Every 10 ms the channel reads its DQS oscillators and corrects drift. -/
  | driftUpdate (c : Fin 2)
  /-- SPEED_CHANGE_DONE (R382): A speed change completes and waiting requests proceed. -/
  | speedChangeDone (c : Fin 2)
  /-- AUTO_RECOVER_EXPIRY (R389): AUTO_RECOVER after a freeze starts recovery. -/
  | autoRecoverExpiry (c : Fin 2)
  /-- RECOVERY_DONE (R389): Controller reset and retraining complete; the channel is READY with the block poisoned, or FAILED. -/
  | recoveryDone (c : Fin 2) (trainedOk : Bool)
  /-- BOOT (R394): The boot ROM verifies and starts a firmware slot, or enters RECOVERY. -/
  | boot
  /-- STARTUP_COMPLETE (R455): Start-up steps finish and MBX_READY is set in every mailbox. -/
  | startupComplete (train : TrainRes)
  /-- SLOT_FALLBACK (R395): A newly preferred slot failing to reach MBX_READY within 120 ms is abandoned for the other slot. -/
  | slotFallback
  /-- HEARTBEAT (R409): Every 1 ms the firmware increments MBX_HEARTBEAT and serves the watchdog. -/
  | heartbeat (run : CoreRun)
  /-- WATCHDOG (R409): The watchdog unserved for 100 ms restarts the Pumphouse. -/
  | watchdog
  /-- PH_TRAP (R410): An unhandled firmware trap raises PH_TRAP and restarts the Pumphouse. -/
  | phTrap (cause : BitVec 64) (pc : BitVec 64)
  /-- PUMPHOUSE_IDLE (R474): The Pumphouse core enters WFI or idle after its stores are performed and IDLE_IN is traced. -/
  | pumphouseIdle (pc : BitVec 64)
  /-- PUMPHOUSE_WAKE (R474): The first instruction after idle, restart or chip reset retires and IDLE_OUT and SYNC are traced. -/
  | pumphouseWake (pc : BitVec 64)
  /-- ARBITRATION_LOST (R405): The Orkai loses I2C arbitration, finishes the byte as receiver and backs off. -/
  | arbitrationLost (bus : Fin 2)
  /-- ARBITRATION_BACKOFF_END (R405): The random back-off ends and the lost transaction is read back and retried. -/
  | arbitrationBackoffEnd (bus : Fin 2) (readBack : List Byte) (env : I2cEnd)
  /-- I2C_BUS_STUCK (R406): A bus held low for 25 ms is cleared with 9 clocks and a STOP. -/
  | i2cBusStuck (bus : Fin 2)
  /-- I2C_NAK_RETRY (R406): 1 ms after an address NAK the transaction is retried once. -/
  | i2cNakRetry (bus : Fin 2) (env : I2cEnd)
  /-- SUMP_LATCH (R434): The sump latches an event: sets its bit, captures or merges it and runs the reaction's immediate steps. -/
  | sumpLatch
  /-- HISTORY_WRITE (R432): The history writes the next pending entry and posts it to event rings. -/
  | historyWrite
  /-- BLOCK_RESET (R435): The Pumphouse applies the BLOCK_RST reaction to the named block. -/
  | blockReset
  /-- CHIP_RST_DELAY_EXPIRY (R437): CHIP_RST_DELAY expires and the chip reset falls. -/
  | chipRstDelayExpiry
  /-- KILL_N_ASSERT (R442): KILL_N assertion raises SUMP_KILL with SAFE of scope ORDERS. -/
  | killNAssert
  /-- KILL_N_RELEASE (R442): KILL_N release clears the KILL level without ending the safe state. -/
  | killNRelease
  /-- PWRFAIL_N_ASSERT (R458): PWRFAIL_N latches PWR_FAIL and last gasp begins with the safe state of scope ALL. -/
  | pwrfailNAssert
  /-- APPENDING_STOP (R349): 2 µs after the power-fail latch, appending stops, power-fail seals are written and all other domains switch off. -/
  | appendingStop
  /-- LAST_GASP_END (R458): Last gasp ends when no page waits, followed by a chip reset on a brown-out. -/
  | lastGaspEnd
  /-- PWRFAIL_N_RELEASE (R460): PWRFAIL_N deasserts with supplies held, making the event a brown-out. -/
  | pwrfailNRelease
  /-- PORST_N (R70): PORST_N resets everything, including the always-on domain, with no last gasp. -/
  | porstN
  /-- CHIP_RESET (R452): A chip reset clears everything outside the always-on domain and restarts start-up. -/
  | chipReset
  /-- PERST_N (R452): PERST_N resets the PCIe endpoint, mailboxes, event rings and berths' rings and queue pairs. -/
  | perstN
  /-- SUPPLY_FAULT (R450): A rail outside tolerance for 1 µs raises PWR_SUPPLY_FAULT. -/
  | supplyFault (rail : Fin 7) (high : Bool)
  /-- SENSOR_READING (R505): Every 100 µs the temperature sensors are read and Tj updated, acting on thermal thresholds and DRAM derating. -/
  | sensorReading (temps : List Int)
  /-- TELEMETRY_CAPTURE (R470): Every TELE_PERIOD the counters are captured and a sample written to the telemetry ring. -/
  | telemetryCapture
  /-- TRACE_LOST_PACKET (R471): When FIFO space returns after drops, one LOST packet carrying the count is written. -/
  | traceLostPacket
  /-- RP_BLOCK_LOCK (R107): A river port's receiver gains block lock without hi_ber or fault, starting the LINK_UP_DEBOUNCE wait, or fault sequences start or stop, moving the port between DOWN, TRAINING and FAULT. -/
  | rpBlockLock (p : Fin 64) (ev : LockEv)
  /-- AN_COMPLETE (R97): Clause 73 auto-negotiation on a copper port resolves with its partner and the resolved link training completes, setting AN_DONE. -/
  | anComplete (p : Fin 64) (fec : Fin 4)
  /-- XL_LANE_LOCK (R265): A Crossing receive lane acquires CDR and block lock, starting full training when the signal returns or fast training when lock returns within LINK_DOWN_TIME. -/
  | xlLaneLock (k : Fin 8) (lane : Fin 4)
  /-- XL_SYNTH_TIMEOUT (R262): A recalibrating Crossing synthesiser that has not locked within 500 µs is retried, and after 3 retries fails and the link is declared down. -/
  | xlSynthTimeout (k : Fin 8)
  /-- SR_EXIT_DONE (R384): A DRAM channel's self-refresh exit completes and the requests waiting for it are issued. -/
  | srExitDone (c : Fin 2)
  /-- PCIE_LINK_DOWN (R429): The host PCIe link goes down or reports a fatal error, raising PCIE_LINK_DOWN or PCIE_FATAL on the PCIE sump source. -/
  | pcieLinkDown (fatal : Bool)
  /-- DESTROY_SEAL_TIMEOUT (R220): 20 ms after berth.destroy began, a final seal not yet written leaves the berth in CLOSING with its key kept and the command returns TIMEOUT. -/
  | destroySealTimeout (b : Fin 16)
  /-- PGC_LOCK (R480): A lane's PGC checker becomes LOCKED after 256 consecutive correct bits, or loses lock on 64 errored bits within 1,024 and counts LOCK_LOSS. -/
  | pgcLock (lane : Fin 96) (lost : Bool) (errors : Nat)
  /-- PTP_SYNC_INTERVAL (R50): At each logSyncInterval or logAnnounceInterval a PTP instance acting as time transmitter or boundary clock sends Sync, Follow_Up or Announce, and a receiver sends Delay_Req or Pdelay_Req. -/
  | ptpSyncInterval (ix : Fin 4) (announce : Bool) (phase : Fin 32)
  /-- REF_IN_RETURN (R52): REF_IN returns within 100 ppm of nominal and again holds frequency, so SOURCE in HOLDOVER reads REF_IN and HOLD_RATE takes the REF_IN value. -/
  | refInReturn
  deriving DecidableEq, Repr

end Sys2Proof
end

