-- ==== Sys2Proof/Machine/Bits.lean ====
section
/-! DEFINITION. Byte order, bit fields and signed values. -/

namespace Sys2Proof

/-- The n low bytes of a number, little-endian (00_scope.md R7). -/
def leBytes : Nat → Nat → List Byte
  | 0, _ => []
  | n + 1, v => BitVec.ofNat 8 v :: leBytes n (v / 256)

/-- The number a little-endian byte string spells. -/
def leNat : List Byte → Nat
  | [] => 0
  | b :: bs => b.toNat + 256 * leNat bs

/-- The number a byte string in network order spells. -/
def beNat (bs : List Byte) : Nat := leNat bs.reverse

/-- The n low bytes of a number in network order. -/
def beBytes (n v : Nat) : List Byte := (leBytes n v).reverse

/-- n zero bytes. -/
def zeros (n : Nat) : List Byte := List.replicate n 0

/-- n bytes from an offset; bytes past the end read 0. -/
def sliceBytes (bs : List Byte) (off n : Nat) : List Byte :=
  let t := (bs.drop off).take n
  t ++ zeros (n - t.length)

/-- The little-endian field of n bytes at an offset. -/
def fieldLe (bs : List Byte) (off n : Nat) : Nat := leNat (sliceBytes bs off n)

/-- The field of n bytes in network order at an offset. -/
def fieldBe (bs : List Byte) (off n : Nat) : Nat := beNat (sliceBytes bs off n)

/-- One byte at an offset; past the end it reads 0. -/
def byteAt (bs : List Byte) (off : Nat) : Nat := (bs.getD off 0).toNat

/-- A byte string cut or zero-filled to n bytes. -/
def padTo (n : Nat) (bs : List Byte) : List Byte := sliceBytes bs 0 n

/-- A byte string with the bytes from an offset overwritten. -/
def overwrite (bs : List Byte) (off : Nat) (new : List Byte) : List Byte :=
  bs.take off ++ new ++ bs.drop (off + new.length)

/-- Bit i of a number. -/
def bitOf (v i : Nat) : Bool := (v >>> i) % 2 == 1

/-- Bits [hi:lo] of a number. -/
def bitsOf (v hi lo : Nat) : Nat := (v >>> lo) % 2 ^ (hi - lo + 1)

/-- 1 or 0. -/
def bitNat (b : Bool) : Nat := if b then 1 else 0

/-- The value of an n-bit two's-complement field. -/
def signedOf (n v : Nat) : Int := if v % 2 ^ n < 2 ^ (n - 1) then (v % 2 ^ n : Nat) else ((v % 2 ^ n : Nat) : Int) - 2 ^ n

/-- An integer as an n-bit two's-complement field. -/
def unsignedOf (n : Nat) (v : Int) : Nat := (v % (2 ^ n : Nat)).toNat

/-- Where an integer is clamped to a range. -/
def clampInt (lo hi v : Int) : Int := if v < lo then lo else if hi < v then hi else v

/-- A counter of this manual, one up (22_counters_trace.md R465: 48 bits, wrapping). -/
def bump (c : BitVec 48) : BitVec 48 := c + 1

/-- A counter, n up. -/
def bumpBy (c : BitVec 48) (n : Nat) : BitVec 48 := c + BitVec.ofNat 48 n

/-- A counter in its 64-bit slot, as a command returns it. -/
def slotBytes (c : BitVec 48) : List Byte := leBytes 8 c.toNat

/-- Counters in their 64-bit slots, in order. -/
def slotsBytes (cs : List (BitVec 48)) : List Byte := (cs.map slotBytes).flatten

/-- Set bits of a number below n, in rising order. -/
def setBits (n v : Nat) : List Nat := (List.range n).filter (bitOf v)

/-- A 0/1 mask of the indices below n that satisfy a test. -/
def maskOf (n : Nat) (p : Nat → Bool) : Nat := (List.range n).foldl (fun a i => if p i then a + 2 ^ i else a) 0

/-- The mask v with bit i set or cleared. -/
def setBit (v i : Nat) (b : Bool) : Nat := if bitOf v i = b then v else if b then v + 2 ^ i else v - 2 ^ i

end Sys2Proof
end

