-- ==== Sys2Proof/Config.lean ====
section
/-! DEFINITION. What the manual leaves to the part or leaves open: uninterpreted constants, of which nothing can be proved
but that they are functions of their arguments. -/

namespace Sys2Proof.Config

/-- The n-th draw of the internal random source, and every other value the manual leaves open (log entry 7). -/
opaque freeNat : Nat → Nat

/-- Bytes of the n-th draw. -/
opaque freeByte : Nat → Nat → Byte

/-- The device serial of this part (15_ledger.md Table 15.3, R341). -/
opaque deviceSerial : BitVec 64

/-- The device certificate, DER (15_ledger.md R341). -/
opaque deviceCert : List Byte

/-- The DER certificate of a berth key (15_ledger.md R341): berth, public key, chain id, and the UTC second of creation when known. -/
opaque berthCert : Nat → List Byte → List Byte → Option Nat → List Byte

/-- Whether a DER certificate chains to the Porrecia root and certifies the key (16_cistern.md R360). -/
opaque certChains : List Byte → List Byte → Bool

/-- The Ed25519 public key of the private key drawn as number n (RFC 8032). -/
opaque edPublic : Nat → List Byte

/-- Pure Ed25519 signature by the private key drawn as number n. -/
opaque edSign : Nat → List Byte → List Byte

/-- Pure Ed25519 verification: key, message, signature. -/
opaque edVerify : List Byte → List Byte → List Byte → Bool

/-- FW_KEY_HASH, fused (18_pumphouse.md R394). -/
opaque fwKeyHash : List Byte

/-- The trim of the tide-gauge step that begins at an instant, in fs, beyond the slew the rules give (02_tide_gauge.md R45, log entry 3). -/
opaque trimFs : Nat → Int

/-- Fused lane calibration: port, egress or not, rate, FEC mode, the 16 sensor readings; in units of 2^-6 ns (02_tide_gauge.md R58). -/
opaque laneDelay : Nat → Bool → Nat → Nat → List Int → Int

/-- The clockIdentity of a PTP instance (IEEE 1588-2019; the manual gives none). -/
opaque clockId : Nat → List Byte

/-- Patterns of a pattern image; its format is the linker's (06_strainer.md R143). -/
opaque setPatterns : List Byte → Nat

/-- State blocks a pattern image needs, stride-1 and stride-4 together (06_strainer.md R143). -/
opaque setBlocks : List Byte → Nat

/-- GROUPS of a scan: the pattern image, stride 4 or not, the window (06_strainer.md R141). -/
opaque groupsOf : List Byte → Bool → List Byte → Nat

/-- The source MAC address of a river port's own frames (the manual gives none). -/
opaque portMac : Nat → List Byte

/-- Fused ferry-lane latency at a VCODE, at the worst temperature of the rated range, in 10 ps (03_self_timed_core.md R86). -/
opaque fusedLatency : Nat → Nat

/-- Rank, bank group, bank, row and column of a 64-byte block of a channel, as bits [38:5] of a history entry: the channel's capacity in GiB,
the block's number (17_dram.md Table 17.6; the manual does not give the address mapping). -/
opaque dramPlace : Nat → Nat → Nat

end Sys2Proof.Config
end

