-- ==== Sys2Proof/Machine/Operands.lean ====
section
/-! DEFINITION. The operand forms: the fields of a mailbox request's parameters, and the fields of a register word. -/

namespace Sys2Proof

/-- The fields of the request's payload. -/
def Req.u8 (rq : Req) (off : Nat) : Nat := byteAt rq.payload off

/-- A 2-byte field. -/
def Req.u16 (rq : Req) (off : Nat) : Nat := fieldLe rq.payload off 2

/-- A 4-byte field. -/
def Req.u32 (rq : Req) (off : Nat) : Nat := fieldLe rq.payload off 4

/-- An 8-byte field. -/
def Req.u64 (rq : Req) (off : Nat) : Nat := fieldLe rq.payload off 8

/-- A signed field of n bytes. -/
def Req.int (rq : Req) (off n : Nat) : Int := signedOf (8 * n) (fieldLe rq.payload off n)

/-- n bytes of the parameters from an offset. -/
def Req.bytes (rq : Req) (off n : Nat) : List Byte := sliceBytes rq.payload off n

/-- Bit i of the byte at an offset. -/
def Req.bit (rq : Req) (off i : Nat) : Bool := bitOf (rq.u8 off) i

/-- A field of a register word: its value and its lowest bit. -/
def wordOf (fields : List (Nat × Nat)) : Nat := fields.foldl (fun a f => a + f.1 * 2 ^ f.2) 0

end Sys2Proof
end

