-- ==== Sys2Proof/Machine/CoreState.lean ====
section
/-! DEFINITION. State of the mailboxes, the Pumphouse, the tide gauge, the latency guard and the river ports. -/

namespace Sys2Proof.Machine

/-- Mailbox of one PCIe function (fn 0 = PF0, fn 1+n = VFn). -/
structure Mbx where
  /-- 18_pumphouse.md R397 Table 18.3 BUSY. -/
  busy : Bool := false
  /-- 18_pumphouse.md R397 Table 18.3 RESP_VALID. -/
  respValid : Bool := false
  /-- 18_pumphouse.md R397 Table 18.3 OVERRUN (RW1C). -/
  overrun : Bool := false
  /-- 18_pumphouse.md Table 18.3 request area (RW). -/
  reqArea : Tab (BitVec 8) := []
  /-- 18_pumphouse.md R397 OPCODE of the accepted request. -/
  reqOp : BitVec 16 := 0
  /-- 18_pumphouse.md R397 SEQ of the accepted request. -/
  reqSeq : BitVec 32 := 0
  /-- 18_pumphouse.md R397 NOTIFY of the accepted request. -/
  reqNotify : Bool := false
  /-- 18_pumphouse.md Table 18.3 response area (header, then payload; bytes past its end read 0). -/
  resp : List (BitVec 8) := []
  /-- 18_pumphouse.md R401 MBX_EVT_PROD. -/
  evtProd : BitVec 16 := 0
  /-- 18_pumphouse.md R401 MBX_EVT_CONS. -/
  evtCons : BitVec 16 := 0
  /-- 18_pumphouse.md R401 MBX_EVT_LOST (RC). -/
  evtLost : BitVec 32 := 0
  /-- 18_pumphouse.md R401 number lost since the last EVT_LOST entry. -/
  lostSince : BitVec 32 := 0
  /-- 18_pumphouse.md Table 18.6 ESEQ of the next event. -/
  eseq : BitVec 32 := 0
  /-- 18_pumphouse.md Table 18.6 event ring. -/
  ring : Tab EventEntry := []
  /-- 18_pumphouse.md R401 an MSI-X message has been sent since the host last wrote MBX_EVT_CONS. -/
  msgSent : Bool := false
  deriving DecidableEq, Repr


/-- One board-management bus (0 BM0, 1 BM1). -/
structure I2cBus where
  /-- 18_pumphouse.md R404 R405 transaction in progress. -/
  txn : Option I2cTxn := none
  /-- 18_pumphouse.md R405 retries made of the transaction in progress. -/
  retries : Nat := 0
  /-- 18_pumphouse.md R405 waiting out the random back-off. -/
  backoff : Bool := false
  /-- 18_pumphouse.md R406 the one retry after an address NAK has been made. -/
  nakRetried : Bool := false
  /-- 18_pumphouse.md PH_I2C_ARB_LOST of the bus. -/
  arbLost : BitVec 48 := 0
  deriving DecidableEq, Repr


/-- The Pumphouse, its firmware slots and its buses. -/
structure Ph where
  /-- 18_pumphouse.md R411 MBX_STATUS.READY. -/
  ready : Bool := false
  /-- 18_pumphouse.md R394 MBX_STATUS.RECOVERY. -/
  recovery : Bool := false
  /-- 18_pumphouse.md R396 MBX_STATUS.BOARD_BAD. -/
  boardBad : Bool := false
  /-- 18_pumphouse.md Table 18.3 MBX_STATUS.SLOT. -/
  slot : BitVec 1 := 0
  /-- 18_pumphouse.md R394 a firmware slot has been started. -/
  running : Bool := false
  /-- 18_pumphouse.md R409 MBX_STATUS.RESTARTS. -/
  restarts : BitVec 8 := 0
  /-- 18_pumphouse.md R409 PH_RESTART is to be posted once READY returns. -/
  restartEvent : Bool := false
  /-- 18_pumphouse.md Table 18.3 MBX_HEARTBEAT. -/
  heartbeat : BitVec 32 := 0
  /-- 18_pumphouse.md R402 PH_FETCH_DISCARD. -/
  fetchDiscard : BitVec 48 := 0
  /-- 18_pumphouse.md R410 PH_TRAPS. -/
  traps : BitVec 48 := 0
  /-- 18_pumphouse.md R406 PH_I2C_STUCK. -/
  i2cStuck : BitVec 48 := 0
  /-- 18_pumphouse.md R406 PH_I2C_NAK. -/
  i2cNak : BitVec 48 := 0
  /-- 18_pumphouse.md PH_MBX_OVERRUN. -/
  mbxOverrun : BitVec 48 := 0
  /-- 18_pumphouse.md R403 store buffer, oldest first. -/
  storeBuf : List (Nat × BitVec 64) := []
  /-- 18_pumphouse.md R403, 22_counters_trace.md R474 the core is in WFI or idle. -/
  idle : Bool := false
  /-- 22_counters_trace.md Table 22.3 cause given by the last IDLE_IN. -/
  idleCause : BitVec 8 := 0
  /-- 18_pumphouse.md Table 18.11 staging area of system.fw_stage. -/
  staging : Tab (BitVec 8) := []
  /-- 17_dram.md R377 the channel that holds the Pumphouse region. -/
  region : Option Nat := none
  /-- 18_pumphouse.md R404 buses BM0 and BM1. -/
  bus : Tab I2cBus := []
  /-- 18_pumphouse.md R396 board descriptor in use. -/
  desc : BoardDesc := {}
  deriving DecidableEq, Repr


/-- Fuses and the QSPI NOR, which no reset changes. -/
structure Fuse where
  /-- 18_pumphouse.md R394 fused rollback count. -/
  rollback : BitVec 32 := 0
  /-- 05_pumps.md R138 PATCH_LOCK. -/
  patchLock : Bool := false
  /-- 23_test.md R487 TEST_LOCK. -/
  testLock : Bool := true
  /-- 18_pumphouse.md R395 the preferred slot is newly preferred and has not yet set MBX_READY. -/
  fresh : Bool := false
  /-- 18_pumphouse.md Table 18.1 QSPI NOR content. -/
  flash : Tab (BitVec 8) := factoryFlash
  /-- DESIGN CHOICE (log entry 9): bit n: what slot n holds passes steps 1 and 3 of R394, as found when it was written. -/
  authentic : BitVec 2 := 1
  deriving DecidableEq, Repr


/-- MSI-X table and pending bits of one function. -/
structure Msix where
  /-- 25_interface_index.md R511 MSI-X table. -/
  table : Tab (BitVec 32) := []
  /-- 25_interface_index.md R511 pending bit array. -/
  pba : Tab Bool := []
  deriving DecidableEq, Repr


/-- One PTP instance (4 of them). -/
structure PtpInst where
  /-- 02_tide_gauge.md R50 time.ptp_config has configured the instance. -/
  configured : Bool := false
  /-- 02_tide_gauge.md Table 02.11 DOMAIN. -/
  domain : BitVec 8 := 0
  /-- 02_tide_gauge.md Table 02.11 TYPE. -/
  ctype : BitVec 2 := 0
  /-- 02_tide_gauge.md Table 02.11 DELAY. -/
  p2p : Bool := false
  /-- 02_tide_gauge.md Table 02.11 TRANSPORT. -/
  transport : BitVec 2 := 0
  /-- 02_tide_gauge.md Table 02.11 STEP. -/
  oneStep : Bool := false
  /-- 02_tide_gauge.md Table 02.11 LOG_SYNC. -/
  logSync : Int := 0
  /-- 02_tide_gauge.md Table 02.11 LOG_ANN. -/
  logAnn : Int := 0
  /-- 02_tide_gauge.md Table 02.11 PORTS. -/
  ports : BitVec 64 := 0
  /-- 02_tide_gauge.md Table 02.11 PRIO1. -/
  prio1 : BitVec 8 := 0
  /-- 02_tide_gauge.md Table 02.11 PRIO2. -/
  prio2 : BitVec 8 := 0
  /-- 02_tide_gauge.md R50 BMCA result: port identity of the selected time transmitter. -/
  parent : Option (List (BitVec 8)) := none
  /-- 02_tide_gauge.md R50 BMCA (9.3) comparison key of the selected time transmitter. -/
  parentKey : List Nat := []
  /-- 02_tide_gauge.md R50 ingress stamp of the last Sync awaiting its Follow_Up. -/
  syncTs : Option Nat := none
  /-- 02_tide_gauge.md R50 sequenceId of that Sync. -/
  syncSeq : BitVec 16 := 0
  /-- 02_tide_gauge.md R50 correctionField of that Sync. -/
  syncCorr : Int := 0
  /-- 02_tide_gauge.md R50 sequenceId of the next Sync sent. -/
  txSeq : BitVec 16 := 0
  /-- 02_tide_gauge.md R50 sequenceId of the next Announce sent. -/
  annSeq : BitVec 16 := 0
  /-- 02_tide_gauge.md R50 sequenceId of the next Delay_Req or Pdelay_Req sent. -/
  reqSeq : BitVec 16 := 0
  /-- 02_tide_gauge.md R50 egress stamp of the last Delay_Req or Pdelay_Req. -/
  reqTs : Option Nat := none
  /-- 02_tide_gauge.md R50 receipt stamps carried by a two-step Pdelay_Resp. -/
  respTs : Option (Nat × Nat) := none
  /-- 02_tide_gauge.md R50 mean path delay, in units of 2^-16 ns. -/
  meanDelay : Int := 0
  /-- 02_tide_gauge.md R50 origin of the last Sync, in units of 2^-16 ns. -/
  t1 : Int := 0
  /-- 02_tide_gauge.md R50 receipt of the last Sync, in units of 2^-16 ns. -/
  t2 : Int := 0
  deriving DecidableEq, Repr


/-- The tide gauge. -/
structure Tide where
  /-- 02_tide_gauge.md R45 R70 the counter (SEC, NS and the fraction). -/
  nowFs : Nat := 0
  /-- 02_tide_gauge.md R71 TIDE_NOW_SEC as latched. -/
  latSec : BitVec 48 := 0
  /-- 02_tide_gauge.md R71 TIDE_NOW_FRAC as latched. -/
  latFrac : BitVec 16 := 0
  /-- 02_tide_gauge.md R52 Table 02.5 EPOCH. -/
  epoch : BitVec 24 := 0
  /-- 02_tide_gauge.md Table 02.5 SOURCE. -/
  source : BitVec 4 := 0
  /-- 02_tide_gauge.md R52 STATE. -/
  st : Servo := .free
  /-- 02_tide_gauge.md Table 02.8 TIDE_UTC.OFFSET. -/
  utcOffset : BitVec 16 := 0
  /-- 02_tide_gauge.md Table 02.8 TIDE_UTC.LEAP61. -/
  leap61 : Bool := false
  /-- 02_tide_gauge.md Table 02.8 TIDE_UTC.LEAP59. -/
  leap59 : Bool := false
  /-- 02_tide_gauge.md Table 02.8 TIDE_UTC.VALID. -/
  utcValid : Bool := false
  /-- 02_tide_gauge.md R47 offset to be applied at the end of a named UTC day. -/
  pendUtc : Option (BitVec 16 × Nat) := none
  /-- 02_tide_gauge.md Table 02.8 TIDE_HOLDOVER_COUNT. -/
  holdoverCount : BitVec 48 := 0
  /-- 02_tide_gauge.md Table 02.8 TIDE_STATE_CHANGES. -/
  stateChanges : BitVec 48 := 0
  /-- 02_tide_gauge.md Table 02.8 TIDE_PPS_REJECT. -/
  ppsReject : BitVec 48 := 0
  /-- 02_tide_gauge.md R43 interpolator B selected. -/
  selB : Bool := false
  /-- 02_tide_gauge.md R68 interpolator A failed. -/
  failA : Bool := false
  /-- 02_tide_gauge.md R68 interpolator B failed. -/
  failB : Bool := false
  /-- 02_tide_gauge.md Table 02.10 PHASE. -/
  phase : BitVec 4 := 0
  /-- 02_tide_gauge.md Table 02.10 FREQ. -/
  freq : BitVec 4 := 0
  /-- 02_tide_gauge.md Table 02.10 REF_MHZ. -/
  refMhz : BitVec 8 := 0
  /-- 02_tide_gauge.md Table 02.10 PTP_INST. -/
  ptpInst : BitVec 8 := 0
  /-- 02_tide_gauge.md Table 02.7 REF_UNC, ps. -/
  refUnc : BitVec 32 := 50000
  /-- 02_tide_gauge.md Table 02.7 PPS_WINDOW, ns. -/
  ppsWindow : BitVec 32 := 1000
  /-- 02_tide_gauge.md Table 02.7 LOCK_THRESH, ns. -/
  lockThresh : BitVec 16 := 20
  /-- 02_tide_gauge.md Table 02.7 LOCK_COUNT. -/
  lockCount : BitVec 16 := 16
  /-- 02_tide_gauge.md R56 HOLD_RATE as time.set_holdover gave it. -/
  holdRateSet : Option (BitVec 32) := none
  /-- 02_tide_gauge.md R56 HOLD_AGE. -/
  holdAge : BitVec 32 := 0
  /-- 02_tide_gauge.md Table 02.7 HOLDOVER_LIMIT, s. -/
  holdLimit : BitVec 32 := 86400
  /-- 02_tide_gauge.md Table 02.7 STEP_THRESH, ns. -/
  stepThresh : BitVec 32 := 1000
  /-- 02_tide_gauge.md R67 REF_IN present and within 100 ppm. -/
  refPresent : Bool := false
  /-- 02_tide_gauge.md R54 instant of the entry to HOLDOVER from which holdover time counts. -/
  holdStart : Option Nat := none
  /-- 02_tide_gauge.md R54 holdover time has not reached HOLDOVER_LIMIT. -/
  holdLeft : Bool := false
  /-- 02_tide_gauge.md R56 the bound accrued up to holdRateFrom, ps. -/
  holdBound : Nat := 0
  /-- 02_tide_gauge.md R56 R67 instant from which the present HOLD_RATE grows the bound. -/
  holdRateFrom : Nat := 0
  /-- 02_tide_gauge.md R67 REF_IN was lost in this HOLDOVER, so HOLD_RATE has the no-REF_IN value. -/
  holdNoRef : Bool := false
  /-- 02_tide_gauge.md Table 02.6 the state before ACQUIRE was HOLDOVER. -/
  acqFromHold : Bool := false
  /-- 02_tide_gauge.md R56 magnitudes of the last 64 servo offsets, newest first, ps. -/
  offsets : List Nat := []
  /-- 02_tide_gauge.md Table 02.6 the offset of the last servo update (frequency error is taken between successive ones). -/
  lastOffset : Int := 0
  /-- 02_tide_gauge.md Table 02.6 instant of the last servo update. -/
  lastUpdate : Option Nat := none
  /-- 02_tide_gauge.md Table 02.6 consecutive good updates. -/
  goodUpdates : Nat := 0
  /-- 02_tide_gauge.md R55 offset still to be slewed. -/
  slewFs : Int := 0
  /-- 02_tide_gauge.md R49 consecutive rejected PPS_IN edges. -/
  ppsBad : Nat := 0
  /-- 02_tide_gauge.md R53 the phase source is qualified. -/
  qualified : Bool := false
  /-- 02_tide_gauge.md R66 TAI second given for the next PPS_IN edge. -/
  taiNext : Option (BitVec 48) := none
  /-- 02_tide_gauge.md Table 02.7 DISSENT_LIMIT, ns. -/
  dissentLimit : BitVec 16 := 20
  /-- 02_tide_gauge.md Table 02.11 ASYM_PS of XLk. -/
  asym : Tab Int := []
  /-- 02_tide_gauge.md R60 bit k: dissent raised on XLk. -/
  dissent : BitVec 8 := 0
  /-- 02_tide_gauge.md R60 consecutive exchanges beyond DISSENT_LIMIT. -/
  overRun : Tab Nat := []
  /-- 02_tide_gauge.md R60 consecutive exchanges within DISSENT_LIMIT. -/
  withinRun : Tab Nat := []
  /-- 02_tide_gauge.md R58 ING_PS. -/
  ingDelay : Tab Int := []
  /-- 02_tide_gauge.md R58 EGR_PS. -/
  egrDelay : Tab Int := []
  /-- 02_tide_gauge.md R50 PTP instances. -/
  ptp : Tab PtpInst := []
  deriving DecidableEq, Repr


/-- The latency guard. -/
structure Guard where
  /-- 03_self_timed_core.md Table 03.4 VCODE. -/
  vcode : BitVec 8 := 0
  /-- 18_pumphouse.md R404 the VDD_CORE regulator has an unsupported VOUT_MODE and is never written. -/
  voutBad : Bool := false
  /-- 03_self_timed_core.md Table 03.4 PRED, 10 ps. -/
  pred : BitVec 10 := 0x3FF
  /-- 03_self_timed_core.md Table 03.4 MODE. -/
  capFirst : Bool := false
  /-- 03_self_timed_core.md R82 CONFLICT. -/
  conflict : Bool := false
  /-- 03_self_timed_core.md R83 BELOW_FLOOR. -/
  belowFloor : Bool := false
  /-- 03_self_timed_core.md Table 03.4 ENABLED. -/
  enabled : Bool := false
  /-- 03_self_timed_core.md R92 the guard has been started at MBX_READY. -/
  running : Bool := false
  /-- 03_self_timed_core.md Table 03.4 SENTINELS. -/
  sentUse : BitVec 5 := 0
  /-- 03_self_timed_core.md R93 LAT_BOUND, 10 ps. -/
  latBound : BitVec 10 := 480
  /-- 03_self_timed_core.md Table 03.6 ENABLE in force. -/
  cfgEnable : Bool := true
  /-- 03_self_timed_core.md Table 03.3 FERRY_LAT_TARGET, 10 ps. -/
  target : BitVec 16 := 450
  /-- 03_self_timed_core.md Table 03.3 GUARD_STEP. -/
  stepMv : BitVec 8 := 5
  /-- 03_self_timed_core.md Table 03.3 GUARD_HYST, 10 ps. -/
  hyst : BitVec 16 := 15
  /-- 03_self_timed_core.md Table 03.3 GUARD_CEIL, VCODE. -/
  ceil : BitVec 8 := 40
  /-- 03_self_timed_core.md Table 03.3 GUARD_FIXED_V, VCODE. -/
  fixed : BitVec 8 := 30
  /-- 03_self_timed_core.md Table 03.3 POWER_CAP, W. -/
  capW : BitVec 16 := 0
  /-- 03_self_timed_core.md R82 voltage limit VCAP. -/
  vcap : Option Nat := none
  /-- 03_self_timed_core.md R82 the guard's own voltage request. -/
  request : Nat := 30
  /-- 03_self_timed_core.md R78 consecutive reads at or below target - hysteresis. -/
  downRun : Nat := 0
  /-- 03_self_timed_core.md R78 us since the last up step, saturating at 20. -/
  sinceUp : Nat := 20
  /-- 03_self_timed_core.md R88 us for which down steps are still suppressed. -/
  suppress : Nat := 0
  /-- 03_self_timed_core.md R90 voltage request frozen. -/
  frozen : Bool := false
  /-- 03_self_timed_core.md R90 retries of the VOUT_COMMAND in hand. -/
  retries : Nat := 0
  /-- 03_self_timed_core.md R89 a VOUT_COMMAND transaction is in flight. -/
  inFlight : Bool := false
  /-- 03_self_timed_core.md R89 configuration to be taken at the next read. -/
  pendCfg : Option GuardCfg := none
  /-- 03_self_timed_core.md R89 cap and mode to be taken at the next read. -/
  pendCap : Option (BitVec 16 × Bool) := none
  /-- 03_self_timed_core.md R92 P has been read since reset. -/
  seen : Bool := false
  /-- 03_self_timed_core.md R76 prediction of each sentinel, 10 ps. -/
  preds : Tab (BitVec 16) := []
  /-- 03_self_timed_core.md R77 sentinels set aside. -/
  setAside : BitVec 24 := 0
  /-- 03_self_timed_core.md R77 consecutive deviating reads of each sentinel. -/
  devRun : Tab Nat := []
  /-- 22_counters_trace.md Table 22.5 PWR_GUARD_UP. -/
  upCount : BitVec 48 := 0
  /-- 22_counters_trace.md Table 22.5 PWR_GUARD_DOWN. -/
  downCount : BitVec 48 := 0
  /-- 22_counters_trace.md Table 22.5 PWR_CONFLICT_US. -/
  conflictUs : BitVec 48 := 0
  deriving DecidableEq, Repr


/-- One river port (64 of them). -/
structure Port where
  /-- 04_river_ports.md R107 LINK; RP_STATUS shows SETTLING (4) in its place while the quad settles. -/
  link : BitVec 3 := 0
  /-- 04_river_ports.md Table 04.4 BLOCK_LOCK. -/
  blockLock : Bool := false
  /-- 04_river_ports.md Table 04.4 HI_BER. -/
  hiBer : Bool := false
  /-- 04_river_ports.md Table 04.4 LOCAL_FAULT. -/
  localFault : Bool := false
  /-- 04_river_ports.md Table 04.4 REMOTE_FAULT. -/
  remoteFault : Bool := false
  /-- 04_river_ports.md Table 04.8 ENABLE. -/
  enabled : Bool := false
  /-- 04_river_ports.md R95 FEC. -/
  fec : BitVec 2 := 0
  /-- 04_river_ports.md Table 04.4 AN_DONE. -/
  anDone : Bool := false
  /-- 04_river_ports.md Table 04.4 PAUSED. -/
  paused : Bool := false
  /-- 04_river_ports.md Table 04.4 PFC_PAUSED. -/
  pfcPaused : BitVec 8 := 0
  /-- 04_river_ports.md R99 flow-control mode. -/
  flowMode : BitVec 2 := 0
  /-- 04_river_ports.md Table 04.3 PFC enable mask. -/
  pfcEn : BitVec 8 := 0
  /-- 04_river_ports.md Table 04.3 transmitted quanta. -/
  quanta : BitVec 16 := 65535
  /-- 04_river_ports.md Table 04.3 LINK_UP_DEBOUNCE, us. -/
  debounce : BitVec 32 := 1000
  /-- 04_river_ports.md R107 instant from which block lock has been clean. -/
  cleanSince : Option Nat := none
  /-- 04_river_ports.md R103 the port may start frames (cleared at drain, set at resume). -/
  resumed : Bool := true
  /-- 08_ferry_reservoir.md R200 classes (or bit 0 for Pause) whose XOFF is in force. -/
  xoff : BitVec 8 := 0
  /-- 04_river_ports.md R108 Pause or PFC to be sent at resume. -/
  xoffDue : BitVec 8 := 0
  /-- 04_river_ports.md Table 04.5 RP_RX_FRAMES. -/
  rxFrames : BitVec 48 := 0
  /-- 04_river_ports.md Table 04.5 RP_RX_BYTES. -/
  rxBytes : BitVec 48 := 0
  /-- 04_river_ports.md Table 04.5 RP_RX_FCS_ERR. -/
  rxFcsErr : BitVec 48 := 0
  /-- 04_river_ports.md Table 04.5 RP_RX_RUNT. -/
  rxRunt : BitVec 48 := 0
  /-- 04_river_ports.md Table 04.5 RP_RX_OVERSIZE. -/
  rxOversize : BitVec 48 := 0
  /-- 04_river_ports.md Table 04.5 RP_RX_PAUSE. -/
  rxPause : BitVec 48 := 0
  /-- 04_river_ports.md Table 04.5 RP_TX_FRAMES. -/
  txFrames : BitVec 48 := 0
  /-- 04_river_ports.md Table 04.5 RP_TX_BYTES. -/
  txBytes : BitVec 48 := 0
  /-- 04_river_ports.md Table 04.5 RP_TX_PAUSE. -/
  txPause : BitVec 48 := 0
  /-- 04_river_ports.md Table 04.5 RP_FERRY_FRAMES. -/
  ferryFrames : BitVec 48 := 0
  /-- 04_river_ports.md Table 04.5 RP_SETTLE_DROP. -/
  settleDrop : BitVec 48 := 0
  /-- 04_river_ports.md Table 04.5 RP_DOWN_DROP. -/
  downDrop : BitVec 48 := 0
  /-- 04_river_ports.md Table 04.5 RP_FEC_CORR. -/
  fecCorr : BitVec 48 := 0
  /-- 04_river_ports.md Table 04.5 RP_FEC_UNCORR. -/
  fecUncorr : BitVec 48 := 0
  /-- 04_river_ports.md Table 04.5 RP_PTP_DISCARD. -/
  ptpDiscard : BitVec 48 := 0
  /-- 04_river_ports.md Table 04.5 RP_LINK_DOWNS. -/
  linkDowns : BitVec 48 := 0
  /-- 04_river_ports.md Table 04.5 RP_LPI_RX. -/
  lpiRx : BitVec 48 := 0
  /-- 04_river_ports.md Table 04.5 RP_STOMP counters, codes 1 to 6. -/
  stomps : Tab (BitVec 48) := []
  deriving DecidableEq, Repr


/-- One quad (16 of them). -/
structure Quad where
  /-- 04_river_ports.md Table 04.6 SYNTH. -/
  synth : BitVec 2 := 0
  /-- 04_river_ports.md Table 04.6 MEDIA. -/
  media : BitVec 1 := 0
  /-- 04_river_ports.md Table 04.6 RATE (2 is bonded, R94). -/
  rate : BitVec 2 := 1
  /-- 04_river_ports.md R97 AN. -/
  an : Bool := false
  /-- 04_river_ports.md R106 RECAL_MODE. -/
  recalAuto : Bool := false
  /-- 04_river_ports.md Table 04.6 CAL_TJ, degrees C. -/
  calTj : Int := 0
  /-- 04_river_ports.md Table 04.6 SETTLE_US. -/
  settleUs : BitVec 8 := 0
  /-- 04_river_ports.md Table 04.6 RECAL_COUNT. -/
  recalCount : BitVec 10 := 0
  /-- 04_river_ports.md Table 04.3 PORT_SETTLE_LIMIT, us. -/
  settleLimit : BitVec 32 := 200
  /-- 04_river_ports.md R104 start of drain. -/
  drainAt : Nat := 0
  /-- 04_river_ports.md R103 start of settling. -/
  settleAt : Nat := 0
  /-- 04_river_ports.md R110 retries of the lock in hand. -/
  retries : Nat := 0
  /-- 04_river_ports.md R103 R113 rate and FEC modes to be taken when settling begins. -/
  pend : Option (Nat × List Nat) := none
  /-- 04_river_ports.md R103 the settling follows a rate or bond change. -/
  retrain : Bool := false
  /-- 04_river_ports.md R108 self-recalibration to be taken at the end of the present settling. -/
  recalDue : Bool := false
  /-- 04_river_ports.md R106 RP_RECAL_DUE raised since the last calibration. -/
  dueRaised : Bool := false
  deriving DecidableEq, Repr


end Sys2Proof.Machine
end

