-- ==== Sys2Proof/Machine/FabricState.lean ====
section
/-! DEFINITION. State of the Crossings, the fabric, the Shuttle and the RDMA engines. -/

namespace Sys2Proof.Machine

/-- One 72-byte flit (Table 11.3), CRC computed from the rest. -/
structure Flit where
  /-- 11_crossings.md Table 11.3 VC. -/
  vc : Nat := 0
  /-- 11_crossings.md Table 11.3 HALF. -/
  half : Nat := 0
  /-- 11_crossings.md Table 11.3 TYPE. -/
  ftype : Nat := 0
  /-- 11_crossings.md Table 11.3 SOM. -/
  som : Bool := false
  /-- 11_crossings.md Table 11.3 EOM. -/
  eom : Bool := false
  /-- 11_crossings.md Table 11.3 VALID. -/
  valid : Nat := 0
  /-- 11_crossings.md Table 11.3 PAYLOAD. -/
  payload : List (BitVec 8) := []
  /-- 11_crossings.md Table 11.3 SEQ. -/
  seq : BitVec 8 := 0
  /-- 11_crossings.md Table 11.3 ACK. -/
  ack : BitVec 8 := 255
  deriving DecidableEq, Repr


/-- One routed message: fabric header (Table 12.1) and body. -/
structure Msg where
  /-- 12_fabric.md Table 12.1 DST. -/
  dst : Nat := 0
  /-- 12_fabric.md Table 12.1 SRC. -/
  src : Nat := 0
  /-- 12_fabric.md Table 12.1 MID. -/
  mid : Nat := 0
  /-- 12_fabric.md Table 12.1 STAGE. -/
  stage : Bool := false
  /-- 12_fabric.md Table 12.1 KIND. -/
  kind : BitVec 8 := 0
  /-- 12_fabric.md Table 12.1 LIST_POS. -/
  listPos : Nat := 0
  /-- 12_fabric.md Table 12.1 RESENT. -/
  resent : Bool := false
  /-- 12_fabric.md Table 12.1 MSG_ID. -/
  msgId : BitVec 32 := 0
  /-- 12_fabric.md Table 12.1 TARGET. -/
  target : BitVec 8 := 0
  /-- 12_fabric.md Table 12.1 TC. -/
  tc : BitVec 8 := 0
  /-- 12_fabric.md R277 VC. -/
  vc : Nat := 0
  /-- 12_fabric.md R283 half. -/
  half : Nat := 0
  /-- 12_fabric.md R276 body (its length is LENGTH). -/
  body : List (BitVec 8) := []
  /-- 12_fabric.md R287 the local frame it carries, for its record. -/
  frame : Option Nat := none
  /-- 12_fabric.md R286 it holds cells of the transit pool. -/
  pooled : Bool := false
  deriving DecidableEq, Repr


/-- One VC-half of a Crossing, both directions. -/
structure XlQueue where
  /-- 11_crossings.md R262 messages waiting in queue 512+10k+2v+h. -/
  txq : List Msg := []
  /-- 11_crossings.md R255 the message being sent and the flits of it that have started. -/
  cur : Option (Msg × Nat) := none
  /-- 11_crossings.md R268 messages sent whose last flit is not acknowledged, oldest first. -/
  inFlight : List Msg := []
  /-- 11_crossings.md R260 flits sent on first transmission, modulo 256. -/
  sent : BitVec 8 := 0
  /-- 11_crossings.md R260 FREED as last received. -/
  peerFreed : BitVec 8 := 0
  /-- 11_crossings.md Table 11.4 FREED, slots freed here. -/
  freed : BitVec 8 := 0
  /-- 11_crossings.md R259 FREED as last sent. -/
  freedSent : BitVec 8 := 0
  /-- 11_crossings.md R255 flits of the message open in the receive buffer. -/
  rx : List Flit := []
  /-- 11_crossings.md R255 messages complete in the receive buffer, oldest first. -/
  ready : List (List Flit) := []
  /-- 11_crossings.md R260 flits that stand in the receive buffer behind a complete message. -/
  kept : Nat := 0
  deriving DecidableEq, Repr


/-- One Crossing (8 of them). -/
structure Xl where
  /-- 11_crossings.md Table 11.9 STATE. -/
  state : BitVec 3 := 0
  /-- 11_crossings.md Table 11.9 TX_LANES. -/
  txLanes : BitVec 2 := 0
  /-- 11_crossings.md Table 11.9 RX_LANES. -/
  rxLanes : BitVec 2 := 0
  /-- 11_crossings.md Table 11.9 RX_LOCK. -/
  rxLock : BitVec 4 := 0
  /-- 11_crossings.md Table 11.9 RX_FAILED. -/
  rxFailed : BitVec 4 := 0
  /-- 11_crossings.md Table 11.9 SYNTH. -/
  synth : BitVec 2 := 0
  /-- 11_crossings.md Table 11.9 PEER_GRACE. -/
  peerGrace : Bool := false
  /-- 11_crossings.md Table 11.9 RECAL_MODE. -/
  recalManual : Bool := false
  /-- 11_crossings.md R269 enabled. -/
  enabled : Bool := false
  /-- 11_crossings.md XL_SEQ TX_NEXT. -/
  txNext : BitVec 8 := 0
  /-- 11_crossings.md XL_SEQ TX_ACKED. -/
  txAcked : BitVec 8 := 0
  /-- 11_crossings.md XL_SEQ RX_EXPECT. -/
  rxExpect : BitVec 8 := 0
  /-- 11_crossings.md XL_SEQ RETRY_RUN. -/
  retryRun : BitVec 4 := 0
  /-- 11_crossings.md XL_PEER_SERIAL. -/
  peerSerial : BitVec 64 := 0
  /-- 11_crossings.md XL_PEER_LINK. -/
  peerLink : BitVec 3 := 0
  /-- 11_crossings.md XL_WIT_OFFSET. -/
  witOffset : Int := 0
  /-- 11_crossings.md XL_WIT_DELAY. -/
  witDelay : Int := 0
  /-- 11_crossings.md XL_WIT_PEER_STATE. -/
  witPeer : BitVec 32 := 0
  /-- 11_crossings.md Table 11.8 LINK_DOWN_TIME, 0.1 us. -/
  linkDownTime : BitVec 16 := 20
  /-- 11_crossings.md Table 11.8 W_REQ. -/
  wReq : BitVec 8 := 24
  /-- 11_crossings.md Table 11.8 W_RSP. -/
  wRsp : BitVec 8 := 24
  /-- 11_crossings.md Table 11.8 W_COL. -/
  wCol : BitVec 8 := 16
  /-- 11_crossings.md Table 11.8 W_BLK. -/
  wBlk : BitVec 8 := 8
  /-- 11_crossings.md R253 the training in hand is full. -/
  trainFull : Bool := true
  /-- 11_crossings.md R252 the transmit direction is up (DONE sent). -/
  txDone : Bool := false
  /-- 11_crossings.md R252 lanes on which DONE has been received. -/
  rxDone : BitVec 4 := 0
  /-- 11_crossings.md R252 sending lane seen on each receive lane. -/
  laneMap : Tab Nat := []
  /-- 11_crossings.md R266 function whose RESTORE waits for its fast training. -/
  restore : Option Nat := none
  /-- 11_crossings.md R260 VC-halves, key 2v + h. -/
  q : Tab XlQueue := []
  /-- 11_crossings.md R258 DATA flits sent and not acknowledged, oldest first. -/
  replay : List Flit := []
  /-- 11_crossings.md R258 position reached by a replay in progress. -/
  replayPos : Option Nat := none
  /-- 11_crossings.md R257 discarding until RX_EXPECT arrives. -/
  discarding : Bool := false
  /-- 11_crossings.md R259 a CTRL flit with RETRY is due. -/
  retryDue : Bool := false
  /-- 11_crossings.md R259 another CTRL flit is due. -/
  ctrlDue : Bool := false
  /-- 11_crossings.md R259 ACK as last sent. -/
  ackSent : BitVec 8 := 255
  /-- 11_crossings.md R259 flit slots since the last CTRL flit, saturating at 4. -/
  sinceCtrl : Nat := 4
  /-- 11_crossings.md Table 11.4 HOLD received. -/
  peerHold : Bool := false
  /-- 11_crossings.md R265 the replay that follows a DEGRADE is not counted as a retry. -/
  afterDegrade : Bool := false
  /-- 11_crossings.md R261 BYP cap bucket, in twentieths of a flit. -/
  bypBucket : Nat := 80
  /-- 11_crossings.md R261 VC whose turn it is. -/
  vcNow : Nat := 1
  /-- 11_crossings.md R261 flits left of its turn. -/
  vcLeft : Nat := 24
  /-- 11_crossings.md R261 R265 weights of the round in hand. -/
  turns : List Nat := [24, 24, 16, 8]
  /-- 11_crossings.md R261 half next to send in each VC. -/
  halfNext : Tab Nat := []
  /-- 11_crossings.md Table 11.6 ROUND of the next witness round. -/
  round : BitVec 8 := 0
  /-- 11_crossings.md R264 a round is open. -/
  witOpen : Bool := false
  /-- 11_crossings.md R263 t1. -/
  witT1 : Nat := 0
  /-- 11_crossings.md R264 EPOCH at t1. -/
  witEpoch : BitVec 24 := 0
  /-- 11_crossings.md R264 the link trained, settled or degraded during the round. -/
  witBroken : Bool := false
  /-- 11_crossings.md R262 retries of the lock in hand. -/
  synthRetries : Nat := 0
  /-- 11_crossings.md R262 temperature at the last calibration. -/
  calTj : Int := 0
  /-- 11_crossings.md R262 XL_RECAL_DUE raised since the last calibration. -/
  dueRaised : Bool := false
  /-- 12_fabric.md R274 MISWIRED. -/
  miswired : Bool := false
  /-- 12_fabric.md R275 last peer serial of the role. -/
  lastPeer : BitVec 64 := 0
  /-- 12_fabric.md R275 role the spare has taken over. -/
  spareFor : Option Nat := none
  /-- 11_crossings.md XL_FLITS_TX. -/
  flitsTx : BitVec 48 := 0
  /-- 11_crossings.md XL_FLITS_RX. -/
  flitsRx : BitVec 48 := 0
  /-- 11_crossings.md XL_CRC_ERR. -/
  crcErr : BitVec 48 := 0
  /-- 11_crossings.md XL_REPLAYS. -/
  replays : BitVec 48 := 0
  /-- 11_crossings.md XL_RETRAINS. -/
  retrains : BitVec 48 := 0
  /-- 11_crossings.md XL_DEGRADES. -/
  degrades : BitVec 48 := 0
  /-- 11_crossings.md XL_BAD_BLOCK. -/
  badBlock : BitVec 48 := 0
  /-- 11_crossings.md XL_LINK_DOWNS. -/
  linkDowns : BitVec 48 := 0
  /-- 11_crossings.md XL_BLK_DROP. -/
  blkDrop : BitVec 48 := 0
  /-- 11_crossings.md XL_RETURNED. -/
  returned : BitVec 48 := 0
  /-- 11_crossings.md XL_BYP_LOST. -/
  bypLost : BitVec 48 := 0
  /-- 11_crossings.md XL_PARTIAL_DROP. -/
  partialDrop : BitVec 48 := 0
  /-- 11_crossings.md XL_BAD_FLIT. -/
  badFlit : BitVec 48 := 0
  /-- 11_crossings.md XL_WIT_MISSED. -/
  witMissed : BitVec 48 := 0
  deriving DecidableEq, Repr


/-- Fabric.config as given. -/
structure FabCfg where
  /-- 12_fabric.md Table 12.4 ROOT_PRIO. -/
  rootPrio : BitVec 8 := 255
  /-- 12_fabric.md Table 12.7 COORD_EN. -/
  coordEn : Bool := false
  /-- 12_fabric.md Table 12.7 X. -/
  x : Nat := 0
  /-- 12_fabric.md Table 12.7 Y. -/
  y : Nat := 0
  /-- 12_fabric.md Table 12.7 Z. -/
  z : Nat := 0
  /-- 12_fabric.md Table 12.7 BOX_EN. -/
  boxEn : Bool := false
  /-- 12_fabric.md Table 12.7 NX. -/
  nx : Nat := 0
  /-- 12_fabric.md Table 12.7 NY. -/
  ny : Nat := 0
  /-- 12_fabric.md Table 12.7 NZ. -/
  nz : Nat := 0
  /-- 12_fabric.md Table 12.7 OPEN. -/
  openAxes : BitVec 3 := 0
  deriving DecidableEq, Repr


/-- One reported adjacency. -/
structure Adj where
  /-- 12_fabric.md Table 12.2 origin serial. -/
  serial : BitVec 64 := 0
  /-- 12_fabric.md Table 12.2 LINK. -/
  link : Nat := 0
  /-- 12_fabric.md Table 12.2 PEER_LINK. -/
  peerLink : Nat := 0
  /-- 12_fabric.md Table 12.2 peer serial. -/
  peer : BitVec 64 := 0
  deriving DecidableEq, Repr


/-- One message held in the reorder store. -/
structure Held where
  /-- 12_fabric.md R288 SRC. -/
  src : Nat := 0
  /-- 12_fabric.md R288 VC. -/
  vc : Nat := 0
  /-- 12_fabric.md R288 MSG_ID. -/
  id : BitVec 32 := 0
  /-- 12_fabric.md R288 the message. -/
  msg : Msg := {}
  deriving DecidableEq, Repr


/-- The fabric as this device sees it. -/
structure Fab where
  /-- 12_fabric.md Table 12.5 ID. -/
  id : Nat := 0
  /-- 12_fabric.md Table 12.5 ASSIGNED. -/
  assigned : Bool := false
  /-- 12_fabric.md Table 12.5 ROOT. -/
  root : Bool := false
  /-- 12_fabric.md Table 12.5 STATE. -/
  st : BitVec 2 := 0
  /-- 12_fabric.md Table 12.5 NX. -/
  nx : Nat := 0
  /-- 12_fabric.md Table 12.5 NY. -/
  ny : Nat := 0
  /-- 12_fabric.md Table 12.5 NZ. -/
  nz : Nat := 0
  /-- 12_fabric.md Table 12.5 OPEN. -/
  openAxes : BitVec 3 := 0
  /-- 12_fabric.md Table 12.5 FAB_EPOCH. -/
  epoch : BitVec 32 := 0
  /-- 12_fabric.md R290 highest ROUTE_EPOCH seen. -/
  epochHigh : BitVec 32 := 0
  /-- 12_fabric.md Table 12.5 ROOT_SERIAL. -/
  rootSerial : BitVec 64 := 0
  /-- 12_fabric.md R293 discovery has started. -/
  discovering : Bool := false
  /-- 12_fabric.md R279 ROOT_PRIO of the best candidate heard. -/
  bestPrio : BitVec 8 := 255
  /-- 12_fabric.md R279 serial of the best candidate heard. -/
  bestSerial : BitVec 64 := 0xFFFFFFFFFFFFFFFF
  /-- 12_fabric.md R295 configuration as last given. -/
  cfg : FabCfg := {}
  /-- 12_fabric.md R295 root priority, coordinate and box in force. -/
  live : FabCfg := {}
  /-- 12_fabric.md R275 roles of XL6 and XL7 (key 6, 7). -/
  role : Tab Nat := []
  /-- 12_fabric.md Table 12.4 TRANSIT. -/
  transit : Nat := 2048
  /-- 12_fabric.md Table 12.4 CONVERGE_LIMIT, 100 us. -/
  convLimit : Nat := 20
  /-- 12_fabric.md R295 peer ID of each Crossing (absent: unassigned, 0xFFFF). -/
  peerId : Tab Nat := []
  /-- 12_fabric.md R280 adjacency graph. -/
  adj : List Adj := []
  /-- 12_fabric.md R280 assigned devices (serial, ID). -/
  devices : List (BitVec 64 × Nat) := []
  /-- 12_fabric.md R291 UP mask of each device, from its LSA (absent: all up). -/
  upMask : Tab (BitVec 8) := []
  /-- 12_fabric.md R278 FSEQ of the next flood. -/
  fseq : BitVec 32 := 0
  /-- 12_fabric.md R278 floods already relayed (type, origin, FSEQ). -/
  seen : List (Nat × Nat × Nat) := []
  /-- 12_fabric.md R291 devices that have reported INSTALLED at this epoch. -/
  installed : List Nat := []
  /-- 12_fabric.md R291 this device has installed its routes for the epoch. -/
  selfInstalled : Bool := false
  /-- 12_fabric.md R268 R292 messages returned to the Pumphouse, oldest first. -/
  returned : List Msg := []
  /-- 12_fabric.md R291 injection held while CONVERGING. -/
  heldInj : List Msg := []
  /-- 12_fabric.md R288 last MSG_ID sent, key 8 DST + VC. -/
  txId : Tab (BitVec 32) := []
  /-- 12_fabric.md R288 last MSG_ID delivered, key 8 SRC + VC. -/
  rxId : Tab (BitVec 32) := []
  /-- 12_fabric.md R288 reorder store. -/
  store : List Held := []
  /-- 12_fabric.md FAB_CONVERGES. -/
  converges : BitVec 48 := 0
  /-- 12_fabric.md FAB_RESENT. -/
  resent : BitVec 48 := 0
  /-- 12_fabric.md FAB_DUP. -/
  dup : BitVec 48 := 0
  /-- 12_fabric.md FAB_GAP. -/
  gap : BitVec 48 := 0
  /-- 12_fabric.md FAB_DEAD_DROP. -/
  deadDrop : BitVec 48 := 0
  /-- 12_fabric.md FAB_UNREACH. -/
  unreach : BitVec 48 := 0
  /-- 12_fabric.md FAB_TRANSIT_DROP. -/
  transitDrop : BitVec 48 := 0
  /-- 12_fabric.md FAB_BAD_HDR. -/
  badHdr : BitVec 48 := 0
  /-- 12_fabric.md FAB_REFUSED. -/
  refused : BitVec 48 := 0
  /-- 12_fabric.md FAB_OVERSIZE_DROP. -/
  oversizeDrop : BitVec 48 := 0
  deriving DecidableEq, Repr


/-- One collective group (up to 64). -/
structure Group where
  /-- 13_collectives.md R298 exists. -/
  valid : Bool := false
  /-- 13_collectives.md R298 owning berth (16: the harbour). -/
  berth : Nat := 0
  /-- 13_collectives.md R299 kind. -/
  kind : BitVec 2 := 0
  /-- 13_collectives.md R299 LO. -/
  lo : Nat × Nat × Nat := (0, 0, 0)
  /-- 13_collectives.md R299 HI. -/
  hi : Nat × Nat × Nat := (0, 0, 0)
  /-- 13_collectives.md Table 13.4 TIMEOUT, us. -/
  timeout : BitVec 32 := 1000
  /-- 13_collectives.md R309 OP_SEQ of the next operation. -/
  nextSeq : BitVec 32 := 0
  deriving DecidableEq, Repr


/-- One pending collective operation. -/
structure ColOp where
  /-- 13_collectives.md R303 TAG. -/
  tag : BitVec 32 := 0
  /-- 13_collectives.md R303 OP_SEQ. -/
  seq : BitVec 32 := 0
  /-- 13_collectives.md Table 13.1 OP. -/
  op : Nat := 0
  /-- 13_collectives.md Table 13.2 DTYPE. -/
  wide : Bool := false
  /-- 13_collectives.md Table 13.2 RED. -/
  red : Nat := 0
  /-- 13_collectives.md Table 13.2 COUNT. -/
  count : Nat := 0
  /-- 13_collectives.md Table 13.2 ROOT. -/
  root : Nat := 0
  /-- 13_collectives.md R311 issuing function (none: the Windlass). -/
  fn : Option Nat := none
  /-- 13_collectives.md R311 USER. -/
  user : BitVec 32 := 0
  /-- 13_collectives.md Table 13.7 DST_ADDR. -/
  dst : BitVec 64 := 0
  /-- 13_collectives.md R311 instant of its start. -/
  since : Nat := 0
  /-- 13_collectives.md Normal course: it holds its slot and its group's turn. -/
  running : Bool := false
  /-- 13_collectives.md R300 the vector as reduced so far. -/
  vec : List Int := []
  /-- 13_collectives.md R301 position in the order of axes. -/
  phase : Nat := 0
  /-- 13_collectives.md R300 PASS. -/
  pass : Nat := 0
  /-- 13_collectives.md R300 STEP. -/
  step : Nat := 0
  /-- 13_collectives.md R305 output tile of a Windlass run that the rings work on. -/
  part : Nat := 0
  /-- 13_collectives.md R305 elements of an output tile (0: the vector is one part). -/
  partLen : Nat := 0
  /-- 13_collectives.md R300 the ring of the current axis has begun. -/
  begun : Bool := false
  /-- 13_collectives.md R303 segments of the incoming piece received so far. -/
  segIn : List (BitVec 8) := []
  /-- 13_collectives.md R302 SAT. -/
  sat : Bool := false
  /-- 13_collectives.md R302 LATE. -/
  late : Bool := false
  /-- 13_collectives.md R307 DETOUR. -/
  detour : Bool := false
  deriving DecidableEq, Repr


/-- The Shuttle. -/
structure Shtl where
  /-- 13_collectives.md R298 groups. -/
  group : Tab Group := []
  /-- 13_collectives.md R310 operation slots (absent: free). -/
  slots : Tab ColOp := []
  /-- 13_collectives.md R304 early-arrival store. -/
  early : List Msg := []
  /-- 13_collectives.md SHTL_OPS. -/
  ops : BitVec 48 := 0
  /-- 13_collectives.md SHTL_TIMEOUT. -/
  timeouts : BitVec 48 := 0
  /-- 13_collectives.md SHTL_ABORTED. -/
  aborted : BitVec 48 := 0
  /-- 13_collectives.md SHTL_MISMATCH. -/
  mismatch : BitVec 48 := 0
  /-- 13_collectives.md SHTL_DETOUR. -/
  detour : BitVec 48 := 0
  /-- 13_collectives.md SHTL_STALE_DROP. -/
  staleDrop : BitVec 48 := 0
  /-- 13_collectives.md SHTL_SAT. -/
  satCnt : BitVec 48 := 0
  deriving DecidableEq, Repr


/-- One work request fetched or placed. -/
structure Wr where
  /-- 14_remote_memory.md Table 14.2 OPCODE. -/
  opcode : Nat := 0
  /-- 14_remote_memory.md Table 14.2 SIGNALED. -/
  signaled : Bool := false
  /-- 14_remote_memory.md Table 14.2 FENCE. -/
  fence : Bool := false
  /-- 14_remote_memory.md Table 14.2 SOLICITED. -/
  solicited : Bool := false
  /-- 14_remote_memory.md Table 14.2 IMM. -/
  imm : BitVec 32 := 0
  /-- 14_remote_memory.md Table 14.2 WR_ID. -/
  wrId : BitVec 64 := 0
  /-- 14_remote_memory.md Table 14.2 LADDR or ADDR. -/
  laddr : BitVec 64 := 0
  /-- 14_remote_memory.md Table 14.2 LEN. -/
  len : Nat := 0
  /-- 14_remote_memory.md Table 14.2 LKEY. -/
  lkey : BitVec 32 := 0
  /-- 14_remote_memory.md Table 14.2 RADDR. -/
  raddr : BitVec 64 := 0
  /-- 14_remote_memory.md Table 14.2 RKEY. -/
  rkey : BitVec 32 := 0
  /-- 14_remote_memory.md R322 first PSN it uses (once started). -/
  psn0 : Nat := 0
  /-- 14_remote_memory.md R325 packets it counts for. -/
  npkt : Nat := 0
  /-- 14_remote_memory.md R320 its first packet has been sent. -/
  started : Bool := false
  /-- 14_remote_memory.md R322 packets sent since the last rewind. -/
  sent : Nat := 0
  /-- 14_remote_memory.md R322 packets acknowledged. -/
  acked : Nat := 0
  /-- 14_remote_memory.md R319 data read from host memory to be sent. -/
  data : List (BitVec 8) := []
  /-- 14_remote_memory.md Table 14.5 status found before it started (0: none). -/
  status : Nat := 0
  deriving DecidableEq, Repr


/-- One queue pair (4,096 of them). -/
structure Qp where
  /-- 14_remote_memory.md Table 14.8 created by rdma.qp_create. -/
  used : Bool := false
  /-- 14_remote_memory.md Table 14.9 state. -/
  state : BitVec 3 := 0
  /-- 14_remote_memory.md R317 owning berth. -/
  berth : Nat := 0
  /-- 14_remote_memory.md R313 PATH. -/
  path : BitVec 2 := 0
  /-- 14_remote_memory.md R318 PD. -/
  pd : BitVec 16 := 0
  /-- 14_remote_memory.md Table 14.9 SQ_CQ. -/
  sqCq : Nat := 0
  /-- 14_remote_memory.md Table 14.9 RQ_CQ. -/
  rqCq : Nat := 0
  /-- 14_remote_memory.md Table 14.9 SQ_DEPTH. -/
  sqDepth : Nat := 0
  /-- 14_remote_memory.md Table 14.9 RQ_DEPTH. -/
  rqDepth : Nat := 0
  /-- 14_remote_memory.md Table 14.9 ORDER. -/
  orderBit : Bool := false
  /-- 14_remote_memory.md Table 14.9 SQ_ADDR. -/
  sqAddr : BitVec 64 := 0
  /-- 14_remote_memory.md Table 14.9 RQ_ADDR. -/
  rqAddr : BitVec 64 := 0
  /-- 14_remote_memory.md Table 14.9 PORT. -/
  port : Nat := 0
  /-- 14_remote_memory.md Table 14.9 TC. -/
  tc : Nat := 0
  /-- 14_remote_memory.md Table 14.9 AF. -/
  v6 : Bool := false
  /-- 14_remote_memory.md Table 14.9 DSCP. -/
  dscp : BitVec 8 := 0
  /-- 14_remote_memory.md Table 14.9 DMAC. -/
  dmac : List (BitVec 8) := []
  /-- 14_remote_memory.md Table 14.9 VLAN. -/
  vlan : BitVec 16 := 0
  /-- 14_remote_memory.md Table 14.9 LIP. -/
  lip : List (BitVec 8) := []
  /-- 14_remote_memory.md Table 14.9 RIP. -/
  rip : List (BitVec 8) := []
  /-- 14_remote_memory.md Table 14.9 DEVICE. -/
  device : Nat := 0
  /-- 14_remote_memory.md Table 14.9 DBERTH. -/
  dberth : Nat := 0
  /-- 14_remote_memory.md Table 14.9 RQPN. -/
  rqpn : BitVec 24 := 0
  /-- 14_remote_memory.md Table 14.7 MTU. -/
  mtu : Nat := 4096
  /-- 14_remote_memory.md Table 14.7 TIMEOUT. -/
  timeout : Nat := 14
  /-- 14_remote_memory.md Table 14.7 RETRY_CNT. -/
  retryCnt : Nat := 7
  /-- 14_remote_memory.md Table 14.7 RNR_RETRY. -/
  rnrRetry : Nat := 7
  /-- 14_remote_memory.md Table 14.9 MIN_RNR. -/
  minRnr : BitVec 8 := 0
  /-- 14_remote_memory.md Table 14.7 ORD. -/
  ord : Nat := 8
  /-- 14_remote_memory.md Table 14.7 IRD. -/
  ird : Nat := 8
  /-- 14_remote_memory.md Table 14.7 WIN_INIT. -/
  winInit : Nat := 16
  /-- 14_remote_memory.md R325 W. -/
  w : Nat := 16
  /-- 14_remote_memory.md R325 packets acknowledged since the last change. -/
  ackedInW : Nat := 0
  /-- 14_remote_memory.md R325 packets still to be acknowledged before an echo counts again. -/
  echoHold : Nat := 0
  /-- 14_remote_memory.md R333 SQ producer index. -/
  sqProd : BitVec 16 := 0
  /-- 14_remote_memory.md R319 SQ entries read. -/
  sqFetch : BitVec 16 := 0
  /-- 14_remote_memory.md R333 RQ producer index. -/
  rqProd : BitVec 16 := 0
  /-- 14_remote_memory.md R319 RQ entries read. -/
  rqFetch : BitVec 16 := 0
  /-- 14_remote_memory.md R320 requests not yet completed, oldest first. -/
  sq : List Wr := []
  /-- 14_remote_memory.md R319 receive requests read and not yet consumed, oldest first. -/
  rq : List Wr := []
  /-- 14_remote_memory.md R322 next PSN to send. -/
  sqPsn : Nat := 0
  /-- 14_remote_memory.md R322 oldest unacknowledged PSN. -/
  unaPsn : Nat := 0
  /-- 14_remote_memory.md R322 expected PSN. -/
  rqPsn : Nat := 0
  /-- 14_remote_memory.md R322 messages completed as responder (AETH). -/
  msn : Nat := 0
  /-- 14_remote_memory.md R322 one NAK Sequence Error sent for the expected PSN. -/
  nakSent : Bool := false
  /-- 14_remote_memory.md R322 an acknowledgement is due. -/
  ackDue : Bool := false
  /-- 14_remote_memory.md R325 BECN is due in the next acknowledgement or READ response. -/
  ecnDue : Bool := false
  /-- 14_remote_memory.md R320 message being received (0 SEND, 1 WRITE). -/
  rxOpen : Option Nat := none
  /-- 14_remote_memory.md R320 next address of the message being received. -/
  rxAddr : BitVec 64 := 0
  /-- 14_remote_memory.md R320 bytes still to come of the WRITE being received. -/
  rxLeft : Nat := 0
  /-- 14_remote_memory.md R320 bytes placed of the message being received. -/
  rxGot : Nat := 0
  /-- 14_remote_memory.md R318 R_Key of the WRITE being received. -/
  rxKey : BitVec 32 := 0
  /-- 14_remote_memory.md R322 consecutive retransmissions without progress. -/
  retries : Nat := 0
  /-- 14_remote_memory.md R323 RNR retries made. -/
  rnrTries : Nat := 0
  /-- 14_remote_memory.md R323 waiting out an RNR NAK. -/
  rnrWait : Bool := false
  /-- 14_remote_memory.md R334 retransmission count. -/
  retrans : BitVec 48 := 0
  deriving DecidableEq, Repr


/-- One completion queue. -/
structure Cq where
  /-- 14_remote_memory.md R321 exists. -/
  used : Bool := false
  /-- 14_remote_memory.md Table 14.9 DEPTH. -/
  depth : Nat := 0
  /-- 14_remote_memory.md Table 14.9 ADDR. -/
  addr : BitVec 64 := 0
  /-- 14_remote_memory.md R321 completions written. -/
  prod : BitVec 16 := 0
  /-- 14_remote_memory.md R333 consumer index. -/
  cons : BitVec 16 := 0
  /-- 14_remote_memory.md R321 every slot is taken (for DEPTH 65,536). -/
  full : Bool := false
  /-- 14_remote_memory.md Table 14.4 OWNER phase of the pass. -/
  phase : Bool := true
  /-- 14_remote_memory.md R321 ARM. -/
  armed : Bool := false
  /-- 14_remote_memory.md R330 in the error state. -/
  err : Bool := false
  deriving DecidableEq, Repr


/-- One memory region (65,536 of them). -/
structure Mr where
  /-- 14_remote_memory.md R318 registered. -/
  valid : Bool := false
  /-- 14_remote_memory.md R318 base address. -/
  base : BitVec 64 := 0
  /-- 14_remote_memory.md R318 length. -/
  len : Nat := 0
  /-- 14_remote_memory.md R318 PD. -/
  pd : BitVec 16 := 0
  /-- 14_remote_memory.md R318 access bits. -/
  access : BitVec 8 := 0
  /-- 14_remote_memory.md R318 KEY8. -/
  key8 : BitVec 8 := 0
  deriving DecidableEq, Repr


/-- A berth's blocks. -/
structure RdmaB where
  /-- 14_remote_memory.md R317 first global index. -/
  qpBase : Nat := 0
  /-- 14_remote_memory.md R317 QPS. -/
  qps : Nat := 0
  /-- 14_remote_memory.md R318 first region. -/
  mrBase : Nat := 0
  /-- 14_remote_memory.md R318 MRS. -/
  mrs : Nat := 0
  deriving DecidableEq, Repr


/-- The RDMA engines. -/
structure Rdma where
  /-- 14_remote_memory.md R333 ENGINES. -/
  engines : BitVec 2 := 3
  /-- 14_remote_memory.md R317 queue pairs. -/
  qp : Tab Qp := []
  /-- 14_remote_memory.md R313 LOCAL packets on their way, by global queue pair. -/
  loop : List (Nat × RdmaPkt) := []
  /-- 14_remote_memory.md R317 completion queues, by the global index of their berth's block. -/
  cq : Tab Cq := []
  /-- 14_remote_memory.md R318 regions. -/
  mr : Tab Mr := []
  /-- 14_remote_memory.md R317 blocks. -/
  berth : Tab RdmaB := []
  /-- 14_remote_memory.md RDMA_TX_PKTS. -/
  txPkts : BitVec 48 := 0
  /-- 14_remote_memory.md RDMA_RX_PKTS. -/
  rxPkts : BitVec 48 := 0
  /-- 14_remote_memory.md RDMA_RETRANS. -/
  retrans : BitVec 48 := 0
  /-- 14_remote_memory.md RDMA_NAK_TX. -/
  nakTx : BitVec 48 := 0
  /-- 14_remote_memory.md RDMA_NAK_RX. -/
  nakRx : BitVec 48 := 0
  /-- 14_remote_memory.md RDMA_RNR_NAK. -/
  rnrNak : BitVec 48 := 0
  /-- 14_remote_memory.md RDMA_ECN_ECHO. -/
  ecnEcho : BitVec 48 := 0
  /-- 14_remote_memory.md RDMA_DUP. -/
  dup : BitVec 48 := 0
  /-- 14_remote_memory.md RDMA_QP_ERR. -/
  qpErr : BitVec 48 := 0
  /-- 14_remote_memory.md RDMA_FLUSHED. -/
  flushed : BitVec 48 := 0
  /-- 14_remote_memory.md RDMA_RX_DENIED. -/
  rxDenied : BitVec 48 := 0
  /-- 14_remote_memory.md RDMA_RX_BAD_QP. -/
  rxBadQp : BitVec 48 := 0
  /-- 14_remote_memory.md RDMA_RX_ICRC. -/
  rxIcrc : BitVec 48 := 0
  /-- 14_remote_memory.md RDMA_RX_PKEY. -/
  rxPkey : BitVec 48 := 0
  deriving DecidableEq, Repr


end Sys2Proof.Machine
end

