-- ==== Sys2Proof/Machine/HostState.lean ====
section
/-! DEFINITION. State of the ledger, the cartridges, the DRAM channels, the host rings, the sump, power, temperature, counters, trace and test. -/

namespace Sys2Proof.Machine

/-- One ledger page: its header fields and its slots. -/
structure Page where
  /-- 15_ledger.md Table 15.4 BERTH. -/
  berth : Nat := 0
  /-- 15_ledger.md Table 15.4 PAGE_NO. -/
  no : Nat := 0
  /-- 15_ledger.md Table 15.4 FIRST_SEQ. -/
  firstSeq : Nat := 0
  /-- 15_ledger.md R347 SEQ of the last record of the page. -/
  lastSeq : Nat := 0
  /-- DESIGN CHOICE (log entry 5): place of the page in the close order of the device (R342). -/
  order : Nat := 0
  /-- 15_ledger.md Table 15.4 FLAGS SEALED. -/
  isSealed : Bool := false
  /-- 15_ledger.md Table 15.4 FLAGS POWER_FAIL. -/
  powerFail : Bool := false
  /-- 15_ledger.md Table 15.4 PREV_HASH (none: not yet known). -/
  prevHash : Option (List (BitVec 8)) := none
  /-- 15_ledger.md Table 15.4 CHAIN_ID. -/
  chainId : List (BitVec 8) := []
  /-- 15_ledger.md R338 slots written, in append order (those after them are PAD). -/
  slots : List (List (BitVec 8)) := []
  /-- 15_ledger.md R338 R346 SHA-256 of the closed page (none: not yet hashed). -/
  hash : Option (List (BitVec 8)) := none
  /-- 15_ledger.md R339 R346 its seal is still to be signed. -/
  awaitSig : Bool := false
  /-- 15_ledger.md R342 where a closed page stands: 0 in its buffer, 1 issued to bay 0, 2 issued to bay 1, 3 being staged, 4 staged. -/
  place : Nat := 0
  deriving DecidableEq, Repr


/-- One berth's chain, its page buffers and its pressure state. -/
structure Chain where
  /-- 15_ledger.md R335 a chain is open. -/
  active : Bool := false
  /-- 15_ledger.md R335 SEQ of the next record. -/
  nextSeq : Nat := 0
  /-- 15_ledger.md R352 SEAL_SEQ of the last seal. -/
  sealSeq : Nat := 0
  /-- 15_ledger.md R353 STAMP of the last seal. -/
  sealStamp : Nat := 0
  /-- 15_ledger.md Table 15.3 SEAL: records since the previous seal. -/
  recsSince : Nat := 0
  /-- 15_ledger.md R340 a record has been appended since the last seal. -/
  appended : Bool := false
  /-- 15_ledger.md R340 SEAL_INTERVAL has passed since the last seal, with no record appended. -/
  intervalUp : Bool := false
  /-- 15_ledger.md R346 a due seal waits for the previous signature. -/
  sealWaits : Bool := false
  /-- 15_ledger.md R346 a seal is being signed. -/
  signing : Bool := false
  /-- 15_ledger.md R348 failed self-verifies of the seal in hand. -/
  signFails : Nat := 0
  /-- 15_ledger.md R348 held FULL until a chip reset. -/
  signHold : Bool := false
  /-- 15_ledger.md R338 the open page. -/
  page : Page := {}
  /-- 15_ledger.md R342 closed pages in buffers, oldest first. -/
  closed : List Page := []
  /-- 15_ledger.md R353 SHA-256 of the last closed page. -/
  lastHash : List (BitVec 8) := []
  /-- 15_ledger.md R347 last SEQ of the last page that has left for a cartridge or been lost. -/
  lastOut : Option Nat := none
  /-- 15_ledger.md Table 15.6 SEAL_INTERVAL, us. -/
  interval : Nat := 1000
  /-- 15_ledger.md R346 SEAL_INTERVAL to be taken after the next seal. -/
  pendInterval : Option Nat := none
  /-- 15_ledger.md R343 policy GAP. -/
  gapPolicy : Bool := false
  /-- 15_ledger.md R343 GAP_OK. -/
  gapOk : Bool := false
  /-- 15_ledger.md R343 FULL. -/
  full : Bool := false
  /-- 15_ledger.md Table 15.3 FULL_SPAN: orders refused while FULL. -/
  spanCount : Nat := 0
  /-- 15_ledger.md Table 15.3 FULL_SPAN: first ingress stamp. -/
  spanFirst : Nat := 0
  /-- 15_ledger.md Table 15.3 FULL_SPAN: last ingress stamp. -/
  spanLast : Nat := 0
  /-- 15_ledger.md Table 15.3 GAP: FIRST_SEQ of the open span. -/
  gapFirst : Option Nat := none
  /-- 15_ledger.md Table 15.3 GAP: LAST_SEQ of the open span. -/
  gapLast : Nat := 0
  /-- 15_ledger.md R343 record slots reserved at commit and not yet used. -/
  reserved : Nat := 0
  /-- 15_ledger.md R344 non-order records waiting for space, in order. -/
  waiting : List (List (BitVec 8)) := []
  /-- 15_ledger.md Table 15.3 UNCLASSED count since the last seal (R115). -/
  unclassed : Nat := 0
  /-- 15_ledger.md R353 functions whose ledger.seal_now waits, and how many signatures for. -/
  sealFns : List (Nat × Nat) := []
  deriving DecidableEq, Repr


/-- The ledger. -/
structure Ledg where
  /-- DESIGN CHOICE (log entry 5): number of the next page closed. -/
  nextOrder : Nat := 0
  /-- 15_ledger.md R352 ENGINES. -/
  engines : BitVec 2 := 3
  /-- 15_ledger.md R335 chains. -/
  chain : Tab Chain := []
  /-- 15_ledger.md R342 staged pages, oldest first. -/
  ring : List Page := []
  /-- 15_ledger.md R351 base of the staging ring. -/
  ringBase : BitVec 64 := 0x800000000
  /-- 15_ledger.md R351 size of the staging ring, GiB. -/
  ringGib : Nat := 4
  /-- 15_ledger.md R349 appending has stopped. -/
  stopped : Bool := false
  /-- 15_ledger.md LEDG_RECORDS. -/
  records : BitVec 48 := 0
  /-- 15_ledger.md LEDG_SEALS. -/
  seals : BitVec 48 := 0
  /-- 15_ledger.md LEDG_PAGES_OUT. -/
  pagesOut : BitVec 48 := 0
  /-- 15_ledger.md LEDG_PAGES_STAGED. -/
  pagesStaged : BitVec 48 := 0
  /-- 15_ledger.md LEDG_FULL_REFUSED. -/
  fullRefused : BitVec 48 := 0
  /-- 15_ledger.md LEDG_GAP_SKIPPED. -/
  gapSkipped : BitVec 48 := 0
  /-- 15_ledger.md LEDG_LOST_PAGES. -/
  lostPages : BitVec 48 := 0
  deriving DecidableEq, Repr


/-- What the model holds of a seated cartridge. -/
structure Cart where
  /-- 16_cistern.md Table 16.3 identity log page as last read. -/
  ident : List (BitVec 8) := []
  /-- 16_cistern.md R362 R363 zones no longer empty. -/
  usedZones : Nat := 0
  /-- 16_cistern.md R355 pages of the cartridge by LBA. -/
  pages : Tab (List (BitVec 8)) := []
  /-- 16_cistern.md R362 zone open for appends. -/
  openZone : Option Nat := none
  /-- 16_cistern.md R362 pages written in the open zone. -/
  fill : Nat := 0
  deriving DecidableEq, Repr


/-- One Zone Append outstanding. -/
structure Append where
  /-- 16_cistern.md R357 berth of its page. -/
  berth : Nat := 0
  /-- 16_cistern.md R357 PAGE_NO of its page. -/
  page : Nat := 0
  /-- 16_cistern.md R357 the page. -/
  bytes : List (BitVec 8) := []
  /-- 16_cistern.md R342 read back from the staging ring. -/
  staged : Bool := false
  /-- 16_cistern.md R369 has been reissued after an error. -/
  tried : Bool := false
  deriving DecidableEq, Repr


/-- One cartridge bay. -/
structure Bay where
  /-- 16_cistern.md Table 16.1 STATE. -/
  st : Nat := 0
  /-- 16_cistern.md Table 16.6 PRSNT. -/
  prsnt : Bool := false
  /-- 16_cistern.md Table 16.6 LATCHED. -/
  latched : Bool := false
  /-- 16_cistern.md Table 16.6 LINK_FULL. -/
  linkFull : Bool := false
  /-- 16_cistern.md Table 16.6 LIFE_USED. -/
  life : Nat := 0
  /-- 16_cistern.md Table 16.6 WARN80. -/
  warn80 : Bool := false
  /-- 16_cistern.md Table 16.6 WARN95. -/
  warn95 : Bool := false
  /-- 16_cistern.md R373 CART_SERIAL. -/
  serial : BitVec 64 := 0
  /-- 16_cistern.md R363 CIST_CAP_WARN has been raised. -/
  capWarned : Bool := false
  /-- 16_cistern.md R355 the cartridge probed. -/
  cart : Option Cart := none
  /-- 16_cistern.md R357 Zone Appends outstanding, oldest first. -/
  out : List Append := []
  /-- 16_cistern.md R369 instants of the failed appends of the last second. -/
  fails : List Nat := []
  /-- 16_cistern.md R370 instants of the stalls of the last second. -/
  stalls : List Nat := []
  /-- 16_cistern.md R367 housekeeping window granted, us (0xFFFFFFFF open-ended). -/
  window : Option Nat := none
  /-- 16_cistern.md R367 instant at which an open-ended window was granted. -/
  windowAt : Nat := 0
  /-- 16_cistern.md R364 a switch away from the bay runs; the state it will take. -/
  draining : Option Nat := none
  /-- 16_cistern.md R366 retire nonce issued and valid. -/
  nonce : Option (List (BitVec 8)) := none
  /-- 16_cistern.md R374 function whose cistern.release waits. -/
  releaseFn : Option Nat := none
  deriving DecidableEq, Repr


/-- The Cistern. -/
structure Cist where
  /-- 16_cistern.md R356 bays CB0, CB1. -/
  bay : Tab Bay := []
  /-- 16_cistern.md Table 16.5 HK_SHARE, %. -/
  hkShare : BitVec 8 := 5
  /-- 16_cistern.md Table 16.5 CAP_WARN, %. -/
  capWarn : BitVec 8 := 90
  /-- 16_cistern.md R364 function whose cistern.swap waits. -/
  swapFn : Option Nat := none
  /-- 16_cistern.md CIST_PAGES_WRITTEN. -/
  pagesWritten : BitVec 48 := 0
  /-- 16_cistern.md CIST_REISSUED. -/
  reissued : BitVec 48 := 0
  /-- 16_cistern.md CIST_APPEND_ERR. -/
  appendErr : BitVec 48 := 0
  /-- 16_cistern.md CIST_STALLS. -/
  stallCnt : BitVec 48 := 0
  /-- 16_cistern.md CIST_SWAPS. -/
  swaps : BitVec 48 := 0
  /-- 16_cistern.md CIST_AUTH_FAIL. -/
  authFail : BitVec 48 := 0
  /-- 16_cistern.md CIST_HK_GRANTED_US. -/
  hkUs : BitVec 48 := 0
  deriving DecidableEq, Repr


/-- One client request of a channel. -/
structure DdrReq where
  /-- 17_dram.md Table 17.5 FAIL_CLIENT codes. -/
  client : Nat := 0
  /-- 17_dram.md R386 write. -/
  write : Bool := false
  /-- 17_dram.md R376 DRAM address. -/
  addr : BitVec 64 := 0
  /-- 17_dram.md R376 write data. -/
  data : List (BitVec 8) := []
  /-- 17_dram.md R379 R387 what its access will report. -/
  err : DramErr := .ok
  /-- 17_dram.md R392 function of a waiting dram.read. -/
  fn : Option Nat := none
  deriving DecidableEq, Repr


/-- One DRAM channel (DC0, DC1). -/
structure Ddr where
  /-- 17_dram.md Table 17.5 STATE. -/
  st : Nat := 0
  /-- 17_dram.md Table 17.5 SPEED. -/
  speed : BitVec 2 := 0
  /-- 17_dram.md R382 trained speed. -/
  trained : BitVec 2 := 0
  /-- 17_dram.md Table 17.5 DERATED. -/
  derated : Bool := false
  /-- 17_dram.md Table 17.5 REFRESH. -/
  refresh : BitVec 2 := 0
  /-- 17_dram.md Table 17.5 CAP_GIB. -/
  capGib : Nat := 0
  /-- 17_dram.md Table 17.5 CONTENT_KEPT. -/
  contentKept : Bool := false
  /-- 17_dram.md Table 17.5 FAIL_KIND. -/
  failKind : BitVec 3 := 0
  /-- 17_dram.md Table 17.5 FAIL_CLIENT. -/
  failClient : BitVec 3 := 0
  /-- 17_dram.md R389 poison list. -/
  poison : List Nat := []
  /-- 17_dram.md FAIL_ADDR. -/
  failAddr : BitVec 64 := 0
  /-- 17_dram.md FAIL_SYND. -/
  failSynd : BitVec 16 := 0
  /-- 17_dram.md SUB. -/
  failSub : Bool := false
  /-- 17_dram.md RANK. -/
  failRank : Bool := false
  /-- 17_dram.md FAIL_STAMP. -/
  failStamp : Nat := 0
  /-- 17_dram.md HIST as captured, oldest first (fewer: the rest read 0). -/
  hist : List (BitVec 64) := []
  /-- 17_dram.md R387 the last 32 commands issued, oldest first. -/
  recent : List (BitVec 64) := []
  /-- 17_dram.md R392 a freeze has occurred since reset. -/
  froze : Bool := false
  /-- 17_dram.md Table 17.6 instant of the last command (TICK counts from it). -/
  sinceTick : Nat := 0
  /-- 17_dram.md Table 17.4 SR_IDLE, us. -/
  srIdle : Nat := 8
  /-- 17_dram.md Table 17.4 PATROL_GAP, us. -/
  patrolGap : Nat := 10
  /-- 17_dram.md Table 17.4 AUTO_RECOVER, ms. -/
  autoRecover : Nat := 0
  /-- 17_dram.md R386 configuration to be taken at the next self-refresh exit. -/
  pendCfg : Option (Nat × Nat × Nat) := none
  /-- 17_dram.md R384 self-refresh entry is under way. -/
  srEntering : Bool := false
  /-- 17_dram.md R384 self-refresh exit is under way. -/
  srExiting : Bool := false
  /-- 17_dram.md R386 speed change due at the next exit. -/
  derateDue : Option Bool := none
  /-- 17_dram.md R386 drift update due after a speed change. -/
  driftDue : Bool := false
  /-- 17_dram.md R384 requests waiting, oldest first. -/
  queue : List DdrReq := []
  /-- 17_dram.md R381 next block of the patrol scrub, as an offset in the channel. -/
  patrolAt : Nat := 0
  /-- 17_dram.md R380 correctable errors of the last second by row. -/
  rowErrs : List (Nat × Nat) := []
  /-- 17_dram.md R389 controller reset and retraining run. -/
  recovering : Bool := false
  /-- 17_dram.md R392 that recovery was started by the Pumphouse. -/
  autoRun : Bool := false
  /-- 17_dram.md R392 function whose dram.recover waits. -/
  recoverFn : Option Nat := none
  /-- 17_dram.md R377 R388 cold tables of the firmware are present in the channel. -/
  cold : Bool := false
  /-- 17_dram.md R376 content, by offset in the channel. -/
  mem : Tab (BitVec 8) := []
  /-- 17_dram.md DDR_ECC_CORR. -/
  eccCorr : BitVec 48 := 0
  /-- 17_dram.md DDR_ECC_UNCORR. -/
  eccUncorr : BitVec 48 := 0
  /-- 17_dram.md DDR_CA_PARITY. -/
  caParity : BitVec 48 := 0
  /-- 17_dram.md DDR_WCRC_RETRY. -/
  wcrcRetry : BitVec 48 := 0
  /-- 17_dram.md DDR_SR_ENTRIES. -/
  srEntries : BitVec 48 := 0
  /-- 17_dram.md DDR_SR_WAITS. -/
  srWaits : BitVec 48 := 0
  /-- 17_dram.md DDR_FREEZES. -/
  freezes : BitVec 48 := 0
  /-- 17_dram.md DDR_DERATES. -/
  derates : BitVec 48 := 0
  /-- 17_dram.md DDR_PATROL_PASSES. -/
  patrolPasses : BitVec 48 := 0
  deriving DecidableEq, Repr


/-- The filled receive buffer whose writeback is held back. -/
structure RxBuf where
  /-- 19_host_rings.md R422 descriptor index. -/
  index : Nat := 0
  /-- 19_host_rings.md R416 buffer address. -/
  addr : BitVec 64 := 0
  /-- 19_host_rings.md Table 19.1 LEN. -/
  len : Nat := 0
  /-- 19_host_rings.md Table 19.1 SOP. -/
  sop : Bool := false
  deriving DecidableEq, Repr


/-- What the writebacks of the frame being delivered carry. -/
structure HostMeta where
  /-- 19_host_rings.md Table 19.1 STAMP. -/
  stamp : Nat := 0
  /-- 19_host_rings.md Table 19.1 FCS_BAD. -/
  fcsBad : Bool := false
  /-- 19_host_rings.md Table 19.1 CAUSE. -/
  cause : BitVec 8 := 0
  /-- 19_host_rings.md Table 19.1 PCLASS. -/
  pclass : BitVec 4 := 0
  /-- 19_host_rings.md Table 19.1 VERDICT. -/
  verdict : BitVec 4 := 0
  /-- 19_host_rings.md Table 19.1 IN_PORT. -/
  inPort : BitVec 8 := 0
  /-- 19_host_rings.md Table 19.1 TC. -/
  tc : BitVec 8 := 0
  /-- 19_host_rings.md Table 19.1 SRC_BERTH. -/
  srcBerth : BitVec 8 := 0
  /-- 19_host_rings.md Table 19.1 HASH. -/
  hash : BitVec 32 := 0
  deriving DecidableEq, Repr


/-- One receive ring. -/
structure RxRing where
  /-- 19_host_rings.md Table 19.5 SIZE. -/
  size : Nat := 0
  /-- 19_host_rings.md R413 BASE. -/
  base : BitVec 64 := 0
  /-- 19_host_rings.md Table 19.5 BUF_SIZE. -/
  bufSize : Nat := 2048
  /-- 19_host_rings.md Table 19.5 RX_WAIT, us. -/
  rxWait : Nat := 2
  /-- 19_host_rings.md Table 19.5 ITR_US. -/
  itrUs : Nat := 0
  /-- 19_host_rings.md Table 19.5 ITR_FRAMES. -/
  itrFrames : Nat := 0
  /-- 19_host_rings.md R425 settings to be taken at the next frame. -/
  pendCfg : Option (Nat × Nat × Nat) := none
  /-- 19_host_rings.md R421 producer index. -/
  prod : BitVec 16 := 0
  /-- 19_host_rings.md R428 next descriptor index. -/
  next : BitVec 16 := 0
  /-- 19_host_rings.md R426 ARM. -/
  armed : Bool := false
  /-- 19_host_rings.md R423 EOP writebacks not yet signalled. -/
  unsig : Nat := 0
  /-- 19_host_rings.md R422 frame being delivered. -/
  frame : Option Nat := none
  /-- 19_host_rings.md R422 bytes of it delivered. -/
  got : Nat := 0
  /-- 19_host_rings.md R416 fields of its writebacks. -/
  info : HostMeta := {}
  /-- 19_host_rings.md R417 bytes still to be delivered. -/
  rest : List (BitVec 8) := []
  /-- 19_host_rings.md R422 filled buffer whose writeback is held back. -/
  held : Option RxBuf := none
  /-- 19_host_rings.md R422 an RX_WAIT runs. -/
  waiting : Bool := false
  /-- 19_host_rings.md RX_FRAMES. -/
  frames : BitVec 48 := 0
  /-- 19_host_rings.md RX_BYTES. -/
  bytes : BitVec 48 := 0
  /-- 19_host_rings.md RX_TRUNC. -/
  trunc : BitVec 48 := 0
  /-- 19_host_rings.md DB_ERR. -/
  dbErr : BitVec 48 := 0
  deriving DecidableEq, Repr


/-- One transmit ring. -/
structure TxRing where
  /-- 19_host_rings.md Table 19.5 SIZE. -/
  size : Nat := 0
  /-- 19_host_rings.md R413 BASE. -/
  base : BitVec 64 := 0
  /-- 19_host_rings.md R426 TX_OK. -/
  txOk : Bool := false
  /-- 19_host_rings.md R425 TX_OK and moderation to be taken at the next frame. -/
  pendCfg : Option (Bool × Nat × Nat) := none
  /-- 19_host_rings.md Table 19.5 ITR_US. -/
  itrUs : Nat := 0
  /-- 19_host_rings.md Table 19.5 ITR_FRAMES. -/
  itrFrames : Nat := 0
  /-- 19_host_rings.md R421 producer index. -/
  prod : BitVec 16 := 0
  /-- 19_host_rings.md R428 next descriptor index. -/
  next : BitVec 16 := 0
  /-- 19_host_rings.md R426 ARM. -/
  armed : Bool := false
  /-- 19_host_rings.md R423 EOP writebacks not yet signalled. -/
  unsig : Nat := 0
  /-- 19_host_rings.md R418 descriptors of the frame being gathered, oldest first. -/
  cur : List TxDesc := []
  /-- 19_host_rings.md R418 an SOP has been seen. -/
  gathering : Bool := false
  /-- 19_host_rings.md R419 frames whose writeback waits for their fate, in ring order. -/
  pend : List TxFrame := []
  /-- 19_host_rings.md TX_FRAMES. -/
  frames : BitVec 48 := 0
  /-- 19_host_rings.md TX_DESC_ERR. -/
  descErr : BitVec 48 := 0
  /-- 19_host_rings.md TX_DROPPED. -/
  dropped : BitVec 48 := 0
  /-- 19_host_rings.md DB_ERR. -/
  dbErr : BitVec 48 := 0
  deriving DecidableEq, Repr


/-- Every berth's rings. -/
structure HostRings where
  /-- 19_host_rings.md R413 receive rings. -/
  rx : Tab RxRing := []
  /-- 19_host_rings.md R413 transmit rings. -/
  tx : Tab TxRing := []
  deriving DecidableEq, Repr


/-- One raised event before its latch. -/
structure SumpLine where
  /-- 20_sump.md Table 20.1 bit. -/
  src : Nat := 0
  /-- 20_sump.md Table 20.1 CODE. -/
  code : BitVec 16 := 0
  /-- 20_sump.md R430 UNIT. -/
  unit : BitVec 8 := 0
  /-- 20_sump.md R430 CAUSE. -/
  cause : BitVec 8 := 0
  /-- 20_sump.md R430 VALUE. -/
  value : BitVec 64 := 0
  /-- 20_sump.md R430 BERTH, BERTH_VALID. -/
  berth : Option Nat := none
  /-- 20_sump.md Table 20.2 KIND (0 EVENT, 2 INJECTED). -/
  kind : BitVec 2 := 0
  deriving DecidableEq, Repr


/-- One history entry. -/
structure Entry where
  /-- 20_sump.md Table 20.2 STAMP. -/
  stamp : Nat := 0
  /-- 20_sump.md Table 20.2 SOURCE. -/
  src : Nat := 0
  /-- 20_sump.md Table 20.2 KIND. -/
  kind : BitVec 2 := 0
  /-- 20_sump.md Table 20.2 BERTH, BERTH_VALID. -/
  berth : Option Nat := none
  /-- 20_sump.md Table 20.2 CODE. -/
  code : BitVec 16 := 0
  /-- 20_sump.md Table 20.2 UNIT and CAUSE (an OVERFLOW's n). -/
  n : Nat := 0
  /-- 20_sump.md Table 20.2 VALUE. -/
  value : BitVec 64 := 0
  /-- 20_sump.md Table 20.2 HSEQ. -/
  hseq : BitVec 32 := 0
  deriving DecidableEq, Repr


/-- The sump (always-on domain). -/
structure Sump where
  /-- 20_sump.md R429 error lines raised and not yet sampled. -/
  lines : List SumpLine := []
  /-- 20_sump.md R429 SUMP_STATUS. -/
  status : BitVec 64 := 0
  /-- 20_sump.md Table 20.6 ARMED. -/
  armed : Bool := true
  /-- 20_sump.md Table 20.6 SAFE. -/
  safe : Bool := false
  /-- 20_sump.md Table 20.6 SCOPE_ALL. -/
  scopeAll : Bool := false
  /-- 20_sump.md Table 20.6 KILL, level of KILL_N. -/
  kill : Bool := false
  /-- 20_sump.md Table 20.6 ERR. -/
  err : Bool := false
  /-- 20_sump.md Table 20.6 RUN_REACT. -/
  runReact : BitVec 6 := 0
  /-- 20_sump.md SUMP_MERGED. -/
  merged : BitVec 32 := 0
  /-- 20_sump.md HIST_COUNT. -/
  histCount : BitVec 32 := 0
  /-- 20_sump.md R434 SUMP_FIRST. -/
  first : Option Entry := none
  /-- 20_sump.md R431 history, by slot. -/
  hist : Tab Entry := []
  /-- 20_sump.md R432 pending buffer, in latch order. -/
  pendEv : List Entry := []
  /-- 20_sump.md R432 open OVERFLOW entry not yet in a pending slot. -/
  overflow : Option Entry := none
  /-- 20_sump.md R432 entry being written. -/
  writing : Option Entry := none
  /-- 20_sump.md Table 20.7 REACT (0xFF: the reset reaction of Table 20.1). -/
  react : Tab (BitVec 8) := []
  /-- 20_sump.md Table 20.5 CHIP_RST_DELAY, ms. -/
  chipRstMs : Nat := 1000
  /-- 20_sump.md R436 CHIP_RST_DELAY runs. -/
  chipRstRun : Bool := false
  /-- 20_sump.md R436 the running sequence has delivered INT. -/
  intDone : Bool := false
  /-- 20_sump.md R436 the running sequence has delivered NMI. -/
  nmiDone : Bool := false
  /-- 20_sump.md R435 block resets waiting to be applied by the Pumphouse. -/
  blockRst : List (Nat × Nat) := []
  /-- 20_sump.md SUMP_EVENTS. -/
  events : BitVec 48 := 0
  /-- 20_sump.md SUMP_COALESCED. -/
  coalesced : BitVec 48 := 0
  /-- 20_sump.md SUMP_SAFE_ENTRIES. -/
  safeEntries : BitVec 48 := 0
  /-- 20_sump.md SUMP_SAFE_DROP. -/
  safeDrop : BitVec 48 := 0
  /-- 20_sump.md SUMP_PARITY. -/
  parity : BitVec 48 := 0
  deriving DecidableEq, Repr


/-- Power domains, resets and supplies. -/
structure Pwr where
  /-- 21_power_reset.md Table 21.8 DOMAIN_ON. -/
  on : BitVec 144 := 0xFFFFFFFFFFFFFFFFFFFFFFFFFFFFFFFFFFFF
  /-- 21_power_reset.md R449 R457 domains that are switching and the functions waiting. -/
  switching : List (Nat × Bool × Option Nat) := []
  /-- 21_power_reset.md R449 the domain's block was in service when it was last switched off. -/
  back : BitVec 144 := 0xFFFFFFFFFFFFFFFFFFFFFFFFFFFFFFFFFFFF
  /-- 23_test.md R485 domains under test.mbist and the functions waiting. -/
  bist : List (Nat × Nat) := []
  /-- 21_power_reset.md Table 21.8 CAUSE. -/
  cause : BitVec 3 := 0
  /-- 21_power_reset.md Table 21.8 SUPPLY_OK. -/
  supplyOk : BitVec 7 := 0x7F
  /-- 21_power_reset.md Table 21.8 LASTGASP. -/
  lastGasp : Bool := false
  /-- 21_power_reset.md R453 cause a chip reset at the end of last gasp records. -/
  gaspCause : BitVec 3 := 0
  /-- 21_power_reset.md R460 PWRFAIL_N has deasserted with the supplies held. -/
  brownOut : Bool := false
  /-- 21_power_reset.md R457 a chip reset is pending. -/
  resetPending : Bool := false
  /-- 21_power_reset.md R458 level of PWRFAIL_N. -/
  pwrfail : Bool := false
  /-- 21_power_reset.md R451 PORST_N asserted. -/
  porst : Bool := false
  /-- 24_pins_electrical.md R497 a chip reset runs (until start-up). -/
  resetRun : Bool := false
  /-- 21_power_reset.md R457 start-up was abandoned by PWRFAIL_N before MBX_READY. -/
  restartUp : Bool := false
  /-- 21_power_reset.md PWR_DOMAIN_SWITCHES. -/
  switches : BitVec 48 := 0
  /-- 21_power_reset.md PWR_OFF_ACCESS. -/
  offAccess : BitVec 48 := 0
  /-- 21_power_reset.md PWR_LASTGASP. -/
  lastGasps : BitVec 48 := 0
  deriving DecidableEq, Repr


/-- Temperature sensors. -/
structure Therm where
  /-- 24_pins_electrical.md Table 24.10 WARN_TJ, degrees C. -/
  warnTj : Int := 115
  /-- 24_pins_electrical.md Table 24.12 TJ, 0.25 C. -/
  tj : Int := 0
  /-- 24_pins_electrical.md Table 24.12 HOTTEST. -/
  hottest : Nat := 0
  /-- 24_pins_electrical.md Table 24.12 THERM. -/
  thermN : Bool := false
  /-- 24_pins_electrical.md R510 THERM_N held with fewer than 8 sensors in use. -/
  held : Bool := false
  /-- 24_pins_electrical.md Table 24.12 TRIP. -/
  trip : Bool := false
  /-- 24_pins_electrical.md Table 24.10 THERM_WARN raised for WARN_TJ. -/
  warn : Bool := false
  /-- 24_pins_electrical.md Table 24.10 THERM_WARN raised for Tj below -55 C. -/
  cold : Bool := false
  /-- 24_pins_electrical.md Table 24.12 IN_USE. -/
  inUse : BitVec 16 := 0xFFFF
  /-- 24_pins_electrical.md Table 24.12 TS, 0.25 C. -/
  ts : Tab Int := []
  /-- 24_pins_electrical.md R510 consecutive deviating readings of each sensor. -/
  devRun : Tab Nat := []
  deriving DecidableEq, Repr


/-- Configuration of one programmable counter. -/
structure PcCfg where
  /-- 22_counters_trace.md Table 22.6 ENABLE. -/
  enable : Bool := false
  /-- 22_counters_trace.md Table 22.6 OVF_STOP. -/
  ovfStop : Bool := false
  /-- 22_counters_trace.md Table 22.6 EVENT. -/
  event : BitVec 16 := 0
  /-- 22_counters_trace.md Table 22.6 PRIV. -/
  priv : BitVec 8 := 0
  /-- 22_counters_trace.md Table 22.6 MASTER_KIND. -/
  mKind : BitVec 8 := 0
  /-- 22_counters_trace.md Table 22.6 MASTER_IDX. -/
  mIdx : BitVec 16 := 0
  /-- 22_counters_trace.md Table 22.6 ADDR_KIND. -/
  aKind : BitVec 8 := 0
  /-- 22_counters_trace.md Table 22.6 ADDR_SPACE. -/
  aSpace : BitVec 8 := 0
  /-- 22_counters_trace.md Table 22.6 CLASS_KIND. -/
  cKind : BitVec 8 := 0
  /-- 22_counters_trace.md Table 22.6 CLASS_MASK. -/
  cMask : BitVec 64 := 0
  /-- 22_counters_trace.md Table 22.6 ADDR_LO. -/
  lo : BitVec 64 := 0
  /-- 22_counters_trace.md Table 22.6 ADDR_HI. -/
  hi : BitVec 64 := 0
  /-- 22_counters_trace.md R477 CTRL byte as written (PC_CFG). -/
  ctrl : BitVec 8 := 0
  deriving DecidableEq, Repr


/-- Programmable counters and telemetry. -/
structure Pmon where
  /-- 22_counters_trace.md PC_VALUE. -/
  value : Tab (BitVec 48) := []
  /-- 22_counters_trace.md PC_CFG. -/
  cfg : Tab PcCfg := []
  /-- 22_counters_trace.md PC_SNAP. -/
  snap : Tab (BitVec 48) := []
  /-- 22_counters_trace.md PMON_OVF. -/
  ovf : BitVec 128 := 0
  /-- 22_counters_trace.md R468 counters that OVF_STOP has stopped. -/
  stopped : BitVec 128 := 0
  /-- 22_counters_trace.md PMON_SNAP_STAMP. -/
  snapStamp : Nat := 0
  /-- 22_counters_trace.md TELE_PERIOD, ms. -/
  telePeriod : Nat := 0
  /-- 22_counters_trace.md R470 telemetry ring, newest first. -/
  samples : List (List (BitVec 8)) := []
  /-- 22_counters_trace.md TELE_SKIPPED. -/
  teleSkipped : BitVec 48 := 0
  deriving DecidableEq, Repr


/-- The trace unit (always-on domain). -/
structure Trace where
  /-- 22_counters_trace.md Table 22.6 PH_TRACE. -/
  phOn : Bool := false
  /-- 22_counters_trace.md Table 22.6 FLOW_TRACE. -/
  flowOn : Bool := false
  /-- 22_counters_trace.md Table 22.6 STOP mode. -/
  stopMode : Bool := false
  /-- 22_counters_trace.md Table 22.4 FLOW_SHIFT. -/
  shift : Nat := 10
  /-- 22_counters_trace.md Table 22.4 FLOW_BERTHS. -/
  berths : BitVec 16 := 0
  /-- 22_counters_trace.md R473 frames of the selected berths counted since the last sample. -/
  flowCount : Nat := 0
  /-- 22_counters_trace.md R471 trace buffer. -/
  buf : Tab (List (BitVec 8)) := []
  /-- 22_counters_trace.md TRACE_WPTR next slot. -/
  wptr : Nat := 0
  /-- 22_counters_trace.md TRACE_WPTR WRAPPED. -/
  wrapped : Bool := false
  /-- 22_counters_trace.md TRACE_WPTR packets lost, saturating. -/
  lost : BitVec 16 := 0
  /-- 22_counters_trace.md R471 FIFO, oldest first. -/
  fifo : List (List (BitVec 8)) := []
  /-- 22_counters_trace.md R471 packets dropped since the last LOST packet. -/
  lostNow : Nat := 0
  /-- 22_counters_trace.md Table 22.3 LOST streams. -/
  lostStreams : BitVec 2 := 0
  /-- 22_counters_trace.md Table 22.2 TSEQ of the next packet. -/
  tseq : BitVec 16 := 0
  /-- 22_counters_trace.md R472 open BRANCH packet, first outcome first. -/
  branches : List Bool := []
  /-- 22_counters_trace.md R472 instruction-stream packets since the last SYNC. -/
  instPkts : Nat := 0
  /-- 22_counters_trace.md Table 22.3 instructions retired since enable. -/
  retired : BitVec 64 := 0
  /-- 22_counters_trace.md Table 22.3 PC of the next instruction to retire. -/
  nextPc : BitVec 64 := 0
  /-- 22_counters_trace.md R474 PC of the last retired instruction. -/
  pc : BitVec 64 := 0
  /-- 22_counters_trace.md R474 an IDLE_IN awaits its IDLE_OUT. -/
  idleOpen : Bool := false
  deriving DecidableEq, Repr


/-- Pattern generator and checker of one serial lane. -/
structure Lane where
  /-- 23_test.md R492 ACTIVE. -/
  active : Bool := false
  /-- 23_test.md R492 LOCKED. -/
  locked : Bool := false
  /-- 23_test.md R492 LOOP. -/
  loop : BitVec 2 := 0
  /-- 23_test.md R492 PATTERN. -/
  pattern : BitVec 3 := 0
  /-- 23_test.md Table 23.5 FLAGS (GEN, CHECK, INVERT_TX, INVERT_RX). -/
  flags : BitVec 8 := 0
  /-- 23_test.md Table 23.5 USER pattern. -/
  user : List (BitVec 8) := []
  /-- 23_test.md R483 function whose test.margin runs. -/
  marginFn : Option Nat := none
  /-- 23_test.md R483 PHASE offset in force. -/
  phase : Int := 0
  /-- 23_test.md R483 VOFF offset in force. -/
  voff : Int := 0
  /-- 23_test.md R483 LOCK_LOST of the point. -/
  mLost : Bool := false
  /-- 23_test.md R480 instant from which compared bits are still to be counted. -/
  lockedAt : Nat := 0
  /-- 23_test.md R492 BITS. -/
  bits : BitVec 48 := 0
  /-- 23_test.md R492 ERRORS. -/
  errors : BitVec 48 := 0
  /-- 23_test.md R492 LOCK_LOSS. -/
  lockLoss : BitVec 48 := 0
  deriving DecidableEq, Repr


/-- The test access port. -/
structure Tap where
  /-- 23_test.md R486 instruction in force. -/
  ir : JtagIr := .idcode
  deriving DecidableEq, Repr


end Sys2Proof.Machine
end

