-- ==== Sys2Proof/Machine/PathState.lean ====
section
/-! DEFINITION. State of the frames in flight and of everything on their path: pumps, strainer, tables, reservoir, berths, Weir and Windlass. -/

namespace Sys2Proof.Machine

/-- What a pump engine commits for a frame. -/
structure Parse where
  /-- 05_pumps.md Table 05.5 parse class. -/
  cls : BitVec 4 := 0
  /-- 05_pumps.md R125 ORDER mark (set before the class). -/
  order : Bool := false
  /-- 05_pumps.md Table 05.3 field registers F0 to F7. -/
  regs : List (BitVec 64) := []
  /-- 05_pumps.md Table 05.3 KEY0_SEL. -/
  key0 : BitVec 8 := 0
  /-- 05_pumps.md Table 05.3 KEY1_SEL. -/
  key1 : BitVec 8 := 0
  /-- 05_pumps.md Table 05.3 WEIR_FIELD: code to field register. -/
  weir : Tab Nat := []
  /-- 05_pumps.md R126 identity digest. -/
  digest : BitVec 64 := 0
  /-- 05_pumps.md R119 header stack (type, start), bottom first. -/
  hdrs : List (Nat × Nat) := []
  /-- 05_pumps.md R130 generation of the engine that parsed. -/
  gen : BitVec 8 := 0
  /-- 05_pumps.md R114 engine that parsed. -/
  engine : Nat := 0
  deriving DecidableEq, Repr


/-- Updates an ACCEPT made (R234), kept for a reversal (R235). -/
structure Updates where
  /-- 10_weir_windlass.md R234 account. -/
  account : BitVec 32 := 0
  /-- 10_weir_windlass.md R234 instrument. -/
  instrument : BitVec 32 := 0
  /-- 10_weir_windlass.md R228 change made to POSITION. -/
  delta : Int := 0
  /-- 10_weir_windlass.md R228 change made to CREDIT_USED. -/
  credit : Int := 0
  /-- 10_weir_windlass.md R239 firm group of the account. -/
  group : Nat := 0
  /-- 10_weir_windlass.md R239 amount added to LOCAL_CUR. -/
  localAdd : Nat := 0
  deriving DecidableEq, Repr


/-- One frame in flight, from its SFD until its fate is final and its copies have ended. -/
structure Frame where
  /-- 01_order_path.md R21 where the frame came from. -/
  src : FrameSrc := .port 0
  /-- 09_berths.md R211 the frame's berth (16 for system traffic). -/
  berth : Nat := 0
  /-- 01_order_path.md R27 bytes received, FCS included. -/
  bytes : List (BitVec 8) := []
  /-- 01_order_path.md R22 ingress rate. -/
  rate : Nat := 1
  /-- 08_ferry_reservoir.md R200 ingress class. -/
  pclass : Nat := 0
  /-- 01_order_path.md R28 ingress stamp Ts. -/
  ts : Nat := 0
  /-- 02_tide_gauge.md R52 sync-state word at the ingress stamp. -/
  sync : BitVec 32 := 0
  /-- 02_tide_gauge.md R57 time-fail condition sampled at the ingress stamp. -/
  tfcFail : Bool := false
  /-- 02_tide_gauge.md R63 a phase step has fallen since the ingress stamp. -/
  seenEpochStep : Bool := false
  /-- 03_self_timed_core.md R81 LAT_BOUND at the ingress stamp. -/
  latBound : BitVec 10 := 0
  /-- 01_order_path.md R27 the last byte has been received. -/
  ended : Bool := false
  /-- 01_order_path.md R27 the ingress FCS was wrong. -/
  fcsBad : Bool := false
  /-- 04_river_ports.md R96 ended at 9,216 bytes. -/
  oversize : Bool := false
  /-- 05_pumps.md R123 ended before 64 bytes. -/
  runt : Bool := false
  /-- 02_tide_gauge.md R51 marked a PTP event message by the ingress recogniser. -/
  ptpEvent : Bool := false
  /-- 08_ferry_reservoir.md R191 bank group of each cell taken, in order. -/
  cells : List Nat := []
  /-- 08_ferry_reservoir.md R191 how many of the cells came from the guarantee. -/
  guarCells : Nat := 0
  /-- 08_ferry_reservoir.md R191 the reservoir copy is incomplete. -/
  copyLost : Bool := false
  /-- 08_ferry_reservoir.md R186 egress port and TC of its launch set. -/
  lset : Option (Nat × Nat) := none
  /-- 01_order_path.md R23 the launch lookup has been made. -/
  lookedUp : Bool := false
  /-- 01_order_path.md R23 launched on the ferry lane. -/
  launched : Bool := false
  /-- 01_order_path.md R23 outcome of the confirm compare. -/
  confirmed : Option Bool := none
  /-- 08_ferry_reservoir.md R189 the ferry transmission has started. -/
  onWire : Bool := false
  /-- 01_order_path.md R31 D has passed. -/
  decided : Bool := false
  /-- 01_order_path.md R34 stomp reason of the ferry attempt. -/
  stomp : BitVec 4 := 0
  /-- 01_order_path.md R39 SAFE applies to the transmission. -/
  safeStomp : Bool := false
  /-- 01_order_path.md R37 egress stamp of the ferry transmission. -/
  ferryTe : Nat := 0
  /-- 01_order_path.md R37 egress stamp of the deciding transmission, 0 for none. -/
  te : Nat := 0
  /-- 01_order_path.md R37 river port of the deciding transmission. -/
  txPort : Nat := 0
  /-- 15_ledger.md Table 15.4 what the deciding egress was. -/
  txKind : BitVec 2 := 0
  /-- 05_pumps.md R114 pump engine holding its context. -/
  engine : Option Nat := none
  /-- 05_pumps.md R129 profile enable in force at its dispatch. -/
  profEnable : Bool := false
  /-- 05_pumps.md R129 profile entry in force at its dispatch. -/
  profEntry : BitVec 14 := 0
  /-- 05_pumps.md R129 class actions in force at its dispatch. -/
  actions : Tab (BitVec 2) := []
  /-- 05_pumps.md R129 mirror destinations in force at its dispatch. -/
  mirror : Tab (BitVec 16) := []
  /-- 05_pumps.md R115 never to be parsed. -/
  unparsed : Bool := false
  /-- 05_pumps.md R116 the parse result has committed. -/
  committed : Bool := false
  /-- 05_pumps.md R116 the committed parse result. -/
  parse : Parse := {}
  /-- 05_pumps.md R134 REPARSED mark. -/
  reparsed : Bool := false
  /-- 06_strainer.md R147 lookup result. -/
  strn : Option (BitVec 64) := none
  /-- 06_strainer.md R148 match context it holds. -/
  ctxSlot : Option Nat := none
  /-- 10_weir_windlass.md R227 verdict as it finally arrived. -/
  verdict : BitVec 4 := 0
  /-- 10_weir_windlass.md R227 reject or hold reason. -/
  reason : BitVec 8 := 0
  /-- 10_weir_windlass.md R234 the verdict has arrived. -/
  judged : Bool := false
  /-- 10_weir_windlass.md R234 updates made by the ACCEPT. -/
  upd : Option Updates := none
  /-- 10_weir_windlass.md R235 REVERSED flag. -/
  reversed : Bool := false
  /-- 01_order_path.md Table 01.3 being judged again after MISFERRY. -/
  again : Bool := false
  /-- 07_tables.md R175 forwarding result. -/
  fwd : Option (BitVec 32) := none
  /-- 07_tables.md R180 the lookup missed, and the result is a miss action's. -/
  fwdMiss : Bool := false
  /-- 14_remote_memory.md R314 an RDMA frame: its result is delivery to the RDMA engine. -/
  rdma : Bool := false
  /-- 07_tables.md R182 FWD_ERR flag. -/
  fwdErr : Bool := false
  /-- 10_weir_windlass.md R237 HOLD_ID while held. -/
  holdId : Option Nat := none
  /-- 10_weir_windlass.md R238 HELD flag. -/
  wasHeld : Bool := false
  /-- 08_ferry_reservoir.md R193 R194 queues that hold an entry for it. -/
  queued : List Nat := []
  /-- 08_ferry_reservoir.md R197 queues whose copy is in transmission. -/
  sending : List Nat := []
  /-- 04_river_ports.md R104 instant of its enqueue. -/
  enqAt : Nat := 0
  /-- 08_ferry_reservoir.md R193 its reservoir path is settled: queued, dropped or not needed. -/
  routed : Bool := false
  /-- 08_ferry_reservoir.md R189 it waited in the ferry FIFO. -/
  ferryWait : Bool := false
  /-- 01_order_path.md R36 queue of its mirror copy. -/
  mirrorQ : Option Nat := none
  /-- 01_order_path.md R37 nothing more of it will be transmitted. -/
  closed : Bool := false
  /-- 01_order_path.md R37 the fate is final. -/
  fate : Bool := false
  /-- 15_ledger.md R343 record slot at commit: 1 reserved, 2 refused under HOLD, 3 under GAP. -/
  slot : Nat := 0
  /-- 15_ledger.md Table 15.2 loss flags gathered so far. -/
  flags : BitVec 16 := 0
  deriving DecidableEq, Repr


/-- A berth's framing profile and actions. -/
structure PumpB where
  /-- 05_pumps.md R117 profile enable. -/
  enable : Bool := false
  /-- 05_pumps.md R117 profile entry address. -/
  entry : BitVec 14 := 0
  /-- 05_pumps.md R124 action of each class 1 to 8. -/
  action : Tab (BitVec 2) := []
  /-- 05_pumps.md Table 05.11 MIRROR of each class. -/
  mirror : Tab (BitVec 16) := []
  /-- 05_pumps.md R137 class counters, class 0 to 8. -/
  counts : Tab (BitVec 48) := []
  deriving DecidableEq, Repr


/-- One pump engine (16 of them). -/
structure Engine where
  /-- 05_pumps.md Table 05.8 ROTATION. -/
  inRotation : Bool := true
  /-- 05_pumps.md Table 05.8 FAILED. -/
  failed : Bool := false
  /-- 05_pumps.md Table 05.8 NEWGEN. -/
  newest : Bool := true
  /-- 05_pumps.md R139 generation. -/
  gen : BitVec 8 := 0
  /-- 05_pumps.md R138 SHA-256 of the image it runs (empty: no image, reads 32 zero bytes). -/
  digest : List (BitVec 8) := []
  /-- 05_pumps.md Table 05.1 micro-store. -/
  micro : Tab (BitVec 20) := []
  /-- 05_pumps.md Table 05.3 nano-store. -/
  nano : Tab (BitVec 192) := []
  /-- 05_pumps.md R133 words whose parity is wrong, micro-store. -/
  microBad : Tab Bool := []
  /-- 05_pumps.md R133 words whose parity is wrong, nano-store. -/
  nanoBad : Tab Bool := []
  /-- 05_pumps.md R114 header contexts in use. -/
  ctx : List Nat := []
  /-- 05_pumps.md R130 taken from rotation by the patch, draining. -/
  patching : Bool := false
  deriving DecidableEq, Repr


/-- One fragment-table entry. -/
structure FragEntry where
  /-- 05_pumps.md R127 source address. -/
  src : List (BitVec 8) := []
  /-- 05_pumps.md R127 destination address. -/
  dst : List (BitVec 8) := []
  /-- 05_pumps.md R127 protocol. -/
  proto : BitVec 8 := 0
  /-- 05_pumps.md R127 identification. -/
  ident : BitVec 32 := 0
  /-- 05_pumps.md R127 berth. -/
  berth : Nat := 0
  /-- 05_pumps.md R127 class. -/
  cls : BitVec 4 := 0
  /-- 05_pumps.md R127 verdict. -/
  verdict : BitVec 4 := 0
  /-- 05_pumps.md R127 reason that goes with the verdict. -/
  reason : BitVec 8 := 0
  /-- 05_pumps.md R127 forwarding result. -/
  fwd : Option (BitVec 32) := none
  /-- 05_pumps.md R127 ingress stamp of the first fragment. -/
  ts : Nat := 0
  /-- 05_pumps.md R127 the first fragment, while its outcome is still coming. -/
  frame : Nat := 0
  deriving DecidableEq, Repr


/-- The manifold and the pump engines. -/
structure Pump where
  /-- 05_pumps.md R114 pump engines. -/
  engine : Tab Engine := []
  /-- 05_pumps.md R114 rotating pointer. -/
  ptr : Nat := 0
  /-- 05_pumps.md R115 manifold holding buffer, oldest first. -/
  holding : List Nat := []
  /-- 05_pumps.md Table 05.8 GEN. -/
  gen : BitVec 8 := 0
  /-- 05_pumps.md Table 05.8 LOCK_USED. -/
  lockUsed : Bool := false
  /-- 05_pumps.md R130 engines the running patch has still to patch, the first is draining. -/
  patchLeft : List Nat := []
  /-- 05_pumps.md R130 the engine being patched has loaded; its CONFIG records are being written. -/
  patchLoaded : Bool := false
  /-- 05_pumps.md R135 R138 the committed (current) image. -/
  patchImg : Tab (BitVec 8) := []
  /-- 05_pumps.md R130 committed digest. -/
  patchDigest : List (BitVec 8) := []
  /-- 05_pumps.md R138 staging area of pump.stage. -/
  staging : Tab (BitVec 8) := []
  /-- 05_pumps.md R136 an image has been staged. -/
  staged : Bool := false
  /-- 05_pumps.md Table 05.7 FRAG_AGE, us. -/
  fragAge : BitVec 32 := 2000
  /-- 05_pumps.md R127 fragment table. -/
  frag : Tab FragEntry := []
  /-- 05_pumps.md R117 profiles. -/
  berth : Tab PumpB := []
  /-- 05_pumps.md R133 engine next to run the golden header. -/
  selfNext : Nat := 0
  /-- 05_pumps.md Table 05.9 PUMP_NANO_DISCARD. -/
  nanoDiscard : BitVec 48 := 0
  /-- 05_pumps.md Table 05.9 PUMP_REPARSED. -/
  reparsed : BitVec 48 := 0
  /-- 05_pumps.md Table 05.9 PUMP_NO_CONTEXT. -/
  noContext : BitVec 48 := 0
  /-- 05_pumps.md Table 05.9 PUMP_DISPATCH_WAIT. -/
  dispatchWait : BitVec 48 := 0
  /-- 05_pumps.md Table 05.9 PUMP_FRAG_STORED. -/
  fragStored : BitVec 48 := 0
  /-- 05_pumps.md Table 05.9 PUMP_FRAG_FULL. -/
  fragFull : BitVec 48 := 0
  /-- 05_pumps.md Table 05.9 PUMP_FRAG_AGED. -/
  fragAged : BitVec 48 := 0
  /-- 05_pumps.md Table 05.9 PUMP_SELFCHECK. -/
  selfCheck : BitVec 48 := 0
  deriving DecidableEq, Repr


/-- One match context (64 per berth). -/
structure MatchCtx where
  /-- 06_strainer.md R148 in use. -/
  live : Bool := false
  /-- 06_strainer.md R148 rule key. -/
  key : List (BitVec 8) := []
  /-- 06_strainer.md R148 current position (RBASE - 1 when every predecessor was deleted). -/
  pos : Int := 0
  /-- 06_strainer.md R148 sequence 1 to 63. -/
  seq : Nat := 1
  /-- 06_strainer.md R148 frame whose fate frees it. -/
  frame : Option Nat := none
  /-- 06_strainer.md R148 instant of allocation. -/
  since : Nat := 0
  deriving DecidableEq, Repr


/-- One ordered rule entry (16,384 of them). -/
structure Rule where
  /-- 06_strainer.md Table 06.2 VALUE. -/
  value : List (BitVec 8) := []
  /-- 06_strainer.md Table 06.2 MASK. -/
  mask : List (BitVec 8) := []
  /-- 06_strainer.md Table 06.2 RULE_ID (0: the entry is invalid). -/
  ruleId : BitVec 16 := 0
  /-- 06_strainer.md Table 06.2 RESULT. -/
  result : BitVec 32 := 0
  /-- 06_strainer.md R157 uncorrectable error found. -/
  damaged : Bool := false
  deriving DecidableEq, Repr


/-- A block move in progress. -/
structure Move where
  /-- 06_strainer.md R151 1 delete, 0 insert. -/
  del : Bool := false
  /-- 06_strainer.md R150 index of the insert or delete. -/
  index : Nat := 0
  /-- 06_strainer.md R150 next entry to move. -/
  cur : Nat := 0
  /-- 06_strainer.md R150 entry to be written. -/
  entry : Rule := {}
  /-- 06_strainer.md R160 function whose command waits. -/
  fn : Nat := 0
  deriving DecidableEq, Repr


/-- A berth's share of the strainer. -/
structure StrnB where
  /-- 06_strainer.md R145 RBASE. -/
  rbase : Nat := 0
  /-- 06_strainer.md R145 RSIZE. -/
  rsize : Nat := 0
  /-- 06_strainer.md R145 RCOUNT. -/
  rcount : Nat := 0
  /-- 06_strainer.md R143 PQUOTA. -/
  pquota : Nat := 0
  /-- 06_strainer.md R143 SQUOTA. -/
  squota : Nat := 0
  /-- 06_strainer.md Table 06.4 SCAN_OFF. -/
  scanOff : BitVec 8 := 14
  /-- 06_strainer.md Table 06.4 SCAN_LEN. -/
  scanLen : BitVec 16 := 0
  /-- 06_strainer.md R159 NOMATCH. -/
  onNoMatch : BitVec 4 := 1
  /-- 06_strainer.md Table 06.4 HANDLE_AGE, us. -/
  handleAge : BitVec 16 := 100
  /-- 06_strainer.md Table 06.7 pattern staging area. -/
  staging : Tab (BitVec 8) := []
  /-- 06_strainer.md Table 06.7 length of the staged image. -/
  stagedLen : Nat := 0
  /-- 06_strainer.md R143 installed pattern set. -/
  image : List (BitVec 8) := []
  /-- 06_strainer.md R143 committed set whose CONFIG record is not yet in the chain. -/
  pend : Option (List (BitVec 8)) := none
  /-- 06_strainer.md R143 patterns of the installed set. -/
  patterns : Nat := 0
  /-- 06_strainer.md R160 pattern-set digest (empty reads 32 zero bytes). -/
  digest : List (BitVec 8) := []
  /-- 06_strainer.md R157 bit k: SUk's copy of the automaton is DAMAGED. -/
  autoDamaged : BitVec 4 := 0
  /-- 06_strainer.md STRN_HIT. -/
  hit : BitVec 48 := 0
  /-- 06_strainer.md STRN_NOMATCH. -/
  nomatchCnt : BitVec 48 := 0
  deriving DecidableEq, Repr


/-- The strainer. -/
structure Strn where
  /-- 06_strainer.md Table 06.5 UNITS. -/
  units : BitVec 4 := 0xF
  /-- 06_strainer.md R145 per-berth settings. -/
  berth : Tab StrnB := []
  /-- 06_strainer.md R145 ordered rule table. -/
  rule : Tab Rule := []
  /-- 06_strainer.md R148 match contexts, key 64 b + slot. -/
  ctx : Tab MatchCtx := []
  /-- 06_strainer.md R154 move in progress of each berth. -/
  move : Tab (Option Move) := []
  /-- 06_strainer.md R154 berth next in the move rotation. -/
  moveNext : Nat := 0
  /-- 06_strainer.md R157 next word of background flushing. -/
  flushAt : Nat := 0
  /-- 06_strainer.md STRN_LOOKUPS. -/
  lookups : BitVec 48 := 0
  /-- 06_strainer.md STRN_MULTI. -/
  multi : BitVec 48 := 0
  /-- 06_strainer.md STRN_MOVE_STEPS. -/
  moveSteps : BitVec 48 := 0
  /-- 06_strainer.md STRN_HANDLE_FULL. -/
  handleFull : BitVec 48 := 0
  /-- 06_strainer.md STRN_ECC_CORR. -/
  eccCorr : BitVec 48 := 0
  /-- 06_strainer.md STRN_ECC_UNCORR. -/
  eccUncorr : BitVec 48 := 0
  deriving DecidableEq, Repr


/-- One L2 entry. -/
structure L2Entry where
  /-- 07_tables.md R170 used. -/
  valid : Bool := false
  /-- 07_tables.md R170 berth. -/
  berth : Nat := 0
  /-- 07_tables.md R162 FID. -/
  fid : BitVec 12 := 0
  /-- 07_tables.md R162 MAC. -/
  mac : List (BitVec 8) := []
  /-- 07_tables.md Table 07.1 result. -/
  result : BitVec 32 := 0
  /-- 07_tables.md R172 static. -/
  static : Bool := false
  /-- 07_tables.md R173 HIT. -/
  hit : Bool := false
  deriving DecidableEq, Repr


/-- One host-table entry. -/
structure HostEntry where
  /-- 07_tables.md R169 used. -/
  valid : Bool := false
  /-- 07_tables.md R170 berth. -/
  berth : Nat := 0
  /-- 07_tables.md R169 address. -/
  addr : List (BitVec 8) := []
  /-- 07_tables.md Table 07.1 result. -/
  result : BitVec 32 := 0
  deriving DecidableEq, Repr


/-- One installed prefix. -/
structure Route where
  /-- 07_tables.md R168 berth. -/
  berth : Nat := 0
  /-- 07_tables.md R168 family. -/
  v6 : Bool := false
  /-- 07_tables.md R169 length. -/
  len : Nat := 0
  /-- 07_tables.md R168 prefix bits, right-aligned in 32 or 128. -/
  pfx : Nat := 0
  /-- 07_tables.md Table 07.1 result. -/
  result : BitVec 32 := 0
  deriving DecidableEq, Repr


/-- One allocated trie node (its slots hold what R168 derives from the prefixes). -/
structure TrieNode where
  /-- 07_tables.md R168 berth. -/
  berth : Nat := 0
  /-- 07_tables.md R168 family. -/
  v6 : Bool := false
  /-- 07_tables.md Table 07.2 memory M1 to M6. -/
  level : Nat := 0
  /-- 07_tables.md R168 address bits above the node. -/
  path : Nat := 0
  /-- 07_tables.md Table 07.2 node number in its memory. -/
  num : Nat := 0
  deriving DecidableEq, Repr


/-- One ECMP group. -/
structure Ecmp where
  /-- 07_tables.md R179 first member slot. -/
  base : Nat := 0
  /-- 07_tables.md R166 COUNT (0: the group holds nothing). -/
  count : Nat := 0
  deriving DecidableEq, Repr


/-- One multicast group. -/
structure Mcast where
  /-- 07_tables.md R167 port mask. -/
  ports : BitVec 64 := 0
  /-- 07_tables.md R167 ring mask. -/
  rings : BitVec 4 := 0
  deriving DecidableEq, Repr


/-- A berth's forwarding settings. -/
structure FwdB where
  /-- 07_tables.md R161 FWD_MODE. -/
  mode : BitVec 2 := 0
  /-- 07_tables.md R172 LEARN. -/
  learn : Bool := false
  /-- 07_tables.md R174 L2_MISS. -/
  l2Miss : BitVec 2 := 0
  /-- 07_tables.md R174 ROUTE_MISS. -/
  routeMiss : BitVec 2 := 0
  /-- 07_tables.md R166 ECMP_KEY0. -/
  ecmpKey0 : Bool := false
  /-- 07_tables.md R162 DEF_VLAN. -/
  defVlan : BitVec 12 := 1
  /-- 07_tables.md R174 FLOOD_GROUP. -/
  floodGroup : BitVec 16 := 0
  /-- 07_tables.md Table 07.5 L2_AGE, s. -/
  l2Age : BitVec 32 := 300
  /-- 07_tables.md R171 partition BASE of each table. -/
  base : Tab Nat := []
  /-- 07_tables.md R171 partition SIZE of each table. -/
  size : Tab Nat := []
  /-- 07_tables.md R168 IPv4 root. -/
  root4 : Option Nat := none
  /-- 07_tables.md R168 IPv6 root. -/
  root6 : Option Nat := none
  /-- 07_tables.md L2 hits. -/
  l2Hit : BitVec 48 := 0
  /-- 07_tables.md L2 misses. -/
  l2MissCnt : BitVec 48 := 0
  /-- 07_tables.md route hits. -/
  rHit : BitVec 48 := 0
  /-- 07_tables.md route misses. -/
  rMiss : BitVec 48 := 0
  deriving DecidableEq, Repr


/-- Protection of one table (7 of them). -/
structure Prot where
  /-- 07_tables.md R176 PROT_MODE. -/
  sounding : Bool := false
  /-- 07_tables.md R176 REPAIR. -/
  repair : Bool := false
  /-- 07_tables.md Table 07.8 SHADOW. -/
  shadow : BitVec 64 := 0
  /-- 07_tables.md R183 STORM. -/
  storm : Bool := false
  /-- 07_tables.md R183 mismatches in this pass. -/
  mismatches : Nat := 0
  /-- 07_tables.md R178 next word of each memory's pass. -/
  cursor : Tab Nat := []
  /-- 07_tables.md R181 sounding paused on a frozen channel. -/
  paused : Bool := false
  /-- 17_dram.md R388 the shadow has been lost and not yet rewritten: no repair from it. -/
  shadowLost : Bool := false
  deriving DecidableEq, Repr


/-- The forwarding tables. -/
structure Fwd where
  /-- 07_tables.md Table 07.6 FWD_HASH_SEED (RW). -/
  seed : BitVec 32 := 0
  /-- 07_tables.md R161 berth settings. -/
  berth : Tab FwdB := []
  /-- 07_tables.md Table 07.2 L2, key 4 bucket + way. -/
  l2 : Tab L2Entry := []
  /-- 07_tables.md Table 07.2 host table, key 4 bucket + way. -/
  host : Tab HostEntry := []
  /-- 07_tables.md R168 prefixes held by the tries. -/
  routes : List Route := []
  /-- 07_tables.md R168 trie nodes in use. -/
  nodes : List TrieNode := []
  /-- 07_tables.md Table 07.2 multicast groups. -/
  mcast : Tab Mcast := []
  /-- 07_tables.md Table 07.2 ECMP groups. -/
  ecmp : Tab Ecmp := []
  /-- 07_tables.md Table 07.2 ECMP member slots. -/
  member : Tab (BitVec 32) := []
  /-- 07_tables.md R182 poisoned words (table, memory, index); FWD_POISONED is their number. -/
  poison : List (Nat × Nat × Nat) := []
  /-- 07_tables.md R176 protection of each table. -/
  prot : Tab Prot := []
  /-- 07_tables.md FWD_LOOKUPS. -/
  lookups : BitVec 48 := 0
  /-- 07_tables.md FWD_L2_LEARN. -/
  learnCnt : BitVec 48 := 0
  /-- 07_tables.md FWD_L2_LEARN_FULL. -/
  learnFull : BitVec 48 := 0
  /-- 07_tables.md FWD_L2_AGED. -/
  aged : BitVec 48 := 0
  /-- 07_tables.md FWD_L2_MOVES. -/
  moves : BitVec 48 := 0
  /-- 07_tables.md FWD_MISS_DROP. -/
  missDrop : BitVec 48 := 0
  /-- 07_tables.md FWD_ECC_CORR. -/
  eccCorr : BitVec 48 := 0
  /-- 07_tables.md FWD_ECC_UNCORR. -/
  eccUncorr : BitVec 48 := 0
  /-- 07_tables.md FWD_ECC_DROP. -/
  eccDrop : BitVec 48 := 0
  /-- 07_tables.md FWD_SOUND_MISMATCH. -/
  soundMismatch : BitVec 48 := 0
  /-- 07_tables.md FWD_SOUND_REPAIR. -/
  soundRepair : BitVec 48 := 0
  /-- 07_tables.md FWD_SOUND_PAUSED. -/
  soundPaused : BitVec 48 := 0
  deriving DecidableEq, Repr


/-- One ferry-gate entry (8,192 of them). -/
structure FerryEntry where
  /-- 08_ferry_reservoir.md R186 in use. -/
  valid : Bool := false
  /-- 08_ferry_reservoir.md Table 08.6 IN_PORT. -/
  inPort : BitVec 8 := 0
  /-- 08_ferry_reservoir.md Table 08.6 EG_PORT. -/
  egPort : BitVec 8 := 0
  /-- 08_ferry_reservoir.md Table 08.6 TC. -/
  tc : BitVec 8 := 0
  /-- 08_ferry_reservoir.md Table 08.6 L4_PROTO. -/
  proto : BitVec 8 := 0
  /-- 08_ferry_reservoir.md Table 08.6 DMAC. -/
  dmac : List (BitVec 8) := []
  /-- 08_ferry_reservoir.md Table 08.6 VLAN. -/
  vlan : BitVec 16 := 0
  /-- 08_ferry_reservoir.md Table 08.6 L4_PORT. -/
  l4port : BitVec 16 := 0
  /-- 08_ferry_reservoir.md Table 08.6 L4_ANY. -/
  l4any : Bool := false
  /-- 08_ferry_reservoir.md R204 invalidated by an uncorrectable error, until the entry is rewritten. -/
  ecc : Bool := false
  deriving DecidableEq, Repr


/-- One token-bucket shaper. -/
structure Shaper where
  /-- 08_ferry_reservoir.md R205 ENABLE. -/
  enabled : Bool := false
  /-- 08_ferry_reservoir.md R205 has been enabled before. -/
  everOn : Bool := false
  /-- 08_ferry_reservoir.md Table 08.3 RATE, Mb/s (none: port speed, the default). -/
  rate : Option (BitVec 32) := none
  /-- 08_ferry_reservoir.md Table 08.3 BURST, bytes. -/
  burst : BitVec 32 := 16384
  /-- 08_ferry_reservoir.md Table 08.3 OVERHEAD, bytes. -/
  overhead : BitVec 8 := 20
  /-- 08_ferry_reservoir.md R198 level at the instant since. -/
  level : Int := 0
  /-- 08_ferry_reservoir.md R198 part of 1/256 byte accrued below the level's step. -/
  frac : Nat := 0
  /-- 08_ferry_reservoir.md R198 instant to which the level has been filled. -/
  since : Nat := 0
  deriving DecidableEq, Repr


/-- One of the 656 queues. -/
structure Queue where
  /-- 08_ferry_reservoir.md R193 frames queued, head first. -/
  entries : List Nat := []
  /-- 08_ferry_reservoir.md R205 MODE as set (none: SP for TC 7, else DRR). -/
  sp : Option Bool := none
  /-- 08_ferry_reservoir.md Table 08.3 QUANTUM. -/
  quantum : BitVec 32 := 2048
  /-- 08_ferry_reservoir.md Table 08.3 QMAX. -/
  qmax : BitVec 32 := 16384
  /-- 08_ferry_reservoir.md R205 SAFE_STOP as set (none: set on river-port and host queues). -/
  safeStop : Option Bool := none
  /-- 08_ferry_reservoir.md R197 deficit. -/
  deficit : Int := 0
  /-- 08_ferry_reservoir.md R198 shaper. -/
  shaper : Shaper := {}
  /-- 08_ferry_reservoir.md Table 08.4 QTX. -/
  tx : BitVec 48 := 0
  /-- 08_ferry_reservoir.md Table 08.4 QDROP. -/
  drop : BitVec 48 := 0
  deriving DecidableEq, Repr


/-- The egress side of one river port. -/
structure Egress where
  /-- 08_ferry_reservoir.md R189 ferry FIFO, head first. -/
  fifo : List Nat := []
  /-- 20_sump.md R439 instant at which that transmission started. -/
  since : Nat := 0
  /-- 20_sump.md R439 bytes of that transmission sent as received before SAFE blanked it. -/
  blank : Option Nat := none
  /-- 01_order_path.md R28 egress stamp of that transmission. -/
  te : Nat := 0
  /-- 08_ferry_reservoir.md R197 frame in transmission and the queue it came from (1000: the ferry FIFO). -/
  busy : Option (Nat × Nat) := none
  /-- 08_ferry_reservoir.md R198 port shaper. -/
  shaper : Shaper := {}
  /-- 08_ferry_reservoir.md R197 DRR queue whose turn it is. -/
  drrNext : Nat := 0
  /-- 08_ferry_reservoir.md R197 that queue's turn has not yet begun. -/
  drrFresh : Bool := true
  /-- 08_ferry_reservoir.md R200 XOFF of each class, key 8 for Pause. -/
  xoff : Tab (BitVec 32) := []
  /-- 08_ferry_reservoir.md R200 XON of each class, key 8 for Pause. -/
  xon : Tab (BitVec 32) := []
  deriving DecidableEq, Repr


/-- A berth's reservoir and ferry quota. -/
structure RsvB where
  /-- 08_ferry_reservoir.md R186 FBASE. -/
  fbase : Nat := 0
  /-- 08_ferry_reservoir.md R186 FSIZE. -/
  fsize : Nat := 0
  /-- 08_ferry_reservoir.md R191 GUAR. -/
  guar : Nat := 0
  /-- 08_ferry_reservoir.md R191 MAX. -/
  max : Nat := 16384
  /-- 08_ferry_reservoir.md Table 08.4 BHELD. -/
  held : Nat := 0
  /-- 08_ferry_reservoir.md R191 cells held from the guarantee. -/
  heldGuar : Nat := 0
  deriving DecidableEq, Repr


/-- Ferry gate, reservoir and egress scheduling. -/
structure Rsv where
  /-- 08_ferry_reservoir.md R186 ferry gate. -/
  ferry : Tab FerryEntry := []
  /-- 08_ferry_reservoir.md R191 quotas. -/
  berth : Tab RsvB := []
  /-- 08_ferry_reservoir.md Table 08.1 queues. -/
  queue : Tab Queue := []
  /-- 08_ferry_reservoir.md R189 egress ports. -/
  egress : Tab Egress := []
  /-- 08_ferry_reservoir.md Table 08.4 RSV_BANKS. -/
  banks : BitVec 32 := 0xFFFFFFFF
  /-- 21_power_reset.md Table 21.1 bank groups that have left the free list for their power domain to be switched off, until it is on again. -/
  draining : BitVec 32 := 0
  /-- 08_ferry_reservoir.md R191 cells in use in each bank group. -/
  used : Tab Nat := []
  /-- 08_ferry_reservoir.md R191 cells of the system reserve in use. -/
  sysUsed : Nat := 0
  /-- 08_ferry_reservoir.md R191 rotating group. -/
  nextGroup : Nat := 0
  /-- 08_ferry_reservoir.md R203 every berth draws from the shared pool only. -/
  guarShort : Bool := false
  /-- 08_ferry_reservoir.md R196 grant pointers. -/
  grant : Tab Nat := []
  /-- 08_ferry_reservoir.md R196 accept pointers. -/
  accept : Tab Nat := []
  /-- 08_ferry_reservoir.md R200 cells held per ingress port and class, key 8p + class. -/
  held : Tab Nat := []
  /-- 08_ferry_reservoir.md R206 commands that wait for a frame boundary of a port. -/
  deferred : List (Nat × Bool × Req) := []
  /-- 08_ferry_reservoir.md R197 berth next in the host-queue rotation. -/
  hostNext : Nat := 0
  /-- 08_ferry_reservoir.md R197 ring next in each berth's rotation. -/
  ringNext : Tab Nat := []
  /-- 08_ferry_reservoir.md RSV_FERRY_REFUSED. -/
  ferryRefused : BitVec 48 := 0
  /-- 08_ferry_reservoir.md RSV_FERRY_SPILL. -/
  ferrySpill : BitVec 48 := 0
  /-- 08_ferry_reservoir.md RSV_FULL_DROP. -/
  fullDrop : BitVec 48 := 0
  /-- 08_ferry_reservoir.md RSV_BANK_DROP. -/
  bankDrop : BitVec 48 := 0
  /-- 08_ferry_reservoir.md RSV_ECC_CORR. -/
  eccCorr : BitVec 48 := 0
  /-- 08_ferry_reservoir.md RSV_ECC_UNCORR. -/
  eccUncorr : BitVec 48 := 0
  deriving DecidableEq, Repr


/-- One share of a port. -/
structure Share where
  /-- 09_berths.md R210 berth. -/
  berth : Nat := 0
  /-- 09_berths.md R210 VLAN_LO. -/
  vlanLo : BitVec 16 := 0
  /-- 09_berths.md R210 VLAN_HI. -/
  vlanHi : BitVec 16 := 0
  /-- 09_berths.md R210 TC_MASK. -/
  tcMask : BitVec 8 := 0
  deriving DecidableEq, Repr


/-- Ownership of one river port. -/
structure Owner where
  /-- 09_berths.md R210 berth that owns it whole. -/
  whole : Option Nat := none
  /-- 09_berths.md R210 shares. -/
  shares : List Share := []
  deriving DecidableEq, Repr


/-- One gangway (64 of them). -/
structure Gangway where
  /-- 09_berths.md R213 set. -/
  valid : Bool := false
  /-- 09_berths.md R213 SRC. -/
  src : Nat := 0
  /-- 09_berths.md R213 DST. -/
  dst : Nat := 0
  /-- 09_berths.md R213 KIND. -/
  kind : BitVec 2 := 0
  /-- 09_berths.md Table 09.5 TARGET. -/
  target : BitVec 8 := 0
  deriving DecidableEq, Repr


/-- One berth (16 of them). -/
structure Berth where
  /-- 09_berths.md Table 09.3 BSTATE. -/
  state : BitVec 2 := 0
  /-- 09_berths.md Table 09.5 FABRIC_OK. -/
  fabricOk : Bool := false
  /-- 09_berths.md Table 09.5 WEIR_CTRS. -/
  weirCtrs : Nat := 0
  /-- 09_berths.md R217 the berth's Ed25519 private key (the draw of the random source it was made from). -/
  keyNonce : Option Nat := none
  /-- 09_berths.md R217 public key. -/
  pubKey : List (BitVec 8) := []
  /-- 09_berths.md R222 certificate. -/
  cert : List (BitVec 8) := []
  /-- 09_berths.md R221 VF enabled. -/
  vfEnabled : Bool := false
  /-- 02_tide_gauge.md R57 time-fail-closed enabled. -/
  tfc : Bool := false
  /-- 02_tide_gauge.md Table 02.7 TFC_THRESH, ps. -/
  tfcThresh : BitVec 32 := 100000
  /-- 09_berths.md R220 function whose berth.destroy waits. -/
  destroyFn : Option Nat := none
  /-- 09_berths.md R220 instant teardown began. -/
  destroyAt : Nat := 0
  /-- 09_berths.md R220 step the teardown has reached (0: none). -/
  destroyStep : Nat := 0
  deriving DecidableEq, Repr


/-- Berths, ports' ownership and gangways. -/
structure Glb where
  /-- 09_berths.md Table 09.3 AUDIT_VF. -/
  auditVf : BitVec 5 := 0x10
  /-- 09_berths.md Table 09.3 GLB_NO_BERTH_DROP. -/
  noBerthDrop : BitVec 48 := 0
  /-- 09_berths.md R207 berths. -/
  berth : Tab Berth := []
  /-- 09_berths.md R210 ports' owners. -/
  owner : Tab Owner := []
  /-- 09_berths.md R213 gangways. -/
  gangway : Tab Gangway := []
  deriving DecidableEq, Repr


/-- One account entry. -/
structure Acct where
  /-- 10_weir_windlass.md R225 used. -/
  valid : Bool := false
  /-- 10_weir_windlass.md Table 10.2 ACCOUNT. -/
  account : BitVec 32 := 0
  /-- 10_weir_windlass.md Table 10.2 GROUP. -/
  group : BitVec 8 := 0
  /-- 10_weir_windlass.md Table 10.2 CREDIT_LIMIT. -/
  creditLimit : BitVec 64 := 0
  /-- 10_weir_windlass.md Table 10.2 CREDIT_USED. -/
  creditUsed : BitVec 64 := 0
  /-- 10_weir_windlass.md R245 poisoned. -/
  poison : Bool := false
  deriving DecidableEq, Repr


/-- One instrument entry. -/
structure Instrument where
  /-- 10_weir_windlass.md R225 used. -/
  valid : Bool := false
  /-- 10_weir_windlass.md Table 10.2 INSTRUMENT. -/
  instrument : BitVec 32 := 0
  /-- 10_weir_windlass.md Table 10.2 REF_PRICE. -/
  refPrice : Int := 0
  /-- 10_weir_windlass.md Table 10.2 BAND. -/
  band : BitVec 64 := 0
  /-- 10_weir_windlass.md Table 10.2 MAX_QTY. -/
  maxQty : BitVec 32 := 0
  /-- 10_weir_windlass.md Table 10.2 MAX_NOTIONAL. -/
  maxNotional : BitVec 64 := 0
  /-- 10_weir_windlass.md Table 10.2 MULT. -/
  mult : BitVec 16 := 1
  /-- 10_weir_windlass.md Table 10.2 COLUMN. -/
  column : BitVec 16 := 0xFFFF
  /-- 10_weir_windlass.md Table 10.2 DEF_LONG. -/
  defLong : BitVec 32 := 0
  /-- 10_weir_windlass.md Table 10.2 DEF_SHORT. -/
  defShort : BitVec 32 := 0
  /-- 10_weir_windlass.md R245 poisoned. -/
  poison : Bool := false
  deriving DecidableEq, Repr


/-- One position counter. -/
structure Counter where
  /-- 10_weir_windlass.md R225 used. -/
  valid : Bool := false
  /-- 10_weir_windlass.md Table 10.2 ACCOUNT. -/
  account : BitVec 32 := 0
  /-- 10_weir_windlass.md Table 10.2 INSTRUMENT. -/
  instrument : BitVec 32 := 0
  /-- 10_weir_windlass.md Table 10.2 POSITION. -/
  position : Int := 0
  /-- 10_weir_windlass.md Table 10.2 LIMIT_LONG. -/
  limitLong : BitVec 32 := 0
  /-- 10_weir_windlass.md Table 10.2 LIMIT_SHORT. -/
  limitShort : BitVec 32 := 0
  /-- 10_weir_windlass.md R245 poisoned. -/
  poison : Bool := false
  deriving DecidableEq, Repr


/-- One firm group of a berth (256 of them). -/
structure Firm where
  /-- 10_weir_windlass.md R239 FIRM_LIMIT. -/
  limit : Int := 0
  /-- 10_weir_windlass.md R239 installed exposure E. -/
  e : Option Int := none
  /-- 10_weir_windlass.md R239 snapshot stamp of E. -/
  snap : Nat := 0
  /-- 10_weir_windlass.md R239 LOCAL_PREV. -/
  localPrev : Int := 0
  /-- 10_weir_windlass.md R239 LOCAL_CUR. -/
  localCur : Int := 0
  deriving DecidableEq, Repr


/-- The Windlass run in progress. -/
structure WindRun where
  /-- 10_weir_windlass.md R243 berth. -/
  berth : Nat := 0
  /-- 10_weir_windlass.md R242 the snapshot of A, key g K + c. -/
  a : Tab Int := []
  /-- 10_weir_windlass.md R243 S as it stood at the start, key c N + s. -/
  s : Tab Int := []
  /-- 10_weir_windlass.md R241 M. -/
  m : Nat := 0
  /-- 10_weir_windlass.md R241 K. -/
  k : Nat := 0
  /-- 10_weir_windlass.md R241 N. -/
  n : Nat := 0
  /-- 10_weir_windlass.md R242 TILES. -/
  tiles : Nat := 0
  /-- 10_weir_windlass.md R242 MODE. -/
  stream : Bool := false
  /-- 10_weir_windlass.md R242 SHUTTLE_GROUP. -/
  group : BitVec 32 := 0xFFFFFFFF
  /-- 10_weir_windlass.md R242 snapshot stamp. -/
  snap : Nat := 0
  /-- 10_weir_windlass.md R242 output tiles checked and kept or handed off. -/
  done : List Nat := []
  /-- 10_weir_windlass.md R242 C so far, then the reduced C, key g N + s. -/
  c : Tab Int := []
  /-- 10_weir_windlass.md R242 SAT. -/
  sat : Bool := false
  /-- 10_weir_windlass.md R246 LATE. -/
  late : Bool := false
  /-- 10_weir_windlass.md R242 the reduced product is present. -/
  reduced : Bool := false
  /-- 13_collectives.md R305 its collective operation has been posted. -/
  posted : Bool := false
  deriving DecidableEq, Repr


/-- A berth's risk settings. -/
structure WeirB where
  /-- 10_weir_windlass.md R248 GATE. -/
  gateClosed : Bool := false
  /-- 10_weir_windlass.md R232 CHECK_HOLD. -/
  checkHold : BitVec 8 := 0
  /-- 10_weir_windlass.md R231 EXEMPT_OK. -/
  exemptOk : Bool := false
  /-- 10_weir_windlass.md R226 AUTO. -/
  auto : Bool := false
  /-- 10_weir_windlass.md R229 FIRM_ON. -/
  firmOn : Bool := false
  /-- 10_weir_windlass.md R240 STALE_ACTION. -/
  staleAction : BitVec 2 := 0
  /-- 10_weir_windlass.md Table 10.6 HOLD_TIMEOUT, us. -/
  holdTimeout : BitVec 32 := 1000
  /-- 10_weir_windlass.md Table 10.6 HOLD_MAX. -/
  holdMax : BitVec 16 := 256
  /-- 10_weir_windlass.md Table 10.6 HEADROOM_MAX_AGE, us. -/
  headMaxAge : BitVec 32 := 100
  /-- 10_weir_windlass.md Table 10.9 ACCT_BASE, units of 256. -/
  acctBase : Nat := 0
  /-- 10_weir_windlass.md Table 10.9 ACCT_SIZE, units of 256. -/
  acctSize : Nat := 0
  /-- 10_weir_windlass.md Table 10.9 INSTR_BASE, units of 256. -/
  instrBase : Nat := 0
  /-- 10_weir_windlass.md Table 10.9 INSTR_SIZE, units of 256. -/
  instrSize : Nat := 0
  /-- 10_weir_windlass.md R225 first entry of the berth's counter range. -/
  posBase : Nat := 0
  /-- 10_weir_windlass.md Table 10.9 AGG. -/
  agg : Nat := 0
  /-- 10_weir_windlass.md Table 10.9 SCEN. -/
  scen : Nat := 0
  /-- 10_weir_windlass.md R239 firm groups. -/
  firm : Tab Firm := []
  /-- 10_weir_windlass.md Table 10.7 snapshot last installed (HEAD_AGE counts from it). -/
  lastSnap : Option Nat := none
  /-- 10_weir_windlass.md R241 scenario matrix S as staged. -/
  s : Tab (BitVec 8) := []
  /-- 10_weir_windlass.md R248 a run is configured. -/
  configured : Bool := false
  /-- 10_weir_windlass.md Table 10.6 TILES. -/
  tiles : Nat := 4
  /-- 10_weir_windlass.md R242 MODE. -/
  stream : Bool := false
  /-- 10_weir_windlass.md R241 M. -/
  m : Nat := 0
  /-- 10_weir_windlass.md R241 N. -/
  n : Nat := 0
  /-- 10_weir_windlass.md R241 K. -/
  k : Nat := 0
  /-- 10_weir_windlass.md Table 10.6 PERIOD, us. -/
  period : BitVec 32 := 0
  /-- 10_weir_windlass.md R242 SHUTTLE_GROUP. -/
  group : BitVec 32 := 0xFFFFFFFF
  /-- 10_weir_windlass.md R237 held frames (HOLD_ID, frame). -/
  held : List (Nat × Nat) := []
  /-- 10_weir_windlass.md R237 next HOLD_ID. -/
  holdNext : BitVec 16 := 0
  /-- 10_weir_windlass.md reject counters, reasons 0x01 to 0x14. -/
  rejects : Tab (BitVec 48) := []
  /-- 10_weir_windlass.md ACCEPT counter. -/
  accepts : BitVec 48 := 0
  /-- 10_weir_windlass.md HOLD counter. -/
  holds : BitVec 48 := 0
  /-- 10_weir_windlass.md RELEASED counter. -/
  released : BitVec 48 := 0
  /-- 10_weir_windlass.md REVERSED counter. -/
  reversed : BitVec 48 := 0
  deriving DecidableEq, Repr


/-- The Weir and the Windlass. -/
structure Weir where
  /-- 10_weir_windlass.md R248 berth settings. -/
  berth : Tab WeirB := []
  /-- 10_weir_windlass.md Table 10.2 accounts, key 4 bucket + way. -/
  acct : Tab Acct := []
  /-- 10_weir_windlass.md Table 10.2 instruments, key 4 bucket + way. -/
  instr : Tab Instrument := []
  /-- 10_weir_windlass.md Table 10.2 position counters, key 4 bucket + way. -/
  pos : Tab Counter := []
  /-- 10_weir_windlass.md R245 next entry of background flushing. -/
  flushAt : Nat := 0
  /-- 10_weir_windlass.md WEIR_ECC_CORR. -/
  eccCorr : BitVec 48 := 0
  /-- 10_weir_windlass.md WEIR_ECC_UNCORR. -/
  eccUncorr : BitVec 48 := 0
  /-- 10_weir_windlass.md Table 10.7 TILES. -/
  tiles : BitVec 4 := 0xF
  /-- 10_weir_windlass.md Table 10.7 BERTH. -/
  runBerth : BitVec 4 := 0
  /-- 10_weir_windlass.md R242 run in progress (BUSY). -/
  run : Option WindRun := none
  /-- 10_weir_windlass.md R243 due runs waiting, in order of due time. -/
  dueRuns : List (Nat × Option Nat) := []
  /-- 10_weir_windlass.md WIND_RUNS. -/
  runs : BitVec 48 := 0
  /-- 10_weir_windlass.md WIND_SKIPPED. -/
  skipped : BitVec 48 := 0
  /-- 10_weir_windlass.md WIND_RERUN. -/
  rerun : BitVec 48 := 0
  /-- 10_weir_windlass.md WIND_SAT. -/
  satCnt : BitVec 48 := 0
  deriving DecidableEq, Repr


end Sys2Proof.Machine
end

