-- ==== Sys2Proof/Machine/State.lean ====
section
/-! DEFINITION. The state of the machine, the reasons a step can stop, and the state after reset. -/

namespace Sys2Proof.Machine

/-- Why a command can stop the machine with a fault.  The manual gives every command an effect, so no meaning answers one. -/
inductive Fault where
  /-- The manual gives the machine no effect to go on with.  Raised by no meaning; stopping here is safe. -/
  | stuck
  deriving DecidableEq, Repr

/-- Why the model has no meaning for a command. -/
inductive Refusal where
  /-- The command, named by its mnemonic, has no meaning in the model yet.  Answered by the arms of exec alone; safe. -/
  | notModelled (mnemonic : String)
  deriving DecidableEq, Repr

/-- The machine. -/
structure State where
  /-- 00_scope.md R20, 09_berths.md. -/
  glb : Glb := {}
  /-- 02_tide_gauge.md. -/
  tide : Tide := {}
  /-- 03_self_timed_core.md. -/
  guard : Guard := {}
  /-- 04_river_ports.md R95. -/
  port : Tab Port := []
  /-- 04_river_ports.md R95. -/
  quad : Tab Quad := []
  /-- 01_order_path.md frames in the Orkai, by a number of the model's own. -/
  frames : Tab Frame := []
  /-- DESIGN CHOICE (log entry 5): number of the next frame. -/
  nextFrame : Nat := 0
  /-- 05_pumps.md. -/
  pump : Pump := {}
  /-- 06_strainer.md. -/
  strn : Strn := {}
  /-- 07_tables.md. -/
  fwd : Fwd := {}
  /-- 08_ferry_reservoir.md. -/
  rsv : Rsv := {}
  /-- 10_weir_windlass.md. -/
  weir : Weir := {}
  /-- 11_crossings.md R250. -/
  xl : Tab Xl := []
  /-- 12_fabric.md. -/
  fab : Fab := {}
  /-- 13_collectives.md. -/
  shtl : Shtl := {}
  /-- 14_remote_memory.md. -/
  rdma : Rdma := {}
  /-- 15_ledger.md. -/
  ledg : Ledg := {}
  /-- 16_cistern.md. -/
  cist : Cist := {}
  /-- 17_dram.md R375. -/
  ddr : Tab Ddr := []
  /-- 18_pumphouse.md. -/
  ph : Ph := {}
  /-- 18_pumphouse.md R397. -/
  mbx : Tab Mbx := []
  /-- 25_interface_index.md R511. -/
  msix : Tab Msix := []
  /-- 18_pumphouse.md, 05_pumps.md, 23_test.md. -/
  fuse : Fuse := {}
  /-- 19_host_rings.md. -/
  host : HostRings := {}
  /-- 20_sump.md. -/
  sump : Sump := {}
  /-- 21_power_reset.md. -/
  pwr : Pwr := {}
  /-- 22_counters_trace.md. -/
  pmon : Pmon := {}
  /-- 22_counters_trace.md. -/
  trace : Trace := {}
  /-- 23_test.md R479. -/
  lane : Tab Lane := []
  /-- 23_test.md R486. -/
  tap : Tap := {}
  /-- 24_pins_electrical.md. -/
  therm : Therm := {}
  /-- 22_counters_trace.md R465 bits [47:32] latched by a 32-bit read of a counter's low half, by function and slot. -/
  latch : Tab (Option (BitVec 16)) := []
  /-- 20_sump.md Table 20.1 PCIE: the host link is down. -/
  pcieDown : Bool := false
  /-- 21_power_reset.md R452 SR-IOV VF Enable. -/
  vfEnable : Bool := true
  /-- DESIGN CHOICE (log entry 6): everything the Orkai has put out, newest first. -/
  out : List Out := []
  /-- DESIGN CHOICE (log entry 7): counter of the free values drawn so far. -/
  free : Nat := 0
  /-- the queue of commands, first in, first out. -/
  pending : List Instr := []
  deriving DecidableEq, Repr


/-- The machine right after PORST_N is released, before the boot ROM runs (21_power_reset.md R452, R455): every field at the value
the manual states for reset, or at the one its log entry names. -/
def State.reset : State := {}

end Sys2Proof.Machine
end

