-- ==== Sys2Proof/Machine/Tab.lean ====
section
/-! DEFINITION. Reading and writing an indexed set; every write keeps the canonical form. -/

namespace Sys2Proof

/-- The value at an index; an absent index reads as `d`. -/
def Tab.look {α : Type} (d : α) : Tab α → Nat → α
  | [], _ => d
  | (j, v) :: t, k => if j = k then v else Tab.look d t k

/-- Removes an index. -/
def Tab.del {α : Type} : Tab α → Nat → Tab α
  | [], _ => []
  | (j, v) :: t, k => if j = k then Tab.del t k else (j, v) :: Tab.del t k

/-- Inserts a pair before the first larger index. -/
def Tab.ins {α : Type} : Tab α → Nat → α → Tab α
  | [], k, v => [(k, v)]
  | (j, w) :: t, k, v => if k < j then (k, v) :: (j, w) :: t else (j, w) :: Tab.ins t k v

/-- Writes a value; writing the value an absent index reads as removes the entry. -/
def Tab.put {α : Type} [DecidableEq α] (d : α) (t : Tab α) (k : Nat) (v : α) : Tab α :=
  if v = d then Tab.del t k else Tab.ins (Tab.del t k) k v

/-- Changes the value at an index. -/
def Tab.upd {α : Type} [DecidableEq α] (d : α) (t : Tab α) (k : Nat) (f : α → α) : Tab α :=
  Tab.put d t k (f (Tab.look d t k))

/-- Writes a run of values from an index. -/
def Tab.putAll {α : Type} [DecidableEq α] (d : α) : Tab α → Nat → List α → Tab α
  | t, _, [] => t
  | t, k, v :: vs => Tab.putAll d (Tab.put d t k v) (k + 1) vs

/-- Reads n values from an index. -/
def Tab.run {α : Type} (d : α) (t : Tab α) : Nat → Nat → List α
  | _, 0 => []
  | k, n + 1 => Tab.look d t k :: Tab.run d t (k + 1) n

/-- The first index whose value satisfies a test. -/
def Tab.find {α : Type} (p : Nat → α → Bool) : Tab α → Option Nat
  | [] => none
  | (k, v) :: t => if p k v then some k else Tab.find p t

/-- How many entries satisfy a test. -/
def Tab.count {α : Type} (p : Nat → α → Bool) (t : Tab α) : Nat := (t.filter (fun e => p e.1 e.2)).length

/-- Keeps the entries that satisfy a test. -/
def Tab.keep {α : Type} (p : Nat → α → Bool) (t : Tab α) : Tab α := t.filter (fun e => p e.1 e.2)

/-- The canonical form: indices rise strictly and no entry equals the default. -/
def Tab.wf {α : Type} [DecidableEq α] (d : α) : Tab α → Bool
  | [] => true
  | [(_, v)] => decide (v ≠ d)
  | (j, v) :: (k, w) :: t => decide (j < k) && decide (v ≠ d) && Tab.wf d ((k, w) :: t)

end Sys2Proof
end

