-- ==== Sys2Proof/Machine/Ops.lean ====
section
/-! DEFINITION. The operations every family shares: outputs, free values, stamps, programmable counters, raising a sump event,
MSI-X messages, mailbox events, and the mailbox protocol with its checks. -/

namespace Sys2Proof.Machine

/-- The three outcomes of a command, for this state. -/
abbrev Result := Host.Outcome State Fault Refusal

/-! ### Indexed state -/

/-- Mailbox of a function. -/
def State.mbxAt (s : State) (fn : Nat) : Mbx := Tab.look {} s.mbx fn

/-- Writes the mailbox of a function. -/
def State.setMbx (s : State) (fn : Nat) (m : Mbx) : State := { s with mbx := Tab.put {} s.mbx fn m }

/-- River port p. -/
def State.portAt (s : State) (p : Nat) : Port := Tab.look {} s.port p

/-- Writes river port p. -/
def State.setPort (s : State) (p : Nat) (v : Port) : State := { s with port := Tab.put {} s.port p v }

/-- Quad q. -/
def State.quadAt (s : State) (q : Nat) : Quad := Tab.look {} s.quad q

/-- Writes quad q. -/
def State.setQuad (s : State) (q : Nat) (v : Quad) : State := { s with quad := Tab.put {} s.quad q v }

/-- Crossing k. -/
def State.xlAt (s : State) (k : Nat) : Xl := Tab.look {} s.xl k

/-- Writes Crossing k. -/
def State.setXl (s : State) (k : Nat) (v : Xl) : State := { s with xl := Tab.put {} s.xl k v }

/-- DRAM channel c. -/
def State.ddrAt (s : State) (c : Nat) : Ddr := Tab.look {} s.ddr c

/-- Writes DRAM channel c. -/
def State.setDdr (s : State) (c : Nat) (v : Ddr) : State := { s with ddr := Tab.put {} s.ddr c v }

/-- Serial lane l. -/
def State.laneAt (s : State) (l : Nat) : Lane := Tab.look {} s.lane l

/-- Writes serial lane l. -/
def State.setLane (s : State) (l : Nat) (v : Lane) : State := { s with lane := Tab.put {} s.lane l v }

/-- Frame f; an unknown number reads as an empty frame. -/
def State.frameAt (s : State) (f : Nat) : Frame := Tab.look {} s.frames f

/-- Writes frame f. -/
def State.setFrame (s : State) (f : Nat) (v : Frame) : State := { s with frames := Tab.put {} s.frames f v }

/-- Berth b. -/
def State.berthAt (s : State) (b : Nat) : Berth := Tab.look {} s.glb.berth b

/-- Writes berth b. -/
def State.setBerth (s : State) (b : Nat) (v : Berth) : State :=
  { s with glb := { s.glb with berth := Tab.put {} s.glb.berth b v } }

/-- A berth exists while it is ACTIVE or CLOSING (09_berths.md Table 09.3). -/
def State.berthExists (s : State) (b : Nat) : Bool := (s.berthAt b).state != 0

/-- A berth is ACTIVE (09_berths.md Table 09.3). -/
def State.berthActive (s : State) (b : Nat) : Bool := (s.berthAt b).state == 1

/-- The berths that exist, in rising order. -/
def State.berths (s : State) : List Nat := (List.range 16).filter s.berthExists

/-- A power domain is on (21_power_reset.md Table 21.8 DOMAIN_ON). -/
def State.domainOn (s : State) (d : Nat) : Bool := s.pwr.on.getLsbD d

/-! ### DRAM addresses (17_dram.md R376) -/

/-- Base of channel DC1. -/
def dc1Base : Nat := 0x800000000

/-- The channel of a DRAM address. -/
def dramChannel (addr : Nat) : Nat := if addr < dc1Base then 0 else 1

/-- Base of a channel. -/
def dramBase (c : Nat) : Nat := if c = 0 then 0 else dc1Base

/-- Bytes of a channel that clients may be given: all but the training region. -/
def Ddr.clientBytes (d : Ddr) : Nat := d.capGib * 0x40000000 - 0x100000

/-- A run of bytes lies in one fitted channel, outside its training region. -/
def State.dramRangeOk (s : State) (addr n : Nat) : Bool :=
  let c := dramChannel addr
  addr - dramBase c + n ≤ (s.ddrAt c).clientBytes

/-! ### Outputs, free values and stamps -/

/-- Puts something out at the contacts. -/
def emit (o : Out) (s : State) : State := { s with out := o :: s.out }

/-- The number of the next free value; the caller advances the counter with `drawn`. -/
def State.draw (s : State) : Nat := s.free

/-- Counts one free value as drawn. -/
def drawn (s : State) : State := { s with free := s.free + 1 }

/-- The instant of the counter plus a phase of the interpolator, 25 ps each (02_tide_gauge.md R43). -/
def State.instant (s : State) (phase : Nat) : Nat := s.tide.nowFs + 25000 * phase

/-- An instant in fs as a stamp, in units of 2^-6 ns, rounded to the nearest (02_tide_gauge.md R45). -/
def stampOfFs (fs : Nat) : Nat := (fs + 7812) / 15625

/-- A stamp taken now, on a counter edge. -/
def State.stamp (s : State) : Nat := stampOfFs s.tide.nowFs

/-- SEC of a stamp (02_tide_gauge.md Table 02.1). -/
def stampSec (t : Nat) : Nat := t / 64000000000

/-- NS of a stamp. -/
def stampNs (t : Nat) : Nat := t / 64 % 1000000000

/-- FRAC of a stamp, in units of 2^-16 ns. -/
def stampFrac (t : Nat) : Nat := t % 64 * 1024

/-- A stamp as its 12 bytes (02_tide_gauge.md Table 02.1). -/
def stampBytes (t : Nat) : List Byte := leBytes 2 (stampFrac t) ++ leBytes 4 (stampNs t) ++ leBytes 6 (stampSec t)

/-- STATE of the sync-state word (02_tide_gauge.md Table 02.5). -/
def servoCode : Servo → Nat
  | .free => 0
  | .acquire => 1
  | .locked => 2
  | .holdover => 3

/-- The sync-state word (02_tide_gauge.md Table 02.5). -/
def Tide.word (t : Tide) : BitVec 32 :=
  BitVec.ofNat 32 (t.epoch.toNat * 256 + t.source.toNat * 16 + servoCode t.st)

/-- TIDE_UTC (02_tide_gauge.md Table 02.8). -/
def Tide.utcWord (t : Tide) : Nat :=
  t.utcOffset.toNat + 65536 * bitNat t.leap61 + 131072 * bitNat t.leap59 + 262144 * bitNat t.utcValid

/-! ### Programmable counters (22_counters_trace.md R467, R468) -/

/-- PRIV as a bit of the mask of Table 22.6. -/
def privBit : Priv → Nat
  | .harbour => 0
  | .berth => 1
  | .firmware => 2

/-- An occurrence of an event passes every enabled filter of a counter. -/
def PcCfg.hits (c : PcCfg) (ev : Nat) (o : Occ) : Bool :=
  c.enable && c.event.toNat == ev
  && (c.priv == 0 || match o.priv with
      | some p => c.priv.getLsbD (privBit p)
      | none => false)
  && (c.mKind == 0 || o.masters.any (fun m => m.1 == c.mKind.toNat && (m.1 == 4 || m.2 == c.mIdx.toNat)))
  && (c.aKind == 0 || match o.addr with
      | some (k, sp, v) => k == c.aKind.toNat && sp == c.aSpace.toNat && c.lo.toNat ≤ v && v ≤ c.hi.toNat
      | none => false)
  && (c.cKind == 0 || match o.cls with
      | some v => v < 64 && c.cMask.getLsbD v
      | none => false)

/-- Adds an amount to a counter: it wraps and sets its PMON_OVF bit, or with OVF_STOP holds at its last value, sets the bit and stops
(R468). -/
def Pmon.add (p : Pmon) (i : Nat) (c : PcCfg) (n : Nat) : Pmon :=
  let v := (Tab.look 0 p.value i).toNat
  let top := 2 ^ 48 - 1
  if p.stopped.getLsbD i then p
  else if v + n ≤ top then { p with value := Tab.put 0 p.value i (BitVec.ofNat 48 (v + n)) }
  else { p with
    value := Tab.put 0 p.value i (if c.ovfStop then BitVec.ofNat 48 top else BitVec.ofNat 48 (v + n)),
    ovf := p.ovf ||| BitVec.ofNat 128 (2 ^ i),
    stopped := if c.ovfStop then p.stopped ||| BitVec.ofNat 128 (2 ^ i) else p.stopped }

/-- Counts an occurrence of an event, of amount n, in every programmable counter that it passes. -/
def count (ev : Nat) (o : Occ) (n : Nat) (s : State) : State :=
  { s with pmon := s.pmon.cfg.foldl (fun p e => if e.2.hits ev o then p.add e.1 e.2 n else p) s.pmon }

/-! ### Raising a sump event (20_sump.md R429, R430) -/

/-- First CODE of each source (20_sump.md Table 20.1). -/
def sumpFirstCode (src : Nat) : Nat :=
  if 6 ≤ src ∧ src ≤ 9 then 0x0380
  else if 16 ≤ src ∧ src ≤ 23 then 0x0A80
  else match src with
  | 0 => 0x0480 | 1 => 0x1180 | 2 => 0x1190 | 3 => 0x11A0 | 4 => 0x11B0 | 5 => 0x1080
  | 10 => 0x0580 | 11 => 0x0680 | 12 => 0x0780 | 13 => 0x0880 | 14 => 0x0980 | 15 => 0x0990
  | 24 => 0x0A90 | 25 => 0x0C80 | 26 => 0x0D80 | 27 => 0x0E80 | 28 => 0x0F80 | 29 => 0x0F80
  | 30 => 0x0180 | 31 => 0x0190 | 32 => 0x0890 | 33 => 0x1090
  | _ => 0

/-- How many events each source has (20_sump.md Table 20.1). -/
def sumpEventCount (src : Nat) : Nat :=
  if 6 ≤ src ∧ src ≤ 9 then 3
  else if 16 ≤ src ∧ src ≤ 23 then 3
  else match src with
  | 0 => 5 | 1 => 3 | 2 => 1 | 3 => 2 | 4 => 1 | 5 => 1
  | 10 => 3 | 11 => 2 | 12 => 3 | 13 => 3 | 14 => 1 | 15 => 1
  | 24 => 4 | 25 => 2 | 26 => 3 | 27 => 9 | 28 => 5 | 29 => 5
  | 30 => 5 | 31 => 2 | 32 => 1 | 33 => 1
  | _ => 0

/-- Raises event `ev` (its place in Table 20.1) of a source on its error line, to be sampled by the sump. -/
def raise (src ev : Nat) (unit cause value : Nat) (berth : Option Nat) (s : State) : State :=
  { s with sump := { s.sump with lines := s.sump.lines ++
      [{ src := src, code := BitVec.ofNat 16 (sumpFirstCode src + ev), unit := BitVec.ofNat 8 unit,
         cause := BitVec.ofNat 8 cause, value := BitVec.ofNat 64 value, berth := berth, kind := 0 }] } }

/-! ### MSI-X and mailbox events (25_interface_index.md R511, 18_pumphouse.md R401) -/

/-- Sends an MSI-X message, or sets its pending bit while the vector is masked (log entry 10). -/
def sendMsix (fn vec : Nat) (s : State) : State :=
  let m := Tab.look {} s.msix fn
  if (Tab.look 0 m.table (4 * vec + 3)).getLsbD 0 then
    { s with msix := Tab.put {} s.msix fn { m with pba := Tab.put false m.pba vec true } }
  else emit (.msix fn vec) s

/-- A mailbox with one entry written to its ring, MBX_EVT_PROD advanced after it (R401). -/
def Mbx.push (m : Mbx) (code : Nat) (stamp : Nat) (detail : List Byte) : Mbx :=
  { m with ring := Tab.put {} m.ring (m.evtProd.toNat % 64)
             { code := BitVec.ofNat 16 code, eseq := m.eseq, stamp := stamp, detail := detail },
           eseq := m.eseq + 1, evtProd := m.evtProd + 1 }

/-- The ring holds 64 events that the host has not consumed. -/
def Mbx.ringFull (m : Mbx) : Bool := (m.evtProd - m.evtCons).toNat == 64

/-- A mailbox after an event is posted: a full ring counts it as lost, and the first event after space returns is preceded by a
single EVT_LOST entry (R401). -/
def Mbx.post (m : Mbx) (code : Nat) (stamp : Nat) (detail : List Byte) : Mbx :=
  if m.ringFull then { m with evtLost := m.evtLost + 1, lostSince := m.lostSince + 1 }
  else
    let m1 := if m.lostSince == 0 then m
      else { m.push 0x0102 stamp (leBytes 4 m.lostSince.toNat) with lostSince := 0 }
    if m1.ringFull then { m1 with evtLost := m1.evtLost + 1, lostSince := m1.lostSince + 1 }
    else m1.push code stamp detail

/-- Posts an event to a function's event ring and sends its message when none has been sent since the host last wrote
MBX_EVT_CONS (R401). -/
def postEvent (fn : Nat) (code : Nat) (detail : List Byte) (s : State) : State :=
  let m := s.mbxAt fn
  let m1 := m.post code s.stamp detail
  if m1.evtProd == m.evtProd || m1.msgSent then s.setMbx fn m1
  else sendMsix fn 0 (s.setMbx fn { m1 with msgSent := true })

/-- Posts an event to the rings of several functions. -/
def postAll (fns : List Nat) (code : Nat) (detail : List Byte) (s : State) : State :=
  fns.foldl (fun s fn => postEvent fn code detail s) s

/-! ### The mailbox protocol (18_pumphouse.md R397 to R399) -/

/-- STATUS codes (18_pumphouse.md Table 18.5). -/
def statusCode : Status → Nat
  | .ok => 0
  | .busy => 1
  | .badLen => 2
  | .badParam => 3
  | .noPerm => 4
  | .noResource => 5
  | .state => 6
  | .timeout => 7
  | .hwFault => 8
  | .frozen => 9
  | .unsupported => 10

/-- The role of a function (09_berths.md R207). -/
def State.role (s : State) (fn : Nat) : Role :=
  if fn = 0 then .harbour
  else if s.berthExists (fn - 1) then
    (if (s.berthAt (fn - 1)).vfEnabled && s.vfEnable then .berth (fn - 1) else .absent)
  else if s.glb.auditVf.toNat = fn - 1 && s.vfEnable then .auditor
  else .absent

/-- A command's code, the roles that may issue it (25_interface_index.md Table 25.4), and the payload length its parameters ask for. -/
structure CmdSpec where
  code : Nat
  harbour : Bool := true
  berth : Bool := false
  /-- A berth only with FABRIC_OK. -/
  fabric : Bool := false
  auditor : Bool := false
  /-- What a berth may name in the request: itself, or what is its own (R209). -/
  own : State → Nat → Req → Bool := fun _ _ _ => true
  /-- The payload length, given the payload (its own COUNT field may enter). -/
  len : List Byte → Nat

/-- The command takes parameters (R399). -/
def CmdSpec.params (c : CmdSpec) : Bool := c.len [] != 0

/-- A command for the harbour with a fixed payload length. -/
def cmdH (code len : Nat) : CmdSpec := { code := code, len := fun _ => len }

/-- A command for the harbour, or a berth for itself. -/
def cmdHB (code len : Nat) : CmdSpec := { code := code, berth := true, len := fun _ => len }

/-- A request's byte at an offset, where present, names the berth itself (R209). -/
def namesSelf (off : Nat) (_ : State) (b : Nat) (rq : Req) : Bool := rq.payload.length ≤ off || rq.u8 off == b

/-- A command for the harbour, or a berth that names itself in the byte at an offset. -/
def cmdOwn (code len off : Nat) : CmdSpec := { code := code, berth := true, own := namesSelf off, len := fun _ => len }

/-- A command for the harbour, a berth or the auditor. -/
def cmdHBA (code len : Nat) : CmdSpec := { code := code, berth := true, auditor := true, len := fun _ => len }

/-- A command for the harbour or the auditor. -/
def cmdHA (code len : Nat) : CmdSpec := { code := code, auditor := true, len := fun _ => len }

/-- A command for the harbour, or a berth with FABRIC_OK. -/
def cmdHF (code len : Nat) : CmdSpec := { code := code, fabric := true, len := fun _ => len }

/-- A role may issue a command (R398 step 3). -/
def CmdSpec.permits (c : CmdSpec) (rq : Req) (s : State) : Role → Bool
  | .harbour => c.harbour
  | .berth b => (c.berth || (c.fabric && (s.berthAt b).fabricOk)) && c.own s b rq
  | .auditor => c.auditor
  | .absent => false

/-- How a command ends. -/
inductive Reply where
  /-- OK with a payload. -/
  | ok (s : State) (payload : List Byte)
  /-- A status that means no change was made (R398). -/
  | err (st : Status)
  /-- A status with the effect its home chapter states. -/
  | failed (s : State) (st : Status) (payload : List Byte)
  /-- The answer comes later. -/
  | later (s : State)

/-- The role number and berth of the ping payload (18_pumphouse.md Table 18.7). -/
def roleBytes : Role → List Byte
  | .harbour => [0, 0xFF]
  | .berth b => [1, BitVec.ofNat 8 b]
  | .auditor => [2, 0xFF]
  | .absent => [0xFF, 0xFF]

/-- Flash offset of a firmware slot (18_pumphouse.md Table 18.1). -/
def slotBase (slot : Nat) : Nat := if slot = 0 then 0x100000 else 0x500000

/-- n bytes of the flash from an offset. -/
def State.flashRun (s : State) (off n : Nat) : List Byte := Tab.run 0xFF s.fuse.flash off n

/-- The ping payload (18_pumphouse.md Table 18.7). -/
def pingPayload (fn : Nat) (s : State) : List Byte :=
  [4, 2] ++ s.flashRun (slotBase s.ph.slot.toNat + 6) 6 ++ [BitVec.ofNat 8 s.ph.slot.toNat]
    ++ roleBytes (s.role fn) ++ [0] ++ leBytes 4 s.ph.heartbeat.toNat

/-- The response header and payload (18_pumphouse.md Table 18.4). -/
def respBytes (code st flags : Nat) (seq : BitVec 32) (payload : List Byte) : List Byte :=
  leBytes 2 code ++ [BitVec.ofNat 8 st, BitVec.ofNat 8 flags] ++ leBytes 4 seq.toNat ++ leBytes 4 payload.length ++ zeros 4 ++ payload

/-- The privilege and masters of what a function causes (22_counters_trace.md R467). -/
def fnOcc (fn : Nat) : Occ :=
  if fn = 0 then { priv := some .harbour, masters := [(5, 0)] }
  else { priv := some .berth, masters := [(2, fn - 1), (5, fn)] }

/-- Counts a host write that a command stands for: a register write or a doorbell (22_counters_trace.md Table 22.1). -/
def mmio (fn : Nat) (s : State) : State := count 0x0080 (fnOcc fn) 1 s

/-- The endpoint answers a function's accesses: the function exists, the link is up and the endpoint is on. -/
def State.mmioLive (s : State) (fn : Nat) : Bool := s.role fn != .absent && !s.pcieDown && s.domainOn 142

/-- The window of a virtual function takes a berth's doorbells: the berth and its function are there, and so is the endpoint. -/
def State.vfLive (s : State) (b : Nat) : Bool := s.role (1 + b) == .berth b && !s.pcieDown && s.domainOn 142

/-- Answers the request a mailbox holds: the response is written, RESP_VALID set and BUSY cleared, and with NOTIFY the event MBX_DONE
is posted (R397 steps 3 and 4). -/
def respond (fn : Nat) (st : Status) (flags : Nat) (payload : List Byte) (s : State) : State :=
  let m := s.mbxAt fn
  let s1 := s.setMbx fn { m with resp := respBytes m.reqOp.toNat (statusCode st) flags m.reqSeq payload,
                                 respValid := true, busy := false }
  let s2 := count 0x0091 { fnOcc fn with cls := some (statusCode st) } 1 s1
  if m.reqNotify then postEvent fn 0x0101 (leBytes 4 m.reqSeq.toNat ++ [BitVec.ofNat 8 (statusCode st)]) s2 else s2

/-- Answers a request of a command that was left waiting, if the mailbox still holds one. -/
def finish (fn code : Nat) (st : Status) (payload : List Byte) (s : State) : State :=
  if (s.mbxAt fn).busy && (s.mbxAt fn).reqOp.toNat == code then respond fn st 0 payload s else s

/-- Answers the function a block remembered, if any. -/
def finishOpt (fn : Option Nat) (code : Nat) (st : Status) (payload : List Byte) (s : State) : State :=
  match fn with
  | some f => finish f code st payload s
  | none => s

/-- The commands the Orkai runs in RECOVERY (18_pumphouse.md R394). -/
def recoveryRuns (code : Nat) : Bool := code == 0x0101 || code == 0x0102 || code == 0x0103 || code == 0x0104

/-- A doorbell of a function is taken: MBX_READY is set, or the function is PF0 in RECOVERY (21_power_reset.md R457, 18_pumphouse.md
R394); the function exists and its endpoint is on. -/
def State.takesDoorbell (s : State) (fn : Nat) : Bool :=
  (s.ph.ready || (s.ph.recovery && fn == 0)) && s.role fn != .absent && !s.pcieDown && s.domainOn 142

/-- The doorbell of a request: BUSY is set and RESP_VALID cleared, and the request is held (R397 step 2). -/
def accept (rq : Req) (code : Nat) (s : State) : State :=
  let fn := rq.fn.val
  let hdr := leBytes 2 code ++ [rq.flags, 0] ++ leBytes 4 rq.seq.toNat ++ leBytes 4 rq.length.toNat ++ zeros 4
  count 0x0090 { fnOcc fn with cls := some (code / 256) } 1
    (mmio fn (s.setMbx fn { s.mbxAt fn with
      busy := true, respValid := false, reqOp := BitVec.ofNat 16 code, reqSeq := rq.seq, reqNotify := rq.flags.getLsbD 0,
      reqArea := Tab.putAll 0 (s.mbxAt fn).reqArea 0 (hdr ++ rq.payload) }))

/-- A doorbell while BUSY (R397 step 2). -/
def overrun (fn : Nat) (s : State) : State :=
  let s1 := mmio fn (s.setMbx fn { s.mbxAt fn with overrun := true })
  { s1 with ph := { s1.ph with mbxOverrun := bump s1.ph.mbxOverrun } }

/-- The request is a ping (R399). -/
def CmdSpec.isPing (c : CmdSpec) (rq : Req) : Bool := rq.length == 0 && (c.params || c.code == 0x0101)

/-- The payload has the length the command asks for (R398 step 4). -/
def CmdSpec.lenOk (c : CmdSpec) (rq : Req) : Bool :=
  rq.length.toNat == c.len rq.payload && rq.length.toNat ≤ 4080 && rq.payload.length == rq.length.toNat

/-- What the checks before BAD_PARAM answer (R398); none when the command runs. -/
def CmdSpec.reject (c : CmdSpec) (rq : Req) (s : State) : Option Status :=
  if s.ph.recovery && !recoveryRuns c.code then some .state
  else if !c.permits rq s (s.role rq.fn.val) then some .noPerm
  else if !c.lenOk rq then some .badLen
  else none

/-- Ends a command as its reply says; with a status that means no change, only the answer is written. -/
def settle (fn : Nat) (s : State) : Reply → State
  | .ok s' p => respond fn .ok 0 p s'
  | .err st => respond fn st 0 [] s
  | .failed s' st p => respond fn st 0 p s'
  | .later s' => s'

/-- A mailbox command whose doorbell has been taken (R398). -/
def dispatch (c : CmdSpec) (rq : Req) (body : State → Reply) (s : State) : State :=
  if c.isPing rq then respond rq.fn.val .ok 1 (pingPayload rq.fn.val s) s
  else match c.reject rq s with
    | some st => respond rq.fn.val st 0 [] s
    | none => settle rq.fn.val s (body s)

/-- A mailbox command: the doorbell, the checks in their order, the command's own effect, and the answer (R397, R398). -/
def serve (c : CmdSpec) (rq : Req) (body : State → Reply) (s : State) : State :=
  if !s.takesDoorbell rq.fn.val then s
  else if (s.mbxAt rq.fn.val).busy then overrun rq.fn.val s
  else dispatch c rq body (accept rq c.code s)

/-- The request comes from the harbour. -/
def isHarbour (s : State) (rq : Req) : Bool := s.role rq.fn.val == .harbour

end Sys2Proof.Machine
end

