-- ==== Sys2Proof/Machine/LedgerOps.lean ====
section
/-! DEFINITION. Records, pages and chains of the ledger: appending, sealing, and the pressure rules (15_ledger.md). -/

namespace Sys2Proof.Machine

/-- The chain of berth b. -/
def State.chainAt (s : State) (b : Nat) : Chain := Tab.look {} s.ledg.chain b

/-- Writes the chain of berth b. -/
def State.setChain (s : State) (b : Nat) (c : Chain) : State :=
  { s with ledg := { s.ledg with chain := Tab.put {} s.ledg.chain b c } }

/-! ### Encodings -/

/-- A record of any type but ORDER (15_ledger.md R337). -/
def recordBytes (ty b flags seq info stamp : Nat) (body : List Byte) : List Byte :=
  [BitVec.ofNat 8 ty, BitVec.ofNat 8 b] ++ leBytes 2 flags ++ leBytes 8 seq ++ leBytes 4 info ++ stampBytes stamp ++ padTo 36 body

/-- An ORDER record (15_ledger.md Table 15.1). -/
def orderBytes (b flags seq flow ing eg verdict stomp reason pclass inPort egPort digest sync instrument : Nat) : List Byte :=
  [1, BitVec.ofNat 8 b] ++ leBytes 2 flags ++ leBytes 8 seq ++ leBytes 4 flow ++ stampBytes ing
    ++ (if eg = 0 then zeros 12 else stampBytes eg)
    ++ [BitVec.ofNat 8 (verdict + 16 * stomp), BitVec.ofNat 8 reason, BitVec.ofNat 8 pclass, BitVec.ofNat 8 inPort,
        BitVec.ofNat 8 egPort, 0, 0, 0]
    ++ leBytes 8 digest ++ leBytes 4 sync ++ leBytes 4 instrument

/-- FLAGS of a page header (15_ledger.md Table 15.4). -/
def Page.flags (p : Page) : Nat := bitNat p.isSealed + 2 * bitNat p.powerFail

/-- The 64-byte page header (15_ledger.md Table 15.4). -/
def Page.header (p : Page) : List Byte :=
  [0x4F, 0x4B, 0x4C, 0x44, 1, BitVec.ofNat 8 p.berth] ++ leBytes 2 p.flags ++ leBytes 8 p.no ++ leBytes 8 p.firstSeq
    ++ padTo 32 (p.prevHash.getD []) ++ padTo 8 p.chainId

/-- The 4,096 bytes of a page; slots not written are PAD (R338). -/
def Page.bytes (p : Page) : List Byte := padTo 4096 (p.header ++ p.slots.flatten)

/-! ### Space (R343) -/

/-- The channel that holds the staging ring. -/
def Ledg.ringChannel (l : Ledg) : Nat := dramChannel l.ringBase.toNat

/-- The staging ring can be used: its channel is READY or in self-refresh (R347, 17_dram.md R378). -/
def State.stagingUp (s : State) : Bool :=
  let st := (s.ddrAt s.ledg.ringChannel).st
  st == 2 || st == 3 || st == 4

/-- Pages the staging ring holds when full. -/
def Ledg.ringPages (l : Ledg) : Nat := l.ringGib * 262144

/-- The berth's room in the staging ring: no berth holds more than half of it (R342). -/
def State.ringRoom (s : State) (b : Nat) : Nat :=
  if s.stagingUp then
    min (s.ledg.ringPages / 2 - (s.ledg.ring.filter (fun p => p.berth == b)).length) (s.ledg.ringPages - s.ledg.ring.length)
  else 0

/-- Slots a berth's chain can still take: of the open page, of each free buffer, and of its room in the staging ring (R343). -/
def State.ledgerSpace (s : State) (b : Nat) : Nat :=
  let c := s.chainAt b
  (if c.closed.length < 8 then 63 - c.page.slots.length else 0) + 63 * (7 - c.closed.length) + 63 * s.ringRoom b

/-- A reservation would cut into the reserve of 64 slots, or the chain is held FULL (R343, R348). -/
def State.ledgerTight (s : State) (b : Nat) : Bool :=
  s.ledgerSpace b < (s.chainAt b).reserved + 65 || (s.chainAt b).signHold

/-! ### Appending -/

/-- Bay n. -/
def State.bayAt (s : State) (n : Nat) : Bay := Tab.look {} s.cist.bay n

/-- Changes bay n. -/
def onBay (n : Nat) (g : Bay → Bay) (s : State) : State := { s with cist := { s.cist with bay := Tab.upd {} s.cist.bay n g } }

/-- A housekeeping window ends: an open-ended one is counted for as long as it stood, once for
both bays (16_cistern.md R367, log entry 25). -/
def revokeWindow (n : Nat) (s : State) : State :=
  let x := s.bayAt n
  match x.window with
  | none => s
  | some w =>
    let alone := (s.bayAt (1 - n)).window != some 0xFFFFFFFF
    let us := if w = 0xFFFFFFFF && alone then (s.tide.nowFs - x.windowAt) / 1000000000 else 0
    let s1 := onBay n (fun x => { x with window := none }) { s with cist := { s.cist with hkUs := bumpBy s.cist.hkUs us } }
    if x.prsnt then emit (.nvme n 0xC4 0 []) s1 else s1

/-- An open-ended housekeeping window is revoked as a page comes to wait (16_cistern.md R367). -/
def revokeOpen (s : State) : State :=
  [0, 1].foldl (fun s n => if (s.bayAt n).window = some 0xFFFFFFFF then revokeWindow n s else s) s

/-- Closes the open page: it waits in its buffer, and the next page opens (R338). -/
def closePage (b : Nat) (awaitSig : Bool) (s : State) : State :=
  let c := s.chainAt b
  let p := { c.page with awaitSig := awaitSig, order := s.ledg.nextOrder }
  let s1 := s.setChain b { c with closed := c.closed ++ [p], page := { berth := b, no := c.page.no + 1, chainId := c.page.chainId } }
  revokeOpen { s1 with ledg := { s1.ledg with nextOrder := s1.ledg.nextOrder + 1 } }

/-- Writes the next slot of the open page; a page whose slot 62 is filled closes (R338). -/
def putSlot (b : Nat) (rcd : List Byte) (s : State) : State :=
  let c := s.chainAt b
  let s1 := s.setChain b { c with page := { c.page with slots := c.page.slots ++ [rcd] } }
  if 63 ≤ c.page.slots.length + 1 then closePage b false s1 else s1

/-- Writes a record with the next SEQ of the chain, its bytes given that SEQ (R335). -/
def putRecord (b : Nat) (ty : Nat) (rcd : Nat → List Byte) (s : State) : State :=
  let c := s.chainAt b
  let p := c.page
  let s1 := s.setChain b { c with
    nextSeq := c.nextSeq + 1, recsSince := c.recsSince + 1, appended := true,
    page := { p with firstSeq := if p.slots.length = 0 then c.nextSeq else p.firstSeq, lastSeq := c.nextSeq } }
  let s2 := putSlot b (rcd c.nextSeq) { s1 with ledg := { s1.ledg with records := bump s1.ledg.records } }
  count 0x00A0 { masters := [(2, b)], cls := some ty } 1 s2

/-- Writes the UNCLASSED record that precedes a seal, when one is due (R340, 05_pumps.md R115). -/
def putUnclassed (b : Nat) (s : State) : State :=
  let n := (s.chainAt b).unclassed
  if n = 0 then s
  else
    let s1 := putRecord b 0x08 (fun q => recordBytes 0x08 b 0 q n s.stamp []) s
    s1.setChain b { s1.chainAt b with unclassed := 0 }

/-- When only slot 62 is free it is PADded, and the seal takes the next page (R340). -/
def padForSeal (b : Nat) (s : State) : State :=
  if (s.chainAt b).page.slots.length = 62 then putSlot b (zeros 64) s else s

/-- Writes a seal in the next two free slots; its page closes once it is signed, and later records fill the next page (R339, R340, R346).
`flags` is bit 0 FINAL, bit 1 POWER_FAIL. -/
def writeSeal (b : Nat) (flags : Nat) (s : State) : State :=
  let s1 := padForSeal b (putUnclassed b s)
  let c := s1.chainAt b
  let body := leBytes 8 c.page.no ++ leBytes 4 c.recsSince ++ leBytes 4 s1.tide.word.toNat ++ leBytes 2 s1.guard.latBound.toNat
  let rcd := recordBytes 0x03 b flags c.nextSeq 0 s1.stamp body
  let p := c.page
  let s2 := s1.setChain b { c with
    page := { p with firstSeq := if p.slots.length = 0 then c.nextSeq else p.firstSeq, lastSeq := c.nextSeq,
                     slots := p.slots ++ [rcd, zeros 64], isSealed := true, powerFail := 2 ≤ flags },
    nextSeq := c.nextSeq + 1, sealSeq := c.nextSeq, sealStamp := s1.stamp, recsSince := 0, appended := false,
    intervalUp := false, sealWaits := false, signing := true, signFails := 0,
    interval := c.pendInterval.getD c.interval, pendInterval := none }
  let s3 := { s2 with ledg := { s2.ledg with records := bump s2.ledg.records } }
  closePage b true (count 0x00A0 { masters := [(2, b)], cls := some 3 } 1 s3)

/-- A seal, and the UNCLASSED record that is due before it, have their slots: in the open page, or in it and a free buffer, and no
record waits ahead of them (R340, R344). -/
def State.sealRoom (s : State) (b : Nat) : Bool :=
  let c := s.chainAt b
  let k := c.page.slots.length + bitNat (c.unclassed != 0)
  c.waiting.isEmpty && c.closed.length + bitNat (decide (62 ≤ k)) < 8

/-- A seal that has fallen due is written, or waits while the previous one is being signed or there is no space (R344, R346). -/
def dueSeal (b : Nat) (s : State) : State :=
  if (s.chainAt b).signing || !s.sealRoom b then s.setChain b { s.chainAt b with sealWaits := true } else writeSeal b 0 s

/-- A seal that falls due on an append: SEAL_INTERVAL passed with no record since the last seal, or SEAL_INTERVAL is 0 and slot 60 is
filled (R340). -/
def sealOnAppend (b : Nat) (s : State) : State :=
  let c := s.chainAt b
  if c.intervalUp then dueSeal b s
  else if c.interval = 0 && 61 ≤ c.page.slots.length then dueSeal b s
  else s

/-- Appends a record that is not an order record, or leaves it waiting in order when the reserve is exhausted (R344). -/
def append (b : Nat) (ty flags info : Nat) (body : List Byte) (s : State) : State :=
  let c := s.chainAt b
  if !c.active || s.ledg.stopped then s
  else if s.ledgerSpace b = 0 || c.closed.length ≥ 8 || c.waiting ≠ [] then
    s.setChain b { c with waiting := c.waiting ++ [recordBytes ty b flags 0 info 0 body] }
  else sealOnAppend b (putRecord b ty (fun q => recordBytes ty b flags q info s.stamp body) s)

/-- Appends a record to the chain of every active berth. -/
def appendAll (ty flags info : Nat) (body : List Byte) (s : State) : State :=
  s.berths.foldl (fun s b => append b ty flags info body s) s

/-- A chain still waits to append a CONFIG record, by its INFO (R344). -/
def Chain.awaits (c : Chain) (info : Nat) : Bool := c.waiting.any (fun r => byteAt r 0 == 4 && fieldLe r 12 4 == info)

/-- A waiting record as it is appended: it takes its SEQ and the STAMP of that time (R344, R337). -/
def fillWaiting (rcd : List Byte) (seq stamp : Nat) : List Byte :=
  overwrite (overwrite rcd 4 (leBytes 8 seq)) 16 (stampBytes stamp)

/-- Appends waiting records, in order, while there is space. -/
def drainWaiting : Nat → Nat → State → State
  | 0, _, s => s
  | n + 1, b, s =>
    let c := s.chainAt b
    match c.waiting with
    | [] => s
    | rcd :: rest =>
      if s.ledgerSpace b = 0 || c.closed.length ≥ 8 || s.ledg.stopped then s
      else
        let s1 := s.setChain b { c with waiting := rest }
        drainWaiting n b (sealOnAppend b (putRecord b (byteAt rcd 0) (fun q => fillWaiting rcd q s.stamp) s1))

/-- The FULL_SPAN or GAP record that closes a span of pressure (R343, R346). -/
def closeSpan (b : Nat) (s : State) : State :=
  let c := s.chainAt b
  let s1 := if c.spanCount = 0 then s
    else append b 0x0A 0 c.spanCount (stampBytes c.spanFirst ++ stampBytes c.spanLast)
      (s.setChain b { c with spanCount := 0, spanFirst := 0, spanLast := 0 })
  let c1 := s1.chainAt b
  match c1.gapFirst with
  | none => s1
  | some g => append b 0x0B 0 (c1.gapLast - g + 1) (leBytes 8 g ++ leBytes 8 c1.gapLast)
      (s1.setChain b { c1 with gapFirst := none, gapLast := 0 })

/-- Brings FULL up to date after space has changed: leaving FULL appends the record that names the span (R343). -/
def refreshFull (b : Nat) (s : State) : State :=
  let c := s.chainAt b
  if s.ledgerTight b then s.setChain b { c with full := true }
  else
    let s1 := drainWaiting c.waiting.length b (s.setChain b { c with full := false })
    if c.full then closeSpan b s1 else s1

/-- A seal that waits is written as soon as it can be (R344, R346). -/
def sealNext (b : Nat) (s : State) : State :=
  let c := s.chainAt b
  if c.sealWaits && !c.signing && !s.ledg.stopped && s.sealRoom b then writeSeal b 0 s else s

/-- A buffer of a chain has become free: waiting records are appended, FULL is brought up to date, and a seal that waits is written. -/
def spaceFreed (b : Nat) (s : State) : State := if (s.chainAt b).active then sealNext b (refreshFull b s) else s

/-- The Weir's reservation of a record slot at commit. Answers false when the order fails LEDGER_FULL (R343). -/
def reserveSlot (b : Nat) (s : State) : State × Bool :=
  let s0 := refreshFull b s
  let c := s0.chainAt b
  if !c.active then (s0, true)
  else if !c.full then (s0.setChain b { c with reserved := c.reserved + 1 }, true)
  else (s0, c.gapPolicy && c.gapOk)

/-- Counts an order or frame refused while FULL under HOLD (R343). -/
def refuseFull (b : Nat) (ts : Nat) (s : State) : State :=
  let c := s.chainAt b
  let s1 := s.setChain b { c with spanCount := c.spanCount + 1, spanFirst := if c.spanCount = 0 then ts else c.spanFirst, spanLast := ts }
  { s1 with ledg := { s1.ledg with fullRefused := bump s1.ledg.fullRefused } }

/-- Takes a SEQ with no record, under GAP (R343). -/
def skipSeq (b : Nat) (s : State) : State :=
  let c := s.chainAt b
  let s1 := s.setChain b { c with nextSeq := c.nextSeq + 1, gapFirst := some (c.gapFirst.getD c.nextSeq), gapLast := c.nextSeq }
  { s1 with ledg := { s1.ledg with gapSkipped := bump s1.ledg.gapSkipped } }

/-- Appends an ORDER record, whose slot was reserved or not (R335, R343). -/
def appendOrder (b : Nat) (reserved : Bool) (rcd : Nat → List Byte) (s : State) : State :=
  let c := s.chainAt b
  if !c.active || s.ledg.stopped then s
  else if reserved then
    refreshFull b (sealOnAppend b (putRecord b 1 rcd (s.setChain b { c with reserved := c.reserved - 1 })))
  else skipSeq b s

/-- Opens a chain at page 0 with OPEN and its extension slot (R337, Normal course 1). -/
def openChain (b : Nat) (pub cert : List Byte) (s : State) : State :=
  let c := s.chainAt b
  let id := (sha256 pub).take 8
  let s1 := s.setChain b { active := true, closed := c.closed, page := { berth := b, chainId := id, prevHash := some (zeros 32) } }
  let s2 := putRecord b 0x02 (fun q => recordBytes 0x02 b 0 q 0 s.stamp pub) s1
  putSlot b (sha256 cert ++ leBytes 8 Config.deviceSerial.toNat ++ zeros 24) s2

end Sys2Proof.Machine
end

