-- ==== Sys2Proof/Machine/Servo.lean ====
section
/-! DEFINITION. The tide gauge's servo: the uncertainty bound, epochs, and the transitions of Table 02.6 (02_tide_gauge.md). -/

namespace Sys2Proof.Machine

/-- One second, in fs. -/
def fsPerSec : Nat := 1000000000000000

/-- HOLD_RATE in force, ps/s (02_tide_gauge.md R56, R67). -/
def Tide.holdRate (t : Tide) : Nat :=
  if t.holdNoRef then 50000
  else match t.holdRateSet with
    | some r => r.toNat
    | none => if t.refPresent && t.freq == 3 then 500 else 50000

/-- The growth of the bound at HOLD_RATE from `holdRateFrom`, ps, rounded up. -/
def Tide.rateGrowth (t : Tide) : Nat := (t.holdRate * (t.nowFs - t.holdRateFrom) + (fsPerSec - 1)) / fsPerSec

/-- The growth of the bound by HOLD_AGE from the entry, ps, rounded up. -/
def Tide.ageGrowth (t : Tide) : Nat :=
  let d := t.nowFs - t.holdStart.getD t.nowFs
  (t.holdAge.toNat * d * d + (2 * fsPerSec * fsPerSec - 1)) / (2 * fsPerSec * fsPerSec)

/-- ALIGN of R56, ps. -/
def Tide.align (t : Tide) : Nat := if t.phase == 1 then 3000 else 4000

/-- SERVO_RES of R56: the largest |offset| of the last 64 servo updates, ps. -/
def Tide.servoRes (t : Tide) : Nat := t.offsets.foldl max 0

/-- TIDE_BOUND, ps (02_tide_gauge.md R56, R68). -/
def Tide.bound (t : Tide) : Nat :=
  let extra := if t.failA || t.failB then 500 else 0
  match t.st with
  | .free => 0xFFFFFFFF
  | .holdover => min 0xFFFFFFFF (t.holdBound + t.rateGrowth + t.ageGrowth + extra)
  | _ => min 0xFFFFFFFF (t.refUnc.toNat + t.servoRes + t.align + 4000 + extra)

/-- Changes the tide gauge and starts a new epoch: EPOCH increments and a SYNC record is appended to every active chain (R61, R336). -/
def newEpoch (f : Tide → Tide) (s : State) : State :=
  let old := s.tide.word.toNat
  let t := f s.tide
  let t1 := { t with epoch := t.epoch + 1 }
  appendAll 0x05 0 t1.word.toNat (leBytes 4 old ++ leBytes 4 t1.bound ++ leBytes 4 t1.utcWord) { s with tide := t1 }

/-- The code of the source that steers in a state (Table 02.5 SOURCE). -/
def Tide.sourceIn (t : Tide) : Servo → BitVec 4
  | .free => 0
  | .holdover => if t.freq == 3 && t.refPresent then 3 else 0
  | _ => t.phase

/-- The tide gauge in another state, with SOURCE as it then is (Table 02.6). -/
def Tide.enter (st : Servo) (t : Tide) : Tide :=
  { t with st := st, source := t.sourceIn st, stateChanges := bump t.stateChanges, goodUpdates := 0 }

/-- A transition to FREE: holdover time is discarded (R54). -/
def goFree (f : Tide → Tide) (s : State) : State :=
  newEpoch (fun t => Tide.enter .free { f t with holdStart := none, holdLeft := false, holdNoRef := false, qualified := false, slewFs := 0 }) s

/-- A transition to HOLDOVER.  From LOCKED holdover time and the bound start at this entry; from ACQUIRE they go on from the original
one (R54, R56). With HOLDOVER_LIMIT 0 the servo goes on to FREE at once (Table 02.7). -/
def goHoldover (f : Tide → Tide) (s : State) : State :=
  let extra := if s.tide.failA || s.tide.failB then 500 else 0
  let entry := s.tide.bound - extra
  let fresh := s.tide.st == .locked
  let s1 := newEpoch (fun t =>
    let u := f t
    Tide.enter .holdover { u with
      holdStart := if fresh then some t.nowFs else t.holdStart, holdLeft := if fresh then true else t.holdLeft,
      holdBound := if fresh then entry else t.holdBound, holdRateFrom := if fresh then t.nowFs else t.holdRateFrom,
      holdNoRef := if fresh then false else t.holdNoRef,
      holdoverCount := bump t.holdoverCount, qualified := false, slewFs := 0 }) s
  let s2 := raise 0 1 0 0 0 none s1
  if s2.tide.holdLimit == 0 then goFree id s2 else s2

/-- The phase source is disqualified or lost (Table 02.6); `f` is what else changes at that instant. -/
def disqualify (f : Tide → Tide) (s : State) : State :=
  match s.tide.st with
  | .locked => goHoldover f s
  | .acquire =>
    if s.tide.acqFromHold && s.tide.holdLeft then goHoldover f s
    else goFree f s
  | _ => { s with tide := { f s.tide with qualified := false } }

/-- The phase source qualifies: FREE or HOLDOVER goes to ACQUIRE (Table 02.6). -/
def qualify (s : State) : State :=
  match s.tide.st with
  | .free => newEpoch (fun t => Tide.enter .acquire { t with qualified := true, acqFromHold := false, lastUpdate := none }) s
  | .holdover => newEpoch (fun t => Tide.enter .acquire { t with qualified := true, acqFromHold := true, lastUpdate := none }) s
  | _ => { s with tide := { s.tide with qualified := true } }

/-- A single phase step of the counter by an offset in fs; every frame not yet stamped at an egress has seen it (R55, R62, R63). -/
def phaseStep (off : Int) (s : State) : State :=
  let s1 := newEpoch (fun t => { t with nowFs := ((t.nowFs : Int) - off).toNat, slewFs := 0 }) s
  { s1 with frames := s1.frames.map (fun e => (e.1, { e.2 with seenEpochStep := e.2.seenEpochStep || e.2.te == 0 })) }

/-- Remembers a servo update: its offset among the last 64, and the instant (R56). -/
def Tide.noteUpdate (offFs : Int) (good : Bool) (t : Tide) : Tide :=
  { t with offsets := ((offFs.natAbs + 999) / 1000 :: t.offsets).take 64, lastOffset := offFs / 1000, lastUpdate := some t.nowFs,
           goodUpdates := if good then t.goodUpdates + 1 else 0, slewFs := -offFs }

/-- An update is good: |offset| is below LOCK_THRESH and the frequency error, taken between successive updates, below 10 ppb (Table
02.6). -/
def Tide.goodUpdate (offFs : Int) (t : Tide) : Bool :=
  match t.lastUpdate with
  | none => false
  | some u => offFs.natAbs < t.lockThresh.toNat * 1000000 && (offFs + t.slewFs).natAbs * 100000000 < t.nowFs - u

/-- One servo update with the measured offset, counter minus source, in fs (R53, R55); TIDE_SRC_JUMP carries it in ps (20_sump.md R430,
log entry 2). -/
def servoUpdate (offFs : Int) (s : State) : State :=
  let t := s.tide
  let large := t.stepThresh.toNat * 1000000 < offFs.natAbs
  match t.st with
  | .locked =>
    if large then disqualify id (raise 0 2 0 0 (unsignedOf 64 (offFs / 1000)) none s)
    else { s with tide := t.noteUpdate offFs (t.goodUpdate offFs) }
  | .acquire =>
    if large then
      let s1 := phaseStep offFs s
      { s1 with tide := s1.tide.noteUpdate 0 false }
    else
      let t1 := t.noteUpdate offFs (t.goodUpdate offFs)
      if t.lockCount.toNat ≤ t1.goodUpdates then
        newEpoch (fun _ => Tide.enter .locked { t1 with holdStart := none, holdLeft := false, holdNoRef := false }) s
      else { s with tide := t1 }
  | _ => s

/-- The UTC offset changes (R47): a new epoch. -/
def applyUtc (off : BitVec 16) (s : State) : State :=
  if s.tide.utcValid && s.tide.utcOffset == off then { s with tide := { s.tide with leap61 := false, leap59 := false, pendUtc := none } }
  else newEpoch (fun t => { t with utcOffset := off, utcValid := true, leap61 := false, leap59 := false, pendUtc := none }) s

/-- The UTC day now, as a Modified Julian Date (R47). -/
def Tide.utcDay (t : Tide) : Nat := (t.nowFs / fsPerSec - (if t.utcValid then t.utcOffset.toNat else 0)) / 86400 + 40587

/-- The sync condition that time-fail-closed samples: STATE is not LOCKED or TIDE_BOUND exceeds the threshold (R57). -/
def State.timeFails (s : State) (b : Nat) : Bool :=
  (s.berthAt b).tfc && (s.tide.st != .locked || (s.berthAt b).tfcThresh.toNat < s.tide.bound)

end Sys2Proof.Machine
end

