-- ==== Sys2Proof/Machine/Ptp.lean ====
section
/-! DEFINITION. IEEE 1588-2019 messages of the PTP instances (02_tide_gauge.md R50, Table 02.3). -/

namespace Sys2Proof.Machine

/-- PTP instance i. -/
def State.ptpAt (s : State) (i : Nat) : PtpInst := Tab.look {} s.tide.ptp i

/-- Writes PTP instance i. -/
def State.setPtp (s : State) (i : Nat) (v : PtpInst) : State :=
  { s with tide := { s.tide with ptp := Tab.put {} s.tide.ptp i v } }

/-- The transport of a received frame and the message within it: Ethernet, UDP over IPv4 or UDP over IPv6 (IEEE 1588-2019 annexes C to
E). A VLAN tag is skipped. -/
def ptpPayload (fr : List Byte) : Option (Nat × List Byte) :=
  let o := if fieldBe fr 12 2 = 0x8100 ∨ fieldBe fr 12 2 = 0x88A8 then 16 else 12
  let ty := fieldBe fr o 2
  if ty = 0x88F7 then some (0, fr.drop (o + 2))
  else if ty = 0x0800 && byteAt fr (o + 11) = 17 then
    let h := byteAt fr (o + 2) % 16 * 4
    let port := fieldBe fr (o + 2 + h + 2) 2
    if port = 319 ∨ port = 320 then some (1, fr.drop (o + 2 + h + 8)) else none
  else if ty = 0x86DD && byteAt fr (o + 8) = 17 then
    let port := fieldBe fr (o + 44) 2
    if port = 319 ∨ port = 320 then some (2, fr.drop (o + 50)) else none
  else none

/-- messageType of a PTP message. -/
def ptpType (m : List Byte) : Nat := byteAt m 0 % 16

/-- An event message: Sync, Delay_Req, Pdelay_Req or Pdelay_Resp. -/
def ptpIsEvent (m : List Byte) : Bool := ptpType m ≤ 3

/-- A frame carries a PTP event message (R51). -/
def frameIsPtpEvent (fr : List Byte) : Bool :=
  match ptpPayload fr with
  | some (_, m) => ptpIsEvent m
  | none => false

/-- Flag bits of octet 6: twoStep. -/
def ptpTwoStep (m : List Byte) : Bool := bitOf (byteAt m 6) 1

/-- correctionField, in units of 2^-16 ns. -/
def ptpCorr (m : List Byte) : Int := signedOf 64 (fieldBe m 8 8)

/-- sequenceId. -/
def ptpSeq (m : List Byte) : BitVec 16 := BitVec.ofNat 16 (fieldBe m 30 2)

/-- The timestamp at offset 34 of a message body, in units of 2^-16 ns. -/
def ptpTimestamp (m : List Byte) : Int := (fieldBe m 34 6 * 1000000000 + fieldBe m 40 4 : Nat) * 65536

/-- A stamp in units of 2^-16 ns. -/
def stampToPtp (t : Nat) : Int := (t * 1024 : Nat)

/-- A stamp as a PTP timestamp: 6 bytes of seconds and 4 of nanoseconds. -/
def ptpStampBytes (t : Nat) : List Byte := beBytes 6 (stampSec t) ++ beBytes 4 (stampNs t)

/-- The common header of a message that an instance sends. -/
def ptpHeader (ty len dom flags : Nat) (corr : Int) (src : List Byte) (seq : BitVec 16) (logInt : Int) : List Byte :=
  [BitVec.ofNat 8 ty, 0x12] ++ beBytes 2 len ++ [BitVec.ofNat 8 dom, 0] ++ beBytes 2 flags ++ beBytes 8 (unsignedOf 64 corr)
    ++ zeros 4 ++ src ++ beBytes 2 seq.toNat ++ [0, BitVec.ofNat 8 (unsignedOf 8 logInt)]

/-- sourcePortIdentity of instance i on a river port. -/
def ptpPortId (i p : Nat) : List Byte := padTo 8 (Config.clockId i) ++ beBytes 2 (p + 1)

/-- The instance that a port belongs to, if any. -/
def Tide.instOf (t : Tide) (p : Nat) : Option Nat := Tab.find (fun _ x => x.configured && x.ports.getLsbD p) t.ptp

/-- A message uses only the options of Table 02.3: PTP version 2 of the default profile, no unicast, a known type, and of the management
messages GET alone. -/
def ptpSupported (m : List Byte) : Bool :=
  byteAt m 1 % 16 == 2 && byteAt m 0 / 16 == 0 && byteAt m 5 == 0 && !bitOf (byteAt m 6) 2
  && (ptpType m ≤ 3 || (8 ≤ ptpType m && ptpType m ≤ 11) || (ptpType m == 13 && byteAt m 46 % 16 == 0))

/-- Numbers compared in order, the first difference deciding; less is better. -/
def betterKey : List Nat → List Nat → Bool
  | a :: as, b :: bs => a < b || (a == b && betterKey as bs)
  | [], _ :: _ => true
  | _, [] => false

/-- The data set comparison key of an Announce message (IEEE 1588-2019 9.3). -/
def announceKey (m : List Byte) : List Nat :=
  [byteAt m 47, byteAt m 48, byteAt m 49, fieldBe m 50 2, byteAt m 52, fieldBe m 53 8, fieldBe m 61 2, fieldBe m 20 10]

/-- The offset from the source an instance has measured, in fs: counter minus source. -/
def PtpInst.offsetFs (x : PtpInst) : Int := (x.t2 - x.t1 - x.meanDelay) * 1000000 / 65536

/-- A complete Sync: origin and receipt are known; the servo is updated when the instance is the phase source and steers (R48, R53). -/
def ptpSynced (i : Nat) (t1 t2 : Int) (s : State) : State :=
  let x := { s.ptpAt i with t1 := t1, t2 := t2, syncTs := none }
  let s1 := s.setPtp i x
  if s1.tide.phase == 2 && s1.tide.ptpInst.toNat == i && x.parent.isSome then
    servoUpdate x.offsetFs (qualify s1)
  else s1

/-- Sends a PTP message on a port. -/
def sendPtp (p : Nat) (x : PtpInst) (m : List Byte) (s : State) : State := emit (.ptp p x.transport.toNat m) s

/-- Announce: the default best-timeTransmitter algorithm, and the UTC fields of the selected one (R47, R50). -/
def ptpAnnounce (i : Nat) (m : List Byte) (s : State) : State :=
  let x := s.ptpAt i
  let sender := sliceBytes m 20 10
  if x.parent = some sender || x.parent.isNone || betterKey (announceKey m) x.parentKey then
    let s1 := s.setPtp i { x with parent := some sender, parentKey := announceKey m }
    let fl := byteAt m 7
    if s1.tide.phase == 2 && s1.tide.ptpInst.toNat == i && bitOf fl 2 && bitOf fl 3 then
      let off := BitVec.ofNat 16 (fieldBe m 44 2)
      if bitOf fl 0 then
        { s1 with tide := { s1.tide with leap61 := true, leap59 := false, pendUtc := some (off + 1, s1.tide.utcDay) } }
      else if bitOf fl 1 then
        { s1 with tide := { s1.tide with leap61 := false, leap59 := true, pendUtc := some (off - 1, s1.tide.utcDay) } }
      else if s1.tide.pendUtc.isNone then applyUtc off s1
      else s1
    else s1
  else s

/-- A message for an ordinary clock, time receiver, or the receiver side of a boundary clock. -/
def ptpAsReceiver (i p : Nat) (m : List Byte) (ts : Nat) (s : State) : State :=
  let x := s.ptpAt i
  let fromParent := x.parent == some (sliceBytes m 20 10)
  let mine := sliceBytes m 44 10 == ptpPortId i p
  match ptpType m with
  | 0 =>
    if !fromParent then s
    else if ptpTwoStep m then s.setPtp i { x with syncTs := some ts, syncSeq := ptpSeq m, syncCorr := ptpCorr m }
    else ptpSynced i (ptpTimestamp m + ptpCorr m) (stampToPtp ts) s
  | 8 =>
    match x.syncTs with
    | some t2 =>
      if fromParent && x.syncSeq == ptpSeq m then ptpSynced i (ptpTimestamp m + ptpCorr m + x.syncCorr) (stampToPtp t2) s else s
    | none => s
  | 9 =>
    match x.reqTs with
    | some t3 =>
      if fromParent && mine && ptpSeq m == x.reqSeq - 1 then
        s.setPtp i { x with meanDelay := ((x.t2 - x.t1) + (ptpTimestamp m - ptpCorr m - stampToPtp t3)) / 2, reqTs := none }
      else s
    | none => s
  | 11 => ptpAnnounce i m s
  | _ => s

/-- Peer delay messages, of every clock type (Table 02.3). -/
def ptpPeer (i p : Nat) (m : List Byte) (ts : Nat) (s : State) : State :=
  let x := s.ptpAt i
  let mine := sliceBytes m 44 10 == ptpPortId i p
  match ptpType m with
  | 2 =>
    let resp := ptpHeader 3 54 x.domain.toNat (if x.oneStep then 0 else 0x200) (if x.oneStep then ptpCorr m else 0) (ptpPortId i p) (ptpSeq m) 127
      ++ ptpStampBytes ts ++ sliceBytes m 20 10
    let s1 := sendPtp p x resp s
    if x.oneStep then s1
    else sendPtp p x (ptpHeader 10 54 x.domain.toNat 0 (ptpCorr m) (ptpPortId i p) (ptpSeq m) 127
      ++ ptpStampBytes s.stamp ++ sliceBytes m 20 10) s1
  | 3 =>
    match x.reqTs with
    | some t1 =>
      if !(mine && ptpSeq m == x.reqSeq - 1) then s
      else if ptpTwoStep m then s.setPtp i { x with respTs := some (ts, ((ptpTimestamp m - ptpCorr m) / 1024).toNat) }
      else s.setPtp i { x with meanDelay := (stampToPtp ts - stampToPtp t1 - ptpCorr m) / 2, reqTs := none }
    | none => s
  | 10 =>
    match x.reqTs, x.respTs with
    | some t1, some (t4, t2) =>
      if mine && ptpSeq m == x.reqSeq - 1 then
        s.setPtp i { x with meanDelay := ((stampToPtp t4 - stampToPtp t1) - (ptpTimestamp m + ptpCorr m - stampToPtp t2)) / 2,
                            reqTs := none, respTs := none }
      else s
    | _, _ => s
  | _ => s

/-- A Delay_Req at a time transmitter: Delay_Resp with the receipt stamp. -/
def ptpAsTransmitter (i p : Nat) (m : List Byte) (ts : Nat) (s : State) : State :=
  let x := s.ptpAt i
  if ptpType m = 1 then
    sendPtp p x (ptpHeader 9 54 x.domain.toNat 0 (ptpCorr m) (ptpPortId i p) (ptpSeq m) x.logSync
      ++ ptpStampBytes ts ++ sliceBytes m 20 10) s
  else s

/-- A management GET is answered with a RESPONSE; its data field is IEEE 1588's and stays a free value (log entry 11). -/
def ptpManagement (i p : Nat) (m : List Byte) (s : State) : State :=
  let x := s.ptpAt i
  let n := s.draw
  sendPtp p x (ptpHeader 13 56 x.domain.toNat 0 0 (ptpPortId i p) (ptpSeq m) 127 ++ sliceBytes m 20 10 ++ [0, 0, 2, 0]
    ++ beBytes 2 1 ++ beBytes 2 4 ++ sliceBytes m 52 2 ++ (List.range 2).map (Config.freeByte n)) (drawn s)

/-- A message of an instance's own domain and transport, by its clock type. A transparent clock passes messages on: it answers peer delay
only (R51). -/
def ptpHandle (i p : Nat) (m : List Byte) (ts : Nat) (s : State) : State :=
  let x := s.ptpAt i
  let peer := 2 ≤ ptpType m && ptpType m ≤ 10 && ptpType m != 8 && ptpType m != 9
  if ptpType m = 13 then ptpManagement i p m s
  else if peer then (if x.p2p then ptpPeer i p m ts s else s)
  else match x.ctype.toNat with
    | 0 => ptpAsReceiver i p m ts s
    | 1 => ptpAsTransmitter i p m ts s
    | 2 => ptpAsTransmitter i p m ts (ptpAsReceiver i p m ts s)
    | _ => s

/-- A PTP source that is lost (R67). -/
def ptpLost (i : Nat) (s : State) : State :=
  let s1 := s.setPtp i { s.ptpAt i with parent := none, parentKey := [], syncTs := none, reqTs := none, respTs := none }
  if s1.tide.phase == 2 && s1.tide.ptpInst.toNat == i then disqualify id (raise 0 0 0 0 0 none s1) else s1

/-- Sync, and with two steps its Follow_Up, on every port of an instance. -/
def ptpSendSync (i : Nat) (ts : Nat) (s : State) : State :=
  let x := s.ptpAt i
  let one (s : State) (p : Nat) : State :=
    let h (ty fl : Nat) := ptpHeader ty 44 x.domain.toNat fl 0 (ptpPortId i p) x.txSeq x.logSync ++ ptpStampBytes ts
    let s1 := sendPtp p x (h 0 (if x.oneStep then 0 else 0x200)) s
    if x.oneStep then s1 else sendPtp p x (h 8 0) s1
  let s1 := (setBits 64 x.ports.toNat).foldl one s
  s1.setPtp i { s1.ptpAt i with txSeq := x.txSeq + 1 }

/-- Announce on every port of an instance: its priorities, and the UTC fields of TIDE_UTC; the clock quality is a free value (log entry
11). -/
def ptpSendAnnounce (i : Nat) (ts : Nat) (s : State) : State :=
  let x := s.ptpAt i
  let n := s.draw
  let fl := bitNat s.tide.leap61 + 2 * bitNat s.tide.leap59 + 4 * bitNat s.tide.utcValid + 8
  let body := ptpStampBytes ts ++ beBytes 2 s.tide.utcOffset.toNat ++ [0, x.prio1] ++ (List.range 4).map (Config.freeByte n)
    ++ [x.prio2] ++ padTo 8 (Config.clockId i) ++ beBytes 2 0 ++ [0x20]
  let one (s : State) (p : Nat) : State :=
    sendPtp p x (ptpHeader 11 64 x.domain.toNat fl 0 (ptpPortId i p) x.annSeq x.logAnn ++ body) s
  let s1 := (setBits 64 x.ports.toNat).foldl one (drawn s)
  s1.setPtp i { s1.ptpAt i with annSeq := x.annSeq + 1 }

/-- Delay_Req or Pdelay_Req on every port of an instance; its egress stamp is kept. -/
def ptpSendRequest (i : Nat) (ts : Nat) (s : State) : State :=
  let x := s.ptpAt i
  let ty := if x.p2p then 2 else 1
  let one (s : State) (p : Nat) : State :=
    sendPtp p x (ptpHeader ty (if x.p2p then 54 else 44) x.domain.toNat 0 0 (ptpPortId i p) x.reqSeq 127 ++ zeros (if x.p2p then 20 else 10)) s
  let s1 := (setBits 64 x.ports.toNat).foldl one s
  s1.setPtp i { s1.ptpAt i with reqSeq := x.reqSeq + 1, reqTs := some ts, respTs := none }

end Sys2Proof.Machine
end

