-- ==== Sys2Proof/Machine/TraceOps.lean ====
section
/-! DEFINITION. The trace unit: packets, the FIFO, the buffer, and the instruction stream's marks (22_counters_trace.md R471 to R474). -/

namespace Sys2Proof.Machine

/-- A trace packet (22_counters_trace.md Table 22.2). -/
def packetBytes (ty info : Nat) (tseq : BitVec 16) (stamp : Nat) (payload : List Byte) : List Byte :=
  [BitVec.ofNat 8 ty, BitVec.ofNat 8 info] ++ leBytes 2 tseq.toNat ++ stampBytes stamp ++ padTo 16 payload

/-- Stream bits of a LOST packet (Table 22.3): 1 the instruction stream, 2 the flow stream. -/
def streamOf (ty : Nat) : BitVec 2 := if ty = 7 then 2 else 1

/-- A packet enters the FIFO, or is dropped and counted when the FIFO is full (R471). -/
def Trace.push (t : Trace) (ty info : Nat) (stamp : Nat) (payload : List Byte) : Trace :=
  if 16 ≤ t.fifo.length then
    { t with lostNow := t.lostNow + 1, lostStreams := t.lostStreams ||| streamOf ty,
             lost := if t.lost = 0xFFFF then t.lost else t.lost + 1 }
  else { t with fifo := t.fifo ++ [packetBytes ty info t.tseq stamp payload], tseq := t.tseq + 1 }

/-- A SYNC packet: the PC of the next instruction to retire, and the instructions retired since enable (Table 22.3). -/
def Trace.sync (t : Trace) (reason stamp : Nat) : Trace :=
  { t.push 1 reason stamp (leBytes 8 t.nextPc.toNat ++ leBytes 8 t.retired.toNat) with instPkts := 0 }

/-- A packet of the instruction stream is counted, and a SYNC follows every 1,024 of them (R472). -/
def Trace.counted (t : Trace) (stamp : Nat) : Trace :=
  let t1 := { t with instPkts := t.instPkts + 1 }
  if 1024 ≤ t1.instPkts then t1.sync 2 stamp else t1

/-- The open BRANCH packet closes (R472). -/
def Trace.closeBranch (t : Trace) (stamp : Nat) : Trace :=
  if t.branches = [] then t
  else { t.push 2 t.branches.length stamp (leBytes 8 (maskOf 64 (fun i => t.branches.getD i false))) with branches := [] }.counted stamp

/-- A packet of the instruction stream: the open BRANCH closes before it (R472). -/
def Trace.inst (t : Trace) (ty info : Nat) (stamp : Nat) (payload : List Byte) : Trace :=
  ((t.closeBranch stamp).push ty info stamp payload).counted stamp

/-- The oldest packet of the FIFO is written to the buffer; in STOP mode nothing is written after packet 2,047, and it counts as lost
(R471). -/
def Trace.drain (t : Trace) : Trace :=
  match t.fifo with
  | [] => t
  | p :: rest =>
    if t.stopMode && t.wrapped then { t with fifo := rest, lost := if t.lost = 0xFFFF then t.lost else t.lost + 1 }
    else { t with fifo := rest, buf := Tab.put [] t.buf t.wptr p, wptr := (t.wptr + 1) % 2048, wrapped := t.wrapped || t.wptr == 2047 }

/-- Writes every packet of the FIFO (R475: they are written before a new configuration applies). -/
def Trace.drainAll (t : Trace) : Nat → Trace
  | 0 => t
  | n + 1 => (t.drain).drainAll n

/-- IDLE_IN with its cause, when the instruction stream is on (R474). -/
def Trace.idleIn (t : Trace) (cause stamp : Nat) : Trace :=
  if t.phOn then { t.inst 5 cause stamp (leBytes 8 t.pc.toNat) with idleOpen := true } else { t with branches := [] }

/-- IDLE_OUT with the cause of the idle, then SYNC reason 1 (R474). -/
def Trace.idleOut (t : Trace) (cause stamp : Nat) : Trace :=
  if t.phOn && t.idleOpen then { (t.inst 6 cause stamp []).sync 1 stamp with idleOpen := false } else { t with idleOpen := false }

/-- An instruction retires: a conditional branch adds its outcome, and a BRANCH packet closes at 64; an indirect jump and a trap have packets
of their own (R472, Table 22.3). -/
def Trace.retire (t : Trace) (i : Retired) (stamp : Nat) : Trace :=
  match i with
  | .plain pc next => { t with pc := pc, nextPc := next, retired := t.retired + 1 }
  | .branch pc next taken =>
    let t1 := { t with pc := pc, nextPc := next, retired := t.retired + 1, branches := if t.phOn then t.branches ++ [taken] else [] }
    if 64 ≤ t1.branches.length then t1.closeBranch stamp else t1
  | .indirect pc target =>
    let t1 := { t with pc := pc, nextPc := target, retired := t.retired + 1 }
    if t.phOn then t1.inst 3 0 stamp (leBytes 8 target.toNat ++ leBytes 8 pc.toNat) else t1
  | .trapped mepc mcause handler =>
    let t1 := { t with nextPc := handler }
    if t.phOn then t1.inst 4 0 stamp (leBytes 8 mepc.toNat ++ leBytes 8 mcause.toNat) else t1

/-- Changes the trace unit. -/
def onTrace (f : Trace → Trace) (s : State) : State := { s with trace := f s.trace }

end Sys2Proof.Machine
end

