-- ==== Sys2Proof/Machine/FrameOps.lean ====
section
/-! DEFINITION. Frames: their headers as the hardware recognises them, their stamps, and the ownership of ports (01_order_path.md,
04_river_ports.md, 09_berths.md). -/

namespace Sys2Proof.Machine

/-- Changes frame f. -/
def onFrame (f : Nat) (g : Frame → Frame) (s : State) : State := s.setFrame f (g (s.frameAt f))

/-- Changes river port p. -/
def onPort (p : Nat) (g : Port → Port) (s : State) : State := s.setPort p (g (s.portAt p))

/-! ### Headers -/

/-- Length L of a frame, FCS included. -/
def Frame.len (f : Frame) : Nat := f.bytes.length

/-- The outermost VLAN tag's TCI. -/
def vlanTci (b : List Byte) : Option Nat :=
  if fieldBe b 12 2 = 0x8100 || fieldBe b 12 2 = 0x88A8 then some (fieldBe b 14 2) else none

/-- The outermost VLAN ID; 0 for untagged and priority-tagged frames (09_berths.md R210). -/
def outerVlan (b : List Byte) : Nat :=
  match vlanTci b with
  | some t => t % 4096
  | none => 0

/-- The class of a received frame: the outermost PCP, or 0 for untagged frames (08_ferry_reservoir.md R200). -/
def pcpOf (b : List Byte) : Nat :=
  match vlanTci b with
  | some t => t / 8192
  | none => 0

/-- EtherType behind the VLAN tags, and the offset of what follows it; at most n tags are skipped. -/
def afterTags (b : List Byte) : Nat → Nat → Nat × Nat
  | 0, o => (fieldBe b o 2, o + 2)
  | n + 1, o => if fieldBe b o 2 = 0x8100 || fieldBe b o 2 = 0x88A8 then afterTags b n (o + 4) else (fieldBe b o 2, o + 2)

/-- EtherType and start of the L3 header. -/
def l3Of (b : List Byte) : Nat × Nat := afterTags b 4 12

/-- Protocol and destination port as the ferry gate finds them: behind IPv4 of any IHL, or IPv6 without extension headers (R187). -/
def ferryL4 (b : List Byte) : Option (Nat × Nat) :=
  let (ty, o) := l3Of b
  if ty = 0x0800 then
    let h := o + byteAt b o % 16 * 4
    let p := byteAt b (o + 9)
    if p = 6 || p = 17 then some (p, fieldBe b (h + 2) 2) else none
  else if ty = 0x86DD then
    let p := byteAt b (o + 6)
    if p = 6 || p = 17 then some (p, fieldBe b (o + 42) 2) else none
  else none

/-- An IP fragment as the ingress recogniser marks it (05_pumps.md R127). -/
structure FragHdr where
  src : List Byte
  dst : List Byte
  proto : Nat
  ident : Nat
  offset : Nat
  more : Bool

/-- Walks IPv6 extension headers to a fragment header. -/
def ipv6Frag (b : List Byte) (src dst : List Byte) : Nat → Nat → Nat → Option FragHdr
  | 0, _, _ => none
  | n + 1, nh, o =>
    if nh = 44 then
      some { src := src, dst := dst, proto := byteAt b o, ident := fieldBe b (o + 4) 4, offset := fieldBe b (o + 2) 2 / 8,
             more := bitOf (byteAt b (o + 3)) 0 }
    else if nh = 0 || nh = 43 || nh = 60 then ipv6Frag b src dst n (byteAt b o) (o + 8 + 8 * byteAt b (o + 1))
    else none

/-- The fragment a frame is, if any (05_pumps.md R127). -/
def fragOf (b : List Byte) : Option FragHdr :=
  let (ty, o) := l3Of b
  if ty = 0x0800 then
    let w := fieldBe b (o + 6) 2
    if w % 16384 = 0 then none
    else some { src := sliceBytes b (o + 12) 4, dst := sliceBytes b (o + 16) 4, proto := byteAt b (o + 9), ident := fieldBe b (o + 4) 2,
                offset := w % 8192, more := bitOf w 13 }
  else if ty = 0x86DD then ipv6Frag b (sliceBytes b (o + 8) 16) (sliceBytes b (o + 24) 16) 8 (byteAt b (o + 6)) (o + 40)
  else none

/-- The frame is a fragment whose offset is not 0. -/
def laterFrag (b : List Byte) : Bool :=
  match fragOf b with
  | some h => h.offset != 0
  | none => false

/-- The FCS field is the one that is right for the bytes before it. -/
def fcsGood (b : List Byte) : Bool := 4 ≤ b.length && b.drop (b.length - 4) == fcsOf (b.take (b.length - 4))

/-- The bytes with their FCS field replaced by the complement of the right one (01_order_path.md R33). -/
def stomped (b : List Byte) : List Byte :=
  let body := b.take (b.length - 4)
  body ++ (fcsOf body).map (fun x => ~~~x)

/-! ### Ports (04_river_ports.md) -/

/-- Quad of a port is bonded (R94). -/
def State.bonded (s : State) (p : Nat) : Bool := (s.quadAt (p / 4)).rate == 2

/-- A bond member (R94). -/
def State.bondMember (s : State) (p : Nat) : Bool := s.bonded p && p % 4 != 0

/-- Rate code of a port: 0 10G, 1 25G, 2 100G. -/
def State.portRate (s : State) (p : Nat) : Nat := (s.quadAt (p / 4)).rate.toNat

/-- Port speed, Mb/s. -/
def portSpeed (rate : Nat) : Nat := if rate = 0 then 10000 else if rate = 1 then 25000 else 100000

/-- The port is UP. -/
def State.portUp (s : State) (p : Nat) : Bool := (s.portAt p).link == 3

/-- FERRY_OK (R101). -/
def State.ferryOk (s : State) (p : Nat) : Bool :=
  s.portRate p < 2 && (s.portAt p).fec == 0 && s.portUp p && (s.quadAt (p / 4)).synth == 0 && (s.portAt p).resumed

/-- The port is paused for a class: by Pause, or by PFC for the class (R101). -/
def State.pausedFor (s : State) (p tc : Nat) : Bool := (s.portAt p).paused || (s.portAt p).pfcPaused.getLsbD tc

/-- The port's egress may start frames: it is UP, its quad does not drain or settle, and it has resumed (R103). -/
def State.mayStart (s : State) (p : Nat) : Bool := s.portUp p && (s.quadAt (p / 4)).synth == 0 && (s.portAt p).resumed

/-- The readings of the 16 sensors. -/
def State.temps (s : State) : List Int := Tab.run 0 s.therm.ts 0 16

/-- The fused PMA delay and the board delay of a lane, in units of 2^-6 ns (02_tide_gauge.md R58). -/
def State.laneDelay (s : State) (p : Nat) (egress : Bool) : Int :=
  Config.laneDelay p egress (s.portRate p) (s.portAt p).fec.toNat s.temps
    + Tab.look 0 (if egress then s.tide.egrDelay else s.tide.ingDelay) p * 64 / 1000

/-- Ts: the stamp of an SFD at the ingress PCS, referred to the lane balls (01_order_path.md R28). -/
def State.ingressStamp (s : State) (p phase : Nat) : Nat := ((stampOfFs (s.instant phase) : Int) - s.laneDelay p false).toNat

/-- Te: the stamp of an SFD at the egress PCS, referred to the lane balls (01_order_path.md R28). -/
def State.egressStamp (s : State) (p phase : Nat) : Nat := ((stampOfFs (s.instant phase) : Int) + s.laneDelay p true).toNat

/-! ### Ownership (09_berths.md R210 to R214) -/

/-- Ownership of port p. -/
def State.ownerAt (s : State) (p : Nat) : Owner := Tab.look {} s.glb.owner p

/-- The berth a frame received on a port belongs to (R211); a berth in teardown accepts none (R220). -/
def State.frameBerth (s : State) (p vlan : Nat) : Option Nat :=
  let o := s.ownerAt p
  let b := match o.whole with
    | some b => some b
    | none => (o.shares.find? (fun x => x.vlanLo.toNat ≤ vlan && vlan ≤ x.vlanHi.toNat)).map Share.berth
  match b with
  | some b => if s.berthActive b then some b else none
  | none => none

/-- A berth owns a port on a traffic class: whole, or by a share whose mask holds it (R212). -/
def State.ownsPort (s : State) (b p tc : Nat) : Bool :=
  let o := s.ownerAt p
  o.whole == some b || o.shares.any (fun x => x.berth == b && x.tcMask.getLsbD tc)

/-- The gangways that are set. -/
def State.gangways (s : State) : List Gangway := (s.glb.gangway.map Prod.snd).filter Gangway.valid

/-- A berth's result may name a port on a traffic class (R212, R213). -/
def State.mayUsePort (s : State) (b p tc : Nat) : Bool :=
  s.ownsPort b p tc
  || s.gangways.any (fun g => g.src == b && g.kind == 0 && g.target.toNat == p && s.ownsPort g.dst p tc)

/-- Events of a frame: the port and its berth as masters (22_counters_trace.md R467). -/
def frameOcc (p b : Nat) (cls : Option Nat) : Occ := { priv := some .berth, masters := [(1, p), (2, b)], cls := cls }

/-! ### RDMA frames (14_remote_memory.md R313, R314) -/

/-- The offset of the UDP header of an IPv4 packet, or of an IPv6 packet without extension headers, and whether it is IPv6. -/
def udpAt (b : List Byte) : Option (Bool × Nat) :=
  let (ty, o) := l3Of b
  if ty = 0x0800 && byteAt b (o + 9) = 17 then some (false, o + byteAt b o % 16 * 4)
  else if ty = 0x86DD && byteAt b (o + 6) = 17 then some (true, o + 40)
  else none

/-- The IP destination address of a packet. -/
def ipDest (b : List Byte) (v6 : Bool) : List Byte := if v6 then sliceBytes b ((l3Of b).2 + 24) 16 else sliceBytes b ((l3Of b).2 + 16) 4

/-- A local address of a queue pair is the given one. -/
def Qp.isAt (x : Qp) (v6 : Bool) (addr : List Byte) : Bool := x.v6 == v6 && x.lip.take (if v6 then 16 else 4) == addr

/-- A frame that a berth received on a port is an RDMA frame (R314). -/
def State.isRdma (s : State) (b p : Nat) (bytes : List Byte) : Bool :=
  match udpAt bytes with
  | some (v6, u) => fieldBe bytes (u + 2) 2 == 4791
      && s.rdma.qp.any (fun e => e.2.used && e.2.berth == b && e.2.path == 0 && e.2.port == p && e.2.isAt v6 (ipDest bytes v6))
  | none => false

end Sys2Proof.Machine
end

