-- ==== Sys2Proof/Machine/Micro.lean ====
section
/-! DEFINITION. The pump engine: microwords, nano-words and the run of a framing profile over a frame (05_pumps.md Tables 05.1 to
05.5, R118 to R126; the readings of log entry 17). -/

namespace Sys2Proof.Machine

/-- Bits [hi:lo] of a nano-word. -/
def nanoField (w : BitVec 192) (hi lo : Nat) : Nat := bitsOf w.toNat hi lo

/-- A run in progress. -/
structure Run where
  pc : Nat
  regs : List (BitVec 64) := List.replicate 8 0
  key0 : Nat := 0
  key1 : Nat := 0
  weir : Tab Nat := []
  digest : List Byte := []
  anyDigest : Bool := false
  hdrs : List (Nat × Nat) := []
  cursor : Nat := 0
  l3 : Option (Nat × Nat) := none
  l4 : Option (Nat × Nat) := none
  l4pay : Option Nat := none
  msg : Option Nat := none
  order : Bool := false
  /-- Bytes used: one more than the highest index. -/
  used : Nat := 0
  steps : Nat := 0
  discards : Nat := 0
  /-- The class, once parsing has ended. -/
  ended : Option Nat := none
  deriving DecidableEq, Repr

/-- The class MICRO_TRAP. -/
def clsTrap : Nat := 7
/-- The class TRUNC_HDR. -/
def clsTrunc : Nat := 5
/-- The class BAD_LEN. -/
def clsLen : Nat := 2
/-- The class BAD_CSUM. -/
def clsCsum : Nat := 3

/-- Parsing ends in a class. -/
def Run.endIn (r : Run) (c : Nat) : Run := { r with ended := some (r.ended.getD c) }

/-- The base of an extraction (Table 05.3 EXT_BASE). -/
def Run.base (r : Run) (b : Nat) : Option Nat :=
  if b = 0 then some 0
  else if b = 1 then r.l3.map Prod.snd
  else if b = 2 then r.l4.map Prod.snd
  else if b = 3 then r.l4pay
  else if b = 4 then r.msg
  else some r.cursor

/-- The last byte an engine can read: min(255, frame end) (R119). -/
def lastByte (b : List Byte) : Nat := min 255 (b.length - 1)

/-- The end of the innermost L3 datagram, by its own length field. -/
def Run.l3End (r : Run) (b : List Byte) : Option Nat :=
  match r.l3 with
  | some (3, o) => some (o + fieldBe b (o + 2) 2)
  | some (_, o) => some (o + 40 + fieldBe b (o + 4) 2)
  | none => none

/-- One's-complement sum of the 16-bit words of a byte string, an odd last byte padded with zero. -/
def onesSum : List Byte → Nat → Nat
  | [], a => a
  | [x], a => (a + x.toNat * 256) % 65536 + (a + x.toNat * 256) / 65536
  | x :: y :: t, a =>
    let v := a + x.toNat * 256 + y.toNat
    onesSum t (v % 65536 + v / 65536)

/-- The Internet checksum of a byte string is right: its words sum to all ones. -/
def sumRight (b : List Byte) : Bool := onesSum b 0 == 0xFFFF

/-- The pseudo-header of an L4 segment. -/
def pseudoHeader (b : List Byte) (l3 : Nat × Nat) (proto len : Nat) : List Byte :=
  if l3.1 = 3 then sliceBytes b (l3.2 + 12) 8 ++ [0, BitVec.ofNat 8 proto] ++ beBytes 2 len
  else sliceBytes b (l3.2 + 8) 32 ++ beBytes 4 len ++ [0, 0, 0, BitVec.ofNat 8 proto]

/-- What L4_CSUM finds: out of bounds, a class, or right; and the bytes it uses (R121, Table 05.5). -/
inductive Csum where
  | bounds
  | bad (cls : Nat)
  | right (used : Nat)
  deriving DecidableEq, Repr

/-- Verifies the L4 checksum, and the header checksum of each IPv4 header on the stack. -/
def Run.checkSum (r : Run) (b : List Byte) : Csum :=
  match r.l3, r.l4, r.l3End b with
  | some l3, some l4, some e =>
    let proto := if l4.1 = 6 then 17 else 6
    let seg := sliceBytes b l4.2 (e - l4.2)
    let udpLen := fieldBe b (l4.2 + 4) 2
    let noSum := l4.1 == 6 && l3.1 == 3 && fieldBe b (l4.2 + 6) 2 == 0
    let v4 := r.hdrs.filter (fun h => h.1 == 3)
    if b.length < e + 4 then .bad clsLen
    else if 256 < e then .bounds
    else if e < l4.2 + (if l4.1 = 6 then 8 else 20) then .bad clsLen
    else if l4.1 = 6 && udpLen != e - l4.2 then .bad clsLen
    else if v4.any (fun h => !sumRight (sliceBytes b h.2 (byteAt b h.2 % 16 * 4))) then .bad clsCsum
    else if !noSum && !sumRight (pseudoHeader b l3 proto (e - l4.2) ++ seg) then .bad clsCsum
    else .right e
  | _, _, _ => .bounds

/-- Keeps the bytes of a 64-bit value that a byte mask names. -/
def byteMask (m v : Nat) : Nat :=
  ((List.range 8).map (fun i => if bitOf m i then bitsOf v (8 * i + 7) (8 * i) * 256 ^ i else 0)).foldl (· + ·) 0

/-- The compare of a nano-word (Table 05.3 CMP_OP). -/
def compareOp (op a c : Nat) : Bool :=
  if op = 1 then a == c else if op = 2 then a != c else if op = 3 then a < c else if op = 4 then c ≤ a
  else if op = 5 then (a &&& c) != 0 else false

/-- A push on the header stack, which sets the base its type names (Table 05.4). -/
def Run.push (r : Run) (ty : Nat) : Run :=
  { r with hdrs := r.hdrs ++ [(ty, r.cursor)],
           l3 := if ty = 3 || ty = 4 then some (ty, r.cursor) else r.l3,
           l4 := if ty = 6 || ty = 7 then some (ty, r.cursor) else r.l4,
           l4pay := if ty = 8 then some r.cursor else r.l4pay }

/-- The nano-word holds a reserved value (R119; a reserved class likewise). -/
def nanoReserved (w : BitVec 192) : Bool :=
  6 ≤ nanoField w 182 180 || 9 ≤ nanoField w 179 176 || 6 ≤ nanoField w 96 94 || 5 ≤ nanoField w 93 91 || 9 ≤ nanoField w 60 57

/-- The extraction of a nano-word: where it starts, none when its base is unset. -/
def Run.extractAt (r : Run) (w : BitVec 192) (add : Nat) : Option Nat :=
  (r.base (nanoField w 182 180)).map (fun b => b + nanoField w 191 183 + add)

/-- The extraction of a step: the run with the register, digest and Weir tag written, and whether it was out of bounds. -/
def Run.extract (r : Run) (b : List Byte) (w : BitVec 192) (add : Nat) : Run × Bool :=
  let n := nanoField w 179 176
  let dst := nanoField w 175 173
  let wf := nanoField w 51 48
  let tag := fun (r : Run) => if 1 ≤ wf && wf ≤ 7 then { r with weir := Tab.put 8 r.weir wf dst } else r
  if n = 0 then (tag r, false)
  else match r.extractAt w add with
    | none => (r, true)
    | some o =>
      if lastByte b < o + n - 1 || b = [] then (r, true)
      else
        let bytes := sliceBytes b o n
        let v := if bitOf w.toNat 172 then beNat bytes else leNat bytes
        let dig := bitOf w.toNat 52
        let r1 := { r with
          regs := r.regs.set dst (BitVec.ofNat 64 v), used := max r.used (o + n),
          digest := if dig then r.digest ++ bytes else r.digest, anyDigest := r.anyDigest || dig }
        (tag r1, false)

/-- LEN_CHK: the register equals the length from the cursor to the end of the innermost L3 datagram, or without one to the byte before
the FCS. -/
def Run.lenOk (r : Run) (b : List Byte) (v : Nat) : Bool := v + r.cursor == (r.l3End b).getD (b.length - 4)

/-- The outcome of L4_CSUM takes effect. -/
def Run.applySum (r : Run) : Csum → Run
  | .bad c => r.endIn c
  | .right e => { r with used := max r.used e }
  | .bounds => r

/-- HDR_PUSH; a push onto a full stack is a trap (R119). -/
def Run.pushType (r : Run) (ty : Nat) : Run :=
  if ty = 0 then r else if 8 ≤ r.hdrs.length then r.endIn clsTrap else r.push ty

/-- The advance of the cursor (Table 05.3 ADV_MODE). -/
def Run.advance (r : Run) (mode val f : Nat) : Run :=
  if mode = 1 then { r with cursor := r.cursor + val }
  else if mode = 2 then { r with cursor := r.cursor + f * 4 }
  else if mode = 3 then { r with cursor := r.cursor + f }
  else r

/-- The checks and effects of a nano-word after its extraction; the run may end here. -/
def Run.effects (r : Run) (b : List Byte) (w : BitVec 192) : Run :=
  let f := (r.regs.getD (nanoField w 99 97) 0).toNat
  let r0 := { r with key0 := r.key0 ||| nanoField w 76 69, key1 := r.key1 ||| nanoField w 68 61 }
  let r1 := if bitOf w.toNat 54 && !r0.lenOk b f then r0.endIn clsLen else r0
  let r2 := if bitOf w.toNat 55 then r1.applySum (r1.checkSum b) else r1
  let r3 := r2.pushType (nanoField w 90 87)
  let r4 := if bitOf w.toNat 53 then { r3 with msg := some r3.cursor } else r3
  let r5 := r4.advance (nanoField w 86 85) (nanoField w 84 77) f
  if nanoField w 60 57 = 0 then r5 else r5.endIn (nanoField w 60 57)

/-- The condition of a BRANCH (Table 05.3 COND_SEL). -/
def Run.cond (r : Run) (w : BitVec 192) (bounds first : Bool) : Bool :=
  let m := nanoField w 107 100
  let a := byteMask m (r.regs.getD (nanoField w 99 97) 0).toNat
  let sel := nanoField w 93 91
  if sel = 0 then compareOp (nanoField w 96 94) a (byteMask m (nanoField w 171 108))
  else if sel = 1 then bounds
  else if sel = 2 then first
  else if sel = 3 then 8 ≤ r.hdrs.length
  else true

/-- One step: the nano-word at NPTR, then the sequencing of Table 05.2. -/
def Run.step (r : Run) (micro : Tab (BitVec 20)) (nano : Tab (BitVec 192)) (b : List Byte) (first : Bool) : Run :=
  let mw := (Tab.look 0 micro r.pc).toNat
  let w := Tab.look 0 nano (bitsOf mw 19 10)
  let sq := bitsOf mw 9 8
  let imm := mw % 256
  let off := signedOf 8 imm
  let r0 := { r with steps := r.steps + 1, order := r.order || bitOf w.toNat 56 }
  if nanoReserved w then { r with steps := r.steps + 1, ended := some clsTrap }
  else if nanoField w 47 40 != 0 then r0.endIn clsTrap
  else
    let (r1, out1) := r0.extract b w (if sq = 0 then imm else 0)
    let out := out1 || (bitOf w.toNat 55 && r1.checkSum b == .bounds)
    if out && !(sq = 1 && nanoField w 93 91 = 1) then r1.endIn clsTrunc
    else
      let r2 := r1.effects b w
      if r2.ended.isSome then r2
      else if sq = 0 then { r2 with pc := (r2.pc + 1) % 16384 }
      else if sq = 2 then { r2 with pc := imm * 64 }
      else if sq = 3 then r2.endIn (if imm % 16 ≤ 8 then imm % 16 else clsTrap)
      else
        let r3 := { r2 with discards := r2.discards + (if off = 1 then 0 else 1) }
        if !r3.cond w out first then { r3 with pc := (r3.pc + 1) % 16384 }
        else if off = 0 then r3.endIn clsTrap
        else { r3 with pc := (((r3.pc : Int) + off) % 16384).toNat }

/-- At most n steps; the 129th of a frame is a trap (R120). -/
def Run.go (micro : Tab (BitVec 20)) (nano : Tab (BitVec 192)) (b : List Byte) (first : Bool) : Nat → Run → Run
  | 0, r => r.endIn clsTrap
  | n + 1, r => if r.ended.isSome then r else Run.go micro nano b first n (r.step micro nano b first)

/-- The frame is a first fragment (R127). -/
def firstFrag (b : List Byte) : Bool :=
  match fragOf b with
  | some h => h.offset == 0 && h.more
  | none => false

/-- The identity digest (R126). -/
def Run.identity (r : Run) : BitVec 64 := if r.anyDigest then BitVec.ofNat 64 (leNat ((sha256 r.digest).take 8)) else 0

/-- The class of a run, a byte of the FCS used making it TRUNC_HDR and a runt RUNT (R121, R123). -/
def Run.finalClass (r : Run) (b : List Byte) : Nat :=
  if b.length < 64 then 1 else if b.length < r.used + 4 then clsTrunc else r.ended.getD clsTrap

/-- What an engine commits for a frame, with the steps it ran and the nano-words it discarded. -/
def runProfile (e : Engine) (idx entry : Nat) (b : List Byte) : Parse × Nat × Nat :=
  let r := Run.go e.micro e.nano b (firstFrag b) 128 { pc := entry }
  ({ cls := BitVec.ofNat 4 (r.finalClass b), order := r.order, regs := r.regs, key0 := BitVec.ofNat 8 r.key0,
     key1 := BitVec.ofNat 8 r.key1, weir := r.weir, digest := r.identity, hdrs := r.hdrs, gen := e.gen, engine := idx },
   r.steps, r.discards)

end Sys2Proof.Machine
end

