-- ==== Sys2Proof/Machine/RsvOps.lean ====
section
/-! DEFINITION. The reservoir's cells and quotas, the queues, the shapers, and Pause and PFC (08_ferry_reservoir.md). -/

namespace Sys2Proof.Machine

/-- Changes the reservoir. -/
def onRsv (g : Rsv → Rsv) (s : State) : State := { s with rsv := g s.rsv }

/-- Queue q. -/
def State.queueAt (s : State) (q : Nat) : Queue := Tab.look {} s.rsv.queue q

/-- Changes queue q. -/
def onQueue (q : Nat) (g : Queue → Queue) (s : State) : State := onRsv (fun r => { r with queue := Tab.upd {} r.queue q g }) s

/-- The egress side of river port p. -/
def State.egressAt (s : State) (p : Nat) : Egress := Tab.look {} s.rsv.egress p

/-- Changes the egress side of river port p. -/
def onEgress (p : Nat) (g : Egress → Egress) (s : State) : State := onRsv (fun r => { r with egress := Tab.upd {} r.egress p g }) s

/-- Quotas of berth b. -/
def State.rsvB (s : State) (b : Nat) : RsvB := Tab.look {} s.rsv.berth b

/-- Changes the quotas of berth b. -/
def onRsvB (b : Nat) (g : RsvB → RsvB) (s : State) : State := onRsv (fun r => { r with berth := Tab.upd {} r.berth b g }) s

/-- The number that stands for the ferry FIFO as the source of a transmission. -/
def ferrySource : Nat := 1000

/-- The berth number of system traffic. -/
def systemBerth : Nat := 16

/-! ### Pause and PFC (R200, 04_river_ports.md R99, R108) -/

/-- A Pause frame (IEEE 802.3 Annex 31B), FCS included. -/
def pauseFrame (p quanta : Nat) : List Byte :=
  let b := [0x01, 0x80, 0xC2, 0, 0, 1] ++ padTo 6 (Config.portMac p) ++ [0x88, 0x08, 0, 1] ++ beBytes 2 quanta ++ zeros 42
  b ++ fcsOf b

/-- A PFC frame for one class (IEEE 802.1Q). -/
def pfcFrame (p cls quanta : Nat) : List Byte :=
  let times := ((List.range 8).map (fun i => beBytes 2 (if i = cls then quanta else 0))).flatten
  let b := [0x01, 0x80, 0xC2, 0, 0, 1] ++ padTo 6 (Config.portMac p) ++ [0x88, 0x08, 1, 1] ++ beBytes 2 (2 ^ cls) ++ times ++ zeros 26
  b ++ fcsOf b

/-- Sends Pause or PFC for a class now. -/
def sendPause (p cls quanta : Nat) (s : State) : State :=
  let fr := if (s.portAt p).flowMode == 1 then pauseFrame p quanta else pfcFrame p cls quanta
  emit (.wire p fr) (onPort p (fun v => { v with txPause := bump v.txPause }) s)

/-- Sends Pause or PFC, or leaves it to be sent at resume while the quad drains or settles (04_river_ports.md R108). -/
def flowSignal (p cls quanta : Nat) (s : State) : State :=
  if s.mayStart p then sendPause p cls quanta s
  else onPort p (fun v => { v with xoffDue := v.xoffDue ||| BitVec.ofNat 8 (2 ^ cls) }) s

/-- Cells held by frames that arrived on a port in a class. -/
def State.classHeld (s : State) (p cls : Nat) : Nat := Tab.look 0 s.rsv.held (8 * p + cls)

/-- Compares the cells held with XOFF and XON, and signals a crossing (R200). -/
def pauseCheck (p cls : Nat) (s : State) : State :=
  let v := s.portAt p
  let e := s.egressAt p
  if v.flowMode == 0 then s
  else
    let whole := v.flowMode == 1
    let n := if whole then ((List.range 8).map (s.classHeld p)).foldl (· + ·) 0 else s.classHeld p cls
    let key := if whole then 8 else cls
    let bit := if whole then 0 else cls
    if !whole && !v.pfcEn.getLsbD cls then s
    else if (Tab.look 1024 e.xoff key).toNat < n && !v.xoff.getLsbD bit then
      flowSignal p bit v.quanta.toNat (onPort p (fun v => { v with xoff := v.xoff ||| BitVec.ofNat 8 (2 ^ bit) }) s)
    else if n ≤ (Tab.look 768 e.xon key).toNat && v.xoff.getLsbD bit then
      flowSignal p bit 0 (onPort p (fun v => { v with xoff := v.xoff &&& ~~~(BitVec.ofNat 8 (2 ^ bit)) }) s)
    else s

/-! ### Cells (R191) -/

/-- Cells of a frame of L bytes. -/
def cellsOf (len : Nat) : Nat := (len + 255) / 256

/-- RSV_BANKS: the bank groups in service, neither failed nor switched off (Table 08.4, 21_power_reset.md Table 21.1). -/
def Rsv.inService (r : Rsv) : BitVec 32 := r.banks &&& ~~~r.draining

/-- Bank group g takes new cells. -/
def Rsv.takes (r : Rsv) (g : Nat) : Bool := r.inService.getLsbD g

/-- Cells in use in bank group g. -/
def Rsv.usedIn (r : Rsv) (g : Nat) : Nat := Tab.look 0 r.used g

/-- Cells in service. -/
def Rsv.capacity (r : Rsv) : Nat := 8192 * ((List.range 32).filter r.takes).length

/-- FREE (Table 08.4). -/
def Rsv.free (r : Rsv) : Nat := (((List.range 32).filter r.takes).map (fun g => 8192 - r.usedIn g)).foldl (· + ·) 0

/-- The sum of all GUAR. -/
def Rsv.guarSum (r : Rsv) : Nat := (r.berth.map (fun e => e.2.guar)).foldl (· + ·) 0

/-- Cells of the shared pool in use. -/
def Rsv.sharedUsed (r : Rsv) : Nat := (r.berth.map (fun e => e.2.held - e.2.heldGuar)).foldl (· + ·) 0

/-- The shared pool has a free cell. -/
def Rsv.sharedFree (r : Rsv) : Bool := r.sharedUsed + 8192 + (if r.guarShort then 0 else r.guarSum) < r.capacity

/-- The bank group of the next cell: the next in-service group in rotation that has a free cell. -/
def Rsv.nextCell (r : Rsv) : Option Nat :=
  ((List.range 32).map (fun i => (r.nextGroup + i) % 32)).find? (fun g => r.takes g && r.usedIn g < 8192)

/-- Takes one cell for a frame: for system traffic from the reserve, for a berth from its guarantee first and then from the shared pool;
none when there is none to take. -/
def takeCell (f : Nat) (s : State) : Option State :=
  let fr := s.frameAt f
  let r := s.rsv
  let q := s.rsvB fr.berth
  match r.nextCell with
  | none => none
  | some g =>
    let r1 := { r with used := Tab.put 0 r.used g (r.usedIn g + 1), nextGroup := (g + 1) % 32 }
    if fr.berth = systemBerth then
      if 8192 ≤ r.sysUsed then none
      else some (onFrame f (fun x => { x with cells := x.cells ++ [g] }) { s with rsv := { r1 with sysUsed := r.sysUsed + 1 } })
    else
      let guar := !r.guarShort && q.heldGuar < q.guar
      if q.max ≤ q.held || (!guar && !r.sharedFree) then none
      else
        let s1 := onFrame f (fun x => { x with cells := x.cells ++ [g], guarCells := x.guarCells + bitNat guar })
          (onRsvB fr.berth (fun q => { q with held := q.held + 1, heldGuar := q.heldGuar + bitNat guar }) { s with rsv := r1 })
        match fr.src with
        | .port p =>
          let s2 := onRsv (fun r => { r with held := Tab.upd 0 r.held (8 * p + fr.pclass) (· + 1) }) s1
          some (pauseCheck p fr.pclass (count 0x0050 (frameOcc p fr.berth (some fr.pclass)) 1 s2))
        | _ => some s1

/-- Returns every cell of a frame to the free list. -/
def freeCells (f : Nat) (s : State) : State :=
  let fr := s.frameAt f
  if fr.cells = [] then s
  else
    let n := fr.cells.length
    let s1 := onFrame f (fun x => { x with cells := [], guarCells := 0 })
      (onRsv (fun r => { r with used := fr.cells.foldl (fun u g => Tab.upd 0 u g (· - 1)) r.used }) s)
    if fr.berth = systemBerth then onRsv (fun r => { r with sysUsed := r.sysUsed - n }) s1
    else
      let s2 := onRsvB fr.berth (fun q => { q with held := q.held - n, heldGuar := q.heldGuar - fr.guarCells }) s1
      match fr.src with
      | .port p => pauseCheck p fr.pclass (onRsv (fun r => { r with held := Tab.upd 0 r.held (8 * p + fr.pclass) (· - n) }) s2)
      | _ => s2

/-- Takes cells until a frame holds n, or a cell cannot be taken; answers whether it holds them. -/
def takeCells (f n : Nat) : Nat → State → State × Bool
  | 0, s => (s, n ≤ (s.frameAt f).cells.length)
  | k + 1, s =>
    if n ≤ (s.frameAt f).cells.length then (s, true)
    else match takeCell f s with
      | some s1 => takeCells f n k s1
      | none => (s, false)

/-! ### Shapers (R198, R199) -/

/-- The level in 1/256 byte, filled up to an instant at RATE, held at BURST. -/
def Shaper.fill (x : Shaper) (speed now : Nat) : Shaper :=
  let rate := match x.rate with
    | some r => r.toNat
    | none => speed
  if !x.enabled || rate = 0 then { x with since := now }
  else
    let n := rate * (now - x.since) * 32 + x.frac
    let lvl := x.level + (n / 1000000000 : Nat)
    let top : Int := x.burst.toNat * 256
    if top ≤ lvl then { x with level := top, frac := 0, since := now }
    else { x with level := lvl, frac := n % 1000000000, since := now }

/-- The shaper lets a frame start. -/
def Shaper.open (x : Shaper) : Bool := !x.enabled || (0 ≤ x.level && x.rate != some 0)

/-- A frame of L bytes is charged when it ends. -/
def Shaper.charge (x : Shaper) (len : Nat) : Shaper :=
  if x.enabled then { x with level := x.level - ((len + x.overhead.toNat) * 256 : Nat) } else x

/-- Speed of a queue's port, Mb/s. -/
def State.queueSpeed (s : State) (q : Nat) : Nat :=
  if q < 512 then portSpeed (s.portRate (q / 8)) else if q < 592 then 128000 else 512000

/-- Fills the shaper of a queue up to now. -/
def fillQueue (q : Nat) (s : State) : State := onQueue q (fun x => { x with shaper := x.shaper.fill (s.queueSpeed q) s.tide.nowFs }) s

/-- Fills the shaper of a river port up to now. -/
def fillPort (p : Nat) (s : State) : State :=
  onEgress p (fun e => { e with shaper := e.shaper.fill (portSpeed (s.portRate p)) s.tide.nowFs }) s

/-- Charges the shaper of a queue and, for a river-port queue, of its port. -/
def chargeFor (q len : Nat) (s : State) : State :=
  let s1 := onQueue q (fun x => { x with shaper := x.shaper.charge len }) (fillQueue q s)
  if q < 512 then onEgress (q / 8) (fun e => { e with shaper := e.shaper.charge len }) (fillPort (q / 8) s1) else s1

/-! ### Queues (R192, R193) -/

/-- A queue is SP: as set, or by default when its TC is 7 (R205). -/
def Queue.isSp (x : Queue) (q : Nat) : Bool := x.sp.getD (q < 512 && q % 8 == 7)

/-- SAFE_STOP of a queue: as set, or by default on river-port and host queues (R205). -/
def Queue.isSafeStop (x : Queue) (q : Nat) : Bool := x.safeStop.getD (q < 512 || 592 ≤ q)

/-- The safe state stops a queue (20_sump.md R438). -/
def State.queueStopped (s : State) (q : Nat) : Bool :=
  s.sump.safe && ((s.queueAt q).isSafeStop q || (s.sump.scopeAll && q < 512))

/-- Cells held by a queue (QDEPTH). -/
def State.queueDepth (s : State) (q : Nat) : Nat := ((s.queueAt q).entries.map (fun f => (s.frameAt f).cells.length)).foldl (· + ·) 0

/-- A queue takes a frame: none when it already holds QMAX cells, in which case QDROP counts (R193). -/
def joinQueue (q f : Nat) (s : State) : State × Bool :=
  if (s.queueAt q).qmax.toNat ≤ s.queueDepth q then (onQueue q (fun x => { x with drop := bump x.drop }) s, false)
  else (onFrame f (fun x => { x with queued := x.queued ++ [q], enqAt := s.tide.nowFs })
          (onQueue q (fun x => { x with entries := x.entries ++ [f] }) s), true)

/-- Takes a frame out of a queue; a queue that empties resets its deficit (R197). -/
def leaveQueue (q f : Nat) (s : State) : State :=
  onFrame f (fun x => { x with queued := x.queued.erase q })
    (onQueue q (fun x => { x with entries := x.entries.erase f, deficit := if x.entries.erase f = [] then 0 else x.deficit }) s)

end Sys2Proof.Machine
end

