-- ==== Sys2Proof/Machine/WeirOps.lean ====
section
/-! DEFINITION. The Weir: its directories, the checks, and the updates an ACCEPT makes and a reversal takes back (10_weir_windlass.md). -/

namespace Sys2Proof.Machine

/-- Changes the Weir. -/
def onWeir (g : Weir → Weir) (s : State) : State := { s with weir := g s.weir }

/-- Risk settings of berth b. -/
def State.weirB (s : State) (b : Nat) : WeirB := Tab.look {} s.weir.berth b

/-- Changes the risk settings of berth b. -/
def onWeirB (b : Nat) (g : WeirB → WeirB) (s : State) : State := onWeir (fun w => { w with berth := Tab.upd {} w.berth b g }) s

/-! ### Directories (R225) -/

/-- CRC-32C of a key, seeded with FWD_HASH_SEED (log entry 16). -/
def seededCrc (seed : BitVec 32) (bs : List Byte) : Nat :=
  (~~~ (bs.foldl (crcByte 0x82F63B78) (0xFFFFFFFF ^^^ seed))).toNat

/-- The four ways of a key's bucket in a range of entries; none when the range holds no bucket. -/
def waysOf (seed : BitVec 32) (key : List Byte) (base size : Nat) : List Nat :=
  if size / 4 = 0 then [] else
    let w := base + 4 * (seededCrc seed key % (size / 4))
    [w, w + 1, w + 2, w + 3]

/-- The ways an account may take. -/
def State.acctWays (s : State) (b a : Nat) : List Nat :=
  waysOf s.fwd.seed (leBytes 4 a) (256 * (s.weirB b).acctBase) (256 * (s.weirB b).acctSize)

/-- The ways an instrument may take. -/
def State.instrWays (s : State) (b i : Nat) : List Nat :=
  waysOf s.fwd.seed (leBytes 4 i) (256 * (s.weirB b).instrBase) (256 * (s.weirB b).instrSize)

/-- The ways a position counter may take. -/
def State.posWays (s : State) (b a i : Nat) : List Nat :=
  waysOf s.fwd.seed (leBytes 4 a ++ leBytes 4 i) (s.weirB b).posBase (s.berthAt b).weirCtrs

/-- Entry of an account. -/
def State.findAcct (s : State) (b a : Nat) : Option Nat :=
  (s.acctWays b a).find? (fun w => let e := Tab.look {} s.weir.acct w; e.valid && e.account.toNat == a)

/-- Entry of an instrument. -/
def State.findInstr (s : State) (b i : Nat) : Option Nat :=
  (s.instrWays b i).find? (fun w => let e := Tab.look {} s.weir.instr w; e.valid && e.instrument.toNat == i)

/-- Entry of a position counter. -/
def State.findPos (s : State) (b a i : Nat) : Option Nat :=
  (s.posWays b a i).find? (fun w => let e := Tab.look {} s.weir.pos w; e.valid && e.account.toNat == a && e.instrument.toNat == i)

/-- The lowest free way for a position counter. -/
def State.freePos (s : State) (b a i : Nat) : Option Nat := (s.posWays b a i).find? (fun w => !(Tab.look {} s.weir.pos w).valid)

/-! ### Fields (R223, R224) -/

/-- The fields of an order. -/
structure Order where
  account : Nat
  instrument : Nat
  side : Nat
  price : Int
  qty : Nat
  kind : Nat
  orig : Nat
  /-- Every needed field is present and every value is legal. -/
  ok : Bool
  deriving DecidableEq, Repr

/-- The value of a Weir field, if tagged. -/
def Parse.field (p : Parse) (code : Nat) : Option Nat :=
  match p.weir.find? (fun e => e.1 == code) with
  | some (_, r) => some (p.regs.getD r 0).toNat
  | none => none

/-- The order a parse result spells (Table 10.1, R224). -/
def Parse.toOrder (p : Parse) : Order :=
  let kind := (p.field 6).getD 0
  let qty := (p.field 5).getD 0 % 2 ^ 32
  let side := (p.field 3).getD 0
  { account := (p.field 1).getD 0 % 2 ^ 32, instrument := (p.field 2).getD 0 % 2 ^ 32, side := side,
    price := signedOf 64 ((p.field 4).getD 0), qty := qty, kind := kind, orig := (p.field 7).getD 0 % 2 ^ 32,
    ok := (p.field 1).isSome && (p.field 2).isSome && (p.field 3).isSome && (p.field 4).isSome && (p.field 5).isSome
      && (kind != 2 || (p.field 7).isSome) && side ≤ 1 && kind ≤ 2 && !(kind == 0 && qty == 0) }

/-! ### The checks (R228 to R232) -/

/-- The limits of signed 64 bits. -/
def sat64 (v : Int) : Int := clampInt (-(2 ^ 63)) (2 ^ 63 - 1) v

/-- N of an order. -/
def Order.notional (o : Order) (mult : Nat) : Int := sat64 (o.price.natAbs * o.qty * mult : Nat)

/-- The position delta of an order (R228, R230). -/
def Order.delta (o : Order) : Int :=
  let q : Int := if o.kind = 2 then (o.qty : Int) - o.orig else o.qty
  let d := if o.side = 0 then q else -q
  if o.kind = 1 then -d else d

/-- The credit term of an order (R228). -/
def Order.credit (o : Order) (mult : Nat) : Int :=
  if o.kind = 0 then o.notional mult
  else if o.kind = 1 then -(o.notional mult)
  else sat64 ((o.price.natAbs : Int) * ((o.qty : Int) - o.orig) * mult)

/-- A verdict of the Weir: ACCEPT, REJECT or HOLD with its reason, the updates an ACCEPT makes, and the counter it creates. -/
structure Judgement where
  verdict : Nat
  reason : Nat
  upd : Option Updates := none
  create : Option Nat := none
  deriving DecidableEq, Repr

/-- One failing check: its reason, and whether it fails as a hold. -/
abbrev Failure := Nat × Bool

/-- A failing check when a condition is false. -/
def fails (ok : Bool) (reason : Nat) (hold : Bool) : List Failure := if ok then [] else [(reason, hold)]

/-- The verdict the failures decide, with the lowest-numbered of the reasons that decided it (R232). -/
def decideFailures (fs : List Failure) : Nat × Nat :=
  let rejects := (fs.filter (fun f => !f.2)).map Prod.fst
  let holds := (fs.filter (fun f => f.2)).map Prod.fst
  if rejects ≠ [] then (2, rejects.foldl min 0xFF)
  else if holds ≠ [] then (3, holds.foldl min 0xFF)
  else (1, 0)

/-- The strainer's failures (R231). -/
def strainerFailures (res : Nat) : List Failure :=
  fails (!bitOf res 16) 0x05 false ++ fails (bitsOf res 19 17 != 1) 0x09 false ++ fails (bitsOf res 19 17 != 2) 0x09 true

/-- A group's headroom is stale (R240). -/
def State.headStale (s : State) (b g : Nat) : Bool :=
  let f := Tab.look {} (s.weirB b).firm g
  match f.e with
  | none => true
  | some _ => (s.weirB b).headMaxAge = 0 || (s.weirB b).headMaxAge.toNat * 1000000000 < s.tide.nowFs - f.snap

/-- The firm-wide checks of a new order or a replace (R239, R240). -/
def firmFailures (s : State) (b g : Nat) (term : Int) (exempt hold : Bool) : List Failure :=
  let w := s.weirB b
  let f := Tab.look {} w.firm g
  let room := fails (exempt || sat64 (f.e.getD 0 + f.localPrev + f.localCur + max 0 term) ≤ f.limit) 0x10 hold
  if !w.firmOn then []
  else if s.headStale b g && w.staleAction == 0 then [(0x11, false)]
  else if s.headStale b g && w.staleAction == 1 then [(0x11, true)]
  else room

/-- What an order brings to the Weir besides its fields: the ledger refuses it, the time condition failed at its ingress stamp, the
strainer's result. -/
structure JudgeIn where
  full : Bool
  timeFail : Bool
  strainer : Nat
  deriving DecidableEq, Repr

/-- A position moves towards zero: nearer, and not past it (R230, log entry 18). -/
def towardsZero (p0 p1 : Int) : Bool := p1.natAbs < p0.natAbs && (p1 == 0 || decide (0 < p1) == decide (0 < p0))

/-- The failures that need the order's entries, and the updates it would make (R226, R229, R230). -/
def entryFailures (s : State) (b : Nat) (o : Order) (strainer : Nat) : List Failure × Option Updates × Option Nat :=
  let w := s.weirB b
  let ex := fun i => w.exemptOk && bitOf strainer (48 + i)
  let hold := fun i => w.checkHold.getLsbD i
  let acct := s.findAcct b o.account
  let instr := s.findInstr b o.instrument
  let pos := s.findPos b o.account o.instrument
  let a := Tab.look {} s.weir.acct (acct.getD 0)
  let ins := Tab.look {} s.weir.instr (instr.getD 0)
  let poisoned := (acct.isSome && a.poison) || (instr.isSome && ins.poison)
    || (match pos with
        | some p => (Tab.look {} s.weir.pos p).poison
        | none => false)
  let new := if pos.isNone && w.auto then s.freePos b o.account o.instrument else none
  let missing := fails (!poisoned) 0x04 false ++ fails acct.isSome 0x07 false ++ fails instr.isSome 0x08 false
    ++ fails (pos.isSome || new.isSome) 0x0D false
  if acct.isNone || instr.isNone then (missing, none, none)
  else
    let c : Counter := match pos with
      | some p => Tab.look {} s.weir.pos p
      | none => { limitLong := ins.defLong, limitShort := ins.defShort }
    let m := ins.mult.toNat
    let n := o.notional m
    let term := o.credit m
    let p1 := sat64 (c.position + o.delta)
    let used : Int := a.creditUsed.toNat
    let u1 := max 0 (sat64 (used + term))
    let full := if o.kind = 1 then [] else
      fails (ex 0 || ins.band = 0xFFFFFFFFFFFFFFFF || ((o.price - ins.refPrice).natAbs ≤ ins.band.toNat)) 0x0A (hold 0)
      ++ fails (ex 1 || o.qty ≤ ins.maxQty.toNat) 0x0B (hold 1)
      ++ fails (ex 2 || n ≤ ins.maxNotional.toNat) 0x0C (hold 2)
      ++ fails (ex 3 || (-(c.limitShort.toNat : Int) ≤ p1 && p1 ≤ c.limitLong.toNat) || towardsZero c.position p1) 0x0E (hold 3)
      ++ fails (ex 4 || sat64 (used + term) ≤ a.creditLimit.toNat || u1 < used) 0x0F (hold 4)
      ++ firmFailures s b a.group.toNat term (ex 5) (hold 5)
    (missing ++ full,
     some { account := BitVec.ofNat 32 o.account, instrument := BitVec.ofNat 32 o.instrument, delta := p1 - c.position, credit := u1 - used,
            group := a.group.toNat, localAdd := if o.kind = 1 then 0 else (max 0 term).toNat },
     new)

/-- The Weir judges an order (R229 to R232). -/
def judge (s : State) (b : Nat) (o : Order) (x : JudgeIn) : Judgement :=
  let gate := fails (o.kind = 1 || !(s.weirB b).gateClosed) 0x01 false
  let first := gate ++ fails (!x.full) 0x02 false ++ fails (!x.timeFail) 0x03 false ++ strainerFailures x.strainer
  if !o.ok then
    let (v, r) := decideFailures (first ++ [(0x06, false)])
    { verdict := v, reason := r }
  else
    let (fs, upd, new) := entryFailures s b o x.strainer
    let (v, r) := decideFailures (first ++ fs)
    if v = 1 then { verdict := 1, reason := 0, upd := upd, create := new } else { verdict := v, reason := r }

/-! ### Updates and reversal (R234, R235) -/

/-- Changes the position counter of a pair; a counter that AUTO creates takes the instrument's defaults (R226). -/
def movePos (b : Nat) (u : Updates) (create : Option Nat) (d : Int) (s : State) : State :=
  let a := u.account.toNat
  let i := u.instrument.toNat
  match s.findPos b a i, create with
  | some p, _ => onWeir (fun w => { w with pos := Tab.upd {} w.pos p (fun c => { c with position := sat64 (c.position + d) }) }) s
  | none, some p =>
    let ins := Tab.look {} s.weir.instr ((s.findInstr b i).getD 0)
    let c : Counter := { valid := true, account := u.account, instrument := u.instrument, position := sat64 d,
                         limitLong := ins.defLong, limitShort := ins.defShort }
    onWeir (fun w => { w with pos := Tab.put {} w.pos p c }) s
  | none, none => s

/-- Changes CREDIT_USED of an account, floored at 0. -/
def moveCredit (b : Nat) (u : Updates) (d : Int) (s : State) : State :=
  match s.findAcct b u.account.toNat with
  | some w =>
    let g := fun (e : Acct) => { e with creditUsed := BitVec.ofNat 64 (max 0 (sat64 (e.creditUsed.toNat + d))).toNat }
    onWeir (fun x => { x with acct := Tab.upd {} x.acct w g }) s
  | none => s

/-- Changes LOCAL_CUR of a firm group. -/
def moveLocal (b g : Nat) (d : Int) (s : State) : State :=
  onWeirB b (fun w => { w with firm := Tab.upd {} w.firm g (fun f => { f with localCur := sat64 (f.localCur + d) }) }) s

/-- Applies the updates of an ACCEPT (R234). -/
def applyUpd (b : Nat) (u : Updates) (create : Option Nat) (s : State) : State :=
  moveLocal b u.group u.localAdd (moveCredit b u u.credit (movePos b u create u.delta s))

/-- Takes the updates of an ACCEPT back (R235). -/
def revertUpd (b : Nat) (u : Updates) (s : State) : State :=
  moveLocal b u.group (-(u.localAdd : Int)) (moveCredit b u (-u.credit) (movePos b u none (-u.delta) s))

/-- Reverses a frame's updates, once; its record carries REVERSED and the berth's REVERSED counts (R235). -/
def reverseFrame (f : Nat) (s : State) : State :=
  let fr := s.frameAt f
  match fr.upd with
  | some u =>
    if fr.reversed then s
    else onWeirB fr.berth (fun w => { w with reversed := bump w.reversed })
      (onFrame f (fun x => { x with reversed := true, upd := none }) (revertUpd fr.berth u s))
  | none => s

/-- Counts a verdict in the berth's counters (Commands and registers). -/
def countVerdict (b verdict reason : Nat) (s : State) : State :=
  onWeirB b (fun w =>
    if verdict = 1 then { w with accepts := bump w.accepts }
    else if verdict = 3 then { w with holds := bump w.holds }
    else { w with rejects := Tab.upd 0 w.rejects reason bump }) s

end Sys2Proof.Machine
end

