-- ==== Sys2Proof/Machine/FwdOps.lean ====
section
/-! DEFINITION. The forwarding tables: keys, tries, lookups, ECMP and learning (07_tables.md). -/

namespace Sys2Proof.Machine

/-- Changes the forwarding tables. -/
def onFwd (g : Fwd → Fwd) (s : State) : State := { s with fwd := g s.fwd }

/-- Forwarding settings of berth b. -/
def State.fwdB (s : State) (b : Nat) : FwdB := Tab.look {} s.fwd.berth b

/-- Changes the forwarding settings of berth b. -/
def onFwdB (b : Nat) (g : FwdB → FwdB) (s : State) : State := onFwd (fun w => { w with berth := Tab.upd {} w.berth b g }) s

/-- BASE of a berth's partition of a table. -/
def FwdB.baseOf (x : FwdB) (t : Nat) : Nat := Tab.look 0 x.base t

/-- SIZE or quota of a berth's partition of a table. -/
def FwdB.sizeOf (x : FwdB) (t : Nat) : Nat := Tab.look 0 x.size t

/-- A word is poisoned: table, memory, index (R182). -/
def Fwd.isPoisoned (w : Fwd) (t m i : Nat) : Bool := w.poison.contains (t, m, i)

/-- The poison of a word clears when it is rewritten (R182). -/
def clearPoison (t m i : Nat) (s : State) : State := onFwd (fun w => { w with poison := w.poison.filter (· != (t, m, i)) }) s

/-! ### Results (Table 07.1) -/

/-- KIND of a result. -/
def resKind (r : Nat) : Nat := r % 8

/-- TC of a result. -/
def resTc (r : Nat) : Nat := r / 8 % 8

/-- INDEX of a result. -/
def resIndex (r : Nat) : Nat := r / 64 % 16384

/-- DEVICE of a result. -/
def resDevice (r : Nat) : Nat := r / 1048576 % 1024

/-- A result from its fields. -/
def mkResult (kind tc index : Nat) : Nat := kind + 8 * tc + 64 * index

/-! ### Keys (R162, R166, R170) -/

/-- Start of the first header of one of some types on the header stack. -/
def Parse.headerAt (p : Parse) (tys : List Nat) : Option (Nat × Nat) := p.hdrs.find? (fun h => tys.contains h.1)

/-- FID of a frame (R162). -/
def State.fidOf (s : State) (b : Nat) (bytes : List Byte) : Nat :=
  if outerVlan bytes = 0 then (s.fwdB b).defVlan.toNat else outerVlan bytes

/-- The four ways of a bucket of a hashed table (R170). -/
def State.hashWays (s : State) (t b fid : Nat) (key : List Byte) : List Nat :=
  let x := s.fwdB b
  if x.sizeOf t = 0 then [] else
    let h := seededCrc s.fwd.seed ([BitVec.ofNat 8 b] ++ leBytes 2 fid ++ key)
    let w := 4 * (x.baseOf t + h % x.sizeOf t)
    [w, w + 1, w + 2, w + 3]

/-- The L2 entry of a key. -/
def State.findL2 (s : State) (b fid : Nat) (mac : List Byte) : Option Nat :=
  (s.hashWays 0 b fid mac).find? (fun w =>
    let e := Tab.look {} s.fwd.l2 w
    e.valid && e.berth == b && e.fid.toNat == fid && e.mac == mac)

/-- The host entry of an address. -/
def State.findHost (s : State) (b : Nat) (addr : List Byte) : Option Nat :=
  (s.hashWays 3 b 0 addr).find? (fun w =>
    let e := Tab.look {} s.fwd.host w
    e.valid && e.berth == b && e.addr == addr)

/-! ### Tries (Table 07.2, R168) -/

/-- Strides of a family's memories. -/
def strides (v6 : Bool) : List Nat := if v6 then [16, 16, 8, 8, 8, 8] else [16, 8, 4, 4]

/-- Address bits of a family that the trie walks. -/
def addrBits (v6 : Bool) : Nat := if v6 then 128 else 32

/-- Bits consumed above level l (the root is level 1). -/
def bitsAbove (v6 : Bool) (l : Nat) : Nat := ((strides v6).take (l - 1)).foldl (· + ·) 0

/-- The first n bits of an address. -/
def topBits (v6 : Bool) (addr n : Nat) : Nat := addr / 2 ^ (addrBits v6 - n)

/-- The node of a level on an address's path. -/
def Fwd.nodeAt (w : Fwd) (b : Nat) (v6 : Bool) (l addr : Nat) : Option TrieNode :=
  w.nodes.find? (fun n => n.berth == b && n.v6 == v6 && n.level == l && n.path == topBits v6 addr (bitsAbove v6 l))

/-- Table code of a family. -/
def famTable (v6 : Bool) : Nat := if v6 then 2 else 1

/-- The slot of a node on an address's path. -/
def TrieNode.slot (n : TrieNode) (addr : Nat) : Nat :=
  let st := (strides n.v6).getD (n.level - 1) 0
  n.num * 2 ^ st + topBits n.v6 addr (bitsAbove n.v6 n.level + st) % 2 ^ st

/-- The words a walk reads: memory and index at each level, as far as nodes go. -/
def Fwd.walk (w : Fwd) (b : Nat) (v6 : Bool) (addr : Nat) : List (Nat × Nat) :=
  ((List.range (strides v6).length).map (· + 1)).filterMap (fun l => (w.nodeAt b v6 l addr).map (fun n => (l, n.slot addr)))

/-- A prefix covers an address. -/
def Route.covers (r : Route) (addr : Nat) : Bool :=
  topBits r.v6 addr r.len == topBits r.v6 r.pfx r.len

/-- The longest prefix that covers an address (R168). -/
def Fwd.longest (w : Fwd) (b : Nat) (v6 : Bool) (addr : Nat) : Option Route :=
  w.routes.foldl (fun best r =>
    if r.berth == b && r.v6 == v6 && r.covers addr then
      match best with
      | some q => if q.len < r.len then some r else best
      | none => some r
    else best) none

/-! ### Lookups (R161 to R166, R174, R182) -/

/-- What a lookup of one table finds: the entry's result, nothing, or a poisoned word, and the index it reports to the counters. -/
inductive Found where
  | hit (result : Nat) (index : Nat)
  | miss (index : Nat)
  | poisoned (index : Nat)
  deriving DecidableEq, Repr

/-- The L2 lookup of a key. -/
def State.lookL2 (s : State) (b fid : Nat) (mac : List Byte) : Found :=
  let ways := s.hashWays 0 b fid mac
  if ways.any (fun w => s.fwd.isPoisoned 0 0 w) then .poisoned (ways.headD 0)
  else match s.findL2 b fid mac with
    | some w => .hit (Tab.look {} s.fwd.l2 w).result.toNat w
    | none => .miss (ways.headD 0)

/-- The L3 lookup of an address: for IPv6 the host table is searched beside the trie and takes precedence (R162). -/
def State.lookL3 (s : State) (b : Nat) (v6 : Bool) (addr : List Byte) : Found :=
  let a := beNat addr
  let path := s.fwd.walk b v6 a
  let last := (path.getLast?.map Prod.snd).getD 0
  let ways := if v6 then s.hashWays 3 b 0 addr else []
  if path.any (fun x => s.fwd.isPoisoned (famTable v6) x.1 x.2) || ways.any (fun w => s.fwd.isPoisoned 3 0 w) then .poisoned last
  else match (if v6 then s.findHost b addr else none) with
    | some w => .hit (Tab.look {} s.fwd.host w).result.toNat w
    | none => match s.fwd.longest b v6 a with
      | some r => .hit r.result.toNat last
      | none => .miss last

/-- The L3 key of a parse result: family and destination address of the first L3 header on the stack (R162). -/
def l3Key (p : Parse) (bytes : List Byte) : Option (Bool × List Byte) :=
  match p.headerAt [3, 4] with
  | some (3, o) => some (false, sliceBytes bytes (o + 16) 4)
  | some (_, o) => some (true, sliceBytes bytes (o + 24) 16)
  | none => none

/-- The KEY registers a mask names, first four in rising order, as 32 bytes (06_strainer.md R146). -/
def key0Bytes (p : Parse) : List Byte :=
  padTo 32 (((setBits 8 p.key0.toNat).take 4).map (fun i => leBytes 8 (p.regs.getD i 0).toNat)).flatten

/-- The flow hash h (R166). -/
def State.flowHash (s : State) (b : Nat) (p : Parse) (bytes : List Byte) : Nat :=
  let l3 := match p.headerAt [3, 4] with
    | some (3, o) => sliceBytes bytes (o + 12) 8 ++ sliceBytes bytes (o + 9) 1
    | some (_, o) => sliceBytes bytes (o + 8) 32 ++ sliceBytes bytes (o + 6) 1
    | none => []
  let l4 := match p.headerAt [6, 7] with
    | some (_, o) => sliceBytes bytes o 4
    | none => []
  seededCrc s.fwd.seed (l3 ++ l4 ++ (if (s.fwdB b).ecmpKey0 then key0Bytes p else []))

/-- A lookup's outcome: the final result, whether it comes from a miss action, and whether a poisoned word dropped it. -/
structure FwdOut where
  result : Nat
  missed : Bool := false
  err : Bool := false
  deriving DecidableEq, Repr

/-- Resolves an ECMP result to one of its members (R166). -/
def State.resolveEcmp (s : State) (h r : Nat) : FwdOut :=
  let g := resIndex r
  let e := Tab.look {} s.fwd.ecmp g
  let i := e.base + h % e.count
  if s.fwd.isPoisoned 5 0 g || (e.count != 0 && s.fwd.isPoisoned 6 0 i) then { result := 0, err := true }
  else if e.count = 0 then { result := 0 }
  else { result := (Tab.look 0 s.fwd.member i).toNat }

/-- What a found entry or a miss comes to (R165, R166, R174, R182). -/
def State.outcome (s : State) (b h : Nat) (l3 : Bool) : Found → FwdOut
  | .poisoned _ => { result := 0, err := true }
  | .hit r _ =>
    if resKind r = 2 then s.resolveEcmp h r
    else if resKind r = 3 && s.fwd.isPoisoned 4 0 (resIndex r) then { result := 0, err := true }
    else { result := r }
  | .miss _ =>
    let x := s.fwdB b
    let act := if l3 then x.routeMiss.toNat else x.l2Miss.toNat
    if act = 1 then { result := mkResult 3 0 x.floodGroup.toNat, missed := true }
    else if act = 2 then { result := mkResult 4 0 0, missed := true }
    else { result := 0, missed := true }

/-- The index a lookup reports. -/
def Found.index : Found → Nat
  | .hit _ i => i
  | .miss i => i
  | .poisoned i => i

/-- The lookup found an entry. -/
def Found.isHit : Found → Bool
  | .hit _ _ => true
  | _ => false

/-- Counts a lookup: device-wide, per berth, and for the programmable counters; an L2 hit sets the entry's HIT bit (R173). -/
def countLookup (b table : Nat) (r : Found) (s : State) : State :=
  let s1 := onFwd (fun w => { w with lookups := bump w.lookups }) s
  let s2 := count 0x0040 { priv := some .berth, masters := [(2, b)], addr := some (1, table, r.index) } 1 s1
  let s3 := onFwdB b (fun x =>
    if table = 0 then (if r.isHit then { x with l2Hit := bump x.l2Hit } else { x with l2MissCnt := bump x.l2MissCnt })
    else if r.isHit then { x with rHit := bump x.rHit } else { x with rMiss := bump x.rMiss }) s2
  if table = 0 && r.isHit then onFwd (fun w => { w with l2 := Tab.upd {} w.l2 r.index (fun e => { e with hit := true }) }) s3 else s3

/-- The forwarding lookup of a parsed frame of a berth (R161, R174). -/
def forward (b : Nat) (p : Parse) (bytes : List Byte) (s : State) : State × FwdOut :=
  let h := s.flowHash b p bytes
  let mode := (s.fwdB b).mode.toNat
  match l3Key p bytes with
  | some (v6, addr) =>
    if mode = 0 then
      let r := s.lookL2 b (s.fidOf b bytes) (bytes.take 6)
      (countLookup b 0 r s, s.outcome b h false r)
    else
      let r := s.lookL3 b v6 addr
      (countLookup b (famTable v6) r s, s.outcome b h true r)
  | none =>
    if mode = 2 then (s, s.outcome b h true (.miss 0))
    else
      let r := s.lookL2 b (s.fidOf b bytes) (bytes.take 6)
      (countLookup b 0 r s, s.outcome b h false r)

/-! ### Learning (R172) -/

/-- A frame received on an L2-mode port teaches its source address (R172). -/
def learn (b port : Nat) (bytes : List Byte) (s : State) : State :=
  let x := s.fwdB b
  let mac := sliceBytes bytes 6 6
  if !x.learn || x.mode = 2 || bitOf (byteAt mac 0) 0 then s
  else
    let fid := s.fidOf b bytes
    let res := BitVec.ofNat 32 (mkResult 1 0 port)
    match s.findL2 b fid mac with
    | some w =>
      let e := Tab.look {} s.fwd.l2 w
      let s1 := onFwd (fun t => { t with l2 := Tab.put {} t.l2 w { e with hit := true, result := if e.static then e.result else res } }) s
      if !e.static && e.result != res then onFwd (fun t => { t with moves := bump t.moves }) s1 else s1
    | none =>
      match (s.hashWays 0 b fid mac).find? (fun w => !(Tab.look {} s.fwd.l2 w).valid) with
      | some w =>
        let e : L2Entry := { valid := true, berth := b, fid := BitVec.ofNat 12 fid, mac := mac, result := res, hit := true }
        clearPoison 0 0 w (onFwd (fun t => { t with l2 := Tab.put {} t.l2 w e, learnCnt := bump t.learnCnt }) s)
      | none => onFwd (fun t => { t with learnFull := bump t.learnFull }) s

end Sys2Proof.Machine
end

