-- ==== Sys2Proof/Machine/FabRoute.lean ====
section
/-! DEFINITION. Routes of the fabric, and handing a message to a Crossing queue (12_fabric.md R272 to R288, R292). -/

namespace Sys2Proof.Machine

/-- Changes the fabric. -/
def onFab (g : Fab → Fab) (s : State) : State := { s with fab := g s.fab }

/-- Changes Crossing k. -/
def onXl (k : Nat) (g : Xl → Xl) (s : State) : State := s.setXl k (g (s.xlAt k))

/-- VC-half 2v + h of a Crossing. -/
def Xl.qAt (x : Xl) (v h : Nat) : XlQueue := Tab.look {} x.q (2 * v + h)

/-- Changes VC-half 2v + h of Crossing k. -/
def onXlQ (k v h : Nat) (g : XlQueue → XlQueue) (s : State) : State :=
  onXl k (fun x => { x with q := Tab.upd {} x.q (2 * v + h) g }) s

/-- The link is UP (11_crossings.md Table 11.9). -/
def Xl.isUp (x : Xl) : Bool := x.state == 3

/-- The link carries traffic: UP, or training fast or settling, where queues wait (11_crossings.md R262, R265). -/
def Xl.carries (x : Xl) : Bool := x.state == 3 || x.state == 4 || x.state == 5

/-! ### Coordinates (R272) -/

/-- Coordinate of a device on axis a. -/
def coordOf (id a : Nat) : Nat := if a = 0 then id % 16 else if a = 1 then id / 16 % 8 else id / 128

/-- A device with another coordinate on axis a. -/
def withCoord (id a c : Nat) : Nat :=
  let x := if a = 0 then c else id % 16
  let y := if a = 1 then c else id / 16 % 8
  let z := if a = 2 then c else id / 128
  x + 16 * y + 128 * z

/-- Devices on axis a of the box. -/
def Fab.size (f : Fab) (a : Nat) : Nat := if a = 0 then f.nx else if a = 1 then f.ny else f.nz

/-- Axis a is open. -/
def Fab.isOpen (f : Fab) (a : Nat) : Bool := f.openAxes.getLsbD a

/-- The device IDs in use, in rising order (R284). -/
def Fab.ids (f : Fab) : List Nat := (List.range 1024).filter (fun i => f.devices.any (fun d => d.2 == i))

/-! ### Routes on one axis (R282, R283) -/

/-- Coordinate after one hop. -/
def stepCoord (n c : Nat) (minus : Bool) : Nat := if minus then (c + n - 1) % n else (c + 1) % n

/-- The hop crosses the dateline of the ring. -/
def crossesDate (n c : Nat) (minus : Bool) : Bool := if minus then c == 0 else c + 1 == n

/-- The role link from a device in a direction is up, by the masks of both its ends (R291). -/
def Fab.hopUp (f : Fab) (id a : Nat) (minus : Bool) : Bool :=
  let other := withCoord id a (stepCoord (f.size a) (coordOf id a) minus)
  (Tab.look 0xFF f.upMask id).getLsbD (2 * a + bitNat minus) && (Tab.look 0xFF f.upMask other).getLsbD (2 * a + 1 - bitNat minus)

/-- Every link of a run of hops is up. -/
def Fab.runUp (f : Fab) (a : Nat) (minus : Bool) : Nat → Nat → Bool
  | 0, _ => true
  | n + 1, id => f.hopUp id a minus && f.runUp a minus n (withCoord id a (stepCoord (f.size a) (coordOf id a) minus))

/-- Direction and hops from a device to a coordinate on axis a: the shorter way, + when equal; the other way of a ring when the first
crosses a DOWN link; none when both do. -/
def Fab.axisRoute (f : Fab) (id a dst : Nat) : Option (Bool × Nat) :=
  let c := coordOf id a
  let n := f.size a
  let up := (dst + n - c) % n
  let dn := (c + n - dst) % n
  if f.isOpen a then
    let r := if c < dst then (false, dst - c) else (true, c - dst)
    if f.runUp a r.1 r.2 id then some r else none
  else
    let first := if up ≤ dn then (false, up) else (true, dn)
    let second := if up ≤ dn then (true, dn) else (false, up)
    if f.runUp a first.1 first.2 id then some first
    else if f.runUp a second.1 second.2 id then some second
    else none

/-- The route from a device to another: axis, direction and hops of each leg, X first, then Y, then Z. -/
def Fab.routeFrom (f : Fab) (dst : Nat) : Nat → Nat → Option (List (Nat × Bool × Nat))
  | 0, _ => some []
  | k + 1, id =>
    let a := 2 - k
    if coordOf id a = coordOf dst a then f.routeFrom dst k id
    else match f.axisRoute id a (coordOf dst a) with
      | some (m, n) => (f.routeFrom dst k (withCoord id a (coordOf dst a))).map (fun r => (a, m, n) :: r)
      | none => none

/-- The route between two devices of the box. -/
def Fab.route (f : Fab) (src dst : Nat) : Option (List (Nat × Bool × Nat)) := f.routeFrom dst 3 src

/-- A destination can be reached (R282). -/
def Fab.reaches (f : Fab) (src dst : Nat) : Bool := (f.route src dst).isSome

/-- The next hop from a device: role link, and the half there, given the axis of the link it came by and its half (R283). -/
def Fab.nextHop (f : Fab) (id dst : Nat) (came : Option (Nat × Nat)) : Option (Nat × Nat) :=
  match f.route id dst with
  | some ((a, m, _) :: _) =>
    let h := match came with
      | some (b, h) => if b = a then h else 0
      | none => 0
    let date := !f.isOpen a && crossesDate (f.size a) (coordOf id a) m
    some (2 * a + bitNat m, if date then 1 else h)
  | _ => none

/-! ### Two-stage routing of BLK (R284 to R286) -/

/-- The intermediate of a list position, as the list of this device gives it. -/
def Fab.midAt (f : Fab) (i : Nat) : Nat :=
  let ds := f.ids
  let p := ds.length
  if p = 0 then f.id else ds.getD ((ds.idxOf f.id + 1 + i * p / 64) % p) f.id

/-- MID of a BLK message: the first position, cyclically, whose both stages are reachable (R285); DST itself with TRANSIT 0. -/
def Fab.chooseMid (f : Fab) (pos dst : Nat) : Option Nat :=
  if f.transit = 0 then (if f.reaches f.id dst then some dst else none)
  else (((List.range 64).map (fun i => f.midAt ((pos + i) % 64))).find? (fun m => f.reaches f.id m && f.reaches m dst))

/-! ### Handing a message to a Crossing (R275, R288, R292) -/

/-- The Crossing that plays a role: the link itself, or the spare that has taken it over (R275). -/
def State.playing (s : State) (role : Nat) : Nat :=
  match [6, 7].find? (fun k => (s.xlAt k).spareFor == some role) with
  | some k => k
  | none => role

/-- The express link to a device, if one is UP (R275). -/
def State.expressTo (s : State) (dst : Nat) : Option Nat :=
  [6, 7].find? (fun k => Tab.look 0 s.fab.role k == 7 && (s.xlAt k).isUp && Tab.look 0xFFFF s.fab.peerId k == dst)

/-- Cells of the messages that a Crossing queue holds. -/
def XlQueue.depth (q : XlQueue) : Nat := (q.txq.map (fun m => (16 + m.body.length + 255) / 256)).foldl (· + ·) 0

/-- The target of a message's current stage. -/
def Msg.target0 (m : Msg) : Nat := if m.stage then m.dst else m.mid

/-- What became of a message handed on. -/
inductive Handed where
  /-- It stands in the queue of a Crossing, VC and half. -/
  | queued (k v h : Nat)
  /-- It was returned to the Pumphouse. -/
  | returned
  /-- It was dropped. -/
  | dropped
  /-- It was delivered on this device. -/
  | here
  deriving DecidableEq, Repr

/-- Hands a message to its next hop.  A next hop that is DOWN returns REQ, RSP and COL messages and drops BLK ones (R292). -/
def handOn (m : Msg) (came : Option (Nat × Nat)) (s : State) : State × Handed :=
  let exp := if m.vc = 4 then s.expressTo m.target0 else none
  let hop := match exp with
    | some k => some (k, 0)
    | none => (s.fab.nextHop s.fab.id m.target0 came).map (fun x => (s.playing x.1, x.2))
  match hop with
  | none => (onFab (fun f => { f with unreach := bump f.unreach }) s, .dropped)
  | some (k, h) =>
    if !(s.xlAt k).carries || (s.xlAt k).miswired then
      if m.vc = 4 then (onFab (fun f => { f with deadDrop := bump f.deadDrop }) s, .dropped)
      else (onFab (fun f => { f with returned := f.returned ++ [m] }) s, .returned)
    else
      let q := 512 + 10 * k + 2 * m.vc + h
      if (s.queueAt q).qmax.toNat ≤ ((s.xlAt k).qAt m.vc h).depth then (onQueue q (fun x => { x with drop := bump x.drop }) s, .dropped)
      else (onXlQ k m.vc h (fun x => { x with txq := x.txq ++ [{ m with half := h }] }) s, .queued k m.vc h)

/-- The next MSG_ID of a (DST, VC) pair: from 1, wrapping past 2^32 - 1 to 1 (R288). -/
def nextMsgId (last : BitVec 32) : BitVec 32 := if last = 0xFFFFFFFF then 1 else last + 1

/-- Injects a message of this device: numbered on REQ, RSP and COL, where it waits while routes converge; through an intermediate on
BLK (R285 to R288, R291).  One for this device is delivered here (R287). -/
def inject (m : Msg) (s : State) : State × Handed :=
  let m0 := { m with src := s.fab.id, mid := m.dst, stage := true }
  if m.dst = s.fab.id then (s, .here)
  else if m.vc = 4 then
    match s.fab.chooseMid m.listPos m.dst with
    | none => (onFab (fun f => { f with unreach := bump f.unreach }) s, .dropped)
    | some mid => handOn { m0 with mid := mid, stage := decide (mid = s.fab.id) } none s
  else
    let key := 8 * m.dst + m.vc
    let id := nextMsgId (Tab.look 0 s.fab.txId key)
    let m1 := { m0 with msgId := id }
    let s1 := onFab (fun f => { f with txId := Tab.put 0 f.txId key id }) s
    if s.fab.st = 3 then (onFab (fun f => { f with heldInj := f.heldInj ++ [m1] }) s1, .returned)
    else handOn m1 none s1

end Sys2Proof.Machine
end

