-- ==== Sys2Proof/Machine/HostOps.lean ====
section
/-! DEFINITION. The host rings: writebacks, interrupt moderation, and the transmit frames that wait for their fate
(19_host_rings.md). -/

namespace Sys2Proof.Machine

/-- Receive ring r of berth b. -/
def State.rxAt (s : State) (b r : Nat) : RxRing := Tab.look {} s.host.rx (4 * b + r)

/-- Changes receive ring r of berth b. -/
def onRx (b r : Nat) (g : RxRing → RxRing) (s : State) : State := { s with host := { s.host with rx := Tab.upd {} s.host.rx (4 * b + r) g } }

/-- Transmit ring r of berth b. -/
def State.txAt (s : State) (b r : Nat) : TxRing := Tab.look {} s.host.tx (4 * b + r)

/-- Changes transmit ring r of berth b. -/
def onTx (b r : Nat) (g : TxRing → TxRing) (s : State) : State := { s with host := { s.host with tx := Tab.upd {} s.host.tx (4 * b + r) g } }

/-- Number of host queue r of berth b (08_ferry_reservoir.md Table 08.1). -/
def hostQueue (b r : Nat) : Nat := 592 + 4 * b + r

/-- OWNER of a descriptor index: 1 on the first pass of the ring, then alternating (Table 19.1). -/
def ownerPhase (size idx : Nat) : Nat := if size = 0 then 0 else 1 - idx / size % 2

/-- A posted write of a berth to host memory (R216). -/
def hostWrite (b addr : Nat) (data : List Byte) (s : State) : State :=
  emit (.dmaWrite (1 + b) addr data) (count 0x0081 { priv := some .berth, masters := [(2, b), (5, 1 + b)], addr := some (2, 1, addr) } 1 s)

/-- A read of a berth of host memory (R216). -/
def hostRead (b addr len : Nat) (s : State) : State :=
  emit (.dmaRead (1 + b) addr len) (count 0x0082 { priv := some .berth, masters := [(2, b), (5, 1 + b)], addr := some (2, 1, addr) } 1 s)

/-- The frame trigger of a ring's interrupt moderation (R423). -/
def itrNow (us frames unsig : Nat) : Bool := 0 < unsig && (if frames = 0 then us == 0 else frames ≤ unsig)

/-- Sends a receive ring's message when it is armed and due; the message disarms it (R423). -/
def signalRx (b r : Nat) (due : RxRing → Bool) (s : State) : State :=
  let x := s.rxAt b r
  if x.armed && 0 < x.unsig && due x then sendMsix (1 + b) (1 + r) (onRx b r (fun x => { x with armed := false, unsig := 0 }) s) else s

/-- Sends a transmit ring's message when it is armed and due (R423). -/
def signalTx (b r : Nat) (due : TxRing → Bool) (s : State) : State :=
  let x := s.txAt b r
  if x.armed && 0 < x.unsig && due x then sendMsix (1 + b) (5 + r) (onTx b r (fun x => { x with armed := false, unsig := 0 }) s) else s

/-- A ring's frame trigger. -/
def RxRing.frameDue (x : RxRing) : Bool := itrNow x.itrUs x.itrFrames x.unsig

/-- A ring's frame trigger. -/
def TxRing.frameDue (x : TxRing) : Bool := itrNow x.itrUs x.itrFrames x.unsig

/-- Descriptors read and not yet written back. -/
def TxRing.outstanding (x : TxRing) : Nat := (x.pend.map (fun p => p.descs.length)).foldl (· + ·) x.cur.length

/-- A transmit writeback (R419). -/
def txWriteback (d : TxDesc) (st : BitVec 8) (te owner : Nat) : List Byte :=
  let stamp := if d.tsReq && st == 0 then stampBytes te else zeros 12
  stamp ++ [if d.skipped then 1 else st] ++ zeros 3 ++ leBytes 8 d.tag.toNat ++ zeros 7 ++ [BitVec.ofNat 8 owner]

/-- Writes back the descriptors of a frame from an index on. -/
def writeDescs (b : Nat) (x : TxRing) (st : BitVec 8) (te : Nat) : List TxDesc → Nat → State → State
  | [], _, s => s
  | d :: ds, i, s =>
    let addr := x.base.toNat + 32 * (i % x.size)
    writeDescs b x st te ds ((i + 1) % 65536) (hostWrite b addr (txWriteback d st te (ownerPhase x.size i)) s)

/-- Writes back, in ring order, every frame at the head of a ring whose fate is known (R419). -/
def flushTx : Nat → Nat → Nat → State → State
  | 0, _, _, s => s
  | n + 1, b, r, s =>
    let x := s.txAt b r
    match x.pend with
    | [] => s
    | p :: rest =>
      match p.status with
      | none => s
      | some st =>
        let first := (x.next.toNat + 65536 - x.outstanding) % 65536
        let s1 := writeDescs b x st p.te p.descs first s
        let s2 := onTx b r (fun x => { x with
          pend := rest, unsig := x.unsig + bitNat (p.descs.any (fun d => d.eop && !d.skipped)),
          frames := if st = 0 then bump x.frames else x.frames,
          dropped := if st = 3 then bump x.dropped else x.dropped }) s1
        flushTx n b r (signalTx b r TxRing.frameDue s2)

/-- The fate of a transmit frame is known: its status and its egress stamp wait for their writeback (R419). -/
def txFate (f b r : Nat) (st : BitVec 8) (te : Nat) (s : State) : State :=
  let s1 := onTx b r (fun x => { x with
    pend := x.pend.map (fun p => if p.frame = some f then { p with status := some st, te := te } else p) }) s
  flushTx (s1.txAt b r).pend.length b r s1

end Sys2Proof.Machine
end

