-- ==== Sys2Proof/Machine/FateOps.lean ====
section
/-! DEFINITION. The fate of a frame: when it is final, what it frees, the copies it leaves in queues, holding, and the drops
(01_order_path.md R35 to R39, 08_ferry_reservoir.md R193 to R203, 10_weir_windlass.md R235 to R238). -/

namespace Sys2Proof.Machine

/-! ### Loss flags (15_ledger.md Table 15.2) -/

/-- Flag bits of an ORDER record. -/
def flagFcsBad : BitVec 16 := 0x001
/-- REPARSED. -/
def flagReparsed : BitVec 16 := 0x002
/-- SETTLE_DROP. -/
def flagSettle : BitVec 16 := 0x004
/-- LINK_DOWN. -/
def flagLinkDown : BitVec 16 := 0x008
/-- NO_ROUTE. -/
def flagNoRoute : BitVec 16 := 0x010
/-- FWD_ERR. -/
def flagFwdErr : BitVec 16 := 0x020
/-- RSV_FULL. -/
def flagRsvFull : BitVec 16 := 0x040
/-- BANK_LOSS. -/
def flagBankLoss : BitVec 16 := 0x080
/-- REVERSED. -/
def flagReversed : BitVec 16 := 0x100
/-- HELD. -/
def flagHeld : BitVec 16 := 0x200
/-- STEP_CROSSED. -/
def flagStep : BitVec 16 := 0x400

/-- Sets loss flags of a frame. -/
def addFlags (f : Nat) (b : BitVec 16) (s : State) : State := onFrame f (fun x => { x with flags := x.flags ||| b }) s

/-- FLAGS of a frame's record. -/
def Frame.recordFlags (x : Frame) : Nat :=
  (x.flags ||| (if x.fcsBad then flagFcsBad else 0) ||| (if x.reparsed then flagReparsed else 0)
    ||| (if x.reversed then flagReversed else 0) ||| (if x.wasHeld then flagHeld else 0)
    ||| (if x.seenEpochStep && x.te != 0 then flagStep else 0)).toNat

/-! ### What is known of a frame -/

/-- The ingress river port of a frame; 0 for one that came from elsewhere. -/
def Frame.inPort (x : Frame) : Nat :=
  match x.src with
  | .port p => p
  | _ => 0

/-- The frame came in on a river port, and so takes the steps of Table 01.1. -/
def Frame.isRiver (x : Frame) : Bool :=
  match x.src with
  | .port _ => true
  | _ => false

/-- An order-bearing frame: parsed, with ORDER set (05_pumps.md R125). -/
def Frame.isOrder (x : Frame) : Bool := x.committed && x.parse.order

/-- The action of the frame's parse-failure class, as in force at its dispatch (05_pumps.md R124, R129). -/
def Frame.classAction (x : Frame) : Nat := (Tab.look 0 x.actions x.parse.cls.toNat).toNat

/-- The frame has ended in a parse-failure class. -/
def Frame.failed (x : Frame) : Bool := x.committed && x.parse.cls != 0

/-- Nothing more of the judging side is to come. -/
def Frame.judgedOut (x : Frame) : Bool := x.judged || x.unparsed || x.failed || !x.isRiver

/-- EG_PORT of a frame's record (15_ledger.md Table 15.1). -/
def Frame.egCode (x : Frame) : Nat := if x.te = 0 then 0x7F else if x.txKind = 1 then x.txPort else if x.txKind = 2 then 64 + x.txPort else 0x7F

/-- The frame's ORDER record (15_ledger.md Table 15.1). -/
def Frame.record (x : Frame) (seq : Nat) : List Byte :=
  let o := x.parse.toOrder
  orderBytes x.berth x.recordFlags seq (if (x.parse.field 1).isSome then o.account else 0) x.ts x.te x.verdict.toNat x.stomp.toNat
    x.reason.toNat x.parse.cls.toNat x.inPort x.egCode x.parse.digest.toNat x.sync.toNat
    (if (x.parse.field 2).isSome then o.instrument else 0)

/-! ### Finality (R37) -/

/-- A match context is freed: its slot's sequence advances (06_strainer.md R148). -/
def freeCtx (k : Nat) (s : State) : State :=
  { s with strn := { s.strn with ctx := Tab.upd {} s.strn.ctx k (fun c => { seq := c.seq % 63 + 1 }) } }

/-- A flow-trace sample when the frame's turn comes (22_counters_trace.md R473, Table 22.3). -/
def flowTrace (x : Frame) (s : State) : State :=
  let t := s.trace
  if !t.flowOn || !t.berths.getLsbD x.berth || !x.isRiver then s
  else if t.flowCount + 1 < 2 ^ t.shift then onTrace (fun t => { t with flowCount := t.flowCount + 1 }) s
  else
    let body := [BitVec.ofNat 8 x.inPort, BitVec.ofNat 8 x.egCode, BitVec.ofNat 8 (x.verdict.toNat + 16 * x.stomp.toNat),
        BitVec.ofNat 8 (x.parse.cls.toNat + 16 * x.pclass)]
      ++ leBytes 4 (s.flowHash x.berth x.parse x.bytes) ++ leBytes 4 (if x.te = 0 then 0 else min 0xFFFFFFFF ((x.te - x.ts) * 25 / 16))
      ++ leBytes 2 x.len
    onTrace (fun t => { t.push 7 x.berth x.ts body with flowCount := 0 }) s

/-- Removes a frame. -/
def dropFrame (f : Nat) (s : State) : State := { s with frames := Tab.del s.frames f }

/-- Makes a frame's fate final once nothing more of it will be sent, it has been received, and its verdict is known; an order-bearing
frame then waits for its record, unless it was refused under HOLD (R37, 15_ledger.md R343). -/
def finalize (f : Nat) (s : State) : State :=
  let x := s.frameAt f
  if !x.closed || !x.ended || !x.judgedOut || x.fate then s
  else
    let s1 := match x.ctxSlot with
      | some k => freeCtx k s
      | none => s
    let s2 := flowTrace x s1
    match x.src with
    | .ring b r => dropFrame f (txFate f b r (if x.te = 0 then 3 else 0) x.te s2)
    | _ => if x.isOrder && x.slot != 2 then onFrame f (fun x => { x with fate := true, ctxSlot := none }) s2 else dropFrame f s2

/-- Nothing more of a frame will be transmitted: its cells return to the free list (R24). -/
def closeFrame (f : Nat) (s : State) : State := finalize f (freeCells f (onFrame f (fun x => { x with closed := true }) s))

/-- Closes a frame whose path is settled and of which no copy waits or is being sent. -/
def settleFrame (f : Nat) (s : State) : State :=
  let x := s.frameAt f
  if x.routed && x.queued == [] && x.sending == [] && x.holdId.isNone && !x.closed then closeFrame f s else s

/-- A frame's reservoir path is settled. -/
def routeDone (f : Nat) (s : State) : State := settleFrame f (onFrame f (fun x => { x with routed := true }) s)

/-- A frame is dropped, with the loss flags of its record. -/
def dropWith (f : Nat) (flags : BitVec 16) (s : State) : State := routeDone f (addFlags f flags s)

/-- A copy leaves the queue at whose head it was dropped (R109, R203, R220, R441). -/
def dropCopy (f q : Nat) (flags : BitVec 16) (s : State) : State :=
  let s1 := leaveQueue q f s
  let x := s1.frameAt f
  settleFrame f (if x.queued = [] && x.sending = [] && x.te = 0 then addFlags f flags s1 else s1)

/-- A copy's transmission has ended. -/
def copyEnds (f q : Nat) (s : State) : State := settleFrame f (onFrame f (fun x => { x with sending := x.sending.erase q }) s)

/-- The egress stamp of the first transmission that decides a frame's fate; a mirror copy gives none (R37, R194). -/
def stampEgress (f q te : Nat) (kind : BitVec 2) (port : Nat) (s : State) : State :=
  onFrame f (fun x => if x.te = 0 && x.mirrorQ != some q then { x with te := te, txKind := kind, txPort := port } else x) s

/-! ### Copies to queues (R192 to R194, R287, 19_host_rings.md R414) -/

/-- A copy joins a queue: a full queue or a disabled ring refuses it and counts it in QDROP. -/
def copyTo (f q : Nat) (s : State) : State × Bool :=
  if 592 ≤ q && (s.rxAt ((q - 592) / 4) ((q - 592) % 4)).size = 0 then (onQueue q (fun x => { x with drop := bump x.drop }) s, false)
  else joinQueue q f s

/-- Copies to several queues; answers whether any took it. -/
def copyAll (f : Nat) : List Nat → State → State × Bool
  | [], s => (s, false)
  | q :: qs, s =>
    let (s1, ok) := copyTo f q s
    let (s2, more) := copyAll f qs s1
    (s2, ok || more)

/-- A copy to one queue, which settles the frame's path. -/
def sendTo (f q : Nat) (s : State) : State :=
  let (s1, ok) := copyTo f q s
  if ok then routeDone f s1
  else dropWith f (if 592 ≤ q && (s.rxAt ((q - 592) / 4) ((q - 592) % 4)).size = 0 then flagNoRoute else flagRsvFull) s1

/-- The frame may go to a river port from the fabric: the port is owned by a berth with FABRIC_OK, whole or by a share that covers the
frame's VLAN and TC (R287). -/
def State.fabricOwner (s : State) (p tc : Nat) (bytes : List Byte) : Option Nat :=
  let o := s.ownerAt p
  let b := match o.whole with
    | some b => some b
    | none => (o.shares.find? (fun x => x.vlanLo.toNat ≤ outerVlan bytes && outerVlan bytes ≤ x.vlanHi.toNat && x.tcMask.getLsbD tc)).map
        Share.berth
  match b with
  | some b => if (s.berthAt b).fabricOk then some b else none
  | none => none

/-- The flow key of a frame: h[21:16] (R285). -/
def State.flowKey (s : State) (b : Nat) (p : Parse) (bytes : List Byte) : Nat := bitsOf (s.flowHash b p bytes) 21 16

/-- A frame goes to a remote river port (R287). -/
def sendFabric (f res : Nat) (s : State) : State :=
  let x := s.frameAt f
  let port := resIndex res % 64
  let tc := resTc res
  if 4336 < x.len then dropWith f flagNoRoute (onFab (fun a => { a with oversizeDrop := bump a.oversizeDrop }) s)
  else if resDevice res = s.fab.id then
    match s.fabricOwner port tc x.bytes with
    | some _ => sendTo f (8 * port + tc) s
    | none => dropWith f flagNoRoute (onFab (fun a => { a with refused := bump a.refused }) s)
  else
    let m : Msg := { dst := resDevice res, kind := 1, listPos := s.flowKey x.berth x.parse x.bytes, target := BitVec.ofNat 8 port,
                     tc := BitVec.ofNat 8 tc, vc := 4, body := x.bytes, frame := some f }
    match inject m s with
    | (s1, .queued k v h) =>
      routeDone f (onFrame f (fun x => { x with queued := x.queued ++ [512 + 10 * k + 2 * v + h], enqAt := s.tide.nowFs }) s1)
    | (s1, _) => dropWith f flagNoRoute s1

/-- Sends a frame where its forwarding result says (07_tables.md Table 07.1, R180, R182).  An RDMA frame is delivered to the RDMA engine,
which takes it by RDMA_PACKET (14_remote_memory.md R314, log entry 20). -/
def sendResult (f res : Nat) (s : State) : State :=
  let x := s.frameAt f
  let kind := resKind res
  let i := resIndex res
  if x.rdma then routeDone f s
  else if kind = 1 then sendTo f (8 * (i % 64) + resTc res) s
  else if kind = 3 then
    let g := Tab.look {} s.fwd.mcast i
    let qs := (setBits 64 g.ports.toNat).map (fun p => 8 * p + resTc res) ++ (setBits 4 g.rings.toNat).map (hostQueue x.berth)
    if qs = [] then dropWith f flagNoRoute (onFwd (fun w => { w with missDrop := bump w.missDrop }) s)
    else
      let (s1, ok) := copyAll f qs s
      if ok then routeDone f s1 else dropWith f flagRsvFull s1
  else if kind = 4 then sendTo f (hostQueue x.berth (i % 4)) s
  else if kind = 5 then sendFabric f res s
  else if x.fwdErr then dropWith f flagFwdErr (onFwd (fun w => { w with eccDrop := bump w.eccDrop }) s)
  else dropWith f flagNoRoute (if x.fwdMiss then onFwd (fun w => { w with missDrop := bump w.missDrop }) s else s)

/-- The queue of a frame whose launch set it confirmed (R188). -/
def Frame.confirmedQueue (x : Frame) : Option Nat :=
  match x.confirmed, x.lset with
  | some true, some (p, tc) => some (8 * p + tc)
  | _, _ => none

/-- A frame goes to its launch set's egress port and TC when it confirmed, else to its forwarding result (R188). -/
def sendOn (f : Nat) (s : State) : State :=
  let x := s.frameAt f
  match x.confirmedQueue, x.fwd with
  | some q, _ => if x.rdma then routeDone f s else sendTo f q s
  | none, some r => sendResult f r.toNat s
  | none, none => s

/-- The forwarding result is one that waits for the whole frame: to a Crossing (R195), or to the RDMA engine. -/
def Frame.storedFirst (x : Frame) : Bool := x.rdma || x.confirmedQueue.isNone && (x.fwd.map (fun r => resKind r.toNat)) == some 5

/-- The TC of a frame's own egress, which its mirror copy takes. -/
def Frame.egressTc (x : Frame) : Nat :=
  match x.lset, x.fwd with
  | some (_, tc), _ => tc
  | none, some r => resTc r.toNat
  | none, none => 0

/-- The queue a class's MIRROR names (05_pumps.md Table 05.11). -/
def Frame.mirrorQueue (x : Frame) : Nat :=
  let m := (Tab.look 0 x.mirror x.parse.cls.toNat).toNat
  if bitsOf m 15 8 = 0 then 8 * (m % 64) + x.egressTc else hostQueue x.berth (m % 4)

/-- Sends the mirror copy of a frame, when its reservoir copy is complete (R36). -/
def sendMirror (f : Nat) (s : State) : State :=
  let x := s.frameAt f
  if x.copyLost then s
  else
    let (s1, ok) := copyTo f x.mirrorQueue s
    if ok then onFrame f (fun x => { x with mirrorQ := some x.mirrorQueue }) s1 else s1

/-! ### Reservoir drops (R191) -/

/-- A frame that cannot take a cell: its reservoir copy is lost (R191). -/
def loseCopy (f : Nat) (s : State) : State :=
  onRsv (fun r => { r with fullDrop := bump r.fullDrop }) (onFrame f (fun x => { x with copyLost := true }) (freeCells f s))

/-- A frame that waits in reservoir queues for its remaining bytes loses its copies there when it cannot take a cell (R191, R193). -/
def loseQueued (f : Nat) (s : State) : State :=
  ((s.frameAt f).queued.filter (fun q => q != ferrySource)).foldl (fun s q => dropCopy f q flagRsvFull s) (loseCopy f s)

/-! ### Holding (10_weir_windlass.md R237, R238) -/

/-- A held frame leaves the berth's held frames. -/
def unhold (f : Nat) (s : State) : State :=
  let x := s.frameAt f
  onWeirB x.berth (fun w => { w with held := w.held.filter (fun h => h.2 != f) }) (onFrame f (fun x => { x with holdId := none }) s)

/-- A hold ends in REJECT with a reason (R238). -/
def rejectHeld (f reason : Nat) (s : State) : State :=
  let x := s.frameAt f
  routeDone f (onFrame f (fun x => { x with verdict := 2, reason := BitVec.ofNat 8 reason }) (countVerdict x.berth 2 reason (unhold f s)))

/-- A frame with verdict HOLD is kept, and its event posted; with HOLD_TIMEOUT 0 it ends at once (R237, Table 10.6). -/
def holdFrame (f : Nat) (s : State) : State :=
  let x := s.frameAt f
  let w := s.weirB x.berth
  let id := w.holdNext
  let o := x.parse.toOrder
  let s1 := onWeirB x.berth (fun w => { w with held := w.held ++ [(id.toNat, f)], holdNext := w.holdNext + 1 }) s
  let s2 := onFrame f (fun x => { x with holdId := some id.toNat, wasHeld := true }) s1
  let s3 := postEvent (1 + x.berth) 0x0901 (leBytes 2 id.toNat ++ [x.reason, 0] ++ leBytes 4 o.account ++ leBytes 4 o.instrument) s2
  if w.holdTimeout = 0 then rejectHeld f 0x12 s3 else s3

/-- A hold ends in ACCEPT: its updates are made, and the frame is enqueued (R238). -/
def acceptHeld (f : Nat) (upd : Option Updates) (create : Option Nat) (s : State) : State :=
  let x := s.frameAt f
  let s1 := match upd with
    | some u => applyUpd x.berth u create s
    | none => s
  let s2 := onFrame f (fun x => { x with verdict := 1, reason := 0, upd := upd }) (unhold f s1)
  let s3 := onWeirB x.berth (fun w => { w with released := bump w.released }) (countVerdict x.berth 1 0 s2)
  sendOn f s3

/-! ### The stomp (01_order_path.md R31 to R36) -/

/-- A ferry frame confirms: an entry of its launch set matches its VLAN and L4 header (08_ferry_reservoir.md R187). -/
def State.confirms (s : State) (x : Frame) : Bool :=
  let q := s.rsvB x.berth
  ((List.range q.fsize).map (fun i => Tab.look {} s.rsv.ferry (q.fbase + i))).any (fun e =>
    e.valid && e.inPort.toNat == x.inPort && e.dmac == x.bytes.take 6
    && (e.vlan == 0xFFFF || e.vlan.toNat == outerVlan x.bytes)
    && (e.l4any || ferryL4 x.bytes == some (e.proto.toNat, e.l4port.toNat)))

/-- The reason that D records: SAFE, MISFERRY, PARSE, REJECT, HOLD, LATE, in this order (R35). -/
def stompReason (x : Frame) (safe : Bool) : Nat :=
  if safe || x.safeStomp then 4
  else if x.confirmed == some false then 6
  else if x.failed then (if x.classAction ≤ 1 then 5 else 0)
  else if x.judged then (if x.verdict = 2 then 1 else if x.verdict = 3 then 3 else 0)
  else 2

/-- The fate that a stomp reason gives (Table 01.3). -/
def divert (f reason : Nat) (s : State) : State :=
  let x := s.frameAt f
  let anew := onFrame f (fun x => { x with te := 0, txKind := 0 }) s
  if reason = 3 then
    (if x.copyLost then dropWith f flagRsvFull anew else holdFrame f anew)
  else if reason = 5 && x.classAction = 1 then
    (if x.copyLost then dropWith f flagRsvFull anew else sendTo f (hostQueue x.berth 0) anew)
  else if reason = 6 then
    let s1 := reverseFrame f anew
    (if x.copyLost then dropWith f flagRsvFull s1
     else onFrame f (fun y => { y with again := y.judged, judged := false, verdict := 0, reason := 0 }) s1)
  else if reason = 2 || reason = 4 then routeDone f (reverseFrame f s)
  else if reason = 0 && x.failed && x.classAction = 3 then routeDone f (sendMirror f s)
  else routeDone f s

/-- The decision at D of a ferry frame in transmission (R31, R35). -/
def decide1 (f : Nat) (s : State) : State :=
  let x0 := s.frameAt f
  if !x0.onWire || x0.decided then s
  else
    let s0 := onFrame f (fun x => { x with confirmed := some (x.confirmed.getD (s.confirms x)), decided := true }) s
    let x := s0.frameAt f
    let reason := stompReason x s.sump.safe
    let s1 := onFrame f (fun x => { x with stomp := BitVec.ofNat 4 reason, ferryTe := x.te }) s0
    let p := x.txPort
    let s2 := if reason = 0 then s1
      else count 0x0013 (frameOcc p x.berth (some reason)) 1 (onPort p (fun v => { v with stomps := Tab.upd 0 v.stomps reason bump }) s1)
    divert f reason s2

end Sys2Proof.Machine
end

