-- ==== Sys2Proof/Machine/Ingress.lean ====
section
/-! DEFINITION. A frame's arrival: the SFD, the manifold's dispatch, its cells, the ferry gate and its end (01_order_path.md R21 to R29,
04_river_ports.md R96 to R102, 05_pumps.md R114 and R115, 08_ferry_reservoir.md R186 to R191). -/

namespace Sys2Proof.Machine

/-- The frame is in the Orkai. -/
def State.hasFrame (s : State) (f : Nat) : Bool := s.frames.any (fun e => e.1 == f)

/-- Changes the pumps. -/
def onPump (g : Pump → Pump) (s : State) : State := { s with pump := g s.pump }

/-- Pump engine e. -/
def State.engineAt (s : State) (e : Nat) : Engine := Tab.look {} s.pump.engine e

/-- Changes pump engine e. -/
def onEngine (e : Nat) (g : Engine → Engine) (s : State) : State := onPump (fun p => { p with engine := Tab.upd {} p.engine e g }) s

/-- Pump settings of berth b. -/
def State.pumpB (s : State) (b : Nat) : PumpB := Tab.look {} s.pump.berth b

/-! ### Dispatch (05_pumps.md R114, R115) -/

/-- The engine takes header copies: it is in rotation, not taken out by the patch, and has a free context. -/
def Engine.takes (e : Engine) : Bool := e.inRotation && !e.patching && e.ctx.length < 8

/-- The in-rotation engine with the most free contexts, ties broken from the rotating pointer. -/
def State.chooseEngine (s : State) : Option Nat :=
  ((List.range 16).map (fun i => (s.pump.ptr + i) % 16)).foldl (fun best e =>
    if !(s.engineAt e).takes then best
    else match best with
      | none => some e
      | some b => if (s.engineAt e).ctx.length < (s.engineAt b).ctx.length then some e else best) none

/-- Gives a frame a context of an engine, under its berth's settings of this instant, which a reparse keeps (05_pumps.md R129, R134). -/
def giveContext (f e : Nat) (s : State) : State :=
  let b := s.pumpB (s.frameAt f).berth
  let s1 := onPump (fun p => { p with ptr := (p.ptr + 1) % 16 }) (onEngine e (fun x => { x with ctx := x.ctx ++ [f] }) s)
  onFrame f (fun x =>
    if x.reparsed then { x with engine := some e }
    else { x with engine := some e, profEnable := b.enable, profEntry := b.entry, actions := b.action, mirror := b.mirror }) s1

/-- A frame never parsed: counted, and added to its berth's unclassed drops (R115). -/
def neverParsed (f : Nat) (s : State) : State :=
  let b := (s.frameAt f).berth
  let s1 := onPump (fun p => { p with noContext := bump p.noContext }) (onFrame f (fun x => { x with unparsed := true }) s)
  raise 10 1 0 0 0 none (s1.setChain b { s1.chainAt b with unclassed := (s1.chainAt b).unclassed + 1 })

/-- The manifold dispatches a frame's header copy, holds it, or lets it go unparsed. -/
def dispatchHeader (f : Nat) (s : State) : State :=
  match s.chooseEngine with
  | some e => giveContext f e s
  | none =>
    if s.pump.holding.length < 32 then
      onPump (fun p => { p with holding := p.holding ++ [f], dispatchWait := bump p.dispatchWait }) s
    else neverParsed f s

/-! ### Reception -/

/-- Counts a received frame at its port (04_river_ports.md Table 04.5). -/
def countRx (p len : Nat) (fcsBad runt oversize : Bool) (s : State) : State :=
  onPort p (fun v => { v with
    rxFrames := bump v.rxFrames, rxBytes := bumpBy v.rxBytes len,
    rxFcsErr := if fcsBad then bump v.rxFcsErr else v.rxFcsErr,
    rxRunt := if runt then bump v.rxRunt else v.rxRunt,
    rxOversize := if oversize then bump v.rxOversize else v.rxOversize }) s

/-- Bytes a frame may have on a river port (04_river_ports.md R96). -/
def maxFrame : Nat := 9216

/-- The port receives: it is UP, whether or not its quad drains or settles (04_river_ports.md Synthesiser settling). -/
def State.receives (s : State) (p : Nat) : Bool :=
  !s.bondMember p && s.portUp p

/-- A frame of a berth begins: it is stamped at its SFD and its header copy goes to the manifold. -/
def beginFrame (p b : Nat) (bytes : List Byte) (phase : Nat) (s : State) : State :=
  let f := s.nextFrame
  let x : Frame := {
    src := .port p, berth := b, bytes := bytes, rate := s.portRate p, pclass := pcpOf bytes,
    ts := s.ingressStamp p phase, sync := s.tide.word, tfcFail := s.timeFails b, latBound := s.guard.latBound,
    ptpEvent := frameIsPtpEvent bytes }
  dispatchHeader f ({ s with nextFrame := f + 1 }.setFrame f x)

/-- FRAME_START: a frame's SFD passes an ingress PCS (R21, 02_tide_gauge.md R58, 09_berths.md R211).  Flow-control frames are consumed by
PAUSE_RECEIVE; a frame of no berth is dropped before the ferry gate. -/
def execFrameStart (p : Fin 64) (bytes : List Byte) (phase : Fin 32) (s : State) : Result :=
  if bytes = [] || !s.receives p.val || fieldBe bytes 12 2 = 0x8808 then .next s
  else match s.frameBerth p.val (outerVlan bytes) with
    | some b => .next (beginFrame p.val b bytes phase.val s)
    | none =>
      let exc := decide (maxFrame < bytes.length)
      let bad := exc || !fcsGood bytes
      .next (countRx p.val (min maxFrame bytes.length) bad (bytes.length < 64) exc
        { s with glb := { s.glb with noBerthDrop := bump s.glb.noBerthDrop } })

/-- HOLDING_BUFFER_DISPATCH: the oldest waiting header copy goes to an engine with a free context (R115). -/
def execHoldingBufferDispatch (s : State) : Result :=
  match s.pump.holding, s.chooseEngine with
  | f :: rest, some e => .next (giveContext f e (onPump (fun p => { p with holding := rest }) s))
  | _, _ => .next s

/-! ### Cells (R191) -/

/-- A frame takes cells until it holds n, or loses its copy; one that the ferry gate has not launched is then dropped. -/
def growTo (f n : Nat) (s : State) : State :=
  let x := s.frameAt f
  if x.closed || x.copyLost || x.cells.length ≥ n then s
  else
    let (s1, ok) := takeCells f n 40 s
    if ok then s1
    else if x.lookedUp && !x.launched && !x.routed then dropWith f flagRsvFull (loseCopy f s1)
    else loseQueued f s1

/-- CELL_ALLOCATE: a frame's bytes fill the next cell (R191). -/
def execCellAllocate (f : Nat) (s : State) : Result :=
  let x := s.frameAt f
  if !s.hasFrame f || x.ended || cellsOf x.len ≤ x.cells.length then .next s else .next (growTo f (x.cells.length + 1) s)

/-! ### The ferry gate (R22, R23, R186 to R189) -/

/-- The entries of the launch set of a berth, an ingress port and a destination address: their indices. -/
def State.launchSet (s : State) (b p : Nat) (dmac : List Byte) : List Nat :=
  let q := s.rsvB b
  ((List.range q.fsize).map (· + q.fbase)).filter (fun i =>
    let e := Tab.look {} s.rsv.ferry i
    e.valid && e.inPort.toNat == p && e.dmac == dmac)

/-- An entry of the launch set was invalidated by an error and has not been rewritten since (R204). -/
def State.launchBroken (s : State) (b p : Nat) (dmac : List Byte) : Bool :=
  let q := s.rsvB b
  ((List.range q.fsize).map (· + q.fbase)).any (fun i =>
    let e := Tab.look {} s.rsv.ferry i
    e.ecc && e.inPort.toNat == p && e.dmac == dmac)

/-- An earlier frame that confirmed on the same launch set is still queued on the reservoir path; held frames are not counted (R188). -/
def State.earlierQueued (s : State) (f : Nat) : Bool :=
  let x := s.frameAt f
  s.frames.any (fun e => e.1 < f && e.2.berth == x.berth && e.2.inPort == x.inPort && e.2.isRiver
    && e.2.bytes.take 6 == x.bytes.take 6 && e.2.confirmed == some true && e.2.holdId.isNone && !e.2.closed
    && (e.2.queued.any (fun q => q < 512 && e.2.mirrorQ != some q) || (!e.2.launched && !e.2.routed)))

/-- Ferry frames of a port: waiting, and in transmission. -/
def State.ferryHeld (s : State) (p : Nat) : Nat :=
  (s.egressAt p).fifo.length + (match (s.egressAt p).busy with
    | some (_, q) => bitNat (q == ferrySource)
    | none => 0)

/-- The launch is allowed (R22, R51, R101, R127, R188, R204, 14_remote_memory.md R314). -/
def State.mayLaunch (s : State) (f eg tc : Nat) : Bool :=
  let x := s.frameAt f
  x.rate < 2 && (s.portAt x.inPort).fec == 0 && s.portRate eg == x.rate && s.ferryOk eg && !s.pausedFor eg tc
  && !x.ptpEvent && !laterFrag x.bytes && !s.isRdma x.berth x.inPort x.bytes && s.ferryHeld eg < 2 && !s.earlierQueued f && !s.launchBroken x.berth x.inPort (x.bytes.take 6) && !s.sump.safe

/-- The frame takes the reservoir path; one that has already lost its copy is dropped (R191). -/
def toReservoir (f : Nat) (s : State) : State := if (s.frameAt f).copyLost then dropWith f flagRsvFull s else s

/-- An uncorrectable error in the entry of a launch set that a lookup reads invalidates it, and raises FERRY_ECC with its index (R204). -/
def breakEntry (i : Nat) (s : State) : State :=
  raise 13 2 0 0 i none (onRsv (fun r => { r with ferry := Tab.upd {} r.ferry i (fun e => { e with valid := false, ecc := true }) }) s)

/-- LAUNCH_LOOKUP: the destination address selects the launch set, and the frame launches on the ferry lane or is refused (R23, R188). -/
def execLaunchLookup (f : Nat) (err : EccErr) (s0 : State) : Result :=
  let x := s0.frameAt f
  if !s0.hasFrame f || !x.isRiver || x.lookedUp || x.routed || x.closed then .next s0
  else
    let s := match err, s0.launchSet x.berth x.inPort (x.bytes.take 6) with
      | .uncorrectable, i :: _ => breakEntry i s0
      | _, _ => s0
    let set := s.launchSet x.berth x.inPort (x.bytes.take 6)
    let e := Tab.look {} s.rsv.ferry (set.headD 0)
    let eg := e.egPort.toNat
    let tc := e.tc.toNat
    let ix := set.headD (s.rsvB x.berth).fbase
    let s1 := count 0x0042 { frameOcc x.inPort x.berth none with addr := some (1, 8, ix) } 1
      (onFrame f (fun y => { y with lookedUp := true, lset := if set = [] then none else some (eg, tc) }) s)
    if set = [] && !s.launchBroken x.berth x.inPort (x.bytes.take 6) then .next (toReservoir f s1)
    else if !s.mayLaunch f eg tc then .next (toReservoir f (onRsv (fun r => { r with ferryRefused := bump r.ferryRefused }) s1))
    else
      let wait := (s.egressAt eg).busy.isSome || (s.egressAt eg).fifo ≠ []
      let s2 := onFrame f (fun y => { y with launched := true, queued := y.queued ++ [ferrySource], ferryWait := wait }) s1
      .next (count 0x0012 (frameOcc x.inPort x.berth (some tc)) 1 (onEgress eg (fun g => { g with fifo := g.fifo ++ [f] }) s2))

/-- CONFIRM_COMPARE: the VLAN and the L4 port are compared with the launch set (R187). -/
def execConfirmCompare (f : Nat) (s : State) : Result :=
  let x := s.frameAt f
  if !s.hasFrame f || x.lset.isNone || x.confirmed.isSome then .next s
  else .next (onFrame f (fun y => { y with confirmed := some (s.confirms x) }) s)

/-! ### The end of a frame (R27, 04_river_ports.md R96, 05_pumps.md R123) -/

/-- A frame's last byte has been received: its FCS is checked, its last cells are taken, it is counted, and its source is learned. -/
def endFrame (f : Nat) (s : State) : State :=
  let x := s.frameAt f
  let bad := x.fcsBad || !fcsGood x.bytes
  let runt := x.len < 64
  let s1 := growTo f (cellsOf x.len) (onFrame f (fun y => { y with ended := true, fcsBad := bad, runt := runt }) s)
  let s2 := countRx x.inPort x.len bad runt x.oversize s1
  let s3 := count 0x0011 (frameOcc x.inPort x.berth (some x.pclass)) x.len (count 0x0010 (frameOcc x.inPort x.berth (some x.pclass)) 1 s2)
  let s4 := if bad then s3 else learn x.berth x.inPort x.bytes s3
  finalize f (if x.unparsed && !x.launched then routeDone f s4 else s4)

/-- A frame that has reached 9,216 bytes is ended there, with an ingress FCS error (R96). -/
def cutOversize (f : Nat) (s : State) : State :=
  endFrame f (onFrame f (fun y => { y with bytes := y.bytes.take maxFrame, oversize := true, fcsBad := true }) s)

/-- OVERSIZE_CUT: a frame that reaches 9,216 bytes without ending is ended there, with an ingress FCS error (R96). -/
def execOversizeCut (f : Nat) (s : State) : Result :=
  let x := s.frameAt f
  if !s.hasFrame f || !x.isRiver || x.ended || x.len ≤ maxFrame then .next s
  else .next (cutOversize f s)

/-- The FEC codewords a port has received since its last frame are counted, when it runs FEC (04_river_ports.md Table 04.5). -/
def countFec (p corr uncorr : Nat) (s : State) : State :=
  onPort p (fun v => if v.fec = 0 then v else { v with fecCorr := bumpBy v.fecCorr corr, fecUncorr := bumpBy v.fecUncorr uncorr }) s

/-- INGRESS_FRAME_END: a frame's last byte is received (R27); a frame that has not ended by its 9,216th byte was cut before. -/
def execIngressFrameEnd (f fecCorr fecUncorr : Nat) (s0 : State) : Result :=
  let x := s0.frameAt f
  let s := if s0.hasFrame f && x.isRiver && !x.ended then countFec x.inPort fecCorr fecUncorr s0 else s0
  if !s.hasFrame f || !x.isRiver || x.ended then .next s
  else if maxFrame < x.len then .next (cutOversize f s)
  else .next (endFrame f s)

end Sys2Proof.Machine
end

