-- ==== Sys2Proof/Machine/StrnOps.lean ====
section
/-! DEFINITION. The strainer's lookups: scan windows, rule keys, matches and match contexts (06_strainer.md R140 to R149). -/

namespace Sys2Proof.Machine

/-- Changes the strainer. -/
def onStrn (g : Strn → Strn) (s : State) : State := { s with strn := g s.strn }

/-- Strainer settings of berth b. -/
def State.strnB (s : State) (b : Nat) : StrnB := Tab.look {} s.strn.berth b

/-- Changes the strainer settings of berth b. -/
def onStrnB (b : Nat) (g : StrnB → StrnB) (s : State) : State := onStrn (fun w => { w with berth := Tab.upd {} w.berth b g }) s

/-- Rule entry i. -/
def State.ruleAt (s : State) (i : Nat) : Rule := Tab.look {} s.strn.rule i

/-- Writes rule entry i. -/
def setRule (i : Nat) (r : Rule) (s : State) : State := onStrn (fun w => { w with rule := Tab.put {} w.rule i r }) s

/-- Match context of a berth and slot. -/
def State.ctxAt (s : State) (k : Nat) : MatchCtx := Tab.look {} s.strn.ctx k

/-- The scan window of a frame, clipped to end at index min(255, L - 5) (R140). -/
def StrnB.window (x : StrnB) (bytes : List Byte) : List Byte :=
  let stop := min (x.scanOff.toNat + x.scanLen.toNat) (min 256 (bytes.length - 4))
  (bytes.take stop).drop x.scanOff.toNat

/-- GROUPS of a frame (R141, R144). -/
def StrnB.groups (x : StrnB) (stride4 : Bool) (bytes : List Byte) : Nat :=
  let w := x.window bytes
  if x.patterns = 0 || w = [] then 0 else Config.groupsOf x.image stride4 w % 2 ^ 64

/-- The rule key of a frame (R146). -/
def ruleKey (p : Parse) (groups port : Nat) : List Byte := key0Bytes p ++ leBytes 8 groups ++ [BitVec.ofNat 8 (port % 64)]

/-- The bytes of a key that a mask names. -/
def maskBytes (key mask : List Byte) : List Byte := (key.zip mask).map (fun e => e.1 &&& e.2)

/-- A valid entry matches a key (R146). -/
def Rule.isMatch (r : Rule) (key : List Byte) : Bool := r.ruleId != 0 && maskBytes key r.mask == maskBytes r.value r.mask

/-- The matching entries of a berth's range, in priority order, from an index on (R145, R149). -/
def State.matchesFrom (s : State) (b start : Nat) (key : List Byte) : List Nat :=
  let x := s.strnB b
  ((List.range x.rsize).map (· + x.rbase)).filter (fun i => start ≤ i && (s.ruleAt i).isMatch key)

/-- The unit that serves a port: its own, or its partner when that has failed (R158). -/
def Strn.unitOf (w : Strn) (port : Nat) : Nat :=
  let k := port % 64 / 16
  if w.units.getLsbD k then k else if k % 2 = 0 then k + 1 else k - 1

/-- The berth's range holds a DAMAGED entry (R157). -/
def State.rangeDamaged (s : State) (b : Nat) : Bool :=
  let x := s.strnB b
  (List.range x.rsize).any (fun i => (s.ruleAt (x.rbase + i)).damaged)

/-- ERR of a lookup on a port (R157). -/
def State.strnErr (s : State) (b port : Nat) : Bool :=
  s.rangeDamaged b || (s.strnB b).autoDamaged.getLsbD (s.strn.unitOf port)

/-- The handle of a context (Table 06.3). -/
def handleOf (b slot seq : Nat) : Nat := b * 4096 + slot * 64 + seq

/-- The lowest free match context of a berth. -/
def State.freeSlot (s : State) (b : Nat) : Option Nat := (List.range 64).find? (fun i => !(s.ctxAt (64 * b + i)).live)

/-- A lookup takes a match context when more than one entry matched (R148); answers the handle. -/
def takeCtx (b first : Nat) (key : List Byte) (frame : Option Nat) (s : State) : State × Nat :=
  if (s.strnB b).handleAge = 0 then (s, 0)
  else match s.freeSlot b with
    | none => (onStrn (fun w => { w with handleFull := bump w.handleFull }) s, 0)
    | some slot =>
      let k := 64 * b + slot
      let c := s.ctxAt k
      (onStrn (fun w => { w with
          ctx := Tab.put {} w.ctx k { live := true, key := key, pos := (first : Int), seq := c.seq, frame := frame, since := s.tide.nowFs } }) s,
        handleOf b slot c.seq)

/-- Counts a lookup (R147). -/
def countStrn (b first : Nat) (hit multi : Bool) (s : State) : State :=
  let s1 := onStrn (fun w => { w with lookups := bump w.lookups, multi := if multi then bump w.multi else w.multi }) s
  let s2 := onStrnB b (fun x => if hit then { x with hit := bump x.hit } else { x with nomatchCnt := bump x.nomatchCnt }) s1
  count 0x0030 { masters := [(2, b)], addr := some (1, 7, first) } 1 s2

/-- The result of a lookup (Table 06.3). -/
def strnWord (first action handle tag : Nat) (hit multi err : Bool) : Nat :=
  wordOf [(first, 0), (bitNat hit, 14), (bitNat multi, 15), (bitNat err, 16), (action, 17), (handle, 32), (tag, 48)]

/-- A lookup of a key in a berth's range (R147, R148): the state after it, its result, and the context it took. -/
def strnLookup (b : Nat) (key : List Byte) (frame : Option Nat) (s : State) : State × Nat :=
  let port := byteAt key 40 % 64
  let ms := s.matchesFrom b 0 key
  let err := s.strnErr b port
  match ms with
  | [] => (countStrn b 0 false false s, strnWord 0 (s.strnB b).onNoMatch.toNat 0 0 false false err)
  | first :: rest =>
    let r := (s.ruleAt first).result.toNat
    let multi := !rest.isEmpty
    let s1 := countStrn b first true multi s
    let (s2, h) := if multi then takeCtx b first key frame s1 else (s1, 0)
    (s2, strnWord first (r % 16) h (r / 65536) true multi err)

/-! ### Pattern sets (R143) -/

/-- Installs a pattern set in every unit. -/
def installSet (b : Nat) (img : List Byte) (s : State) : State :=
  onStrnB b (fun x => { x with
    image := img, patterns := Config.setPatterns img, digest := sha256 img, autoDamaged := 0, pend := none }) s

/-- The berth's chain still waits for a pattern set's CONFIG record. -/
def State.setWaits (s : State) (b : Nat) : Bool := (s.chainAt b).active && (s.chainAt b).awaits 2

/-- A committed set takes effect once its CONFIG record stands in the chain (15_ledger.md R336). -/
def settleSet (b : Nat) (s : State) : State :=
  match (s.strnB b).pend with
  | some img => if s.setWaits b then s else installSet b img s
  | none => s

/-- STRAINER_LOOKUP: at the later of commit and GROUPS ready, the rule table is searched for a parsed frame (R147). -/
def execStrainerLookup (f : Nat) (s : State) : Result :=
  let x := s.frameAt f
  if !s.hasFrame f || !x.committed || x.parse.cls != 0 || x.judged || x.strn.isSome then .next s
  else
    let b := x.berth
    let s0 := settleSet b s
    let key := ruleKey x.parse ((s0.strnB b).groups (x.rate == 2) x.bytes) x.inPort
    let (s1, res) := strnLookup b key (some f) s0
    let h := bitsOf res 47 32
    .next (onFrame f (fun y => { y with strn := some (BitVec.ofNat 64 res), ctxSlot := if h = 0 then none else some (h / 64) }) s1)

/-- HANDLE_AGE_EXPIRY: a match context reaches HANDLE_AGE and is freed (R148). -/
def execHandleAgeExpiry (b : Fin 16) (slot : Fin 64) (s : State) : Result :=
  let k := 64 * b.val + slot.val
  let c := s.ctxAt k
  if !c.live then .next s
  else match c.frame with
    | some f => .next (onFrame f (fun x => if x.ctxSlot = some k then { x with ctxSlot := none } else x) (freeCtx k s))
    | none => .next (freeCtx k s)

end Sys2Proof.Machine
end

