-- ==== Sys2Proof/Machine/Judging.lean ====
section
/-! DEFINITION. The judging side: parsing and its commit, fragments, the Weir's verdict and the forwarding result (05_pumps.md R116 to
R127, 10_weir_windlass.md R233 to R238, 07_tables.md R175). -/

namespace Sys2Proof.Machine

/-! ### Fragments (05_pumps.md R127, R128) -/

/-- The entry of the fragment table that a fragment of a berth names. -/
def FragEntry.isFor (e : FragEntry) (h : FragHdr) (b : Nat) : Bool :=
  e.src == h.src && e.dst == h.dst && e.proto.toNat == h.proto && e.ident.toNat == h.ident && e.berth == b

/-- The live entry for a fragment. -/
def State.findFrag (s : State) (h : FragHdr) (b : Nat) : Option Nat := Tab.find (fun _ e => e.isFor h b) s.pump.frag

/-- The lowest free entry of the fragment table. -/
def State.freeFrag (s : State) : Option Nat := (List.range 4096).find? (fun k => (Tab.look {} s.pump.frag k).src.isEmpty)

/-- A first fragment's outcome is stored, replacing a live entry of its key; a full table only counts it. -/
def storeFrag (f : Nat) (h : FragHdr) (s : State) : State :=
  let x := s.frameAt f
  let e : FragEntry := {
    src := h.src, dst := h.dst, proto := BitVec.ofNat 8 h.proto, ident := BitVec.ofNat 32 h.ident, berth := x.berth,
    cls := x.parse.cls, verdict := x.verdict, reason := x.reason, fwd := x.fwd, ts := x.ts, frame := f + 1 }
  if s.pump.fragAge = 0 then s
  else match (s.findFrag h x.berth).or s.freeFrag with
    | some k => onPump (fun p => { p with frag := Tab.put {} p.frag k e, fragStored := bump p.fragStored }) s
    | none => onPump (fun p => { p with fragFull := bump p.fragFull }) s

/-- The outcome of a first fragment is complete: its class decides, or its verdict is known; and its forwarding result is present. -/
def Frame.outcomeKnown (x : Frame) : Bool := (x.parse.cls != 0 || x.judged) && x.fwd.isSome

/-- Brings the entry that a first fragment stored up to date. -/
def updateFrag (f : Nat) (s : State) : State :=
  match Tab.find (fun _ (e : FragEntry) => e.frame == f + 1) s.pump.frag with
  | none => s
  | some k =>
    let x := s.frameAt f
    onPump (fun p => { p with frag := Tab.upd {} p.frag k (fun e =>
      { e with verdict := x.verdict, reason := x.reason, fwd := x.fwd, frame := if x.outcomeKnown then 0 else e.frame }) }) s

/-- FRAG_AGE_EXPIRY: an entry reaches FRAG_AGE and is freed (R127). -/
def execFragAgeExpiry (k : Fin 4096) (s : State) : Result :=
  if (Tab.look {} s.pump.frag k.val).src = [] then .next s
  else .next (onPump (fun p => { p with frag := Tab.del p.frag k.val, fragAged := bump p.fragAged }) s)

/-! ### Verdicts (10_weir_windlass.md R234, R235, R237) -/

/-- A verdict reaches the egress landing with its updates: after a LATE or SAFE stomp they are reversed; after a MISFERRY stomp they are
reversed and the frame is judged afresh; a HOLD of a reservoir frame keeps it. -/
def verdictArrives (f v reason : Nat) (upd : Option Updates) (create : Option Nat) (s : State) : State :=
  let x := s.frameAt f
  let s0 := match upd with
    | some u => applyUpd x.berth u create s
    | none => s
  let s1 := count 0x0014 (frameOcc x.inPort x.berth (some v)) 1
    (onFrame f (fun y => { y with verdict := BitVec.ofNat 4 v, reason := BitVec.ofNat 8 reason, judged := true, upd := upd }) s0)
  if x.stomp = 2 || x.stomp = 4 then reverseFrame f s1
  else if x.stomp = 6 && !x.again then
    onFrame f (fun y => { y with again := true, judged := false, verdict := 0, reason := 0 }) (reverseFrame f s1)
  else if v = 3 && !x.routed && (!x.launched || x.decided) then holdFrame f s1
  else s1

/-- WEIR_VERDICT: the Weir judges an order, or passes on the strainer's action of a frame that is not order-bearing (R229 to R234). -/
def execWeirVerdict (f : Nat) (s : State) : Result :=
  let x := s.frameAt f
  if !s.hasFrame f || !x.committed || x.parse.cls != 0 || x.judged then .next s
  else match x.strn with
    | none => .next s
    | some res =>
      if x.parse.order then
        let w := s.weirB x.berth
        let j := judge s x.berth x.parse.toOrder { full := x.slot == 2, timeFail := x.tfcFail, strainer := res.toNat }
        let exc := j.verdict = 3 && w.holdMax.toNat ≤ w.held.length
        let v := if exc then 2 else j.verdict
        let r := if exc then 0x14 else j.reason
        .next (finalize f (updateFrag f (verdictArrives f v r j.upd j.create (countVerdict x.berth v r s))))
      else
        let pass := bitsOf res.toNat 19 17 = 0 && !bitOf res.toNat 16
        .next (finalize f (updateFrag f (verdictArrives f (if pass then 1 else 2) 0 none none s)))

/-- FORWARDING_RESULT: the forwarding tables are looked up after commit (R175); an RDMA frame's result is delivery to the RDMA engine
(14_remote_memory.md R314). -/
def execForwardingResult (f : Nat) (s : State) : Result :=
  let x := s.frameAt f
  if !s.hasFrame f || !x.committed || x.fwd.isSome || !x.isRiver then .next s
  else if s.isRdma x.berth x.inPort x.bytes then .next (updateFrag f (onFrame f (fun y => { y with fwd := some 0, rdma := true }) s))
  else
    let (s1, o) := forward x.berth x.parse x.bytes s
    .next (updateFrag f (onFrame f (fun y => { y with fwd := some (BitVec.ofNat 32 o.result), fwdMiss := o.missed, fwdErr := o.err }) s1))

/-! ### Commit (05_pumps.md R116 to R127) -/

/-- What parsing a frame comes to: a parse result, the steps run, the nano-words discarded; and for a later fragment the stored outcome. -/
structure Parsed where
  parse : Parse
  steps : Nat := 0
  discards : Nat := 0
  stored : Option FragEntry := none

/-- A parse result with a class alone. -/
def classOnly (bytes : List Byte) (cls gen engine : Nat) : Parse :=
  { cls := if bytes.length < 64 then 1 else BitVec.ofNat 4 cls, regs := List.replicate 8 0, gen := BitVec.ofNat 8 gen, engine := engine }

/-- Parses a frame on its engine; none while the outcome that a later fragment takes is still coming. -/
def State.parseFrame (s : State) (f e : Nat) : Option Parsed :=
  let x := s.frameAt f
  let en := s.engineAt e
  if !x.profEnable then some { parse := classOnly x.bytes 4 en.gen.toNat e }
  else match fragOf x.bytes with
    | some h =>
      if h.offset = 0 then
        let (p, n, d) := runProfile en e x.profEntry.toNat x.bytes
        some { parse := p, steps := n, discards := d }
      else match s.findFrag h x.berth with
        | none => some { parse := classOnly x.bytes 8 en.gen.toNat e }
        | some k =>
          let t := Tab.look {} s.pump.frag k
          if t.frame ≠ 0 then none
          else some { parse := classOnly x.bytes t.cls.toNat en.gen.toNat e, stored := some t }
    | none =>
      let (p, n, d) := runProfile en e x.profEntry.toNat x.bytes
      some { parse := p, steps := n, discards := d }

/-- An order-bearing frame's record slot is reserved at commit, or refused under HOLD or GAP (15_ledger.md R343). -/
def reserveFor (f : Nat) (s : State) : State :=
  let x := s.frameAt f
  if !x.parse.order then s
  else
    let (s1, ok) := reserveSlot x.berth s
    if !ok then onFrame f (fun y => { y with slot := 2 }) (refuseFull x.berth x.ts s1)
    else onFrame f (fun y => { y with slot := if (s1.chainAt x.berth).active && (s1.chainAt x.berth).full then 3 else 1 }) s1

/-- Counts a committed class and the steps that led to it (R122, R124, R137). -/
def countParse (f : Nat) (r : Parsed) (s : State) : State :=
  let x := s.frameAt f
  let c := r.parse.cls.toNat
  let s1 := onPump (fun p => { p with
    nanoDiscard := bumpBy p.nanoDiscard r.discards,
    berth := Tab.upd {} p.berth x.berth (fun b => { b with counts := Tab.upd 0 b.counts c bump }) }) s
  let s2 := count 0x0015 (frameOcc x.inPort x.berth (some c)) 1 s1
  if r.steps = 0 then s2 else count 0x0020 { masters := [(2, x.berth)] } r.steps s2

/-- What a committed fragment does to the fragment table, and what a later fragment takes from it. -/
def commitFrag (f : Nat) (r : Parsed) (s : State) : State :=
  let x := s.frameAt f
  match fragOf x.bytes with
  | none => s
  | some h =>
    if h.offset = 0 then (if h.more then storeFrag f h s else s)
    else
      let s1 := if h.more then s else match s.findFrag h x.berth with
        | some k => onPump (fun p => { p with frag := Tab.del p.frag k }) s
        | none => s
      match r.stored with
      | none => s1
      | some t =>
        let s2 := onFrame f (fun y => { y with fwd := t.fwd }) s1
        if r.parse.cls != 0 then s2 else verdictArrives f t.verdict.toNat t.reason.toNat none none s2

/-- A parse result commits: the context is freed and the class and keys are handed on. -/
def commit (f e : Nat) (r : Parsed) (s : State) : State :=
  let s1 := onEngine e (fun x => { x with ctx := x.ctx.erase f }) s
  let s2 := onFrame f (fun y => { y with engine := none, committed := true, parse := r.parse }) s1
  finalize f (commitFrag f r (reserveFor f (countParse f r s2)))

/-- PARSE_COMMIT: an engine hands a frame's class and keys to the strainer and the Weir (R116). -/
def execParseCommit (f : Nat) (s : State) : Result :=
  let x := s.frameAt f
  match x.engine with
  | some e =>
    if !s.hasFrame f || x.committed then .next s
    else match s.parseFrame f e with
      | some r => .next (commit f e r s)
      | none => .next s
  | none => .next s

end Sys2Proof.Machine
end

