-- ==== Sys2Proof/Machine/EgressPath.lean ====
section
/-! DEFINITION. The egress side: the decision at D, enqueueing, the choice of the next frame, the matcher, the end of a transmission, and
the records and drops that follow (01_order_path.md R26 to R37, 08_ferry_reservoir.md R193 to R203, 04_river_ports.md R104 and R109). -/

namespace Sys2Proof.Machine

/-- STOMP_DECISION: at D a ferry frame's verdict or stomp reason is applied (R31, R35). -/
def execStompDecision (f : Nat) (s : State) : Result := if s.hasFrame f then .next (decide1 f s) else .next s

/-! ### Enqueueing (R193, 05_pumps.md R124) -/

/-- The frame is on the reservoir path, and its place there is still open. -/
def Frame.awaitsQueue (x : Frame) : Bool :=
  x.isRiver && !x.routed && !x.closed && x.holdId.isNone && (!x.launched || (x.decided && x.stomp == 6))

/-- The frame has what its forwarding asks for: its launch set's queue, or its forwarding result, and for a Crossing its last byte. -/
def Frame.canSend (x : Frame) : Bool := (x.confirmedQueue.isSome || x.fwd.isSome) && (x.ended || !x.storedFirst)

/-- Counts an RDMA frame that its class action or its verdict keeps from the RDMA engine (14_remote_memory.md R314). -/
def countDenied (x : Frame) (s : State) : State :=
  if s.isRdma x.berth x.inPort x.bytes then { s with rdma := { s.rdma with rxDenied := bump s.rdma.rxDenied } } else s

/-- The action of a parse-failure class on the reservoir path (05_pumps.md R124). -/
def enqueueFailed (f : Nat) (s : State) : State :=
  let x := s.frameAt f
  if x.classAction = 0 then routeDone f (countDenied x s)
  else if x.classAction = 1 then sendTo f (hostQueue x.berth 0) s
  else if !x.canSend then s
  else if x.classAction = 3 then sendOn f (sendMirror f s)
  else sendOn f s

/-- A frame that awaits its queue is enqueued, dropped, or left to wait for its verdict and its forwarding result. -/
def enqueueFrame (f : Nat) (s : State) : State :=
  let x := s.frameAt f
  if x.copyLost then dropWith f flagRsvFull s
  else if x.unparsed then routeDone f s
  else if !x.committed then s
  else if x.parse.cls != 0 then enqueueFailed f s
  else if !x.judged || x.fwd.isNone then s
  else if x.verdict = 2 then routeDone f (countDenied x s)
  else if x.verdict = 1 && x.canSend then sendOn f s
  else s

/-- ENQUEUE: a frame of the reservoir path with its verdict and its forwarding result is enqueued, or dropped (R26, R188, R193). -/
def execEnqueue (f : Nat) (s : State) : Result :=
  if !s.hasFrame f || !(s.frameAt f).awaitsQueue then .next s
  else .next (enqueueFrame f (onFrame f (fun x =>
    if x.lset.isSome && x.confirmed.isNone then { x with confirmed := some (s.confirms x) } else x) s))

/-! ### Leaving a queue -/

/-- Takes a waiting ferry frame out of its port's FIFO. -/
def leaveFifo (p f : Nat) (s : State) : State :=
  onEgress p (fun e => { e with fifo := e.fifo.erase f }) (onFrame f (fun x => { x with queued := x.queued.erase ferrySource }) s)

/-- A waiting ferry frame is dropped before it starts. -/
def dropFerry (p f : Nat) (flags : BitVec 16) (s : State) : State :=
  dropWith f flags (leaveFifo p f (onFrame f (fun x => { x with decided := true }) s))

/-- A frame leaves a queue to be transmitted; its deficit is settled when it ends (R197). -/
def takeFrom (q f : Nat) (s : State) : State :=
  onFrame f (fun x => { x with queued := x.queued.erase q, sending := x.sending ++ [q] })
    (onQueue q (fun x => { x with entries := x.entries.erase f }) s)

/-- A frame holds a cell in a bank group that is out of service (R203). -/
def State.bankLost (s : State) (f : Nat) : Bool := (s.frameAt f).cells.any (fun g => !s.rsv.banks.getLsbD g)

/-- Drops the heads of a queue that hold a cell in a failed bank group (R203). -/
def dropLostHeads (q : Nat) : Nat → State → State
  | 0, s => s
  | n + 1, s =>
    match (s.queueAt q).entries with
    | f :: _ =>
      if s.bankLost f then dropLostHeads q n (onRsv (fun r => { r with bankDrop := bump r.bankDrop }) (dropCopy f q flagBankLoss s)) else s
    | [] => s

/-- Drops what reaches the head of a queue whose port is not UP (04_river_ports.md R109). -/
def dropDown (q : Nat) (s : State) : State :=
  if s.queueStopped q then s
  else (s.queueAt q).entries.foldl (fun s f =>
    onPort (q / 8) (fun v => { v with downDrop := bump v.downDrop }) (dropCopy f q flagLinkDown s)) s

/-- Drops everything that waits for a port that is not UP. -/
def dropPort (p : Nat) (s : State) : State :=
  let s1 := (s.egressAt p).fifo.foldl (fun s f =>
    onPort p (fun v => { v with downDrop := bump v.downDrop }) (dropFerry p f flagLinkDown s)) s
  (List.range 8).foldl (fun s t => dropDown (8 * p + t) s) s1

/-! ### Egress selection (R197) -/

/-- The head of a queue may start on its port: its queue is not stopped or paused, both shapers allow it, and it goes cut-through or has
been received whole (R195, R197). -/
def State.headReady (s : State) (p tc : Nat) : Option Nat :=
  let q := 8 * p + tc
  match (s.queueAt q).entries with
  | [] => none
  | f :: _ =>
    let x := s.frameAt f
    if s.queueStopped q || s.pausedFor p tc || !(s.queueAt q).shaper.open || !(s.egressAt p).shaper.open then none
    else if x.ended || s.portRate p ≤ x.rate then some f else none

/-- The waiting ferry frame that may start. -/
def State.ferryReady (s : State) (p : Nat) : Option Nat :=
  match (s.egressAt p).fifo with
  | f :: _ => if s.pausedFor p ((s.frameAt f).lset.getD (0, 0)).2 then none else some f
  | [] => none

/-- The SP queue to serve: the highest traffic class with a frame ready. -/
def State.spReady (s : State) (p : Nat) : Option Nat :=
  [7, 6, 5, 4, 3, 2, 1, 0].find? (fun t => (s.queueAt (8 * p + t)).isSp (8 * p + t) && (s.headReady p t).isSome)

/-- A DRR queue has a frame ready. -/
def State.drrReady (s : State) (p t : Nat) : Bool := !(s.queueAt (8 * p + t)).isSp (8 * p + t) && (s.headReady p t).isSome

/-- Goes round the DRR queues: at each turn QUANTUM is added, and a queue whose deficit is above 0 is served (R197). -/
def drrServe (p : Nat) : Nat → State → State × Option Nat
  | 0, s => (s, none)
  | n + 1, s =>
    let e := s.egressAt p
    let t := e.drrNext
    let q := 8 * p + t
    let next := fun s => onEgress p (fun e => { e with drrNext := (t + 1) % 8, drrFresh := true }) s
    if !s.drrReady p t then drrServe p n (next s)
    else
      let s1 := if e.drrFresh then
          onEgress p (fun e => { e with drrFresh := false }) (onQueue q (fun x => { x with deficit := x.deficit + x.quantum.toNat }) s)
        else s
      if 0 < (s1.queueAt q).deficit then (s1, some t) else drrServe p n (next s1)

/-- Chooses the source of the next frame of a port: the ferry FIFO, an SP queue, a DRR queue (R197). -/
def selectSource (p : Nat) (s : State) : State × Option Nat :=
  match s.ferryReady p with
  | some _ => (s, some ferrySource)
  | none => match s.spReady p with
    | some t => (s, some (8 * p + t))
    | none =>
      if (List.range 8).any (s.drrReady p) then
        let (s1, r) := drrServe p 1300 s
        (s1, r.map (fun t => 8 * p + t))
      else (s, none)

/-- A ferry frame starts on the wire (R189).  One that starts in the safe state is blanked from its first byte (20_sump.md R438, R439). -/
def startFerry (p f te : Nat) (s : State) : State :=
  let x := s.frameAt f
  let spill := x.ferryWait && 4096 < x.len
  let s1 := onFrame f (fun y => { y with onWire := true, sending := y.sending ++ [ferrySource], safeStomp := y.safeStomp || s.sump.safe })
    (leaveFifo p f s)
  let s2 := onRsv (fun r => { r with ferrySpill := if spill then bump r.ferrySpill else r.ferrySpill })
    (onPort p (fun v => { v with ferryFrames := bump v.ferryFrames }) s1)
  stampEgress f ferrySource te 1 p
    (onEgress p (fun e => { e with busy := some (f, ferrySource), blank := if s.sump.safe then some 0 else none }) s2)

/-- The head of a queue starts on the wire. -/
def startQueued (p q f te : Nat) (s : State) : State :=
  stampEgress f q te 1 p (onEgress p (fun e => { e with busy := some (f, q), blank := none }) (takeFrom q f s))

/-- Starts the frame of a chosen source. -/
def startFrom (p src phase : Nat) (s : State) : State :=
  let te := s.egressStamp p phase
  let f := if src = ferrySource then (s.egressAt p).fifo.headD 0 else (s.queueAt src).entries.headD 0
  let x := s.frameAt f
  let tc := if src = ferrySource then (x.lset.getD (0, 0)).2 else src % 8
  let s1 := onEgress p (fun e => { e with since := s.tide.nowFs, te := te })
    (if src = ferrySource then startFerry p f te s else startQueued p src f te s)
  count 0x0052 (frameOcc p x.berth (some tc)) 1 s1

/-- Fills the shapers of a port and its queues, and drops the heads that a failed bank group has lost. -/
def readyPort (p : Nat) (s : State) : State :=
  (List.range 8).foldl (fun s t => dropLostHeads (8 * p + t) (s.queueAt (8 * p + t)).entries.length (fillQueue (8 * p + t) s)) (fillPort p s)

/-- EGRESS_SELECT: at a frame boundary a port starts its next frame (R103, R109, R197).  While its quad drains only a frame already
launched starts (01_order_path.md R40). -/
def execEgressSelect (p : Fin 64) (phase : Fin 32) (s : State) : Result :=
  let v := s.portAt p.val
  if (s.egressAt p.val).busy.isSome then .next s
  else if v.link != 3 && v.resumed && (s.quadAt (p.val / 4)).synth = 0 then .next (dropPort p.val s)
  else if (s.quadAt (p.val / 4)).synth = 1 && s.portUp p.val && (s.ferryReady p.val).isSome then
    .next (startFrom p.val ferrySource phase.val s)
  else if !s.mayStart p.val then .next s
  else
    let s1 := readyPort p.val s
    match selectSource p.val s1 with
    | (s2, some src) => .next (startFrom p.val src phase.val s2)
    | (s2, none) => .next s2

/-! ### The central matcher (R196) -/

/-- Byte time at a rate, fs. -/
def byteTime (rate : Nat) : Nat := if rate = 0 then 800000 else if rate = 1 then 320000 else 80000

/-- Bytes a port has sent of the frame in transmission. -/
def State.sentBytes (s : State) (p : Nat) : Nat := (s.tide.nowFs - (s.egressAt p).since) / byteTime (s.portRate p)

/-- The bank group of the next cell of a port's reservoir frame in transmission. -/
def State.nextRead (s : State) (p : Nat) : Option Nat :=
  match (s.egressAt p).busy with
  | some (f, q) => if q = ferrySource then none else (s.frameAt f).cells[s.sentBytes p / 256]?
  | none => none

/-- The bank groups that a quay requests. -/
def State.requests (s : State) (n : Nat) : List Nat := (List.range 4).filterMap (fun i => s.nextRead (4 * n + i))

/-- The first of n in rotation from a pointer that satisfies a test. -/
def rotateFind (n start : Nat) (p : Nat → Bool) : Option Nat := ((List.range n).map (fun i => (start + i) % n)).find? p

/-- MATCHER_ROUND: request, grant, accept; the pointers advance on the acceptances of the first iteration. -/
def execMatcherRound (s : State) : Result :=
  let r := s.rsv
  let granted := fun g => rotateFind 16 (Tab.look 0 r.grant g) (fun n => (s.requests n).contains g)
  let accepts := (List.range 16).filterMap (fun n =>
    (rotateFind 32 (Tab.look 0 r.accept n) (fun g => granted g == some n)).map (fun g => (n, g)))
  let step := fun (r : Rsv) (a : Nat × Nat) =>
    { r with grant := Tab.put 0 r.grant a.2 ((a.1 + 1) % 16), accept := Tab.put 0 r.accept a.1 ((a.2 + 1) % 32) }
  .next (count 0x0051 {} 1 (onRsv (fun r => accepts.foldl step r) s))

/-! ### The end of a transmission (R25, R27, R33, R198, 02_tide_gauge.md R51) -/

/-- The PTP instance of a port is a transparent clock. -/
def State.isTransparent (s : State) (p tr : Nat) : Bool :=
  match s.tide.instOf p with
  | some i => (s.ptpAt i).ctype == 3 && (s.ptpAt i).transport.toNat == tr
  | none => false

/-- A one's-complement update of a 16-bit field: old words out, new words in. -/
def adjustSum (field : Nat) (old new : List Byte) : Nat := onesSum (beBytes 2 field ++ old ++ new.map (fun x => ~~~x)) 0

/-- A PTP event message with its residence time added to correctionField, its UDP checksum set to 0 or its trailer adjusted, and its FCS
rewritten (02_tide_gauge.md R51). -/
def addResidence (b : List Byte) (res : Nat) (good : Bool) : List Byte :=
  match ptpPayload b with
  | none => b
  | some (tr, m) =>
    let o := b.length - m.length
    let old := sliceBytes b (o + 8) 8
    let new := beBytes 8 (unsignedOf 64 (ptpCorr m + res))
    let b1 := overwrite b (o + 8) new
    let t := o + fieldBe b (o - 4) 2 - 10
    let b2 := if tr = 1 then overwrite b1 (o - 2) [0, 0]
      else if tr = 2 then overwrite b1 t (beBytes 2 (adjustSum (fieldBe b t 2) old new))
      else b1
    let body := b2.take (b2.length - 4)
    if good then body ++ fcsOf body else stomped b2

/-- The frame lost a cell to a failed bank group while it was in transmission (R202, R203). -/
def Frame.spoiled (x : Frame) : Bool := x.flags &&& flagBankLoss != 0

/-- The bytes of a frame as they leave on a port. -/
def State.sentAs (s : State) (p f q : Nat) : List Byte :=
  let x := s.frameAt f
  let b := if q ≠ ferrySource && x.ptpEvent && s.isTransparent p ((ptpPayload x.bytes).map Prod.fst |>.getD 9) then
      addResidence x.bytes (((s.egressAt p).te - x.ts) * 1024) (!x.fcsBad)
    else x.bytes
  match (s.egressAt p).blank with
  | some n => stomped (b.take n ++ zeros (b.length - n))
  | none => if (q = ferrySource && x.stomp != 0) || x.spoiled || (x.fcsBad && fcsGood b) then stomped b else b

/-- Charges a transmission that ended: the shapers, and for a queue its QTX and its deficit (R190, R197, R198). -/
def chargeSent (p f q : Nat) (s : State) : State :=
  let x := s.frameAt f
  if q = ferrySource then chargeFor (8 * p + (x.lset.getD (0, 0)).2) x.len s
  else onQueue q (fun y => { y with tx := bump y.tx, deficit := if y.entries = [] then 0 else y.deficit - x.len }) (chargeFor q x.len s)

/-- A port's transmission ends: the bytes have left, and the frame's copy ends. -/
def endTransmission (p f q : Nat) (s : State) : State :=
  let s1 := if q = ferrySource then decide1 f s else s
  let b := s1.sentAs p f q
  let s2 := chargeSent p f q (emit (.wire p b) s1)
  let s3 := onPort p (fun v => { v with txFrames := bump v.txFrames, txBytes := bumpBy v.txBytes b.length }) s2
  copyEnds f q (onEgress p (fun e => { e with busy := none, blank := none }) s3)

/-! ### Bank groups (R203) -/

/-- A frame reads cells of a bank group in its transmission: from a queue, or as a ferry spill. -/
def Frame.reads (x : Frame) (g : Nat) : Bool :=
  (x.sending.any (· ≠ ferrySource) && x.cells.contains g)
  || (x.sending.contains ferrySource && x.ferryWait && (x.cells.drop 16).contains g)

/-- A transmission reads reservoir cells: of a frame from a queue, or of the spill of a ferry frame that waited (R189, R202). -/
def Frame.readsCells (x : Frame) (q : Nat) : Bool := q != ferrySource || (x.ferryWait && 4096 < x.len)

/-- A transmission has read an uncorrectable cell: the frame ends with a wrong FCS (R202). -/
def spoilFrame (f : Nat) (s : State) : State :=
  onRsv (fun r => { r with eccUncorr := if (s.frameAt f).isOrder then bump r.eccUncorr else r.eccUncorr }) (addFlags f flagBankLoss s)

/-- What the ECC of the cells that a transmission reads reports (R202). -/
def cellEcc (f q : Nat) (err : EccErr) (s : State) : State :=
  if !(s.frameAt f).readsCells q then s
  else match err with
    | .ok => s
    | .corrected => onRsv (fun r => { r with eccCorr := bump r.eccCorr }) s
    | .uncorrectable => spoilFrame f s

/-- The frames in transmission that a failed bank group spoils leave with a wrong FCS. -/
def spoilFrames (g : Nat) (s : State) : State :=
  (s.frames.filter (fun e => e.2.reads g)).foldl (fun s e => spoilFrame e.1 s) s

/-- The guarantees no longer fit in the cells in service: every berth then draws from the shared pool. -/
def checkGuar (s : State) : State :=
  let r := s.rsv
  if !r.guarShort && r.capacity - 8192 < r.guarSum then raise 13 1 0 0 0 none (onRsv (fun r => { r with guarShort := true }) s) else s

/-- BANK_GROUP_FAIL: a bank group leaves service. -/
def execBankGroupFail (g : Fin 32) (_cause : BankFault) (s : State) : Result :=
  if !s.rsv.banks.getLsbD g.val then .next s
  else
    let s1 := onRsv (fun r => { r with banks := r.banks &&& ~~~(BitVec.ofNat 32 (2 ^ g.val)) }) s
    .next (checkGuar (raise 13 0 g.val 0 0 none (spoilFrames g.val s1)))

/-! ### Settling, records and holds -/

/-- A port's frames wait for its quad's settling to end (04_river_ports.md R103, R104). -/
def State.settling (s : State) (p : Nat) : Bool := (s.quadAt (p / 4)).synth != 0 || !(s.portAt p).resumed

/-- SETTLE_LIMIT_DROP: what a frame has queued for settling quads is dropped (04_river_ports.md R104). -/
def execSettleLimitDrop (f : Nat) (s : State) : Result :=
  let x := s.frameAt f
  let eg := (x.lset.getD (0, 0)).1
  let s1 := if x.queued.contains ferrySource && s.settling eg then
      onPort eg (fun v => { v with settleDrop := bump v.settleDrop }) (dropFerry eg f flagSettle s)
    else s
  .next ((x.queued.filter (fun q => q < 512 && s.settling (q / 8))).foldl (fun s q =>
    onPort (q / 8) (fun v => { v with settleDrop := bump v.settleDrop }) (dropCopy f q flagSettle s)) s1)

/-- ORDER_RECORD: the record of an order-bearing frame whose fate is final is appended to its berth's chain (R37, 15_ledger.md R343). -/
def execOrderRecord (f : Nat) (s : State) : Result :=
  let x := s.frameAt f
  if !s.hasFrame f || !x.fate || !x.isOrder then .next s
  else .next (dropFrame f (appendOrder x.berth (x.slot == 1) x.record s))

/-- HOLD_TIMEOUT: a held frame is rejected with HOLD_EXPIRED (10_weir_windlass.md R238). -/
def execHoldTimeout (f : Nat) (s : State) : Result :=
  if s.hasFrame f && (s.frameAt f).holdId.isSome then .next (rejectHeld f 0x12 s) else .next s

end Sys2Proof.Machine
end

