-- ==== Sys2Proof/Machine/Queueing.lean ====
section
/-! DEFINITION. The queueing commands on the ferry gate, the quotas, the queues, the shapers and the thresholds (08_ferry_reservoir.md
Tables 08.5 and 08.6). -/

namespace Sys2Proof.Machine

/-- A mailbox command's request may name any berth: the codes 0 to 15. -/
def berthOk (rq : Req) (off : Nat) : Bool := rq.u8 off < 16

/-! ### The ferry gate (R186, R212) -/

/-- The entry a queueing.ferry_write request spells. -/
def ferryEntryOf (rq : Req) : FerryEntry :=
  { valid := true, inPort := BitVec.ofNat 8 (rq.u8 4), egPort := BitVec.ofNat 8 (rq.u8 5), tc := BitVec.ofNat 8 (rq.u8 6),
    proto := BitVec.ofNat 8 (rq.u8 7), dmac := rq.bytes 8 6, vlan := BitVec.ofNat 16 (rq.u16 14), l4port := BitVec.ofNat 16 (rq.u16 16),
    l4any := rq.u8 18 == 1 }

/-- Its fields lie in their ranges (Tables 08.3, 08.6). -/
def ferryFieldsOk (rq : Req) : Bool :=
  rq.u8 4 < 64 && rq.u8 5 < 64 && rq.u8 4 != rq.u8 5 && rq.u8 6 < 8 && rq.u8 18 ≤ 1
  && (rq.u8 18 == 1 || rq.u8 7 == 6 || rq.u8 7 == 17) && (rq.u16 14 ≤ 4094 || rq.u16 14 == 0xFFFF)

/-- INDEX lies in the berth's range. -/
def State.inFerryRange (s : State) (b i : Nat) : Bool := (s.rsvB b).fbase ≤ i && i < (s.rsvB b).fbase + (s.rsvB b).fsize

/-- A berth owns a port, whole or by a share. -/
def State.hasPort (s : State) (b p : Nat) : Bool := (s.ownerAt p).whole == some b || (s.ownerAt p).shares.any (fun x => x.berth == b)

/-- Adds or replaces an entry, keeping its launch set at one egress port and TC and at most 8 entries. -/
def addFerry (rq : Req) (s : State) : Reply :=
  let b := rq.u8 0
  let i := rq.u16 2
  let e := ferryEntryOf rq
  let peers := (s.launchSet b (rq.u8 4) e.dmac).filter (· ≠ i)
  if !ferryFieldsOk rq then .err .badParam
  else if !s.hasPort b (rq.u8 4) || !s.mayUsePort b (rq.u8 5) (rq.u8 6) then .err .noPerm
  else if peers.any (fun j => let x := Tab.look {} s.rsv.ferry j; x.egPort != e.egPort || x.tc != e.tc) then .err .badParam
  else if 8 ≤ peers.length then .err .noResource
  else .ok (onRsv (fun r => { r with ferry := Tab.put {} r.ferry i e }) s) []

/-- QUEUEING_FERRY_WRITE (R186). -/
def execQueueingFerryWrite (rq : Req) (s : State) : Result :=
  .next (serve (cmdOwn 0x0801 24 0) rq (fun s =>
    if !berthOk rq 0 || 1 < rq.u8 1 || !s.inFerryRange (rq.u8 0) (rq.u16 2) then .err .badParam
    else if rq.u8 1 = 1 then .ok (onRsv (fun r => { r with ferry := Tab.del r.ferry (rq.u16 2) }) s) []
    else addFerry rq s) s)

/-! ### Quotas (R186, R191) -/

/-- Two ranges overlap. -/
def overlaps (b1 n1 b2 n2 : Nat) : Bool := 0 < n1 && 0 < n2 && b1 < b2 + n2 && b2 < b1 + n1

/-- QUEUEING_QUOTA: the entries of the old range that fall outside the new one are removed. -/
def execQueueingQuota (rq : Req) (s : State) : Result :=
  .next (serve (cmdH 0x0802 16) rq (fun s =>
    let b := rq.u8 0
    let base := rq.u16 2
    let size := rq.u16 4
    let others := (List.range 16).filter (· ≠ b)
    if !berthOk rq 0 || 8191 < base || 8192 < base + size || 253952 < rq.u32 8 || 262144 < rq.u32 12 then .err .badParam
    else if others.any (fun o => overlaps base size (s.rsvB o).fbase (s.rsvB o).fsize)
        || 253952 < (others.map (fun o => (s.rsvB o).guar)).foldl (· + ·) (rq.u32 8) then .err .noResource
    else
      let old := s.rsvB b
      let keep := fun (i : Nat) (_ : FerryEntry) => !(old.fbase ≤ i && i < old.fbase + old.fsize) || (base ≤ i && i < base + size)
      let s1 := onRsv (fun r => { r with ferry := Tab.keep keep r.ferry }) s
      .ok (checkGuar (onRsvB b (fun q => { q with fbase := base, fsize := size, guar := rq.u32 8, max := rq.u32 12 }) s1)) []) s)

/-! ### Queues and shapers (R197 to R201, R206) -/

/-- A berth's own queues: of each port and TC it owns, and its host receive queues (09_berths.md Table 09.1). -/
def State.ownsQueue (s : State) (b q : Nat) : Bool :=
  if q < 512 then s.ownsPort b (q / 8) (q % 8) else hostQueue b 0 ≤ q && q ≤ hostQueue b 3

/-- A request names a queue of the berth itself, or a number that is no queue. -/
def ownQueue (s : State) (b : Nat) (rq : Req) : Bool := 656 ≤ rq.u16 0 && rq.u16 0 < 0x8000 || s.ownsQueue b (rq.u16 0)

/-- Applies a queueing.queue_config request. -/
def setQueue (rq : Req) (s : State) : State :=
  let q := rq.u16 0
  onQueue q (fun x => { x with
    sp := if q < 512 then some (rq.u8 2 == 0) else x.sp, safeStop := some (rq.u8 3 == 1),
    quantum := BitVec.ofNat 32 (rq.u32 4), qmax := BitVec.ofNat 32 (rq.u32 8) }) s

/-- A shaper with new settings: debt refills at the new RATE or is forgiven; a positive level is capped at BURST; the first enabling starts
at BURST (R199, R205). -/
def Shaper.configure (x : Shaper) (on forgive : Bool) (rate burst overhead speed : Nat) : Shaper :=
  let cap : Int := burst * 256
  let changed := (x.rate.map BitVec.toNat).getD speed != rate
  let lvl := if on && !x.everOn then cap else if forgive && changed && x.level < 0 then 0 else min x.level cap
  { x with enabled := on, everOn := x.everOn || on, rate := some (BitVec.ofNat 32 rate), burst := BitVec.ofNat 32 burst,
           overhead := BitVec.ofNat 8 overhead, level := lvl }

/-- Speed of the target of a queueing.shaper request. -/
def State.targetSpeed (s : State) (target : Nat) : Nat :=
  if target < 656 then s.queueSpeed target else portSpeed (s.portRate (target - 0x8000))

/-- Applies a queueing.shaper request. -/
def setShaper (rq : Req) (s : State) : State :=
  let t := rq.u16 0
  let g := fun (x : Shaper) => x.configure (rq.u8 2 == 1) (rq.u8 3 == 1) (rq.u32 4) (rq.u32 8) (rq.u8 12) (s.targetSpeed t)
  if t < 656 then onQueue t (fun x => { x with shaper := g x.shaper }) (fillQueue t s)
  else onEgress (t - 0x8000) (fun e => { e with shaper := g e.shaper }) (fillPort (t - 0x8000) s)

/-- A command on a river port's queue or shaper takes effect at the port's next frame boundary, and is answered then (R206). -/
def atBoundary (port : Option Nat) (shaper : Bool) (rq : Req) (s : State) : Reply :=
  let now := Reply.ok (if shaper then setShaper rq s else setQueue rq s) []
  match port with
  | none => now
  | some p =>
    if (s.egressAt p).busy.isNone then now
    else .later (onRsv (fun r => { r with deferred := r.deferred ++ [(p, shaper, rq)] }) s)

/-- QUEUEING_QUEUE_CONFIG: SAFE_STOP is the harbour's; a berth's request must leave it as it is. -/
def execQueueingQueueConfig (rq : Req) (s : State) : Result :=
  .next (serve { cmdHB 0x0803 12 with own := ownQueue } rq (fun s =>
    let q := rq.u16 0
    if 656 ≤ q || 1 < rq.u8 2 || 1 < rq.u8 3 || rq.u32 4 < 64 || 1048576 < rq.u32 4 || 262144 < rq.u32 8 then .err .badParam
    else if !isHarbour s rq && (rq.u8 3 == 1) != (s.queueAt q).isSafeStop q then .err .noPerm
    else atBoundary (if q < 512 then some (q / 8) else none) false rq s) s)

/-- QUEUEING_SHAPER (R199). -/
def execQueueingShaper (rq : Req) (s : State) : Result :=
  .next (serve { cmdHB 0x0804 16 with own := ownQueue } rq (fun s =>
    let t := rq.u16 0
    if (656 ≤ t && t < 0x8000) || 0x8040 ≤ t || 1 < rq.u8 2 || 1 < rq.u8 3 || s.targetSpeed t < rq.u32 4 || rq.u32 8 < 64
        || 1048576 < rq.u32 8 || 32 < rq.u8 12 then .err .badParam
    else atBoundary (if t < 512 then some (t / 8) else if t < 656 then none else some (t - 0x8000)) true rq s) s)

/-- QUEUEING_PAUSE_THRESH (R200). -/
def execQueueingPauseThresh (rq : Req) (s : State) : Result :=
  .next (serve (cmdH 0x0805 12) rq (fun s =>
    let p := rq.u8 0
    let k := if rq.u8 1 = 0xFF then 8 else rq.u8 1
    if 63 < p || (7 < rq.u8 1 && rq.u8 1 ≠ 0xFF) || rq.u32 4 = 0 || 262144 < rq.u32 4 || rq.u32 4 ≤ rq.u32 8 then .err .badParam
    else .ok (pauseCheck p (if k = 8 then 0 else k) (onEgress p (fun e =>
      { e with xoff := Tab.put 1024 e.xoff k (BitVec.ofNat 32 (rq.u32 4)), xon := Tab.put 768 e.xon k (BitVec.ofNat 32 (rq.u32 8)) }) s)) []) s)

/-- The berths a status command reports to a function: all, or its own (R206). -/
def State.statusBerths (s : State) (rq : Req) : List Nat :=
  match s.role rq.fn.val with
  | .berth b => [b]
  | _ => List.range 16

/-- QUEUEING_STATUS: the two RSV registers, then each berth's ferry range, quota and cells held (R206). -/
def execQueueingStatus (rq : Req) (s : State) : Result :=
  .next (serve (cmdHBA 0x0806 0) rq (fun s =>
    let one := fun b =>
      let q := s.rsvB b
      leBytes 2 q.fbase ++ leBytes 2 q.fsize ++ leBytes 4 q.guar ++ leBytes 4 q.max ++ leBytes 4 q.held
    .ok s (leBytes 4 s.rsv.inService.toNat ++ leBytes 4 s.rsv.free ++ ((s.statusBerths rq).map one).flatten)) s)

/-- The commands that waited for a port's frame boundary take effect and are answered (R206). -/
def applyDeferred (p : Nat) (s : State) : State :=
  let mine := s.rsv.deferred.filter (fun d => d.1 == p)
  let s1 := onRsv (fun r => { r with deferred := r.deferred.filter (fun d => d.1 != p) }) s
  mine.foldl (fun s d => finish d.2.2.fn.val (if d.2.1 then 0x0804 else 0x0803) .ok [] (if d.2.1 then setShaper d.2.2 s else setQueue d.2.2 s)) s1

/-- EGRESS_FRAME_END: a port's transmission ends (R198); its cells' ECC has been checked as they were read (R202). -/
def execEgressFrameEnd (p : Fin 64) (err : EccErr) (s : State) : Result :=
  match (s.egressAt p.val).busy with
  | none => .next s
  | some (f, q) => .next (applyDeferred p.val (endTransmission p.val f q (cellEcc f q err s)))

end Sys2Proof.Machine
end

