-- ==== Sys2Proof/Machine/Pumps.lean ====
section
/-! DEFINITION. The pump commands, the hitless patch, and the engines' failures (05_pumps.md R124 to R139). -/

namespace Sys2Proof.Machine

/-! ### Registers (Table 05.8) -/

/-- PUMP_ROTATION. -/
def pumpRotationWord (s : State) : Nat :=
  maskOf 16 (fun e => (s.engineAt e).inRotation) + 65536 * maskOf 16 (fun e => (s.engineAt e).failed)

/-- NEWGEN. -/
def State.newGen (s : State) : Nat := maskOf 16 (fun e => (s.engineAt e).newest)

/-- PUMP_GEN. -/
def pumpGenWord (s : State) : Nat :=
  wordOf [(s.newGen, 0), (s.pump.gen.toNat, 16), (bitNat !s.pump.patchLeft.isEmpty, 24), (bitNat s.fuse.patchLock, 25),
    (bitNat s.pump.lockUsed, 26)]

/-! ### Settings (R117, R124, R127) -/

/-- Changes the pump settings of berth b. -/
def onPumpB (b : Nat) (g : PumpB → PumpB) (s : State) : State := onPump (fun p => { p with berth := Tab.upd {} p.berth b g }) s

/-- PUMP_SET_PROFILE (R117). -/
def execPumpSetProfile (rq : Req) (s : State) : Result :=
  .next (serve (cmdH 0x0503 8) rq (fun s =>
    if !berthOk rq 0 || 1 < rq.u8 1 || 16383 < rq.u16 2 then .err .badParam
    else if !s.berthExists (rq.u8 0) then .err .state
    else .ok (onPumpB (rq.u8 0) (fun x => { x with enable := rq.u8 1 == 1, entry := BitVec.ofNat 14 (rq.u16 2) }) s) []) s)

/-- A mirror destination that a berth may name: its own ring, or a port it may use on some traffic class (09_berths.md R212). -/
def State.mayMirror (s : State) (b m : Nat) : Bool := m / 256 == 1 || (List.range 8).any (s.mayUsePort b (m % 256))

/-- PUMP_SET_ACTION (R124). -/
def execPumpSetAction (rq : Req) (s : State) : Result :=
  .next (serve (cmdOwn 0x0504 8 0) rq (fun s =>
    let b := rq.u8 0
    let c := rq.u8 1
    let m := rq.u16 4
    let kindBad := 1 < m / 256 || (m / 256 = 0 && 63 < m) || (m / 256 = 1 && 3 < m % 256)
    if !berthOk rq 0 || c = 0 || 8 < c || 3 < rq.u8 2 || (rq.u8 2 = 3 && kindBad) then .err .badParam
    else if !s.berthExists b then .err .state
    else if rq.u8 2 = 3 && !s.mayMirror b m then .err .noPerm
    else .ok (onPumpB b (fun x =>
      { x with action := Tab.put 0 x.action c (BitVec.ofNat 2 (rq.u8 2)), mirror := Tab.put 0 x.mirror c (BitVec.ofNat 16 m) }) s) []) s)

/-- PUMP_FRAG_CONFIG (R127). -/
def execPumpFragConfig (rq : Req) (s : State) : Result :=
  .next (serve (cmdH 0x0505 4) rq (fun s =>
    if 1000000 < rq.u32 0 then .err .badParam else .ok (onPump (fun p => { p with fragAge := BitVec.ofNat 32 (rq.u32 0) }) s) []) s)

/-- PUMP_STATUS: the two registers, then each engine's generation and digest (R139). -/
def execPumpStatus (rq : Req) (s : State) : Result :=
  .next (serve (cmdHBA 0x0506 0) rq (fun s =>
    let one := fun e => [(s.engineAt e).gen, 0, 0, 0] ++ padTo 32 (s.engineAt e).digest
    .ok s (leBytes 4 (pumpRotationWord s) ++ leBytes 4 (pumpGenWord s) ++ ((List.range 16).map one).flatten)) s)

/-- PUMP_LOCK_PATCH: PATCH_LOCK is burned (R136, R139). -/
def execPumpLockPatch (rq : Req) (s : State) : Result :=
  .next (serve (cmdH 0x0508 4) rq (fun s =>
    if rq.u32 0 ≠ 0x50415443 then .err .badParam
    else if s.fuse.patchLock then .err .state
    else .ok { s with fuse := { s.fuse with patchLock := true } } []) s)

/-! ### Images (R138) -/

/-- PUMP_STAGE: a chunk of the image enters the staging area. -/
def execPumpStage (rq : Req) (s : State) : Result :=
  .next (serve { cmdH 0x0501 8 with len := fun p => 8 + fieldLe p 4 2 } rq (fun s =>
    let n := rq.u16 4
    if n = 0 || 4072 < n || 74000 < rq.u32 0 + n then .err .badParam
    else if s.pump.patchLeft ≠ [] then .err .busy
    else .ok (onPump (fun p => { p with staging := Tab.putAll 0 p.staging (rq.u32 0) (rq.bytes 8 n), staged := true }) s) []) s)

/-- Bytes of an image. -/
def imgBytes (t : Tab (BitVec 8)) (off n : Nat) : List Byte := Tab.run 0 t off n

/-- The measured digest of an image (R138). -/
def imageDigest (t : Tab (BitVec 8)) : List Byte := sha256 (imgBytes t 0 73728)

/-- Nano-word n of an image. -/
def imageNano (t : Tab (BitVec 8)) (n : Nat) : BitVec 192 := BitVec.ofNat 192 (leNat (imgBytes t (49152 + 24 * n) 24))

/-- The words an image holds, of a store of n words. -/
def storeOf {w : Nat} (n : Nat) (word : Nat → BitVec w) : Tab (BitVec w) :=
  ((List.range n).map (fun i => (i, word i))).filter (fun e => e.2 != 0)

/-- A nano-word of the image has a nonzero reserved field (Table 05.3 [39:0]). -/
def nanoReservedUsed (t : Tab (BitVec 8)) : Bool :=
  (List.range 1024).any (fun n => nanoField (imageNano t n) 39 0 != 0)

/-- The first engine still to be patched stops taking header copies and drains (R130). -/
def beginDrain (s : State) : State :=
  match s.pump.patchLeft with
  | e :: _ => onEngine e (fun x => { x with patching := true }) s
  | [] => s

/-- The patch has ended: PUMP_PATCH_DONE is posted (R139). -/
def donePatch (s : State) : State :=
  if s.pump.patchLeft = [] then postEvent 0 0x0501 ([s.pump.gen, 0] ++ leBytes 2 s.newGen) s else s

/-- The patch named by a commit starts: the staged image becomes the current one, with its generation; engines that have failed are not
patched. -/
def startPatch (engines gen : Nat) (s : State) : State :=
  let left := (setBits 16 engines).filter (fun e => !(s.engineAt e).failed)
  let s1 := onPump (fun p => { p with
    gen := BitVec.ofNat 8 gen, patchImg := p.staging, patchDigest := imageDigest p.staging, patchLeft := left, patchLoaded := false,
    lockUsed := p.lockUsed || s.fuse.patchLock }) s
  donePatch (beginDrain ((List.range 16).foldl (fun s e => onEngine e (fun x => { x with newest := false }) s) s1))

/-- PUMP_COMMIT: the staged image is checked and the patch begins (R130, R136, R139). -/
def execPumpCommit (rq : Req) (s : State) : Result :=
  .next (serve (cmdH 0x0502 40) rq (fun s =>
    if s.fuse.patchLock && s.pump.lockUsed then .err .noPerm
    else if !s.pump.staged || imageDigest s.pump.staging != rq.bytes 0 32 || rq.u16 32 = 0 || rq.u8 34 == s.pump.gen.toNat
        || nanoReservedUsed s.pump.staging then .err .badParam
    else if s.pump.patchLeft ≠ [] then .err .busy
    else .ok (startPatch (rq.u16 32) (rq.u8 34) s) []) s)

/-- An engine loads the current image. -/
def loadEngine (e : Nat) (s : State) : State :=
  let t := s.pump.patchImg
  onEngine e (fun x => { x with
    micro := storeOf 16384 (fun i => BitVec.ofNat 20 (leNat (imgBytes t (3 * i) 3))), nano := storeOf 1024 (imageNano t),
    microBad := [], nanoBad := [], gen := s.pump.gen, digest := s.pump.patchDigest, newest := true }) s

/-! ### Failures (R133, R134) -/

/-- The code of a failure (R133). -/
def pumpCause : PumpFault → Nat
  | .microParity _ => 1
  | .nanoParity _ => 2
  | .readBack => 3
  | .selfCheck => 4

/-- A frame of a failed engine is reparsed on another engine, or waits in the holding buffer ahead of new header copies, also when no
engine remains in rotation (R115, R134, R135). -/
def reparse (f : Nat) (s : State) : State :=
  let s1 := onPump (fun p => { p with reparsed := bump p.reparsed }) (onFrame f (fun x => { x with reparsed := true, engine := none }) s)
  match s1.chooseEngine with
  | some e => giveContext f e s1
  | none =>
    if s1.pump.holding.length < 32 then
      let waits := fun g => (s1.frameAt g).reparsed
      onPump (fun p => { p with holding := p.holding.takeWhile waits ++ f :: p.holding.dropWhile waits }) s1
    else neverParsed f s1

/-- The engine leaves the patch, which goes on with the next engine. -/
def leavePatch (e : Nat) (s : State) : State :=
  if !s.pump.patchLeft.contains e then s
  else
    let first := s.pump.patchLeft.head? == some e
    let s1 := onPump (fun p => { p with patchLeft := p.patchLeft.erase e, patchLoaded := if first then false else p.patchLoaded }) s
    if first then beginDrain s1 else s1

/-- An engine fails: it leaves rotation, PUMP_FAIL is raised, and its uncommitted frames are reparsed. -/
def failEngine (e cause : Nat) (s : State) : State :=
  let fs := (s.engineAt e).ctx
  let s1 := onEngine e (fun x => { x with inRotation := false, failed := true, patching := false, ctx := [] }) s
  let s2 := leavePatch e (raise 10 0 e cause 0 none s1)
  let s3 := fs.foldl (fun s f => reparse f s) s2
  if s.pump.patchLeft.contains e then donePatch s3 else s3

/-- PUMP_FAIL: an engine fails on parity, on read-back or on its self-check (R133). -/
def execPumpFail (e : Fin 16) (kind : PumpFault) (s : State) : Result :=
  if (s.engineAt e.val).failed then .next s
  else
    let s1 := onEngine e.val (fun x => match kind with
      | .microParity a => { x with microBad := Tab.put false x.microBad a.val true }
      | .nanoParity a => { x with nanoBad := Tab.put false x.nanoBad a.val true }
      | _ => x) s
    .next (failEngine e.val (pumpCause kind) s1)

/-- The next engine in rotation to run the golden header. -/
def State.goldenEngine (s : State) : Option Nat :=
  ((List.range 16).map (fun i => (s.pump.selfNext + i) % 16)).find? (fun e =>
    (s.engineAt e).inRotation && (s.engineAt e).ctx.length < 8 && (s.engineAt e).digest ≠ [])

/-- GOLDEN_SELF_CHECK: every 1 ms the golden header runs through the next engine (R133); an engine with empty stores has none. -/
def execGoldenSelfCheck (crcOk : Bool) (s : State) : Result :=
  match s.goldenEngine with
  | none => .next s
  | some e =>
    let s1 := onPump (fun p => { p with selfNext := (e + 1) % 16, selfCheck := bump p.selfCheck }) s
    .next (if crcOk then s1 else failEngine e 4 s1)

/-- PUMP_ENGINE_CTL: an engine leaves rotation, or is reloaded, tested and readmitted (R135). -/
def execPumpEngineCtl (rq : Req) (checksOk : Bool) (s : State) : Result :=
  .next (serve (cmdH 0x0507 4) rq (fun s =>
    let e := rq.u8 0
    if 15 < e || 1 < rq.u8 1 then .err .badParam
    else if s.pump.patchLeft.contains e then .err .busy
    else if rq.u8 1 = 0 then
      (if !(s.engineAt e).inRotation || ((List.range 16).filter (fun i => (s.engineAt i).inRotation)).length ≤ 1 then .err .state
       else .ok (onEngine e (fun x => { x with inRotation := false }) s) [])
    else if (s.engineAt e).inRotation then .err .state
    else if !(s.engineAt e).ctx.isEmpty then .err .busy
    else if checksOk then .ok (onEngine e (fun x => { x with inRotation := true, failed := false }) (loadEngine e s)) []
    else .failed (loadEngine e s) .hwFault []) s)

/-! ### The patch (R130, R131) -/

/-- INFO of an engine's CONFIG record (15_ledger.md Table 15.3). -/
def microInfo (e gen : Nat) : Nat := 1 + 256 * e + 65536 * gen

/-- Every chain has accepted the CONFIG record of an engine. -/
def State.configWritten (s : State) (info : Nat) : Bool := !s.ledg.chain.any (fun e => e.2.active && e.2.awaits info)

/-- The engine being patched returns to rotation once its records are written, and the next one drains. -/
def readmitPatched (e : Nat) (s : State) : State :=
  if !s.configWritten (microInfo e s.pump.gen.toNat) then s
  else
    let s1 := onEngine e (fun x => { x with inRotation := true, patching := false }) s
    donePatch (beginDrain (onPump (fun p => { p with patchLeft := p.patchLeft.erase e, patchLoaded := false }) s1))

/-- PATCH_ENGINE_LOAD: a drained engine loads the image, is checked, has its records written, and returns to rotation (R130). -/
def execPatchEngineLoad (checksOk : Bool) (s : State) : Result :=
  match s.pump.patchLeft with
  | [] => .next s
  | e :: _ =>
    if s.pump.patchLoaded then .next (readmitPatched e s)
    else if (s.engineAt e).ctx ≠ [] then .next s
    else if !checksOk then .next (failEngine e 3 (loadEngine e s))
    else
      let s1 := onPump (fun p => { p with patchLoaded := true }) (loadEngine e s)
      .next (readmitPatched e (appendAll 4 0 (microInfo e s1.pump.gen.toNat) s1.pump.patchDigest s1))

/-- PUMP_PATCH_STALL: a CONFIG record not accepted within 10 ms stops the patch, with that engine out of rotation (R131). -/
def execPumpPatchStall (s : State) : Result :=
  match s.pump.patchLeft with
  | [] => .next s
  | e :: _ =>
    if !s.pump.patchLoaded || s.configWritten (microInfo e s.pump.gen.toNat) then .next s
    else
      let s1 := onEngine e (fun x => { x with inRotation := false, patching := false }) s
      let s2 := onPump (fun p => { p with patchLeft := [], patchLoaded := false }) s1
      .next (postEvent 0 0x0502 ([s2.pump.gen, 0] ++ leBytes 2 s2.newGen) (raise 10 2 e 0 0 none s2))

end Sys2Proof.Machine
end

