-- ==== Sys2Proof/Machine/RdmaPkt.lean ====
section
/-! DEFINITION. RDMA packets: their bytes, their frames on a river port, and how the engines put them out (14_remote_memory.md R312, R313). -/

namespace Sys2Proof

/-- The opcode carries a RETH. -/
def RdmaPkt.hasReth (p : RdmaPkt) : Bool := p.op == 0x06 || p.op == 0x0A || p.op == 0x0B || p.op == 0x0C

/-- The opcode carries an AETH. -/
def RdmaPkt.hasAeth (p : RdmaPkt) : Bool := p.op == 0x0D || p.op == 0x0F || p.op == 0x10 || p.op == 0x11

/-- The opcode carries immediate data. -/
def RdmaPkt.hasImm (p : RdmaPkt) : Bool := p.op == 0x09 || p.op == 0x0B

/-- The opcode is a response: an acknowledgement or a READ response. -/
def RdmaPkt.isResponse (p : RdmaPkt) : Bool := 0x0D ≤ p.op && p.op ≤ 0x11

/-- Pad bytes of a payload. -/
def padCount (n : Nat) : Nat := (4 - n % 4) % 4

/-- A packet from its BTH onward, without the ICRC. -/
def RdmaPkt.bytes (p : RdmaPkt) : List Byte :=
  let pad := padCount p.payload.length
  [BitVec.ofNat 8 p.op, BitVec.ofNat 8 (128 * bitNat p.solicited + 16 * pad)] ++ beBytes 2 p.pkey ++ [BitVec.ofNat 8 (64 * bitNat p.becn)]
    ++ beBytes 3 p.qpn ++ [BitVec.ofNat 8 (128 * bitNat p.ackReq)] ++ beBytes 3 p.psn
    ++ (if p.hasReth then beBytes 8 p.va ++ beBytes 4 p.rkey ++ beBytes 4 p.dlen else [])
    ++ (if p.hasAeth then BitVec.ofNat 8 p.syndrome :: beBytes 3 p.msn else [])
    ++ (if p.hasImm then beBytes 4 p.imm else []) ++ p.payload ++ zeros pad

/-- The packet that bytes from the BTH onward spell. -/
def parseRdma (b : List Byte) (ce : Bool) : RdmaPkt :=
  let h : RdmaPkt := {
    op := byteAt b 0, solicited := bitOf (byteAt b 1) 7, pkey := fieldBe b 2 2, becn := bitOf (byteAt b 4) 6,
    qpn := fieldBe b 5 3, ackReq := bitOf (byteAt b 8) 7, psn := fieldBe b 9 3, ce := ce }
  let o := 12 + (if h.hasReth then 16 else 0)
  let a := o + (if h.hasAeth then 4 else 0)
  let i := a + (if h.hasImm then 4 else 0)
  let rest := b.drop i
  { h with va := fieldBe b 12 8, rkey := fieldBe b 20 4, dlen := fieldBe b 24 4, syndrome := byteAt b o, msn := fieldBe b (o + 1) 3,
           imm := fieldBe b a 4, payload := rest.take (rest.length - byteAt b 1 / 16 % 4) }

end Sys2Proof

namespace Sys2Proof.Machine

/-- Changes the RDMA engines. -/
def onRdma (g : Rdma → Rdma) (s : State) : State := { s with rdma := g s.rdma }

/-- Queue pair of a global index. -/
def State.qpAt (s : State) (q : Nat) : Qp := Tab.look {} s.rdma.qp q

/-- Changes the queue pair of a global index. -/
def onQp (q : Nat) (g : Qp → Qp) (s : State) : State := onRdma (fun r => { r with qp := Tab.upd {} r.qp q g }) s

/-- First QPN on the wire (R317). -/
def qpnBase : Nat := 0x1000

/-- Bytes of an IP header as the ICRC takes them: the fields a router changes are ones. -/
def maskIp (v6 : Bool) (h : List Byte) : List Byte :=
  if v6 then
    let h1 := overwrite h 0 [(h.getD 0 0) ||| 0x0F, 0xFF, 0xFF, 0xFF]
    overwrite h1 7 [0xFF]
  else overwrite (overwrite (overwrite h 1 [0xFF]) 8 [0xFF]) 10 [0xFF, 0xFF]

/-- The ICRC of a packet: over 8 bytes of ones, the masked headers, and the packet (RoCEv2). -/
def icrcOf (v6 : Bool) (ip udp bth : List Byte) : List Byte :=
  fcsOf (List.replicate 8 0xFF ++ maskIp v6 ip ++ overwrite udp 6 [0xFF, 0xFF] ++ overwrite bth 4 [0xFF])

/-- The frame that carries a packet of a queue pair on its river port (R313). -/
def rdmaFrame (q : Nat) (x : Qp) (p : RdmaPkt) : List Byte :=
  let bth := p.bytes
  let tag := if x.vlan = 0 then [] else [0x81, 0x00] ++ beBytes 2 x.vlan.toNat
  let tos := x.dscp.toNat * 4 + 2
  let udp := beBytes 2 (0xC000 + q % 16384) ++ beBytes 2 4791 ++ beBytes 2 (8 + bth.length + 4) ++ [0, 0]
  let ip4 := [0x45, BitVec.ofNat 8 tos] ++ beBytes 2 (20 + udp.length + bth.length + 4) ++ [0, 0, 0x40, 0, 64, 17, 0, 0]
    ++ padTo 4 x.lip ++ padTo 4 x.rip
  let ip := if x.v6 then beBytes 4 (0x60000000 + tos * 1048576) ++ beBytes 2 (udp.length + bth.length + 4) ++ [17, 64]
      ++ padTo 16 x.lip ++ padTo 16 x.rip
    else overwrite ip4 10 (beBytes 2 (65535 - onesSum ip4 0))
  let body := padTo 6 x.dmac ++ padTo 6 (Config.portMac x.port) ++ tag ++ (if x.v6 then [0x86, 0xDD] else [0x08, 0x00])
    ++ ip ++ udp ++ bth ++ icrcOf x.v6 ip udp bth
  let whole := if body.length < 60 then padTo 60 body else body
  whole ++ fcsOf whole

/-- A received frame's packet from its BTH onward, its ICRC, and whether it is right. -/
structure RoceHdr where
  v6 : Bool
  dst : List Byte
  bth : List Byte
  icrcOk : Bool
  ce : Bool

/-- The RoCEv2 packet a received frame carries. -/
def roceOf (b : List Byte) : Option RoceHdr :=
  match udpAt b with
  | none => none
  | some (v6, u) =>
    let o := (l3Of b).2
    let len := fieldBe b (u + 4) 2
    if fieldBe b (u + 2) 2 ≠ 4791 || len < 24 then none
    else
      let bth := sliceBytes b (u + 8) (len - 12)
      let tos := if v6 then fieldBe b o 2 / 16 else byteAt b (o + 1)
      some { v6 := v6, dst := ipDest b v6, bth := bth, ce := tos % 4 == 3,
             icrcOk := icrcOf v6 (sliceBytes b o (u - o)) (sliceBytes b u 8) bth == sliceBytes b (u + len - 4) 4 }

/-- A frame made inside the Orkai takes its cells and joins a queue; without cells it is dropped (08_ferry_reservoir.md R191, R193). -/
def originate (x : Frame) (q : Nat) (s : State) : State :=
  let f := s.nextFrame
  let n := cellsOf x.len
  let s1 := { s with nextFrame := f + 1 }.setFrame f { x with ended := true, unparsed := true }
  match takeCells f n n s1 with
  | (s2, true) => sendTo f q s2
  | (s2, false) => dropWith f flagRsvFull (loseCopy f s2)

/-- A queue pair of berth b may reach a queue pair of berth d inside the Orkai (R213, R313). -/
def State.rdmaReaches (s : State) (b d : Nat) : Bool := b == d || s.gangways.any (fun g => g.src == b && g.dst == d && g.kind == 2)

/-- A LOCAL packet may reach the queue pair it names: one of the peer berth, and a request only along a gangway (R213, R313). -/
def State.localOk (s : State) (x : Qp) (p : RdmaPkt) : Bool :=
  let y := s.qpAt (x.rqpn.toNat - qpnBase)
  qpnBase ≤ x.rqpn.toNat && y.used && y.path == 2 && y.berth == x.dberth && (p.isResponse || s.rdmaReaches x.berth x.dberth)

/-- A queue pair puts a packet out on its path (R313, R325). -/
def sendPkt (q : Nat) (p : RdmaPkt) (s : State) : State :=
  let x := s.qpAt q
  let s1 := count 0x00C0 { masters := [(2, x.berth), (3, q)] } 1 (onRdma (fun r => { r with txPkts := bump r.txPkts }) s)
  if x.path = 0 then
    originate { src := .rdma q, berth := x.berth, bytes := rdmaFrame q x p, ts := s.stamp, sync := s.tide.word } (8 * x.port + x.tc) s1
  else if x.path = 1 then
    let m : Msg := { dst := x.device, kind := 2, vc := if p.isResponse then 2 else 1, body := p.bytes }
    (inject m s1).1
  else if s.localOk x p then onRdma (fun r => { r with loop := r.loop ++ [(x.rqpn.toNat - qpnBase, p)] }) s1
  else onRdma (fun r => { r with rxBadQp := bump r.rxBadQp }) s1

end Sys2Proof.Machine
end

