-- ==== Sys2Proof/Machine/RdmaOps.lean ====
section
/-! DEFINITION. Completions, the error state, the requester and the responder of a queue pair (14_remote_memory.md R318 to R330). -/

namespace Sys2Proof.Machine

/-- PSNs count modulo 2^24. -/
def psnMod : Nat := 16777216

/-- Steps from one PSN to another. -/
def psnDiff (b a : Nat) : Nat := (b + psnMod - a % psnMod) % psnMod

/-- Blocks of berth b (R317). -/
def State.rdmaB (s : State) (b : Nat) : RdmaB := Tab.look {} s.rdma.berth b

/-- Completion queue of a global index. -/
def State.cqAt (s : State) (c : Nat) : Cq := Tab.look {} s.rdma.cq c

/-- Changes a completion queue. -/
def onCq (c : Nat) (g : Cq → Cq) (s : State) : State := onRdma (fun r => { r with cq := Tab.upd {} r.cq c g }) s

/-- Region i. -/
def State.mrAt (s : State) (i : Nat) : Mr := Tab.look {} s.rdma.mr i

/-! ### Keys (R318) -/

/-- LOCAL_WRITE. -/
def accLocalWrite : Nat := 0
/-- REMOTE_WRITE. -/
def accRemoteWrite : Nat := 1
/-- REMOTE_READ. -/
def accRemoteRead : Nat := 2

/-- A key allows an access to a range, with the access bit it needs, if any. -/
def State.keyOk (s : State) (x : Qp) (key addr len : Nat) (bit : Option Nat) : Bool :=
  let b := s.rdmaB x.berth
  let i := key / 256
  let m := s.mrAt i
  b.mrBase ≤ i && i < b.mrBase + b.mrs && m.valid && m.key8.toNat == key % 256 && m.pd == x.pd
  && (match bit with
      | some k => m.access.getLsbD k
      | none => true)
  && m.base.toNat ≤ addr && addr + len ≤ m.base.toNat + m.len

/-! ### Completions (R320, R321, R330) -/

/-- A completion (Table 14.4). -/
def cqeBytes (qp : Nat) (recv : Bool) (wrId byteLen opcode status : Nat) (imm : Option Nat) (sol : Bool) (owner : Bool) : List Byte :=
  leBytes 8 wrId ++ leBytes 4 byteLen ++ leBytes 4 (imm.getD 0) ++ leBytes 2 qp ++ [BitVec.ofNat 8 opcode, BitVec.ofNat 8 status,
    BitVec.ofNat 8 (bitNat imm.isSome + 2 * bitNat recv + 4 * bitNat sol)] ++ zeros 10 ++ [BitVec.ofNat 8 (bitNat owner)]

/-- Writes a completion into the next slot of a CQ: a full CQ goes into the error state and raises RDMA_CQ_OVERRUN; an armed one posts
RDMA_CQ (R321, R330). -/
def writeCqe (b c : Nat) (bytes : Bool → List Byte) (s : State) : State :=
  let q := s.cqAt c
  if !q.used || q.err then s
  else if q.full then raise 25 1 0 0 0 (some b) (onCq c (fun q => { q with err := true }) s)
  else
    let i := q.prod.toNat % q.depth
    let s1 := hostWrite b (q.addr.toNat + 32 * i) (bytes q.phase) s
    let s2 := onCq c (fun q => { q with
      prod := q.prod + 1, phase := if i + 1 = q.depth then !q.phase else q.phase, armed := false,
      full := (q.prod + 1 - q.cons).toNat = q.depth % 65536 }) s1
    if q.armed then postEvent (1 + b) 0x0C01 (leBytes 2 (c - (s.rdmaB b).qpBase)) s2 else s2

/-- Local index of a queue pair. -/
def State.qpLocal (s : State) (q : Nat) : Nat := q - (s.rdmaB (s.qpAt q).berth).qpBase

/-- Counts a completion that flushes its request (R328). -/
def countFlush (status : Nat) (s : State) : State :=
  if status = 0x0A then onRdma (fun r => { r with flushed := bump r.flushed }) s else s

/-- Completes a send request: a success only when signaled, anything else always (R320). -/
def completeSend (q : Nat) (w : Wr) (status : Nat) (s : State) : State :=
  let x := s.qpAt q
  if status = 0 && !w.signaled then s
  else countFlush status (writeCqe x.berth x.sqCq
    (cqeBytes (s.qpLocal q) false w.wrId.toNat (if status = 0 then w.len else 0) w.opcode status none false) s)

/-- Completes a receive request. -/
def completeRecv (q : Nat) (w : Wr) (status got : Nat) (imm : Option Nat) (sol : Bool) (s : State) : State :=
  let x := s.qpAt q
  countFlush status (writeCqe x.berth x.rqCq
    (cqeBytes (s.qpLocal q) true w.wrId.toNat got (if imm.isSome then 5 else 4) status imm sol) s)

/-! ### The error state (R328) -/

/-- Flushes what a queue pair holds, in posting order, on the SQ and on the RQ. -/
def flushQp (q : Nat) (s : State) : State :=
  let x := s.qpAt q
  let s1 := onQp q (fun x => { x with sq := [], rq := [], rnrWait := false, ackDue := false, rxOpen := none }) s
  let s2 := x.sq.foldl (fun s w => completeSend q w 0x0A s) s1
  x.rq.foldl (fun s w => completeRecv q w 0x0A 0 none false s) s2

/-- A queue pair enters the error state with a failing status, which its event names: what it holds is flushed (R328). -/
def qpError (q status : Nat) (s : State) : State :=
  let x := s.qpAt q
  if !x.used || x.state = 4 then s
  else
    let s1 := onRdma (fun r => { r with qpErr := bump r.qpErr }) (onQp q (fun x => { x with state := 4 }) s)
    postEvent (1 + x.berth) 0x0C02 (leBytes 2 (s.qpLocal q) ++ [BitVec.ofNat 8 status]) (flushQp q s1)

/-- The oldest send request fails with its own status, and the queue pair enters the error state (R328). -/
def failSend (q status : Nat) (s : State) : State :=
  match (s.qpAt q).sq with
  | w :: rest => qpError q status (completeSend q w status (onQp q (fun x => { x with sq := rest }) s))
  | [] => qpError q status s

/-- The queue pairs that a CQ in the error state takes with it (R330). -/
def State.overrunQps (s : State) : List Nat :=
  (s.rdma.qp.filter (fun e => e.2.used && e.2.state != 4 && ((s.cqAt e.2.sqCq).err || (s.cqAt e.2.rqCq).err))).map Prod.fst

/-- Brings every queue pair that uses a CQ in the error state into the error state (R330). -/
def settleCqs : Nat → State → State
  | 0, s => s
  | n + 1, s =>
    match s.overrunQps with
    | [] => s
    | q :: _ => settleCqs n (qpError q 0 s)

/-! ### Requests (R319 to R326) -/

/-- Packets that a request of LEN bytes counts for, at least 1 (R325). -/
def packetsOf (len mtu : Nat) : Nat := max 1 ((len + mtu - 1) / mtu)

/-- The status a send request has before it starts; 0 when it may start (Table 14.5, R318, R326). -/
def State.checkSend (s : State) (x : Qp) (w : Wr) (dataLen : Nat) : Nat :=
  if 3 < w.opcode || 2147483648 < w.len || (w.opcode = 3 && x.ord = 0) then 0x03
  else if w.len != 0 && !s.keyOk x w.lkey.toNat w.laddr.toNat w.len (if w.opcode = 3 then some accLocalWrite else none) then 0x02
  else if w.opcode != 3 && dataLen < w.len then 0x04
  else 0

/-- The packet k of a request. -/
def Wr.packet (w : Wr) (x : Qp) (k : Nat) : RdmaPkt :=
  let final := k + 1 = w.npkt
  let base : RdmaPkt := { qpn := x.rqpn.toNat, psn := (w.psn0 + k) % psnMod, ackReq := final }
  let part := (w.data.drop (k * x.mtu)).take (if final then w.len - k * x.mtu else x.mtu)
  if w.opcode = 3 then
    { base with op := 0x0C, ackReq := true, va := w.raddr.toNat + k * x.mtu, rkey := w.rkey.toNat, dlen := w.len - k * x.mtu,
                source := w.data.drop (k * x.mtu) }
  else if w.opcode = 0 then
    { base with op := if w.npkt = 1 then 0x04 else if k = 0 then 0x00 else if final then 0x02 else 0x01,
                solicited := final && w.solicited, payload := part }
  else
    let i := bitNat (w.opcode = 2)
    { base with op := if w.npkt = 1 then 0x0A + i else if k = 0 then 0x06 else if final then 0x08 + i else 0x07,
                solicited := final && w.opcode = 2 && w.solicited, va := w.raddr.toNat, rkey := w.rkey.toNat, dlen := w.len,
                imm := w.imm.toNat, payload := part }

/-- Packets a request still has to send: a READ is one request. -/
def Wr.toSend (w : Wr) : Nat := if w.opcode = 3 then 1 else w.npkt

/-- The place of the next request with something to send; a request found in error stops the queue until it is the oldest. -/
def nextSend : List Wr → Nat → Option Nat
  | [], _ => none
  | w :: ws, i => if w.status != 0 then none else if w.sent < w.toSend then some i else nextSend ws (i + 1)

/-- READs that are outstanding before place i. -/
def readsBefore (sq : List Wr) (i : Nat) : Nat := ((sq.take i).filter (fun w => w.opcode == 3)).length

/-- A request at place i may send its next packet: its fence, ORD and the window allow it (R320, R324, R325). -/
def Qp.maySend (x : Qp) (i : Nat) (w : Wr) : Bool :=
  let flight := psnDiff x.sqPsn x.unaPsn
  let need := if w.opcode = 3 then w.npkt - w.acked else 1
  (w.started || ((!w.fence || readsBefore x.sq i == 0) && (w.opcode != 3 || readsBefore x.sq i < x.ord)))
  && (flight == 0 || flight + need ≤ x.w)

/-- Sends request packets while the queue pair may: in RTS, not waiting for an RNR timer, and not held by the safe state (R325, R327). -/
def sendRequests : Nat → Nat → State → State
  | 0, _, s => s
  | n + 1, q, s =>
    let x := s.qpAt q
    if x.state != 3 || x.rnrWait || (x.orderBit && s.sump.safe) then s
    else match nextSend x.sq 0 with
      | none => s
      | some i =>
        let w0 := x.sq.getD i {}
        if !x.maySend i w0 then s
        else
          let w := if w0.started then w0 else { w0 with started := true, psn0 := x.sqPsn }
          let k := if w.opcode = 3 then w.acked else w.sent
          let next := if w.opcode = 3 then w.psn0 + w.npkt else w.psn0 + k + 1
          let s1 := onQp q (fun x => { x with sq := x.sq.set i { w with sent := w.sent + 1 }, sqPsn := next % psnMod }) s
          sendRequests n q (sendPkt q (w.packet x k) s1)

/-- Fuel of a run of sends: more packets than any window holds. -/
def sendFuel : Nat := 4096

/-- Sends what a queue pair may send. -/
def trySend (q : Nat) (s : State) : State := sendRequests sendFuel q s

/-- Sending goes back to the oldest unacknowledged PSN (R322). -/
def rewind (q : Nat) (s : State) : State :=
  onQp q (fun x => { x with
    sqPsn := x.unaPsn,
    sq := x.sq.map (fun w => if w.started then { w with sent := if w.opcode = 3 then bitNat (w.npkt ≤ w.acked) else w.acked } else w) }) s

/-- Retransmits from the oldest unacknowledged PSN; RETRY_CNT retransmissions without progress end the oldest request (R322). -/
def retransmit (q : Nat) (s : State) : State :=
  let x := s.qpAt q
  if x.retryCnt ≤ x.retries then failSend q 0x08 s
  else
    let s1 := onQp q (fun x => { x with retries := x.retries + 1, retrans := bump x.retrans }) s
    trySend q (rewind q (onRdma (fun r => { r with retrans := bump r.retrans }) s1))

/-- Completes every request at the head of the SQ that is done; one found in error completes with its status (R320, R328). -/
def completeHeads : Nat → Nat → State → State
  | 0, _, s => s
  | n + 1, q, s =>
    match (s.qpAt q).sq with
    | [] => s
    | w :: rest =>
      if w.status != 0 then failSend q w.status s
      else if w.started && w.npkt ≤ w.acked then
        completeHeads n q (completeSend q w 0 (onQp q (fun x => { x with sq := rest }) s))
      else s

/-- Completes what is done, and sends on. -/
def advance (q : Nat) (s : State) : State := trySend q (completeHeads ((s.qpAt q).sq.length + 1) q s)

/-- Credits n acknowledged packets to the oldest requests; a READ takes none here. -/
def creditSq : Nat → List Wr → List Wr × Nat
  | _, [] => ([], 0)
  | n, w :: ws =>
    if n = 0 || !w.started || (w.opcode == 3 && w.acked < w.npkt) then (w :: ws, 0)
    else
      let k := min n (w.npkt - w.acked)
      let (ws', used) := creditSq (n - k) ws
      ({ w with acked := w.acked + k, sent := max w.sent (w.acked + k) } :: ws', used + k)

/-- The window after n packets have been acknowledged (R325). -/
def Qp.grow (x : Qp) (n : Nat) : Qp :=
  if n = 0 then x
  else
    let x1 := { x with unaPsn := (x.unaPsn + n) % psnMod, retries := 0, rnrTries := 0, echoHold := x.echoHold - n, ackedInW := x.ackedInW + n }
    if x.w ≤ x1.ackedInW then { x1 with w := min 1024 (x.w + 1), ackedInW := 0 } else x1

/-- Every packet up to n past the oldest unacknowledged one is acknowledged; answers how many could be credited. -/
def ackPackets (q n : Nat) (s : State) : State × Nat :=
  let (sq, used) := creditSq n (s.qpAt q).sq
  let s1 := onQp q (fun x => { x with sq := sq }.grow used) s
  (completeHeads ((s.qpAt q).sq.length + 1) q s1, used)

/-- An echo of congestion halves the window, once until W packets have been acknowledged (R325). -/
def echo (q : Nat) (s : State) : State :=
  let x := s.qpAt q
  let s1 := onRdma (fun r => { r with ecnEcho := bump r.ecnEcho }) s
  if 0 < x.echoHold then s1
  else
    let w := max 1 (x.w / 2)
    onQp q (fun x => { x with w := w, echoHold := w, ackedInW := 0 }) s1

/-! ### The requester's responses (R322 to R324) -/

/-- A NAK for a PSN: what precedes it is acknowledged, then the request goes back or fails (R322, R323, Table 14.5). -/
def onNak (q : Nat) (p : RdmaPkt) (s : State) : State :=
  let (s1, _) := ackPackets q (psnDiff p.psn (s.qpAt q).unaPsn) s
  let x := s1.qpAt q
  let code := p.syndrome % 32
  if p.syndrome / 32 = 1 then
    let s2 := onRdma (fun r => { r with rnrNak := bump r.rnrNak }) s1
    if x.rnrRetry ≠ 7 && x.rnrRetry ≤ x.rnrTries then failSend q 0x09 s2
    else rewind q (onQp q (fun x => { x with rnrWait := true, rnrTries := x.rnrTries + 1 }) s2)
  else
    let s2 := onRdma (fun r => { r with nakRx := bump r.nakRx }) s1
    if code = 0 then retransmit q s2
    else if code = 1 then failSend q 0x05 s2
    else if code = 2 then failSend q 0x06 s2
    else failSend q 0x07 s2

/-- An ACK for a PSN: an outstanding READ before it has lost its responses, and is sent again (R322). -/
def onAck (q : Nat) (p : RdmaPkt) (s : State) : State :=
  let n := psnDiff p.psn (s.qpAt q).unaPsn + 1
  let (s1, used) := ackPackets q n s
  if used < n && (s1.qpAt q).state = 3 then retransmit q s1 else trySend q s1

/-- Places a READ response and moves on (R318, R322). -/
def placeResponse (q : Nat) (p : RdmaPkt) (w : Wr) (s : State) : State :=
  let x := s.qpAt q
  let addr := w.laddr.toNat + w.acked * x.mtu
  let left := w.len - w.acked * x.mtu
  let lastOne := w.acked + 1 = w.npkt
  let want := if lastOne then left else x.mtu
  let opOk := if lastOne then p.op == 0x0F || p.op == 0x10 else p.op == 0x0D || p.op == 0x0E
  if p.payload.length ≠ want || !opOk then failSend q 0x0B s
  else if want != 0 && !s.keyOk x w.lkey.toNat addr want (some accLocalWrite) then failSend q 0x02 s
  else
    let s1 := if want = 0 then s else hostWrite x.berth addr p.payload s
    let g := fun (x : Qp) => { x with sq := (match x.sq with
      | v :: vs => { v with acked := v.acked + 1 } :: vs
      | [] => []) }
    advance q (onQp q (fun x => (g x).grow 1) s1)

/-- A READ response: requests before it are acknowledged; out of sequence, the requester goes back (R322). -/
def onReadResponse (q : Nat) (p : RdmaPkt) (s : State) : State :=
  let ahead := psnDiff p.psn (s.qpAt q).unaPsn
  let (s1, used) := ackPackets q ahead s
  match (s1.qpAt q).sq with
  | w :: _ =>
    if used < ahead then retransmit q s1
    else if w.started && w.opcode == 3 then placeResponse q p w s1
    else failSend q 0x0B s1
  | [] => s1

/-- A response or CNP reaches the requester (R322 to R325). -/
def requesterTakes (q : Nat) (p : RdmaPkt) (s : State) : State :=
  let x := s.qpAt q
  if p.op = 0x81 then (if x.state = 3 then echo q s else s)
  else if x.state ≠ 3 || psnDiff x.sqPsn x.unaPsn ≤ psnDiff p.psn x.unaPsn then s
  else
    let s1 := if p.becn then echo q s else s
    if p.op = 0x11 then (if p.syndrome / 32 = 0 then onAck q p s1 else onNak q p s1) else onReadResponse q p s1

/-! ### The responder (R322 to R324) -/

/-- Sends a response of the responder; BECN follows a packet marked ECN-CE (R325). -/
def respondPkt (q : Nat) (p : RdmaPkt) (s : State) : State :=
  let x := s.qpAt q
  sendPkt q { p with qpn := x.rqpn.toNat, becn := x.ecnDue, msn := x.msn } (onQp q (fun x => { x with ecnDue := false }) s)

/-- Acknowledges everything before the expected PSN. -/
def sendAck (q : Nat) (s : State) : State :=
  let x := s.qpAt q
  respondPkt q { op := 0x11, psn := (x.rqPsn + psnMod - 1) % psnMod, syndrome := 0x1F } (onQp q (fun x => { x with ackDue := false }) s)

/-- Sends a NAK of a code for the expected PSN. -/
def sendNak (q code : Nat) (s : State) : State :=
  respondPkt q { op := 0x11, psn := (s.qpAt q).rqPsn, syndrome := 0x60 + code } (onRdma (fun r => { r with nakTx := bump r.nakTx }) s)

/-- A NAK for an access, length, opcode or operational fault puts the responder into the error state, with the status of its own side
(R328). -/
def refuse (q code status : Nat) (s : State) : State := qpError q status (sendNak q code s)

/-- A receive request fails on the responder's side: it completes with its status, and the peer draws a NAK (R328). -/
def failRecv (q code status : Nat) (s : State) : State :=
  match (s.qpAt q).rq with
  | w :: rest =>
    refuse q code status (completeRecv q w status 0 none false (onQp q (fun x => { x with rq := rest }) s))
  | [] => refuse q code status s

/-- The RQ is empty: an RNR NAK with MIN_RNR (R323), or a NAK Invalid Request from a queue pair without an RQ (Table 14.7). -/
def noReceive (q : Nat) (s : State) : State :=
  let x := s.qpAt q
  if x.rqDepth = 0 then refuse q 1 0x05 s
  else respondPkt q { op := 0x11, psn := x.rqPsn, syndrome := 0x20 + x.minRnr.toNat % 32 }
    (onRdma (fun r => { r with rnrNak := bump r.rnrNak }) s)

/-- A request packet has been taken: the expected PSN moves on, and it is acknowledged at once when it asks for it, else before long
(R322). -/
def taken (q n : Nat) (p : RdmaPkt) (s : State) : State :=
  let s1 := onQp q (fun x => { x with rqPsn := (x.rqPsn + n) % psnMod, nakSent := false, ackDue := true }) s
  if p.ackReq then sendAck q s1 else s1

/-- A message ends at the responder. -/
def endMessage (q : Nat) (s : State) : State := onQp q (fun x => { x with rxOpen := none, msn := (x.msn + 1) % psnMod }) s

/-- The length of a packet's payload fits its place in a message: First and Middle hold MTU bytes, Last at least one, Only at most MTU. -/
def partOk (mtu : Nat) (first final : Bool) (n : Nat) : Bool :=
  if !final then n == mtu else if first then n ≤ mtu else 0 < n && n ≤ mtu

/-- A SEND packet (R322, R323). -/
def takeSend (q : Nat) (p : RdmaPkt) (s : State) : State :=
  let x := s.qpAt q
  let first := p.op == 0x00 || p.op == 0x04
  let final := p.op == 0x02 || p.op == 0x04
  if first == x.rxOpen.isSome || (!first && x.rxOpen != some 0) || !partOk x.mtu first final p.payload.length then refuse q 1 0x05 s
  else match x.rq with
    | [] => noReceive q s
    | w :: rest =>
      let got := if first then 0 else x.rxGot
      let n := p.payload.length
      if w.len < got + n then failRecv q 1 0x01 s
      else if n != 0 && !s.keyOk x w.lkey.toNat (w.laddr.toNat + got) n (some accLocalWrite) then failRecv q 3 0x02 s
      else
        let s1 := if n = 0 then s else hostWrite x.berth (w.laddr.toNat + got) p.payload s
        let s2 := onQp q (fun x => { x with rxOpen := some 0, rxGot := got + n }) s1
        if final then taken q 1 p (completeRecv q w 0 (got + n) none p.solicited (endMessage q (onQp q (fun x => { x with rq := rest }) s2)))
        else taken q 1 p s2

/-- A WRITE packet (R318, R322, R323). -/
def takeWrite (q : Nat) (p : RdmaPkt) (s : State) : State :=
  let x := s.qpAt q
  let first := p.op == 0x06 || 0x0A ≤ p.op
  let final := 0x08 ≤ p.op
  let imm := p.op == 0x09 || p.op == 0x0B
  let addr := if first then p.va else x.rxAddr.toNat
  let left := if first then p.dlen else x.rxLeft
  let key := if first then p.rkey else x.rxKey.toNat
  let got := if first then 0 else x.rxGot
  let n := p.payload.length
  if first == x.rxOpen.isSome || (!first && x.rxOpen != some 1) || !partOk x.mtu first final n || left < n || (final && n != left)
      then refuse q 1 0x05 s
  else if left != 0 && !s.keyOk x key addr left (some accRemoteWrite) then refuse q 2 0x06 s
  else if imm && x.rq = [] then noReceive q s
  else
    let s1 := if n = 0 then s else hostWrite x.berth addr p.payload s
    let s2 := onQp q (fun x => { x with
      rxOpen := some 1, rxAddr := BitVec.ofNat 64 (addr + n), rxLeft := left - n, rxKey := BitVec.ofNat 32 key, rxGot := got + n }) s1
    match imm, x.rq with
    | true, w :: rest =>
      taken q 1 p (completeRecv q w 0 (got + n) (some p.imm) p.solicited (endMessage q (onQp q (fun x => { x with rq := rest }) s2)))
    | _, _ => taken q 1 p (if final then endMessage q s2 else s2)

/-- The responses of a READ, from packet k on (Table 14.1). -/
def readResponses (q mtu n : Nat) (data : List Byte) (psn : Nat) : Nat → Nat → State → State
  | 0, _, s => s
  | m + 1, k, s =>
    let op := if n = 1 then 0x10 else if k = 0 then 0x0D else if k + 1 = n then 0x0F else 0x0E
    let s1 := respondPkt q { op := op, psn := (psn + k) % psnMod, syndrome := 0x1F, payload := (data.drop (k * mtu)).take mtu } s
    readResponses q mtu n data psn m (k + 1) s1

/-- Serves a READ request; a duplicate is executed again and moves nothing (R322, R324). -/
def takeRead (q : Nat) (p : RdmaPkt) (dup : Bool) (data : List Byte) (s : State) : State :=
  let x := s.qpAt q
  let n := packetsOf p.dlen x.mtu
  if x.ird = 0 || 2147483648 < p.dlen || (x.rxOpen.isSome && !dup) then refuse q 1 0x05 s
  else if p.dlen != 0 && !s.keyOk x p.rkey p.va p.dlen (some accRemoteRead) then refuse q 2 0x06 s
  else
    let s1 := if p.dlen = 0 then s else hostRead x.berth p.va p.dlen s
    if data.length < p.dlen then refuse q 3 0x04 s1
    else
      let s2 := if dup then s1 else onQp q (fun x => { x with
        rqPsn := (x.rqPsn + n) % psnMod, nakSent := false, ackDue := false, msn := (x.msn + 1) % psnMod }) s1
      readResponses q x.mtu n (data.take p.dlen) p.psn n 0 s2

/-- A request packet with the expected PSN (R312, Table 14.1). -/
def takeRequest (q : Nat) (p : RdmaPkt) (data : List Byte) (s : State) : State :=
  if p.op = 0x0C then takeRead q p false data s
  else if p.op = 0x00 || p.op = 0x01 || p.op = 0x02 || p.op = 0x04 then takeSend q p s
  else if 0x06 ≤ p.op && p.op ≤ 0x0B then takeWrite q p s
  else refuse q 1 0x05 s

/-- A request packet reaches the responder: in order, ahead, or a duplicate (R322). -/
def responderTakes (q : Nat) (p : RdmaPkt) (data : List Byte) (s : State) : State :=
  let s1 := if p.ce then onQp q (fun x => { x with ecnDue := true }) s else s
  let x := s1.qpAt q
  let d := psnDiff p.psn x.rqPsn
  if d = 0 then takeRequest q p data s1
  else if d < psnMod / 2 then
    (if x.nakSent then s1 else onQp q (fun x => { x with nakSent := true }) (sendNak q 0 s1))
  else
    let s2 := onRdma (fun r => { r with dup := bump r.dup }) s1
    if p.op = 0x0C then takeRead q p true data s2 else sendAck q s2

/-- A packet reaches a queue pair: in RTR and RTS it is handled, else discarded (R328). -/
def qpTakes (q : Nat) (p : RdmaPkt) (data : List Byte) (s : State) : State :=
  let x := s.qpAt q
  let s1 := onRdma (fun r => { r with rxPkts := bump r.rxPkts }) s
  if x.state ≠ 2 && x.state ≠ 3 then s1
  else if p.isResponse || p.op = 0x81 then requesterTakes q p s1
  else responderTakes q p data s1

/-- Carries the packets of LOCAL queue pairs from engine to engine until none is left (R313). -/
def runLocal : Nat → State → State
  | 0, s => s
  | n + 1, s =>
    match s.rdma.loop with
    | [] => s
    | (q, p) :: rest =>
      runLocal n (qpTakes q p p.source (onRdma (fun r => { r with loop := rest }) s))

/-- Ends a command of the RDMA engines: LOCAL packets arrive, and CQs found full take their queue pairs with them (R313, R330). -/
def rdmaSettle (s : State) : State := settleCqs 4096 (runLocal 1000000 s)

end Sys2Proof.Machine
end

