-- ==== Sys2Proof/Machine/RdmaCmd.lean ====
section
/-! DEFINITION. The commands of the RDMA engines (14_remote_memory.md Tables 14.8 and 14.9). -/

namespace Sys2Proof.Machine

/-! ### Blocks (R317, R318) -/

/-- Changes the blocks of berth b. -/
def onRdmaB (b : Nat) (g : RdmaB → RdmaB) (s : State) : State := onRdma (fun r => { r with berth := Tab.upd {} r.berth b g }) s

/-- The lowest run of n free indices below a limit that overlaps no other berth's block. -/
def lowestRun (limit n : Nat) (taken : List (Nat × Nat)) : Option Nat :=
  ((0 :: taken.map (fun t => t.1 + t.2)).foldl (fun (best : Option Nat) c =>
    if c + n ≤ limit && taken.all (fun t => !overlaps c n t.1 t.2) then some (min c (best.getD c)) else best) none)

/-- Queue-pair blocks of the berths but one. -/
def State.qpBlocks (s : State) (b : Nat) : List (Nat × Nat) :=
  ((List.range 16).filter (fun i => i != b && 0 < (s.rdmaB i).qps)).map (fun i => ((s.rdmaB i).qpBase, (s.rdmaB i).qps))

/-- Region blocks of the berths but one. -/
def State.mrBlocks (s : State) (b : Nat) : List (Nat × Nat) :=
  ((List.range 16).filter (fun i => i != b && 0 < (s.rdmaB i).mrs)).map (fun i => ((s.rdmaB i).mrBase, (s.rdmaB i).mrs))

/-- Regions and completion queues of a berth's old blocks that its new ones do not hold are released. -/
def trimBlocks (b : Nat) (new : RdmaB) (s : State) : State :=
  let old := s.rdmaB b
  let out := fun (i ob on nb nn : Nat) => ob ≤ i && i < ob + on && !(nb ≤ i && i < nb + nn)
  onRdma (fun r => { r with
    mr := Tab.keep (fun i _ => !out i old.mrBase old.mrs new.mrBase new.mrs) r.mr,
    cq := Tab.keep (fun i _ => !out i old.qpBase old.qps new.qpBase new.qps) r.cq,
    berth := Tab.put {} r.berth b new }) s

/-- RDMA_QUOTA: moves or resizes a berth's blocks; a queue pair in use must stay in its berth's block (R317). -/
def execRdmaQuota (rq : Req) (s : State) : Result :=
  .next (serve (cmdH 0x0C01 12) rq (fun s =>
    let b := rq.u8 0
    let new : RdmaB := { qpBase := rq.u16 2, qps := rq.u16 4, mrBase := 16 * rq.u16 8, mrs := 16 * rq.u16 10 }
    if !berthOk rq 0 || 4096 < new.qps || 4096 < new.qpBase + new.qps || 65536 < new.mrBase + new.mrs then .err .badParam
    else if !s.berthExists b
        || s.rdma.qp.any (fun e => e.2.used && e.2.berth == b && !(new.qpBase ≤ e.1 && e.1 < new.qpBase + new.qps)) then .err .state
    else if (s.qpBlocks b).any (fun t => overlaps new.qpBase new.qps t.1 t.2)
        || (s.mrBlocks b).any (fun t => overlaps new.mrBase new.mrs t.1 t.2) then .err .noResource
    else .ok (trimBlocks b new s) []) s)

/-! ### Regions (R318) -/

/-- RDMA_MR_REG: registers or re-keys a region, and returns its key. -/
def execRdmaMrReg (rq : Req) (s : State) : Result :=
  .next (serve (cmdOwn 0x0C02 32 0) rq (fun s =>
    let b := s.rdmaB (rq.u8 0)
    let i := b.mrBase + rq.u32 24
    if !berthOk rq 0 || rq.u64 16 = 0 || 1099511627776 < rq.u64 16 then .err .badParam
    else if b.mrs = 0 then .err .noResource
    else if b.mrs ≤ rq.u32 24 then .err .badParam
    else
      let m : Mr := { valid := true, base := BitVec.ofNat 64 (rq.u64 8), len := rq.u64 16, pd := BitVec.ofNat 16 (rq.u16 4),
                      access := BitVec.ofNat 8 (rq.u8 2 % 8), key8 := BitVec.ofNat 8 (rq.u8 1) }
      .ok (onRdma (fun r => { r with mr := Tab.put {} r.mr i m }) s) (leBytes 4 (i * 256 + rq.u8 1))) s)

/-- RDMA_MR_DEREG: the region a key names is deregistered (R327). -/
def execRdmaMrDereg (rq : Req) (s : State) : Result :=
  .next (serve (cmdOwn 0x0C03 8 0) rq (fun s =>
    let b := s.rdmaB (rq.u8 0)
    let i := rq.u32 4 / 256
    let m := s.mrAt i
    if !berthOk rq 0 || i < b.mrBase || b.mrBase + b.mrs ≤ i || !m.valid || m.key8.toNat ≠ rq.u32 4 % 256 then .err .badParam
    else .ok (onRdma (fun r => { r with mr := Tab.del r.mr i }) s) []) s)

/-! ### Completion queues (R321) -/

/-- A power of two in a range. -/
def isPow2In (lo hi n : Nat) : Bool := lo ≤ n && n ≤ hi && (List.range 17).any (fun k => n == 2 ^ k)

/-- The global index of the local index a request names at offset 2, within its berth's block. -/
def State.rdmaIndex (s : State) (rq : Req) : Option Nat :=
  if rq.u8 0 < 16 && rq.u16 2 < (s.rdmaB (rq.u8 0)).qps then some ((s.rdmaB (rq.u8 0)).qpBase + rq.u16 2) else none

/-- RDMA_CQ_CREATE (R321, Table 14.7). -/
def execRdmaCqCreate (rq : Req) (s : State) : Result :=
  .next (serve (cmdOwn 0x0C04 16 0) rq (fun s =>
    match s.rdmaIndex rq with
    | none => .err .badParam
    | some c =>
      if !isPow2In 16 65536 (rq.u32 4) || rq.u64 8 % 4096 ≠ 0 then .err .badParam
      else if (s.cqAt c).used then .err .state
      else .ok (onCq c (fun _ => { used := true, depth := rq.u32 4, addr := BitVec.ofNat 64 (rq.u64 8) }) s) []) s)

/-- RDMA_CQ_DESTROY: a CQ that a queue pair uses stays (R321). -/
def execRdmaCqDestroy (rq : Req) (s : State) : Result :=
  .next (serve (cmdOwn 0x0C05 4 0) rq (fun s =>
    match s.rdmaIndex rq with
    | none => .err .badParam
    | some c =>
      if !(s.cqAt c).used || s.rdma.qp.any (fun e => e.2.used && (e.2.sqCq == c || e.2.rqCq == c)) then .err .state
      else .ok (onRdma (fun r => { r with cq := Tab.del r.cq c }) s) []) s)

/-! ### Queue pairs (R313, R334) -/

/-- A ring depth: 0, or a power of two from 16 to 4,096. -/
def depthOk (n : Nat) : Bool := n == 0 || isPow2In 16 4096 n

/-- The queue pair that an rdma.qp_create request spells, in RESET. -/
def qpOfReq (rq : Req) (base : Nat) : Qp :=
  { used := true, berth := rq.u8 0, path := BitVec.ofNat 2 (rq.u8 1), pd := BitVec.ofNat 16 (rq.u16 4), sqCq := base + rq.u16 6,
    rqCq := base + rq.u16 8, sqDepth := rq.u16 10, rqDepth := rq.u16 12, orderBit := rq.u8 14 == 1,
    sqAddr := BitVec.ofNat 64 (rq.u64 16), rqAddr := BitVec.ofNat 64 (rq.u64 24) }

/-- RDMA_QP_CREATE: ORDER is the harbour's to set (Table 14.9). -/
def execRdmaQpCreate (rq : Req) (s : State) : Result :=
  .next (serve (cmdOwn 0x0C06 32 0) rq (fun s =>
    match s.rdmaIndex rq with
    | none => .err .badParam
    | some q =>
      let b := s.rdmaB (rq.u8 0)
      if 2 < rq.u8 1 || !depthOk (rq.u16 10) || !depthOk (rq.u16 12) || 1 < rq.u8 14 || rq.u64 16 % 4096 ≠ 0 || rq.u64 24 % 4096 ≠ 0
          || b.qps ≤ rq.u16 6 || b.qps ≤ rq.u16 8 then .err .badParam
      else if rq.u8 14 = 1 && !isHarbour s rq then .err .noPerm
      else if (s.qpAt q).used || !(s.cqAt (b.qpBase + rq.u16 6)).used || !(s.cqAt (b.qpBase + rq.u16 8)).used then .err .state
      else .ok (onQp q (fun _ => qpOfReq rq b.qpBase) s) []) s)

/-- A queue pair as rdma.qp_modify to RESET leaves it: as created. -/
def Qp.resetQp (x : Qp) : Qp :=
  { used := x.used, berth := x.berth, path := x.path, pd := x.pd, sqCq := x.sqCq, rqCq := x.rqCq, sqDepth := x.sqDepth, rqDepth := x.rqDepth,
    orderBit := x.orderBit, sqAddr := x.sqAddr, rqAddr := x.rqAddr, retrans := x.retrans }

/-- The transition is one of RESET→INIT→RTR→RTS, any→ERR, any→RESET (Table 14.9). -/
def transitionOk (cur dest : Nat) : Bool := dest == 0 || dest == 4 || (cur + 1 == dest && dest ≤ 3)

/-- The values that the target state uses lie in their ranges (Table 14.7, log entry 20). -/
def modifyOk (rq : Req) (path dest : Nat) : Bool :=
  if dest = 2 then
    rq.u8 64 ≤ 1 && rq.u8 68 ≤ 31 && rq.u8 70 ≤ 16 && (path != 0 || (rq.u8 5 < 64 && rq.u8 7 < 64 && rq.u16 14 ≤ 4094))
    && (path != 1 || rq.u16 48 < 1024) && (path != 2 || (rq.u8 50 < 16 && qpnBase ≤ rq.u32 52 % psnMod && rq.u32 52 % psnMod < qpnBase + 4096))
  else if dest = 3 then
    1 ≤ rq.u8 65 && rq.u8 65 ≤ 31 && rq.u8 66 ≤ 7 && rq.u8 67 ≤ 7 && rq.u8 69 ≤ 16 && 1 ≤ rq.u16 72 && rq.u16 72 ≤ 1024
  else true

/-- The path to the peer is permitted (R212, R213, R313). -/
def State.pathOk (s : State) (rq : Req) (x : Qp) : Bool :=
  if x.path = 0 then s.mayUsePort x.berth (rq.u8 5) (rq.u8 6 % 8)
  else if x.path = 1 then (s.berthAt x.berth).fabricOk
  else s.rdmaReaches x.berth (rq.u8 50) || s.rdmaReaches (rq.u8 50) x.berth

/-- A queue pair with the connection settings of rdma.qp_modify to RTR. -/
def Qp.toRtr (x : Qp) (rq : Req) : Qp :=
  { x with
    state := 2, port := rq.u8 5, tc := rq.u8 6 % 8, v6 := rq.bit 6 7, dscp := BitVec.ofNat 8 (rq.u8 7), dmac := rq.bytes 8 6,
    vlan := BitVec.ofNat 16 (rq.u16 14), lip := rq.bytes 16 16, rip := rq.bytes 32 16, device := rq.u16 48, dberth := rq.u8 50,
    rqpn := BitVec.ofNat 24 (rq.u32 52), rqPsn := rq.u32 60 % psnMod, mtu := if rq.u8 64 = 0 then 1024 else 4096,
    minRnr := BitVec.ofNat 8 (rq.u8 68), ird := rq.u8 70 }

/-- A queue pair with the connection settings of rdma.qp_modify to RTS (R325). -/
def Qp.toRts (x : Qp) (rq : Req) : Qp :=
  { x with
    state := 3, sqPsn := rq.u32 56 % psnMod, unaPsn := rq.u32 56 % psnMod, timeout := rq.u8 65, retryCnt := rq.u8 66, rnrRetry := rq.u8 67,
    ord := rq.u8 69, winInit := rq.u16 72, w := rq.u16 72 }

/-- An engine of a queue pair is in service. -/
def State.rdmaEngine (s : State) (q : Nat) : Bool := s.rdma.engines.getLsbD (q / 2048)

/-- Moves a queue pair to a state. -/
def moveQp (q dest : Nat) (rq : Req) (s : State) : State :=
  if dest = 0 then onQp q Qp.resetQp s
  else if dest = 1 then onQp q (fun x => { x with state := 1 }) s
  else if dest = 2 then onQp q (fun x => x.toRtr rq) s
  else if dest = 3 then trySend q (onQp q (fun x => x.toRts rq) s)
  else qpError q 0 s

/-- RDMA_QP_MODIFY (R334). -/
def execRdmaQpModify (rq : Req) (s : State) : Result :=
  .next (serve (cmdOwn 0x0C07 76 0) rq (fun s =>
    match s.rdmaIndex rq with
    | none => .err .badParam
    | some q =>
      let x := s.qpAt q
      let dest := rq.u8 4
      if 4 < dest || !modifyOk rq x.path.toNat dest then .err .badParam
      else if !x.used || !transitionOk x.state.toNat dest || (!s.rdmaEngine q && 1 ≤ dest && dest ≤ 3) then .err .state
      else if dest = 2 && !s.pathOk rq x then .err .noPerm
      else .ok (rdmaSettle (moveQp q dest rq s)) []) s)

/-- A queue pair as rdma.qp_query returns it: its state, its settings in the order of Table 14.9, its next and acknowledged PSNs, W, and
its retransmission count (R334). -/
def Qp.report (x : Qp) (base : Nat) : List Byte :=
  [BitVec.ofNat 8 x.state.toNat, BitVec.ofNat 8 x.path.toNat] ++ leBytes 2 x.pd.toNat ++ leBytes 2 (x.sqCq - base) ++ leBytes 2 (x.rqCq - base)
    ++ leBytes 2 x.sqDepth ++ leBytes 2 x.rqDepth ++ [BitVec.ofNat 8 (bitNat x.orderBit)] ++ leBytes 8 x.sqAddr.toNat ++ leBytes 8 x.rqAddr.toNat
    ++ [BitVec.ofNat 8 x.port, BitVec.ofNat 8 (x.tc + 128 * bitNat x.v6), x.dscp] ++ padTo 6 x.dmac ++ leBytes 2 x.vlan.toNat
    ++ padTo 16 x.lip ++ padTo 16 x.rip ++ leBytes 2 x.device ++ [BitVec.ofNat 8 x.dberth] ++ leBytes 4 x.rqpn.toNat
    ++ [BitVec.ofNat 8 (bitNat (x.mtu = 4096)), BitVec.ofNat 8 x.timeout, BitVec.ofNat 8 x.retryCnt, BitVec.ofNat 8 x.rnrRetry, x.minRnr,
        BitVec.ofNat 8 x.ord, BitVec.ofNat 8 x.ird] ++ leBytes 2 x.winInit
    ++ leBytes 4 x.sqPsn ++ leBytes 4 x.unaPsn ++ leBytes 4 x.rqPsn ++ leBytes 2 x.w ++ slotBytes x.retrans

/-- RDMA_QP_QUERY (R334). -/
def execRdmaQpQuery (rq : Req) (s : State) : Result :=
  .next (serve (cmdOwn 0x0C08 4 0) rq (fun s =>
    match s.rdmaIndex rq with
    | none => .err .badParam
    | some q => if (s.qpAt q).used then .ok s ((s.qpAt q).report (s.rdmaB (rq.u8 0)).qpBase) else .err .badParam) s)

/-- RDMA_QP_DESTROY: only in RESET or ERR (R334). -/
def execRdmaQpDestroy (rq : Req) (s : State) : Result :=
  .next (serve (cmdOwn 0x0C09 4 0) rq (fun s =>
    match s.rdmaIndex rq with
    | none => .err .badParam
    | some q =>
      let x := s.qpAt q
      if x.used && (x.state = 0 || x.state = 4) then .ok (onRdma (fun r => { r with qp := Tab.del r.qp q }) s) [] else .err .state) s)

/-- Queue pairs of berth b in use. -/
def State.qpsUsed (s : State) (b : Nat) : Nat := Tab.count (fun _ x => x.used && x.berth == b) s.rdma.qp

/-- Regions of berth b registered. -/
def State.mrsUsed (s : State) (b : Nat) : Nat :=
  Tab.count (fun i m => m.valid && (s.rdmaB b).mrBase ≤ i && i < (s.rdmaB b).mrBase + (s.rdmaB b).mrs) s.rdma.mr

/-- RDMA_STATUS: RDMA_STATUS, then each berth's blocks and their use (R334). -/
def execRdmaStatus (rq : Req) (s : State) : Result :=
  .next (serve (cmdHBA 0x0C0A 0) rq (fun s =>
    let one := fun b =>
      let x := s.rdmaB b
      leBytes 2 x.qpBase ++ leBytes 2 x.qps ++ leBytes 2 (s.qpsUsed b) ++ leBytes 2 (x.mrBase / 16) ++ leBytes 4 x.mrs ++ leBytes 4 (s.mrsUsed b)
    .ok s (leBytes 4 s.rdma.engines.toNat ++ ((s.statusBerths rq).map one).flatten)) s)

end Sys2Proof.Machine
end

