-- ==== Sys2Proof/Machine/RdmaEvents.lean ====
section
/-! DEFINITION. The doorbells, packets and timers of the RDMA engines (14_remote_memory.md R314 to R333). -/

namespace Sys2Proof.Machine

/-! ### Doorbells and work requests (R319, R321, R327, R333) -/

/-- The queue pair or CQ of berth b that a doorbell names in bits [11:0]. -/
def State.dbIndex (s : State) (b v : Nat) : Option Nat :=
  if v % 4096 < (s.rdmaB b).qps then some ((s.rdmaB b).qpBase + v % 4096) else none

/-- Reads the entries of a ring from an index, up to the ring's end and then from its start. -/
def readRing (b base size entry first n : Nat) (s : State) : State :=
  let i := if size = 0 then 0 else first % size
  let k := min n (size - i)
  let s1 := if k = 0 then s else hostRead b (base + entry * i) (entry * k) s
  if n - k = 0 then s1 else hostRead b base (entry * (n - k)) s1

/-- A doorbell that advances the SQ producer index: beyond the ring depth is an error, else the new entries are read (R319, R327). -/
def postSends (b q prod : Nat) (s : State) : State :=
  let x := s.qpAt q
  let n := (BitVec.ofNat 16 prod - x.sqProd).toNat
  if x.sqDepth = 0 || x.state = 0 then s
  else if x.sqDepth < n then qpError q 0x03 s
  else readRing b x.sqAddr.toNat x.sqDepth 64 x.sqProd.toNat n (onQp q (fun x => { x with sqProd := BitVec.ofNat 16 prod }) s)

/-- A doorbell that advances the RQ producer index. -/
def postRecvs (b q prod : Nat) (s : State) : State :=
  let x := s.qpAt q
  let n := (BitVec.ofNat 16 prod - x.rqProd).toNat
  if x.rqDepth = 0 || x.state = 0 then s
  else if x.rqDepth < n then qpError q 0x03 s
  else readRing b x.rqAddr.toNat x.rqDepth 32 x.rqProd.toNat n (onQp q (fun x => { x with rqProd := BitVec.ofNat 16 prod }) s)

/-- RDMA_SQ_DB (R333). -/
def execRdmaSqDb (b : Fin 16) (v : BitVec 32) (s : State) : Result :=
  if !s.vfLive b.val then .next s
  else match s.dbIndex b.val v.toNat with
    | some q => .next (rdmaSettle (postSends b.val q (v.toNat / 65536) (mmio (1 + b.val) s)))
    | none => .next (mmio (1 + b.val) s)

/-- RDMA_RQ_DB (R333). -/
def execRdmaRqDb (b : Fin 16) (v : BitVec 32) (s : State) : Result :=
  if !s.vfLive b.val then .next s
  else match s.dbIndex b.val v.toNat with
    | some q => .next (rdmaSettle (postRecvs b.val q (v.toNat / 65536) (mmio (1 + b.val) s)))
    | none => .next (mmio (1 + b.val) s)

/-- RDMA_CQ_DB: the consumer index frees slots, and ARM arms the CQ (R321). -/
def execRdmaCqDb (b : Fin 16) (v : BitVec 32) (s : State) : Result :=
  if !s.vfLive b.val then .next s
  else
    let cons := BitVec.ofNat 16 (v.toNat / 65536)
    let s1 := mmio (1 + b.val) s
    match s.dbIndex b.val v.toNat with
    | some c =>
      if (s.cqAt c).used then
        .next (onCq c (fun x => { x with cons := cons, full := x.full && cons == x.cons, armed := x.armed || v.getLsbD 12 }) s1)
      else .next s1
    | none => .next s1

/-- The work request an SQ entry spells (Table 14.2). -/
def sendWr (s : State) (x : Qp) (e data : List Byte) : Wr :=
  let w : Wr := {
    opcode := byteAt e 0, signaled := bitOf (byteAt e 1) 0, fence := bitOf (byteAt e 1) 1, solicited := bitOf (byteAt e 1) 2,
    imm := BitVec.ofNat 32 (fieldLe e 4 4), wrId := BitVec.ofNat 64 (fieldLe e 8 8), laddr := BitVec.ofNat 64 (fieldLe e 16 8),
    len := fieldLe e 24 4, lkey := BitVec.ofNat 32 (fieldLe e 28 4), raddr := BitVec.ofNat 64 (fieldLe e 32 8),
    rkey := BitVec.ofNat 32 (fieldLe e 40 4), data := data }
  { w with npkt := packetsOf w.len x.mtu, status := s.checkSend x w data.length }

/-- The receive request an RQ entry spells (Table 14.3). -/
def recvWr (e : List Byte) : Wr :=
  { wrId := BitVec.ofNat 64 (fieldLe e 0 8), laddr := BitVec.ofNat 64 (fieldLe e 8 8), len := fieldLe e 16 4,
    lkey := BitVec.ofNat 32 (fieldLe e 20 4) }

/-- The data of a request that reads host memory is asked for (R319). -/
def readData (x : Qp) (w : Wr) (s : State) : State :=
  if w.status = 0 && w.opcode != 3 && w.len != 0 then hostRead x.berth w.laddr.toNat w.len s else s

/-- Send requests arrive: in the error state each is flushed; else they join the SQ (R319, R328). -/
def takeSendWrs (q : Nat) : List (List Byte × List Byte) → State → State
  | [], s => s
  | (e, d) :: rest, s =>
    let x := s.qpAt q
    let w := sendWr s x e d
    let s1 := onQp q (fun x => { x with sqFetch := x.sqFetch + 1 }) s
    takeSendWrs q rest (if x.state = 4 then completeSend q w 0x0A s1 else readData x w (onQp q (fun x => { x with sq := x.sq ++ [w] }) s1))

/-- Receive requests arrive. -/
def takeRecvWrs (q : Nat) : List (List Byte) → State → State
  | [], s => s
  | e :: rest, s =>
    let w := recvWr e
    let s1 := onQp q (fun x => { x with rqFetch := x.rqFetch + 1 }) s
    takeRecvWrs q rest (if (s.qpAt q).state = 4 then completeRecv q w 0x0A 0 none false s1
      else onQp q (fun x => { x with rq := x.rq ++ [w] }) s1)

/-- WORK_REQUEST_FETCHED: entries behind the producer index arrive with the data they name, and the requester sends within its window
(R319, R322). -/
def execWorkRequestFetched (q : Fin 4096) (recv : Bool) (wqes : List (List Byte)) (data : List (List Byte)) (s : State) : Result :=
  let x := s.qpAt q.val
  if !x.used || x.state = 0 then .next s
  else if recv then .next (rdmaSettle (takeRecvWrs q.val (wqes.take (x.rqProd - x.rqFetch).toNat) s))
  else
    let n := (x.sqProd - x.sqFetch).toNat
    let es := (wqes.take n).zipIdx.map (fun e => (e.1, data.getD e.2 []))
    .next (rdmaSettle (advance q.val (takeSendWrs q.val es s)))

/-! ### Packets (R312 to R315) -/

/-- Counts a packet for no queue pair that may take it. -/
def badQp (s : State) : State := onRdma (fun r => { r with rxBadQp := bump r.rxBadQp }) s

/-- A packet is checked for its P_Key, and reaches its queue pair when that satisfies a test. -/
def deliverPkt (p : RdmaPkt) (ok : Qp → Bool) (data : List Byte) (s : State) : State :=
  let q := p.qpn - qpnBase
  if p.pkey ≠ 0xFFFF then onRdma (fun r => { r with rxPkey := bump r.rxPkey }) s
  else if p.qpn < qpnBase || qpnBase + 4096 ≤ p.qpn || !(s.qpAt q).used || !ok (s.qpAt q) then badQp s
  else rdmaSettle (qpTakes q p data s)

/-- RDMA_PACKET on a river port: the queue pair must be on that port at that address, and the ICRC right (R313, R314). -/
def riverPacket (p : Nat) (bytes data : List Byte) (s : State) : State :=
  match roceOf bytes with
  | none => s
  | some h =>
    if !h.icrcOk then onRdma (fun r => { r with rxIcrc := bump r.rxIcrc }) s
    else deliverPkt (parseRdma h.bth h.ce) (fun x => x.path == 0 && x.port == p && x.isAt h.v6 h.dst) data s

/-- RDMA_PACKET from the fabric: the destination queue pair's berth needs FABRIC_OK (R315). -/
def fabricPacket (bytes data : List Byte) (s : State) : State :=
  let p := parseRdma bytes false
  let x := s.qpAt (p.qpn - qpnBase)
  if x.used && !(s.berthAt x.berth).fabricOk then onFab (fun a => { a with refused := bump a.refused }) s
  else deliverPkt p (fun x => x.path == 1) data s

/-- RDMA_PACKET: a packet reaches the engines (R312 to R325). -/
def execRdmaPacket (via : PktVia) (bytes : List Byte) (data : List Byte) (s : State) : Result :=
  match via with
  | .river p => .next (riverPacket p.val bytes data s)
  | .fabric _ _ => .next (fabricPacket bytes data s)

/-! ### Timers (R322, R323, R327) -/

/-- The safe state suspends the timers of every PORT queue pair (R327). -/
def State.timersHeld (s : State) (x : Qp) : Bool := s.sump.safe && x.path == 0

/-- RDMA_RETRANSMIT_TIMEOUT: no acknowledgement has advanced for the timeout (R322). -/
def execRdmaRetransmitTimeout (q : Fin 4096) (s : State) : Result :=
  let x := s.qpAt q.val
  if x.state ≠ 3 || s.timersHeld x || x.rnrWait || x.sqPsn = x.unaPsn then .next s
  else .next (rdmaSettle (retransmit q.val s))

/-- ACK_COALESCE_TIMEOUT: 2 µs after the last packet it covers, an acknowledgement is sent (R322). -/
def execAckCoalesceTimeout (q : Fin 4096) (s : State) : Result :=
  let x := s.qpAt q.val
  if !x.ackDue || s.timersHeld x then .next s else .next (rdmaSettle (sendAck q.val s))

/-- RNR_TIMER: the RNR wait ends, and the requester retries (R323). -/
def execRnrTimer (q : Fin 4096) (s : State) : Result :=
  let x := s.qpAt q.val
  if !x.rnrWait || s.timersHeld x then .next s
  else .next (rdmaSettle (trySend q.val (onQp q.val (fun x => { x with rnrWait := false }) s)))

/-- The queue pairs of an engine. -/
def State.engineQps (s : State) (e : Nat) : List Nat := (s.rdma.qp.filter (fun x => x.2.used && x.1 / 2048 == e)).map Prod.fst

/-- An engine leaves service: each of its queue pairs enters the error state (R331). -/
def engineDown (e : Nat) (s : State) : State :=
  let s1 := onRdma (fun r => { r with engines := r.engines &&& ~~~(BitVec.ofNat 2 (2 ^ e)) }) s
  rdmaSettle ((s1.engineQps e).foldl (fun s q => qpError q 0 s) s1)

/-- RDMA_ENGINE_FAIL (R331). -/
def execRdmaEngineFail (e : Fin 2) (s : State) : Result :=
  if !s.rdma.engines.getLsbD e.val then .next s else .next (raise 25 0 e.val 0 0 none (engineDown e.val s))

/-- When the safe state ends, the PORT queue pairs retransmit from the oldest unacknowledged PSN (R327). -/
def resumeRdma (s : State) : State :=
  rdmaSettle ((s.rdma.qp.filter (fun e => e.2.state == 3 && (e.2.path == 0 || e.2.orderBit))).foldl (fun s e =>
    trySend e.1 (if e.2.path = 0 then rewind e.1 s else s)) s)

end Sys2Proof.Machine
end

