-- ==== Sys2Proof/Machine/Rings.lean ====
section
/-! DEFINITION. The receive and transmit rings (19_host_rings.md). -/

namespace Sys2Proof.Machine

/-! ### Configuration (R413, R425, R426, R428) -/

/-- Descriptors of a receive ring that are posted and not yet taken. -/
def RxRing.posted (x : RxRing) : Nat := (x.prod - x.next).toNat

/-- The first descriptor of a receive ring that is not written back. -/
def RxRing.firstOpen (x : RxRing) : BitVec 16 := x.next - BitVec.ofNat 16 (bitNat x.held.isSome)

/-- The first descriptor of a transmit ring that is not written back. -/
def TxRing.firstOpen (x : TxRing) : BitVec 16 := x.next - BitVec.ofNat 16 x.outstanding

/-- A receive writeback (Table 19.1). -/
def rxWriteback (m : HostMeta) (h : RxBuf) (eop trunc : Bool) (frameLen owner : Nat) : List Byte :=
  stampBytes m.stamp ++ leBytes 2 h.len
    ++ [BitVec.ofNat 8 (bitNat h.sop + 2 * bitNat eop + 4 * bitNat trunc + 8 * bitNat m.fcsBad), m.cause,
        BitVec.ofNat 8 (m.pclass.toNat + 16 * m.verdict.toNat), m.inPort, m.tc, m.srcBerth]
    ++ leBytes 4 (if eop then frameLen else 0) ++ leBytes 4 m.hash.toNat ++ zeros 3 ++ [BitVec.ofNat 8 owner]

/-- Writes back the buffer of a ring whose writeback is held back, if any (R422). -/
def writeHeld (b r : Nat) (eop trunc : Bool) (s : State) : State :=
  let x := s.rxAt b r
  match x.held with
  | none => s
  | some h =>
    let addr := x.base.toNat + 32 * (h.index % x.size)
    hostWrite b addr (rxWriteback x.info h eop trunc x.got (ownerPhase x.size h.index)) (onRx b r (fun x => { x with held := none }) s)

/-- The frame of a receive ring ends: its last writeback, its counters, its message, and its copy (R417, R422, R423). -/
def endDelivery (b r : Nat) (trunc : Bool) (s : State) : State :=
  let x := s.rxAt b r
  match x.frame with
  | none => s
  | some f =>
    let q := hostQueue b r
    let s1 := writeHeld b r true trunc s
    let s2 := onRx b r (fun x => { x with
      frame := none, rest := [], waiting := false, frames := bump x.frames, bytes := bumpBy x.bytes x.got,
      trunc := if trunc then bump x.trunc else x.trunc, unsig := x.unsig + 1, got := 0 }) s1
    let s3 := onQueue q (fun y => { y with tx := bump y.tx }) (chargeFor q (s2.frameAt f).len s2)
    signalRx b r RxRing.frameDue (copyEnds f q s3)

/-- The frame of a receive ring is abandoned with no writeback (R425). -/
def abandonDelivery (b r : Nat) (s : State) : State :=
  match (s.rxAt b r).frame with
  | none => s
  | some f => copyEnds f (hostQueue b r) (onRx b r (fun x => { x with frame := none, rest := [], held := none, waiting := false }) s)

/-- The frames of a transmit ring that wait in a queue are dropped (R425). -/
def dropRingFrames (b r : Nat) (s : State) : State :=
  (s.frames.filter (fun e => e.2.src == .ring b r)).foldl (fun s e =>
    e.2.queued.foldl (fun s q => dropCopy e.1 q 0 s) s) s

/-- A receive ring is disabled: its frame is truncated with no wait, and its indices return to 0 (R425). -/
def disableRx (b r : Nat) (s : State) : State :=
  onRx b r (fun x => { x with size := 0, prod := 0, next := 0, unsig := 0 }) (endDelivery b r true s)

/-- A transmit ring is disabled: unsent frames are dropped without writeback, and its indices return to 0 (R425). -/
def disableTx (b r : Nat) (s : State) : State :=
  dropRingFrames b r (onTx b r (fun x => { x with size := 0, prod := 0, next := 0, unsig := 0, cur := [], gathering := false, pend := [] }) s)

/-- A SIZE is legal: 0, or a power of two from 64 to 32,768. -/
def ringSizeOk (n : Nat) : Bool := n == 0 || isPow2In 64 32768 n

/-- Takes the settings of a receive ring that wait for the next frame (R425). -/
def RxRing.takeCfg (x : RxRing) : RxRing :=
  match x.pendCfg with
  | some (w, us, n) => { x with rxWait := w, itrUs := us, itrFrames := n, pendCfg := none }
  | none => x

/-- Takes the settings of a transmit ring that wait for the next frame (R425). -/
def TxRing.takeCfg (x : TxRing) : TxRing :=
  match x.pendCfg with
  | some (ok, us, n) => { x with txOk := ok, itrUs := us, itrFrames := n, pendCfg := none }
  | none => x

/-- Configures a receive ring; between frames the settings take effect at once. -/
def configRx (b r : Nat) (rq : Req) (s : State) : Reply :=
  let x := s.rxAt b r
  let size := rq.u32 4
  let base := BitVec.ofNat 64 (rq.u64 8)
  if rq.u32 16 < 256 || 16384 < rq.u32 16 || rq.u32 16 % 256 ≠ 0 || 1000 < rq.u32 20 then .err .badParam
  else if x.size ≠ 0 && size ≠ 0 && (size ≠ x.size || base != x.base || rq.u32 16 ≠ x.bufSize) then .err .state
  else
    let s1 := if size = 0 then disableRx b r s else s
    let g := fun (x : RxRing) => { x with
      size := size, base := base, bufSize := rq.u32 16, pendCfg := some (rq.u32 20, rq.u16 24, rq.u16 26) }
    .ok (onRx b r (fun x => if x.frame.isNone then (g x).takeCfg else g x) s1) []

/-- Configures a transmit ring. -/
def configTx (b r : Nat) (rq : Req) (s : State) : Reply :=
  let x := s.txAt b r
  let size := rq.u32 4
  let base := BitVec.ofNat 64 (rq.u64 8)
  let okNow := match x.pendCfg with
    | some (ok, _) => ok
    | none => x.txOk
  if 1 < rq.u8 2 then .err .badParam
  else if !isHarbour s rq && (rq.u8 2 == 1) != okNow then .err .noPerm
  else if x.size ≠ 0 && size ≠ 0 && (size ≠ x.size || base != x.base) then .err .state
  else
    let s1 := if size = 0 then disableTx b r s else s
    let g := fun (x : TxRing) => { x with size := size, base := base, pendCfg := some (rq.u8 2 == 1, rq.u16 24, rq.u16 26) }
    .ok (onTx b r (fun x => if x.gathering then g x else (g x).takeCfg) s1) []

/-- QUEUEING_RING_CONFIG (Table 19.7). -/
def execQueueingRingConfig (rq : Req) (s : State) : Result :=
  .next (serve (cmdOwn 0x0807 32 0) rq (fun s =>
    let b := rq.u8 0
    let r := rq.u8 1 % 4
    if !berthOk rq 0 || !ringSizeOk (rq.u32 4) || rq.u64 8 % 4096 ≠ 0 || 1000 < rq.u16 24 || 256 < rq.u16 26 then .err .badParam
    else if rq.bit 1 7 then configTx b r rq s else configRx b r rq s) s)

/-- QUEUEING_RING_STATUS (R428). -/
def execQueueingRingStatus (rq : Req) (s : State) : Result :=
  .next (serve (cmdOwn 0x0808 4 0) rq (fun s =>
    let b := rq.u8 0
    let r := rq.u8 1 % 4
    if !berthOk rq 0 then .err .badParam
    else if rq.bit 1 7 then
      let x := s.txAt b r
      .ok s (leBytes 4 x.size ++ leBytes 4 x.prod.toNat ++ leBytes 4 x.next.toNat ++ leBytes 4 (ownerPhase x.size x.next.toNat)
        ++ leBytes 4 (bitNat x.armed) ++ leBytes 4 (bitNat x.txOk) ++ slotsBytes [x.frames, x.descErr, x.dropped, x.dbErr])
    else
      let x := s.rxAt b r
      .ok s (leBytes 4 x.size ++ leBytes 4 x.prod.toNat ++ leBytes 4 x.next.toNat ++ leBytes 4 (ownerPhase x.size x.next.toNat)
        ++ leBytes 4 (bitNat x.armed) ++ leBytes 4 0 ++ slotsBytes [x.frames, x.bytes, x.trunc, x.dbErr])) s)

/-- The rings of a berth return to their reset state, except TX_OK; no writeback follows (R219, R425). -/
def resetRings (b : Nat) (s : State) : State :=
  (List.range 4).foldl (fun s r => onTx b r (fun x => { txOk := x.txOk }) (onRx b r (fun _ => {}) (abandonDelivery b r s))) s

/-! ### Doorbells (R421) -/

/-- A doorbell is refused: it is counted, and HOST_DB_ERR goes to the berth (R421). -/
def rxDbErr (b r : Nat) (s : State) : State := raise 32 0 0 0 0 (some b) (onRx b r (fun x => { x with dbErr := bump x.dbErr }) s)

/-- A transmit doorbell is refused. -/
def txDbErr (b r : Nat) (s : State) : State := raise 32 0 0 0 0 (some b) (onTx b r (fun x => { x with dbErr := bump x.dbErr }) s)

/-- RX_DOORBELL: buffers are posted, an RX_WAIT ends, and ARM is applied (R421, R425). -/
def execRxDoorbell (b : Fin 16) (r : Fin 4) (v : BitVec 32) (s0 : State) : Result :=
  if !s0.vfLive b.val then .next s0
  else
    let s := mmio (1 + b.val) s0
    let x := s.rxAt b.val r.val
    let prod := BitVec.ofNat 16 v.toNat
    if x.size = 0 || x.size < (prod - x.firstOpen).toNat then .next (rxDbErr b.val r.val s)
    else
      let n := (prod - x.prod).toNat
      let s1 := onRx b.val r.val (fun x => { x with
        prod := prod, armed := x.armed || v.getLsbD 31, waiting := x.waiting && n == 0 }) s
      .next (signalRx b.val r.val RxRing.frameDue (readRing b.val x.base.toNat x.size 32 x.prod.toNat n s1))

/-- TX_DOORBELL: descriptors are posted and read, and ARM is applied (R421). -/
def execTxDoorbell (b : Fin 16) (r : Fin 4) (v : BitVec 32) (s0 : State) : Result :=
  if !s0.vfLive b.val then .next s0
  else
    let s := mmio (1 + b.val) s0
    let x := s.txAt b.val r.val
    let prod := BitVec.ofNat 16 v.toNat
    if x.size = 0 || x.size < (prod - x.firstOpen).toNat then .next (txDbErr b.val r.val s)
    else
      let n := (prod - x.prod).toNat
      let s1 := onTx b.val r.val (fun x => { x with prod := prod, armed := x.armed || v.getLsbD 31 }) s
      .next (signalTx b.val r.val TxRing.frameDue (readRing b.val x.base.toNat x.size 32 x.prod.toNat n s1))

/-! ### Transmit (R415, R418 to R420) -/

/-- The descriptor that 32 bytes spell, with the data of its buffer (Table 19.2). -/
def txDescOf (d : List Byte) (data : Option (List Byte)) : TxDesc :=
  let len := fieldLe d 8 2
  { eop := bitOf (byteAt d 10) 1, tsReq := bitOf (byteAt d 10) 2, tag := BitVec.ofNat 64 (fieldLe d 16 8), port := byteAt d 12 % 64,
    tc := byteAt d 11 % 8, data := (data.getD []).take len, dmaErr := (data.getD []).length < len, skipped := len == 0 }

/-- Descriptors that wait for their writeback with a known status. -/
def queueWriteback (b r : Nat) (ds : List TxDesc) (st : BitVec 8) (s : State) : State :=
  let s1 := onTx b r (fun x => { x with pend := x.pend ++ [{ descs := ds, status := some st }] }) s
  flushTx (s1.txAt b r).pend.length b r s1

/-- What stands against sending a transmit frame (Table 19.3): DENIED, LEN_ERR, DMA_ERR. -/
def State.txCheck (s : State) (b : Nat) (x : TxRing) (ds : List TxDesc) (len : Nat) : BitVec 8 :=
  let h := ds.headD {}
  if !x.txOk || !s.mayUsePort b h.port h.tc then 2
  else if 9212 < len || 64 < (ds.filter (fun d => !d.skipped)).length then 5
  else if ds.any (fun d => d.dmaErr) then 6
  else 0

/-- A transmit frame is complete: it is padded, gets its FCS and is queued, or its descriptors are written back with its error (R415,
R418, R419). -/
def closeTxFrame (b r : Nat) (s : State) : State :=
  let x := s.txAt b r
  let ds := x.cur
  let body := (ds.map TxDesc.data).flatten
  let st := s.txCheck b x ds body.length
  let s1 := onTx b r (fun x => { x with cur := [], gathering := false }.takeCfg) s
  if st ≠ 0 then queueWriteback b r ds st s1
  else
    let h := ds.headD {}
    let full := if body.length < 60 then padTo 60 body else body
    let s2 := onTx b r (fun x => { x with pend := x.pend ++ [{ descs := ds, frame := some s.nextFrame }] }) s1
    originate { src := .ring b r, berth := b, bytes := full ++ fcsOf full, ts := s.stamp, sync := s.tide.word } (8 * h.port + h.tc) s2

/-- The descriptors of a frame that a new SOP cuts off are written back with BAD_CHAIN (R420). -/
def cutChain (b r : Nat) (s : State) : State :=
  let x := s.txAt b r
  if x.gathering then queueWriteback b r x.cur 4 (onTx b r (fun x => { x with cur := [], gathering := false }.takeCfg) s) else s

/-- A transmit descriptor has been read, with its data (R418 to R420). -/
def takeTxDesc (b r : Nat) (sop : Bool) (d : TxDesc) (s : State) : State :=
  let s0 := onTx b r (fun x => { x with next := x.next + 1, descErr := if d.skipped then bump x.descErr else x.descErr }) s
  let x := s0.txAt b r
  if d.skipped then
    (if x.gathering then onTx b r (fun x => { x with cur := x.cur ++ [d] }) s0 else queueWriteback b r [d] 1 s0)
  else if sop then
    let s1 := onTx b r (fun x => { x with cur := [d], gathering := true }) (cutChain b r s0)
    if d.eop then closeTxFrame b r s1 else s1
  else if x.gathering then
    let s1 := onTx b r (fun x => { x with cur := x.cur ++ [d] }) s0
    if d.eop then closeTxFrame b r s1 else s1
  else queueWriteback b r [d] 4 s0

/-- TX_DESC_FETCHED: the next posted descriptor arrives with the data of its buffer, or with an error completion (R418 to R421). -/
def execTxDescFetched (b : Fin 16) (r : Fin 4) (desc : List Byte) (data : Option (List Byte)) (s : State) : Result :=
  let x := s.txAt b.val r.val
  if x.size = 0 || x.prod = x.next then .next s
  else .next (takeTxDesc b.val r.val (bitOf (byteAt desc 10) 0) (txDescOf desc data) s)

/-! ### Receive (R416, R417, R422) -/

/-- CAUSE of a delivery (Table 19.1). -/
def rxCause (x : Frame) (q : Nat) : Nat :=
  if x.mirrorQ = some q then 3
  else if x.failed && x.classAction = 1 then 1
  else if x.fwdMiss then 2
  else if (x.fwd.map (fun r => resKind r.toNat)) == some 3 then 4
  else 0

/-- What the writebacks of a frame carry. -/
def State.rxMeta (s : State) (x : Frame) (q : Nat) : HostMeta :=
  { stamp := x.ts, fcsBad := x.fcsBad, cause := BitVec.ofNat 8 (rxCause x q), pclass := x.parse.cls, verdict := x.verdict,
    inPort := BitVec.ofNat 8 x.inPort, tc := BitVec.ofNat 8 x.egressTc, srcBerth := BitVec.ofNat 8 x.berth,
    hash := BitVec.ofNat 32 (s.flowHash x.berth x.parse x.bytes) }

/-- A ring starts the frame at the head of its queue (R422). -/
def startDelivery (b r f : Nat) (s : State) : State :=
  let q := hostQueue b r
  let x := s.frameAt f
  onRx b r (fun y => { y with
      frame := some f, got := 0, info := s.rxMeta x q, rest := x.bytes.take (x.len - 4), held := none, waiting := false }.takeCfg)
    (takeFrom q f s)

/-- Fills a posted buffer: the buffer before it is written back, the data are written, and its own writeback is held back (R422). -/
def fillBuffer (b r addr : Nat) (s : State) : State :=
  let x := s.rxAt b r
  let chunk := x.rest.take x.bufSize
  let h : RxBuf := { index := x.next.toNat, addr := BitVec.ofNat 64 addr, len := chunk.length, sop := x.got == 0 }
  let s1 := match x.frame with
    | some f => if x.got = 0 then stampEgress f (hostQueue b r) s.stamp 3 0 s else s
    | none => s
  onRx b r (fun x => { x with held := some h, next := x.next + 1, got := x.got + chunk.length, rest := x.rest.drop x.bufSize })
    (hostWrite b addr chunk (writeHeld b r false false s1))

/-- Fills buffers, in order, while the frame needs them. -/
def fillBuffers (b r : Nat) : List (BitVec 64) → State → State
  | [], s => s
  | a :: rest, s =>
    if (s.rxAt b r).rest = [] || (s.rxAt b r).posted = 0 then s else fillBuffers b r rest (fillBuffer b r a.toNat s)

/-- After buffers have been filled: the frame ends, or waits for a posted buffer, or is truncated at once (R422, Table 19.5). -/
def afterFill (b r : Nat) (s : State) : State :=
  let x := s.rxAt b r
  if x.rest = [] then endDelivery b r false s
  else if x.posted ≠ 0 then s
  else if x.rxWait = 0 then endDelivery b r true s
  else onRx b r (fun x => { x with waiting := true }) s

/-- A ring can be served: its frame goes on, or the frame at the head of its queue may start and a buffer is posted (R197, R422). -/
def State.ringReady (s : State) (b r : Nat) : Bool :=
  let x := s.rxAt b r
  let q := hostQueue b r
  if x.size = 0 || x.posted = 0 || x.waiting then false
  else if x.frame.isSome then true
  else match (s.queueAt q).entries with
    | f :: _ => (s.frameAt f).ended && !s.queueStopped q && (s.queueAt q).shaper.open
    | [] => false

/-- The ring a berth serves next, in rotation. -/
def State.nextRing (s : State) (b : Nat) : Option Nat := rotateFind 4 (Tab.look 0 s.rsv.ringNext b) (s.ringReady b)

/-- Fills the shapers of the host queues, and drops the heads that a failed bank group has lost (R203). -/
def readyHost (s : State) : State :=
  (List.range 64).foldl (fun s i =>
    let q := 592 + i
    if (s.queueAt q).entries = [] then s else dropLostHeads q (s.queueAt q).entries.length (fillQueue q s)) s

/-- HOST_DELIVERY: the next berth and ring in rotation deliver a frame into their posted buffers, whose addresses the environment gives
(R197, R422). -/
def execHostDelivery (bufs : List (BitVec 64)) (s : State) : Result :=
  let s1 := readyHost s
  match rotateFind 16 s1.rsv.hostNext (fun b => (s1.nextRing b).isSome) with
  | none => .next s1
  | some b =>
    let r := (s1.nextRing b).getD 0
    if bufs = [] then .next s1
    else
      let s2 := onRsv (fun v => { v with hostNext := (b + 1) % 16, ringNext := Tab.put 0 v.ringNext b ((r + 1) % 4) }) s1
      let s3 := if (s2.rxAt b r).frame.isSome then s2 else startDelivery b r ((s2.queueAt (hostQueue b r)).entries.headD 0) s2
      .next (afterFill b r (fillBuffers b r bufs s3))

/-- RX_WAIT_EXPIRY: no buffer was posted within RX_WAIT, and the frame is truncated (R422). -/
def execRxWaitExpiry (b : Fin 16) (r : Fin 4) (s : State) : Result :=
  if (s.rxAt b.val r.val).waiting then .next (endDelivery b.val r.val true s) else .next s

/-- ITR_TIMER: the oldest unsignalled writeback is ITR_US old, and an armed ring sends its message (R423). -/
def execItrTimer (tx : Bool) (b : Fin 16) (r : Fin 4) (s : State) : Result :=
  if tx then .next (signalTx b.val r.val (fun x => x.itrUs != 0) s) else .next (signalRx b.val r.val (fun x => x.itrUs != 0) s)

end Sys2Proof.Machine
end

