-- ==== Sys2Proof/Machine/WindOps.lean ====
section
/-! DEFINITION. The Windlass: the snapshot of a run, its products, and what starts and ends a run (10_weir_windlass.md R239 to R243, R246). -/

namespace Sys2Proof.Machine

/-- Changes the run in progress. -/
def onRun (g : WindRun → WindRun) (s : State) : State := onWeir (fun w => { w with run := w.run.map g }) s

/-- Output tiles of a product: 64 rows each, since N is at most 64 (R242). -/
def WindRun.outTiles (r : WindRun) : Nat := (r.m + 63) / 64

/-- Every output tile has passed its check. -/
def WindRun.allDone (r : WindRun) : Bool := (List.range r.outTiles).all (fun i => r.done.contains i)

/-- The run hands its product to the Shuttle (R242). -/
def WindRun.shuttled (r : WindRun) : Bool := r.group != 0xFFFFFFFF

/-! ### The snapshot (R241, R242) -/

/-- Adds one position counter to the aggregate of a berth, key g K + c. -/
def addPosition (s : State) (b m k : Nat) (t : Tab Int) (c : Counter) : Tab Int :=
  match s.findAcct b c.account.toNat, s.findInstr b c.instrument.toNat with
  | some a, some i =>
    let g := (Tab.look {} s.weir.acct a).group.toNat
    let col := (Tab.look {} s.weir.instr i).column.toNat
    if g < m && col < k then Tab.upd 0 t (g * k + col) (· + c.position) else t
  | _, _ => t

/-- The live aggregate A of a berth, before saturation (R241). -/
def State.aggregate (s : State) (b m k : Nat) : Tab Int :=
  let base := (s.weirB b).posBase
  (s.weir.pos.filter (fun e => base ≤ e.1 && e.1 < base + (s.berthAt b).weirCtrs && e.2.valid)).foldl
    (fun t e => addPosition s b m k t e.2) []

/-- The limits of signed 32 bits. -/
def sat32 (v : Int) : Int := clampInt (-(2 ^ 31)) (2 ^ 31 - 1) v

/-- A table of elements, each saturated at the limits of signed 32 bits. -/
def satTab (t : Tab Int) : Tab Int := t.map (fun e => (e.1, sat32 e.2))

/-- The scenario matrix of a berth as staged, key c N + s (R241). -/
def WeirB.matrix (w : WeirB) : Tab Int :=
  w.s.foldl (fun t e =>
    let i := e.1 / 4
    if i < w.k * w.n then Tab.put 0 t i (signedOf 32 (leNat (Tab.run 0 w.s (4 * i) 4))) else t) []

/-! ### Starting and ending -/

/-- At a snapshot LOCAL_PREV takes LOCAL_CUR, which starts again from 0 (R240). -/
def rollLocal (b : Nat) (s : State) : State :=
  let roll := fun (t : Tab Firm) (g : Nat) => Tab.upd {} t g (fun f => { f with localPrev := f.localCur, localCur := 0 })
  onWeirB b (fun w => { w with firm := (List.range 256).foldl roll w.firm }) s

/-- A saturated element sets the run's SAT flag and counts in WIND_SAT. -/
def markSat (hit : Bool) (s : State) : State :=
  if hit then onWeir (fun w => { w with satCnt := bump w.satCnt, run := w.run.map (fun r => { r with sat := true }) }) s else s

/-- Starts a berth's configured run: the snapshot is taken now (R242, R243). -/
def startRun (b : Nat) (s : State) : State :=
  let w := s.weirB b
  let a := s.aggregate b w.m w.k
  let r : WindRun := {
    berth := b, a := satTab a, s := w.matrix, m := w.m, k := w.k, n := w.n, tiles := w.tiles, stream := w.stream, group := w.group,
    snap := s.tide.nowFs }
  markSat (satTab a != a)
    (rollLocal b (onWeir (fun x => { x with run := some r, runBerth := BitVec.ofNat 4 b, runs := bump x.runs }) s))

/-- Starts the next run that is due, in order of due time, one at a time (R243); with no tile in service it cannot run (R249). -/
def startDue (s : State) : State :=
  match s.weir.run, s.weir.dueRuns with
  | none, (b, fn) :: rest =>
    let s1 := onWeir (fun w => { w with dueRuns := rest }) s
    if s.weir.tiles = 0 then finishOpt fn 0x0909 .hwFault [] s1 else finishOpt fn 0x0909 .ok [] (startRun b s1)
  | _, _ => s

/-- A berth's due runs are dropped. -/
def dropDue (b : Nat) (s : State) : State :=
  (s.weir.dueRuns.filter (fun d => d.1 == b)).foldl (fun s d => finishOpt d.2 0x0909 .busy [] s)
    (onWeir (fun w => { w with dueRuns := w.dueRuns.filter (fun d => d.1 != b) }) s)

/-- The run ends. -/
def endRun (s : State) : State := onWeir (fun w => { w with run := none }) s

/-! ### Products (R241) -/

/-- One element of A × S, exact. -/
def WindRun.element (r : WindRun) (g c : Nat) : Int :=
  ((r.a.filter (fun e => e.1 / r.k == g)).map (fun e => e.2 * Tab.look 0 r.s (e.1 % r.k * r.n + c))).foldl (· + ·) 0

/-- Keys g N + s of an output tile, in order. -/
def WindRun.tileKeys (r : WindRun) (i : Nat) : List Nat :=
  (List.range (min (64 * (i + 1)) r.m * r.n - 64 * i * r.n)).map (· + 64 * i * r.n)

/-- An output tile is computed, in int64 (R241, R242). -/
def computeTile (i : Nat) (s : State) : State :=
  match s.weir.run with
  | none => s
  | some r =>
    let exact := (r.tileKeys i).map (fun j => (j, r.element (j / r.n) (j % r.n)))
    let s1 := onRun (fun r => { r with c := exact.foldl (fun t e => Tab.put 0 t e.1 (sat64 e.2)) r.c, done := r.done ++ [i] }) s
    markSat (exact.any (fun e => sat64 e.2 != e.2)) s1

/-- Exposure of a group: max(0, max over s of −C[g][s]) (R241). -/
def WindRun.exposure (r : WindRun) (g : Nat) : Int :=
  ((List.range r.n).map (fun c => -(Tab.look 0 r.c (g * r.n + c)))).foldl max 0

/-- A tile of the Windlass fails and leaves service; the output tiles not yet handed off are computed again by the others, and with no tile
left the run ends without installing anything (R246). -/
def failTile (t : Nat) (s : State) : State :=
  let left := s.weir.tiles &&& ~~~(BitVec.ofNat 4 (2 ^ t))
  let s1 := raise 15 0 t 0 0 none (onWeir (fun w => { w with tiles := left }) s)
  match s1.weir.run with
  | none => s1
  | some r =>
    if left = 0 then startDue (endRun s1)
    else if r.allDone then s1
    else onRun (fun r => { r with late := true }) (onWeir (fun w => { w with rerun := bump w.rerun }) s1)

/-- The exposures of a reduced product are installed with its snapshot, and LOCAL_PREV becomes 0 (R240, R242). -/
def install (r : WindRun) (s : State) : State :=
  let put := fun (t : Tab Firm) (g : Nat) => Tab.upd {} t g (fun f =>
    if g < r.m then { f with e := some (r.exposure g), snap := r.snap, localPrev := 0 } else f)
  let s1 := onWeirB r.berth (fun w => { w with firm := (List.range r.m).foldl put w.firm, lastSnap := some r.snap }) s
  postEvent (1 + r.berth) 0x0902 ([BitVec.ofNat 8 r.berth, BitVec.ofNat 8 (bitNat r.sat + 2 * bitNat r.late)]
    ++ zeros 2 ++ stampBytes (stampOfFs r.snap)) s1

end Sys2Proof.Machine
end

