-- ==== Sys2Proof/Machine/ShtlOps.lean ====
section
/-! DEFINITION. The Shuttle: groups and ranks, the ring on each axis, the messages, and how operations go on and end (13_collectives.md). -/

namespace Sys2Proof.Machine

/-- Changes the Shuttle. -/
def onShtl (g : Shtl → Shtl) (s : State) : State := { s with shtl := g s.shtl }

/-- Operation slot k. -/
def State.opAt (s : State) (k : Nat) : ColOp := Tab.look {} s.shtl.slots k

/-- Changes operation slot k. -/
def onOp (k : Nat) (g : ColOp → ColOp) (s : State) : State := onShtl (fun x => { x with slots := Tab.upd {} x.slots k g }) s

/-- The slots in use. -/
def State.opSlots (s : State) : List Nat := s.shtl.slots.map Prod.fst

/-- The lowest free slot. -/
def State.freeOp (s : State) : Option Nat := (List.range 8).find? (fun k => !s.opSlots.contains k)

/-- The group of a TAG. -/
def State.groupAt (s : State) (tag : Nat) : Group := Tab.look {} s.shtl.group tag

/-- The group an operation runs in. -/
def State.opGroup (s : State) (op : ColOp) : Group := s.groupAt op.tag.toNat

/-! ### Geometry (R299, R300) -/

/-- Coordinate a of a triple. -/
def axisOf (t : Nat × Nat × Nat) (a : Nat) : Nat := if a = 0 then t.1 else if a = 1 then t.2.1 else t.2.2

/-- Extent of a group on axis a. -/
def Group.ext (g : Group) (a : Nat) : Nat := axisOf g.hi a + 1 - axisOf g.lo a

/-- Members of a group. -/
def Group.members (g : Group) : Nat := g.ext 0 * g.ext 1 * g.ext 2

/-- A device is a member. -/
def Group.has (g : Group) (id : Nat) : Bool := (List.range 3).all (fun a => axisOf g.lo a ≤ coordOf id a && coordOf id a ≤ axisOf g.hi a)

/-- Ring index of a device on axis a. -/
def Group.index (g : Group) (id a : Nat) : Nat := coordOf id a - axisOf g.lo a

/-- Rank of a member. -/
def Group.rank (g : Group) (id : Nat) : Nat := (g.index id 0 * g.ext 1 + g.index id 1) * g.ext 2 + g.index id 2

/-- The ring successor of a device on axis a. -/
def Group.succOf (g : Group) (id a : Nat) : Nat := withCoord id a (axisOf g.lo a + (g.index id a + 1) % g.ext a)

/-- The ring predecessor of a device on axis a. -/
def Group.predOf (g : Group) (id a : Nat) : Nat := withCoord id a (axisOf g.lo a + (g.index id a + g.ext a - 1) % g.ext a)

/-! ### The course of an operation (R297, R300, R301) -/

/-- What an operation does: with COUNT 0 a barrier, whatever its OP (R297). -/
def ColOp.kind (op : ColOp) : Nat := if op.count = 0 then 4 else op.op

/-- A device takes part in a broadcast's ring on axis a: on the later axes it has the root's coordinates. -/
def sharesRoot (id root a : Nat) : Bool := (List.range 3).all (fun b => b ≤ a || coordOf id b = coordOf root b)

/-- The axes whose rings an operation runs on a device, in order; an axis of extent 1 is skipped (R301). -/
def ColOp.axes (op : ColOp) (g : Group) (id : Nat) : List Nat :=
  let order := if op.kind = 2 then [2, 1, 0] else [0, 1, 2]
  order.filter (fun a => 1 < g.ext a && (op.kind != 3 || sharesRoot id op.root a))

/-- The first pass of an operation on each axis. -/
def ColOp.firstPass (op : ColOp) : Nat := if op.kind = 2 then 1 else 0

/-- Piece j of n of a run of elements: start and length (R300). -/
def pieceRun (r : Nat × Nat) (n j : Nat) : Nat × Nat :=
  let c := (r.2 + n - 1) / n
  (r.1 + min (j * c) r.2, min c (r.2 - j * c))

/-- The elements that the ring on axis a works on: the part in hand, the pieces that the axes before it leave, or the whole vector. -/
def ColOp.region (op : ColOp) (g : Group) (id a : Nat) : Nat × Nat :=
  if op.kind = 1 || op.kind = 2 then
    (List.range a).foldl (fun r b => pieceRun r (g.ext b) (g.index id b)) (0, op.count)
  else if op.partLen = 0 then (0, op.count)
  else (op.part * op.partLen, min op.partLen (op.count - op.part * op.partLen))

/-- Parts of the vector: the output tiles of a Windlass run, else one (R305). -/
def ColOp.parts (op : ColOp) : Nat := if op.partLen = 0 then 1 else (op.count + op.partLen - 1) / op.partLen

/-- The piece that member i of n sends at a step of a pass. -/
def sentPiece (pass i n step : Nat) : Nat := if pass = 0 then (i + 2 * n - 1 - step) % n else (i + n - step) % n

/-- The piece that member i of n receives at a step of a pass. -/
def recvPiece (pass i n step : Nat) : Nat := if pass = 0 then (i + 2 * n - 2 - step) % n else (i + 2 * n - 1 - step) % n

/-- The run of elements of a piece; a broadcast's is the whole vector. -/
def ColOp.pieceAt (op : ColOp) (g : Group) (id a j : Nat) : Nat × Nat :=
  if op.kind = 3 then op.region g id a else pieceRun (op.region g id a) (g.ext a) j

/-- Distance of a device, along the ring on axis a, from the member that holds a broadcast's vector. -/
def ColOp.distance (op : ColOp) (g : Group) (id a : Nat) : Nat := (g.index id a + g.ext a - g.index op.root a) % g.ext a

/-! ### Elements (R296) -/

/-- Bytes of an element. -/
def ColOp.esize (op : ColOp) : Nat := if op.wide then 8 else 4

/-- Elements as bytes. -/
def ColOp.toBytes (op : ColOp) (vs : List Int) : List Byte := (vs.map (fun v => leBytes op.esize (unsignedOf (8 * op.esize) v))).flatten

/-- The elements that bytes spell. -/
def ColOp.ofBytes (op : ColOp) (bs : List Byte) : List Int :=
  (List.range (bs.length / op.esize)).map (fun i => signedOf (8 * op.esize) (fieldLe bs (op.esize * i) op.esize))

/-- A reduction of two elements, exact (Table 13.2). -/
def ColOp.reduceExact (op : ColOp) (a b : Int) : Int :=
  let w := 8 * op.esize
  if op.red = 0 then a + b
  else if op.red = 1 then min a b
  else if op.red = 2 then max a b
  else if op.red = 3 then signedOf w (unsignedOf w a &&& unsignedOf w b)
  else signedOf w (unsignedOf w a ||| unsignedOf w b)

/-- A value held at the limits of the element type. -/
def ColOp.sat1 (op : ColOp) (v : Int) : Int := clampInt (-(2 ^ (8 * op.esize - 1))) (2 ^ (8 * op.esize - 1) - 1) v

/-- n elements from a place. -/
def runOf (vs : List Int) (r : Nat × Nat) : List Int := (vs.drop r.1).take r.2

/-- A vector with the elements from a place overwritten. -/
def putRun (vs : List Int) (start : Nat) (new : List Int) : List Int := vs.take start ++ new ++ vs.drop (start + new.length)

/-! ### Messages (R303, Table 13.2) -/

/-- The fields of a collective header. -/
structure ColHdr where
  tag : BitVec 32
  seq : BitVec 32
  count : Nat
  word : Nat
  flags : Nat
  axis : Nat
  pass : Nat
  step : Nat
  piece : Nat
  seg : Nat
  root : Nat
  deriving DecidableEq, Repr

/-- Reads a collective header. -/
def colHdr (b : List Byte) : ColHdr :=
  { tag := BitVec.ofNat 32 (fieldLe b 0 4), seq := BitVec.ofNat 32 (fieldLe b 4 4), count := fieldLe b 8 4, word := byteAt b 12 % 128,
    flags := byteAt b 13 % 16, axis := byteAt b 14 % 4, pass := byteAt b 14 / 4 % 2, step := byteAt b 15, piece := fieldLe b 16 2,
    seg := fieldLe b 18 2, root := fieldLe b 20 2 }

/-- OP, DTYPE and RED of an operation, as byte 12 of the header. -/
def ColOp.word (op : ColOp) : Nat := op.op + 8 * bitNat op.wide + 16 * op.red

/-- A collective header: flags beside SAT and LATE, the ring position, and the segment. -/
def ColOp.header (op : ColOp) (flags axis pass step piece seg : Nat) : List Byte :=
  leBytes 4 op.tag.toNat ++ leBytes 4 op.seq.toNat ++ leBytes 4 op.count
    ++ [BitVec.ofNat 8 op.word, BitVec.ofNat 8 (bitNat op.sat + 2 * bitNat op.late + flags), BitVec.ofNat 8 (axis + 4 * pass),
        BitVec.ofNat 8 step]
    ++ leBytes 2 piece ++ leBytes 2 seg ++ leBytes 2 op.root ++ zeros 2

/-- Sends a COL message to a device (R303). -/
def sendCol (dst : Nat) (body : List Byte) (s : State) : State :=
  (inject { dst := dst, kind := 3, vc := 3, body := body } s).1

/-- Bytes of a piece cut into segments of up to 4,096; an empty piece is one message with no data. -/
def segments : Nat → List Byte → List (List Byte)
  | 0, _ => []
  | n + 1, b => if b.length ≤ 4096 then [b] else b.take 4096 :: segments n (b.drop 4096)

/-- ABORT bit of the header's flags. -/
def flagAbort : Nat := 4

/-- LAST_SEG bit of the header's flags. -/
def flagLast : Nat := 8

/-- PIECE of a message: the piece, and the part of the vector in steps of 16. -/
def ColOp.pieceCode (op : ColOp) (j : Nat) : Nat := 16 * op.part + j

/-- Sends the piece of the first step of the ring on axis a. -/
def sendFirst (k a : Nat) (s : State) : State :=
  let op := s.opAt k
  let g := s.opGroup op
  let j := if op.kind = 3 then 0 else sentPiece op.pass (g.index s.fab.id a) (g.ext a) 0
  let segs := segments 257 (op.toBytes (runOf op.vec (op.pieceAt g s.fab.id a j)))
  segs.zipIdx.foldl (fun s e =>
    let last := if e.2 + 1 = segs.length then flagLast else 0
    sendCol (g.succOf s.fab.id a) (op.header last a op.pass 0 (op.pieceCode j) e.2 ++ e.1) s) s

/-! ### Ends (R307, R308, R311) -/

/-- Sends ABORT to the ring successor on each axis not yet completed, once (R308). -/
def sendAborts (op : ColOp) (s : State) : State :=
  let g := s.opGroup op
  ((op.axes g s.fab.id).drop op.phase).foldl
    (fun s a => sendCol (g.succOf s.fab.id a) (op.header (flagAbort + flagLast) a op.pass 0 0 0) s) s

/-- COLL_DONE of an operation (R311). -/
def ColOp.doneBytes (op : ColOp) (status peer now : Nat) : List Byte :=
  leBytes 4 op.tag.toNat ++ leBytes 4 op.seq.toNat ++ leBytes 4 op.user.toNat
    ++ [BitVec.ofNat 8 status, BitVec.ofNat 8 (bitNat op.sat + 2 * bitNat op.late + 4 * bitNat op.detour), 0, 0]
    ++ leBytes 4 (min 0xFFFFFFFF ((now - op.since) / 1000000)) ++ leBytes 2 peer

/-- What an operation leaves in its output buffer (Table 13.1). -/
def ColOp.output (op : ColOp) (g : Group) (id : Nat) : List Int :=
  if op.kind = 4 then []
  else if op.kind = 1 then runOf op.vec (pieceRun (0, op.count) g.members (g.rank id))
  else op.vec

/-- Counts an operation that has ended. -/
def countOp (op : ColOp) (status : Nat) (s : State) : State :=
  onShtl (fun x => { x with
    ops := bump x.ops,
    timeouts := if status = 1 then bump x.timeouts else x.timeouts,
    aborted := if status = 3 then bump x.aborted else x.aborted,
    mismatch := if status = 4 then bump x.mismatch else x.mismatch,
    detour := if op.detour then bump x.detour else x.detour,
    satCnt := if op.sat then bump x.satCnt else x.satCnt }) s

/-- A Windlass run takes the result of its collective, or ends without one (R247, R305). -/
def runTakes (op : ColOp) (ok : Bool) (s : State) : State :=
  match s.weir.run with
  | none => s
  | some r =>
    if !r.posted || r.group != op.tag then s
    else if !ok then startDue (endRun s)
    else
      let c := op.vec.zipIdx.foldl (fun t e => Tab.put 0 t e.2 e.1) ([] : Tab Int)
      onRun (fun r => { r with c := c, reduced := true, sat := r.sat || op.sat, late := r.late || op.late }) s

/-- An operation ends with a status: its output is written, its function is told, and its slot is free (R308, R311). -/
def endOp (k status peer : Nat) (s : State) : State :=
  let op := s.opAt k
  let g := s.opGroup op
  let s0 := if status = 0 then s else sendAborts op s
  let s1 := countOp op status (onShtl (fun x => { x with slots := Tab.del x.slots k }) s0)
  match op.fn with
  | none => runTakes op (status = 0) s1
  | some f =>
    let out := op.toBytes (op.output g s.fab.id)
    let s2 := if status = 0 && out != [] then hostWrite g.berth op.dst.toNat out s1 else s1
    postEvent f 0x0B01 (op.doneBytes status peer s.tide.nowFs) s2

/-! ### Going on -/

/-- The contribution to the part in hand is present: always, but for a Windlass run's tile (R305). -/
def State.partReady (s : State) (op : ColOp) : Bool :=
  op.fn.isSome || (match s.weir.run with
    | some r => r.posted && r.group == op.tag && (if r.stream then r.done.contains op.part else r.allDone)
    | none => false)

/-- A Windlass operation takes the elements of the tile in hand, with the run's flags (R305, R246). -/
def loadPart (k : Nat) (s : State) : State :=
  let op := s.opAt k
  match op.fn, s.weir.run with
  | none, some r =>
    let start := op.part * op.partLen
    let vs := Tab.run 0 r.c start (min op.partLen (op.count - start))
    onOp k (fun x => { x with vec := putRun x.vec start vs, sat := x.sat || r.sat, late := x.late || r.late }) s
  | _, _ => s

/-- The axis whose ring an operation is on. -/
def State.opAxis (s : State) (op : ColOp) : Option Nat := (op.axes (s.opGroup op) s.fab.id)[op.phase]?

/-- The ring on the current axis has ended. -/
def axisDone (k : Nat) (s : State) : State :=
  onOp k (fun x => { x with phase := x.phase + 1, pass := x.firstPass, step := 0, begun := false }) s

/-- Begins the ring on an axis: the first piece is sent; the member that holds a broadcast's vector has nothing to receive. -/
def beginAxis (k a : Nat) (s : State) : State :=
  let s0 := onOp k (fun x => { x with pass := x.firstPass, step := 0, begun := true })
    (if (s.opAt k).phase = 0 then loadPart k s else s)
  let op := s0.opAt k
  let d := op.distance (s0.opGroup op) s0.fab.id a
  if op.kind = 3 then (if d = 0 then axisDone k (sendFirst k a s0) else onOp k (fun x => { x with step := d - 1 }) s0)
  else sendFirst k a s0

/-- Every axis of the part in hand is done: the next part, or the end. -/
def partDone (k : Nat) (s : State) : State :=
  let s0 := if (s.opAt k).phase = 0 then loadPart k s else s
  let op := s0.opAt k
  if op.part + 1 < op.parts then onOp k (fun x => { x with part := x.part + 1, phase := 0, begun := false }) s0
  else endOp k 0 0xFFFF s0

/-- What follows a step of a pass on a ring of n: the next pass and step, if the piece received is sent on. -/
def ColOp.following (op : ColOp) (n : Nat) : Option (Nat × Nat) :=
  if op.step + 2 < n then some (op.pass, op.step + 1)
  else if op.pass = 0 && (op.kind = 0 || op.kind = 4) then some (1, 0)
  else none

/-- A segment of the incoming piece is placed or reduced, and sent on at once when the piece goes on (R300, R303). -/
def takeSegment (k a : Nat) (h : ColHdr) (data : List Byte) (s : State) : State :=
  let op := s.opAt k
  let g := s.opGroup op
  let n := g.ext a
  let j := if op.kind = 3 then 0 else recvPiece op.pass (g.index s.fab.id a) n op.step
  let at0 := (op.pieceAt g s.fab.id a j).1 + op.segIn.length / op.esize
  let new := op.ofBytes data
  let own := runOf op.vec (at0, new.length)
  let exact := if op.pass = 0 && op.kind != 3 then List.zipWith op.reduceExact own new else new
  let vals := exact.map op.sat1
  let last := bitOf h.flags 3
  let op1 := { op with
    vec := putRun op.vec at0 vals, sat := op.sat || bitOf h.flags 0 || vals != exact, late := op.late || bitOf h.flags 1,
    segIn := if last then [] else op.segIn ++ data }
  let s1 := onOp k (fun _ => op1) s
  let s2 := match op.following n with
    | some (p, t) =>
      sendCol (g.succOf s.fab.id a) (op1.header (if last then flagLast else 0) a p t (op.pieceCode j) h.seg ++ op.toBytes vals) s1
    | none => s1
  if !last then s2
  else if op.kind = 3 then axisDone k s2
  else match op.following n with
    | some (p, t) => onOp k (fun x => { x with pass := p, step := t }) s2
    | none => axisDone k s2

/-- A waiting message is for an operation. -/
def ColOp.owns (op : ColOp) (h : ColHdr) : Bool := h.tag == op.tag && h.seq == op.seq

/-- A message differs in OP, DTYPE, RED, COUNT or ROOT (R304). -/
def ColOp.differs (op : ColOp) (h : ColHdr) : Bool := h.word != op.word || h.count != op.count || h.root != op.root

/-- A message is the one that an operation expects on axis a. -/
def ColOp.expects (op : ColOp) (a : Nat) (h : ColHdr) : Bool :=
  op.begun && h.axis == a && h.pass == op.pass && h.step == op.step && h.piece / 16 == op.part

/-- The first waiting message that an operation can act on. -/
def State.colNext (s : State) (k : Nat) : Option Nat :=
  let op := s.opAt k
  let a := (s.opAxis op).getD 3
  s.shtl.early.findIdx? (fun m =>
    let h := colHdr m.body
    op.owns h && (bitOf h.flags 2 || op.differs h || op.expects a h))

/-- An operation acts on a waiting message: ABORT ends it, a difference ends it with MISMATCH, and the expected segment goes on (R304,
R308). -/
def actOn (k i : Nat) (s : State) : State :=
  let m := s.shtl.early.getD i {}
  let h := colHdr m.body
  let op := s.opAt k
  let s1 := onShtl (fun x => { x with early := x.early.eraseIdx i }) s
  if bitOf h.flags 2 then endOp k 3 0xFFFF s1
  else if op.differs h then endOp k 4 0xFFFF s1
  else takeSegment k ((s.opAxis op).getD 0) h (m.body.drop 24) s1

/-- An operation takes a slot, as the next OP_SEQ of its group. -/
def postOp (k : Nat) (op : ColOp) (s : State) : State :=
  let i := op.tag.toNat
  onShtl (fun x => { x with
    slots := Tab.put {} x.slots k { op with seq := (s.groupAt i).nextSeq, since := s.tide.nowFs },
    group := Tab.upd {} x.group i (fun g => { g with nextSeq := g.nextSeq + 1 }) }) s

/-- A free slot takes the operation of the Windlass run in progress (R305).  A run whose group is gone ends without a result. -/
def postRun (r : WindRun) (s : State) : Option State :=
  if r.posted || !r.shuttled || !(if r.stream then r.done != [] else r.allDone) then none
  else if !(s.groupAt r.group.toNat).valid || !s.domainOn 143 then some (startDue (endRun s))
  else match s.freeOp with
    | none => none
    | some k =>
      let op : ColOp := {
        tag := r.group, wide := true, count := r.m * r.n, partLen := 64 * r.n, vec := List.replicate (r.m * r.n) 0 }
      some (onRun (fun r => { r with posted := true }) (postOp k op s))

/-- An operation that was started before another of its group and is still pending. -/
def State.opBlocked (s : State) (k : Nat) : Bool :=
  let op := s.opAt k
  s.shtl.slots.any (fun e => e.1 != k && e.2.tag == op.tag && (op.seq - e.2.seq).toNat < 2 ^ 31)

/-- The Windlass run that posted an operation has ended. -/
def State.runGone (s : State) (op : ColOp) : Bool :=
  op.fn.isNone && !(match s.weir.run with
    | some r => r.posted && r.group == op.tag
    | none => false)

/-- One action of an operation, if it can go on. -/
def opAct (k : Nat) (s : State) : Option State :=
  let op := s.opAt k
  if s.runGone op then some (endOp k 3 0xFFFF s)
  else if !op.running then (if s.opBlocked k then none else some (onOp k (fun x => { x with running := true }) s))
  else match s.colNext k with
    | some i => some (actOn k i s)
    | none =>
      match s.opAxis op with
      | none => if op.phase = 0 && !s.partReady op then none else some (partDone k s)
      | some a =>
        if s.fab.st != 3 && !s.fab.reaches s.fab.id ((s.opGroup op).succOf s.fab.id a) then
          some (endOp k 2 0xFFFF s)
        else if op.begun || (op.phase = 0 && !s.partReady op) then none
        else some (beginAxis k a s)

/-- The next action of the Shuttle. -/
def shtlAct (s : State) : Option State :=
  match s.weir.run.bind (fun r => postRun r s) with
  | some s1 => some s1
  | none => s.opSlots.findSome? (fun k => opAct k s)

/-- Runs every action that can be taken. -/
def shtlSettle : Nat → State → State
  | 0, s => s
  | n + 1, s =>
    match shtlAct s with
    | some s1 => shtlSettle n s1
    | none => s

/-- Bound on the actions of one command: segments of the largest vector on every axis, for every slot. -/
def shtlFuel : Nat := 1000000

/-- The Shuttle goes on as far as it can. -/
def shtlGo (s : State) : State := shtlSettle shtlFuel s

/-- Every operation of the groups that satisfy a test ends ABORTED (R307). -/
def abortOps (p : Group → Bool) (s : State) : State :=
  s.opSlots.foldl (fun s k => if p (s.opGroup (s.opAt k)) then endOp k 3 0xFFFF s else s) s

/-- A berth's operations end ABORTED, and its groups are released (R307). -/
def releaseGroups (b : Nat) (s : State) : State :=
  onShtl (fun x => { x with group := x.group.filter (fun e => e.2.berth != b) }) (abortOps (fun g => g.berth == b) s)

end Sys2Proof.Machine
end

