-- ==== Sys2Proof/Machine/Strainer.lean ====
section
/-! DEFINITION. The strainer's commands, its block moves and its protection (06_strainer.md R150 to R160). -/

namespace Sys2Proof.Machine

/-! ### Settings (R140, R143, R145) -/

/-- The move in progress of a berth. -/
def State.moveOf (s : State) (b : Nat) : Option Move := Tab.look none s.strn.move b

/-- Sets the move in progress of a berth. -/
def setMove (b : Nat) (m : Option Move) (s : State) : State := onStrn (fun w => { w with move := Tab.put none w.move b m }) s

/-- A berth has a live match context. -/
def State.ctxLive (s : State) (b : Nat) : Bool := (List.range 64).any (fun i => (s.ctxAt (64 * b + i)).live)

/-- Removes the rule entries of a berth's range. -/
def clearRange (b : Nat) (s : State) : State :=
  let x := s.strnB b
  onStrn (fun w => { w with rule := Tab.keep (fun i _ => !(x.rbase ≤ i && i < x.rbase + x.rsize)) w.rule }) s

/-- Sets a berth's partition; a range that moves, or shrinks below its used entries, loses them. -/
def setPartition (rq : Req) (s : State) : State :=
  let b := rq.u8 0
  let x := s.strnB b
  let kept := rq.u16 2 = x.rbase && x.rcount ≤ rq.u16 4
  let s1 := if kept then s else clearRange b s
  onStrnB b (fun x => { x with
    rbase := rq.u16 2, rsize := rq.u16 4, rcount := if kept then x.rcount else 0, pquota := rq.u16 6, squota := rq.u16 8 }) s1

/-- STRAINER_PARTITION (R143, R145, R156). -/
def execStrainerPartition (rq : Req) (s : State) : Result :=
  .next (serve (cmdH 0x0601 12) rq (fun s =>
    let b := rq.u8 0
    let others := (List.range 16).filter (· ≠ b)
    let sum := fun (g : StrnB → Nat) => (others.map (fun o => g (s.strnB o))).foldl (· + ·) 0
    if !berthOk rq 0 || 16383 < rq.u16 2 || 16384 < rq.u16 2 + rq.u16 4 || 8192 < rq.u16 6 || 256 < rq.u16 8 then .err .badParam
    else if others.any (fun o => overlaps (rq.u16 2) (rq.u16 4) (s.strnB o).rbase (s.strnB o).rsize)
        || 8192 < sum StrnB.pquota + rq.u16 6 || 256 < sum StrnB.squota + rq.u16 8 then .err .noResource
    else if (s.moveOf b).isSome || s.ctxLive b then .err .busy
    else .ok (setPartition rq s) []) s)

/-- STRAINER_BERTH_CONFIG (R140, R147, R148). -/
def execStrainerBerthConfig (rq : Req) (s : State) : Result :=
  .next (serve (cmdOwn 0x0604 8 0) rq (fun s =>
    if !berthOk rq 0 || 256 < rq.u16 2 || 2 < rq.u8 4 || 10000 < rq.u16 6 then .err .badParam
    else .ok (onStrnB (rq.u8 0) (fun x => { x with
      scanOff := BitVec.ofNat 8 (rq.u8 1), scanLen := BitVec.ofNat 16 (rq.u16 2), onNoMatch := BitVec.ofNat 4 (rq.u8 4),
      handleAge := BitVec.ofNat 16 (rq.u16 6) }) s) []) s)

/-! ### Pattern sets (R143, R156) -/

/-- STRAINER_PATTERN_STAGE: a chunk at offset 0 begins a new image. -/
def execStrainerPatternStage (rq : Req) (s : State) : Result :=
  .next (serve { cmdOwn 0x0602 8 0 with len := fun p => 8 + fieldLe p 2 2 } rq (fun s =>
    let n := rq.u16 2
    let off := rq.u32 4
    if !berthOk rq 0 || n = 0 || 4072 < n then .err .badParam
    else .ok (onStrnB (rq.u8 0) (fun x => { x with
      staging := Tab.putAll 0 (if off = 0 then [] else x.staging) off (rq.bytes 8 n),
      stagedLen := if off = 0 then n else max x.stagedLen (off + n) }) s) []) s)

/-- The staged image of a berth. -/
def StrnB.staged (x : StrnB) : List Byte := Tab.run 0 x.staging 0 x.stagedLen

/-- STRAINER_PATTERN_COMMIT: the staged set is checked and installed, its CONFIG record first. -/
def execStrainerPatternCommit (rq : Req) (s : State) : Result :=
  .next (serve (cmdOwn 0x0603 36 0) rq (fun s =>
    let b := rq.u8 0
    let x := s.strnB b
    let img := x.staged
    if !berthOk rq 0 || x.stagedLen = 0 || sha256 img != rq.bytes 4 32 then .err .badParam
    else if x.pquota < Config.setPatterns img || x.squota < Config.setBlocks img then .err .noResource
    else if s.setWaits b then .err .busy
    else
      let s1 := onStrnB b (fun x => { x with staging := [], stagedLen := 0, pend := some img }) s
      .ok (settleSet b (append b 4 0 2 (sha256 img) s1)) []) s)

/-! ### Rules (R150 to R154) -/

/-- The entry of a rule request (Table 06.2). -/
def ruleOf (rq : Req) : Rule :=
  { value := rq.bytes 4 41, mask := rq.bytes 45 41, ruleId := BitVec.ofNat 16 (rq.u16 86), result := BitVec.ofNat 32 (rq.u32 88) }

/-- The entry is legal: RULE_ID is not 0 and unique in the range but for an index, and ACTION is 0 to 2. -/
def State.ruleLegal (s : State) (b : Nat) (r : Rule) (self : Option Nat) : Bool :=
  let x := s.strnB b
  r.ruleId != 0 && r.result.toNat % 16 ≤ 2
  && !((List.range x.rsize).map (· + x.rbase)).any (fun i => some i != self && (s.ruleAt i).ruleId == r.ruleId)

/-- An index is that of a used entry. -/
def State.usedIndex (s : State) (b i : Nat) : Bool := (s.strnB b).rbase ≤ i && i < (s.strnB b).rbase + (s.strnB b).rcount

/-- Changes the positions of a berth's live contexts that point at an entry. -/
def shiftCtx (b i : Nat) (dest : Int) (s : State) : State :=
  (List.range 64).foldl (fun s k =>
    let c := s.ctxAt (64 * b + k)
    if c.live && c.pos = i then onStrn (fun w => { w with ctx := Tab.put {} w.ctx (64 * b + k) { c with pos := dest } }) s else s) s

/-- STRAINER_RULE_INSERT: an append is written at once; any other insert begins a move, and is answered when it completes. -/
def execStrainerRuleInsert (rq : Req) (s : State) : Result :=
  .next (serve (cmdOwn 0x0605 92 0) rq (fun s =>
    let b := rq.u8 0
    let i := rq.u16 2
    let x := s.strnB b
    if !berthOk rq 0 || i < x.rbase || x.rbase + x.rcount < i || !s.ruleLegal b (ruleOf rq) none then .err .badParam
    else if (s.moveOf b).isSome then .err .busy
    else if x.rsize ≤ x.rcount then .err .noResource
    else if i = x.rbase + x.rcount then .ok (onStrnB b (fun x => { x with rcount := x.rcount + 1 }) (setRule i (ruleOf rq) s)) []
    else .later (setMove b (some { del := false, index := i, cur := x.rbase + x.rcount - 1, entry := ruleOf rq, fn := rq.fn.val }) s)) s)

/-- STRAINER_RULE_DELETE: the entry is invalidated at once, and the hole closed by a move. -/
def execStrainerRuleDelete (rq : Req) (s : State) : Result :=
  .next (serve (cmdOwn 0x0606 4 0) rq (fun s =>
    let b := rq.u8 0
    let i := rq.u16 2
    let x := s.strnB b
    if !berthOk rq 0 || !s.usedIndex b i then .err .badParam
    else if (s.moveOf b).isSome then .err .busy
    else
      let s1 := shiftCtx b i ((i : Int) - 1) (setRule i {} s)
      if i + 1 = x.rbase + x.rcount then .ok (onStrnB b (fun x => { x with rcount := x.rcount - 1 }) s1) []
      else .later (setMove b (some { del := true, index := i, cur := i + 1, fn := rq.fn.val }) s1)) s)

/-- STRAINER_RULE_WRITE: a used entry is rewritten in place, which ends its damage (R156, R157). -/
def execStrainerRuleWrite (rq : Req) (s : State) : Result :=
  .next (serve (cmdOwn 0x0607 92 0) rq (fun s =>
    let b := rq.u8 0
    let i := rq.u16 2
    if !berthOk rq 0 || !s.usedIndex b i || !s.ruleLegal b (ruleOf rq) (some i) then .err .badParam
    else if (s.moveOf b).isSome then .err .busy
    else .ok (setRule i (ruleOf rq) s) []) s)

/-- One entry moves from an index to its neighbour; the source is invalidated and the contexts that point at it shift, indivisibly
(R150, R153). -/
def moveEntry (b src dst : Nat) (s : State) : State :=
  let s1 := shiftCtx b src dst (setRule src {} (setRule dst (s.ruleAt src) s))
  count 0x0031 { masters := [(2, b)], addr := some (1, 7, src) } 1 (onStrn (fun w => { w with moveSteps := bump w.moveSteps }) s1)

/-- A step of an insert: the last one also writes the new entry, and the command is answered. -/
def insertStep (b : Nat) (m : Move) (s : State) : State :=
  let s1 := moveEntry b m.cur (m.cur + 1) s
  if m.cur ≤ m.index then
    finish m.fn 0x0605 .ok [] (setMove b none (onStrnB b (fun x => { x with rcount := x.rcount + 1 }) (setRule m.index m.entry s1)))
  else setMove b (some { m with cur := m.cur - 1 }) s1

/-- A step of a delete. -/
def deleteStep (b : Nat) (m : Move) (s : State) : State :=
  let x := s.strnB b
  let s1 := moveEntry b m.cur (m.cur - 1) s
  if x.rbase + x.rcount ≤ m.cur + 1 then
    finish m.fn 0x0606 .ok [] (setMove b none (onStrnB b (fun x => { x with rcount := x.rcount - 1 }) s1))
  else setMove b (some { m with cur := m.cur + 1 }) s1

/-- MOVE_STEP: the move engine, given a free slot, makes one step for the next berth in rotation with a move (R154). -/
def execMoveStep (s : State) : Result :=
  match ((List.range 16).map (fun i => (s.strn.moveNext + i) % 16)).find? (fun b => (s.moveOf b).isSome) with
  | none => .next s
  | some b =>
    let s1 := onStrn (fun w => { w with moveNext := (b + 1) % 16 }) s
    match s.moveOf b with
    | some m => .next (if m.del then deleteStep b m s1 else insertStep b m s1)
    | none => .next s1

/-! ### Lookups by command (R147 to R149) -/

/-- STRAINER_LOOKUP_CMD: a lookup like a frame's, of a key given by command. -/
def execStrainerLookupCmd (rq : Req) (s : State) : Result :=
  .next (serve (cmdOwn 0x0608 48 0) rq (fun s =>
    if !berthOk rq 0 then .err .badParam
    else
      let (s1, r) := strnLookup (rq.u8 0) (rq.bytes 4 41) none s
      .ok s1 (leBytes 8 r)) s)

/-- A handle names a live context that the function may step: its own berth's, or any for the harbour. -/
def State.handleCtx (s : State) (rq : Req) : Option (Nat × Nat) :=
  let h := rq.u16 0
  let b := h / 4096
  let k := 64 * b + h / 64 % 64
  let mine := match s.role rq.fn.val with
    | .harbour => true
    | .berth me => me == b
    | _ => false
  if mine && (s.ctxAt k).live && (s.ctxAt k).seq == h % 64 then some (b, k) else none

/-- Frees a context, and the frame's hold on it. -/
def endCtx (k : Nat) (s : State) : State :=
  match (s.ctxAt k).frame with
  | some f => onFrame f (fun x => if x.ctxSlot = some k then { x with ctxSlot := none } else x) (freeCtx k s)
  | none => freeCtx k s

/-- STRAINER_MATCH_NEXT: a handle steps to the next matching entry, or ends (R149). -/
def execStrainerMatchNext (rq : Req) (s : State) : Result :=
  .next (serve (cmdHB 0x0609 4) rq (fun s =>
    match s.handleCtx rq with
    | none => .err .state
    | some (b, k) =>
      let c := s.ctxAt k
      let next := (s.matchesFrom b (c.pos + 1).toNat c.key).head?
      let s1 := count 0x0030 { masters := [(2, b)], addr := some (1, 7, next.getD c.pos.toNat) } 1 s
      match next with
      | some j =>
        let r := s.ruleAt j
        .ok (onStrn (fun w => { w with ctx := Tab.put {} w.ctx k { c with pos := j } }) s1)
          (leBytes 2 j ++ leBytes 2 r.ruleId.toNat ++ leBytes 4 r.result.toNat)
      | none => .ok (endCtx k s1) (leBytes 2 0xFFFF ++ zeros 6)) s)

/-! ### Status and protection (R157 to R160) -/

/-- STRN_STATUS and STRN_DAMAGED, with the bits of some berths. -/
def strnWords (s : State) (bs : List Nat) : List Byte :=
  leBytes 4 (s.strn.units.toNat + 16 * maskOf 16 (fun b => bs.contains b && (s.moveOf b).isSome))
    ++ leBytes 4 (maskOf 16 (fun b => bs.contains b && (s.rangeDamaged b || (s.strnB b).autoDamaged != 0)))

/-- STRAINER_STATUS: both registers, then each berth's partition and pattern-set digest (R160). -/
def execStrainerStatus (rq : Req) (s : State) : Result :=
  .next (serve (cmdHBA 0x060A 0) rq (fun s =>
    let bs := s.statusBerths rq
    let one := fun b =>
      let x := s.strnB b
      leBytes 2 x.rbase ++ leBytes 2 x.rsize ++ leBytes 2 x.rcount ++ leBytes 2 x.pquota ++ leBytes 2 x.squota ++ padTo 32 x.digest
    .ok s (strnWords s bs ++ (bs.map one).flatten)) s)

/-- The berth whose range holds a rule index. -/
def State.ruleOwner (s : State) (i : Nat) : Option Nat :=
  (List.range 16).find? (fun b => (s.strnB b).rbase ≤ i && i < (s.strnB b).rbase + (s.strnB b).rsize)

/-- An uncorrectable error in a rule entry marks its berth's range DAMAGED (R157). -/
def damageRule (i : Nat) (s : State) : State :=
  match s.ruleOwner i with
  | some b => if (s.ruleAt i).ruleId = 0 then s else raise 11 0 0 0 i (some b) (setRule i { s.ruleAt i with damaged := true } s)
  | none => s

/-- An uncorrectable error in a unit's copy of a berth's automaton marks it DAMAGED (R157). -/
def damageAutomaton (b u i : Nat) (s : State) : State :=
  if (s.strnB b).image = [] then s
  else raise 11 0 u 0 i (some b) (onStrnB b (fun x => { x with autoDamaged := x.autoDamaged ||| BitVec.ofNat 4 (2 ^ u) }) s)

/-- RULE_FLUSHING: background flushing reads one word (R157). -/
def execRuleFlushing (unit : Fin 4) (automaton : Bool) (err : EccErr) (s : State) : Result :=
  let i := s.strn.flushAt
  let s1 := onStrn (fun w => { w with flushAt := (i + 1) % 16384 }) s
  match err with
  | .ok => .next s1
  | .corrected => .next (onStrn (fun w => { w with eccCorr := bump w.eccCorr }) s1)
  | .uncorrectable =>
    let s2 := onStrn (fun w => { w with eccUncorr := bump w.eccUncorr }) s1
    .next (if automaton then damageAutomaton (i % 16) unit.val i s2 else damageRule i s2)

/-- STRN_UNIT_FAIL: a unit leaves service, and its partner serves its ports (R158). -/
def execStrnUnitFail (u : Fin 4) (s : State) : Result :=
  if !s.strn.units.getLsbD u.val then .next s
  else .next (raise 11 1 u.val 0 0 none (onStrn (fun w => { w with units := w.units &&& ~~~(BitVec.ofNat 4 (2 ^ u.val)) }) s))

end Sys2Proof.Machine
end

