-- ==== Sys2Proof/Machine/Tables.lean ====
section
/-! DEFINITION. The table commands, ageing, and the protection of the tables (07_tables.md R168 to R185). -/

namespace Sys2Proof.Machine

/-! ### Partitions (R168, R171) -/

/-- Size of a table: buckets, entries or prefixes (Table 07.2, R168). -/
def tableSize (t : Nat) : Nat :=
  match t with
  | 0 => 65536
  | 1 => 524288
  | 2 => 131072
  | 3 => 8192
  | 4 => 16384
  | 5 => 4096
  | _ => 65536

/-- Step of BASE and SIZE of a table (R171). -/
def tableStep (t : Nat) : Nat := if t = 0 then 1024 else if t = 3 then 256 else 1

/-- The table is a trie, with a prefix quota. -/
def isTrie (t : Nat) : Bool := t == 1 || t == 2

/-- Entries a berth holds in a table. -/
def State.tableUsed (s : State) (b t : Nat) : Nat :=
  let x := s.fwdB b
  let within := fun i => x.baseOf t ≤ i && i < x.baseOf t + x.sizeOf t
  match t with
  | 0 => Tab.count (fun _ e => e.valid && e.berth == b) s.fwd.l2
  | 1 => (s.fwd.routes.filter (fun r => r.berth == b && !r.v6)).length
  | 2 => (s.fwd.routes.filter (fun r => r.berth == b && r.v6)).length
  | 3 => Tab.count (fun _ e => e.valid && e.berth == b) s.fwd.host
  | 4 => Tab.count (fun i _ => within i) s.fwd.mcast
  | 5 => Tab.count (fun i _ => within i) s.fwd.ecmp
  | _ => ((List.range (x.sizeOf 5)).map (fun i => (Tab.look {} s.fwd.ecmp (x.baseOf 5 + i)).count)).foldl (· + ·) 0

/-- Node counts of the deeper memories of a family, from M2 (Table 07.2). -/
def nodeCounts (v6 : Bool) : List Nat := if v6 then [16, 4096, 4096, 4096, 4096] else [8192, 32768, 32768]

/-- A berth's root of a family. -/
def FwdB.rootOf (x : FwdB) (v6 : Bool) : Option Nat := if v6 then x.root6 else x.root4

/-- The lowest free root of a family. -/
def State.freeRoot (s : State) (v6 : Bool) : Option Nat :=
  (List.range 8).find? (fun r => !(List.range 16).any (fun b => (s.fwdB b).rootOf v6 == some r))

/-- Gives or takes a berth's root with its quota: a nonzero quota holds one (R168). -/
def setRoot (b : Nat) (v6 : Bool) (r : Option Nat) (s : State) : State :=
  let s1 := onFwdB b (fun x => if v6 then { x with root6 := r } else { x with root4 := r }) s
  onFwd (fun w =>
    let rest := w.nodes.filter (fun n => !(n.berth == b && n.v6 == v6 && n.level == 1))
    { w with nodes := match r with
        | some k => { berth := b, v6 := v6, level := 1, path := 0, num := k } :: rest
        | none => rest }) s1

/-- TABLES_PARTITION: a range that moves or shrinks must hold no entry (R181). -/
def execTablesPartition (rq : Req) (s : State) : Result :=
  .next (serve (cmdH 0x0701 12) rq (fun s =>
    let b := rq.u8 0
    let t := rq.u8 1
    let base := if isTrie t then 0 else rq.u32 4
    let size := rq.u32 8
    let x := s.fwdB b
    let others := (List.range 16).filter (· ≠ b)
    let v6 := t = 2
    let sum := (others.map (fun o => (s.fwdB o).sizeOf t)).foldl (· + ·) size
    if !berthOk rq 0 || 6 < t || tableSize t < base + size || base % tableStep t ≠ 0 || size % tableStep t ≠ 0 then .err .badParam
    else if (if isTrie t then tableSize t < sum
             else others.any (fun o => overlaps base size ((s.fwdB o).baseOf t) ((s.fwdB o).sizeOf t))) then .err .noResource
    else if isTrie t && 0 < size && (x.rootOf v6).isNone && (s.freeRoot v6).isNone then .err .noResource
    else if (size < x.sizeOf t || (base ≠ x.baseOf t && !isTrie t)) && 0 < s.tableUsed b t then .err .state
    else
      let s1 := onFwdB b (fun x => { x with base := Tab.put 0 x.base t base, size := Tab.put 0 x.size t size }) s
      .ok (if !isTrie t then s1
           else if size = 0 then setRoot b v6 none s1
           else if (x.rootOf v6).isNone then setRoot b v6 (s.freeRoot v6) s1 else s1) []) s)

/-! ### Settings (R161, R174) -/

/-- An index lies in a berth's partition of a table. -/
def FwdB.holds (x : FwdB) (t i : Nat) : Bool := x.baseOf t ≤ i && i < x.baseOf t + x.sizeOf t

/-- TABLES_BERTH_CONFIG. -/
def execTablesBerthConfig (rq : Req) (s : State) : Result :=
  .next (serve (cmdOwn 0x0703 16 0) rq (fun s =>
    let b := rq.u8 0
    if !berthOk rq 0 || 2 < rq.u8 1 || 1 < rq.u8 2 || 2 < rq.u8 3 || (rq.u8 4 ≠ 0 && rq.u8 4 ≠ 2) || 1 < rq.u8 5 || rq.u16 6 = 0
        || 4094 < rq.u16 6 || 16383 < rq.u16 8 || 1000000 < rq.u32 12 then .err .badParam
    else if rq.u8 3 = 1 && !(s.fwdB b).holds 4 (rq.u16 8) then .err .noPerm
    else .ok (onFwdB b (fun x => { x with
      mode := BitVec.ofNat 2 (rq.u8 1), learn := rq.u8 2 == 1, l2Miss := BitVec.ofNat 2 (rq.u8 3), routeMiss := BitVec.ofNat 2 (rq.u8 4),
      ecmpKey0 := rq.u8 5 == 1, defVlan := BitVec.ofNat 12 (rq.u16 6), floodGroup := BitVec.ofNat 16 (rq.u16 8),
      l2Age := BitVec.ofNat 32 (rq.u32 12) }) s) []) s)

/-! ### Results (R165, 09_berths.md R212) -/

/-- The fields of a result lie in their ranges (Table 07.1). -/
def resultOk (r : Nat) : Bool :=
  let i := resIndex r
  (resKind r == 5 || resDevice r == 0)
  && match resKind r with
    | 0 => true
    | 1 => i < 64
    | 2 => i < 4096
    | 3 => true
    | 4 => i < 4
    | 5 => i < 64
    | _ => false

/-- A berth's result may name what it names (09_berths.md R212, R171). -/
def State.mayResult (s : State) (b r : Nat) : Bool :=
  match resKind r with
  | 1 => s.mayUsePort b (resIndex r) (resTc r)
  | 2 => (s.fwdB b).holds 5 (resIndex r)
  | 3 => (s.fwdB b).holds 4 (resIndex r)
  | 5 => (s.berthAt b).fabricOk
  | _ => true

/-! ### Hashed tables (R170) -/

/-- TABLES_L2_WRITE: a static entry is added or an entry deleted. -/
def execTablesL2Write (rq : Req) (s : State) : Result :=
  .next (serve (cmdOwn 0x0704 16 0) rq (fun s =>
    let b := rq.u8 0
    let fid := rq.u16 2
    let mac := rq.bytes 4 6
    let r := rq.u32 12
    if !berthOk rq 0 || 1 < rq.u8 1 || fid = 0 || 4094 < fid || beNat mac = 0 || (rq.u8 1 = 0 && !resultOk r) then .err .badParam
    else if rq.u8 1 = 1 then
      match s.findL2 b fid mac with
      | some w => .ok (clearPoison 0 0 w (onFwd (fun t => { t with l2 := Tab.del t.l2 w }) s)) []
      | none => .ok s []
    else if !s.mayResult b r then .err .noPerm
    else match (s.findL2 b fid mac).or ((s.hashWays 0 b fid mac).find? (fun w => !(Tab.look {} s.fwd.l2 w).valid)) with
      | some w =>
        let e : L2Entry := { valid := true, berth := b, fid := BitVec.ofNat 12 fid, mac := mac, result := BitVec.ofNat 32 r, static := true,
                             hit := (Tab.look {} s.fwd.l2 w).hit }
        .ok (clearPoison 0 0 w (onFwd (fun t => { t with l2 := Tab.put {} t.l2 w e }) s)) []
      | none => .err .noResource) s)

/-- Writes a host entry: an IPv6 /128 (R169). -/
def writeHost (b r : Nat) (addr : List Byte) (s : State) : Reply :=
  match (s.findHost b addr).or ((s.hashWays 3 b 0 addr).find? (fun w => !(Tab.look {} s.fwd.host w).valid)) with
  | some w =>
    let e : HostEntry := { valid := true, berth := b, addr := addr, result := BitVec.ofNat 32 r }
    .ok (clearPoison 3 0 w (onFwd (fun t => { t with host := Tab.put {} t.host w e }) s)) []
  | none => .err .noResource

/-- Deletes a host entry. -/
def deleteHost (b : Nat) (addr : List Byte) (s : State) : Reply :=
  match s.findHost b addr with
  | some w => .ok (clearPoison 3 0 w (onFwd (fun t => { t with host := Tab.del t.host w }) s)) []
  | none => .ok s []

/-! ### Tries (R168, R169, R179) -/

/-- The level at which a prefix ends. -/
def prefixLevel (v6 : Bool) (len : Nat) : Nat :=
  ((List.range (strides v6).length).map (· + 1)).find? (fun l => len ≤ bitsAbove v6 (l + 1)) |>.getD 1

/-- Nodes of a family that a berth may have in memory Ml, l at least 2 (R168). -/
def State.nodeShare (s : State) (b : Nat) (v6 : Bool) (l : Nat) : Nat :=
  (nodeCounts v6).getD (l - 2) 0 * (s.fwdB b).sizeOf (famTable v6) / tableSize (famTable v6)

/-- The lowest free node of a memory. -/
def Fwd.freeNode (w : Fwd) (v6 : Bool) (l : Nat) : Option Nat :=
  (List.range ((nodeCounts v6).getD (l - 2) 0)).find? (fun k => !w.nodes.any (fun n => n.v6 == v6 && n.level == l && n.num == k))

/-- Adds the nodes of a prefix's path that do not exist; none when one is beyond the berth's share. -/
def State.addNodes (s : State) (b : Nat) (v6 : Bool) (pfx : Nat) : List Nat → Fwd → Option Fwd
  | [], w => some w
  | l :: ls, w =>
    if (w.nodeAt b v6 l pfx).isSome then s.addNodes b v6 pfx ls w
    else if s.nodeShare b v6 l ≤ (w.nodes.filter (fun n => n.berth == b && n.v6 == v6 && n.level == l)).length then none
    else match w.freeNode v6 l with
      | none => none
      | some k =>
        let n : TrieNode := { berth := b, v6 := v6, level := l, path := topBits v6 pfx (bitsAbove v6 l), num := k }
        let st := (strides v6).getD (l - 1) 0
        s.addNodes b v6 pfx ls { w with
          nodes := w.nodes ++ [n],
          poison := w.poison.filter (fun p => !(p.1 == famTable v6 && p.2.1 == l && k * 2 ^ st ≤ p.2.2 && p.2.2 < (k + 1) * 2 ^ st)) }

/-- The poison of the slots that a prefix's write covers clears. -/
def clearSlots (b : Nat) (v6 : Bool) (len pfx : Nat) (w : Fwd) : Fwd :=
  let l := prefixLevel v6 len
  match w.nodeAt b v6 l pfx with
  | none => w
  | some n =>
    let first := n.slot pfx
    let count := 2 ^ (bitsAbove v6 (l + 1) - len)
    { w with poison := w.poison.filter (fun p => !(p.1 == famTable v6 && p.2.1 == l && first ≤ p.2.2 && p.2.2 < first + count)) }

/-- A prefix is that of a route. -/
def Route.isFor (r : Route) (b : Nat) (v6 : Bool) (len pfx : Nat) : Bool := r.berth == b && r.v6 == v6 && r.len == len && r.pfx == pfx

/-- Adds or replaces a route. -/
def addRoute (b : Nat) (v6 : Bool) (len pfx r : Nat) (s : State) : Reply :=
  let t := famTable v6
  let rest := s.fwd.routes.filter (fun x => !x.isFor b v6 len pfx)
  let new : Route := { berth := b, v6 := v6, len := len, pfx := pfx, result := BitVec.ofNat 32 r }
  if (s.fwdB b).sizeOf t ≤ (rest.filter (fun x => x.berth == b && x.v6 == v6)).length then .err .noResource
  else match s.addNodes b v6 pfx ((List.range (prefixLevel v6 len - 1)).map (· + 2)) s.fwd with
    | none => .err .noResource
    | some w => .ok (onFwd (fun _ => clearSlots b v6 len pfx { w with routes := rest ++ [new] }) s) []

/-- A node is still on the path of a route that ends at its level or below. -/
def Fwd.nodeUsed (w : Fwd) (n : TrieNode) : Bool :=
  n.level == 1 || w.routes.any (fun r =>
    r.berth == n.berth && r.v6 == n.v6 && n.level ≤ prefixLevel r.v6 r.len && topBits r.v6 r.pfx (bitsAbove r.v6 n.level) == n.path)

/-- Deletes a route, and the nodes that no route uses any more. -/
def deleteRoute (b : Nat) (v6 : Bool) (len pfx : Nat) (s : State) : State :=
  onFwd (fun w =>
    let w1 := clearSlots b v6 len pfx { w with routes := w.routes.filter (fun x => !x.isFor b v6 len pfx) }
    { w1 with nodes := w1.nodes.filter w1.nodeUsed }) s

/-- LEN of a family is legal, and the bits of the prefix beyond it are 0 (R169, Table 07.8). -/
def prefixOk (v6 : Bool) (len addr : Nat) : Bool :=
  (if v6 then len ≤ 64 || len == 128 else len ≤ 32) && addr % 2 ^ (addrBits v6 - len) == 0

/-- TABLES_ROUTE_WRITE (R179). -/
def execTablesRouteWrite (rq : Req) (s : State) : Result :=
  .next (serve (cmdOwn 0x0705 24 0) rq (fun s =>
    let b := rq.u8 0
    let v6 := rq.u8 2 = 6
    let len := rq.u8 3
    let bytes := rq.bytes 4 (if v6 then 16 else 4)
    let addr := beNat bytes
    let r := rq.u32 20
    if !berthOk rq 0 || 1 < rq.u8 1 || (rq.u8 2 ≠ 4 && rq.u8 2 ≠ 6) || !prefixOk v6 len addr || (rq.u8 1 = 0 && !resultOk r) then
      .err .badParam
    else if rq.u8 1 = 1 then (if v6 && len = 128 then deleteHost b bytes s else .ok (deleteRoute b v6 len addr s) [])
    else if !s.mayResult b r then .err .noPerm
    else if v6 && len = 128 then writeHost b r bytes s
    else addRoute b v6 len addr r s) s)

/-! ### Groups (R166, R167) -/

/-- TABLES_MCAST_WRITE: each port must be one the berth may use on some traffic class. -/
def execTablesMcastWrite (rq : Req) (s : State) : Result :=
  .next (serve (cmdOwn 0x0706 16 0) rq (fun s =>
    let b := rq.u8 0
    let g := rq.u16 2
    if !berthOk rq 0 || !(s.fwdB b).holds 4 g then .err .badParam
    else if (setBits 64 (rq.u64 8)).any (fun p => !(List.range 8).any (s.mayUsePort b p)) then .err .noPerm
    else
      let m : Mcast := { ports := BitVec.ofNat 64 (rq.u64 8), rings := BitVec.ofNat 4 (rq.u8 4 % 16) }
      .ok (clearPoison 4 0 g (onFwd (fun w => { w with mcast := Tab.put {} w.mcast g m }) s)) []) s)

/-- A run of n member slots from a slot is free of the berth's groups. -/
def State.slotsFree (s : State) (b first n : Nat) : Bool :=
  let x := s.fwdB b
  !(List.range (x.sizeOf 5)).any (fun i =>
    let e := Tab.look {} s.fwd.ecmp (x.baseOf 5 + i)
    overlaps first n e.base e.count)

/-- The first fresh run of n member slots of a berth (R179). -/
def State.freshSlots (s : State) (b n : Nat) : Option Nat :=
  let x := s.fwdB b
  ((List.range (x.sizeOf 6 + 1 - n)).map (· + x.baseOf 6)).find? (fun i => s.slotsFree b i n)

/-- Swings an ECMP group to fresh member slots. -/
def swingGroup (g base : Nat) (ms : List Nat) (s : State) : State :=
  let old := Tab.look {} s.fwd.ecmp g
  let freed := Tab.keep (fun i _ => !(old.base ≤ i && i < old.base + old.count)) s.fwd.member
  onFwd (fun w => { w with
    member := Tab.putAll 0 freed base (ms.map (BitVec.ofNat 32)), ecmp := Tab.put {} w.ecmp g { base := base, count := ms.length },
    poison := w.poison.filter (fun p => !(p == (5, 0, g)) && !(p.1 == 6 && base ≤ p.2.2 && p.2.2 < base + ms.length)) }) s

/-- TABLES_ECMP_WRITE: fresh member slots are written before the group entry is swung. -/
def execTablesEcmpWrite (rq : Req) (s : State) : Result :=
  .next (serve { cmdOwn 0x0707 4 0 with len := fun p => 4 + 4 * byteAt p 1 } rq (fun s =>
    let b := rq.u8 0
    let n := rq.u8 1
    let g := rq.u16 2
    let ms := (List.range n).map (fun i => rq.u32 (4 + 4 * i))
    if !berthOk rq 0 || n = 0 || 64 < n || !(s.fwdB b).holds 5 g
        || ms.any (fun r => !resultOk r || (resKind r != 1 && resKind r != 5)) then .err .badParam
    else if ms.any (fun r => !s.mayResult b r) then .err .noPerm
    else match s.freshSlots b n with
      | some base => .ok (swingGroup g base ms s) []
      | none => .err .noResource) s)

/-! ### Lookup and status (R185) -/

/-- What tables.lookup returns for a lookup. -/
def foundBytes : Found → List Byte
  | .hit r _ => leBytes 4 r ++ [1]
  | .poisoned _ => leBytes 4 0 ++ [2]
  | .miss _ => leBytes 4 0 ++ [0]

/-- TABLES_LOOKUP: no learning, no HIT bit. -/
def execTablesLookup (rq : Req) (s : State) : Result :=
  .next (serve (cmdOwn 0x0708 20 0) rq (fun s =>
    let b := rq.u8 0
    if !berthOk rq 0 || 2 < rq.u8 1 || (rq.u8 1 = 0 && (rq.u16 2 = 0 || 4094 < rq.u16 2)) then .err .badParam
    else .ok s (foundBytes (
      if rq.u8 1 = 0 then s.lookL2 b (rq.u16 2) (rq.bytes 4 6)
      else if rq.u8 1 = 1 then s.lookL3 b false (rq.bytes 4 4)
      else s.lookL3 b true (rq.bytes 4 16)))) s)

/-- The first FWD register (Table 07.6). -/
def fwdModeWord (s : State) : Nat :=
  maskOf 7 (fun t => (Tab.look {} s.fwd.prot t).sounding) + 128 * maskOf 7 (fun t => (Tab.look {} s.fwd.prot t).storm)

/-- TABLES_STATUS. -/
def execTablesStatus (rq : Req) (s : State) : Result :=
  .next (serve (cmdHBA 0x0709 0) rq (fun s =>
    let one := fun b => ((List.range 7).map (fun t =>
      leBytes 4 ((s.fwdB b).baseOf t) ++ leBytes 4 ((s.fwdB b).sizeOf t) ++ leBytes 4 (s.tableUsed b t))).flatten
    .ok s (leBytes 4 (fwdModeWord s) ++ leBytes 4 s.fwd.seed.toNat ++ leBytes 4 s.fwd.poison.length
      ++ ((s.statusBerths rq).map one).flatten)) s)

/-! ### Ageing (R173) -/

/-- L2_AGE_SWEEP: set HIT bits clear, and dynamic entries whose HIT bit was clear are removed. -/
def execL2AgeSweep (b : Fin 16) (s : State) : Result :=
  if (s.fwdB b.val).l2Age = 0 then .next s
  else
    let stale := fun (e : L2Entry) => e.berth == b.val && !e.static && !e.hit
    let n := Tab.count (fun _ e => stale e) s.fwd.l2
    let kept := (Tab.keep (fun _ e => !stale e) s.fwd.l2).map (fun e => if e.2.berth = b.val then (e.1, { e.2 with hit := false }) else e)
    .next (onFwd (fun w => { w with l2 := kept, aged := bumpBy w.aged n }) s)

/-! ### Protection (R176 to R183) -/

/-- Protection of table t. -/
def State.protAt (s : State) (t : Nat) : Prot := Tab.look {} s.fwd.prot t

/-- Changes the protection of table t. -/
def onProt (t : Nat) (g : Prot → Prot) (s : State) : State := onFwd (fun w => { w with prot := Tab.upd {} w.prot t g }) s

/-- TABLES_PROTECT: the background task starts anew (R176, R183, 17_dram.md R376, R378). -/
def execTablesProtect (rq : Req) (s : State) : Result :=
  .next (serve (cmdH 0x0702 16) rq (fun s =>
    let t := rq.u8 0
    let on := rq.u8 1 = 1
    let c := dramChannel (rq.u64 8)
    if 6 < t || 1 < rq.u8 1 || 1 < rq.u8 2 then .err .badParam
    else if on && s.ph.region.isNone then .err .state
    else if on && (rq.u64 8 % 4096 ≠ 0 || !s.dramRangeOk (rq.u64 8) 1) then .err .badParam
    else if on && (s.ddrAt c).st = 5 then .err .frozen
    else .ok (onProt t (fun _ => { sounding := on, repair := rq.u8 2 == 1,
                                   shadow := if on then BitVec.ofNat 64 (rq.u64 8) else 0 }) s) []) s)

/-- Words of a memory (Table 07.2); 0 where the table has no such memory. -/
def memWords (t m : Nat) : Nat :=
  match t, m with
  | 0, 0 => 262144
  | 1, 1 => 524288
  | 1, 2 => 2097152
  | 1, 3 => 524288
  | 1, 4 => 524288
  | 2, 1 => 524288
  | 2, 2 => 1048576
  | 2, 3 => 1048576
  | 2, 4 => 1048576
  | 2, 5 => 1048576
  | 2, 6 => 1048576
  | 3, 0 => 32768
  | 4, 0 => 16384
  | 5, 0 => 4096
  | 6, 0 => 65536
  | _, _ => 0

/-- The berth whose partition holds a word; the words of the tries are in no partition (R171). -/
def State.wordOwner (s : State) (t i : Nat) : Option Nat :=
  if isTrie t then none else (List.range 16).find? (fun b => (s.fwdB b).holds t (if t = 0 || t = 3 then i / 4 else i))

/-- An uncorrectable error poisons a word (R182). -/
def poisonWord (t m i : Nat) (s : State) : State :=
  let s1 := onFwd (fun w => { w with
    eccUncorr := bump w.eccUncorr, poison := if w.isPoisoned t m i then w.poison else w.poison ++ [(t, m, i)] }) s
  raise 12 0 t m i (s.wordOwner t i) s1

/-- The word is one that sounding compares: in L2, a static entry. -/
def State.isCompared (s : State) (t i : Nat) : Bool := t != 0 || (Tab.look {} s.fwd.l2 i).static

/-- Words are repaired from the shadow, unless it has been lost and not yet rewritten (17_dram.md R388). -/
def Prot.repairs (p : Prot) : Bool := p.repair && !p.shadowLost

/-- A repair from the shadow (R182, R183). -/
def repairWord (t m i : Nat) (s : State) : State :=
  onFwd (fun w => { w with soundRepair := bump w.soundRepair }) (clearPoison t m i s)

/-- A mismatch without an ECC error; more than 64 in a pass stop the table's sounding (R183). -/
def mismatch (t m i : Nat) (s : State) : State :=
  let s1 := raise 12 1 t m i (s.wordOwner t i) (onProt t (fun x => { x with mismatches := x.mismatches + 1 })
    (onFwd (fun w => { w with soundMismatch := bump w.soundMismatch }) s))
  let s2 := if (s1.protAt t).repairs then repairWord t m i s1 else s1
  if 64 < (s2.protAt t).mismatches then raise 12 2 t 0 0 none (onProt t (fun x => { x with storm := true }) s2) else s2

/-- The effect of reading a word in the background. -/
def readWord (t m i : Nat) (err : EccErr) (same : Bool) (s : State) : State :=
  let p := s.protAt t
  let s1 := match err with
    | .ok => s
    | .corrected => onFwd (fun w => { w with eccCorr := bump w.eccCorr }) s
    | .uncorrectable => poisonWord t m i s
  if !p.sounding || !s.isCompared t i then s1
  else if s1.fwd.isPoisoned t m i then (if p.repairs then repairWord t m i s1 else s1)
  else if same then s1 else mismatch t m i s1

/-- The word that the background task reads next: in sounding with REPAIR a poisoned one first. -/
def State.nextWord (s : State) (t m : Nat) : Nat :=
  let p := s.protAt t
  let bad := (s.fwd.poison.find? (fun x => x.1 == t && x.2.1 == m && s.isCompared t x.2.2)).map (fun x => x.2.2)
  if p.sounding && p.repairs then bad.getD (Tab.look 0 p.cursor m) else Tab.look 0 p.cursor m

/-- Advances the pass of a memory; the end of the largest memory's pass ends the table's (R183); by then a lost shadow
has been rewritten (log entry 24). -/
def advanceCursor (t m i : Nat) (s : State) : State :=
  if Tab.look 0 (s.protAt t).cursor m ≠ i then s
  else
    let wrap := memWords t m ≤ i + 1
    onProt t (fun x => { x with
      cursor := Tab.put 0 x.cursor m (if wrap then 0 else i + 1),
      mismatches := if wrap && (!isTrie t || m = 2) then 0 else x.mismatches,
      shadowLost := x.shadowLost && !(wrap && (!isTrie t || m = 2)) }) s

/-- TABLE_BACKGROUND_ACCESS: a memory grants its background task an access (R178); sounding pauses while its channel is frozen (R181). -/
def execTableBackgroundAccess (t : Fin 7) (m : Fin 6) (err : EccErr) (same : Bool) (s : State) : Result :=
  let mem := if isTrie t.val then m.val + 1 else m.val
  let p := s.protAt t.val
  let frozen := p.sounding && (s.ddrAt (dramChannel p.shadow.toNat)).st = 5
  if memWords t.val mem = 0 || p.storm then .next s
  else if frozen then
    .next (if p.paused then s
      else onProt t.val (fun x => { x with paused := true }) (onFwd (fun w => { w with soundPaused := bump w.soundPaused }) s))
  else
    let s0 := if p.paused then onProt t.val (fun x => { x with paused := false, cursor := [], mismatches := 0 }) s else s
    let i := s0.nextWord t.val mem
    let s1 := count 0x0041 { addr := some (1, t.val, i) } 1 s0
    .next (advanceCursor t.val mem i (readWord t.val mem i err same s1))

end Sys2Proof.Machine
end

