-- ==== Sys2Proof/Machine/Berths.lean ====
section
/-! DEFINITION. Berths: creation, ports and shares, gangways, reset and teardown (09_berths.md). -/

namespace Sys2Proof.Machine

/-- Changes the berths' registers. -/
def onGlb (g : Glb → Glb) (s : State) : State := { s with glb := g s.glb }

/-- Changes berth b. -/
def onBerth (b : Nat) (g : Berth → Berth) (s : State) : State := s.setBerth b (g (s.berthAt b))

/-! ### Creation (R217) -/

/-- The UTC second now, while TIDE_UTC is VALID (15_ledger.md R341). -/
def State.utcNow (s : State) : Option Nat :=
  if s.tide.utcValid then some (stampSec s.stamp - s.tide.utcOffset.toNat) else none

/-- QPS of a berth.create request. -/
def createQps (rq : Req) : Nat := if rq.u16 2 = 0xFFFF then 256 else rq.u16 2

/-- MRS of a berth.create request. -/
def createMrs (rq : Req) : Nat := if rq.u32 4 = 0xFFFFFFFF then 4096 else rq.u32 4

/-- The counter ranges of the berths but one. -/
def State.ctrBlocks (s : State) (b : Nat) : List (Nat × Nat) :=
  ((List.range 16).filter (fun i => i != b && s.berthExists i && 0 < (s.berthAt i).weirCtrs)).map
    (fun i => ((s.weirB i).posBase, (s.berthAt i).weirCtrs))

/-- Where a new berth's blocks go: its queue pairs, its regions and its counters, each at the lowest free run (R317, 10_weir_windlass.md
R225). -/
def State.placeBerth (s : State) (b : Nat) (rq : Req) : Option (Nat × Nat × Nat) :=
  match lowestRun 4096 (createQps rq) (s.qpBlocks b), lowestRun 65536 (createMrs rq) (s.mrBlocks b),
    lowestRun 1048576 (rq.u32 8) (s.ctrBlocks b) with
  | some q, some m, some c => some (q, m, c)
  | _, _, _ => none

/-- The loaded engines in service, each the lowest of its generation. -/
def State.generations (s : State) : List Nat :=
  let es := (List.range 16).filter (fun e => (s.engineAt e).inRotation && !(s.engineAt e).digest.isEmpty)
  es.filter (fun e => !es.any (fun i => i < e && (s.engineAt i).gen == (s.engineAt e).gen))

/-- A new berth receives a CONFIG record for each generation in service, before its first order record (05_pumps.md R132,
15_ledger.md R336). -/
def genRecords (b : Nat) (s : State) : State :=
  s.generations.foldl (fun s e => append b 4 0 (microInfo e (s.engineAt e).gen.toNat) (padTo 32 (s.engineAt e).digest) s) s

/-- A berth's settings as creation leaves them; counters keep their values (10_weir_windlass.md R248, 19_host_rings.md R426). -/
def freshSettings (b posBase : Nat) (s : State) : State :=
  let w := s.weirB b
  let s1 := onWeirB b (fun _ => { posBase := posBase, rejects := w.rejects, accepts := w.accepts, holds := w.holds, released := w.released,
                                  reversed := w.reversed }) s
  { s1 with host := { rx := (List.range 4).foldl (fun t r => Tab.del t (4 * b + r)) s1.host.rx,
                      tx := (List.range 4).foldl (fun t r => Tab.del t (4 * b + r)) s1.host.tx } }

/-- A berth comes into being with its key and blocks: its VF is enabled and its chain opened (R217, R317). -/
def makeBerth (b : Nat) (rq : Req) (place : Nat × Nat × Nat) (s : State) : State :=
  let n := s.draw
  let pub := padTo 32 (Config.edPublic n)
  let cert := Config.berthCert b pub ((sha256 pub).take 8) s.utcNow
  let s1 := s.setBerth b { state := 1, fabricOk := rq.u8 1 == 1, weirCtrs := rq.u32 8, keyNonce := some n, pubKey := pub, cert := cert,
                           vfEnabled := true }
  let s2 := freshSettings b place.2.2 (drawn s1)
  let s3 := onRdmaB b (fun _ => { qpBase := place.1, qps := createQps rq, mrBase := place.2.1, mrs := createMrs rq }) s2
  genRecords b (openChain b pub cert s3)

/-- BERTH_CREATE; `keyOk` is how the self-test of the new key ends (R222). -/
def execBerthCreate (rq : Req) (keyOk : Bool) (s : State) : Result :=
  .next (serve (cmdH 0x0201 16) rq (fun s =>
    let b := rq.u8 0
    if !berthOk rq 0 || 1 < rq.u8 1 || 4096 < createQps rq || createMrs rq % 16 ≠ 0 || 65536 < createMrs rq || 1048576 < rq.u32 8
        then .err .badParam
    else if s.berthExists b || s.glb.auditVf.toNat = b then .err .state
    else match s.placeBerth b rq with
      | none => .err .noResource
      | some p => if keyOk then .ok (makeBerth b rq p s) [] else .err .hwFault) s)

/-! ### Ports and shares (R210) -/

/-- Two VLAN ranges or TC masks of shares meet. -/
def Share.meets (x : Share) (lo hi mask : Nat) : Bool :=
  (x.vlanLo.toNat ≤ hi && lo ≤ x.vlanHi.toNat) || x.tcMask &&& BitVec.ofNat 8 mask != 0

/-- Adds a share of a port. -/
def addShare (rq : Req) (o : Owner) (s : State) : Reply :=
  let lo := rq.u16 4
  let hi := rq.u16 6
  if rq.u8 3 = 0 || 4094 < hi || hi < lo then .err .badParam
  else if o.whole.isSome then .err .state
  else if o.shares.any (fun x => x.meets lo hi (rq.u8 3)) then .err .badParam
  else if 4 ≤ o.shares.length then .err .noResource
  else
    let x : Share := { berth := rq.u8 1, vlanLo := BitVec.ofNat 16 lo, vlanHi := BitVec.ofNat 16 hi, tcMask := BitVec.ofNat 8 (rq.u8 3) }
    .ok (onGlb (fun g => { g with owner := Tab.put {} g.owner (rq.u8 0) { o with shares := o.shares ++ [x] } }) s) []

/-- BERTH_ASSIGN_PORT: only a DISABLED port; a bond member answers STATE (R210, R218, 04_river_ports.md R94). -/
def execBerthAssignPort (rq : Req) (s : State) : Result :=
  .next (serve (cmdH 0x0203 8) rq (fun s =>
    let p := rq.u8 0
    let o := s.ownerAt p
    if 63 < p || 15 < rq.u8 1 || 2 < rq.u8 2 then .err .badParam
    else if s.bondMember p || (s.portAt p).link != 0 then .err .state
    else if rq.u8 2 = 2 then .ok (onGlb (fun g => { g with owner := Tab.del g.owner p }) s) []
    else if !s.berthActive (rq.u8 1) then .err .state
    else if rq.u8 2 = 1 then addShare rq o s
    else if o.whole.isSome || o.shares ≠ [] then .err .state
    else .ok (onGlb (fun g => { g with owner := Tab.put {} g.owner p { whole := some (rq.u8 1) } }) s) []) s)

/-! ### Gangways (R213, R218) -/

/-- The ports and traffic classes that a result of a berth names. -/
def resPorts (s : State) (res : Nat) : List (Nat × Nat) :=
  if resKind res = 1 then [(resIndex res % 64, resTc res)]
  else if resKind res = 3 then (setBits 64 (Tab.look {} s.fwd.mcast (resIndex res)).ports.toNat).map (fun p => (p, resTc res))
  else []

/-- Every result that the tables and the ferry range hold for a berth, as ports and traffic classes. -/
def State.usedPorts (s : State) (b : Nat) : List (Nat × Nat) :=
  let x := s.fwdB b
  let q := s.rsvB b
  let results := (s.fwd.l2.filter (fun e => e.2.valid && e.2.berth == b)).map (fun e => e.2.result.toNat)
    ++ (s.fwd.host.filter (fun e => e.2.valid && e.2.berth == b)).map (fun e => e.2.result.toNat)
    ++ (s.fwd.routes.filter (fun r => r.berth == b)).map (fun r => r.result.toNat)
    ++ (s.fwd.member.filter (fun e => x.holds 6 e.1)).map (fun e => e.2.toNat)
  let groups := (s.fwd.mcast.filter (fun e => x.holds 4 e.1)).flatMap (fun e => (setBits 64 e.2.ports.toNat).map (fun p => (p, 8)))
  (s.rsv.ferry.filter (fun e => q.fbase ≤ e.1 && e.1 < q.fbase + q.fsize)).map (fun e => (e.2.egPort.toNat, e.2.tc.toNat))
    ++ results.flatMap (resPorts s) ++ groups

/-- A berth may use a port on a traffic class, or on any when 8 stands for it. -/
def State.mayUseAny (s : State) (b p tc : Nat) : Bool :=
  if tc < 8 then s.mayUsePort b p tc else (List.range 8).any (fun t => s.mayUsePort b p t)

/-- Queue pairs of berth b that connect inside the Orkai to berth d. -/
def State.rdmaUses (s : State) (b d : Nat) : Bool :=
  s.rdma.qp.any (fun e => e.2.used && e.2.berth == b && e.2.path == 2 && e.2.dberth == d && (e.2.state == 2 || e.2.state == 3))

/-- What a berth uses stays permitted. -/
def State.usesPermitted (s : State) (b d : Nat) : Bool :=
  (s.usedPorts b).all (fun u => s.mayUseAny b u.1 u.2) && (!s.rdmaUses b d || s.rdmaReaches b d)

/-- Removes a gangway, unless something of its source uses it (R218). -/
def dropGangway (i : Nat) (s : State) : Option State :=
  let g := Tab.look {} s.glb.gangway i
  let s1 := onGlb (fun w => { w with gangway := Tab.del w.gangway i }) s
  if g.valid && s.usesPermitted g.src g.dst && !s1.usesPermitted g.src g.dst then none else some s1

/-- BERTH_GANGWAY. -/
def execBerthGangway (rq : Req) (s : State) : Result :=
  .next (serve (cmdH 0x0204 8) rq (fun s =>
    let i := rq.u8 0
    let k := rq.u8 4
    if 1 < rq.u8 1 || (rq.u8 1 = 1 && 63 < i) then .err .badParam
    else if rq.u8 1 = 1 then
      (match dropGangway i s with
        | some s1 => .ok s1 []
        | none => .err .state)
    else if 15 < rq.u8 2 || 15 < rq.u8 3 || rq.u8 2 = rq.u8 3 || 2 < k || (k = 0 && 63 < rq.u8 5) || (k = 1 && 3 < rq.u8 5)
        || (k = 2 && rq.u8 5 ≠ 0) then .err .badParam
    else if 63 < i then .err .noResource
    else if !s.berthActive (rq.u8 2) || !s.berthActive (rq.u8 3) || (k = 0 && s.bondMember (rq.u8 5)) then .err .state
    else match dropGangway i s with
      | none => .err .state
      | some s1 =>
        let g : Gangway := { valid := true, src := rq.u8 2, dst := rq.u8 3, kind := BitVec.ofNat 2 k, target := BitVec.ofNat 8 (rq.u8 5) }
        .ok (onGlb (fun w => { w with gangway := Tab.put {} w.gangway i g }) s1) []) s)

/-! ### Keys, status, auditor (R207, R222) -/

/-- BERTH_GET_KEY. -/
def execBerthGetKey (rq : Req) (s : State) : Result :=
  .next (serve (cmdHBA 0x0205 4) rq (fun s =>
    let x := s.berthAt (rq.u8 0)
    if !berthOk rq 0 then .err .badParam
    else if !s.berthExists (rq.u8 0) then .err .state
    else .ok s (x.pubKey ++ leBytes 2 x.cert.length ++ x.cert)) s)

/-- The ports a berth owns, each with its share: port, whole, TC mask, VLAN range. -/
def State.portBytes (s : State) (b : Nat) : List (List Byte) :=
  (List.range 64).flatMap (fun p =>
    let o := s.ownerAt p
    if o.whole = some b then [[BitVec.ofNat 8 p, 1, 0xFF, 0] ++ leBytes 2 0 ++ leBytes 2 4095]
    else (o.shares.filter (fun x => x.berth == b)).map (fun x =>
      [BitVec.ofNat 8 p, 0, x.tcMask, 0] ++ leBytes 2 x.vlanLo.toNat ++ leBytes 2 x.vlanHi.toNat))

/-- The gangways that name a berth. -/
def State.gangwayBytes (s : State) (b : Nat) : List (List Byte) :=
  (s.glb.gangway.filter (fun e => e.2.valid && (e.2.src == b || e.2.dst == b))).map (fun e =>
    [BitVec.ofNat 8 e.1, BitVec.ofNat 8 e.2.src, BitVec.ofNat 8 e.2.dst, BitVec.ofNat 8 e.2.kind.toNat, e.2.target, 0, 0, 0])

/-- A berth's holdings, in the order of Table 09.1, 4 bytes each. -/
def State.holdings (s : State) (b : Nat) : List Nat :=
  let q := s.rsvB b
  let f := s.fwdB b
  let t := s.strnB b
  let w := s.weirB b
  let r := s.rdmaB b
  [(s.portBytes b).length, ((List.range 512).filter (s.ownsQueue b)).length, hostQueue b 0, q.guar, q.max, q.fbase, q.fsize]
    ++ (List.range 7).flatMap (fun i => [f.baseOf i, f.sizeOf i])
    ++ [t.pquota, t.squota, t.rbase, t.rsize, w.posBase, (s.berthAt b).weirCtrs, r.qpBase, r.qps, r.mrBase, r.mrs,
        bitNat (s.chainAt b).active, bitNat (s.berthAt b).keyNonce.isSome, ((List.range 64).filter (fun p => (s.ownerAt p).whole == some b)).length]

/-- BERTH_STATUS (R222). -/
def execBerthStatus (rq : Req) (s : State) : Result :=
  .next (serve (cmdOwn 0x0206 4 0) rq (fun s =>
    let b := rq.u8 0
    if !berthOk rq 0 then .err .badParam
    else
      let ps := s.portBytes b
      let gs := s.gangwayBytes b
      .ok s ([BitVec.ofNat 8 (s.berthAt b).state.toNat, BitVec.ofNat 8 ps.length, BitVec.ofNat 8 gs.length, 0] ++ ps.flatten ++ gs.flatten
        ++ ((s.holdings b).map (leBytes 4)).flatten)) s)

/-- BERTH_SET_AUDITOR: only a VF whose berth does not exist (R207). -/
def execBerthSetAuditor (rq : Req) (s : State) : Result :=
  .next (serve (cmdH 0x0207 4) rq (fun s =>
    let v := rq.u8 0
    if 16 < v then .err .badParam
    else if v < 16 && s.berthExists v then .err .state
    else .ok (onGlb (fun g => { g with auditVf := BitVec.ofNat 5 v }) s) []) s)

/-! ### Reset (R219) -/

/-- A berth's rings and queue pairs are reset, and its chain gets a RESET record (R219). -/
def resetBerth (b info : Nat) (s : State) : State :=
  let qs := (s.rdma.qp.filter (fun e => e.2.used && e.2.berth == b)).map Prod.fst
  let s1 := rdmaSettle (qs.foldl (fun s q => qpError q 0 s) s)
  append b 9 0 info [] (resetRings b s1)

/-- A function's mailbox and event ring return to their reset state; a request that is being served keeps what its answer needs. -/
def resetMbx (fn : Nat) (keep : Bool) (s : State) : State :=
  let m := s.mbxAt fn
  s.setMbx fn (if keep then { busy := m.busy, reqOp := m.reqOp, reqSeq := m.reqSeq, reqNotify := m.reqNotify } else {})

/-- BERTH_RESET. -/
def execBerthReset (rq : Req) (s : State) : Result :=
  .next (serve (cmdOwn 0x0208 4 0) rq (fun s =>
    let b := rq.u8 0
    if !berthOk rq 0 then .err .badParam
    else if !s.berthExists b then .err .state
    else .ok (resetMbx (1 + b) (rq.fn.val == 1 + b) (resetBerth b 0 s)) []) s)

/-- FUNCTION_LEVEL_RESET of VFb: its berth's rings, queue pairs, mailbox and event ring, and the function's MSI-X table (R219). -/
def execFunctionLevelReset (b : Fin 16) (s : State) : Result :=
  let s1 := if s.berthExists b.val then resetBerth b.val 1 s else s
  let s2 := resetMbx (1 + b.val) false s1
  .next { s2 with msix := Tab.del s2.msix (1 + b.val) }

/-! ### Teardown (R220) -/

/-- The frames of a berth. -/
def State.framesOf (s : State) (b : Nat) : List Nat := (s.frames.filter (fun e => e.2.berth == b)).map Prod.fst

/-- A berth still has frames in a queue, in transmission, or on their way. -/
def State.hasFrames (s : State) (b : Nat) : Bool := s.frames.any (fun e => e.2.berth == b && e.2.holdId.isNone && !e.2.fate)

/-- Runs a berth's block move to its end (R218). -/
def finishMove (b : Nat) : Nat → State → State
  | 0, s => s
  | n + 1, s =>
    match s.moveOf b with
    | some m => finishMove b n (if m.del then deleteStep b m s else insertStep b m s)
    | none => s

/-- What a berth still has in queues is dropped (R220 step 2). -/
def dropQueued (b : Nat) (s : State) : State :=
  (s.framesOf b).foldl (fun s f =>
    let x := s.frameAt f
    let s1 := if x.queued.contains ferrySource then dropFerry (x.lset.getD (0, 0)).1 f 0 s else s
    x.queued.foldl (fun s q => if q = ferrySource then s else dropCopy f q 0 s) s1) s

/-- The records of a berth's frames whose fate is final are written. -/
def writeRecords (b : Nat) (s : State) : State :=
  (s.framesOf b).foldl (fun s f =>
    let x := s.frameAt f
    if x.fate && x.isOrder then dropFrame f (appendOrder b (x.slot == 1) x.record s) else s) s

/-- Every resource of Table 09.1 and every gangway naming the berth is released (R220 step 7). -/
def releaseAll (b : Nat) (s : State) : State :=
  let x := s.fwdB b
  let q := s.rsvB b
  let r := s.rdmaB b
  let w := s.weirB b
  let t := s.strnB b
  let within := fun (i base size : Nat) => base ≤ i && i < base + size
  let s1 := onGlb (fun g => { g with
    owner := g.owner.filterMap (fun e =>
      let o : Owner := { whole := if e.2.whole = some b then none else e.2.whole, shares := e.2.shares.filter (fun h => h.berth != b) }
      if o = {} then none else some (e.1, o)),
    gangway := g.gangway.filter (fun e => e.2.src != b && e.2.dst != b) }) s
  let s2 := onRsv (fun v => { v with
    ferry := v.ferry.filter (fun e => !within e.1 q.fbase q.fsize),
    berth := Tab.put {} v.berth b { held := q.held, heldGuar := q.heldGuar } }) s1
  let s3 := onFwd (fun v => { v with
    l2 := v.l2.filter (fun e => e.2.berth != b), host := v.host.filter (fun e => e.2.berth != b),
    routes := v.routes.filter (fun e => e.berth != b), nodes := v.nodes.filter (fun e => e.berth != b),
    mcast := v.mcast.filter (fun e => !x.holds 4 e.1), ecmp := v.ecmp.filter (fun e => !x.holds 5 e.1),
    member := v.member.filter (fun e => !x.holds 6 e.1),
    berth := Tab.put {} v.berth b { l2Hit := x.l2Hit, l2MissCnt := x.l2MissCnt, rHit := x.rHit, rMiss := x.rMiss } }) s2
  let s4 := onStrn (fun v => { v with
    rule := v.rule.filter (fun e => !within e.1 t.rbase t.rsize),
    berth := Tab.put {} v.berth b { hit := t.hit, nomatchCnt := t.nomatchCnt } }) s3
  let s5 := onWeir (fun v => { v with
    acct := v.acct.filter (fun e => !within e.1 (256 * w.acctBase) (256 * w.acctSize)),
    instr := v.instr.filter (fun e => !within e.1 (256 * w.instrBase) (256 * w.instrSize)),
    pos := v.pos.filter (fun e => !within e.1 w.posBase (s.berthAt b).weirCtrs),
    run := if (v.run.map WindRun.berth) == some b then none else v.run }) (dropDue b s4)
  let s6 := onRdma (fun v => { v with
    qp := v.qp.filter (fun e => e.2.berth != b || !e.2.used), cq := v.cq.filter (fun e => !within e.1 r.qpBase r.qps),
    mr := v.mr.filter (fun e => !within e.1 r.mrBase r.mrs), berth := Tab.del v.berth b }) s5
  let s7 := onPump (fun v => { v with berth := Tab.upd {} v.berth b (fun y => { counts := y.counts }) }) s6
  freshSettings b 0 s7

/-- Steps 6 to 8: the key is zeroised, every resource is released, the VF is disabled, and the command returns OK (R220). -/
def endDestroy (b : Nat) (s : State) : State :=
  let fn := (s.berthAt b).destroyFn
  let s1 := shtlGo (startDue (releaseAll b (releaseGroups b s)))
  let s2 := s1.setChain b { s1.chainAt b with active := false }
  finishOpt fn 0x0202 .ok [] (resetMbx (1 + b) false (s2.setBerth b {}))

/-- Step 5: the final seal is written once the previous one is signed and its records are in place (R220). -/
def finalSeal (b : Nat) (s : State) : State :=
  let c := s.chainAt b
  if c.signing || !s.sealRoom b then onBerth b (fun x => { x with destroyStep := 5 }) s
  else writeSeal b 1 (onBerth b (fun x => { x with destroyStep := 6 }) s)

/-- Steps 2 to 5, once the queues have drained or their time is up (R220). -/
def afterDrain (b : Nat) (s : State) : State :=
  let held := ((s.weirB b).held).map Prod.snd
  let s1 := held.foldl (fun s f => rejectHeld f 0x13 s) (dropQueued b s)
  let qs := (s1.rdma.qp.filter (fun e => e.2.used && e.2.berth == b)).map Prod.fst
  finalSeal b (writeRecords b (rdmaSettle (qs.foldl (fun s q => qpError q 0 s) s1)))

/-- A teardown goes on when a seal of its chain has been signed (R220). -/
def resumeDestroy (b : Nat) (s : State) : State :=
  let x := s.berthAt b
  if x.destroyStep = 5 then finalSeal b s
  else if x.destroyStep = 6 && !(s.chainAt b).signing then
    (if x.destroyFn.isSome then endDestroy b s else onBerth b (fun x => { x with destroyStep := 7 }) s)
  else s

/-- BERTH_DESTROY: teardown begins, or goes on from its seal (R220). -/
def execBerthDestroy (rq : Req) (s : State) : Result :=
  .next (serve (cmdH 0x0202 4) rq (fun s =>
    let b := rq.u8 0
    let x := s.berthAt b
    if !berthOk rq 0 then .err .badParam
    else if !s.berthExists b || x.destroyFn.isSome then .err .state
    else
      let s1 := onBerth b (fun x => { x with destroyFn := some rq.fn.val, destroyAt := s.tide.nowFs }) s
      if x.state = 2 then .later (if x.destroyStep = 7 then endDestroy b s1 else resumeDestroy b s1)
      else
        let s2 := finishMove b 16384 (onBerth b (fun x => { x with state := 2, destroyStep := 2 }) s1)
        .later (if s2.hasFrames b then s2 else afterDrain b s2)) s)

/-- DESTROY_DRAIN_TIMEOUT: what the destroyed berth still has in queues is dropped, and the teardown goes on (R220). -/
def execDestroyDrainTimeout (b : Fin 16) (s : State) : Result :=
  if (s.berthAt b.val).state = 2 && (s.berthAt b.val).destroyStep = 2 then .next (afterDrain b.val s) else .next s

/-- DESTROY_SEAL_TIMEOUT: 20 ms after berth.destroy began without a final seal, the berth stays in CLOSING, its key is kept, and the
command returns TIMEOUT (R220). -/
def execDestroySealTimeout (b : Fin 16) (s : State) : Result :=
  let x := s.berthAt b.val
  if x.state ≠ 2 || x.destroyFn.isNone then .next s
  else
    let s1 := if x.destroyStep = 2 then afterDrain b.val s else s
    .next (finishOpt x.destroyFn 0x0202 .timeout [] (onBerth b.val (fun x => { x with destroyFn := none }) s1))

end Sys2Proof.Machine
end

