-- ==== Sys2Proof/Machine/BayOps.lean ====
section
/-! DEFINITION. Cartridge bays: zones, the switch, and what becomes of the pages issued to a bay (16_cistern.md R362 to R371). -/

namespace Sys2Proof.Machine

/-- Changes the Cistern. -/
def onCist (g : Cist → Cist) (s : State) : State := { s with cist := g s.cist }

/-- Changes the ledger. -/
def onLedg (g : Ledg → Ledg) (s : State) : State := { s with ledg := g s.ledg }

/-- Changes a chain. -/
def onChain (b : Nat) (g : Chain → Chain) (s : State) : State := s.setChain b (g (s.chainAt b))

/-- Pages of a zone (R355). -/
def zonePages : Nat := 524288

/-- Zones of a cartridge (R355). -/
def zoneCount : Nat := 8192

/-- The bay that takes new appends: ACTIVE, and no switch away from it runs (R364). -/
def State.activeBay (s : State) : Option Nat := [0, 1].find? (fun n => (s.bayAt n).st == 4 && (s.bayAt n).draining.isNone)

/-- A bay is ACTIVE, switching or not. -/
def State.anyActive (s : State) : Bool := [0, 1].any (fun n => (s.bayAt n).st == 4)

/-- The STANDBY bay, CB0 first (R364). -/
def State.standbyBay (s : State) : Option Nat := [0, 1].find? (fun n => (s.bayAt n).st == 3)

/-- Changes the cartridge of bay n. -/
def onCart (n : Nat) (g : Cart → Cart) (s : State) : State := onBay n (fun x => { x with cart := x.cart.map g }) s

/-- The cartridge of bay n, as far as the model holds it. -/
def State.cartAt (s : State) (n : Nat) : Cart := (s.bayAt n).cart.getD {}

/-- Raises a Cistern event of bay n. -/
def cistEvent (ev n cause : Nat) (s : State) : State := raise 27 ev n cause 0 none s

/-! ### Pages (15_ledger.md R342) -/

/-- A closed page waits for the Cistern, in a buffer or in staging, or has been issued to it. -/
def State.pagesWait (s : State) : Bool := s.ledg.ring != [] || s.ledg.chain.any (fun e => e.2.closed != [])

/-- Marks where a page stands: in its buffer or in the ring. -/
def markPage (b no : Nat) (place : Nat) (s : State) : State :=
  let mark := fun (p : Page) => if p.berth = b && p.no = no then { p with place := place } else p
  onLedg (fun l => { l with ring := l.ring.map mark }) (onChain b (fun c => { c with closed := c.closed.map mark }) s)

/-- A page that was issued to a bay and has no completion waits again: in staging, or in its buffer. -/
def unissue (a : Append) (s : State) : State := markPage a.berth a.page (if a.staged then 4 else 0) s

/-! ### Zones (R362, R363) -/

/-- CIST_CAP_WARN is raised once, when the zones used reach CAP_WARN. -/
def checkCap (n : Nat) (s : State) : State :=
  let w := s.cist.capWarn.toNat
  if w != 0 && !(s.bayAt n).capWarned && w * zoneCount ≤ 100 * (s.cartAt n).usedZones then
    cistEvent 2 n 0 (onBay n (fun x => { x with capWarned := true }) s)
  else s

/-- Opens the lowest-numbered empty zone (R362, log entry 25). -/
def openZone (n : Nat) (s : State) : State :=
  let z := (s.cartAt n).usedZones
  checkCap n (emit (.nvme n 0x79 (3 * 65536 + z) []) (onCart n (fun c => { c with openZone := some z, fill := 0, usedZones := z + 1 }) s))

/-- Flushes a bay and finishes its open zone. -/
def flushBay (n : Nat) (s : State) : State :=
  let s1 := emit (.nvme n 0x00 0 []) s
  match (s.cartAt n).openZone with
  | some z => emit (.nvme n 0x79 (2 * 65536 + z) []) (onCart n (fun c => { c with openZone := none, fill := 0 }) s1)
  | none => s1

/-! ### The switch (R364) -/

/-- Ends a cistern.release that waits. -/
def endRelease (n : Nat) (st : Status) (s : State) : State :=
  finishOpt (s.bayAt n).releaseFn 0x0E04 st [] (onBay n (fun x => { x with releaseFn := none }) s)

/-- Ends a cistern.swap that waits. -/
def endSwap (st : Status) (s : State) : State := finishOpt s.cist.swapFn 0x0E03 st [] (onCist (fun c => { c with swapFn := none }) s)

/-- A switch away from bay n ends: the pages without a completion wait to be reissued, the STANDBY bay becomes ACTIVE, and a bay that is
still present is flushed and takes its state. -/
def completeSwitch (n : Nat) (s : State) : State :=
  let x := s.bayAt n
  let next := s.standbyBay
  let s1 := x.out.foldl (fun s a => unissue a s) (onBay n (fun x => { x with out := [], draining := none }) s)
  let s2 := match next with
    | some m => onCist (fun c => { c with swaps := bump c.swaps, reissued := bumpBy c.reissued x.out.length })
        (onBay m (fun y => { y with st := 4 }) s1)
    | none => cistEvent 8 n 0 s1
  let s3 := if x.prsnt then flushBay n s2 else s2
  let dest := x.draining.getD 0
  endSwap (if next.isSome then .ok else .state)
    (endRelease n (if dest = 7 then .ok else .state) (onBay n (fun y => { y with st := dest }) s3))

/-- The ACTIVE bay hands over, to take a state of its own; its outstanding appends have 2 ms. -/
def handOverBay (n dest : Nat) (s : State) : State :=
  let s1 := onBay n (fun x => { x with draining := some dest }) s
  if (s.bayAt n).out = [] || !(s.bayAt n).prsnt then completeSwitch n s1 else s1

/-- A bay leaves the states in which it is written or could be. -/
def retireBay (n dest : Nat) (s : State) : State :=
  let x := s.bayAt n
  if x.st = 4 then (if x.draining.isSome then onBay n (fun x => { x with draining := some dest }) s else handOverBay n dest s)
  else onBay n (fun x => { x with st := dest }) s

/-- A bay fails (R369). -/
def faultBay (n : Nat) (s : State) : State :=
  if (s.bayAt n).st = 0 || (s.bayAt n).st = 2 || (s.bayAt n).st = 8 then s else retireBay n 8 (cistEvent 6 n 0 s)

/-! ### Issue and completion (R357, R362, R369) -/

/-- Zone Appends a bay may have outstanding. -/
def maxAppends : Nat := 128

/-- The ACTIVE bay can take another append now. -/
def State.bayRoom (s : State) (n : Nat) : Bool := (s.bayAt n).out.length < maxAppends && (s.cartAt n).fill + (s.bayAt n).out.length < zonePages

/-- Issues a page to a bay; a zone is opened first when none is open. -/
def issuePage (n : Nat) (p : Page) (staged : Bool) (s : State) : State :=
  let s1 := if (s.cartAt n).openZone.isNone then openZone n s else s
  let a : Append := { berth := p.berth, page := p.no, bytes := p.bytes, staged := staged }
  emit (.nvme n 0x7D (((s1.cartAt n).openZone).getD 0) p.bytes) (onBay n (fun x => { x with out := x.out ++ [a] }) (markPage p.berth p.no (1 + n) s1))

/-- A full zone: the next empty one is opened, or the bay is FULL (R363). -/
def zoneFull (n : Nat) (s : State) : State :=
  if (s.cartAt n).fill < zonePages then s
  else
    let s1 := onCart n (fun c => { c with openZone := none, fill := 0 }) s
    if (s1.cartAt n).usedZones < zoneCount then s1 else retireBay n 5 (cistEvent 3 n 0 s1)

/-- A page has left its buffer or its staging slot: space has changed (15_ledger.md R342, R343). -/
def freePage (b no : Nat) (s : State) : State :=
  let gone := fun (p : Page) => p.berth = b && p.no = no
  let last := ((s.ledg.ring ++ (s.chainAt b).closed).find? gone).map Page.lastSeq
  let s1 := onLedg (fun l => { l with ring := l.ring.filter (fun p => !gone p) })
    (onChain b (fun c => { c with closed := c.closed.filter (fun p => !gone p), lastOut := if last.isSome then last else c.lastOut }) s)
  resumeDestroy b (spaceFreed b s1)

/-- A page is written: it is on the cartridge, and its buffer or staging slot is free. -/
def pageWritten (n : Nat) (a : Append) (s : State) : State :=
  let c := s.cartAt n
  let lba := zonePages * (c.openZone.getD 0) + c.fill
  let s1 := onCart n (fun c => { c with pages := Tab.put [] c.pages lba a.bytes, fill := c.fill + 1 }) s
  let s2 := onLedg (fun l => { l with pagesOut := bump l.pagesOut }) (onCist (fun c => { c with pagesWritten := bump c.pagesWritten }) s1)
  zoneFull n (freePage a.berth a.page s2)

/-- An append returns an error: it is reissued once to the same bay, unless a switch runs, and then waits again; the third failure within 1 s is a fault. -/
def appendFails (n i : Nat) (a : Append) (s : State) : State :=
  let now := s.tide.nowFs
  let recent := now :: ((s.bayAt n).fails.filter (fun t => now < t + 1000000000000000))
  let s1 := onCist (fun c => { c with appendErr := bump c.appendErr }) (onBay n (fun x => { x with fails := recent }) s)
  let s2 := if a.tried || (s.bayAt n).draining.isSome then unissue a (onBay n (fun x => { x with out := x.out.eraseIdx i }) s1)
    else emit (.nvme n 0x7D (((s.cartAt n).openZone).getD 0) a.bytes) (onBay n (fun x => { x with out := x.out.set i { a with tried := true } }) s1)
  if 3 ≤ recent.length then faultBay n s2 else s2

end Sys2Proof.Machine
end

