-- ==== Sys2Proof/Machine/Ledger.lean ====
section
/-! DEFINITION. The ledger commands, and the events that hash, sign, stage and write pages (15_ledger.md). -/

namespace Sys2Proof.Machine

/-! ### Commands (R343, R346, R353) -/

/-- LEDGER_CONFIG. -/
def execLedgerConfig (rq : Req) (s : State) : Result :=
  .next (serve (cmdOwn 0x0D01 8 0) rq (fun s =>
    let b := rq.u8 0
    let c := s.chainAt b
    let gap := rq.u8 1 = 1
    let ok := rq.u8 2 = 1
    if !berthOk rq 0 || 1 < rq.u8 1 || 1 < rq.u8 2 || 1000000 < rq.u32 4 then .err .badParam
    else if !isHarbour s rq && ok != c.gapOk then .err .noPerm
    else if gap && !ok then .err .noPerm
    else if !s.berthExists b then .err .state
    else
      let s1 := onChain b (fun c => { c with gapPolicy := gap, gapOk := ok, pendInterval := some (rq.u32 4) }) s
      .ok (if gap != c.gapPolicy then closeSpan b s1 else s1) []) s)

/-- A staging ring lies in a channel, below its training region (R353, 17_dram.md R376). -/
def State.ringFits (s : State) (addr gib : Nat) : Bool :=
  let d := s.ddrAt (dramChannel addr)
  addr % 0x800000000 + gib * 2 ^ 30 + 2 ^ 20 ≤ d.capGib * 2 ^ 30

/-- LEDGER_STAGING. -/
def execLedgerStaging (rq : Req) (s : State) : Result :=
  .next (serve (cmdH 0x0D02 16) rq (fun s =>
    let a := rq.u64 0
    let c := dramChannel a
    let st := (s.ddrAt c).st
    if a % 2 ^ 30 ≠ 0 || 0x1000000000 ≤ a || rq.u8 8 = 0 || 16 < rq.u8 8 then .err .badParam
    else if s.ph.region.isNone || st = 0 || st = 7 || s.ledg.ring ≠ [] then .err .state
    else if !s.ringFits a (rq.u8 8) then .err .badParam
    else if st = 5 || st = 6 then .err .frozen
    else .ok (onLedg (fun l => { l with ringBase := BitVec.ofNat 64 a, ringGib := rq.u8 8 }) s) []) s)

/-- LEDGER_SEAL_NOW: the chain is sealed, or will be once the seal in hand is signed. -/
def execLedgerSealNow (rq : Req) (s : State) : Result :=
  .next (serve (cmdOwn 0x0D03 4 0) rq (fun s =>
    let b := rq.u8 0
    let c := s.chainAt b
    if !berthOk rq 0 then .err .badParam
    else if !s.berthExists b || (s.berthAt b).state = 2 || !c.active then .err .state
    else
      let n := if c.signing then 2 else 1
      .later (dueSeal b (onChain b (fun c => { c with sealFns := c.sealFns ++ [(rq.fn.val, n)] }) s))) s)

/-- Buffers in use and staged pages of a berth, as its register holds them (R352). -/
def State.ledgWord (s : State) (b : Nat) : Nat :=
  wordOf [((s.chainAt b).closed.length, 0), ((s.ledg.ring.filter (fun p => p.berth == b)).length, 4)]

/-- LAST_SEQ of a chain. -/
def Chain.lastSeq (c : Chain) : Nat := c.nextSeq - 1

/-- LEDGER_STATUS. -/
def execLedgerStatus (rq : Req) (s : State) : Result :=
  .next (serve { cmdOwn 0x0D04 4 0 with auditor := true } rq (fun s =>
    let b := rq.u8 0
    let c := s.chainAt b
    if !berthOk rq 0 then .err .badParam
    else .ok s (leBytes 8 c.lastSeq ++ leBytes 8 c.sealSeq ++ stampBytes c.sealStamp ++ leBytes 8 c.page.no ++ padTo 32 c.lastHash
      ++ leBytes 4 (s.ledgWord b) ++ [BitVec.ofNat 8 (bitNat c.full + 2 * bitNat c.gapFirst.isSome)])) s)

/-- LEDGER_DEVICE_CERT. -/
def execLedgerDeviceCert (rq : Req) (s : State) : Result :=
  .next (serve (cmdHBA 0x0D05 0) rq (fun s => .ok s (leBytes 2 Config.deviceCert.length ++ Config.deviceCert)) s)

/-! ### Seals and hashes (R338 to R340, R346, R348) -/

/-- Some engine is in service. -/
def State.engineUp (s : State) : Bool := s.ledg.engines != 0

/-- SEAL_DUE: SEAL_INTERVAL has passed since the last seal (R340). -/
def execSealDue (b : Fin 16) (s : State) : Result :=
  let c := s.chainAt b.val
  if !c.active || c.interval = 0 || s.ledg.stopped then .next s
  else if c.appended then .next (dueSeal b.val s)
  else .next (onChain b.val (fun c => { c with intervalUp := true }) s)

/-- The page after one, in the same chain, takes its hash as PREV_HASH. -/
def linkNext (p : Page) (h : List Byte) (q : Page) : Page :=
  if q.no = p.no + 1 && q.chainId = p.chainId then { q with prevHash := some h } else q

/-- A closed page can be hashed: its hash is not known, PREV_HASH is, and its seal, if it has one, is signed. -/
def Page.hashable (p : Page) : Bool := p.hash.isNone && p.prevHash.isSome && !p.awaitSig

/-- PAGE_HASH_DONE: the oldest closed page that can be hashed has its hash, which the next page takes (R338, R346). -/
def execPageHashDone (b : Fin 16) (s : State) : Result :=
  match (s.chainAt b.val).closed.find? Page.hashable with
  | none => .next s
  | some p =>
    if !s.engineUp then .next s
    else
      let h := sha256 p.bytes
      .next (onChain b.val (fun c => { c with
        closed := c.closed.map (fun q => if q.no = p.no && q.chainId = p.chainId then { q with hash := some h } else linkNext p h q),
        page := linkNext p h c.page, lastHash := h }) s)

/-- The message that a seal signs: SHA-256 of the page up to the seal's slot (R339). -/
def Page.sealMessage (p : Page) : List Byte := sha256 (p.header ++ (p.slots.take (p.slots.length - 1)).flatten)

/-- The signature fills the slot after the seal. -/
def Page.signed (sig : List Byte) (p : Page) : Page :=
  { p with slots := p.slots.take (p.slots.length - 1) ++ [padTo 64 sig], awaitSig := false }

/-- Answers the functions whose seal has now been signed. -/
def answerSeals (b : Nat) (s : State) : State :=
  let c := s.chainAt b
  let s1 := onChain b (fun c => { c with sealFns := (c.sealFns.filter (fun e => 1 < e.2)).map (fun e => (e.1, e.2 - 1)) }) s
  (c.sealFns.filter (fun e => e.2 ≤ 1)).foldl (fun s e => finish e.1 0x0D03 .ok (leBytes 8 c.sealSeq) s) s1

/-- A seal's signature is in place: its page is closed, and a seal that has waited is written (R339, R346). -/
def sealDone (b : Nat) (p : Page) (s : State) : State :=
  let sig := Config.edSign ((s.berthAt b).keyNonce.getD 0) p.sealMessage
  let s1 := onChain b (fun c =>
    let closed := c.closed.map (fun q => if q.no = p.no && q.chainId = p.chainId then q.signed sig else q)
    { c with closed := closed, signing := closed.any Page.awaitSig, signFails := 0 }) s
  let s2 := answerSeals b (onLedg (fun l => { l with seals := bump l.seals }) s1)
  resumeDestroy b (sealNext b s2)

/-- SEAL_SIGNED: the signature completes and is verified; one that fails twice raises LEDG_SIGN_FAIL and holds the berth FULL (R348). -/
def execSealSigned (b : Fin 16) (selfOk : Bool) (s : State) : Result :=
  let c := s.chainAt b.val
  match c.closed.find? Page.awaitSig with
  | none => .next s
  | some p =>
    if p.prevHash.isNone || !s.engineUp || c.signHold then .next s
    else if selfOk then .next (sealDone b.val p s)
    else if c.signFails = 0 then .next (onChain b.val (fun c => { c with signFails := 1 }) s)
    else .next (raise 26 2 0 0 0 (some b.val) (onChain b.val (fun c => { c with signFails := 2, signHold := true, full := true }) s))

/-- LEDG_ENGINE_FAIL: the other engine serves every berth (R348). -/
def execLedgEngineFail (e : Fin 2) (s : State) : Result :=
  if !s.ledg.engines.getLsbD e.val then .next s
  else .next (raise 26 1 e.val 0 0 none (onLedg (fun l => { l with engines := l.engines &&& ~~~(BitVec.ofNat 2 (2 ^ e.val)) }) s))

/-! ### Pages to the cartridge and to staging (R342, R347, R349) -/

/-- Of two pages, the one that goes first: power-fail pages, then close order (R342, R349). -/
def firstPage (p q : Page) : Page :=
  if p.powerFail != q.powerFail then (if p.powerFail then p else q) else if q.order < p.order then q else p

/-- The first of some pages. -/
def firstOf : List Page → Option Page
  | [] => none
  | p :: ps => some (ps.foldl firstPage p)

/-- The closed pages that stand in buffers, are hashed, and have not been issued. -/
def State.bufferedPages (s : State) : List Page :=
  (s.ledg.chain.map (fun e => e.2.closed.filter (fun p => p.hash.isSome && p.place == 0))).flatten

/-- The staged pages that have not been issued. -/
def State.stagedPages (s : State) : List Page := s.ledg.ring.filter (fun p => p.place == 4)

/-- A page goes from its buffer to the staging ring, and frees the buffer (R342). -/
def stagePage (p : Page) (s : State) : State :=
  let s1 := onLedg (fun l => { l with ring := l.ring ++ [{ p with place := 4 }], pagesStaged := bump l.pagesStaged })
    (onChain p.berth (fun c => { c with closed := c.closed.filter (fun q => !(q.no = p.no && q.chainId = p.chainId)) }) s)
  resumeDestroy p.berth (spaceFreed p.berth s1)

/-- PAGE_WRITE: the first page in a buffer goes to the ACTIVE bay, unless staged pages come first or the bay's queue is full: then the first
page whose berth has room in the ring is staged (R342, R349). -/
def execPageWrite (s : State) : Result :=
  match firstOf s.bufferedPages with
  | none => .next s
  | some p =>
    match (if s.stagedPages = [] || p.powerFail then s.activeBay.filter (fun n => s.bayRoom n) else none) with
    | some n => .next (issuePage n p false s)
    | none =>
      match firstOf (s.bufferedPages.filter (fun p => 0 < s.ringRoom p.berth && !s.ledg.stopped)) with
      | some q => .next (stagePage q s)
      | none => .next s

/-- A page's neighbours of the same berth give the range that a LOST record names (R347). -/
def State.lostRange (s : State) (p : Page) : Nat × Nat :=
  let mine := (s.ledg.ring ++ (s.chainAt p.berth).closed ++ [(s.chainAt p.berth).page]).filter (fun q => q.berth == p.berth && q.chainId == p.chainId)
  let before := match mine.find? (fun q => q.no + 1 == p.no) with
    | some q => some q.lastSeq
    | none => (s.chainAt p.berth).lastOut
  let first := if p.no = 0 then 0 else (before.map (· + 1)).getD p.firstSeq
  let last := match mine.find? (fun q => q.no == p.no + 1) with
    | some q => if q.slots = [] then (s.chainAt p.berth).nextSeq - 1 else q.firstSeq - 1
    | none => p.lastSeq
  (first, last)

/-- A staged page is lost: a LOST record names its range, and LEDG_LOST is raised (R347). -/
def losePage (p : Page) (s : State) : State :=
  let r := s.lostRange p
  let s1 := onLedg (fun l => { l with lostPages := bump l.lostPages }) s
  let s2 := append p.berth 0x0C 0 1 (leBytes 8 p.no ++ leBytes 8 r.1 ++ leBytes 8 r.2) s1
  freePage p.berth p.no (raise 26 0 0 0 p.no (some p.berth) s2)

/-- Every staged page is lost: the channel's content has not been kept (17_dram.md R388). -/
def loseStaged (s : State) : State := s.ledg.ring.foldl (fun s p => losePage p s) s

/-- STAGING_READBACK: the first staged page is read back and issued to the ACTIVE bay, or is lost when it reads uncorrectable (R347). -/
def execStagingReadback (err : EccErr) (s : State) : Result :=
  match firstOf s.stagedPages, s.activeBay with
  | some p, some n =>
    if !s.stagingUp || !s.bayRoom n || s.bufferedPages.any Page.powerFail then .next s
    else if err = .uncorrectable then .next (losePage p s)
    else .next (issuePage n p true s)
  | _, _ => .next s

end Sys2Proof.Machine
end

