-- ==== Sys2Proof/Machine/Cistern.lean ====
section
/-! DEFINITION. The Cistern commands, and the events of its bays and cartridges (16_cistern.md). -/

namespace Sys2Proof.Machine

/-! ### Commands (R366, R373, R374) -/

/-- CIST_STATUS of a bay (Table 16.6). -/
def Bay.word (x : Bay) : Nat :=
  wordOf [(x.st, 0), (bitNat x.prsnt, 4), (bitNat x.latched, 5), (bitNat x.linkFull, 6), (x.life, 7), (bitNat x.warn80, 21),
    (bitNat x.warn95, 22)]

/-- Zones used, as the bay's register holds them (R373). -/
def State.zonesUsed (s : State) (n : Nat) : Nat := (s.cartAt n).usedZones

/-- A bay's registers, in offset order. -/
def State.bayRegs (s : State) (n : Nat) : List Byte :=
  leBytes 4 (s.bayAt n).word ++ leBytes 4 (s.zonesUsed n) ++ leBytes 8 (s.bayAt n).serial.toNat

/-- The Cistern counters, in register order (R373). -/
def Cist.counters (c : Cist) : List (BitVec 48) :=
  [c.pagesWritten, c.reissued, c.appendErr, c.stallCnt, c.swaps, c.authFail, c.hkUs]

/-- CISTERN_STATUS. -/
def execCisternStatus (rq : Req) (s : State) : Result :=
  .next (serve (cmdHBA 0x0E01 0) rq (fun s =>
    .ok s (s.bayRegs 0 ++ s.bayRegs 1 ++ padTo 128 (s.cartAt 0).ident ++ padTo 128 (s.cartAt 1).ident ++ slotsBytes s.cist.counters)) s)

/-- CISTERN_CONFIG. -/
def execCisternConfig (rq : Req) (s : State) : Result :=
  .next (serve (cmdH 0x0E02 4) rq (fun s =>
    let w := rq.u8 1
    if 5 < rq.u8 0 || (w ≠ 0 && (w < 50 || 99 < w)) then .err .badParam
    else .ok (onCist (fun c => { c with hkShare := BitVec.ofNat 8 (rq.u8 0), capWarn := BitVec.ofNat 8 w }) s) []) s)

/-- CISTERN_SWAP: the ACTIVE bay hands over and becomes STANDBY (log entry 25). -/
def execCisternSwap (rq : Req) (s : State) : Result :=
  .next (serve (cmdH 0x0E03 0) rq (fun s =>
    match s.activeBay, s.standbyBay with
    | some n, some _ => .later (handOverBay n 3 (onCist (fun c => { c with swapFn := some rq.fn.val }) s))
    | _, _ => .err .state) s)

/-- CISTERN_RELEASE: the bay is flushed and finished, after a switch when it is ACTIVE. -/
def execCisternRelease (rq : Req) (s : State) : Result :=
  .next (serve (cmdH 0x0E04 4) rq (fun s =>
    let n := rq.u8 0
    let st := (s.bayAt n).st
    if 1 < n then .err .badParam
    else if st ≤ 2 || st = 8 then .err .state
    else if st = 7 then .ok s []
    else if st = 4 then .later (retireBay n 7 (onBay n (fun x => { x with releaseFn := some rq.fn.val }) s))
    else .ok (onBay n (fun x => { x with st := 7 }) (flushBay n (revokeWindow n s))) []) s)

/-- CISTERN_IDENTITY: the page as last read. -/
def execCisternIdentity (rq : Req) (s : State) : Result :=
  .next (serve (cmdHA 0x0E05 4) rq (fun s =>
    let n := rq.u8 0
    if 1 < n then .err .badParam
    else if (s.bayAt n).st = 0 || (s.cartAt n).ident = [] then .err .state
    else .ok s (padTo 1024 (s.cartAt n).ident)) s)

/-- n bytes of the next free value. -/
def State.freeRun (s : State) (n : Nat) : List Byte := (List.range n).map (Config.freeByte s.free)

/-- CISTERN_RETIRE_CHALLENGE: the cartridge's nonce, valid for one Retire. -/
def execCisternRetireChallenge (rq : Req) (hwFault : Bool) (s : State) : Result :=
  .next (serve (cmdHA 0x0E06 4) rq (fun s =>
    let n := rq.u8 0
    if 1 < n then .err .badParam
    else if (s.bayAt n).st ≤ 2 then .err .state
    else if hwFault then .err .hwFault
    else
      let nonce := s.freeRun 32
      .ok (emit (.nvme n 0xC2 0 []) (drawn (onBay n (fun x => { x with nonce := some nonce }) s))) nonce) s)

/-- The ASCII tag OKCS-RETIRE. -/
def retireTag : List Byte := [0x4F, 0x4B, 0x43, 0x53, 0x2D, 0x52, 0x45, 0x54, 0x49, 0x52, 0x45]

/-- The ASCII tag OKCS-AUTH. -/
def authTag : List Byte := [0x4F, 0x4B, 0x43, 0x53, 0x2D, 0x41, 0x55, 0x54, 0x48]

/-- A cartridge takes a Retire buffer: nonce, serial, custodian and signature are right (R366). -/
def retireValid (nonce : Option (List Byte)) (ident buf : List Byte) : Bool :=
  let serial := sliceBytes ident 8 8
  nonce == some (sliceBytes buf 0 32) && sliceBytes buf 32 8 == serial && sliceBytes buf 40 8 == sliceBytes ident 80 8
    && Config.edVerify (sliceBytes ident 88 32) (sha256 (retireTag ++ serial ++ sliceBytes buf 0 32)) (sliceBytes buf 48 64)

/-- Every zone is empty again, and RETIRE_COUNT has risen (R366). -/
def Cart.retired (c : Cart) : Cart :=
  { c with pages := [], usedZones := 0, openZone := none, fill := 0,
           ident := overwrite c.ident 66 (leBytes 2 (fieldLe c.ident 66 2 + 1)) }

/-- A bay begins to probe (R361). -/
def startProbe (n : Nat) (s : State) : State :=
  onBay n (fun x => { x with st := 1, fails := [], stalls := [], window := none, nonce := none, cart := some (x.cart.getD {}) }) s

/-- CISTERN_RETIRE: a valid signature resets every zone, and the bay probes again. -/
def execCisternRetire (rq : Req) (hwFault : Bool) (s : State) : Result :=
  .next (serve (cmdHA 0x0E07 132) rq (fun s =>
    let n := rq.u8 0
    let x := s.bayAt n
    let s1 := emit (.nvme n 0xC1 0 (rq.bytes 4 128)) (onBay n (fun x => { x with nonce := none }) s)
    if 1 < n then .err .badParam
    else if x.st ≤ 2 || x.st = 4 || x.st = 8 then .err .state
    else if !retireValid x.nonce (s.cartAt n).ident (rq.bytes 4 128) then .failed s1 .badParam []
    else if hwFault then .failed s1 .hwFault []
    else .ok (startProbe n (onBay n (fun x => { x with capWarned := false }) (onCart n Cart.retired (revokeWindow n s1)))) []) s)

/-- A page of a cartridge; what the model has not seen written is a free value. -/
def State.pageAt (s : State) (n lba : Nat) : List Byte :=
  let p := Tab.look [] (s.cartAt n).pages lba
  if p = [] then s.freeRun 4096 else padTo 4096 p

/-- CISTERN_READ. -/
def execCisternRead (rq : Req) (hwFault : Bool) (s : State) : Result :=
  .next (serve (cmdHA 0x0E08 12) rq (fun s =>
    let n := rq.u8 0
    if 1 < n || rq.u8 1 ≠ 1 || 0x100000000 ≤ rq.u64 4 then .err .badParam
    else if (s.bayAt n).st ≤ 2 then .err .state
    else if hwFault then .err .hwFault
    else .ok (emit (.nvme n 0x02 (rq.u64 4) []) (drawn s)) (s.pageAt n (rq.u64 4))) s)

/-! ### Appends and the switch (R357, R364, R369, R370) -/

/-- The last outstanding append of a bay that hands over has ended. -/
def drainCheck (n : Nat) (s : State) : State :=
  if (s.bayAt n).draining.isSome && (s.bayAt n).out = [] then completeSwitch n s else s

/-- ZONE_APPEND_COMPLETE: outstanding append i of the bay ends. -/
def execZoneAppendComplete (n : Fin 2) (i : Nat) (ok : Bool) (s : State) : Result :=
  match (s.bayAt n.val).out[i]? with
  | none => .next s
  | some a =>
    if ok then .next (drainCheck n.val (pageWritten n.val a (onBay n.val (fun x => { x with out := x.out.eraseIdx i }) s)))
    else .next (drainCheck n.val (appendFails n.val i a s))

/-- SWITCH_REISSUE: 2 ms after its trigger a switch is completed, and what has no completion is reissued. -/
def execSwitchReissue (n : Fin 2) (s : State) : Result :=
  .next (if (s.bayAt n.val).draining.isSome then completeSwitch n.val s else s)

/-- APPEND_STALL: the 64th stall within 1 s is a violation, and the bay hands over when a STANDBY bay exists (R370). -/
def execAppendStall (n : Fin 2) (s : State) : Result :=
  let now := s.tide.nowFs
  let x := s.bayAt n.val
  let recent := now :: (x.stalls.filter (fun t => now < t + 1000000000000000))
  let s1 := onCist (fun c => { c with stallCnt := bump c.stallCnt }) (onBay n.val (fun x => { x with stalls := recent }) s)
  if x.out = [] then .next s
  else if recent.length < 64 then .next s1
  else
    let s2 := cistEvent 7 n.val 0 (onBay n.val (fun x => { x with stalls := [] }) s1)
    .next (if s2.standbyBay.isSome && s2.activeBay = some n.val then handOverBay n.val 3 s2 else s2)

/-- ADMIN_TIMEOUT: an admin command has not completed within 1 s. -/
def execAdminTimeout (n : Fin 2) (s : State) : Result := .next (faultBay n.val s)

/-! ### Life (R363) -/

/-- LIFE_USED of an identity page. -/
def lifeOf (ident : List Byte) : Nat := fieldLe ident 64 2

/-- The bay's cartridge is mounted: it can be written, or could be but for its fill or its life. -/
def Bay.mounted (x : Bay) : Bool := x.st == 3 || x.st == 4 || x.st == 5 || x.st == 6

/-- A life warning is raised as LIFE_USED reaches its threshold. -/
def lifeWarnings (n life : Nat) (s : State) : State :=
  let x := s.bayAt n
  let s1 := if 8000 ≤ life && !x.warn80 then cistEvent 4 n 0 s else s
  let s2 := if 9500 ≤ life && !x.warn95 then cistEvent 5 n 0 s1 else s1
  onBay n (fun y => { y with life := life, warn80 := x.warn80 || 8000 ≤ life, warn95 := x.warn95 || 9500 ≤ life }) s2

/-- LIFE_USED is read with the identity page; a cartridge at 100.00 % is WORN. -/
def readLife (n : Nat) (ident : List Byte) (s : State) : State :=
  let life := lifeOf ident
  let s1 := lifeWarnings n life (onCart n (fun c => { c with ident := padTo 1024 ident }) s)
  if 10000 ≤ life && (s.bayAt n).st ≠ 6 then retireBay n 6 s1 else s1

/-- LIFE_READ. -/
def execLifeRead (n : Fin 2) (ident : List Byte) (s : State) : Result :=
  .next (if (s.bayAt n.val).mounted then readLife n.val ident s else s)

/-- ASYNC_EVENT: LIFE_USED is read, and a media error faults the bay. -/
def execAsyncEvent (n : Fin 2) (mediaError : Bool) (ident : List Byte) (s : State) : Result :=
  if !(s.bayAt n.val).mounted then .next s
  else
    let s1 := readLife n.val ident s
    .next (if mediaError then faultBay n.val s1 else s1)

/-! ### Housekeeping (R366, R367) -/

/-- Grants a housekeeping window to a mounted cartridge. -/
def grantWindow (us n : Nat) (s : State) : State :=
  if (s.bayAt n).mounted then
    emit (.nvme n 0xC4 us []) (onBay n (fun x => { x with window := some us, windowAt := s.tide.nowFs }) s)
  else s

/-- HK_PERIOD: while a page waits, a window of HK_SHARE; otherwise an open-ended one, which stands until a page waits. -/
def execHkPeriod (s : State) : Result :=
  let us := 1000 * s.cist.hkShare.toNat
  let some1 := (s.bayAt 0).mounted || (s.bayAt 1).mounted
  if s.pagesWait then
    let s1 := [0, 1].foldl (fun s n => revokeWindow n s) s
    if us = 0 || !some1 then .next s1
    else .next (onCist (fun c => { c with hkUs := bumpBy c.hkUs us }) ([0, 1].foldl (fun s n => grantWindow us n s) s1))
  else .next ([0, 1].foldl (fun s n => if (s.bayAt n).window = some 0xFFFFFFFF then s else grantWindow 0xFFFFFFFF n s) s)

/-- RETIRE_NONCE_EXPIRY: 60 s after its issue a nonce is valid no more. -/
def execRetireNonceExpiry (n : Fin 2) (s : State) : Result := .next (onBay n.val (fun x => { x with nonce := none }) s)

/-! ### Insertion and probing (R360 to R364, R371, R372) -/

/-- BAY_INSERT: a cartridge is seated and latched, and is probed once MBX_READY is set. -/
def execBayInsert (n : Fin 2) (s : State) : Result :=
  if (s.bayAt n.val).prsnt then .next s
  else
    let s1 := onBay n.val (fun x => { x with prsnt := true, latched := true, cart := some {} }) s
    .next (if s.ph.ready then startProbe n.val s1 else s1)

/-- The cartridge is refused: a check of R360 failed, by its number. -/
def refuseCart (n step : Nat) (s : State) : State :=
  cistEvent 0 n step (onCist (fun c => { c with authFail := bump c.authFail }) (onBay n (fun x => { x with st := 2 }) s))

/-- The message that Authenticate signs (R360 step 5). -/
def authMessage (nonce serial : List Byte) : List Byte := sha256 (authTag ++ nonce ++ serial ++ leBytes 8 Config.deviceSerial.toNat)

/-- The identity page has its magic, its version and a certificate that chains to the root for SE_KEY (R360 step 3). -/
def identOk (p : List Byte) : Bool :=
  let n := fieldLe p 128 2
  sliceBytes p 0 4 == [0x4F, 0x4B, 0x43, 0x53] && byteAt p 4 == 1 && 1 ≤ n && n ≤ 894
    && Config.certChains (sliceBytes p 130 n) (sliceBytes p 16 32)

/-- The first check of R360 that a probe fails, after the link has trained; none when all pass. -/
def probeFails (res : ProbeRes) (nonce : List Byte) : Option Nat :=
  let p := padTo 1024 res.ident
  let serial := sliceBytes p 8 8
  if !res.geometryOk || !res.cacheOff then some 2
  else if !identOk p then some 3
  else if sliceBytes res.side 8 8 ≠ serial then some 4
  else if res.authSerial ≠ serial || !Config.edVerify (sliceBytes p 16 32) (authMessage nonce serial) res.authSig then some 5
  else if 10000 ≤ lifeOf p then some 6
  else none

/-- The state a bay takes when its cartridge has passed: ACTIVE when no bay is, STANDBY otherwise; FULL when it has no empty zone. -/
def mountState (used : Nat) (s : State) : Nat := if zoneCount ≤ used then 5 else if s.anyActive then 3 else 4

/-- A cartridge that has passed is mounted. -/
def mount (n : Nat) (res : ProbeRes) (s : State) : State :=
  let used := res.usedZones.val
  let s1 := onCart n (fun c => { c with usedZones := used, openZone := none, fill := 0 }) s
  let s2 := onBay n (fun x => { x with st := mountState used s, capWarned := false, warn80 := false, warn95 := false }) s1
  let s3 := if res.linkFull then s2 else cistEvent 1 n 0 s2
  checkCap n (lifeWarnings n (lifeOf res.ident) s3)

/-- PROBE_COMPLETE. -/
def execProbeComplete (n : Fin 2) (res : ProbeRes) (s : State) : Result :=
  if (s.bayAt n.val).st ≠ 1 then .next s
  else
    let nonce := s.freeRun 16
    let p := padTo 1024 res.ident
    let s1 := onBay n.val (fun x => { x with linkFull := res.linkFull, serial := BitVec.ofNat 64 (fieldLe p 8 8), life := lifeOf p })
      (onCart n.val (fun c => { c with ident := p }) (drawn (emit (.nvme n.val 0xC6 Config.deviceSerial.toNat nonce) s)))
    match probeFails res nonce with
    | some step => .next (refuseCart n.val step s1)
    | none => .next (mount n.val res s1)

/-- PROBE_LINK_TIMEOUT: the link has not trained within 100 ms of probing's start. -/
def execProbeLinkTimeout (n : Fin 2) (s : State) : Result :=
  .next (if (s.bayAt n.val).st = 1 then refuseCart n.val 1 s else s)

/-- A cartridge has gone from its bay: an ACTIVE one hands over at once, and nothing of a switch is left. -/
def vacate (n : Nat) (s : State) : State :=
  let s1 := revokeWindow n (onBay n (fun x => { x with prsnt := false }) s)
  let s2 := if (s.bayAt n).st = 4 then completeSwitch n (onBay n (fun x => { x with draining := some 0 }) s1) else s1
  onBay n (fun x => { x with
    st := 0, linkFull := false, life := 0, warn80 := false, warn95 := false, serial := 0, fails := [], stalls := [], nonce := none,
    capWarned := false }) s2

/-- BAY_REMOVE. -/
def execBayRemove (n : Fin 2) (s : State) : Result :=
  if !(s.bayAt n.val).prsnt then .next s else .next (onBay n.val (fun x => { x with cart := none }) (vacate n.val s))

/-- A bay whose link is lost is probed again: as a removal followed by an insertion (R371). -/
def relinkBay (n : Nat) (s : State) : State :=
  if !(s.bayAt n).prsnt || (s.bayAt n).st = 0 then s
  else startProbe n (onBay n (fun x => { x with prsnt := true }) (vacate n s))

/-- BAY_LINK_LOSS. -/
def execBayLinkLoss (n : Fin 2) (s : State) : Result := .next (relinkBay n.val s)

/-- LATCH_OPEN: the bay hands over, or is flushed and finished, and is RELEASED (R364, R368). -/
def execLatchOpen (n : Fin 2) (s : State) : Result :=
  let s1 := onBay n.val (fun x => { x with latched := false }) s
  let st := (s.bayAt n.val).st
  if st = 4 then .next (retireBay n.val 7 s1)
  else if st = 3 || st = 5 || st = 6 then .next (onBay n.val (fun x => { x with st := 7 }) (flushBay n.val (revokeWindow n.val s1)))
  else .next s1

/-- LATCH_CLOSE: a RELEASED bay is probed again (R368). -/
def execLatchClose (n : Fin 2) (s : State) : Result :=
  let s1 := onBay n.val (fun x => { x with latched := true }) s
  .next (if (s.bayAt n.val).st = 7 then startProbe n.val s1 else s1)

end Sys2Proof.Machine
end

