-- ==== Sys2Proof/Machine/Collectives.lean ====
section
/-! DEFINITION. The collective commands and the events of the Shuttle (13_collectives.md). -/

namespace Sys2Proof.Machine

/-! ### Groups (R298, R299, R311) -/

/-- The extent a group's kind gives it: a full axis, a full plane, or the block as given; none when the parameters do not give one. -/
def groupBox (rq : Req) (s : State) : Option ((Nat × Nat × Nat) × (Nat × Nat × Nat)) :=
  let id := s.fab.id
  let axes := rq.u8 2
  let n := (setBits 3 axes).length
  let lo := fun a => if bitOf axes a then 0 else coordOf id a
  let hi := fun a => if bitOf axes a then s.fab.size a - 1 else coordOf id a
  if rq.u8 1 ≤ 1 then (if axes < 8 && n = rq.u8 1 + 1 then some ((lo 0, lo 1, lo 2), (hi 0, hi 1, hi 2)) else none)
  else if rq.u8 1 = 2 then
    (if (List.range 3).all (fun a => rq.u8 (8 + a) ≤ coordOf id a && coordOf id a ≤ rq.u8 (11 + a) && rq.u8 (11 + a) < s.fab.size a)
     then some ((rq.u8 8, rq.u8 9, rq.u8 10), (rq.u8 11, rq.u8 12, rq.u8 13)) else none)
  else none

/-- COLLECTIVE_GROUP_CREATE. -/
def execCollectiveGroupCreate (rq : Req) (s : State) : Result :=
  .next (serve { cmdHF 0x0B01 20 with own := namesSelf 0 } rq (fun s =>
    let tag := rq.u32 4
    let t := rq.u32 16
    if !berthOk rq 0 || tag = 0xFFFFFFFF || t < 10 || 1000000 < t then .err .badParam
    else if !s.fab.assigned || !s.berthExists (rq.u8 0) || (s.groupAt tag).valid then .err .state
    else match groupBox rq s with
      | none => .err .badParam
      | some (lo, hi) =>
        if 64 ≤ s.shtl.group.length then .err .noResource
        else
          let g : Group := { valid := true, berth := rq.u8 0, kind := BitVec.ofNat 2 (rq.u8 1), lo := lo, hi := hi,
                             timeout := BitVec.ofNat 32 t }
          .ok (onShtl (fun x => { x with group := Tab.put {} x.group tag g }) s) []) s)

/-- What a command finds wrong with the group it names: a TAG not in use, or another berth's. -/
def groupErr (rq : Req) (s : State) : Option Status :=
  let g := s.groupAt (rq.u32 4)
  if !berthOk rq 0 || !g.valid then some .badParam else if g.berth ≠ rq.u8 0 then some .noPerm else none

/-- A group has a pending operation. -/
def State.groupBusy (s : State) (tag : Nat) : Bool := s.shtl.slots.any (fun e => e.2.tag.toNat == tag)

/-- COLLECTIVE_GROUP_DESTROY (R307). -/
def execCollectiveGroupDestroy (rq : Req) (s : State) : Result :=
  .next (serve { cmdHF 0x0B02 8 with own := namesSelf 0 } rq (fun s =>
    match groupErr rq s with
    | some e => .err e
    | none =>
      if s.groupBusy (rq.u32 4) then .err .state
      else .ok (onShtl (fun x => { x with group := Tab.del x.group (rq.u32 4) }) s) []) s)

/-! ### Operations (R296, R297, R311) -/

/-- The operation a request names. -/
def opOf (rq : Req) : ColOp :=
  { tag := BitVec.ofNat 32 (rq.u32 4), op := rq.u8 1, wide := rq.u8 2 == 1, red := rq.u8 3, count := rq.u32 8,
    root := if rq.u8 1 = 3 then rq.u16 12 else 0, fn := some rq.fn.val, user := BitVec.ofNat 32 (rq.u32 36),
    dst := BitVec.ofNat 64 (rq.u64 24) }

/-- Elements a member puts in (Table 13.1). -/
def ColOp.inputs (op : ColOp) (g : Group) (id : Nat) : Nat :=
  if op.kind = 4 then 0
  else if op.kind = 2 then op.count / g.members
  else if op.kind = 3 then (if op.root = id then op.count else 0)
  else op.count

/-- Elements a member gets out (Table 13.1). -/
def ColOp.outputs (op : ColOp) (g : Group) : Nat := if op.kind = 4 then 0 else if op.kind = 1 then op.count / g.members else op.count

/-- The vector an operation starts with. -/
def ColOp.start (op : ColOp) (g : Group) (id : Nat) (vs : List Int) : List Int :=
  let blank := List.replicate op.count 0
  if op.kind = 2 then putRun blank (pieceRun (0, op.count) g.members (g.rank id)).1 vs
  else if vs = [] then blank else vs

/-- LKEY names a region of the berth that covers a buffer (Table 13.7). -/
def State.coversBuf (s : State) (b key addr len : Nat) : Bool :=
  let x := s.rdmaB b
  let m := Tab.look {} s.rdma.mr (key / 256)
  len == 0 || (x.mrBase ≤ key / 256 && key / 256 < x.mrBase + x.mrs && m.valid && m.key8.toNat == key % 256
    && m.base.toNat ≤ addr && addr + len ≤ m.base.toNat + m.len)

/-- The parameters of an operation are in range (Table 13.4, Table 13.7). -/
def ColOp.argsOk (op : ColOp) (rq : Req) (g : Group) : Bool :=
  op.op ≤ 4 && rq.u8 2 ≤ 1 && op.red ≤ 4 && op.count * op.esize ≤ 1048576
  && (!(op.op == 1 || op.op == 2) || op.count % g.members == 0)
  && (op.op != 3 || (op.root < 1024 && g.has op.root))

/-- COLLECTIVE_START: the operation takes a slot and returns its OP_SEQ; `data` is what the read of its input from host memory returns, and
a shorter one is a read that failed (R308). -/
def execCollectiveStart (rq : Req) (data : List Byte) (s : State) : Result :=
  .next (serve { cmdHF 0x0B03 40 with own := namesSelf 0 } rq (fun s =>
    let op := opOf rq
    let g := s.groupAt (rq.u32 4)
    match groupErr rq s with
    | some e => .err e
    | none =>
      let ni := op.inputs g s.fab.id * op.esize
      if !op.argsOk rq g then .err .badParam
      else if !s.coversBuf g.berth (rq.u32 32) (rq.u64 16) ni || !s.coversBuf g.berth (rq.u32 32) (rq.u64 24) (op.outputs g * op.esize)
        then .err .noPerm
      else if !s.domainOn 143 then .err .state
      else match s.freeOp with
        | none => .err .busy
        | some k =>
          let s1 := if ni = 0 then s else emit (.dmaRead (1 + g.berth) (rq.u64 16) ni)
            (count 0x0082 { priv := some .berth, masters := [(2, g.berth), (5, 1 + g.berth)], addr := some (2, 1, rq.u64 16) } 1 s)
          let s2 := postOp k { op with vec := op.start g s.fab.id (op.ofBytes (data.take ni)) } s1
          .ok (shtlGo (if data.length < ni then endOp k 5 0xFFFF s2 else s2)) (leBytes 4 g.nextSeq.toNat)) s)

/-- COLLECTIVE_ABORT (R308). -/
def execCollectiveAbort (rq : Req) (s : State) : Result :=
  .next (serve { cmdHF 0x0B04 12 with own := namesSelf 0 } rq (fun s =>
    match groupErr rq s with
    | some e => .err e
    | none =>
      match Tab.find (fun _ (op : ColOp) => op.tag.toNat == rq.u32 4 && op.seq.toNat == rq.u32 8) s.shtl.slots with
      | none => .err .state
      | some k => .ok (shtlGo (endOp k 3 0xFFFF s)) []) s)

/-- What collective.status returns of a pending operation: OP_SEQ, OP, whether it runs, axis and step. -/
def opBytes (op : ColOp) : List Byte :=
  leBytes 4 op.seq.toNat ++ [BitVec.ofNat 8 op.op, BitVec.ofNat 8 (bitNat op.running), BitVec.ofNat 8 op.phase, BitVec.ofNat 8 op.step]

/-- COLLECTIVE_STATUS: a group's kind, extent, next OP_SEQ and pending operations (R311). -/
def execCollectiveStatus (rq : Req) (s : State) : Result :=
  .next (serve (cmdOwn 0x0B05 8 0) rq (fun s =>
    let g := s.groupAt (rq.u32 4)
    let ops := (s.shtl.slots.map Prod.snd).filter (fun op => op.tag.toNat == rq.u32 4)
    match groupErr rq s with
    | some e => .err e
    | none => .ok s ([BitVec.ofNat 8 g.kind.toNat] ++ ((List.range 3).map (fun a => BitVec.ofNat 8 (axisOf g.lo a)))
        ++ ((List.range 3).map (fun a => BitVec.ofNat 8 (axisOf g.hi a))) ++ [BitVec.ofNat 8 ops.length]
        ++ leBytes 4 g.nextSeq.toNat ++ (ops.map opBytes).flatten)) s)

/-! ### Events (R304, R308) -/

/-- Bytes the early-arrival store holds. -/
def Shtl.earlyBytes (x : Shtl) : Nat := (x.early.map (fun m => m.body.length)).foldl (· + ·) 0

/-- The operation of a message has started here and is pending. -/
def State.opPending (s : State) (h : ColHdr) : Bool := s.shtl.slots.any (fun e => e.2.owns h)

/-- The operation of a message has already ended here. -/
def State.opPast (s : State) (h : ColHdr) : Bool :=
  let g := s.groupAt h.tag.toNat
  g.valid && !s.opPending h && 0 < (g.nextSeq - h.seq).toNat && (g.nextSeq - h.seq).toNat < 2 ^ 31

/-- COL_MESSAGE: a collective message reaches the Shuttle: its operation acts on it, or it waits in the early-arrival store; while that is
full the message is not taken (R304).  A message of an operation that has ended is dropped. -/
def execColMessage (_k : Fin 8) (bytes : List Byte) (s : State) : Result :=
  if bytes.length < 24 || !s.domainOn 143 || s.opPast (colHdr bytes) then .next s
  else
    let s1 := shtlGo (onShtl (fun x => { x with early := x.early ++ [{ dst := s.fab.id, kind := 3, vc := 3, body := bytes }] }) s)
    .next (if 262144 < s1.shtl.earlyBytes then s else s1)

/-- EARLY_ARRIVAL_STALE: a waiting message whose operation has not started is discarded (R304). -/
def execEarlyArrivalStale (i : Nat) (s : State) : Result :=
  match s.shtl.early[i]? with
  | none => .next s
  | some m =>
    if s.opPending (colHdr m.body) then .next s
    else .next (onShtl (fun x => { x with early := x.early.eraseIdx i, staleDrop := bump x.staleDrop }) s)

/-- COLLECTIVE_TIMEOUT: an expected message has been missing for TIMEOUT (R308). -/
def execCollectiveTimeout (slot : Fin 8) (s : State) : Result :=
  let op := s.opAt slot.val
  if !s.opSlots.contains slot.val || !op.begun then .next s
  else match s.opAxis op with
    | none => .next s
    | some a => .next (shtlGo (endOp slot.val 1 ((s.opGroup op).predOf s.fab.id a) s))

end Sys2Proof.Machine
end

