-- ==== Sys2Proof/Machine/CountTrace.lean ====
section
/-! DEFINITION. Programmable counters, telemetry and trace: the commands and events (22_counters_trace.md). -/

namespace Sys2Proof.Machine

/-- Changes the programmable counters. -/
def onPmon (f : Pmon → Pmon) (s : State) : State := { s with pmon := f s.pmon }

/-- The filters an event supports (Table 22.1). -/
structure EventSpec where
  priv : Bool := false
  masters : List Nat := []
  spaces : List Nat := []
  mem : List Nat := []
  cls : Bool := false

/-- The event catalogue (Table 22.1); none for any other code. -/
def eventSpec (ev : Nat) : Option EventSpec :=
  match ev with
  | 0x0001 => some {}
  | 0x0010 | 0x0011 | 0x0012 | 0x0013 | 0x0014 | 0x0015 => some { masters := [1, 2], cls := true }
  | 0x0020 => some { masters := [2] }
  | 0x0030 | 0x0031 => some { masters := [2], spaces := [7] }
  | 0x0040 => some { masters := [2], spaces := [0, 1, 2, 3, 4, 5, 6] }
  | 0x0041 => some { spaces := [0, 1, 2, 3, 4, 5, 6] }
  | 0x0042 => some { masters := [1, 2], spaces := [8] }
  | 0x0050 => some { masters := [1, 2], cls := true }
  | 0x0051 => some {}
  | 0x0052 => some { masters := [1, 2], cls := true }
  | 0x0060 | 0x0061 => some { spaces := [9], cls := true }
  | 0x0070 | 0x0071 => some { priv := true, masters := [4, 5], mem := [0] }
  | 0x0080 => some { priv := true, masters := [5] }
  | 0x0081 | 0x0082 => some { priv := true, masters := [2, 5], mem := [1] }
  | 0x0090 | 0x0091 => some { priv := true, masters := [2], cls := true }
  | 0x00A0 => some { masters := [2], cls := true }
  | 0x00B0 | 0x00B1 | 0x00B2 => some {}
  | 0x00C0 => some { masters := [2, 3] }
  | 0x00D0 => some { cls := true }
  | _ => none

/-- The indices of a MASTER kind (R467). -/
def masterCount (k : Nat) : Nat :=
  match k with
  | 1 => 64
  | 2 => 16
  | 3 => 4096
  | 4 => 1
  | 5 => 17
  | _ => 0

/-- The configuration a counters.config request spells (Table 22.6). -/
def pcCfgOf (rq : Req) : PcCfg :=
  { enable := rq.bit 1 0, ovfStop := rq.bit 1 2, event := BitVec.ofNat 16 (rq.u16 2), priv := BitVec.ofNat 8 (rq.u8 4 % 8),
    mKind := BitVec.ofNat 8 (rq.u8 5), mIdx := BitVec.ofNat 16 (rq.u16 6), aKind := BitVec.ofNat 8 (rq.u8 8),
    aSpace := BitVec.ofNat 8 (rq.u8 9), cKind := BitVec.ofNat 8 (rq.u8 10), cMask := BitVec.ofNat 64 (rq.u64 16),
    lo := BitVec.ofNat 64 (rq.u64 24), hi := BitVec.ofNat 64 (rq.u64 32), ctrl := BitVec.ofNat 8 (rq.u8 1 % 8) }

/-- Every filter in use is one the event supports, and its values are in range (R467, Table 22.4). -/
def PcCfg.okFor (c : PcCfg) (e : EventSpec) : Bool :=
  (c.priv == 0 || e.priv)
  && (c.mKind == 0 || (e.masters.contains c.mKind.toNat && (c.mKind == 4 || c.mIdx.toNat < masterCount c.mKind.toNat)))
  && (c.aKind == 0 || (c.lo ≤ c.hi && ((c.aKind == 1 && e.spaces.contains c.aSpace.toNat) || (c.aKind == 2 && e.mem.contains c.aSpace.toNat))))
  && (c.cKind == 0 || (c.cKind == 1 && e.cls && c.cMask != 0))

/-- COUNTERS_CONFIG (R467, R468). -/
def execCountersConfig (rq : Req) (s : State) : Result :=
  .next (serve (cmdH 0x1201 40) rq (fun s =>
    let i := rq.u8 0
    let c := pcCfgOf rq
    match eventSpec c.event.toNat with
    | none => .err .badParam
    | some e =>
      if 127 < i || !c.okFor e then .err .badParam
      else .ok (onPmon (fun p => { p with
        cfg := Tab.put {} p.cfg i c, stopped := p.stopped &&& ~~~(BitVec.ofNat 128 (2 ^ i)),
        value := if rq.bit 1 1 then Tab.put 0 p.value i 0 else p.value }) s) []) s)

/-- COUNTERS_SNAPSHOT: every value and the stamp are copied on one edge, and with CLEAR_AFTER every counter restarts on it (R469). -/
def execCountersSnapshot (rq : Req) (s : State) : Result :=
  .next (serve (cmdH 0x1202 4) rq (fun s =>
    if 1 < rq.u8 0 then .err .badParam
    else .ok (onPmon (fun p =>
      let q := { p with snap := p.value, snapStamp := s.stamp }
      if rq.u8 0 = 1 then { q with value := [], stopped := 0 } else q) s) []) s)

/-- The channel of the Pumphouse region cannot take a sample: it is absent, frozen, failed or off (R470, 17_dram.md R378). -/
def State.teleBlocked (s : State) : Bool :=
  match s.ph.region with
  | some c => 5 ≤ (s.ddrAt c).st
  | none => true

/-- COUNTERS_TELE_CONFIG (R470, Table 22.4, 17_dram.md R378). -/
def execCountersTeleConfig (rq : Req) (s : State) : Result :=
  .next (serve (cmdH 0x1203 4) rq (fun s =>
    if 60000 < rq.u32 0 then .err .badParam
    else if rq.u32 0 != 0 && s.ph.region.isNone then .err .state
    else .ok (onPmon (fun p => { p with telePeriod := rq.u32 0 }) s) []) s)

/-- A telemetry sample (Table 22.7). -/
def sampleBytes (s : State) : List Byte :=
  stampBytes s.stamp ++ zeros 4 ++ slotsBytes (Tab.run 0 s.pmon.value 0 128)
    ++ slotsBytes [s.guard.upCount, s.guard.downCount, s.guard.conflictUs] ++ leBytes 16 s.pmon.ovf.toNat

/-- TELEMETRY_CAPTURE: a sample is written to the 64-sample ring; while the channel is FROZEN it is skipped and counted (R470). -/
def execTelemetryCapture (s : State) : Result :=
  if s.pmon.telePeriod = 0 then .next s
  else if s.teleBlocked then .next (onPmon (fun p => { p with teleSkipped := bump p.teleSkipped }) s)
  else .next (onPmon (fun p => { p with samples := (sampleBytes s :: p.samples).take 64 }) s)

/-- COUNTERS_TELE_READ (R478). -/
def execCountersTeleRead (rq : Req) (s : State) : Result :=
  .next (serve (cmdH 0x1204 4) rq (fun s =>
    if 63 < rq.u8 0 then .err .badParam
    else match s.pmon.samples[rq.u8 0]? with
      | none => .err .state
      | some b => if s.teleBlocked then .err .frozen else .ok s b) s)

/-- TRACE_WPTR (R477). -/
def traceWptr (t : Trace) : Nat := wordOf [(t.wptr, 0), (bitNat t.wrapped, 11), (t.lost.toNat, 16)]

/-- The trace unit under a new configuration: packets in the FIFO are written first, and SYNC reason 0 follows when the instruction stream
is enabled (R475). -/
def Trace.configure (t : Trace) (ctrl shift berths stamp : Nat) : Trace :=
  let t1 := (t.closeBranch stamp)
  let t2 := t1.drainAll t1.fifo.length
  let t3 := if bitOf ctrl 3 then { t2 with buf := [], wptr := 0, wrapped := false, lost := 0 } else t2
  let on := bitOf ctrl 0
  let t4 := { t3 with phOn := on, flowOn := bitOf ctrl 1, stopMode := bitOf ctrl 2, shift := shift, berths := BitVec.ofNat 16 berths,
                      flowCount := 0, retired := if on && !t.phOn then 0 else t3.retired, idleOpen := t3.idleOpen && on }
  if on && !t.phOn then t4.sync 0 stamp else t4

/-- TRACE_CONFIG (R471, R473, R475). -/
def execTraceConfig (rq : Req) (s : State) : Result :=
  .next (serve (cmdH 0x1205 8) rq (fun s =>
    if 20 < rq.u8 1 then .err .badParam
    else .ok (onTrace (fun t => t.configure (rq.u8 0) (rq.u8 1) (rq.u16 2) s.stamp) s) []) s)

/-- TRACE_READ (R478). -/
def execTraceRead (rq : Req) (s : State) : Result :=
  .next (serve (cmdH 0x1206 4) rq (fun s =>
    let slot := rq.u16 0
    let n := rq.u16 2
    if 2047 < slot || n = 0 || 127 < n then .err .badParam
    else .ok s (leBytes 4 (traceWptr s.trace) ++ ((List.range n).map (fun i => padTo 32 (Tab.look [] s.trace.buf ((slot + i) % 2048)))).flatten)) s)

/-- TRACE_LOST_PACKET: once the FIFO has space after drops, one LOST packet carries the count, and a SYNC follows a loss of the instruction
stream (R471, Table 22.3). -/
def execTraceLostPacket (s : State) : Result :=
  let t := s.trace
  if t.lostNow = 0 || 16 ≤ t.fifo.length then .next s
  else
    let t1 := { t.push 8 t.lostStreams.toNat s.stamp (leBytes 4 t.lostNow) with lostNow := 0, lostStreams := 0 }
    .next (onTrace (fun _ => if t.lostStreams.getLsbD 0 && t.phOn then t1.sync 3 s.stamp else t1) s)

/-- PMON_OVF_WRITE: RW1C (R468, R477). -/
def execPmonOvfWrite (w : Fin 4) (mask : BitVec 32) (s : State) : Result :=
  .next (mmio 0 (onPmon (fun p => { p with ovf := p.ovf &&& ~~~(BitVec.ofNat 128 (mask.toNat * 2 ^ (32 * w.val))) }) s))

end Sys2Proof.Machine
end

