-- ==== Sys2Proof/Machine/Ports.lean ====
section
/-! DEFINITION. The river ports: link state, settling, recalibration, flow control, and the port commands (04_river_ports.md). -/

namespace Sys2Proof.Machine

/-- Changes quad q. -/
def onQuad (q : Nat) (g : Quad → Quad) (s : State) : State := s.setQuad q (g (s.quadAt q))

/-- The ports of a quad. -/
def quadPorts (q : Nat) : List Nat := [4 * q, 4 * q + 1, 4 * q + 2, 4 * q + 3]

/-- The sump source of a quad (20_sump.md Table 20.1). -/
def riverSource (q : Nat) : Nat := 6 + q / 4

/-- A pattern generator or checker is active on a port's lane, or on one of its bond's (23_test.md R482). -/
def State.pgcOnPort (s : State) (p : Nat) : Bool :=
  if s.bonded p then (quadPorts (p / 4)).any (fun l => (s.laneAt l).active) else (s.laneAt p).active

/-! ### Link state (R97, R107, R110) -/

/-- The port's auto-negotiation is out of the way: off, or done. -/
def State.anReady (s : State) (p : Nat) : Bool := !(s.quadAt (p / 4)).an || (s.portAt p).anDone

/-- The port holds block lock without hi_ber and without a fault, its quad does not retrain and has not FAILED, and AN is done. -/
def State.linkClean (s : State) (p : Nat) : Bool :=
  let v := s.portAt p
  v.enabled && !s.bondMember p && v.blockLock && !v.hiBer && !v.localFault && !v.remoteFault
  && !(s.quadAt (p / 4)).retrain && (s.quadAt (p / 4)).synth != 3 && s.anReady p

/-- LINK of an enabled port outside UP: FAULT while fault sequences are received, TRAINING while lock is held or AN runs, else DOWN. -/
def State.restLink (s : State) (p : Nat) : BitVec 3 :=
  let v := s.portAt p
  if (s.quadAt (p / 4)).synth = 3 then 1
  else if v.blockLock && (v.localFault || v.remoteFault) then 5
  else if (v.blockLock && !v.hiBer) || (s.quadAt (p / 4)).retrain || ((s.quadAt (p / 4)).an && !v.anDone) then 2
  else 1

/-- Brings a port's link state up to date after its receiver has changed: an exit from UP is counted and raised, and a clean lock starts
LINK_UP_DEBOUNCE (R107). RP_LINK_DOWN names the berth that owns the port whole (20_sump.md R430). -/
def evalLink (p : Nat) (s : State) : State :=
  let v := s.portAt p
  if !v.enabled || s.bondMember p then s
  else if s.linkClean p then
    (if v.link = 3 then s
     else onPort p (fun v => { v with
       cleanSince := some (v.cleanSince.getD s.tide.nowFs), link := if v.debounce = 0 then 3 else 2 }) s)
  else
    let s1 := onPort p (fun v => { v with cleanSince := none, link := s.restLink p }) s
    if v.link = 3 then
      raise (riverSource (p / 4)) 0 p 0 0 (s.ownerAt p).whole (onPort p (fun v => { v with linkDowns := bump v.linkDowns }) s1)
    else s1

/-- A port's PCS is reset: its link goes down and retrains, and the other ports of the quad are unaffected (R95). -/
def pcsReset (p : Nat) (s : State) : State :=
  evalLink p (onPort p (fun v => { v with
    blockLock := false, hiBer := false, localFault := false, remoteFault := false, anDone := false, cleanSince := none }) s)

/-- What the receiver reports of a port. -/
def lockApply (ev : LockEv) (v : Port) : Port :=
  match ev with
  | .lock => { v with blockLock := true, hiBer := false, localFault := false, remoteFault := false }
  | .noLock => { v with blockLock := false }
  | .hiBer => { v with hiBer := true }
  | .localFault => { v with localFault := true }
  | .remoteFault => { v with remoteFault := true }
  | .faultEnds => { v with localFault := false, remoteFault := false }

/-- RP_BLOCK_LOCK: the receiver of a port gains or loses lock, or faults start or stop (R107). -/
def execRpBlockLock (p : Fin 64) (ev : LockEv) (s : State) : Result :=
  if s.bondMember p.val then .next s else .next (evalLink p.val (onPort p.val (lockApply ev) s))

/-- RP_LINK_DOWN: a port leaves UP (R107). -/
def execRpLinkDown (p : Fin 64) (cause : LinkLoss) (s : State) : Result :=
  let g := fun (v : Port) => match cause with
    | .blockLock => { v with blockLock := false }
    | .hiBer => { v with hiBer := true }
    | .localFault => { v with localFault := true }
    | .remoteFault => { v with remoteFault := true }
  if !s.portUp p.val then .next s else .next (evalLink p.val (onPort p.val g s))

/-- LINK_UP_DEBOUNCE: a port that has held a clean lock enters UP (R107). -/
def execLinkUpDebounce (p : Fin 64) (s : State) : Result :=
  if s.linkClean p.val && (s.portAt p.val).link != 3 then .next (onPort p.val (fun v => { v with link := 3 }) s) else .next s

/-- AN_RESTART: a copper port that shares no ability with its partner stays in TRAINING and counts the failure (R97). -/
def execAnRestart (p : Fin 64) (s : State) : Result :=
  let v := s.portAt p.val
  if !v.enabled || s.bondMember p.val || !(s.quadAt (p.val / 4)).an || v.anDone then .next s
  else .next (onPort p.val (fun v => { v with link := 2, linkDowns := bump v.linkDowns }) s)

/-- A FEC code is allowed at a rate (Table 04.1). -/
def fecOk (rate fec : Nat) : Bool := fec = 0 || (fec = 1 && rate < 2) || (fec = 2 && 0 < rate)

/-- AN_COMPLETE: auto-negotiation and link training are done, with the FEC mode they resolved (R97). -/
def execAnComplete (p : Fin 64) (fec : Fin 4) (s : State) : Result :=
  let q := s.quadAt (p.val / 4)
  if !(s.portAt p.val).enabled || s.bondMember p.val || !q.an || !fecOk q.rate.toNat fec.val then .next s
  else .next (evalLink p.val (onPort p.val (fun v => { v with anDone := true, fec := BitVec.ofNat 2 fec.val }) s))

/-! ### Settling (R103, R104, R108, R110) -/

/-- With PORT_SETTLE_LIMIT 0 every frame queued for the quad is dropped when drain begins (Table 04.3). -/
def dropAllQueued (q : Nat) (s : State) : State :=
  (quadPorts q).foldl (fun s p =>
    let drop := fun (s : State) => onPort p (fun v => { v with settleDrop := bump v.settleDrop }) s
    (List.range 8).foldl (fun s t =>
      (s.queueAt (8 * p + t)).entries.foldl (fun s f => drop (dropCopy f (8 * p + t) flagSettle s)) s) s) s

/-- Drain begins: no new frame starts on any port of the quad (R103 step 1). -/
def startDrain (q : Nat) (s : State) : State :=
  let s1 := (quadPorts q).foldl (fun s p => onPort p (fun v => { v with resumed := false }) s)
    (onQuad q (fun x => { x with synth := 1, drainAt := s.tide.nowFs, recalDue := false, retries := 0 }) s)
  if (s.quadAt q).settleLimit = 0 then dropAllQueued q s1 else s1

/-- A rate or bond change takes effect: a member of a bond is DISABLED, and the receivers retrain (R94, R103). -/
def applyRate (q rate : Nat) (fecs : List Nat) (s : State) : State :=
  let s1 := onQuad q (fun x => { x with rate := BitVec.ofNat 2 rate, pend := none, retrain := true }) s
  (quadPorts q).foldl (fun s p =>
    let fec := BitVec.ofNat 2 (fecs.getD (p % 4) 0)
    if s.bondMember p then
      onPort p (fun v => { v with enabled := false, link := 0, fec := 0, paused := false, pfcPaused := 0, xoff := 0, xoffDue := 0 }) s
    else evalLink p (onPort p (fun v => { v with fec := fec, anDone := false }) s)) s1

/-- SYNTH_DRAIN_DONE: the last frame in transmission on a draining quad has ended, and settling begins (R103 step 2). -/
def execSynthDrainDone (q : Fin 16) (s : State) : Result :=
  let x := s.quadAt q.val
  let sending := (quadPorts q.val).any (fun p => (s.egressAt p).busy.isSome || (s.portUp p && (s.egressAt p).fifo != []))
  if x.synth ≠ 1 || sending then .next s
  else
    let s1 := onQuad q.val (fun x => { x with synth := 2, settleAt := s.tide.nowFs, recalCount := x.recalCount + 1 }) s
    match x.pend with
    | some (rate, fecs) => .next (applyRate q.val rate fecs s1)
    | none => .next s1

/-- Tj in °C, rounded down (24_pins_electrical.md Table 24.12). -/
def State.tjDeg (s : State) : Int := s.therm.tj / 4

/-- SYNTH_LOCK: the synthesiser reports lock, and each port sends idle (R103 step 3); a self-recalibration that fell due meanwhile is taken
now (R108). -/
def execSynthLock (q : Fin 16) (s : State) : Result :=
  let x := s.quadAt q.val
  if x.synth ≠ 2 then .next s
  else
    let us := min 255 ((s.tide.nowFs - x.settleAt) / 1000000000)
    let s1 := onQuad q.val (fun y => { y with
      synth := 0, settleUs := BitVec.ofNat 8 us, calTj := s.tjDeg, dueRaised := false, retrain := false, retries := 0 }) s
    let s2 := (quadPorts q.val).foldl (fun s p => evalLink p s) s1
    .next (if x.recalDue then startDrain q.val s2 else s2)

/-- Sends the Pause and PFC frames that fell due while the quad settled (R108). -/
def sendDue (p : Nat) (s : State) : State :=
  let v := s.portAt p
  (setBits 8 v.xoffDue.toNat).foldl (fun s c => sendPause p c (if v.xoff.getLsbD c then v.quanta.toNat else 0) s)
    (onPort p (fun v => { v with xoffDue := 0 }) s)

/-- SETTLE_RESUME: a port starts frames again, once it receives no fault (R103 step 3). -/
def execSettleResume (p : Fin 64) (s : State) : Result :=
  let v := s.portAt p.val
  if (s.quadAt (p.val / 4)).synth ≠ 0 || v.resumed || v.localFault || v.remoteFault then .next s
  else
    let s1 := onPort p.val (fun v => { v with resumed := true }) s
    .next (if s1.mayStart p.val then sendDue p.val s1 else s1)

/-- SYNTH_LOCK_TIMEOUT: a synthesiser that has not locked is retried 3 times, and then the quad is FAILED (R110). -/
def execSynthLockTimeout (q : Fin 16) (s : State) : Result :=
  let x := s.quadAt q.val
  if x.synth ≠ 2 then .next s
  else if x.retries < 3 then .next (onQuad q.val (fun x => { x with retries := x.retries + 1 }) s)
  else
    let s1 := onQuad q.val (fun x => { x with synth := 3, retries := 0, recalDue := false }) s
    .next ((quadPorts q.val).foldl (fun s p => evalLink p s) (raise (riverSource q.val) 2 q.val 0 0 none s1))

/-- RP_RECAL_DUE: Tj has drifted from the last calibration: at 50 °C in manual mode the event is raised once; at 80 °C, or at 50 °C in
automatic mode, the quad recalibrates itself (R106, R108). -/
def execRpRecalDue (q : Fin 16) (s : State) : Result :=
  let x := s.quadAt q.val
  let drift := (s.tjDeg - x.calTj).natAbs
  let s1 := if !x.recalAuto && 50 ≤ drift && !x.dueRaised then
      raise (riverSource q.val) 1 q.val 0 0 none (onQuad q.val (fun x => { x with dueRaised := true }) s)
    else s
  if x.synth = 3 || drift < (if x.recalAuto then 50 else 80) then .next s1
  else if x.synth = 0 then .next (startDrain q.val s1)
  else .next (onQuad q.val (fun x => { x with recalDue := x.synth == 2 }) s1)

/-! ### Flow control (R99, R100, R98) -/

/-- PAUSE_RECEIVE: a Pause or PFC frame is consumed and counted; it acts when the port runs in its mode (R99). -/
def execPauseReceive (p : Fin 64) (bytes : List Byte) (s : State) : Result :=
  let v := s.portAt p.val
  if !s.receives p.val || fieldBe bytes 12 2 ≠ 0x8808 then .next s
  else if !fcsGood bytes then .next (countRx p.val bytes.length true (bytes.length < 64) false s)
  else
    let op := fieldBe bytes 14 2
    let g := fun (v : Port) => { v with rxPause := bump v.rxPause }
    if op = 0x0001 then
      .next (onPort p.val (fun v => if v.flowMode == 1 then { g v with paused := fieldBe bytes 16 2 != 0 } else g v) s)
    else if op = 0x0101 then
      let named := BitVec.ofNat 8 (maskOf 8 (fun c => bitOf (fieldBe bytes 16 2) c)) &&& v.pfcEn
      let on := BitVec.ofNat 8 (maskOf 8 (fun c => fieldBe bytes (18 + 2 * c) 2 != 0))
      .next (onPort p.val (fun v =>
        if v.flowMode == 2 then { g v with pfcPaused := (v.pfcPaused &&& ~~~named) ||| (named &&& on) } else g v) s)
    else .next s

/-- PAUSE_EXPIRE: a received pause time runs out (R99). -/
def execPauseExpire (p : Fin 64) (cls : Option (Fin 8)) (s : State) : Result :=
  match cls with
  | none => .next (onPort p.val (fun v => { v with paused := false }) s)
  | some c => .next (onPort p.val (fun v => { v with pfcPaused := v.pfcPaused &&& ~~~(BitVec.ofNat 8 (2 ^ c.val)) }) s)

/-- PAUSE_REFRESH: while a threshold condition lasts, its frame is sent again (R99). -/
def execPauseRefresh (p : Fin 64) (s : State) : Result :=
  let v := s.portAt p.val
  .next ((setBits 8 v.xoff.toNat).foldl (fun s c => flowSignal p.val c v.quanta.toNat s) s)

/-- LPI_RECEIVE: received LPI is treated as idle and counted (R98). -/
def execLpiReceive (p : Fin 64) (s : State) : Result :=
  if s.receives p.val then .next (onPort p.val (fun v => { v with lpiRx := bump v.lpiRx }) s) else .next s

/-! ### Commands (Table 04.7, Table 04.8) -/

/-- The FEC codes a request gives; bonded, FEC0 only. -/
def quadFecs (rq : Req) : List Nat := if rq.u8 1 = 2 then [rq.u8 4] else [rq.u8 4, rq.u8 5, rq.u8 6, rq.u8 7]

/-- A FEC change resets that port's PCS only (R95). -/
def setFecs (q : Nat) (fecs : List Nat) (s : State) : State :=
  (quadPorts q).foldl (fun s p =>
    let fec := BitVec.ofNat 2 (fecs.getD (p % 4) 0)
    if s.bondMember p || (s.portAt p).fec = fec then s else pcsReset p (onPort p (fun v => { v with fec := fec }) s)) s

/-- PORT_QUAD_CONFIG: the quad settles only when the rate or the bond changes (R113). -/
def execPortQuadConfig (rq : Req) (s : State) : Result :=
  .next (serve (cmdH 0x0301 16) rq (fun s =>
    let q := rq.u8 0
    let x := s.quadAt q
    let fecs := quadFecs rq
    if 15 < q || 2 < rq.u8 1 || 1 < rq.u8 2 || 1 < rq.u8 3 || (rq.u8 3 = 1 && rq.u8 2 = 0) || !fecs.all (fecOk (rq.u8 1))
        || 100000 < rq.u32 8 || 1 < rq.u8 12 then .err .badParam
    else if x.synth = 1 || x.synth = 2 then .err .busy
    else
      let s1 := onQuad q (fun x => { x with
        media := BitVec.ofNat 1 (rq.u8 2), an := rq.u8 3 == 1, settleLimit := BitVec.ofNat 32 (rq.u32 8), recalAuto := rq.u8 12 == 1,
        pend := if rq.u8 1 = x.rate.toNat then none else some (rq.u8 1, fecs) }) s
      .ok (if rq.u8 1 = x.rate.toNat then setFecs q fecs s1 else if x.synth = 3 then s1 else startDrain q s1) []) s)

/-- PORT_ENABLE. -/
def execPortEnable (rq : Req) (s : State) : Result :=
  .next (serve (cmdH 0x0302 8) rq (fun s =>
    let p := rq.u8 0
    if 63 < p || 1 < rq.u8 1 || 1000000 < rq.u32 4 then .err .badParam
    else if s.bondMember p || !s.domainOn p || (rq.u8 1 = 1 && s.pgcOnPort p) then .err .state
    else
      let s1 := onPort p (fun v => { v with debounce := BitVec.ofNat 32 (rq.u32 4) }) s
      if rq.u8 1 = 1 then
        .ok (if (s.portAt p).enabled then s1 else evalLink p (onPort p (fun v => { v with enabled := true, link := 1, cleanSince := none }) s1)) []
      else .ok (onPort p (fun v => { v with
        enabled := false, link := 0, cleanSince := none, anDone := false, paused := false, pfcPaused := 0, xoff := 0, xoffDue := 0 }) s1)
        []) s)

/-- PORT_SET_FLOW: a change of mode or mask ends the pauses in force. -/
def execPortSetFlow (rq : Req) (s : State) : Result :=
  .next (serve (cmdH 0x0303 8) rq (fun s =>
    let p := rq.u8 0
    if 63 < p || 2 < rq.u8 1 || rq.u16 4 = 0 then .err .badParam
    else if s.bondMember p then .err .state
    else .ok (onPort p (fun v =>
      let same := v.flowMode.toNat == rq.u8 1 && v.pfcEn.toNat == rq.u8 2
      { v with flowMode := BitVec.ofNat 2 (rq.u8 1), pfcEn := BitVec.ofNat 8 (rq.u8 2), quanta := BitVec.ofNat 16 (rq.u16 4),
               paused := same && v.paused, pfcPaused := if same then v.pfcPaused else 0, xoff := if same then v.xoff else 0,
               xoffDue := if same then v.xoffDue else 0 }) s) []) s)

/-- PORT_RECAL: drain, settle, resume; the one way out of FAILED but a chip reset (R110). -/
def execPortRecal (rq : Req) (s : State) : Result :=
  .next (serve (cmdH 0x0304 4) rq (fun s =>
    let q := rq.u8 0
    if 15 < q then .err .badParam
    else if (s.quadAt q).synth = 1 || (s.quadAt q).synth = 2 then .err .busy
    else .ok (startDrain q s) []) s)

/-- LINK as RP_STATUS shows it (Table 04.4). -/
def State.linkShown (s : State) (p : Nat) : Nat :=
  let v := s.portAt p
  let q := s.quadAt (p / 4)
  if v.link = 0 || s.bondMember p then 0 else if q.synth = 1 || q.synth = 2 || (q.synth = 0 && !v.resumed) then 4 else v.link.toNat

/-- RP_STATUS (Table 04.4). -/
def rpStatusWord (s : State) (p : Nat) : Nat :=
  let v := s.portAt p
  let member := s.bondMember p
  if member then wordOf [(s.portRate p, 8), (2, 22)]
  else wordOf [(s.linkShown p, 0), (bitNat v.blockLock, 3), (bitNat v.hiBer, 4), (bitNat v.localFault, 5), (bitNat v.remoteFault, 6),
    (bitNat (s.ferryOk p), 7), (s.portRate p, 8), (v.fec.toNat, 10), (bitNat v.anDone, 12), (bitNat v.paused, 13), (v.pfcPaused.toNat, 14),
    (bitNat (s.bonded p), 22)]

/-- RQ_STATUS (Table 04.6). -/
def rqStatusWord (s : State) (q : Nat) : Nat :=
  let x := s.quadAt q
  wordOf [(x.synth.toNat, 0), (x.media.toNat, 2), (x.rate.toNat, 3), (bitNat x.recalAuto, 5), (unsignedOf 8 x.calTj, 6),
    (x.settleUs.toNat, 14), (x.recalCount.toNat, 22)]

/-- The counters of a port in the order of their offsets (Table 04.5). -/
def Port.counters (v : Port) : List (BitVec 48) :=
  [v.rxFrames, v.rxBytes, v.rxFcsErr, v.rxRunt, v.rxOversize, v.rxPause, v.txFrames, v.txBytes, v.txPause, v.ferryFrames, v.settleDrop,
   v.downDrop, v.fecCorr, v.fecUncorr, v.ptpDiscard, v.linkDowns, v.lpiRx]
  ++ (List.range 6).map (fun i => Tab.look 0 v.stomps (i + 1))

/-- PORT_GET_STATUS: a berth only for a port it owns whole (09_berths.md R215, 25_interface_index.md R514). -/
def execPortGetStatus (rq : Req) (s : State) : Result :=
  .next (serve { cmdHB 0x0305 4 with own := fun s b rq => 63 < rq.u8 0 || (s.ownerAt (rq.u8 0)).whole == some b } rq (fun s =>
    let p := rq.u8 0
    if 63 < p then .err .badParam
    else if s.bondMember p then .err .state
    else .ok s (leBytes 4 (rpStatusWord s p) ++ leBytes 4 (rqStatusWord s (p / 4)) ++ slotsBytes (s.portAt p).counters)) s)

end Sys2Proof.Machine
end

