-- ==== Sys2Proof/Machine/FlitOps.lean ====
section
/-! DEFINITION. Flits: their bytes, the messages they carry, credits, acknowledgement, and the sender of a Crossing (11_crossings.md R254
to R261). -/

namespace Sys2Proof.Machine

/-! ### The fabric header (12_fabric.md Table 12.1) -/

/-- A routed message as bytes: header and body. -/
def Msg.bytes (m : Msg) : List Byte :=
  leBytes 2 m.dst ++ leBytes 2 m.src ++ leBytes 2 (m.mid + 1024 * bitNat m.stage)
    ++ [m.kind, BitVec.ofNat 8 (m.listPos + 64 * bitNat m.resent)] ++ leBytes 4 m.msgId.toNat ++ leBytes 2 m.body.length ++ [m.target, m.tc]
    ++ m.body

/-- Reads a routed message that came on a VC-half. -/
def readMsg (vc half : Nat) (b : List Byte) : Msg :=
  { dst := fieldLe b 0 2 % 1024, src := fieldLe b 2 2 % 1024, mid := fieldLe b 4 2 % 1024, stage := bitOf (fieldLe b 4 2) 10,
    kind := BitVec.ofNat 8 (byteAt b 6), listPos := byteAt b 7 % 64, resent := bitOf (byteAt b 7) 6,
    msgId := BitVec.ofNat 32 (fieldLe b 8 4), target := BitVec.ofNat 8 (byteAt b 14), tc := BitVec.ofNat 8 (byteAt b 15 % 8),
    vc := vc, half := half, body := (b.drop 16).take (fieldLe b 12 2) }

/-- The flits a message takes (R276); a BYP message takes one (R255). -/
def Msg.flits (m : Msg) : Nat := if m.vc = 0 then 1 else (16 + m.body.length + 63) / 64

/-- Cells of a message. -/
def Msg.cells (m : Msg) : Nat := (16 + m.body.length + 255) / 256

/-- The payload of flit i of a message. -/
def Msg.piece (m : Msg) (i : Nat) : List Byte := ((if m.vc = 0 then m.body else m.bytes).drop (64 * i)).take 64

/-- Flit i of a message, not yet numbered. -/
def Msg.flit (m : Msg) (i : Nat) : Flit :=
  { vc := m.vc, half := m.half, som := i == 0, eom := i + 1 == m.flits, valid := (m.piece i).length, payload := m.piece i }

/-! ### The bytes of a flit (Table 11.3) -/

/-- Bytes 0 to 67 of a flit. -/
def Flit.head (f : Flit) : List Byte :=
  leBytes 2 (f.vc + 8 * f.half + 16 * f.ftype + 64 * bitNat f.som + 128 * bitNat f.eom + 256 * f.valid) ++ padTo 64 f.payload ++ [f.seq, f.ack]

/-- A flit on the link, with its CRC-32C. -/
def Flit.bytes (f : Flit) : List Byte := f.head ++ leBytes 4 (crc32c f.head).toNat

/-- The CRC of 72 received bytes is correct (R254). -/
def flitGood (b : List Byte) : Bool := b.length == 72 && fieldLe b 68 4 == (crc32c (b.take 68)).toNat

/-- Reads a flit. -/
def readFlit (b : List Byte) : Flit :=
  let w := fieldLe b 0 2
  { vc := w % 8, half := w / 8 % 2, ftype := w / 16 % 4, som := bitOf w 6, eom := bitOf w 7, valid := w / 256 % 128,
    payload := sliceBytes b 2 (min 64 (w / 256 % 128)), seq := BitVec.ofNat 8 (byteAt b 66), ack := BitVec.ofNat 8 (byteAt b 67) }

/-- A DATA flit's header is malformed (R254). -/
def Flit.malformed (f : Flit) : Bool :=
  4 < f.vc || 1 < f.ftype || f.valid == 0 || 64 < f.valid || (f.vc == 0 && (32 < f.valid || !f.som || !f.eom))

/-- The BYP types that have a meaning (R255). -/
def bypKnown (t : Nat) : Bool := t == 1 || t == 2 || (16 ≤ t && t < 32)

/-! ### State of a Crossing -/

/-- A mask of lanes: all four, lanes 0 and 1, lanes 2 and 3 (Table 11.9). -/
def laneMask (code : BitVec 2) : BitVec 4 := if code == 1 then 0x3 else if code == 2 then 0xC else 0xF

/-- Receive lanes that a training must bring up: all four for RESTORE (R266). -/
def Xl.rxMask (x : Xl) : BitVec 4 := if x.restore.isSome then 0xF else laneMask x.rxLanes

/-- The receive direction is up. -/
def Xl.rxUp (x : Xl) : Bool := x.rxDone &&& x.rxMask == x.rxMask

/-- Depth of the receive buffer of a VC-half (Table 11.5). -/
def bufDepth (v : Nat) : Nat := if v = 0 then 8 else 64

/-- Credit of a VC-half (R260). -/
def XlQueue.credit (q : XlQueue) (v : Nat) : Nat := bufDepth v - (q.sent - q.peerFreed).toNat

/-- Weight of a VC (R261). -/
def Xl.weights (x : Xl) : List Nat := [x.wReq.toNat, x.wRsp.toNat, x.wCol.toNat, x.wBlk.toNat]

/-- The SEQ of the last DATA flit received good and in order (R256). -/
def Xl.ackNow (x : Xl) : BitVec 8 := x.rxExpect - 1

/-- A stamp at a Crossing's PCS, referred to the balls of its lowest active lane (R263). -/
def State.xlStamp (s : State) (k : Nat) (egress : Bool) (phase : Nat) : Nat :=
  let x := s.xlAt k
  let code := if egress then x.txLanes else x.rxLanes
  let d := Config.laneDelay (64 + 4 * k + (if code == 2 then 2 else 0)) egress 3 0 s.temps
  ((stampOfFs (s.instant phase) : Int) + (if egress then d else -d)).toNat

/-! ### BYP messages (R255) -/

/-- Puts a BYP message of this device in a Crossing's queue (R277). -/
def sendByp (k : Nat) (payload : List Byte) (s : State) : State :=
  onXlQ k 0 0 (fun q => { q with txq := q.txq ++ [{ vc := 0, body := payload }] }) s

/-! ### Acknowledgement (R256, R258) -/

/-- Removes from a VC-half the messages whose last flit has been acknowledged. -/
def ackMsgs (fs : List Flit) (x : Xl) : Xl :=
  fs.foldl (fun x f => if f.eom then
    { x with q := Tab.upd {} x.q (2 * f.vc + f.half) (fun q => { q with inFlight := q.inFlight.drop 1 }) } else x) x

/-- Takes an acknowledgement: any advance frees flits of the replay buffer and resets RETRY_RUN. -/
def Xl.takeAck (a : BitVec 8) (x : Xl) : Xl :=
  match x.replay.findIdx? (fun f => f.seq == a) with
  | none => x
  | some i =>
    let y := ackMsgs (x.replay.take (i + 1)) x
    { y with replay := x.replay.drop (i + 1), replayPos := x.replayPos.bind (fun p =>
               if i + 1 < x.replay.length then some (p - (i + 1)) else none),
             txAcked := a, retryRun := 0 }

/-- Starts a replay of every flit that is not acknowledged, in the original order. -/
def Xl.startReplay (x : Xl) : Xl :=
  { x with replayPos := if x.replay = [] then none else some 0, replays := bump x.replays }

/-! ### Sending (R259, R261, R263) -/

/-- Bytes 4 to 13 of a CTRL flit: FREED of each VC-half. -/
def Xl.freedBytes (x : Xl) : List Byte := (List.range 10).map (fun i => (Tab.look {} x.q i).freed)

/-- A CTRL flit (Table 11.4). -/
def Xl.ctrlFlit (x : Xl) (retry hold : Bool) : Flit :=
  { ftype := 1, valid := 14, payload := [BitVec.ofNat 8 (bitNat retry + 2 * bitNat hold), x.rxExpect, 0, 0] ++ x.freedBytes,
    seq := x.txNext, ack := x.ackNow }

/-- The BYP messages in a flit that the egress PCS stamps: t1 of W_REQ is taken, and t3 is put into W_RESP (R263). -/
def stampByp (te : Nat) (f : Flit) : Flit :=
  if f.vc = 0 && f.ftype = 0 && byteAt f.payload 0 = 2 then { f with payload := overwrite f.payload 20 (stampBytes te) } else f

/-- Takes t1 of the round in hand as its W_REQ leaves (R263, R264). -/
def takeT1 (k te : Nat) (f : Flit) (s : State) : State :=
  if f.vc = 0 && f.ftype = 0 && byteAt f.payload 0 = 1 then
    onXl k (fun x => if x.witOpen && byteAt f.payload 1 = x.round.toNat then { x with witT1 := te, witEpoch := s.tide.epoch } else x) s
  else s

/-- A flit leaves on Crossing k, with the acknowledgement as it now is. -/
def putFlit (k phase : Nat) (f : Flit) (s : State) : State :=
  let te := s.xlStamp k true phase
  let g := stampByp te { f with ack := (s.xlAt k).ackNow }
  let s1 := onXl k (fun x => { x with flitsTx := bump x.flitsTx, ackSent := x.ackNow, sinceCtrl := min 4 (x.sinceCtrl + 1) }) s
  count 0x0060 { addr := some (1, 9, k), cls := some (2 * f.vc + f.half) } 1 (emit (.crossing k g.bytes) (takeT1 k te f s1))

/-- A CTRL flit leaves; it carries every FREED. -/
def putCtrl (k phase : Nat) (retry hold : Bool) (s : State) : State :=
  let s1 := putFlit k phase ((s.xlAt k).ctrlFlit retry hold) s
  onXl k (fun x => { x with
    retryDue := x.retryDue && !retry, ctrlDue := false, sinceCtrl := 0,
    q := (List.range 10).foldl (fun t i => Tab.upd {} t i (fun (q : XlQueue) => { q with freedSent := q.freed })) x.q }) s1

/-- Cells that the transit pool holds: messages ejected here that have not left (12_fabric.md R286). -/
def State.transitUsed (s : State) : Nat :=
  (s.xl.map (fun e => (e.2.q.map (fun (e : Nat × XlQueue) =>
    ((e.2.txq ++ (match e.2.cur with
      | some c => [c.1]
      | none => [])).map (fun m => if m.pooled then m.cells else 0)).foldl (· + ·) 0)).foldl (· + ·) 0)).foldl (· + ·) 0

/-- Queue of a VC-half of Crossing k (08_ferry_reservoir.md R192). -/
def xlQueueNo (k v h : Nat) : Nat := 512 + 10 * k + 2 * v + h

/-- The frame whose message waits at the head of a VC-half has lost a cell: it is dropped (08_ferry_reservoir.md R203). -/
def dropLostMsgs (k v h : Nat) : Nat → State → State
  | 0, s => s
  | n + 1, s =>
    match ((s.xlAt k).qAt v h).txq with
    | m :: _ => match m.frame with
      | some f =>
        if s.bankLost f then
          let s1 := onXlQ k v h (fun q => { q with txq := q.txq.drop 1 }) s
          dropLostMsgs k v h n (onRsv (fun r => { r with bankDrop := bump r.bankDrop }) (dropCopy f (xlQueueNo k v h) flagBankLoss s1))
        else s
      | none => s
    | [] => s

/-- A VC-half has a flit that may start: of the message being sent, or the first of a message whose queue is neither stopped nor held by
its shaper; and it has credit (R260, 08_ferry_reservoir.md R198). -/
def State.flitReady (s : State) (k v h : Nat) : Bool :=
  let q := (s.xlAt k).qAt v h
  let n := xlQueueNo k v h
  0 < q.credit v && (q.cur.isSome || (q.txq != [] && !s.queueStopped n && (s.queueAt n).shaper.open))

/-- The half of a VC to send next (R261). -/
def State.halfReady (s : State) (k v : Nat) : Option Nat :=
  let h := Tab.look 0 (s.xlAt k).halfNext v
  if s.flitReady k v h then some h else if s.flitReady k v (1 - h) then some (1 - h) else none

/-- The message whose flit a VC-half sends next, and which flit. -/
def XlQueue.nextFlit (q : XlQueue) : Msg × Nat :=
  match q.cur with
  | some c => c
  | none => (q.txq.headD {}, 0)

/-- A message as it leaves: a frame that a failed bank group has spoiled leaves with a wrong FCS (08_ferry_reservoir.md R203). -/
def State.asSent (s : State) (m : Msg) : Msg :=
  match m.frame with
  | some f => if (s.frameAt f).spoiled then { m with body := stomped m.body } else m
  | none => m

/-- The first flit of a message that carries a frame leaves: the frame is stamped (12_fabric.md R287). -/
def startMsg (k v h te : Nat) (m : Msg) (s : State) : State :=
  match m.frame with
  | some f => stampEgress f (xlQueueNo k v h) te 2 k (takeFrom (xlQueueNo k v h) f s)
  | none => s

/-- The last flit of a message leaves: its queue is charged, and its frame's copy ends. -/
def endMsg (k v h : Nat) (m : Msg) (s : State) : State :=
  let n := xlQueueNo k v h
  let s1 := onQueue n (fun y => { y with tx := bump y.tx }) (chargeFor n (16 + m.body.length) s)
  match m.frame with
  | some f => copyEnds f n s1
  | none => s1

/-- A VC-half sends its next flit, with the next SEQ; it stays in the replay buffer until it is acknowledged (R256, R258). -/
def sendData (k v h phase : Nat) (s : State) : State :=
  let x := s.xlAt k
  let (m, i) := (x.qAt v h).nextFlit
  let f := { (s.asSent m).flit i with vc := v, half := h, seq := x.txNext }
  let s0 := if i = 0 then startMsg k v h (s.xlStamp k true phase) m s else s
  let s1 := onXlQ k v h (fun q => { q with
    txq := if i = 0 then q.txq.drop 1 else q.txq, sent := q.sent + 1,
    cur := if f.eom then none else some (m, i + 1), inFlight := if f.eom then q.inFlight ++ [m] else q.inFlight }) s0
  let s2 := onXl k (fun x => { x with txNext := x.txNext + 1, replay := x.replay ++ [f] }) s1
  let s3 := putFlit k phase f s2
  if f.eom then endMsg k v h m s3 else s3

/-- The next flit of a replay leaves. -/
def sendReplay (k phase : Nat) (p : Nat) (s : State) : State :=
  let x := s.xlAt k
  let f := x.replay.getD p {}
  let s1 := onXl k (fun x => { x with replayPos := if p + 1 < x.replay.length then some (p + 1) else none }) (putFlit k phase f s)
  count 0x0061 { addr := some (1, 9, k), cls := some (2 * f.vc + f.half) } 1 s1

/-- The turn passes to the next VC; a new round takes the weights as they then are (R261, R265). -/
def Xl.nextTurn (x : Xl) : Xl :=
  let v := if x.vcNow = 4 then 1 else x.vcNow + 1
  let w := if x.vcNow = 4 then x.weights else x.turns
  { x with vcNow := v, turns := w, vcLeft := w.getD (v - 1) 0 }

/-- Weighted round robin among REQ, RSP, COL and BLK. -/
def wrrSend (k phase : Nat) : Nat → State → State
  | 0, s => s
  | n + 1, s =>
    let x := s.xlAt k
    match if x.vcLeft = 0 then none else s.halfReady k x.vcNow with
    | some h =>
      sendData k x.vcNow h phase
        (onXl k (fun x => { x with vcLeft := x.vcLeft - 1, halfNext := Tab.put 0 x.halfNext x.vcNow (1 - h) }) s)
    | none => wrrSend k phase n (onXl k Xl.nextTurn s)

/-- Brings the queues of a Crossing up to date before it chooses: shapers fill, and lost frames leave the heads. -/
def readyXl (k : Nat) (s : State) : State :=
  (List.range 10).foldl (fun s i =>
    dropLostMsgs k (i / 2) (i % 2) ((s.xlAt k).qAt (i / 2) (i % 2)).txq.length (fillQueue (512 + 10 * k + i) s)) s

/-- A flit slot of Crossing k: replay, a CTRL flit due, BYP, or a weighted VC (R261). -/
def flitSlot (k phase : Nat) (s : State) : State :=
  let s1 := readyXl k (onXl k (fun x => { x with bypBucket := min 80 (x.bypBucket + 1) }) s)
  let x := s1.xlAt k
  match x.replayPos with
  | some p => sendReplay k phase p s1
  | none =>
    if x.retryDue || (x.ctrlDue && 3 ≤ x.sinceCtrl) then putCtrl k phase x.retryDue false s1
    else if x.peerHold || 255 ≤ x.replay.length then onXl k (fun x => { x with sinceCtrl := min 4 (x.sinceCtrl + 1) }) s1
    else
      match if x.bypBucket < 20 then none else s1.halfReady k 0 with
      | some h => sendData k 0 h phase (onXl k (fun x => { x with bypBucket := x.bypBucket - 20 }) s1)
      | none => wrrSend k phase 9 s1

/-! ### Receiving (R254, R255, R257, R260) -/

/-- A flit leaves the receive buffer of a VC-half: its slot is freed, and 8 freed slots make a CTRL flit due (R259). -/
def freeSlots (k v h n : Nat) (s : State) : State :=
  let s1 := onXlQ k v h (fun q => { q with freed := q.freed + BitVec.ofNat 8 n }) s
  let q := (s1.xlAt k).qAt v h
  if 8 ≤ (q.freed - q.freedSent).toNat then onXl k (fun x => { x with ctrlDue := true }) s1 else s1

/-- Counts a bad flit. -/
def badFlit (k : Nat) (s : State) : State := onXl k (fun x => { x with badFlit := bump x.badFlit }) s

/-- Flits of an open message leave the input buffer as they come, unless a complete message stands before them (log entry 21). -/
def bufferFlit (k : Nat) (f : Flit) (s : State) : State :=
  let busy := ((s.xlAt k).qAt f.vc f.half).ready != []
  let put := fun (q : XlQueue) =>
    let rx := if f.som then [f] else q.rx ++ [f]
    { q with rx := if f.eom then [] else rx, ready := if f.eom then q.ready ++ [rx] else q.ready, kept := if busy then q.kept + 1 else q.kept }
  let s1 := onXlQ k f.vc f.half put s
  if busy then s1 else freeSlots k f.vc f.half 1 s1

/-- A DATA flit in sequence goes to its VC-half (R254, R255). -/
def acceptFlit (k : Nat) (f : Flit) (s : State) : State :=
  let s1 := onXl k (fun x => { x with rxExpect := x.rxExpect + 1, discarding := false, flitsRx := bump x.flitsRx }) s
  let isOpen := ((s1.xlAt k).qAt f.vc f.half).rx != []
  if f.malformed then badFlit k (if f.vc ≤ 4 then freeSlots k f.vc f.half 1 s1 else s1)
  else if f.vc = 0 then freeSlots k 0 f.half 1 (if bypKnown (byteAt f.payload 0) then s1 else badFlit k s1)
  else if f.som && isOpen then bufferFlit k f (badFlit k s1)
  else if !f.som && !isOpen then badFlit k (freeSlots k f.vc f.half 1 s1)
  else bufferFlit k f s1

/-- A flit is discarded: the first time for an RX_EXPECT, RETRY is sent (R257). -/
def discardFlit (k : Nat) (s : State) : State :=
  onXl k (fun x => { x with retryDue := x.retryDue || !x.discarding, discarding := true }) s

/-- FREED and RX_EXPECT of a CTRL flit (Table 11.4). -/
def takeFreed (b : List Byte) (x : Xl) : Xl :=
  { x with q := (List.range 10).foldl (fun t i => Tab.upd {} t i (fun (q : XlQueue) => { q with peerFreed := BitVec.ofNat 8 (byteAt b (4 + i)) })) x.q }

end Sys2Proof.Machine
end

