-- ==== Sys2Proof/Machine/FabCtl.lean ====
section
/-! DEFINITION. Fabric control: floods, the adjacency graph, assignment of coordinates, and the convergence of routes (12_fabric.md R278 to
R292). -/

namespace Sys2Proof.Machine

/-- The device serial of this part. -/
def ownSerial : BitVec 64 := Config.deviceSerial

/-- The ID that this device hails with (Table 12.2). -/
def Fab.hailId (f : Fab) : Nat := if f.assigned then f.id else 0xFFFF

/-! ### Floods (R278) -/

/-- Sends a BYP message on every link that carries, but one. -/
def sendAllBut (k : Option Nat) (payload : List Byte) (s : State) : State :=
  (List.range 8).foldl (fun s j => if (s.xlAt j).carries && k != some j then sendByp j (padTo 32 payload) s else s) s

/-- Floods a control message of this device, with the next FSEQ. -/
def flood (ty origin : Nat) (mk : Nat → List Byte) (s : State) : State :=
  let q := s.fab.fseq.toNat
  sendAllBut none (mk q) (onFab (fun f => { f with fseq := f.fseq + 1, seen := (ty, origin, q) :: f.seen }) s)

/-- A flooded message of this type, origin and FSEQ has been seen. -/
def State.floodSeen (s : State) (ty origin q : Nat) : Bool := s.fab.seen.contains (ty, origin, q)

/-- Relays a flooded message once, on every link but the one it came on. -/
def relay (k ty origin q : Nat) (payload : List Byte) (s : State) : State :=
  sendAllBut (some k) payload (onFab (fun f => { f with seen := (ty, origin, q) :: f.seen }) s)

/-! ### Adjacency (R280) -/

/-- Adds a report to the graph: the newest of a device's link stands. -/
def Fab.addAdj (a : Adj) (f : Fab) : Fab := { f with adj := f.adj.filter (fun b => !(b.serial == a.serial && b.link == a.link)) ++ [a] }

/-- ADJ of a report. -/
def adjBytes (a : Adj) (q : Nat) : List Byte :=
  [0x11, BitVec.ofNat 8 a.link, BitVec.ofNat 8 a.peerLink, 0] ++ leBytes 8 a.serial.toNat ++ leBytes 8 a.peer.toNat ++ leBytes 4 q

/-- Floods the ADJ of a link that is not MISWIRED. -/
def floodAdj (k : Nat) (s : State) : State :=
  let x := s.xlAt k
  if !x.carries || x.miswired then s
  else
    let a : Adj := { serial := ownSerial, link := k, peerLink := x.peerLink.toNat, peer := x.peerSerial }
    flood 0x11 ownSerial.toNat (adjBytes a) (onFab (Fab.addAdj a) s)

/-- Floods the ADJ of every link. -/
def floodAdjs (s : State) : State := (List.range 8).foldl (fun s k => floodAdj k s) s

/-- The device that a device's link reaches. -/
def Fab.peerOn (f : Fab) (serial : BitVec 64) (link : Nat) : Option (BitVec 64) :=
  (f.adj.find? (fun a => a.serial == serial && a.link == link)).map Adj.peer

/-- Walks + links of an axis from a device until the walk returns or ends: devices walked, and whether it is a ring. -/
def Fab.walk (f : Fab) (a : Nat) (start : BitVec 64) : Nat → BitVec 64 → Nat → Nat × Bool
  | 0, _, n => (n, false)
  | k + 1, cur, n =>
    match f.peerOn cur (2 * a) with
    | none => (n, false)
    | some p => if p = start then (n, 2 ≤ n) else f.walk a start k p (n + 1)

/-- The greatest size of an axis (R272). -/
def axisMax (a : Nat) : Nat := if a = 0 then 16 else 8

/-- Size of an axis as the root finds it, and whether it is open. -/
def Fab.findAxis (f : Fab) (at0 a : Nat) : Nat × Bool :=
  let (n, ring) := f.walk a ownSerial (axisMax a - 1) ownSerial 1
  if ring then (n, false) else (min (axisMax a) (at0 + n), true)

/-- One step from a coordinate along a link, in a box; none outside it. -/
def stepIn (size : Nat → Nat) (isOpen : Nat → Bool) (id link : Nat) : Option Nat :=
  let a := link / 2
  let c := coordOf id a
  let n := size a
  if isOpen a then
    (if link % 2 = 0 then (if c + 1 < n then some (withCoord id a (c + 1)) else none)
     else if 0 < c then some (withCoord id a (c - 1)) else none)
  else some (withCoord id a (stepCoord n c (link % 2 = 1)))

/-- Where the assignment stands: devices to go on from, coordinates given, and devices in conflict. -/
structure Survey where
  todo : List (BitVec 64 × Nat)
  found : List (BitVec 64 × Nat)
  bad : List (BitVec 64)
  deriving DecidableEq, Repr

/-- Follows one link of a device. -/
def Survey.look (v : Survey) (p : BitVec 64) (c : Option Nat) : Survey :=
  match c with
  | none => if v.found.any (fun e => e.1 == p) || v.bad.contains p then v else { v with bad := v.bad ++ [p] }
  | some id =>
    match v.found.find? (fun e => e.1 == p) with
    | some e => if e.2 = id || v.bad.contains p then v else { v with bad := v.bad ++ [p] }
    | none => { v with todo := v.todo ++ [(p, id)], found := v.found ++ [(p, id)] }

/-- Goes on breadth first. -/
def Fab.survey (f : Fab) (size : Nat → Nat) (isOpen : Nat → Bool) : Nat → Survey → Survey
  | 0, v => v
  | n + 1, v =>
    match v.todo with
    | [] => v
    | (d, id) :: rest =>
      f.survey size isOpen n ((List.range 6).foldl (fun v l =>
        match f.peerOn d l with
        | none => v
        | some p => v.look p (stepIn size isOpen id l)) { v with todo := rest })

/-- The ID is in the box that fabric.config gave. -/
def Fab.inCfg (f : Fab) (id : Nat) : Bool :=
  !f.live.boxEn || (coordOf id 0 < f.live.nx && coordOf id 1 < f.live.ny && coordOf id 2 < f.live.nz)

/-! ### Assignment (R280, R289) -/

/-- ASSIGN of a device. -/
def assignBytes (f : Fab) (serial : BitVec 64) (id : Nat) (q : Nat) : List Byte :=
  [0x12, BitVec.ofNat 8 (coordOf id 0), BitVec.ofNat 8 (coordOf id 1), BitVec.ofNat 8 (coordOf id 2), BitVec.ofNat 8 f.nx,
    BitVec.ofNat 8 f.ny, BitVec.ofNat 8 f.nz, BitVec.ofNat 8 f.openAxes.toNat] ++ leBytes 8 serial.toNat ++ leBytes 4 q
    ++ leBytes 4 f.epoch.toNat

/-- An epoch is later than another. -/
def epochAfter (a b : BitVec 32) : Bool := a != b && (a - b).toNat < 2 ^ 31

/-- UP mask of this device: bit k under 6 is the link that plays the role of XLk (Table 12.2, log entry 22). -/
def State.ownMask (s : State) : BitVec 8 :=
  BitVec.ofNat 8 (maskOf 8 (fun k => let x := s.xlAt (if k < 6 then s.playing k else k); x.carries && !x.miswired))

/-- UP mask of a device whose LSA has not been heard: the links that its ADJ reports name, or all when none has come (log entry 22). -/
def Fab.adjMask (f : Fab) (serial : BitVec 64) : BitVec 8 :=
  if f.adj.any (fun a => a.serial == serial) then
    BitVec.ofNat 8 (maskOf 8 (fun k => f.adj.any (fun a => a.serial == serial && a.link == k)))
  else 0xFF

/-- A device's coordinate becomes known: every last MSG_ID of it is 0, and the device itself takes its ID and is STABLE. -/
def applyAssign (serial : BitVec 64) (id : Nat) (s : State) : State :=
  onFab (fun f =>
    let g := { f with
      devices := f.devices.filter (fun d => d.1 != serial && d.2 != id) ++ [(serial, id)],
      rxId := f.rxId.filter (fun e => e.1 / 8 != id), rootSerial := f.bestSerial,
      upMask := Tab.put 0xFF f.upMask id (if serial = ownSerial then s.ownMask else f.adjMask serial) }
    if serial = ownSerial then { g with id := id, assigned := true, st := if f.st.toNat ≤ 1 then 2 else f.st } else g) s

/-- The root floods ASSIGN for a device. -/
def floodAssign (serial : BitVec 64) (id : Nat) (s : State) : State :=
  let s1 := applyAssign serial id s
  flood 0x12 s1.fab.rootSerial.toNat (assignBytes s1.fab serial id) s1

/-- The root surveys the graph from a coordinate of its own. -/
def State.surveyed (s : State) (at0 : Nat) : (Nat → Nat × Bool) × Survey :=
  let ax := fun a => s.fab.findAxis (coordOf at0 a) a
  (ax, s.fab.survey (fun a => (ax a).1) (fun a => (ax a).2) 8192 { todo := [(ownSerial, at0)], found := [(ownSerial, at0)], bad := [] })

/-- The devices of a survey that can be assigned and are not yet. -/
def State.unassigned (s : State) (v : Survey) : List (BitVec 64 × Nat) :=
  v.found.filter (fun e => !v.bad.contains e.1 && s.fab.inCfg e.2 && !s.fab.devices.any (fun d => d.1 == e.1))

/-- The devices of a survey in conflict: reached with two coordinates, or outside the box. -/
def State.conflicts (s : State) (v : Survey) : List (BitVec 64) :=
  v.bad ++ (v.found.filter (fun e => !v.bad.contains e.1 && !s.fab.inCfg e.2)).map Prod.fst

/-- The root takes the discovered box, assigns every device that has no ID, and names those in conflict. -/
def assignAll (at0 : Nat) (s : State) : State :=
  let (ax, v) := s.surveyed at0
  let s1 := onFab (fun f => { f with
    nx := (ax 0).1, ny := (ax 1).1, nz := (ax 2).1, openAxes := BitVec.ofNat 3 (maskOf 3 (fun a => (ax a).2)) }) s
  let s2 := (s1.conflicts v).foldl (fun s d => raise 24 1 0 0 d.toNat none s) s1
  (s1.unassigned v).foldl (fun s e => floodAssign e.1 e.2 s) s2

/-! ### Convergence (R275, R291, R292) -/

/-- Spares take over, or give back, the roles of their primaries (R275, R290). -/
def evalSpares (s : State) : State :=
  [6, 7].foldl (fun s k =>
    let r := Tab.look 0 s.fab.role k
    let x := s.xlAt k
    let y := s.xlAt (r - 1)
    let take := 1 ≤ r && r ≤ 6 && !y.carries && x.carries && x.peerSerial == y.lastPeer
    onXl k (fun x => { x with spareFor := if take then some (r - 1) else none }) s) s

/-- A message waiting in a Crossing's queue goes: its frame, if it carries one, is dropped with NO_ROUTE (R287). -/
def dropMsg (q : Nat) (m : Msg) (s : State) : State :=
  match m.frame with
  | some f => dropCopy f q flagNoRoute s
  | none => s

/-- The messages waiting for a link that does not carry: REQ, RSP and COL go back to the Pumphouse, BLK are dropped (R292). -/
def sweepLink (k : Nat) (s : State) : State :=
  if (s.xlAt k).carries && !(s.xlAt k).miswired then s
  else (List.range 8).foldl (fun s i =>
    let v := i / 2 + 1
    let ms := ((s.xlAt k).qAt v (i % 2)).txq
    let s1 := onXlQ k v (i % 2) (fun q => { q with txq := [] }) s
    if v < 4 then onFab (fun f => { f with returned := f.returned ++ ms }) s1
    else ms.foldl (fun s m => onFab (fun f => { f with deadDrop := bump f.deadDrop }) (dropMsg (xlQueueNo k v (i % 2)) m s)) s1) s

/-- The root can no longer be reached: this device stands for election again (R290). -/
def Fab.rootLost (f : Fab) : Bool :=
  !f.root && (match f.devices.find? (fun d => d.1 == f.rootSerial) with
    | some d => !f.reaches f.id d.2
    | none => false)

/-- This device is its own candidate. -/
def Fab.standSelf (f : Fab) : Fab := { f with bestPrio := f.live.rootPrio, bestSerial := ownSerial }

/-- A device adopts an epoch and converges: its routes are those of the masks it knows. -/
def converge (e : BitVec 32) (s : State) : State :=
  let s1 := evalSpares s
  let s2 := onFab (fun f =>
    let g := { f with
      st := 3, epoch := e, epochHigh := if epochAfter e f.epochHigh then e else f.epochHigh, installed := [], selfInstalled := false,
      converges := if f.st = 3 then f.converges else bump f.converges, upMask := Tab.put 0xFF f.upMask f.id s1.ownMask }
    if g.rootLost then g.standSelf else g) s1
  (List.range 8).foldl (fun s k => sweepLink k s) s2

/-- LSA, INSTALLED and RESUME (Table 12.2). -/
def epochBytes (ty : Byte) (mask : BitVec 8) (f : Fab) (q : Nat) : List Byte :=
  [ty, mask] ++ leBytes 2 f.id ++ leBytes 4 q ++ leBytes 4 f.epoch.toNat

/-- A link change floods an LSA with the next epoch (R291). -/
def originateLsa (s : State) : State :=
  let s1 := converge (s.fab.epoch + 1) s
  flood 0x13 s1.fab.id (epochBytes 0x13 s1.ownMask s1.fab) s1

/-- Marks the operation of a message that is resent (13_collectives.md R308). -/
def markDetour (m : Msg) (s : State) : State :=
  if m.kind = 3 then
    onShtl (fun x => { x with slots := x.slots.map (fun e => (e.1, if e.2.owns (colHdr m.body) then { e.2 with detour := true } else e.2)) }) s
  else s

/-- Resends a returned message, or discards it when its destination is unreachable (R292). -/
def resendMsg (m : Msg) (s : State) : State :=
  if s.fab.reaches s.fab.id m.target0 then
    (handOn { m with resent := true } none (onFab (fun f => { f with resent := bump f.resent }) (markDetour m s))).1
  else onFab (fun f => { f with unreach := bump f.unreach }) s

/-- RESUME: the returned messages are resent, then the held injection is released; a device that has not installed its routes goes on
converging (R291). -/
def applyResume (s : State) : State :=
  if s.fab.st ≠ 3 then s
  else if !s.fab.selfInstalled then raise 24 3 0 0 0 none s
  else
    let s1 := onFab (fun f => { f with st := 2, returned := [], heldInj := [] }) s
    let s2 := s.fab.returned.foldl (fun s m => resendMsg m s) s1
    shtlGo (s.fab.heldInj.foldl (fun s m => (handOn m none s).1) s2)

/-- The root floods RESUME. -/
def floodResume (s : State) : State := applyResume (flood 0x15 s.fab.id (epochBytes 0x15 0 s.fab) s)

/-- Every device that the root can reach has reported INSTALLED. -/
def Fab.allInstalled (f : Fab) : Bool := (f.ids.filter (fun d => f.reaches f.id d)).all (fun d => f.installed.contains d)

/-- The root resumes when every reachable device has reported. -/
def checkInstalled (s : State) : State := if s.fab.root && s.fab.allInstalled then floodResume s else s

/-! ### Discovery (R279, R281, R290) -/

/-- A device alone is its own root, at (0, 0, 0) in a box of one (R281). -/
def standAlone (s : State) : State :=
  onFab (fun f => { f.standSelf with
    id := 0, assigned := true, root := true, st := 0, nx := 1, ny := 1, nz := 1, openAxes := 7, rootSerial := ownSerial,
    devices := [(ownSerial, 0)] }) s

/-- Some link carries. -/
def State.anyLink (s : State) : Bool := (List.range 8).any (fun k => (s.xlAt k).carries)

/-- Discovery starts or starts again: this device is its own candidate and has no ID. -/
def startDiscovery (s : State) : State :=
  onFab (fun f => { f.standSelf with id := 0, assigned := false, root := false, st := 1, discovering := true, devices := [] }) s

/-- A link has come up or gone: an assigned device floods an LSA; one that was alone starts discovery (R281, R291). -/
def linkChanged (s : State) : State :=
  if !s.fab.discovering then s
  else if 2 ≤ s.fab.st.toNat then originateLsa s
  else if s.fab.st = 0 && s.anyLink then startDiscovery s
  else s

/-- The root admits devices that its graph shows and that have no ID: they are assigned, and a convergence adds them (R290). -/
def admitNew (s : State) : State :=
  if s.fab.root && 2 ≤ s.fab.st.toNat && s.unassigned (s.surveyed s.fab.id).2 != [] then originateLsa (assignAll s.fab.id s) else s

end Sys2Proof.Machine
end

