-- ==== Sys2Proof/Machine/XlLink.lean ====
section
/-! DEFINITION. The state of a Crossing link: training, fast training, recalibration, degrading, and going down (11_crossings.md R252,
R253, R262, R266 to R268). -/

namespace Sys2Proof.Machine

/-- Sump source of Crossing k (20_sump.md Table 20.1). -/
def xlSource (k : Nat) : Nat := 16 + k

/-- Code of fabric.link_ctl. -/
def linkCtlCode : Nat := 0x0A02

/-- TS set of a side (Table 11.2): three control blocks on each lane, here as one value. -/
def State.tsBytes (s : State) (k index phase : Nat) : List Byte :=
  let x := s.xlAt k
  let head := [0x4B, BitVec.ofNat 8 (index + 4 * phase + 16 * bitNat (!x.trainFull))]
  if index = 0 then padTo 8 (head ++ [BitVec.ofNat 8 (4 * k), x.rxExpect])
  else padTo 8 (head ++ leBytes 4 (if index = 1 then ownSerial.toNat else ownSerial.toNat / 2 ^ 32))

/-- TS sets of a phase are sent on every lane that will be used. -/
def sendTs (k phase : Nat) (s : State) : State :=
  [0, 1, 2].foldl (fun s i => emit (.crossing k (s.tsBytes k i phase)) s) s

/-- The round in hand is broken: the link trained, settled or degraded (R264). -/
def Xl.breakRound (x : Xl) : Xl := { x with witBroken := true }

/-- A RESTORE that is waiting ends with a status. -/
def endRestore (k : Nat) (st : Status) (s : State) : State :=
  match (s.xlAt k).restore with
  | some fn => finish fn linkCtlCode st [] (onXl k (fun x => { x with restore := none }) s)
  | none => s

/-! ### Training -/

/-- What a full training resets: the replay buffer, SEQ and ACK, and every credit (R253). -/
def Xl.fresh (x : Xl) : Xl :=
  { x with
    replay := [], replayPos := none, txNext := 0, txAcked := 255, rxExpect := 0, ackSent := 255, retryRun := 0, discarding := false,
    retryDue := false, ctrlDue := false, peerHold := false, afterDegrade := false, peerGrace := false,
    q := (List.range 10).foldl (fun t i => Tab.upd {} t i (fun (q : XlQueue) => { q with
      sent := 0, peerFreed := 0, freed := 0, freedSent := 0, rx := [], ready := [], kept := 0, inFlight := [] })) x.q }

/-- Full training starts, on all four lanes. -/
def startFull (k : Nat) (s : State) : State :=
  sendTs k 0 (onXl k (fun x => { x.fresh.breakRound with
    state := 2, trainFull := true, txDone := false, rxDone := 0, laneMap := [], txLanes := 0, rxLanes := 0, rxFailed := 0 }) s)

/-- Fast training of the directions that need it, on the current lanes; the state of the link is kept (R253). -/
def startFast (k : Nat) (tx : Bool) (s : State) : State :=
  sendTs k 0 (onXl k (fun x => { x.breakRound with
    state := 4, trainFull := false, txDone := x.txDone && !tx, rxDone := 0, laneMap := [], peerHold := false, retrains := bump x.retrains }) s)

/-- A sending lane seen on a receive lane is in place, or in the order reversed end for end (R252). -/
def mapOk (m : Tab Nat) : Bool := m.all (fun e => e.2 == e.1) || m.all (fun e => e.2 == 3 - e.1)

/-- Every lane in training has shown its sending lane. -/
def Xl.mapped (x : Xl) : Bool := (setBits 4 x.rxMask.toNat).all (fun l => Tab.look 4 x.laneMap l < 4)

/-! ### Link down (R267, R268) -/

/-- The flits of a VC that are not acknowledged. -/
def Xl.unacked (x : Xl) (p : Nat → Bool) : Nat := (x.replay.filter (fun f => p f.vc)).length

/-- The messages of a VC-half with a flit that is not acknowledged. -/
def XlQueue.unsettled (q : XlQueue) : List Msg :=
  q.inFlight ++ (match q.cur with
    | some c => [c.1]
    | none => [])

/-- Settles what a Crossing has sent and not had acknowledged, and discards the messages open at its receiver. -/
def settleFlits (k : Nat) (s : State) : State :=
  let x := s.xlAt k
  let back := ((List.range 6).map (fun i => (x.qAt (i / 2 + 1) (i % 2)).unsettled)).flatten
  let parts := ((List.range 10).filter (fun i => (x.qAt (i / 2) (i % 2)).rx != [])).length
  let s1 := onXl k (fun x => { x with
    blkDrop := bumpBy x.blkDrop (x.unacked (· == 4)), bypLost := bumpBy x.bypLost (x.unacked (· == 0)),
    returned := bumpBy x.returned back.length, partialDrop := bumpBy x.partialDrop parts, replay := [], replayPos := none,
    q := (List.range 10).foldl (fun t i => Tab.upd {} t i (fun (q : XlQueue) => { q with rx := [], cur := none, inFlight := [] })) x.q }) s
  let s2 := onFab (fun f => { f with returned := f.returned ++ back }) s1
  [0, 1].foldl (fun s h =>
    match (x.qAt 4 h).cur with
    | some (m, _) => match m.frame with
      | some f => copyEnds f (xlQueueNo k 4 h) s
      | none => s
    | none => s) s2

/-- The link is no longer up: its flits are settled, and it enters a state. -/
def leaveLink (k : Nat) (st : BitVec 3) (s : State) : State :=
  let s1 := endRestore k .hwFault (settleFlits k s)
  onXl k (fun x => { x.breakRound with
    state := st, txDone := false, rxDone := 0, rxLock := 0, peerGrace := false, peerHold := false, retryRun := 0, txLanes := 0, rxLanes := 0,
    rxFailed := 0 }) s1

/-- The link is declared down (R267); a link that was still in full training goes back to DOWN uncounted (log entry 21). -/
def linkDown (k : Nat) (s : State) : State :=
  if (s.xlAt k).state = 2 then leaveLink k 1 s
  else if !(s.xlAt k).carries then s
  else
    let s1 := onXl k (fun x => { x with linkDowns := bump x.linkDowns }) (leaveLink k 1 s)
    linkChanged (raise (xlSource k) 1 k 0 0 none s1)

/-- The link is disabled by command: not counted and not raised (R267). -/
def disableLink (k : Nat) (s : State) : State :=
  let was := (s.xlAt k).carries
  let s1 := onXl k (fun x => { x with enabled := false }) (leaveLink k 0 s)
  if was then linkChanged s1 else s1

/-- The link is enabled: it waits for its partner's signal. -/
def enableLink (k : Nat) (s : State) : State := onXl k (fun x => { x with enabled := true, state := 1 }) s

/-! ### Up -/

/-- The index of the peer's link is the one that the role of a link 0 to 5 calls for (12_fabric.md R274). -/
def wiredRight (k peer : Nat) : Bool := 5 < k || peer == (if k % 2 = 0 then k + 1 else k - 1)

/-- Both directions are up: the link is UP; after a full training its cabling is checked and the fabric told (12_fabric.md R274, R280). -/
def linkUp (k : Nat) (s : State) : State :=
  let x := s.xlAt k
  if x.trainFull then
    let bad := !wiredRight k x.peerLink.toNat
    let s1 := onXl k (fun x => { x with state := 3, miswired := bad, lastPeer := x.peerSerial }) s
    let s2 := if bad then raise 24 0 k 0 0 none s1 else s1
    floodAdj k (linkChanged s2)
  else endRestore k .ok (onXl k (fun x => { x with state := 3 }) s)

/-- The training in hand may be complete: DONE has come on every lane (R252).  The sender resumes from the peer's RX_EXPECT (R253). -/
def checkTrained (k : Nat) (s : State) : State :=
  let x := s.xlAt k
  if !(x.state == 2 || x.state == 4) || !x.rxUp || !x.mapped then s
  else
    let s1 := if x.restore.isSome then onXl k (fun x => { x with rxLanes := 0, txLanes := 0, rxFailed := 0 }) s else s
    let s2 := if x.txDone then s1
      else onXl k (fun x => if x.replay = [] then { x with txDone := true } else { x.startReplay with txDone := true }) s1
    linkUp k (onXl k (fun x => { x with retryDue := x.retryDue || x.discarding }) s2)

/-- A RETRY shows that the peer has deskewed a direction in fast training: it carries flits again (R266, log entry 21). -/
def retryTrains (k : Nat) (s : State) : State :=
  let x := s.xlAt k
  if x.state != 4 || x.txDone then s
  else
    let s1 := onXl k (fun x => { x with txDone := true }) s
    if x.rxUp then linkUp k s1 else s1

/-! ### Recalibration (R262) -/

/-- Recalibration starts: the flit in transmission has completed, QUIESCE goes out, and the transmitters go idle. -/
def recalibrate (k : Nat) (s : State) : State :=
  let x := s.xlAt k
  let settle := fun (x : Xl) => { x.breakRound with synth := 2, synthRetries := 0 }
  if x.state = 3 then
    emit (.training k "QUIESCE" 250) (onXl k (fun x => { settle x with state := 5, txDone := false }) s)
  else if (x.state = 0 || x.state = 1) && x.synth = 0 then onXl k settle s
  else s

/-- A Crossing synthesiser is calibrated at a temperature. -/
def Xl.calibrated (tj : Int) (x : Xl) : Xl := { x with synth := 0, synthRetries := 0, calTj := tj, dueRaised := false }

/-! ### Lanes (R266) -/

/-- A lane of a direction is good. -/
def goodLane (failed : BitVec 4) (l : Nat) : Bool := !failed.getLsbD l

/-- The pair that a direction with failed lanes goes on with, if any. -/
def pairFor (failed : BitVec 4) : Option (BitVec 2) :=
  if goodLane failed 0 && goodLane failed 1 then some 1 else if goodLane failed 2 && goodLane failed 3 then some 2 else none

/-- The receiver says HOLD and then DEGRADE, naming the pair and the failed lanes. -/
def sayDegrade (k : Nat) (pair : BitVec 2) (s : State) : State :=
  emit (.training k "DEGRADE" (pair.toNat + 256 * (s.xlAt k).rxFailed.toNat))
    (emit (.crossing k ((s.xlAt k).ctrlFlit false true).bytes) (onXl k (fun x => { x with flitsTx := bump x.flitsTx }) s))

/-- A receive direction degrades to a pair, whose lanes then train fast. -/
def degradeRx (k : Nat) (pair : BitVec 2) (s : State) : State :=
  let s1 := onXl k (fun x => { x.breakRound with
    state := if x.state = 5 then 5 else 4, rxLanes := pair, rxDone := 0, laneMap := [], trainFull := false, discarding := true, degrades := bump x.degrades }) s
  sayDegrade k pair (raise (xlSource k) 0 k 0 0 none s1)

/-- A receive lane fails. -/
def failLane (k l : Nat) (s : State) : State :=
  let s0 := onXl k (fun x => { x with
    rxLock := x.rxLock &&& ~~~(BitVec.ofNat 4 (2 ^ l)), rxFailed := x.rxFailed ||| BitVec.ofNat 4 (2 ^ l) }) s
  let x := s0.xlAt k
  let inUse := (laneMask x.rxLanes).getLsbD l
  match pairFor x.rxFailed with
  | none => linkDown k s0
  | some pair =>
    if inUse && x.rxLanes != 0 then linkDown k s0
    else if inUse then degradeRx k pair (endRestore k .hwFault s0)
    else if x.restore.isSome then sayDegrade k pair (endRestore k .hwFault s0)
    else s0

/-! ### Retries (R258, R265) -/

/-- A replay starts; it is one retry unless counting is suspended, and the 8th of a run starts fast training on the current lanes. -/
def retry (k : Nat) (s : State) : State :=
  let x := s.xlAt k
  let counts := !x.peerHold && !x.peerGrace && !x.afterDegrade
  let s1 := onXl k (fun x => { x.startReplay with
    afterDegrade := false, retryRun := if counts then x.retryRun + 1 else x.retryRun }) s
  if counts && x.retryRun = 7 then startFast k true (onXl k (fun x => { x with retryRun := 0, replayPos := none }) s1) else s1

end Sys2Proof.Machine
end

