-- ==== Sys2Proof/Machine/Crossings.lean ====
section
/-! DEFINITION. The link commands, and the events of a Crossing's lanes, flits and synthesiser (11_crossings.md). -/

namespace Sys2Proof.Machine

/-! ### Commands (R261, R262, R265, R270, R271) -/

/-- FABRIC_LINK_CONFIG. -/
def execFabricLinkConfig (rq : Req) (s : State) : Result :=
  .next (serve (cmdH 0x0A01 8) rq (fun s =>
    let w := fun i => rq.u8 (4 + i)
    let okW := (List.range 4).all (fun i => 1 ≤ w i && w i ≤ 63)
    if 7 < rq.u8 0 || 1 < rq.u8 1 || rq.u16 2 = 0 || 10000 < rq.u16 2 || !okW then .err .badParam
    else .ok (onXl (rq.u8 0) (fun x => { x with
      recalManual := rq.u8 1 == 1, linkDownTime := BitVec.ofNat 16 (rq.u16 2), wReq := BitVec.ofNat 8 (w 0), wRsp := BitVec.ofNat 8 (w 1),
      wCol := BitVec.ofNat 8 (w 2), wBlk := BitVec.ofNat 8 (w 3) }) s) []) s)

/-- A pattern generator or checker is active on a lane of Crossing k (23_test.md R482). -/
def State.pgcOnXl (s : State) (k : Nat) : Bool := (List.range 4).any (fun l => (s.laneAt (64 + 4 * k + l)).active)

/-- What an operation of fabric.link_ctl does on a link that is neither training nor settling (R271). -/
def linkOp (k op fn : Nat) (s : State) : Reply :=
  let x := s.xlAt k
  if op = 0 then .ok (disableLink k s) []
  else if op = 1 then (if x.enabled || s.pgcOnXl k || !s.domainOn (64 + k) then .err .state else .ok (enableLink k s) [])
  else if op = 2 then (if !x.isUp then .err .state else .ok (startFast k true s) [])
  else if op = 3 then
    (if !x.isUp || (x.txLanes = 0 && x.rxLanes = 0) then .err .state
     else .later (startFast k true (onXl k (fun x => { x with restore := some fn }) s)))
  else if !x.isUp then .err .state
  else .ok (recalibrate k s) []

/-- FABRIC_LINK_CTL. -/
def execFabricLinkCtl (rq : Req) (s : State) : Result :=
  .next (serve (cmdH linkCtlCode 4) rq (fun s =>
    let x := s.xlAt (rq.u8 0)
    if 7 < rq.u8 0 || 4 < rq.u8 1 then .err .badParam
    else if x.state == 2 || x.state == 4 || x.state == 5 then .err .busy
    else linkOp (rq.u8 0) (rq.u8 1) rq.fn.val s) s)

/-- XL_STATUS (Table 11.9). -/
def xlStatusWord (x : Xl) : Nat :=
  wordOf [(x.state.toNat, 0), (x.txLanes.toNat, 3), (x.rxLanes.toNat, 5), (x.rxLock.toNat, 7), (x.rxFailed.toNat, 11), (x.synth.toNat, 15),
    (bitNat x.peerGrace, 17), (bitNat x.recalManual, 18)]

/-- XL_SEQ. -/
def xlSeqWord (x : Xl) : Nat := wordOf [(x.txNext.toNat, 0), (x.txAcked.toNat, 8), (x.rxExpect.toNat, 16), (x.retryRun.toNat, 24)]

/-- The counters of a Crossing, in offset order. -/
def Xl.counters (x : Xl) : List (BitVec 48) :=
  [x.flitsTx, x.flitsRx, x.crcErr, x.replays, x.retrains, x.degrades, x.badBlock, x.linkDowns, x.blkDrop, x.returned, x.bypLost,
    x.partialDrop, x.badFlit, x.witMissed]

/-- FABRIC_LINK_STATUS: the registers of R270, then the counters. -/
def execFabricLinkStatus (rq : Req) (s : State) : Result :=
  .next (serve (cmdH 0x0A03 4) rq (fun s =>
    let k := rq.u8 0
    let x := s.xlAt k
    if 7 < k then .err .badParam
    else .ok s (leBytes 4 (xlStatusWord x) ++ leBytes 4 (xlSeqWord x) ++ leBytes 8 x.peerSerial.toNat ++ leBytes 4 x.peerLink.toNat
      ++ leBytes 4 (unsignedOf 32 x.witOffset) ++ leBytes 4 (unsignedOf 32 x.witDelay) ++ leBytes 4 x.witPeer.toNat
      ++ leBytes 4 (bitNat (s.tide.dissent.getLsbD k)) ++ slotsBytes x.counters)) s)

/-! ### Flits (R254 to R261) -/

/-- A CTRL flit is taken: FREED, HOLD, and RETRY from RX_EXPECT (Table 11.4). -/
def takeCtrl (k : Nat) (b : List Byte) (s : State) : State :=
  let flags := byteAt b 0
  let s1 := onXl k (fun x => takeFreed b { x with flitsRx := bump x.flitsRx, peerHold := x.peerHold || bitOf flags 1 }) s
  if bitOf flags 0 then retry k (retryTrains k (onXl k (Xl.takeAck (BitVec.ofNat 8 (byteAt b 1) - 1)) s1)) else s1

/-- A flit arrives. -/
def takeFlit (k : Nat) (b : List Byte) (s : State) : State :=
  let f := readFlit b
  if !(s.xlAt k).carries then s
  else if !flitGood b then discardFlit k (onXl k (fun x => { x with crcErr := bump x.crcErr }) s)
  else
    let s1 := onXl k (Xl.takeAck f.ack) s
    if f.ftype = 1 then takeCtrl k f.payload s1
    else if f.seq = (s1.xlAt k).rxExpect then acceptFlit k f s1
    else discardFlit k s1

/-- FLIT_RECEIVE: a DATA flit is accepted in sequence, or discarded (R257). -/
def execFlitReceive (k : Fin 8) (bytes : List Byte) (bad : Nat) (s : State) : Result :=
  .next (takeFlit k.val bytes (onXl k.val (fun x => { x with badBlock := bumpBy x.badBlock bad }) s))

/-- CTRL_FLIT: a CTRL flit is received (R256, R258, Table 11.4). -/
def execCtrlFlit (k : Fin 8) (bytes : List Byte) (s : State) : Result := .next (takeFlit k.val bytes s)

/-- FLIT_SEND: a flit slot; none starts while the direction trains or settles (R261, R262). -/
def execFlitSend (k : Fin 8) (phase : Fin 32) (s : State) : Result :=
  let x := s.xlAt k.val
  if x.txDone && x.carries then .next (flitSlot k.val phase.val s) else .next s

/-- CTRL_FLIT_DUE: an unsent FREED advance or ACK has waited 64 ns (R259). -/
def execCtrlFlitDue (k : Fin 8) (s : State) : Result :=
  let x := s.xlAt k.val
  let unsent := x.ackNow != x.ackSent || (List.range 10).any (fun i => (Tab.look {} x.q i).freed != (Tab.look {} x.q i).freedSent)
  if x.carries && unsent then .next (onXl k.val (fun x => { x with ctrlDue := true }) s) else .next s

/-- RETRY_RESEND: the flit has not come within 1 µs of RETRY (R257). -/
def execRetryResend (k : Fin 8) (s : State) : Result :=
  let x := s.xlAt k.val
  if x.carries && x.discarding then .next (onXl k.val (fun x => { x with retryDue := true }) s) else .next s

/-- REPLAY_TIMEOUT: no acknowledgement has advanced for 2 µs; it is suspended by HOLD and by the peer's grace (R258, R262). -/
def execReplayTimeout (k : Fin 8) (s : State) : Result :=
  let x := s.xlAt k.val
  if x.carries && x.txDone && x.replay != [] && !x.peerHold && !x.peerGrace then .next (retry k.val s) else .next s

/-! ### Lanes and training (R252, R253, R266, R267) -/

/-- XL_LANE_LOCK: a receive lane acquires lock.  The signal's return starts full training; lock back on a lane in use starts fast training
(R265, R268). -/
def execXlLaneLock (k : Fin 8) (lane : Fin 4) (s : State) : Result :=
  let x := s.xlAt k.val
  if !x.enabled then .next s
  else
    let s1 := onXl k.val (fun x => { x with rxLock := x.rxLock ||| BitVec.ofNat 4 (2 ^ lane.val) }) s
    if x.state = 1 && x.synth = 0 then .next (startFull k.val s1)
    else if x.state = 3 && x.rxMask.getLsbD lane.val then .next (startFast k.val true s1)
    else .next s1

/-- What a TS block teaches the receiver (Table 11.2). -/
def learnTs (lane : Nat) (b : List Byte) (x : Xl) : Xl :=
  let index := byteAt b 1 % 4
  if index = 0 then
    let y := { x with laneMap := Tab.put 4 x.laneMap lane (byteAt b 2 % 4), peerLink := BitVec.ofNat 3 (byteAt b 2 / 4 % 8) }
    if x.trainFull then y else y.takeAck (BitVec.ofNat 8 (byteAt b 3) - 1)
  else if index = 1 then { x with peerSerial := BitVec.ofNat 64 (fieldLe b 2 4 + x.peerSerial.toNat / 2 ^ 32 * 2 ^ 32) }
  else if index = 2 then { x with peerSerial := BitVec.ofNat 64 (x.peerSerial.toNat % 2 ^ 32 + fieldLe b 2 4 * 2 ^ 32) }
  else x

/-- A TS block of a training in hand is taken: a lane order that is neither straight nor reversed fails the training; once every lane is
known DONE is sent, and DONE received on every lane completes the training. -/
def takeTs (k lane : Nat) (b : List Byte) (s : State) : State :=
  let s1 := onXl k (learnTs lane b) s
  let x := s1.xlAt k
  if !mapOk x.laneMap then (if x.state = 2 then leaveLink k 1 s1 else linkDown k s1)
  else
    let s2 := if x.mapped && !(s.xlAt k).mapped then sendTs k 2 s1 else s1
    if byteAt b 1 / 4 % 4 ≠ 2 then s2
    else checkTrained k (onXl k (fun x => { x with rxDone := x.rxDone ||| BitVec.ofNat 4 (2 ^ lane) }) s2)

/-- TS_RECEIVE: a block of a TS set comes on a receive lane.  On an UP link, TS sets with FAST start fast training of the direction they
come by (R252, R253, R262). -/
def execTsReceive (k : Fin 8) (lane : Fin 4) (bytes : List Byte) (s : State) : Result :=
  let x := s.xlAt k.val
  let fast := bitOf (byteAt bytes 1) 4
  if x.state = 2 && !fast then .next (takeTs k.val lane.val bytes s)
  else if x.state = 4 && fast then .next (takeTs k.val lane.val bytes s)
  else if x.state = 3 && fast && byteAt bytes 1 / 4 % 4 ≠ 2 then .next (takeTs k.val lane.val bytes (startFast k.val false s))
  else .next s

/-- LANE_FAIL: a receive lane fails, outside the peer's grace (R262, R266). -/
def execLaneFail (k : Fin 8) (lane : Fin 4) (s : State) : Result :=
  let x := s.xlAt k.val
  if !x.carries || x.peerGrace || x.rxFailed.getLsbD lane.val then .next s else .next (failLane k.val lane.val s)

/-- DEGRADE_RECEIVE: the transmit direction moves to the pair, trains it fast, and replays from the RETRY that follows (R266). -/
def execDegradeReceive (k : Fin 8) (pair : Fin 2) (s : State) : Result :=
  let x := s.xlAt k.val
  let code : BitVec 2 := BitVec.ofNat 2 (pair.val + 1)
  if !x.carries then .next s
  else
    let move := fun (x : Xl) => { x.breakRound with
      state := if x.state = 5 then 5 else 4, txLanes := code, txDone := false, trainFull := false, peerHold := false, afterDegrade := true,
      replayPos := none, degrades := bump x.degrades }
    .next (sendTs k.val 0 (raise (xlSource k.val) 0 k.val 0 0 none (onXl k.val move (endRestore k.val .hwFault s))))

/-- XL_LINK_DOWN: all active receive lanes have been out of lock for LINK_DOWN_TIME, outside any grace (R267). -/
def execXlLinkDown (k : Fin 8) (s : State) : Result := if (s.xlAt k.val).peerGrace then .next s else .next (linkDown k.val s)

/-- FAST_TRAINING_TIMEOUT: fast training has not completed within 1 ms (R267). -/
def execFastTrainingTimeout (k : Fin 8) (s : State) : Result :=
  if (s.xlAt k.val).state = 4 then .next (linkDown k.val s) else .next s

/-! ### The synthesiser and the peer's grace (R262) -/

/-- QUIESCE_RECEIVE: the peer's grace begins. -/
def execQuiesceReceive (k : Fin 8) (s : State) : Result :=
  if (s.xlAt k.val).carries then .next (onXl k.val (fun x => { x with peerGrace := true }) s) else .next s

/-- QUIESCE_GRACE_END: the peer's grace ends. -/
def execQuiesceGraceEnd (k : Fin 8) (s : State) : Result := .next (onXl k.val (fun x => { x with peerGrace := false }) s)

/-- XL_RECAL_DUE: 50 °C of drift recalibrates in automatic mode; in manual mode it is raised, and 80 °C recalibrates. -/
def execXlRecalDue (k : Fin 8) (s : State) : Result :=
  let x := s.xlAt k.val
  let drift := (s.tjDeg - x.calTj).natAbs
  let s1 := if x.recalManual && 50 ≤ drift && !x.dueRaised then
      raise (xlSource k.val) 2 k.val 0 0 none (onXl k.val (fun x => { x with dueRaised := true }) s)
    else s
  if (if x.recalManual then 80 else 50) ≤ drift then .next (recalibrate k.val s1) else .next s1

/-- XL_SYNTH_LOCK: the synthesiser has locked, and the direction trains fast. -/
def execXlSynthLock (k : Fin 8) (s : State) : Result :=
  let x := s.xlAt k.val
  if x.synth ≠ 2 then .next s
  else
    let s1 := onXl k.val (Xl.calibrated s.tjDeg) s
    if x.state = 5 then .next (startFast k.val true s1)
    else if x.state = 1 && x.rxLock != 0 then .next (startFull k.val s1)
    else .next s1

/-- XL_SYNTH_TIMEOUT: no lock within 500 µs: three retries, then the synthesiser has failed and the link is down (R262, R267). -/
def execXlSynthTimeout (k : Fin 8) (s : State) : Result :=
  let x := s.xlAt k.val
  if x.synth ≠ 2 then .next s
  else if x.synthRetries < 3 then .next (onXl k.val (fun x => { x with synthRetries := x.synthRetries + 1 }) s)
  else .next (linkDown k.val (onXl k.val (fun x => { x with synth := 3, synthRetries := 0 }) s))

end Sys2Proof.Machine
end

