-- ==== Sys2Proof/Machine/DramOps.lean ====
section
/-! DEFINITION. A DRAM channel's accesses, its command history, freezing, self-refresh, speed changes and recovery (17_dram.md). -/

namespace Sys2Proof.Machine

/-- Changes DRAM channel c. -/
def onDdr (c : Nat) (g : Ddr → Ddr) (s : State) : State := s.setDdr c (g (s.ddrAt c))

/-- Raises event `ev` of a channel. -/
def dramEvent (c ev cause value : Nat) (s : State) : State := raise (28 + c) ev c cause value none s

/-! ### Command history (Table 17.6, R387) -/

/-- CMD codes of the history (Table 17.6). -/
inductive DramCmd where
  | act
  | rd
  | wr
  | pre
  | preAll
  | refSb
  | sre
  | srx
  | mrr
  deriving DecidableEq, Repr

/-- CMD of a command (Table 17.6). -/
def DramCmd.code : DramCmd → Nat
  | .act => 0
  | .rd => 1
  | .wr => 2
  | .pre => 3
  | .preAll => 4
  | .refSb => 6
  | .sre => 7
  | .srx => 8
  | .mrr => 10

/-- Controller clocks in a span of fs, by SPEED: half the data rate. -/
def clocksIn (speed fs : Nat) : Nat := fs * (24 + 4 * speed) / 10000000

/-- One entry of the command history: `place` is its bits [38:4]. -/
def histEntry (cmd : DramCmd) (place tick : Nat) : BitVec 64 :=
  BitVec.ofNat 64 (wordOf [(cmd.code, 0), (place % 0x800000000, 4), (min tick 0xFFFFFF, 40)])

/-- Issues a command to the components: it enters the history, which keeps the last 32 (R387). -/
def issueCmd (c : Nat) (cmd : DramCmd) (place : Nat) (s : State) : State :=
  let d := s.ddrAt c
  let e := histEntry cmd place (clocksIn d.speed.toNat (s.tide.nowFs - d.sinceTick))
  let all := d.recent ++ [e]
  emit (.dram c cmd.code) (onDdr c (fun d => { d with recent := all.drop (all.length - 32), sinceTick := s.tide.nowFs }) s)

/-- Where a block lies, as bits [38:4] of a history entry: blocks alternate between the subchannels (R376). -/
def Ddr.place (d : Ddr) (off : Nat) : Nat := off / 64 % 2 + 2 * (Config.dramPlace d.capGib (off / 64) % 0x400000000)

/-- The row of a block: its place without the column. -/
def Ddr.row (d : Ddr) (off : Nat) : Nat := d.place off % 0x2000000

/-- The commands of an access: the row is opened, accessed and closed (log entry 24). -/
def issueAccess (c : Nat) (write : Bool) (off : Nat) (s : State) : State :=
  let p := (s.ddrAt c).place off
  issueCmd c .pre p (issueCmd c (if write then .wr else .rd) p (issueCmd c .act p s))

/-! ### Freezing (R387) -/

/-- Code of a client (Table 17.5 FAIL_CLIENT). -/
def clientCode : DramClient → Nat
  | .sounding => 1
  | .staging => 2
  | .pumphouse => 3
  | .patrol => 4
  | .read => 5

/-- The requests that wait complete with FROZEN. -/
def flushRequests (c : Nat) (s : State) : State :=
  (s.ddrAt c).queue.foldl (fun s q => finishOpt q.fn 0x0F05 .frozen [] s) (onDdr c (fun d => { d with queue := [] }) s)

/-- The channel freezes: precharge-all and self-refresh entry, the capture, FROZEN to every client, and the event. -/
def freezeDram (c kind client addr synd : Nat) (rank : Bool) (s : State) : State :=
  let s1 := issueCmd c .sre 0 (issueCmd c .preAll 0 s)
  let s2 := onDdr c (fun d => { d with
    st := 5, srEntering := true, srExiting := false, contentKept := false, froze := true,
    failKind := BitVec.ofNat 3 kind, failClient := BitVec.ofNat 3 client, failAddr := BitVec.ofNat 64 addr,
    failSynd := BitVec.ofNat 16 synd, failSub := addr / 64 % 2 == 1, failRank := rank, failStamp := s.stamp, hist := d.recent,
    freezes := bump d.freezes,
    eccUncorr := if kind = 1 then bump d.eccUncorr else d.eccUncorr,
    caParity := if kind = 2 then bump d.caParity else d.caParity }) s1
  flushRequests c (dramEvent c 0 kind addr s2)

/-! ### Accesses (R379 to R381, R389) -/

/-- The block of an address, as it stands in the poison list. -/
def blockOf (addr : Nat) : Nat := addr / 64 * 64

/-- A correctable error: corrected and counted; the 256th of a row within 1 s is a storm (R380). -/
def correctableErr (c addr : Nat) (s : State) : State :=
  let d := s.ddrAt c
  let row := d.row (addr - dramBase c)
  let now := s.tide.nowFs
  let errs := (row, now) :: (d.rowErrs.filter (fun e => now < e.2 + 1000000000000000))
  let storm := 256 ≤ (errs.filter (fun e => e.1 = row)).length
  let s1 := onDdr c (fun d => { d with
    eccCorr := bump d.eccCorr, rowErrs := if storm then errs.filter (fun e => e.1 ≠ row) else errs }) s
  if storm then dramEvent c 1 0 addr s1 else s1

/-- The write of a request's bytes; a whole block is no longer poisoned (R389). -/
def storeDram (c addr : Nat) (data : List Byte) (s : State) : State :=
  let whole := addr % 64 = 0 && data.length = 64
  onDdr c (fun d => { d with
    mem := Tab.putAll 0 d.mem (addr - dramBase c) data,
    poison := if whole then d.poison.filter (· ≠ blockOf addr) else d.poison }) s

/-- What an access does to the channel: it completes, or freezes the channel. -/
def accessDram (c : Nat) (q : DdrReq) (s : State) : State :=
  let a := q.addr.toNat
  let s1 := issueAccess c q.write (a - dramBase c) s
  let poisoned := (s.ddrAt c).poison.contains (blockOf a)
  let store := fun s => if q.write then storeDram c a q.data s else s
  match q.err with
  | .ok => store s1
  | .corrected => store (correctableErr c a s1)
  | .uncorrectable synd rank =>
    if poisoned || (q.write && a % 64 = 0 && q.data.length = 64) then store s1 else freezeDram c 1 q.client a synd.toNat rank s1
  | .caParity => freezeDram c 2 q.client a 0 false s1
  | .writeCrc =>
    if q.write then freezeDram c 3 q.client a 0 false (onDdr c (fun d => { d with wcrcRetry := bumpBy d.wcrcRetry 2 }) s1) else s1

/-- Bytes and status of a completed dram.read: 0 clean, 1 corrected, 2 poisoned; a poisoned block's bytes are a free value. -/
def State.readReply (s : State) (c : Nat) (q : DdrReq) : List Byte :=
  let a := q.addr.toNat
  let d := s.ddrAt c
  if d.poison.contains (blockOf a) then (List.range 64).map (Config.freeByte s.free) ++ [2]
  else Tab.run 0 d.mem (a - dramBase c) 64 ++ [if q.err = .corrected then 1 else 0]

/-- A request that waited is issued, and a dram.read answered. -/
def issueRequest (c : Nat) (q : DdrReq) (s : State) : State :=
  if (s.ddrAt c).st ≠ 2 then finishOpt q.fn 0x0F05 .frozen [] s
  else
    let reply := s.readReply c q
    let s1 := accessDram c q s
    if (s1.ddrAt c).st = 5 then finishOpt q.fn 0x0F05 .frozen [] s1 else finishOpt q.fn 0x0F05 .ok reply (drawn s1)

/-- The requests that wait are issued, in order. -/
def issueQueue (c : Nat) (s : State) : State :=
  (s.ddrAt c).queue.foldl (fun s q => issueRequest c q s) (onDdr c (fun d => { d with queue := [] }) s)

/-! ### Self-refresh and speed (R382, R384, R386) -/

/-- A channel takes requests at once. -/
def Ddr.serving (d : Ddr) : Bool := d.st == 2 && !d.srEntering

/-- A self-refresh exit begins. -/
def beginExit (c : Nat) (s : State) : State := issueCmd c .srx 0 (onDdr c (fun d => { d with srExiting := true }) s)

/-- A request that cannot be issued at once waits; in self-refresh it starts an exit, and during entry it is counted (R384). -/
def holdRequest (c : Nat) (q : DdrReq) (s : State) : State :=
  let d := s.ddrAt c
  let s1 := onDdr c (fun d => { d with
    queue := d.queue ++ [q], srWaits := if d.st = 2 && d.srEntering then bump d.srWaits else d.srWaits }) s
  if d.st = 3 && !d.srExiting then beginExit c s1 else s1

/-- The configuration of Table 17.4. -/
def Ddr.configured (d : Ddr) (cfg : Nat × Nat × Nat) : Ddr := { d with srIdle := cfg.1, patrolGap := cfg.2.1, autoRecover := cfg.2.2 }

/-- A configuration that waited for the exit is taken (R386). -/
def takeConfig (c : Nat) (s : State) : State :=
  onDdr c (fun d => match d.pendCfg with
    | some cfg => { d.configured cfg with pendCfg := none }
    | none => d) s

/-- A speed change begins: through self-refresh, with every request waiting (R382). -/
def beginSpeed (c : Nat) (s : State) : State :=
  issueCmd c .sre 0 (issueCmd c .preAll 0 (onDdr c (fun d => { d with st := 4, derateDue := none }) s))

/-- A channel is up again: what waited for that is done, first a speed change that is due, else the requests. -/
def resumeDram (c : Nat) (s : State) : State :=
  let s1 := takeConfig c (onDdr c (fun d => { d with st := 2, srExiting := false, srEntering := false }) s)
  let d := s1.ddrAt c
  if d.derateDue.any (fun t => t != d.derated) then beginSpeed c s1
  else issueQueue c (onDdr c (fun d => { d with derateDue := none }) s1)

/-- Tj asks for DDR5-4800, or for the trained speed again: at once, or at the next exit (R382, R386). -/
def askSpeed (c : Nat) (derate : Bool) (s : State) : State :=
  let d := s.ddrAt c
  if d.st = 0 || d.st = 1 || d.st = 6 || d.trained = 0 then s
  else if d.serving then (if d.derated = derate then s else beginSpeed c s)
  else onDdr c (fun d => { d with derateDue := some derate }) s

/-! ### Recovery (R388, R389) -/

/-- Recovery starts: a controller reset and retraining. -/
def startRecovery (c : Nat) (auto : Bool) (fn : Option Nat) (s : State) : State :=
  onDdr c (fun d => { d with recovering := true, autoRun := auto, recoverFn := fn }) s

/-- Ends a dram.recover that waits. -/
def endRecovery (c : Nat) (st : Status) (s : State) : State :=
  finishOpt (s.ddrAt c).recoverFn 0x0F04 st [] (onDdr c (fun d => { d with recovering := false, autoRun := false, recoverFn := none }) s)

/-- The poison list after recovery: the failing block of a data error joins what the channel has kept. -/
def Ddr.poisonAfter (d : Ddr) : List Nat :=
  let kept := if d.contentKept then d.poison else []
  if d.failKind = 1 && !kept.contains (blockOf d.failAddr.toNat) then kept ++ [blockOf d.failAddr.toNat] else kept

/-- Sounding whose shadow lies in a channel that has lost its content starts a full pass, without repair from it (R388). -/
def loseShadows (c : Nat) (s : State) : State :=
  (List.range 7).foldl (fun s t =>
    let p := s.protAt t
    if p.sounding && dramChannel p.shadow.toNat = c then
      onProt t (fun x => { x with shadowLost := true, cursor := [], mismatches := 0 }) s
    else s) s

/-- The channel's content is lost: it is filled with zeros, and each client's region with it (R388). -/
def loseContent (c : Nat) (s : State) : State :=
  let s1 := loseShadows c (onDdr c (fun d => { d with mem := [] }) s)
  if s.ledg.ringChannel = c then loseStaged s1 else s1

/-- A channel fails: it returns only after a chip reset. -/
def failDram (c : Nat) (s : State) : State := onDdr c (fun d => { d with st := 6, srEntering := false }) s

end Sys2Proof.Machine
end

