-- ==== Sys2Proof/Machine/Dram.lean ====
section
/-! DEFINITION. The DRAM commands, and the events of its channels (17_dram.md). -/

namespace Sys2Proof.Machine

/-! ### Commands (R391, R392) -/

/-- The first register of a channel (Table 17.5). -/
def Ddr.word (d : Ddr) : Nat :=
  wordOf [(d.st, 0), (d.speed.toNat, 3), (bitNat d.derated, 5), (d.refresh.toNat, 6), (d.capGib, 8), (bitNat d.contentKept, 14),
    (d.failKind.toNat, 15), (d.failClient.toNat, 18), (d.poison.length, 21)]

/-- The capture registers, from 0x008 to 0x023. -/
def Ddr.capture (d : Ddr) : List Byte :=
  leBytes 8 d.failAddr.toNat ++ leBytes 8 (wordOf [(d.failSynd.toNat, 0), (bitNat d.failSub, 16), (bitNat d.failRank, 17)])
    ++ stampBytes d.failStamp

/-- The command history as captured. -/
def Ddr.histBytes (d : Ddr) : List Byte := padTo 256 (d.hist.map (fun e => leBytes 8 e.toNat)).flatten

/-- The counters of a channel, in register order (R391). -/
def Ddr.counters (d : Ddr) : List (BitVec 48) :=
  [d.eccCorr, d.eccUncorr, d.caParity, d.wcrcRetry, d.srEntries, d.srWaits, d.freezes, d.derates, d.patrolPasses]

/-- A dram command on channel c answers STATE: the channel is absent, or the Orkai runs without DRAM (R378, R392). -/
def State.noDram (s : State) (c : Nat) : Bool := s.ph.region.isNone || (s.ddrAt c).st == 0

/-- DRAM_CONFIG: taken at once, or at the next exit from self-refresh (R386). -/
def execDramConfig (rq : Req) (s : State) : Result :=
  .next (serve (cmdH 0x0F01 16) rq (fun s =>
    let c := rq.u8 0
    let d := s.ddrAt c
    let cfg := (rq.u32 4, rq.u16 8, rq.u16 10)
    if 1 < c || 1000000 < cfg.1 || 1000 < cfg.2.1 || 1000 < cfg.2.2 then .err .badParam
    else if s.noDram c then .err .state
    else if d.st = 3 || d.st = 4 then .ok (onDdr c (fun d => { d with pendCfg := some cfg }) s) []
    else .ok (onDdr c (fun d => { d.configured cfg with pendCfg := none }) s) []) s)

/-- DRAM_STATUS. -/
def execDramStatus (rq : Req) (s : State) : Result :=
  .next (serve (cmdH 0x0F02 4) rq (fun s =>
    let c := rq.u8 0
    let d := s.ddrAt c
    if 1 < c then .err .badParam
    else if s.noDram c then .err .state
    else .ok s (leBytes 8 d.word ++ d.capture ++ slotsBytes d.counters)) s)

/-- DRAM_CAPTURE. -/
def execDramCapture (rq : Req) (s : State) : Result :=
  .next (serve (cmdH 0x0F03 4) rq (fun s =>
    let c := rq.u8 0
    let d := s.ddrAt c
    if 1 < c then .err .badParam
    else if s.noDram c || !d.froze then .err .state
    else .ok s (d.capture ++ d.histBytes)) s)

/-- DRAM_RECOVER: answered when the channel is READY or FAILED. -/
def execDramRecover (rq : Req) (s : State) : Result :=
  .next (serve (cmdH 0x0F04 4) rq (fun s =>
    let c := rq.u8 0
    let d := s.ddrAt c
    if 1 < c then .err .badParam
    else if s.noDram c || d.st ≠ 5 then .err .state
    else if d.recovering then .err .busy
    else .later (startRecovery c false (some rq.fn.val) s)) s)

/-- The count of an access (22_counters_trace.md Table 22.1). -/
def countDram (client : DramClient) (write : Bool) (addr : Nat) (s : State) : State :=
  let o : Occ := if client = .pumphouse || client = .read then { priv := some .firmware, masters := [(4, 0)] } else {}
  count (if write then 0x0071 else 0x0070) { o with addr := some (2, 0, addr) } 1 s

/-- DRAM_READ: `err` is what the access reports. -/
def execDramRead (rq : Req) (err : DramErr) (s : State) : Result :=
  .next (serve (cmdH 0x0F05 12) rq (fun s =>
    let c := rq.u8 0
    let a := rq.u64 4
    let d := s.ddrAt c
    let q : DdrReq := { client := 5, write := false, addr := BitVec.ofNat 64 a, data := [], err := err, fn := some rq.fn.val }
    let s1 := countDram .read false a s
    if 1 < c || a % 64 ≠ 0 then .err .badParam
    else if s.noDram c then .err .state
    else if dramChannel a ≠ c || !s.dramRangeOk a 64 then .err .badParam
    else if d.st = 5 || d.st = 6 then .err .frozen
    else if d.st = 1 || d.st = 7 then .err .state
    else if d.serving then .later (issueRequest c q s1)
    else .later (holdRequest c q s1)) s)

/-! ### Requests (R384, R387) -/

/-- DRAM_REQUEST: a client's request is served, or waits; a frozen channel reports FROZEN. `err` is what its access reports. -/
def execDramRequest (c : Fin 2) (client : DramClient) (write : Bool) (addr : BitVec 64) (data : List Byte) (err : DramErr)
    (s : State) : Result :=
  let a := addr.toNat
  let d := s.ddrAt c.val
  let q : DdrReq := { client := clientCode client, write := write, addr := addr, data := data, err := err, fn := none }
  if dramChannel a ≠ c.val || 64 < a % 64 + data.length || !s.dramRangeOk a (max 1 data.length) then .next s
  else if d.st < 2 || 5 ≤ d.st then .next s
  else
    let s1 := countDram client write a s
    .next (if d.serving then accessDram c.val q s1 else holdRequest c.val q s1)

/-- SR_IDLE_EXPIRY: an idle channel begins to enter self-refresh. -/
def execSrIdleExpiry (c : Fin 2) (s : State) : Result :=
  let d := s.ddrAt c.val
  if !d.serving || d.srIdle = 0 then .next s
  else .next (issueCmd c.val .sre 0 (issueCmd c.val .preAll 0 (onDdr c.val (fun d => { d with srEntering := true }) s)))

/-- SR_ENTRY_DONE: an entry completes. After a freeze by a data error the content is kept; a request that waited starts the exit. -/
def execSrEntryDone (c : Fin 2) (s : State) : Result :=
  let d := s.ddrAt c.val
  if !d.srEntering then .next s
  else
    let s1 := onDdr c.val (fun d => { d with srEntering := false, srEntries := bump d.srEntries }) s
    if d.st = 5 then .next (onDdr c.val (fun d => { d with contentKept := d.failKind = 1 }) s1)
    else if d.st ≠ 2 then .next s1
    else
      let s2 := onDdr c.val (fun d => { d with st := 3 }) s1
      .next (if d.queue = [] then s2 else beginExit c.val s2)

/-- SR_EXIT_DONE: the exit completes; a speed change that is due comes first, else the waiting requests are issued. -/
def execSrExitDone (c : Fin 2) (s : State) : Result :=
  let d := s.ddrAt c.val
  .next (if d.st = 3 && d.srExiting then resumeDram c.val s else s)

/-- SPEED_CHANGE_DONE: the channel runs at its new speed; a derate is raised, and a return clears it (R382). -/
def execSpeedChangeDone (c : Fin 2) (s : State) : Result :=
  let d := s.ddrAt c.val
  if d.st ≠ 4 then .next s
  else
    let s1 := onDdr c.val (fun d => { d with
      derated := !d.derated, speed := if d.derated then d.trained else 0, derates := if d.derated then d.derates else bump d.derates }) s
    let s2 := dramEvent c.val 2 (bitNat (!d.derated)) 0 (issueCmd c.val .srx 0 s1)
    .next (resumeDram c.val (if d.driftDue then issueCmd c.val .mrr 0 (onDdr c.val (fun d => { d with driftDue := false }) s2) else s2))

/-! ### Upkeep (R381, R383, R385) -/

/-- REFRESH: a same-bank refresh, unless the components refresh themselves. -/
def execRefresh (c : Fin 2) (s : State) : Result :=
  .next (if (s.ddrAt c.val).serving then issueCmd c.val .refSb 0 s else s)

/-- The row of Table 17.2: the shorter of the intervals of the hottest component and of Tj. -/
def refreshRow (hottest tj : Int) : Nat := if 95 < hottest then 2 else if 85 < hottest || 105 * 4 < tj then 1 else 0

/-- MR4_READ: the refresh interval follows the temperatures; on-die corrections are counted; an overheated component is reported. -/
def execMr4Read (c : Fin 2) (hottest : Int) (aboveRated : Bool) (corrected : Nat) (s : State) : Result :=
  if !(s.ddrAt c.val).serving then .next s
  else
    let s1 := onDdr c.val (fun d => { d with
      refresh := BitVec.ofNat 2 (refreshRow hottest s.therm.tj), eccCorr := bumpBy d.eccCorr corrected }) s
    let s2 := issueCmd c.val .mrr 0 s1
    .next (if aboveRated then dramEvent c.val 3 0 0 s2 else s2)

/-- PATROL_SCRUB: the patrol reads its next block (R381). -/
def execPatrolScrub (c : Fin 2) (err : DramErr) (s : State) : Result :=
  let d := s.ddrAt c.val
  if !d.serving || d.patrolGap = 0 then .next s
  else
    let a := dramBase c.val + d.patrolAt
    let wrap := d.clientBytes ≤ d.patrolAt + 64
    let s1 := onDdr c.val (fun d => { d with
      patrolAt := if wrap then 0 else d.patrolAt + 64, patrolPasses := if wrap then bump d.patrolPasses else d.patrolPasses }) s
    .next (accessDram c.val { client := 4, write := false, addr := BitVec.ofNat 64 a, data := [], err := err, fn := none }
      (countDram .patrol false a s1))

/-- DRIFT_UPDATE: the oscillators are read; during a speed change the update is taken after it (R386). -/
def execDriftUpdate (c : Fin 2) (s : State) : Result :=
  let d := s.ddrAt c.val
  if d.serving then .next (issueCmd c.val .mrr 0 s)
  else if d.st = 4 then .next (onDdr c.val (fun d => { d with driftDue := true }) s)
  else .next s

/-! ### Recovery (R389) -/

/-- AUTO_RECOVER_EXPIRY: the Pumphouse starts the recovery. -/
def execAutoRecoverExpiry (c : Fin 2) (s : State) : Result :=
  let d := s.ddrAt c.val
  .next (if d.st = 5 && !d.recovering && d.autoRecover ≠ 0 then startRecovery c.val true none s else s)

/-- RECOVERY_DONE: the channel is READY again, its failing block poisoned, or it is FAILED. -/
def execRecoveryDone (c : Fin 2) (trainedOk : Bool) (s : State) : Result :=
  let d := s.ddrAt c.val
  if !d.recovering then .next s
  else if !trainedOk then
    .next (endRecovery c.val .hwFault (dramEvent c.val 4 0 0 (onDdr c.val (fun d => { d with failKind := 4 }) (failDram c.val s))))
  else if 16 < d.poisonAfter.length then .next (endRecovery c.val .hwFault (failDram c.val s))
  else
    let s1 := onDdr c.val (fun d => { d with poison := d.poisonAfter }) s
    let s2 := if d.contentKept then s1 else loseContent c.val s1
    .next (endRecovery c.val .ok (resumeDram c.val s2))

end Sys2Proof.Machine
end

