-- ==== Sys2Proof/Machine/Witness.lean ====
section
/-! DEFINITION. The witness exchange and dissent (11_crossings.md R263, R264, 02_tide_gauge.md R60). -/

namespace Sys2Proof.Machine

/-- A stamp as its 12 bytes spell it, in units of 2^-6 ns (02_tide_gauge.md Table 02.1). -/
def stampAt (b : List Byte) (off : Nat) : Nat :=
  (fieldLe b (off + 6) 6 * 1000000000 + fieldLe b (off + 2) 4) * 64 + fieldLe b off 2 / 1024

/-- The round in hand is missed. -/
def missRound (k : Nat) (s : State) : State := onXl k (fun x => { x with witOpen := false, witMissed := bump x.witMissed }) s

/-- WITNESS_ROUND: W_REQ is sent on an UP link; a round still open is missed. -/
def execWitnessRound (k : Fin 8) (_phase : Fin 32) (s : State) : Result :=
  if !(s.xlAt k.val).isUp then .next s
  else
    let s1 := if (s.xlAt k.val).witOpen then missRound k.val s else s
    let s2 := onXl k.val (fun x => { x with round := x.round + 1, witOpen := true, witBroken := false, witT1 := 0, witEpoch := s.tide.epoch }) s1
    .next (sendByp k.val ([1, (s2.xlAt k.val).round, 0, 0] ++ leBytes 4 s.tide.word.toNat) s2)

/-- W_REQ: a received W_REQ is stamped on arrival and answered; t3 is put in as the answer leaves. -/
def execWReq (k : Fin 8) (bytes : List Byte) (phase : Fin 32) (s : State) : Result :=
  if !(s.xlAt k.val).carries then .next s
  else
    let t2 := s.xlStamp k.val false phase.val
    .next (sendByp k.val ([2, BitVec.ofNat 8 (byteAt bytes 1), 0, 0] ++ leBytes 4 s.tide.word.toNat ++ stampBytes t2 ++ zeros 12) s)

/-- Dissent on a link is raised or cleared: its bit, its event, which the sump counts, and a record in every active chain
(02_tide_gauge.md R60). -/
def setDissent (k : Nat) (on : Bool) (theta : Int) (s : State) : State :=
  let x := s.xlAt k
  let d := BitVec.ofNat 8 (setBit s.tide.dissent.toNat k on)
  let s1 := { s with tide := { s.tide with dissent := d } }
  let body := leBytes 8 (unsignedOf 64 theta) ++ leBytes 4 x.witPeer.toNat ++ leBytes 8 x.peerSerial.toNat ++ leBytes 2 s.tide.dissentLimit.toNat
  appendAll 0x06 0 (k + 256 * bitNat on) body (raise 0 4 k (bitNat on) (unsignedOf 64 theta) none s1)

/-- Judges an exchange: three in a row beyond DISSENT_LIMIT raise dissent, three in a row within it clear it. -/
def judgeOffset (k : Nat) (theta : Int) (s : State) : State :=
  let t := s.tide
  let exc := t.dissentLimit.toNat * 1000 < theta.natAbs
  let o := if exc then Tab.look 0 t.overRun k + 1 else 0
  let w := if exc then 0 else Tab.look 0 t.withinRun k + 1
  let s1 := { s with tide := { t with overRun := Tab.put 0 t.overRun k o, withinRun := Tab.put 0 t.withinRun k w } }
  if exc && 3 ≤ o && !t.dissent.getLsbD k then setDissent k true theta s1
  else if !exc && 3 ≤ w && t.dissent.getLsbD k then setDissent k false theta s1
  else s1

/-- The peer offset of an exchange, ps: four stamps in units of 2^-6 ns, and the asymmetry (R264). -/
def peerOffset (t1 t2 t3 t4 : Nat) (asym : Int) : Int :=
  (((t2 : Int) - t1 - ((t4 : Int) - t3)) * 125 - 8 * asym) / 16

/-- The mean path delay of an exchange, ps. -/
def pathDelay (t1 t2 t3 t4 : Nat) : Int := ((t2 : Int) - t1 + ((t4 : Int) - t3)) * 125 / 16

/-- W_RESP: a received W_RESP is stamped on arrival; the peer offset and the path delay follow, unless the round is missed. -/
def execWResp (k : Fin 8) (bytes : List Byte) (phase : Fin 32) (s : State) : Result :=
  let x := s.xlAt k.val
  if !x.carries || !x.witOpen then .next s
  else if byteAt bytes 1 ≠ x.round.toNat || x.witEpoch ≠ s.tide.epoch || x.witBroken then .next (missRound k.val s)
  else
    let t4 := s.xlStamp k.val false phase.val
    let theta := peerOffset x.witT1 (stampAt bytes 8) (stampAt bytes 20) t4 (Tab.look 0 s.tide.asym k.val)
    let delay := pathDelay x.witT1 (stampAt bytes 8) (stampAt bytes 20) t4
    let s1 := onXl k.val (fun x => { x with
      witOpen := false, witOffset := theta, witDelay := delay, witPeer := BitVec.ofNat 32 (fieldLe bytes 4 4) }) s
    .next (judgeOffset k.val theta s1)

/-- WITNESS_MISSED: W_RESP has not come within 100 µs. -/
def execWitnessMissed (k : Fin 8) (s : State) : Result :=
  if (s.xlAt k.val).witOpen then .next (missRound k.val s) else .next s

end Sys2Proof.Machine
end

