-- ==== Sys2Proof/Machine/Fabric.lean ====
section
/-! DEFINITION. The fabric commands, the fabric control messages, and the delivery of routed messages (12_fabric.md). -/

namespace Sys2Proof.Machine

/-! ### Commands (R294, R295) -/

/-- A role of XL6 or XL7: unused, spare for XL0 to XL5, or express. -/
def roleOk (r : Nat) : Bool := r ≤ 7

/-- fabric.config as given. -/
def cfgOf (rq : Req) : FabCfg :=
  { rootPrio := BitVec.ofNat 8 (rq.u8 0), coordEn := rq.u8 1 == 1, x := rq.u8 2, y := rq.u8 3, z := rq.u8 4, boxEn := rq.u8 5 == 1,
    nx := rq.u8 6, ny := rq.u8 7, nz := rq.u8 8, openAxes := BitVec.ofNat 3 (rq.u8 9) }

/-- The fields of fabric.config are in range (Table 12.4, Table 12.7). -/
def cfgOk (rq : Req) : Bool :=
  let boxOk := 1 ≤ rq.u8 6 && rq.u8 6 ≤ 16 && 1 ≤ rq.u8 7 && rq.u8 7 ≤ 8 && 1 ≤ rq.u8 8 && rq.u8 8 ≤ 8
  rq.u8 1 ≤ 1 && rq.u8 2 ≤ 15 && rq.u8 3 ≤ 7 && rq.u8 4 ≤ 7 && rq.u8 5 ≤ 1 && boxOk && rq.u8 9 ≤ 7 && roleOk (rq.u8 10) && roleOk (rq.u8 11)
  && rq.u16 12 ≤ 4096 && 1 ≤ rq.u16 14 && rq.u16 14 ≤ 1000

/-- FABRIC_CONFIG: root priority, root coordinate and box wait for the next rediscovery; the rest applies at once. -/
def execFabricConfig (rq : Req) (s : State) : Result :=
  .next (serve (cmdH 0x0A04 16) rq (fun s =>
    if !cfgOk rq then .err .badParam
    else if s.fab.st = 3 then .err .busy
    else .ok (onFab (fun f => { f with
      cfg := cfgOf rq, role := Tab.put 0 (Tab.put 0 f.role 6 (rq.u8 10)) 7 (rq.u8 11), transit := rq.u16 12, convLimit := rq.u16 14 }) s) []) s)

/-- FAB_ID (Table 12.5). -/
def fabIdWord (f : Fab) : Nat := wordOf [(f.id, 0), (bitNat f.assigned, 10), (bitNat f.root, 11), (f.st.toNat, 12)]

/-- FAB_BOX. -/
def fabBoxWord (f : Fab) : Nat := wordOf [(f.nx, 0), (f.ny, 5), (f.nz, 9), (f.openAxes.toNat, 13)]

/-- The FAB counters, in order (R294). -/
def Fab.counters (f : Fab) : List (BitVec 48) :=
  [f.converges, f.resent, f.dup, f.gap, f.deadDrop, f.unreach, f.transitDrop, f.badHdr, f.refused, f.oversizeDrop]

/-- FABRIC_STATUS: the FAB registers, the counters, and the peer ID of each Crossing. -/
def execFabricStatus (rq : Req) (s : State) : Result :=
  .next (serve { cmdHF 0x0A05 0 with auditor := true } rq (fun s =>
    let f := s.fab
    .ok s (leBytes 4 (fabIdWord f) ++ leBytes 4 (fabBoxWord f) ++ leBytes 4 f.epoch.toNat ++ leBytes 8 f.rootSerial.toNat
      ++ slotsBytes f.counters ++ ((List.range 8).map (fun k => leBytes 2 (Tab.look 0xFFFF f.peerId k))).flatten)) s)

/-- Hops of a route. -/
def routeHops (r : List (Nat × Bool × Nat)) : Nat := (r.map (fun l => l.2.2)).foldl (· + ·) 0

/-- What fabric.route_query returns: output link, starting half, hop count and MID. -/
def State.queryRoute (s : State) (dst vc pos : Nat) : List Byte :=
  let mid := if vc = 4 then (if dst = s.fab.id then some dst else s.fab.chooseMid pos dst) else some dst
  let none4 := [0xFF, 0, 0, 0] ++ leBytes 2 dst
  match mid with
  | none => none4
  | some m =>
    let first := if m = s.fab.id then dst else m
    let hops := fun a b => (s.fab.route a b).map routeHops
    match s.fab.nextHop s.fab.id first none, hops s.fab.id m, hops m dst with
    | some (r, h), some n1, some n2 => [BitVec.ofNat 8 (s.playing r), BitVec.ofNat 8 h] ++ leBytes 2 (n1 + n2) ++ leBytes 2 m
    | _, _, _ => none4

/-- FABRIC_ROUTE_QUERY. -/
def execFabricRouteQuery (rq : Req) (s : State) : Result :=
  .next (serve (cmdH 0x0A06 4) rq (fun s =>
    if 1023 < rq.u16 0 || rq.u8 2 = 0 || 4 < rq.u8 2 || (rq.u8 2 = 4 && 63 < rq.u8 3) then .err .badParam
    else if !s.fab.assigned then .err .state
    else .ok s (s.queryRoute (rq.u16 0) (rq.u8 2) (rq.u8 3))) s)

/-- Discovery starts again, with the configuration as last given (R295). -/
def rediscover (s : State) : State :=
  let s1 := onFab (fun f => { f with
    live := f.cfg, adj := [], upMask := [], peerId := [], installed := [], selfInstalled := false, nx := 0, ny := 0, nz := 0, openAxes := 0 }) s
  if s.anyLink then floodAdjs (startDiscovery s1) else standAlone s1

/-- FABRIC_REDISCOVER. -/
def execFabricRediscover (rq : Req) (s : State) : Result :=
  .next (serve (cmdH 0x0A07 4) rq (fun s =>
    if rq.u32 0 ≠ 0x4841494C then .err .badParam
    else if s.fab.st = 3 then .err .busy
    else .ok (rediscover s) []) s)

/-! ### Discovery (R278 to R281, R290) -/

/-- HAIL of this device on a link (Table 12.2). -/
def hailBytes (f : Fab) (k : Nat) : List Byte :=
  [0x10, BitVec.ofNat 8 k, BitVec.ofNat 8 f.st.toNat, f.bestPrio] ++ leBytes 8 f.bestSerial.toNat ++ leBytes 8 ownSerial.toNat
    ++ leBytes 2 f.hailId ++ zeros 2 ++ leBytes 4 f.epoch.toNat ++ zeros 4

/-- HAIL_SEND: HAIL goes out on every link. -/
def execHailSend (s : State) : Result :=
  if !s.fab.discovering then .next s
  else .next ((List.range 8).foldl (fun s k => if (s.xlAt k).carries then sendByp k (hailBytes s.fab k) s else s) s)

/-- A candidate is better than another: lower ROOT_PRIO, then lower serial (R279). -/
def betterRoot (p1 : BitVec 8) (d1 : BitVec 64) (p2 : BitVec 8) (d2 : BitVec 64) : Bool := p1 < p2 || (p1 == p2 && d1 < d2)

/-- Notes what a HAIL says of the peer. -/
def notePeer (k : Nat) (b : List Byte) (f : Fab) : Fab :=
  let e := BitVec.ofNat 32 (fieldLe b 24 4)
  { f with peerId := Tab.put 0xFFFF f.peerId k (fieldLe b 20 2), epochHigh := if epochAfter e f.epochHigh then e else f.epochHigh }

/-- HAIL: a better root candidate is taken over, and the links of this device are reported to it. -/
def execHail (k : Fin 8) (bytes : List Byte) (s : State) : Result :=
  if !s.fab.discovering || !(s.xlAt k.val).carries then .next s
  else
    let p := BitVec.ofNat 8 (byteAt bytes 3)
    let d := BitVec.ofNat 64 (fieldLe bytes 4 8)
    let s1 := onFab (notePeer k.val bytes) s
    let s2 := if p == 0 && s.fab.bestPrio == 0 && d != s.fab.bestSerial then raise 24 1 0 0 d.toNat none s1 else s1
    if betterRoot p d s.fab.bestPrio s.fab.bestSerial then
      .next (floodAdjs (onFab (fun f => { f with bestPrio := p, bestSerial := d, root := false }) s2))
    else .next s2

/-- The root's own coordinate: as configured, or (0, 0, 0); a device that has an ID keeps it (R280, R281). -/
def Fab.rootAt (f : Fab) : Nat :=
  if f.assigned then f.id else if f.live.coordEn then f.live.x + 16 * f.live.y + 128 * f.live.z else 0

/-- The configured box differs from the discovered one (R280). -/
def Fab.boxDiffers (f : Fab) : Bool :=
  f.live.boxEn && !(f.live.nx == f.nx && f.live.ny == f.ny && f.live.nz == f.nz && f.live.openAxes == f.openAxes)

/-- ROOT_ELECT: no better candidate has been heard for ELECT_QUIET, and this device is the best: it is root.  A first root assigns every
device at the next ROUTE_EPOCH; a new root of devices that have IDs goes on from the highest one seen (R279, R280, R290). -/
def execRootElect (s : State) : Result :=
  let f := s.fab
  if !f.discovering || f.st = 0 || f.root || f.bestSerial ≠ ownSerial then .next s
  else
    let e := if f.assigned then f.epoch else (if epochAfter f.epochHigh f.epoch then f.epochHigh else f.epoch) + 1
    let s1 := onFab (fun f => { f with root := true, rootSerial := ownSerial, epoch := e, epochHigh := e }) s
    let s2 := assignAll f.rootAt s1
    let s3 := if s2.fab.boxDiffers then raise 24 1 0 0 0 none s2 else s2
    .next (if f.st = 3 then checkInstalled s3 else s3)

/-- ADJ: relayed once, and added to the graph; the root admits devices that it shows. -/
def execAdj (k : Fin 8) (bytes : List Byte) (s : State) : Result :=
  let o := fieldLe bytes 4 8
  let q := fieldLe bytes 20 4
  if !s.fab.discovering || s.floodSeen 0x11 o q then .next s
  else
    let a : Adj := { serial := BitVec.ofNat 64 o, link := byteAt bytes 1 % 8, peerLink := byteAt bytes 2 % 8,
                     peer := BitVec.ofNat 64 (fieldLe bytes 12 8) }
    .next (admitNew (onFab (Fab.addAdj a) (relay k.val 0x11 o q bytes s)))

/-- ASSIGN: relayed once; a device's coordinate, the box and the epoch are taken. -/
def execAssign (k : Fin 8) (bytes : List Byte) (s : State) : Result :=
  let q := fieldLe bytes 16 4
  let o := s.fab.bestSerial.toNat
  if !s.fab.discovering || s.floodSeen 0x12 o q then .next s
  else
    let e := BitVec.ofNat 32 (fieldLe bytes 20 4)
    let s1 := onFab (fun f => { f with
      nx := byteAt bytes 4, ny := byteAt bytes 5, nz := byteAt bytes 6, openAxes := BitVec.ofNat 3 (byteAt bytes 7),
      epoch := if epochAfter e f.epoch then e else f.epoch, epochHigh := if epochAfter e f.epochHigh then e else f.epochHigh })
      (relay k.val 0x12 o q bytes s)
    .next (applyAssign (BitVec.ofNat 64 (fieldLe bytes 8 8)) (byteAt bytes 1 % 16 + 16 * (byteAt bytes 2 % 8) + 128 * (byteAt bytes 3 % 8)) s1)

/-! ### Convergence (R291) -/

/-- LSA: relayed once; the origin's links are noted, and a higher epoch is adopted. -/
def execLsa (k : Fin 8) (bytes : List Byte) (s : State) : Result :=
  let o := fieldLe bytes 2 2 % 1024
  let q := fieldLe bytes 4 4
  if !s.fab.discovering || s.floodSeen 0x13 o q then .next s
  else
    let e := BitVec.ofNat 32 (fieldLe bytes 8 4)
    let s1 := onFab (fun f => { f with upMask := Tab.put 0xFF f.upMask o (BitVec.ofNat 8 (byteAt bytes 1)) }) (relay k.val 0x13 o q bytes s)
    if s.fab.assigned && epochAfter e s.fab.epoch then .next (converge e s1)
    else if s.fab.st = 3 && e == s.fab.epoch then
      .next (onFab (fun f => { f with selfInstalled := false, installed := f.installed.erase f.id }) s1)
    else .next s1

/-- INSTALLED_SEND: 20 µs have passed without a new LSA; the routes are installed, and INSTALLED is flooded. -/
def execInstalledSend (s : State) : Result :=
  if s.fab.st ≠ 3 || s.fab.selfInstalled then .next s
  else
    let s1 := onFab (fun f => { f with selfInstalled := true, installed := f.installed ++ [f.id] }) s
    .next (checkInstalled (flood 0x14 s1.fab.id (epochBytes 0x14 0 s1.fab) s1))

/-- INSTALLED: relayed once; a device has reported for the epoch in hand. -/
def execInstalled (k : Fin 8) (bytes : List Byte) (s : State) : Result :=
  let o := fieldLe bytes 2 2 % 1024
  let q := fieldLe bytes 4 4
  if !s.fab.discovering || s.floodSeen 0x14 o q then .next s
  else
    let s1 := relay k.val 0x14 o q bytes s
    if BitVec.ofNat 32 (fieldLe bytes 8 4) ≠ s.fab.epoch then .next s1
    else .next (checkInstalled (onFab (fun f => { f with installed := if f.installed.contains o then f.installed else f.installed ++ [o] }) s1))

/-- CONVERGE_LIMIT: the root resumes. -/
def execConvergeLimit (s : State) : Result := if s.fab.root && s.fab.st = 3 then .next (floodResume s) else .next s

/-- RESUME: relayed once; for the epoch in hand, the returned messages are resent and the held injection goes on. -/
def execResume (k : Fin 8) (bytes : List Byte) (s : State) : Result :=
  let o := fieldLe bytes 2 2 % 1024
  let q := fieldLe bytes 4 4
  if !s.fab.discovering || s.floodSeen 0x15 o q then .next s
  else
    let s1 := relay k.val 0x15 o q bytes s
    if BitVec.ofNat 32 (fieldLe bytes 8 4) ≠ s.fab.epoch then .next s1
    else
      let root := ((s.fab.devices.find? (fun d => d.2 == o)).map Prod.fst).getD s.fab.rootSerial
      .next (applyResume (onFab (fun f => { f with rootSerial := root }) s1))

/-! ### Delivery (R276, R286 to R288) -/

/-- A frame that came by the fabric goes to its river port, if a berth with FABRIC_OK owns it (R287). -/
def deliverFrame (m : Msg) (s : State) : State :=
  let port := m.target.toNat % 64
  let tc := m.tc.toNat
  match s.fabricOwner port tc m.body with
  | some b => originate { src := .fabric m.src, berth := b, bytes := m.body, ts := s.stamp, sync := s.tide.word } (8 * port + tc) s
  | none => onFab (fun f => { f with refused := bump f.refused }) s

/-- Hands a message to what it is for.  RDMA packets and collective messages are taken by RDMA_PACKET and COL_MESSAGE, which carry them (log
entry 2). -/
def handOver (m : Msg) (s : State) : State := if m.kind = 1 then deliverFrame m s else s

/-- Delivers a message in order, and the held ones that follow it. -/
def deliverRun (key : Nat) : Nat → Msg → State → State
  | 0, _, s => s
  | n + 1, m, s =>
    let s1 := handOver m (onFab (fun f => { f with rxId := Tab.put 0 f.rxId key m.msgId }) s)
    match s1.fab.store.find? (fun h => 8 * h.src + h.vc == key && h.id == nextMsgId m.msgId) with
    | some h => deliverRun key n h.msg (onFab (fun f => { f with store := f.store.erase h }) s1)
    | none => s1

/-- Of two held messages, the one with the lower MSG_ID in serial order. -/
def lowerHeld (a b : Held) : Held := if (a.id - b.id).toNat < 2 ^ 31 then b else a

/-- The lowest held message of a (SRC, VC). -/
def Fab.lowest (f : Fab) (key : Nat) : Option Held :=
  match f.store.filter (fun h => 8 * h.src + h.vc == key) with
  | [] => none
  | h :: hs => some (hs.foldl lowerHeld h)

/-- Releases the lowest held message of a (SRC, VC): the gap is counted and raised (R288). -/
def releaseGap (src vc : Nat) (s : State) : State :=
  match s.fab.lowest (8 * src + vc) with
  | none => s
  | some h =>
    let s1 := onFab (fun f => { f with store := f.store.erase h, gap := bump f.gap }) s
    deliverRun (8 * src + vc) 256 h.msg (raise 24 2 0 vc src none s1)

/-- The next MSG_ID in order after the last one delivered. -/
def arrives (last id : BitVec 32) : Option Bool :=
  if id = nextMsgId last then some true else if (last - id).toNat < 2 ^ 31 then none else some false

/-- Delivers a REQ, RSP or COL message by its MSG_ID: in order, as a duplicate, or into the reorder store (R288). -/
def deliverNumbered (m : Msg) (s : State) : State :=
  let key := 8 * m.src + m.vc
  match arrives (Tab.look 0 s.fab.rxId key) m.msgId with
  | some true => deliverRun key 257 m s
  | none => onFab (fun f => { f with dup := bump f.dup }) s
  | some false =>
    let held : Held := { src := m.src, vc := m.vc, id := m.msgId, msg := m }
    if s.fab.store.contains held then onFab (fun f => { f with dup := bump f.dup }) s
    else
      let s1 := onFab (fun f => { f with store := f.store ++ [held] }) s
      if 256 < s1.fab.store.length then releaseGap m.src m.vc s1 else s1

/-- Delivers a message to this device. -/
def deliver (m : Msg) (s : State) : State := if m.vc = 4 then handOver m s else deliverNumbered m s

/-- At its intermediate a BLK message goes through the transit pool, and on with STAGE 1 (R286). -/
def transitOn (m : Msg) (s : State) : State :=
  if s.fab.transit < s.transitUsed + m.cells then onFab (fun f => { f with transitDrop := bump f.transitDrop }) s
  else (handOn { m with stage := true, pooled := true } none s).1

/-- The axis of the role that a link plays; none for an express link. -/
def State.axisOfLink (s : State) (k : Nat) : Option Nat :=
  if k < 6 then some (k / 2) else (s.xlAt k).spareFor.map (fun r => r / 2)

/-- A message that has come on a link goes on, or is delivered. -/
def routeMsg (k : Nat) (m : Msg) (s : State) : State :=
  if m.target0 ≠ s.fab.id then (handOn { m with pooled := false } ((s.axisOfLink k).map (fun a => (a, m.half))) s).1
  else if m.stage || m.dst = s.fab.id then deliver m s
  else transitOn m s

/-- A message's header is bad (R276). -/
def State.badHeader (s : State) (m : Msg) (n len : Nat) : Bool :=
  n != (16 + len + 63) / 64 || 4336 < len || m.kind == 0 || 4 < m.kind.toNat || !s.fab.ids.contains m.dst

/-- The oldest complete message of a VC-half leaves the receive buffer: the flits that stood behind it leave their slots (log entry 21). -/
def takeReady (k v h : Nat) (s : State) : State :=
  let n := ((s.xlAt k).qAt v h).kept
  freeSlots k v h n (onXlQ k v h (fun q => { q with ready := q.ready.drop 1, kept := 0 }) s)

/-- FABRIC_MESSAGE: the oldest complete message of a VC-half is delivered, relayed, or ejected at its intermediate.  A collective message
waits while the early-arrival store is full (13_collectives.md R304). -/
def execFabricMessage (k : Fin 8) (vc : Fin 5) (half : Fin 2) (s : State) : Result :=
  match ((s.xlAt k.val).qAt vc.val half.val).ready with
  | [] => .next s
  | fs :: _ =>
    let b := (fs.map Flit.payload).flatten
    let m := readMsg vc.val half.val b
    let full := m.kind = 3 && m.target0 = s.fab.id && 262144 < s.shtl.earlyBytes + m.body.length
    if s.badHeader m fs.length (fieldLe b 12 2) then
      .next (onFab (fun f => { f with badHdr := bump f.badHdr }) (takeReady k.val vc.val half.val s))
    else if full then .next s
    else .next (routeMsg k.val m (takeReady k.val vc.val half.val s))

/-- FAB_GAP: a gap has been open for 1 ms. -/
def execFabGap (src : Fin 1024) (vc : Fin 5) (s : State) : Result := .next (releaseGap src.val vc.val s)

end Sys2Proof.Machine
end

