-- ==== Sys2Proof/Machine/Guard.lean ====
section
/-! DEFINITION. The latency guard: sentinels, voltage steps, the advertised bound and the power cap (03_self_timed_core.md). -/

namespace Sys2Proof.Machine

/-- Changes the guard. -/
def onGuard (f : Guard → Guard) (s : State) : State := { s with guard := f s.guard }

/-- VCORE_FLOOR, 0.74 V, as a VCODE (R75). -/
def vcoreFloor : Nat := 8

/-- Rounds up to the next 0.05 ns, in 10 ps (R80). -/
def roundUp5 (p : Nat) : Nat := (p + 4) / 5 * 5

/-! ### LAT_BOUND (R80, R81) -/

/-- Causes of a bound record (15_ledger.md Table 15.3). -/
inductive BoundCause where
  | ceiling | cap | sentinel | pmbus | disabled | lag | ret | config
  deriving DecidableEq, Repr

/-- The code of a cause. -/
def BoundCause.code : BoundCause → Nat
  | .ceiling => 0
  | .cap => 1
  | .sentinel => 2
  | .pmbus => 3
  | .disabled => 4
  | .lag => 5
  | .ret => 6
  | .config => 7

/-- Moves LAT_BOUND; a change writes a bound record into every active chain (R81). -/
def setBound (v : Nat) (cause : BoundCause) (s : State) : State :=
  let new := BitVec.ofNat 10 (min v 1023)
  if new = s.guard.latBound then s
  else
    let body := leBytes 2 s.guard.latBound.toNat ++ leBytes 2 new.toNat ++ [s.guard.vcode] ++ leBytes 2 s.guard.pred.toNat
    appendAll 0x07 0 (cause.code + 256 * bitNat s.guard.capFirst) body (onGuard (fun g => { g with latBound := new }) s)

/-- Sentinels in use (R77). -/
def Guard.inUse (g : Guard) : List Nat := (List.range 24).filter (fun i => !g.setAside.getLsbD i)

/-- Fewer than 16 sentinels are in use (R77). -/
def Guard.short (g : Guard) : Bool := g.inUse.length < 16

/-- The cause of a raise of LAT_BOUND as the guard stands (R81, R82, R84, R86, R90). -/
def Guard.raiseCause (g : Guard) : BoundCause :=
  if !g.enabled then .disabled
  else if g.short then .sentinel
  else if g.frozen then .pmbus
  else if g.capFirst && g.conflict then .cap
  else if g.ceil.toNat ≤ g.vcode.toNat then .ceiling
  else .lag

/-- Raises LAT_BOUND to P, rounded up, when P exceeds it; with fewer than 16 sentinels it is at least 4.80 ns (R77, R80). -/
def raiseBound (s : State) : State :=
  let g := s.guard
  let low := if g.short then max g.latBound.toNat 480 else g.latBound.toNat
  let want := if low < g.pred.toNat then roundUp5 g.pred.toNat else low
  setBound want g.raiseCause s

/-! ### VDD_CORE (R78, R82, R83) -/

/-- Writes VOUT_COMMAND; the steps are counted up or down. Nothing is written while frozen or during last gasp (R90,
21_power_reset.md R458), nor ever to a regulator of an unsupported VOUT_MODE (18_pumphouse.md R404). -/
def setVolt (v : Nat) (s : State) : State :=
  let g := s.guard
  if v = g.vcode.toNat || g.frozen || g.voutBad || s.pwr.lastGasp then s
  else emit (.vout v) (onGuard (fun g => { g with
    vcode := BitVec.ofNat 8 v, inFlight := true,
    upCount := if g.vcode.toNat < v then bump g.upCount else g.upCount,
    downCount := if v < g.vcode.toNat then bump g.downCount else g.downCount }) s)

/-- Moves CONFLICT; GUARD_CONFLICT is raised once on entry and once on exit (R82). -/
def setConflict (c : Bool) (s : State) : State :=
  if c = s.guard.conflict then s
  else raise 1 0 0 (bitNat c) 0 none (onGuard (fun g => { g with conflict := c }) s)

/-- A voltage asked for is above VCAP. -/
def Guard.aboveCap (g : Guard) (v : Nat) : Bool :=
  match g.vcap with
  | some c => c < v
  | none => false

/-- A voltage as the mode lets it stand: in cap-first mode no higher than VCAP (R82). -/
def Guard.capped (g : Guard) (v : Nat) : Nat :=
  match g.vcap with
  | some c => if g.capFirst then min c v else v
  | none => v

/-- The guard's request after a read of P: up by 25 mV or by GUARD_STEP, down by 5 mV after 100 reads, within its limits (R77, R78, R88). -/
def Guard.ask (g : Guard) : Guard :=
  let v := g.vcode.toNat
  let p := g.pred.toNat
  let t := g.target.toNat
  let ceil := g.ceil.toNat
  let run := if p + g.hyst.toNat ≤ t then min 100 (g.downRun + 1) else 0
  let due := min 20 (g.sinceUp + 1)
  if g.short then { g with request := ceil, downRun := 0, sinceUp := due }
  else if t + 20 < p then { g with request := max v (min ceil (v + 5)), downRun := 0, sinceUp := 0 }
  else if t < p then
    if 20 ≤ due then { g with request := max v (min ceil (v + g.stepMv.toNat / 5)), downRun := 0, sinceUp := 0 }
    else { g with request := max v (min ceil (v + 1)), downRun := 0, sinceUp := due }
  else if run = 100 && g.suppress = 0 then { g with request := max vcoreFloor (v - 1), downRun := 0, sinceUp := due }
  else { g with request := v, downRun := run, sinceUp := due }

/-- The guard steers VDD_CORE after a read: the up step waits for its 20 µs spacing, the conflict with the cap is settled, and the
voltage follows the mode (R78, R82). -/
def steer (s : State) : State :=
  let g0 := s.guard
  let g := g0.ask
  let wait := g0.target.toNat < g0.pred.toNat && g0.pred.toNat ≤ g0.target.toNat + 20 && !g0.short && g.sinceUp != 0
  let conflict := if g.target.toNat < g.pred.toNat then g.aboveCap g.request
                  else if g.capFirst then g.conflict && g.vcap.isSome else g.aboveCap g.request
  let goal := if wait then g.vcode.toNat else g.request
  setVolt (g.capped (min goal (max g.ceil.toNat vcoreFloor))) (setConflict conflict { s with guard := g })

/-! ### Sentinels (R76, R77) -/

/-- Inserts a number into a rising list. -/
def insertNat (x : Nat) : List Nat → List Nat
  | [] => [x]
  | y :: ys => if x ≤ y then x :: y :: ys else y :: insertNat x ys

/-- A list of numbers in rising order. -/
def sortNat : List Nat → List Nat
  | [] => []
  | x :: xs => insertNat x (sortNat xs)

/-- Twice the median of the 24 predictions. -/
def median2 (ps : List Nat) : Nat :=
  let q := sortNat ps
  q.getD 11 0 + q.getD 12 0

/-- One read of the sentinels: a prediction more than 0.40 ns from the median for 8 reads sets its sentinel aside; P is the largest of the
others (R76, R77). -/
def Guard.sample (g : Guard) (ps : List Nat) : Guard :=
  let m := median2 ps
  let run := fun i => if 80 < ((2 * (ps.getD i 0 : Nat) : Int) - m).natAbs then Tab.look 0 g.devRun i + 1 else 0
  let aside := (List.range 24).foldl (fun a i => if 8 ≤ run i then a ||| BitVec.ofNat 24 (2 ^ i) else a) g.setAside
  let g1 := { g with
    setAside := aside, devRun := Tab.putAll 0 [] 0 ((List.range 24).map (fun i => min 8 (run i))),
    preds := Tab.putAll 0 [] 0 (ps.map (BitVec.ofNat 16)) }
  let p := (g1.inUse.map (fun i => ps.getD i 0)).foldl max 0
  { g1 with pred := BitVec.ofNat 10 (min p 1023), sentUse := BitVec.ofNat 5 (g1.inUse.length - 8) }

/-- Raises GUARD_SENTINEL for each sentinel newly set aside (R77). -/
def raiseAside (before : BitVec 24) (s : State) : State :=
  (List.range 24).foldl (fun s i => if s.guard.setAside.getLsbD i && !before.getLsbD i then raise 1 1 i 0 0 none s else s) s

/-! ### Configuration (R80, R86, R89) -/

/-- Takes a configuration: disabling holds GUARD_FIXED_V and sets the fused bound; a new target moves a bound that was not raised (R80,
R81, R86). -/
def applyCfg (c : GuardCfg) (s : State) : State :=
  let g := s.guard
  let raised := g.target.toNat < g.latBound.toNat
  let s1 := onGuard (fun g => { g with
    cfgEnable := c.enable, enabled := g.running && c.enable, stepMv := c.stepMv, target := c.target, hyst := c.hyst, ceil := c.ceil,
    fixed := c.fixed, downRun := 0 }) s
  if !g.running then s1
  else if !c.enable then
    setVolt c.fixed.toNat (setBound (roundUp5 (Config.fusedLatency c.fixed.toNat)) .disabled s1)
  else if !g.enabled then
    setBound (max c.target.toNat (if c.target.toNat < g.pred.toNat then roundUp5 g.pred.toNat else 0))
      (if c.target.toNat < g.latBound.toNat then .ret else .config) s1
  else
    let low := if raised then max g.latBound.toNat c.target.toNat else c.target.toNat
    setVolt (min g.vcode.toNat (max c.ceil.toNat vcoreFloor))
      (setBound (if low < g.pred.toNat && g.seen then roundUp5 g.pred.toNat else low) .config s1)

/-- Takes a cap and a mode; with no cap there is neither VCAP nor conflict (R82, R83). -/
def applyCap (w : BitVec 16) (capFirst : Bool) (s : State) : State :=
  let s1 := onGuard (fun g => { g with
    capW := w, capFirst := capFirst, vcap := if w = 0 then none else g.vcap, belowFloor := g.belowFloor && w != 0 }) s
  if w = 0 then setConflict false s1 else s1

/-- What waited for a VOUT_COMMAND in flight is taken at the next read (R89). -/
def takePending (s : State) : State :=
  let c := s.guard.pendCfg
  let w := s.guard.pendCap
  let s1 := onGuard (fun g => { g with pendCfg := none, pendCap := none }) s
  let s2 := match c with
    | some c => applyCfg c s1
    | none => s1
  match w with
  | some w => applyCap w.1 w.2 s2
  | none => s2

/-! ### Commands and events -/

/-- SENTINEL_READ: every 1 µs the sentinels are read, P is formed, and the guard decides (R76 to R80). -/
def execSentinelRead (preds : List (BitVec 16)) (s : State) : Result :=
  if !s.guard.running then .next s
  else
    let s1 := takePending s
    let s2 := raiseAside s1.guard.setAside (onGuard (fun g => g.sample ((preds.take 24).map BitVec.toNat)) s1)
    let s3 := if s2.guard.seen || !s2.guard.enabled then s2
      else setBound s2.guard.target.toNat .ret (onGuard (fun g => { g with seen := true }) s2)
    let s4 := if s3.guard.enabled && !s3.guard.frozen then steer s3 else s3
    let s5 := raiseBound s4
    .next (onGuard (fun g => { g with
      suppress := g.suppress - 1, conflictUs := if g.conflict then bump g.conflictUs else g.conflictUs }) s5)

/-- LAT_BOUND_RETURN: P has stayed at or below FERRY_LAT_TARGET for 1 ms, and LAT_BOUND returns to it in one step (R80). -/
def execLatBoundReturn (s : State) : Result :=
  let g := s.guard
  if g.enabled && g.seen && !g.short && g.pred.toNat ≤ g.target.toNat && g.target.toNat < g.latBound.toNat then
    let s1 := setBound g.target.toNat .ret s
    .next (if g.capFirst then setConflict false s1 else s1)
  else .next s

/-- VCAP after a reading of the summed output power: down 5 mV above the cap, up 5 mV with 3 % headroom, never below VCORE_FLOOR (R82,
R83). -/
def Guard.readPower (g : Guard) (watts : Nat) : Guard :=
  let cap := g.capW.toNat
  if cap < watts then { g with vcap := some (max vcoreFloor (g.vcap.getD g.vcode.toNat - 1)) }
  else if 100 * watts ≤ 97 * cap then { g with vcap := g.vcap.map (fun v => min 40 (v + 1)) }
  else g

/-- POWER_READING: READ_POUT is summed every 100 µs and VCAP follows; a cap that VCORE_FLOOR cannot meet sets BELOW_FLOOR, and
GUARD_CONFLICT is raised and later cleared for it (R82, R83, 20_sump.md R430). -/
def execPowerReading (watts : Nat) (s : State) : Result :=
  let g := s.guard
  if !g.running || g.capW = 0 then .next s
  else
    let floor := g.capW.toNat < watts && g.aboveCap (vcoreFloor + 1)
    let s1 := onGuard (fun g => { g.readPower watts with belowFloor := floor }) s
    let s2 := if floor != g.belowFloor then raise 1 0 0 (bitNat floor) 0 none s1 else s1
    let s3 := if g.capFirst then s2 else setConflict (g.enabled && s2.guard.aboveCap s2.guard.vcode.toNat) s2
    .next (if g.enabled then setVolt (s3.guard.capped s3.guard.vcode.toNat) s3 else s3)

/-- GUARD_PMBUS: a VOUT_COMMAND that is not acknowledged or not read back raises GUARD_PMBUS, freezes the request, raises LAT_BOUND to P
and is retried up to 3 times; the first read-back that agrees lets the guard resume (R90). -/
def execGuardPmbus (acked : Bool) (s : State) : Result :=
  let g := s.guard
  if !g.inFlight then .next s
  else if acked then .next (onGuard (fun g => { g with inFlight := false, frozen := false, retries := 0 }) s)
  else
    let s1 := if g.frozen then s else raise 1 2 0 0 0 none (onGuard (fun g => { g with frozen := true }) s)
    let s2 := if g.latBound.toNat < g.pred.toNat && g.seen then setBound (roundUp5 g.pred.toNat) .pmbus s1 else s1
    .next (if g.retries < 3 && !s.pwr.lastGasp then
        emit (.vout g.vcode.toNat) (onGuard (fun g => { g with retries := g.retries + 1 }) s2)
      else s2)

/-- POWER_GUARD_CONFIG (Table 03.6): at once, or at the next read while a VOUT_COMMAND is in flight (R89). -/
def execPowerGuardConfig (rq : Req) (s : State) : Result :=
  .next (serve (cmdH 0x1120 12) rq (fun s =>
    let step := rq.u8 1
    let t := rq.u16 2
    let h := rq.u16 4
    if 1 < rq.u8 0 || step % 5 != 0 || step < 5 || 25 < step || t % 5 != 0 || t < 290 || 1000 < t || h < 10 || 100 < h
        || rq.u8 6 < 8 || 40 < rq.u8 6 || rq.u8 7 < 8 || 40 < rq.u8 7 then .err .badParam
    else
      let c : GuardCfg := { enable := rq.u8 0 == 1, stepMv := BitVec.ofNat 8 step, target := BitVec.ofNat 16 t, hyst := BitVec.ofNat 16 h,
                            ceil := BitVec.ofNat 8 (rq.u8 6), fixed := BitVec.ofNat 8 (rq.u8 7) }
      if s.guard.inFlight then .ok (onGuard (fun g => { g with pendCfg := some c }) s) [] else .ok (applyCfg c s) []) s)

/-- PWR_GUARD_STATUS (Table 03.4). -/
def guardStatusWord (g : Guard) : Nat :=
  wordOf [(g.vcode.toNat, 0), (g.pred.toNat, 8), (bitNat g.capFirst, 18), (bitNat g.conflict, 19), (bitNat g.belowFloor, 20),
    (bitNat g.enabled, 21), (g.sentUse.toNat, 22)]

/-- A sentinel's prediction as power.guard_status returns it: its excess over 2.0 ns in 10 ps, held in 8 bits. -/
def predByte (p : Nat) : Byte := BitVec.ofNat 8 (min 255 (p - 200))

/-- POWER_GUARD_STATUS (R93, Commands and registers). -/
def execPowerGuardStatus (rq : Req) (s : State) : Result :=
  .next (serve (cmdHBA 0x1121 0) rq (fun s =>
    .ok s (leBytes 4 (guardStatusWord s.guard) ++ leBytes 4 s.guard.latBound.toNat
      ++ (Tab.run 0 s.guard.preds 0 24).map (fun p => predByte p.toNat) ++ slotBytes s.guard.conflictUs)) s)

/-- POWER_SET_CAP (Table 03.7): at once, or at the next read while a VOUT_COMMAND is in flight (R89). -/
def execPowerSetCap (rq : Req) (s : State) : Result :=
  .next (serve (cmdH 0x1123 4) rq (fun s =>
    let w := rq.u16 0
    if (w != 0 && (w < 30 || 250 < w)) || 1 < rq.u8 2 then .err .badParam
    else if s.guard.inFlight then .ok (onGuard (fun g => { g with pendCap := some (BitVec.ofNat 16 w, rq.u8 2 == 1) }) s) []
    else .ok (applyCap (BitVec.ofNat 16 w) (rq.u8 2 == 1) s) []) s)

end Sys2Proof.Machine
end

