-- ==== Sys2Proof/Machine/Risk.lean ====
section
/-! DEFINITION. The risk commands, and the events of the Weir's flushing and of the Windlass (10_weir_windlass.md). -/

namespace Sys2Proof.Machine

/-! ### Partitions and settings (R225, R232, R248) -/

/-- The entries of a directory that are used in a range. -/
def usedIn {α : Type} (valid : α → Bool) (t : Tab α) (base size : Nat) : Nat :=
  Tab.count (fun i e => valid e && base ≤ i && i < base + size) t

/-- Accounts a berth has. -/
def State.acctsUsed (s : State) (b : Nat) : Nat := usedIn Acct.valid s.weir.acct (256 * (s.weirB b).acctBase) (256 * (s.weirB b).acctSize)

/-- Instruments a berth has. -/
def State.instrsUsed (s : State) (b : Nat) : Nat :=
  usedIn Instrument.valid s.weir.instr (256 * (s.weirB b).instrBase) (256 * (s.weirB b).instrSize)

/-- Position counters a berth has. -/
def State.posUsed (s : State) (b : Nat) : Nat := usedIn Counter.valid s.weir.pos (s.weirB b).posBase (s.berthAt b).weirCtrs

/-- RISK_PARTITION: a partition that holds an entry does not move or change its size, since entries are placed by it (log entry 18). -/
def execRiskPartition (rq : Req) (s : State) : Result :=
  .next (serve (cmdH 0x0901 16) rq (fun s =>
    let b := rq.u8 0
    let w := s.weirB b
    let others := (List.range 16).filter (· ≠ b)
    let sum := fun (g : WeirB → Nat) => (others.map (fun o => g (s.weirB o))).foldl (· + ·) 0
    let ab := rq.u8 4
    let az := rq.u8 5
    let ib := rq.u16 6
    let iz := rq.u16 8
    let agg := fieldLe rq.payload 10 3
    let scen := fieldLe rq.payload 13 3
    if !berthOk rq 0 || 256 < ab + az || 512 < ib + iz then .err .badParam
    else if others.any (fun o => overlaps ab az (s.weirB o).acctBase (s.weirB o).acctSize
          || overlaps ib iz (s.weirB o).instrBase (s.weirB o).instrSize)
        || 262144 < sum WeirB.agg + agg || 524288 < sum WeirB.scen + scen then .err .noResource
    else if !s.berthExists b || ((ab != w.acctBase || az != w.acctSize) && s.acctsUsed b != 0)
        || ((ib != w.instrBase || iz != w.instrSize) && s.instrsUsed b != 0) then .err .state
    else .ok (onWeirB b (fun x => { x with acctBase := ab, acctSize := az, instrBase := ib, instrSize := iz, agg := agg, scen := scen }) s)
      []) s)

/-- RISK_BERTH_CONFIG (Table 10.9). -/
def execRiskBerthConfig (rq : Req) (s : State) : Result :=
  .next (serve (cmdOwn 0x0902 20 0) rq (fun s =>
    if !berthOk rq 0 || 1 < rq.u8 1 || 63 < rq.u8 2 || 1 < rq.u8 3 || 1 < rq.u8 4 || 1 < rq.u8 5 || 2 < rq.u8 6
        || 1000000 < rq.u32 8 || 1024 < rq.u16 12 || 1000000 < rq.u32 16 then .err .badParam
    else .ok (onWeirB (rq.u8 0) (fun w => { w with
      gateClosed := rq.u8 1 == 1, checkHold := BitVec.ofNat 8 (rq.u8 2), exemptOk := rq.u8 3 == 1, auto := rq.u8 4 == 1,
      firmOn := rq.u8 5 == 1, staleAction := BitVec.ofNat 2 (rq.u8 6), holdTimeout := BitVec.ofNat 32 (rq.u32 8),
      holdMax := BitVec.ofNat 16 (rq.u16 12), headMaxAge := BitVec.ofNat 32 (rq.u32 16) }) s) []) s)

/-! ### Entries (R225, R236, R245) -/

/-- The way an entry is written to: where it is, else the lowest free way of its bucket. -/
def placeWay (found : Option Nat) (ways : List Nat) (taken : Nat → Bool) : Option Nat := found.or (ways.find? (fun w => !taken w))

/-- RISK_ACCOUNT_WRITE: set, delete, or adjust CREDIT_USED, floored at 0. -/
def execRiskAccountWrite (rq : Req) (s : State) : Result :=
  .next (serve (cmdOwn 0x0903 24 0) rq (fun s =>
    let b := rq.u8 0
    let a := rq.u32 4
    let at0 := s.findAcct b a
    let put := fun (w : Nat) (e : Acct) => onWeir (fun x => { x with acct := Tab.put {} x.acct w e }) s
    if !berthOk rq 0 || 2 < rq.u8 1 then .err .badParam
    else if rq.u8 1 = 0 then
      let e : Acct := { valid := true, account := BitVec.ofNat 32 a, group := BitVec.ofNat 8 (rq.u8 2),
                        creditLimit := BitVec.ofNat 64 (rq.u64 8), creditUsed := BitVec.ofNat 64 (rq.u64 16) }
      match placeWay at0 (s.acctWays b a) (fun w => (Tab.look {} s.weir.acct w).valid) with
      | some w => .ok (put w e) []
      | none => .err .noResource
    else match at0 with
      | none => if rq.u8 1 = 1 then .ok s [] else .err .badParam
      | some w =>
        let e := Tab.look {} s.weir.acct w
        if rq.u8 1 = 1 then .ok (put w {}) []
        else if e.poison then .err .badParam
        else .ok (put w { e with creditUsed := BitVec.ofNat 64 (min (2 ^ 64 - 1) (max 0 ((e.creditUsed.toNat : Int) + rq.int 16 8)).toNat) })
          []) s)

/-- COLUMN of an instrument lies below the K of the berth's configured run, or below the greatest K while none is configured. -/
def WeirB.columnOk (w : WeirB) (c : Nat) : Bool := c == 0xFFFF || c < (if w.configured then w.k else 8192)

/-- RISK_INSTRUMENT_WRITE: set or delete. -/
def execRiskInstrumentWrite (rq : Req) (s : State) : Result :=
  .next (serve (cmdOwn 0x0904 48 0) rq (fun s =>
    let b := rq.u8 0
    let i := rq.u32 4
    let put := fun (w : Nat) (e : Instrument) => onWeir (fun x => { x with instr := Tab.put {} x.instr w e }) s
    let at0 := s.findInstr b i
    if !berthOk rq 0 || 1 < rq.u8 1 then .err .badParam
    else if rq.u8 1 = 1 then
      match at0 with
      | some w => .ok (put w {}) []
      | none => .ok s []
    else if rq.u16 2 = 0 || !(s.weirB b).columnOk (rq.u16 36) then .err .badParam
    else
      let e : Instrument := {
        valid := true, instrument := BitVec.ofNat 32 i, mult := BitVec.ofNat 16 (rq.u16 2), refPrice := rq.int 8 8,
        band := BitVec.ofNat 64 (rq.u64 16), maxNotional := BitVec.ofNat 64 (rq.u64 24), maxQty := BitVec.ofNat 32 (rq.u32 32),
        column := BitVec.ofNat 16 (rq.u16 36), defLong := BitVec.ofNat 32 (rq.u32 40), defShort := BitVec.ofNat 32 (rq.u32 44) }
      match placeWay at0 (s.instrWays b i) (fun w => (Tab.look {} s.weir.instr w).valid) with
      | some w => .ok (put w e) []
      | none => .err .noResource) s)

/-- RISK_POSITION_WRITE: set (which clears poison), delete (only at POSITION 0), or adjust. -/
def execRiskPositionWrite (rq : Req) (s : State) : Result :=
  .next (serve (cmdOwn 0x0905 28 0) rq (fun s =>
    let b := rq.u8 0
    let a := rq.u32 4
    let i := rq.u32 8
    let at0 := s.findPos b a i
    let put := fun (w : Nat) (e : Counter) => onWeir (fun x => { x with pos := Tab.put {} x.pos w e }) s
    if !berthOk rq 0 || 2 < rq.u8 1 then .err .badParam
    else if rq.u8 1 = 0 then
      let e : Counter := { valid := true, account := BitVec.ofNat 32 a, instrument := BitVec.ofNat 32 i, position := rq.int 20 8,
                           limitLong := BitVec.ofNat 32 (rq.u32 12), limitShort := BitVec.ofNat 32 (rq.u32 16) }
      match at0.or (s.freePos b a i) with
      | some w => .ok (put w e) []
      | none => .err .noResource
    else match at0 with
      | none => if rq.u8 1 = 1 then .ok s [] else .err .state
      | some w =>
        let e := Tab.look {} s.weir.pos w
        if e.poison then .err .state
        else if rq.u8 1 = 1 then (if e.position = 0 then .ok (put w {}) [] else .err .state)
        else .ok (put w { e with position := sat64 (e.position + rq.int 20 8) }) []) s)

/-- RISK_FIRM_WRITE (R239). -/
def execRiskFirmWrite (rq : Req) (s : State) : Result :=
  .next (serve (cmdOwn 0x0907 16 0) rq (fun s =>
    if !berthOk rq 0 then .err .badParam
    else .ok (onWeirB (rq.u8 0) (fun w => { w with firm := Tab.upd {} w.firm (rq.u8 1) (fun f => { f with limit := rq.int 8 8 }) }) s)
      []) s)

/-! ### Release of a held frame (R238, R244) -/

/-- The berth's ledger accepts no record under its pressure policy (15_ledger.md R343). -/
def State.ledgerShut (s : State) (b : Nat) : Bool :=
  let c := s.chainAt b
  c.active && c.full && !(c.gapPolicy && c.gapOk)

/-- The verdict of a release, with the updates it makes (R238): DECISION 1 judges the frame again on all but TIME_FAIL, and a failure that
would hold it rejects it; DECISION 2 fails LEDGER_FULL only. -/
def releaseVerdict (f decision : Nat) (s : State) : Judgement :=
  let x := s.frameAt f
  let o := x.parse.toOrder
  let strainer := (x.strn.map BitVec.toNat).getD 0
  let shut := s.ledgerShut x.berth
  if decision = 0 then { verdict := 2, reason := 0x13 }
  else if decision = 1 then
    let j := judge s x.berth o { full := shut, timeFail := false, strainer := strainer }
    if j.verdict = 1 then j else { verdict := 2, reason := j.reason }
  else if shut then { verdict := 2, reason := 0x02 }
  else
    let (_, upd, new) := entryFailures s x.berth o strainer
    { verdict := 1, reason := 0, upd := upd, create := new }

/-- RISK_RELEASE. -/
def execRiskRelease (rq : Req) (s : State) : Result :=
  .next (serve (cmdOwn 0x0906 4 0) rq (fun s =>
    let b := rq.u8 0
    if !berthOk rq 0 || 2 < rq.u8 1 then .err .badParam
    else if rq.u8 1 = 2 && !(s.weirB b).exemptOk then .err .noPerm
    else match (s.weirB b).held.find? (fun h => h.1 == rq.u16 2) with
      | none => .err .state
      | some h =>
        let s0 := refreshFull b s
        let j := releaseVerdict h.2 (rq.u8 1) s0
        .ok (if j.verdict = 1 then acceptHeld h.2 j.upd j.create s0 else rejectHeld h.2 j.reason s0)
          [BitVec.ofNat 8 j.verdict, BitVec.ofNat 8 j.reason]) s)

/-! ### The Windlass (R241 to R246, R249) -/

/-- RISK_SCENARIO_STAGE: bytes of S. -/
def execRiskScenarioStage (rq : Req) (s : State) : Result :=
  .next (serve { cmdOwn 0x0908 8 0 with len := fun p => 8 + fieldLe p 2 2 } rq (fun s =>
    let n := rq.u16 2
    let off := rq.u32 4
    if !berthOk rq 0 || n = 0 || 4072 < n || 4 * (s.weirB (rq.u8 0)).scen < off + n then .err .badParam
    else .ok (onWeirB (rq.u8 0) (fun w => { w with s := Tab.putAll 0 w.s off (rq.bytes 8 n) }) s) []) s)

/-- The fields of risk.windlass_run are in range (Table 10.6, Table 10.9). -/
def windArgsOk (rq : Req) (s : State) : Bool :=
  let g := rq.u32 16
  rq.u8 2 ≤ 4 && rq.u8 3 ≤ 1 && 1 ≤ rq.u16 4 && rq.u16 4 ≤ 256 && 1 ≤ rq.u8 6 && rq.u8 6 ≤ 64 && 1 ≤ rq.u16 8 && rq.u16 8 ≤ 8192
  && (rq.u32 12 == 0 || (10 ≤ rq.u32 12 && rq.u32 12 ≤ 1000000))
  && (g == 0xFFFFFFFF || ((s.groupAt g).valid && (s.groupAt g).berth == rq.u8 0))

/-- Configures a berth's run. -/
def windConfig (rq : Req) (w : WeirB) : WeirB :=
  { w with configured := true, tiles := rq.u8 2, stream := rq.u8 3 == 1, m := rq.u16 4, n := rq.u8 6, k := rq.u16 8,
           period := BitVec.ofNat 32 (rq.u32 12), group := BitVec.ofNat 32 (rq.u32 16) }

/-- A berth's run is in progress, or due. -/
def State.runOf (s : State) (b : Nat) : Bool := (s.weir.run.map WindRun.berth) == some b || s.weir.dueRuns.any (fun d => d.1 == b)

/-- RISK_WINDLASS_RUN: OP 0 configures, OP 1 runs what is configured, OP 2 stops periodic runs; TILES 0 runs nothing (Table 10.6). -/
def execRiskWindlassRun (rq : Req) (s : State) : Result :=
  .next (serve (cmdOwn 0x0909 20 0) rq (fun s =>
    let b := rq.u8 0
    let w := s.weirB b
    if !berthOk rq 0 || 2 < rq.u8 1 then .err .badParam
    else if rq.u8 1 = 2 then .ok (onWeirB b (fun w => { w with period := 0 }) s) []
    else if rq.u8 1 = 0 then
      (if !windArgsOk rq s then .err .badParam
       else if w.agg < rq.u16 4 * rq.u16 8 || w.scen < rq.u16 8 * rq.u8 6 then .err .noResource
       else .ok (onWeirB b (windConfig rq) s) [])
    else if !w.configured then .err .badParam
    else if s.runOf b then .err .busy
    else if w.tiles = 0 then .ok s []
    else if s.weir.tiles = 0 then .err .hwFault
    else if s.weir.run.isSome then .later (onWeir (fun x => { x with dueRuns := x.dueRuns ++ [(b, some rq.fn.val)] }) s)
    else .ok (startRun b s) []) s)

/-- WINDLASS_PERIOD: a berth's periodic run falls due (R243). -/
def execWindlassPeriod (b : Fin 16) (s : State) : Result :=
  let w := s.weirB b.val
  if !w.configured || w.period = 0 || w.tiles = 0 then .next s
  else if s.runOf b.val then .next (onWeir (fun x => { x with skipped := bump x.skipped }) s)
  else .next (startDue (onWeir (fun x => { x with dueRuns := x.dueRuns ++ [(b.val, none)] }) s))

/-- OUTPUT_TILE_DONE: an output tile's products are complete; its residue check passes and it is kept or handed off, or fails the tile of
the Windlass that computed it (R242, R246). -/
def execOutputTileDone (i : Fin 4) (t : Fin 4) (residueOk : Bool) (s : State) : Result :=
  match s.weir.run with
  | none => .next s
  | some r =>
    if r.outTiles ≤ i.val || r.done.contains i.val || !s.weir.tiles.getLsbD t.val then .next s
    else if !residueOk then .next (shtlGo (failTile t.val s))
    else
      let s1 := computeTile i.val s
      .next (shtlGo (onRun (fun r => { r with reduced := !r.shuttled && r.allDone }) s1))

/-- EXPOSURE_INSTALL: E is derived from the reduced product and installed (R240, R242). -/
def execExposureInstall (s : State) : Result :=
  match s.weir.run with
  | none => .next s
  | some r => if r.reduced then .next (startDue (endRun (install r s))) else .next s

/-- WIND_TILE_FAIL: a tile of the Windlass fails (R246). -/
def execWindTileFail (t : Fin 4) (s : State) : Result :=
  if s.weir.tiles.getLsbD t.val then .next (shtlGo (failTile t.val s)) else .next s

/-! ### Flushing and status (R245, R249) -/

/-- The berth whose range of a directory holds an entry. -/
def State.wayOwner (s : State) (dir : WeirDir) (way : Nat) : Option Nat :=
  (List.range 16).find? (fun b =>
    let w := s.weirB b
    let (base, size) := match dir with
      | .account => (256 * w.acctBase, 256 * w.acctSize)
      | .instrument => (256 * w.instrBase, 256 * w.instrSize)
      | .position => (w.posBase, (s.berthAt b).weirCtrs)
    base ≤ way && way < base + size)

/-- An entry is poisoned, if it is used. -/
def poisonWay (dir : WeirDir) (way : Nat) (s : State) : State :=
  onWeir (fun w =>
    match dir with
    | .account => { w with acct := Tab.upd {} w.acct way (fun e => { e with poison := e.valid }) }
    | .instrument => { w with instr := Tab.upd {} w.instr way (fun e => { e with poison := e.valid }) }
    | .position => { w with pos := Tab.upd {} w.pos way (fun e => { e with poison := e.valid }) }) s

/-- The number of a directory in WEIR_ECC. -/
def weirDirCode : WeirDir → Nat
  | .account => 0
  | .instrument => 1
  | .position => 2

/-- DIRECTORY_FLUSHING: an entry is read; a correctable error is corrected and counted, an uncorrectable one poisons it (R245). -/
def execDirectoryFlushing (dir : WeirDir) (way : Nat) (err : EccErr) (s : State) : Result :=
  let s1 := onWeir (fun w => { w with flushAt := way + 1 }) s
  match err with
  | .ok => .next s1
  | .corrected => .next (onWeir (fun w => { w with eccCorr := bump w.eccCorr }) s1)
  | .uncorrectable =>
    .next (raise 14 0 (weirDirCode dir) 0 way (s.wayOwner dir way)
      (poisonWay dir way (onWeir (fun w => { w with eccUncorr := bump w.eccUncorr }) s1)))

/-- HEAD_AGE of a berth (Table 10.7). -/
def State.headAge (s : State) (b : Nat) : Nat :=
  match (s.weirB b).lastSnap with
  | some t => min 0xFFFFFFFF ((s.tide.nowFs - t) / 1000000000)
  | none => 0xFFFFFFFF

/-- What risk.status returns of one firm group. -/
def firmBytes (e : Nat × Firm) : List Byte :=
  leBytes 2 e.1 ++ leBytes 8 (unsignedOf 64 (e.2.e.getD 0)) ++ leBytes 8 (unsignedOf 64 e.2.localPrev)
    ++ leBytes 8 (unsignedOf 64 e.2.localCur)

/-- RISK_STATUS: the settings as risk.berth_config gives them, the partition, the holdings, and the groups that hold anything, as many as
the response takes (R249, log entry 18). -/
def execRiskStatus (rq : Req) (s : State) : Result :=
  .next (serve { cmdOwn 0x090A 4 0 with auditor := true } rq (fun s =>
    let b := rq.u8 0
    let w := s.weirB b
    let gs := w.firm.take 154
    if !berthOk rq 0 then .err .badParam
    else .ok s ([BitVec.ofNat 8 b, BitVec.ofNat 8 (bitNat w.gateClosed), w.checkHold, BitVec.ofNat 8 (bitNat w.exemptOk),
        BitVec.ofNat 8 (bitNat w.auto), BitVec.ofNat 8 (bitNat w.firmOn), BitVec.ofNat 8 w.staleAction.toNat, 0]
      ++ leBytes 4 w.holdTimeout.toNat ++ leBytes 2 w.holdMax.toNat ++ leBytes 2 0 ++ leBytes 4 w.headMaxAge.toNat
      ++ [BitVec.ofNat 8 w.acctBase, BitVec.ofNat 8 w.acctSize] ++ leBytes 2 w.instrBase ++ leBytes 2 w.instrSize
      ++ leBytes 3 w.agg ++ leBytes 3 w.scen
      ++ leBytes 4 (s.acctsUsed b) ++ leBytes 4 (s.instrsUsed b) ++ leBytes 4 (s.posUsed b) ++ leBytes 4 (s.berthAt b).weirCtrs
      ++ leBytes 4 w.held.length ++ leBytes 4 (s.headAge b) ++ leBytes 2 gs.length ++ (gs.map firmBytes).flatten)) s)

end Sys2Proof.Machine
end

