-- ==== Sys2Proof/Machine/PhOps.lean ====
section
/-! DEFINITION. Firmware slots, restart of the Pumphouse, the board descriptor and the board-management buses (18_pumphouse.md). -/

namespace Sys2Proof.Machine

/-! ### Flash and firmware slots (R394, R395) -/

/-- Changes the Pumphouse. -/
def onPh (f : Ph → Ph) (s : State) : State := { s with ph := f s.ph }

/-- Writes bytes of the flash. -/
def writeFlash (off : Nat) (bs : List Byte) (s : State) : State :=
  { s with fuse := { s.fuse with flash := Tab.putAll 0xFF s.fuse.flash off bs } }

/-- The PREFERRED slot (Table 18.1). -/
def State.preferred (s : State) : Nat := bitNat ((Tab.look 0xFF s.fuse.flash 0).getLsbD 0)

/-- The TRIED flag (Table 18.1). -/
def State.tried (s : State) : Nat := bitNat ((Tab.look 0xFF s.fuse.flash 0).getLsbD 1)

/-- Writes the boot-control block with its CRC (Table 18.1). -/
def writeBootControl (preferred tried : Nat) (s : State) : State :=
  let blk := BitVec.ofNat 8 (preferred + 2 * tried) :: s.flashRun 1 4091
  writeFlash 4092 (leBytes 4 (crc32c blk).toNat) (writeFlash 0 [BitVec.ofNat 8 (preferred + 2 * tried)] s)

/-- An image passes steps 1 to 3 of R394: its signer, its rollback count and its signature; BODY_LEN lies in its range. -/
def imageOk (s : State) (header : List Byte) (body : List Byte) : Bool :=
  let len := fieldLe header 12 4
  let signer := sliceBytes header 20 32
  1 ≤ len && len ≤ 393216 && body.length == len
  && sha256 signer == Config.fwKeyHash
  && s.fuse.rollback.toNat ≤ fieldLe header 16 4
  && Config.edVerify signer (sha256 (header.take 52 ++ body)) (sliceBytes header 52 64)

/-- A slot of the flash passes R394: its signer and signature as found when it was written (log entry 9), its rollback count and its
length as they stand. -/
def slotOk (s : State) (slot : Nat) : Bool :=
  let len := fieldLe (s.flashRun (slotBase slot) 20) 12 4
  s.fuse.authentic.getLsbD slot && 1 ≤ len && len ≤ 393216 && s.fuse.rollback.toNat ≤ fieldLe (s.flashRun (slotBase slot) 20) 16 4

/-- The slot the boot ROM starts: the PREFERRED one, else the other, else none (R394). -/
def bootSlot (s : State) : Option Nat :=
  if slotOk s s.preferred then some s.preferred
  else if slotOk s (1 - s.preferred) then some (1 - s.preferred)
  else none

/-- The slot header bytes that system.info returns: those of a slot with the image MAGIC, else zeros (R412). -/
def slotHeader20 (s : State) (slot : Nat) : List Byte :=
  if s.flashRun (slotBase slot) 4 = [0x4F, 0x4B, 0x46, 0x57] then s.flashRun (slotBase slot) 20 else zeros 20

/-! ### Restart (R409) -/

/-- Every mailbox's running request is dropped without an answer (R409). -/
def dropRequests (s : State) : State :=
  { s with mbx := Tab.keep (fun _ m => m != {}) (s.mbx.map (fun e => (e.1, { e.2 with busy := false }))) }

/-- A restart of the Pumphouse: RESTARTS increments, PH_WDOG is raised, buffered stores are discarded, running requests get no answer,
and the boot ROM runs again (R409, Table 18.8). -/
def restartPumphouse (s : State) : State :=
  let s1 := onTrace (fun t => t.idleIn 1 s.stamp) (dropRequests s)
  raise 30 0 0 0 0 none (onPh (fun p => { p with
    ready := false, running := false, restarts := p.restarts + 1, restartEvent := true, storeBuf := [], idle := true,
    idleCause := 1 }) s1)

/-! ### The board descriptor (R396) -/

/-- A channel's fitting byte names a supported fitting: its ranks and density (Table 18.2, 17_dram.md R375). -/
def fittingGib (b : BitVec 8) : Nat :=
  let ranks := b.toNat % 4
  let dense := b.getLsbD 2
  if ranks = 1 && !dense then 16 else if ranks = 1 && dense then 32 else if ranks = 2 && !dense then 32 else 0

/-- A fitting byte names two ranks of 32 Gb (17_dram.md R375). -/
def fittingBad (b : BitVec 8) : Bool := b.toNat % 4 == 2 && b.getLsbD 2

/-- The 4 KiB of the descriptor. -/
def State.descBytes (s : State) : List Byte := s.flashRun 0x1000 4096

/-- MAGIC, VERSION and CRC of the descriptor are right (R396). -/
def descOk (d : List Byte) : Bool :=
  d.take 4 == [0x4F, 0x4B, 0x42, 0x44] && byteAt d 4 == 1 && fieldLe d 4092 4 == (crc32c (d.take 4092)).toNat

/-- The descriptor in use (R396). -/
def readDesc (d : List Byte) : BoardDesc :=
  if descOk d then
    { dc0 := d.getD 5 0, dc1 := d.getD 6 0, vcoreAddr := d.getD 7 0, rails := sliceBytes d 8 6, temps := sliceBytes d 14 4,
      speeds := d.getD 18 0 }
  else {}

/-! ### Board-management buses (R404 to R406) -/

/-- Bus b. -/
def State.busAt (s : State) (b : Nat) : I2cBus := Tab.look {} s.ph.bus b

/-- Writes bus b. -/
def State.setBus (s : State) (b : Nat) (v : I2cBus) : State := onPh (fun p => { p with bus := Tab.put {} p.bus b v }) s

/-- The transaction of a bus ends: the bus is free and the function that waits is answered. -/
def endTxn (b : Nat) (st : Status) (payload : List Byte) (s : State) : State :=
  let x := s.busAt b
  let s1 := s.setBus b { x with txn := none, retries := 0, backoff := false, nakRetried := false }
  match x.txn with
  | some t => finishOpt t.fn 0x0106 st payload s1
  | none => s1

/-- How a transaction on the wire goes on (R404 to R406): acknowledged it ends OK, with a wrong PEC it fails; an address not acknowledged
waits 1 ms for its one retry, and then ends with TIMEOUT. -/
def runTxn (b : Nat) (env : I2cEnd) (s : State) : State :=
  let x := s.busAt b
  match x.txn, env with
  | some t, .acked rdata pecOk =>
    let s1 := emit (.i2c b t.addr.toNat t.wdata) s
    if t.pec && !pecOk then endTxn b .timeout [] s1 else endTxn b .ok (padTo t.rlen rdata) s1
  | some _, .nak =>
    let s1 := onPh (fun p => { p with i2cNak := bump p.i2cNak }) s
    if x.nakRetried then endTxn b .timeout [] s1 else s1.setBus b { s1.busAt b with nakRetried := true }
  | _, _ => s

end Sys2Proof.Machine
end

