-- ==== Sys2Proof/WellFormed.lean ====
section
/-! DEFINITION. Which commands are well formed: the shapes that the manual gives what they carry. -/

namespace Sys2Proof

/-- The codes of the opcode catalogue, by class (25_interface_index.md Table 25.4): the greatest low byte of a run, and codes beside it. -/
def definedCode (code : Nat) : Bool :=
  let lo := code % 256
  match code / 256 with
  | 0x01 => 1 ≤ lo && lo ≤ 6
  | 0x02 => 1 ≤ lo && lo ≤ 8
  | 0x03 => 1 ≤ lo && lo ≤ 5
  | 0x04 => 1 ≤ lo && lo ≤ 9
  | 0x05 => 1 ≤ lo && lo ≤ 8
  | 0x06 => 1 ≤ lo && lo ≤ 10
  | 0x07 => 1 ≤ lo && lo ≤ 9
  | 0x08 => 1 ≤ lo && lo ≤ 8
  | 0x09 => 1 ≤ lo && lo ≤ 10
  | 0x0A => 1 ≤ lo && lo ≤ 7
  | 0x0B => 1 ≤ lo && lo ≤ 5
  | 0x0C => 1 ≤ lo && lo ≤ 10
  | 0x0D => 1 ≤ lo && lo ≤ 5
  | 0x0E => 1 ≤ lo && lo ≤ 8
  | 0x0F => 1 ≤ lo && lo ≤ 5
  | 0x10 => 1 ≤ lo && lo ≤ 7
  | 0x11 => (1 ≤ lo && lo ≤ 4) || lo == 0x20 || lo == 0x21 || lo == 0x23
  | 0x12 => 1 ≤ lo && lo ≤ 6
  | 0x13 => 1 ≤ lo && lo ≤ 4
  | _ => false

/-- A request carries the bytes that its LENGTH names, as far as the request area holds them (18_pumphouse.md Table 18.4). -/
def Req.wf (rq : Req) : Bool := rq.payload.length == min rq.length.toNat 4080

/-- A probe report has an identity page of 1,024 bytes, a sideband copy of 128, a serial of 8 and a signature of 64 (16_cistern.md R357). -/
def ProbeRes.wf (r : ProbeRes) : Bool :=
  r.ident.length == 1024 && r.side.length == 128 && r.authSerial.length == 8 && r.authSig.length == 64

/-- A command is well formed. -/
def Instr.wf : Instr → Bool
  | .systemPing rq => rq.wf
  | .systemInfo rq => rq.wf
  | .systemFwStage rq => rq.wf
  | .systemFwCommit rq _ => rq.wf
  | .systemRestart rq => rq.wf
  | .systemI2c rq _ => rq.wf
  | .unsupportedOpcode rq code => rq.wf && !definedCode code.toNat
  | .mbxOverrun _ => true
  | .mbxEvtConsWrite _ _ => true
  | .mbxEvtLostRead _ => true
  | .tideNowNsRead _ => true
  | .counterLowHalfRead _ _ => true
  | .sumpStatusWrite _ _ => true
  | .pmonOvfWrite _ _ => true
  | .registerWrite _ _ _ => true
  | .berthCreate rq _ => rq.wf
  | .berthDestroy rq => rq.wf
  | .destroyDrainTimeout _ => true
  | .berthAssignPort rq => rq.wf
  | .berthGangway rq => rq.wf
  | .berthGetKey rq => rq.wf
  | .berthStatus rq => rq.wf
  | .berthSetAuditor rq => rq.wf
  | .berthReset rq => rq.wf
  | .functionLevelReset _ => true
  | .portQuadConfig rq => rq.wf
  | .portEnable rq => rq.wf
  | .portSetFlow rq => rq.wf
  | .portRecal rq => rq.wf
  | .portGetStatus rq => rq.wf
  | .timeGetStatus rq => rq.wf
  | .timeSetSource rq => rq.wf
  | .timeSetTai rq => rq.wf
  | .timeSetUtc rq => rq.wf
  | .timeSetPortDelay rq => rq.wf
  | .timePtpConfig rq => rq.wf
  | .timeSetFailClosed rq => rq.wf
  | .timeSetHoldover rq => rq.wf
  | .timeSetDissent rq => rq.wf
  | .pumpStage rq => rq.wf
  | .pumpCommit rq => rq.wf
  | .pumpSetProfile rq => rq.wf
  | .pumpSetAction rq => rq.wf
  | .pumpFragConfig rq => rq.wf
  | .pumpStatus rq => rq.wf
  | .pumpEngineCtl rq _ => rq.wf
  | .pumpLockPatch rq => rq.wf
  | .strainerPartition rq => rq.wf
  | .strainerPatternStage rq => rq.wf
  | .strainerPatternCommit rq => rq.wf
  | .strainerBerthConfig rq => rq.wf
  | .strainerRuleInsert rq => rq.wf
  | .strainerRuleDelete rq => rq.wf
  | .strainerRuleWrite rq => rq.wf
  | .strainerLookupCmd rq => rq.wf
  | .strainerMatchNext rq => rq.wf
  | .strainerStatus rq => rq.wf
  | .moveStep => true
  | .tablesPartition rq => rq.wf
  | .tablesProtect rq => rq.wf
  | .tablesBerthConfig rq => rq.wf
  | .tablesL2Write rq => rq.wf
  | .tablesRouteWrite rq => rq.wf
  | .tablesMcastWrite rq => rq.wf
  | .tablesEcmpWrite rq => rq.wf
  | .tablesLookup rq => rq.wf
  | .tablesStatus rq => rq.wf
  | .queueingFerryWrite rq => rq.wf
  | .queueingQuota rq => rq.wf
  | .queueingQueueConfig rq => rq.wf
  | .queueingShaper rq => rq.wf
  | .queueingPauseThresh rq => rq.wf
  | .queueingStatus rq => rq.wf
  | .queueingRingConfig rq => rq.wf
  | .queueingRingStatus rq => rq.wf
  | .riskPartition rq => rq.wf
  | .riskBerthConfig rq => rq.wf
  | .riskAccountWrite rq => rq.wf
  | .riskInstrumentWrite rq => rq.wf
  | .riskPositionWrite rq => rq.wf
  | .riskRelease rq => rq.wf
  | .riskFirmWrite rq => rq.wf
  | .riskScenarioStage rq => rq.wf
  | .riskWindlassRun rq => rq.wf
  | .riskStatus rq => rq.wf
  | .fabricLinkConfig rq => rq.wf
  | .fabricLinkCtl rq => rq.wf
  | .fabricLinkStatus rq => rq.wf
  | .fabricConfig rq => rq.wf
  | .fabricStatus rq => rq.wf
  | .fabricRouteQuery rq => rq.wf
  | .fabricRediscover rq => rq.wf
  | .collectiveGroupCreate rq => rq.wf
  | .collectiveGroupDestroy rq => rq.wf
  | .collectiveStart rq _ => rq.wf
  | .collectiveAbort rq => rq.wf
  | .collectiveStatus rq => rq.wf
  | .rdmaQuota rq => rq.wf
  | .rdmaMrReg rq => rq.wf
  | .rdmaMrDereg rq => rq.wf
  | .rdmaCqCreate rq => rq.wf
  | .rdmaCqDestroy rq => rq.wf
  | .rdmaQpCreate rq => rq.wf
  | .rdmaQpModify rq => rq.wf
  | .rdmaQpQuery rq => rq.wf
  | .rdmaQpDestroy rq => rq.wf
  | .rdmaStatus rq => rq.wf
  | .ledgerConfig rq => rq.wf
  | .ledgerStaging rq => rq.wf
  | .ledgerSealNow rq => rq.wf
  | .ledgerStatus rq => rq.wf
  | .ledgerDeviceCert rq => rq.wf
  | .cisternStatus rq => rq.wf
  | .cisternConfig rq => rq.wf
  | .cisternSwap rq => rq.wf
  | .cisternRelease rq => rq.wf
  | .cisternIdentity rq => rq.wf
  | .cisternRetireChallenge rq _ => rq.wf
  | .cisternRetire rq _ => rq.wf
  | .cisternRead rq _ => rq.wf
  | .dramConfig rq => rq.wf
  | .dramStatus rq => rq.wf
  | .dramCapture rq => rq.wf
  | .dramRecover rq => rq.wf
  | .dramRead rq _ => rq.wf
  | .sumpSetReaction rq => rq.wf
  | .sumpClear rq => rq.wf
  | .sumpSafeEnter rq => rq.wf
  | .sumpSafeRelease rq => rq.wf
  | .sumpInject rq => rq.wf
  | .sumpStatus rq => rq.wf
  | .sumpConfig rq => rq.wf
  | .powerDomain rq => rq.wf
  | .domainSwitchDone _ _ _ => true
  | .bankGroupOffTimeout _ => true
  | .powerStatus rq => rq.wf
  | .powerChipReset rq => rq.wf
  | .powerThermConfig rq => rq.wf
  | .powerGuardConfig rq => rq.wf
  | .powerGuardStatus rq => rq.wf
  | .powerSetCap rq => rq.wf
  | .countersConfig rq => rq.wf
  | .countersSnapshot rq => rq.wf
  | .countersTeleConfig rq => rq.wf
  | .countersTeleRead rq => rq.wf
  | .traceConfig rq => rq.wf
  | .traceRead rq => rq.wf
  | .testPgc rq => rq.wf
  | .testPgcStatus rq _ => rq.wf
  | .testMargin rq => rq.wf
  | .marginDwellEnd _ _ _ => true
  | .testMbist rq => rq.wf
  | .tapReset => true
  | .tapInstructionLoad _ => true
  | .frameStart _ bytes _ => 1 ≤ bytes.length && bytes.length ≤ 16384
  | .holdingBufferDispatch => true
  | .cellAllocate _ => true
  | .launchLookup _ _ => true
  | .confirmCompare _ => true
  | .oversizeCut _ => true
  | .ingressFrameEnd _ _ _ => true
  | .parseCommit _ => true
  | .fragAgeExpiry _ => true
  | .strainerLookup _ => true
  | .handleAgeExpiry _ _ => true
  | .weirVerdict _ => true
  | .forwardingResult _ => true
  | .stompDecision _ => true
  | .enqueue _ => true
  | .egressSelect _ _ => true
  | .matcherRound => true
  | .egressFrameEnd _ _ => true
  | .bankGroupFail _ _ => true
  | .settleLimitDrop _ => true
  | .orderRecord _ => true
  | .holdTimeout _ => true
  | .pumpFail _ _ => true
  | .goldenSelfCheck _ => true
  | .patchEngineLoad _ => true
  | .pumpPatchStall => true
  | .tableBackgroundAccess _ _ _ _ => true
  | .ruleFlushing _ _ _ => true
  | .directoryFlushing _ _ _ => true
  | .l2AgeSweep _ => true
  | .strnUnitFail _ => true
  | .windlassPeriod _ => true
  | .outputTileDone _ _ _ => true
  | .exposureInstall => true
  | .windTileFail _ => true
  | .interpHandover _ => true
  | .ppsInEdge _ => true
  | .ppsLoss => true
  | .ptpMessage _ bytes _ => 14 ≤ bytes.length
  | .ptpReceiptTimeout _ => true
  | .refInLoss => true
  | .holdoverLimit => true
  | .utcDayEnd => true
  | .ppsOut => true
  | .witnessRound _ _ => true
  | .wReq _ bytes _ => bytes.length == 64
  | .wResp _ bytes _ => bytes.length == 64
  | .witnessMissed _ => true
  | .sentinelRead preds => preds.length == 24
  | .latBoundReturn => true
  | .powerReading _ => true
  | .guardPmbus _ => true
  | .synthDrainDone _ => true
  | .synthLock _ => true
  | .settleResume _ => true
  | .synthLockTimeout _ => true
  | .rpRecalDue _ => true
  | .rpLinkDown _ _ => true
  | .linkUpDebounce _ => true
  | .anRestart _ => true
  | .pauseReceive _ bytes => 64 ≤ bytes.length
  | .pauseExpire _ _ => true
  | .pauseRefresh _ => true
  | .lpiReceive _ => true
  | .flitReceive _ bytes _ => bytes.length == 72
  | .ctrlFlit _ bytes => bytes.length == 72
  | .flitSend _ _ => true
  | .ctrlFlitDue _ => true
  | .retryResend _ => true
  | .replayTimeout _ => true
  | .tsReceive _ _ _ => true
  | .quiesceReceive _ => true
  | .quiesceGraceEnd _ => true
  | .xlRecalDue _ => true
  | .xlSynthLock _ => true
  | .laneFail _ _ => true
  | .degradeReceive _ _ => true
  | .xlLinkDown _ => true
  | .fastTrainingTimeout _ => true
  | .hailSend => true
  | .hail _ _ => true
  | .rootElect => true
  | .adj _ _ => true
  | .assign _ _ => true
  | .lsa _ _ => true
  | .installedSend => true
  | .installed _ _ => true
  | .convergeLimit => true
  | .resume _ _ => true
  | .fabricMessage _ _ _ => true
  | .fabGap _ _ => true
  | .colMessage _ _ => true
  | .earlyArrivalStale _ => true
  | .collectiveTimeout _ => true
  | .workRequestFetched _ _ wqes _ => wqes.all (fun w => w.length == 64 || w.length == 32)
  | .rdmaPacket _ _ _ => true
  | .rdmaRetransmitTimeout _ => true
  | .ackCoalesceTimeout _ => true
  | .rnrTimer _ => true
  | .rdmaEngineFail _ => true
  | .rdmaSqDb _ _ => true
  | .rdmaRqDb _ _ => true
  | .rdmaCqDb _ _ => true
  | .rxDoorbell _ _ _ => true
  | .txDoorbell _ _ _ => true
  | .txDescFetched _ _ desc _ => desc.length == 32
  | .hostDelivery _ => true
  | .rxWaitExpiry _ _ => true
  | .itrTimer _ _ _ => true
  | .sealDue _ => true
  | .pageHashDone _ => true
  | .sealSigned _ _ => true
  | .pageWrite => true
  | .zoneAppendComplete _ _ _ => true
  | .stagingReadback _ => true
  | .ledgEngineFail _ => true
  | .bayInsert _ => true
  | .probeComplete _ res => res.wf
  | .probeLinkTimeout _ => true
  | .bayRemove _ => true
  | .latchOpen _ => true
  | .latchClose _ => true
  | .switchReissue _ => true
  | .lifeRead _ ident => ident.length == 1024
  | .asyncEvent _ _ ident => ident.length == 1024
  | .hkPeriod => true
  | .adminTimeout _ => true
  | .appendStall _ => true
  | .retireNonceExpiry _ => true
  | .bayLinkLoss _ => true
  | .dramRequest _ _ _ _ data _ => data.length ≤ 64
  | .srIdleExpiry _ => true
  | .srEntryDone _ => true
  | .refresh _ => true
  | .mr4Read _ _ _ _ => true
  | .patrolScrub _ _ => true
  | .driftUpdate _ => true
  | .speedChangeDone _ => true
  | .autoRecoverExpiry _ => true
  | .recoveryDone _ _ => true
  | .boot => true
  | .startupComplete _ => true
  | .slotFallback => true
  | .heartbeat run => run.buffered.length ≤ 8
  | .watchdog => true
  | .phTrap _ _ => true
  | .pumphouseIdle _ => true
  | .pumphouseWake _ => true
  | .arbitrationLost _ => true
  | .arbitrationBackoffEnd _ _ _ => true
  | .i2cBusStuck _ => true
  | .i2cNakRetry _ _ => true
  | .sumpLatch => true
  | .historyWrite => true
  | .blockReset => true
  | .chipRstDelayExpiry => true
  | .killNAssert => true
  | .killNRelease => true
  | .pwrfailNAssert => true
  | .appendingStop => true
  | .lastGaspEnd => true
  | .pwrfailNRelease => true
  | .porstN => true
  | .chipReset => true
  | .perstN => true
  | .supplyFault _ _ => true
  | .sensorReading temps => temps.length == 16 && temps.all (fun t => -2048 ≤ t && t ≤ 2047)
  | .telemetryCapture => true
  | .traceLostPacket => true
  | .rpBlockLock _ _ => true
  | .anComplete _ _ => true
  | .xlLaneLock _ _ => true
  | .xlSynthTimeout _ => true
  | .srExitDone _ => true
  | .pcieLinkDown _ => true
  | .destroySealTimeout _ => true
  | .pgcLock _ _ _ => true
  | .ptpSyncInterval _ _ _ => true
  | .refInReturn => true

end Sys2Proof
end

