-- ==== Sys2Proof/Machine/Pumphouse.lean ====
section
/-! DEFINITION. The system commands, the mailbox events and the Pumphouse's own events (18_pumphouse.md). -/

namespace Sys2Proof.Machine

/-- SYSTEM_PING: a ping for any role (R399). -/
def execSystemPing (rq : Req) (s : State) : Result :=
  .next (serve (cmdHBA 0x0101 0) rq (fun s => .ok s (pingPayload rq.fn.val s)) s)

/-- The payload of system.info (R412). -/
def infoPayload (fn : Nat) (s : State) : List Byte :=
  pingPayload fn s ++ slotHeader20 s s.ph.slot.toNat ++ slotHeader20 s (1 - s.ph.slot.toNat)
    ++ [BitVec.ofNat 8 s.preferred, BitVec.ofNat 8 s.tried] ++ leBytes 4 s.fuse.rollback.toNat

/-- SYSTEM_INFO (R412). -/
def execSystemInfo (rq : Req) (s : State) : Result :=
  .next (serve (cmdHBA 0x0102 0) rq (fun s => .ok s (infoPayload rq.fn.val s)) s)

/-- A command of the harbour whose payload is a head of n bytes and then COUNT bytes, COUNT being the 2-byte field at an offset. -/
def cmdHCount (code n countAt : Nat) : CmdSpec := { code := code, len := fun p => n + fieldLe p countAt 2 }

/-- SYSTEM_FW_STAGE (Table 18.11). -/
def execSystemFwStage (rq : Req) (s : State) : Result :=
  .next (serve (cmdHCount 0x0103 8 4) rq (fun s =>
    if rq.u16 4 = 0 || 4072 < rq.u16 4 || 393344 < rq.u32 0 + rq.u16 4 then .err .badParam
    else .ok (onPh (fun p => { p with staging := Tab.putAll 0 p.staging (rq.u32 0) (rq.bytes 8 (rq.u16 4)) }) s) []) s)

/-- The staged image's header. -/
def State.stagedHeader (s : State) : List Byte := Tab.run 0 s.ph.staging 0 128

/-- The staged image's body, as long as its header says. -/
def State.stagedBody (s : State) : List Byte := Tab.run 0 s.ph.staging 128 (min (fieldLe s.stagedHeader 12 4) 393217)

/-- Writes the staged image to the slot that is not running; the slot passes R394 as the write verifies or not (R395). -/
def commitImage (flashOk : Bool) (s : State) : State :=
  let slot := 1 - s.ph.slot.toNat
  let s1 := writeFlash (slotBase slot) (s.stagedHeader ++ s.stagedBody) s
  { s1 with fuse := { s1.fuse with authentic := BitVec.ofNat 2 (setBit s1.fuse.authentic.toNat slot flashOk) } }

/-- The new slot becomes PREFERRED with TRIED 0; with LOCK_ROLLBACK the running slot's ROLLBACK is fused once it has set MBX_READY
(R395). -/
def preferNew (lock : Bool) (s : State) : State :=
  let s1 := writeBootControl (1 - s.ph.slot.toNat) 0 s
  let mine := fieldLe (s.flashRun (slotBase s.ph.slot.toNat) 20) 16 4
  { s1 with fuse := { s1.fuse with
      fresh := true,
      rollback := if lock && s.ph.ready && s1.fuse.rollback.toNat < mine then BitVec.ofNat 32 mine else s1.fuse.rollback } }

/-- The request is taken and passes every check up to BAD_PARAM. -/
def runs (c : CmdSpec) (rq : Req) (s : State) : Bool :=
  s.takesDoorbell rq.fn.val && !(s.mbxAt rq.fn.val).busy && !c.isPing rq && (c.reject rq (accept rq c.code s)).isNone

/-- A commit may go ahead: its parameter is in range and the staged image passes R394. -/
def commitOk (rq : Req) (s : State) : Bool := decide (rq.u8 0 ≤ 1) && imageOk s s.stagedHeader s.stagedBody

/-- SYSTEM_FW_COMMIT: the staged image is checked, written to the other slot and preferred; in RECOVERY a restart follows (R394, R395,
R412). -/
def execSystemFwCommit (rq : Req) (flashOk : Bool) (s : State) : Result :=
  let t := serve (cmdH 0x0104 4) rq (fun s =>
    if !commitOk rq s then .err .badParam
    else if !flashOk then .failed (commitImage false s) .hwFault []
    else .ok (preferNew (rq.u8 0 == 1) (commitImage true s)) []) s
  .next (if s.ph.recovery && runs (cmdH 0x0104 4) rq s && commitOk rq s && flashOk then restartPumphouse t else t)

/-- SYSTEM_RESTART: OK is returned, and then the Pumphouse restarts (R409, R412). -/
def execSystemRestart (rq : Req) (s : State) : Result :=
  let t := serve (cmdH 0x0105 4) rq (fun s => if rq.u32 0 = 0x52455354 then .ok s [] else .err .badParam) s
  .next (if runs (cmdH 0x0105 4) rq s && rq.u32 0 = 0x52455354 then restartPumphouse t else t)

/-- SYSTEM_I2C: one transaction under R405 and R406 (Table 18.11). -/
def execSystemI2c (rq : Req) (env : I2cEnd) (s : State) : Result :=
  .next (serve (cmdH 0x0106 40) rq (fun s =>
    if 1 < rq.u8 0 || 127 < rq.u8 1 || 32 < rq.u8 2 || 32 < rq.u8 3 || (rq.u8 2 == 0 && rq.u8 3 == 0) || 1 < rq.u8 4 then .err .badParam
    else if (rq.u8 0 == 0 && rq.u8 1 == s.ph.desc.vcoreAddr.toNat) || (rq.u8 0 == 1 && (rq.u8 1 == 0x58 || rq.u8 1 == 0x59)) then
      .err .noPerm
    else .later (runTxn (rq.u8 0) env (s.setBus (rq.u8 0) { s.busAt (rq.u8 0) with
      txn := some { fn := some rq.fn.val, addr := BitVec.ofNat 8 (rq.u8 1), wdata := rq.bytes 8 (rq.u8 2), rlen := rq.u8 3,
                    pec := rq.u8 4 == 1 } }))) s)

/-- UNSUPPORTED_OPCODE: a request whose opcode is not defined is answered UNSUPPORTED (R398, R11); a defined one is its own command's. -/
def execUnsupportedOpcode (rq : Req) (code : BitVec 16) (s : State) : Result :=
  if definedCode code.toNat || !s.takesDoorbell rq.fn.val then .next s
  else if (s.mbxAt rq.fn.val).busy then .next (overrun rq.fn.val s)
  else .next (respond rq.fn.val .unsupported 0 [] (accept rq code.toNat s))

/-- MBX_OVERRUN: a doorbell while BUSY sets OVERRUN and does nothing else (R397). -/
def execMbxOverrun (fn : Fin 17) (s : State) : Result :=
  if s.takesDoorbell fn.val && (s.mbxAt fn.val).busy then .next (overrun fn.val s) else .next s

/-- MBX_EVT_CONS_WRITE: a value in [CONS, PROD] is taken and lets the next event send its message; any other is ignored (R401). -/
def execMbxEvtConsWrite (fn : Fin 17) (v : BitVec 16) (s : State) : Result :=
  let m := s.mbxAt fn.val
  if s.mmioLive fn.val && v - m.evtCons ≤ m.evtProd - m.evtCons then
    .next (mmio fn.val (s.setMbx fn.val { m with evtCons := v, msgSent := false }))
  else .next s

/-- MBX_EVT_LOST_READ: the count is returned and cleared (00_scope.md R12, R401). -/
def execMbxEvtLostRead (fn : Fin 17) (s : State) : Result :=
  if !s.mmioLive fn.val then .next s
  else
    let m := s.mbxAt fn.val
    .next (emit (.readData fn.val (if fn.val = 0 then 0x100014 else 0x10014) m.evtLost.toNat) (s.setMbx fn.val { m with evtLost := 0 }))

/-- BOOT: the boot ROM verifies and starts a slot, or enters RECOVERY (R394). -/
def execBoot (s : State) : Result :=
  if s.ph.running || s.ph.ready then .next s
  else match bootSlot s with
    | some n => .next (onPh (fun p => { p with slot := BitVec.ofNat 1 n, running := true, recovery := false }) s)
    | none => .next (onPh (fun p => { p with recovery := true, running := false }) s)

/-- SLOT_FALLBACK: a newly preferred slot that has not set MBX_READY is abandoned for the other one (R395). -/
def execSlotFallback (s : State) : Result :=
  if s.fuse.fresh && !s.ph.ready && s.ph.running && s.ph.slot.toNat == s.preferred then
    let s1 := writeBootControl (1 - s.preferred) 1 s
    .next (raise 30 2 0 0 0 none (onPh (fun p => { p with running := false }) { s1 with fuse := { s1.fuse with fresh := false } }))
  else .next s

/-- The counters and the instruction stream take what the core has done, and its store buffer is as it leaves it (R402, R403,
22_counters_trace.md Table 22.1, R472). -/
def retireRun (run : CoreRun) (s : State) : State :=
  let s1 := count 0x00B2 {} run.stalls (count 0x00B1 {} run.discarded (count 0x00B0 {} run.retired.length s))
  onPh (fun p => { p with storeBuf := run.buffered, fetchDiscard := bumpBy p.fetchDiscard run.discarded }) (onTrace (fun t => run.retired.foldl (fun t i => t.retire i s.stamp) t) s1)

/-- HEARTBEAT: the firmware increments MBX_HEARTBEAT and serves the watchdog (R409, Table 18.3). -/
def execHeartbeat (run : CoreRun) (s : State) : Result :=
  if !s.ph.running then .next s
  else
    let s1 := onPh (fun p => { p with heartbeat := p.heartbeat + 1 }) s
    .next (if s.ph.idle then s1 else retireRun run s1)

/-- WATCHDOG: not served for 100 ms, the watchdog restarts the Pumphouse (R409). -/
def execWatchdog (s : State) : Result := .next (restartPumphouse s)

/-- PH_TRAP: a trap the firmware cannot handle is traced, raises PH_TRAP with its cause and program counter, and ends in a restart
(R410, 22_counters_trace.md Table 22.3). -/
def execPhTrap (cause pc : BitVec 64) (s : State) : Result :=
  let s1 := if s.trace.phOn then onTrace (fun t => t.inst 4 0 s.stamp (leBytes 8 pc.toNat ++ leBytes 8 cause.toNat)) s else s
  let s2 := onPh (fun p => { p with traps := bump p.traps }) (onTrace (fun t => { t with pc := pc }) s1)
  .next (restartPumphouse (raise 30 1 0 cause.toNat pc.toNat none s2))

/-- PUMPHOUSE_IDLE: every store is performed, IDLE_IN is traced, and the core stops (R403 Table 18.8, 22_counters_trace.md R474). -/
def execPumphouseIdle (pc : BitVec 64) (s : State) : Result :=
  if s.ph.idle then .next s
  else .next (onTrace (fun t => { t with pc := pc }.idleIn 0 s.stamp)
    (onPh (fun p => { p with storeBuf := [], idle := true, idleCause := 0 }) s))

/-- PUMPHOUSE_WAKE: the first instruction retires after idle, restart or chip reset: IDLE_OUT and SYNC are traced (22_counters_trace.md
R474). -/
def execPumphouseWake (pc : BitVec 64) (s : State) : Result :=
  if !s.ph.idle then .next s
  else
    let s1 := count 0x00B0 { priv := some .firmware } 1 (onPh (fun p => { p with idle := false }) s)
    .next (onTrace (fun t => { t with pc := pc, nextPc := pc, retired := t.retired + 1 }.idleOut s.ph.idleCause.toNat s.stamp) s1)

/-- ARBITRATION_LOST: the loss is counted; the transaction backs off, or after its third retry ends with TIMEOUT (R405). -/
def execArbitrationLost (bus : Fin 2) (s : State) : Result :=
  let x := s.busAt bus.val
  let s1 := s.setBus bus.val { x with arbLost := bump x.arbLost, backoff := x.txn.isSome }
  if x.txn.isSome && 3 ≤ x.retries then .next (endTxn bus.val .timeout [] s1) else .next s1

/-- The value read back after a lost write to a readable command is the Orkai's own (R405 step 3). -/
def readBackOwn (t : I2cTxn) (readBack : List Byte) : Bool :=
  t.rlen == 0 && 2 ≤ t.wdata.length && readBack == t.wdata.drop 1

/-- ARBITRATION_BACKOFF_END: a lost write whose register reads back as its own is done; anything else is retried (R405). -/
def execArbitrationBackoffEnd (bus : Fin 2) (readBack : List Byte) (env : I2cEnd) (s : State) : Result :=
  let x := s.busAt bus.val
  match x.txn with
  | some t =>
    if !x.backoff then .next s
    else if readBackOwn t readBack then .next (endTxn bus.val .ok [] s)
    else .next (runTxn bus.val env (s.setBus bus.val { x with backoff := false, retries := x.retries + 1 }))
  | none => .next s

/-- I2C_BUS_STUCK: the bus is cleared with 9 clock pulses and a STOP and counted; the transaction on it ends with TIMEOUT (R406). -/
def execI2cBusStuck (bus : Fin 2) (s : State) : Result :=
  .next (endTxn bus.val .timeout [] (onPh (fun p => { p with i2cStuck := bump p.i2cStuck }) s))

/-- I2C_NAK_RETRY: 1 ms after an address was not acknowledged the transaction is retried once (R406). -/
def execI2cNakRetry (bus : Fin 2) (env : I2cEnd) (s : State) : Result :=
  if (s.busAt bus.val).nakRetried then .next (runTxn bus.val env s) else .next s

/-- The PH counters in their order (18_pumphouse.md, Commands and registers). -/
def phCounters (s : State) : List (BitVec 48) :=
  [s.ph.fetchDiscard, s.ph.traps, (s.busAt 0).arbLost, (s.busAt 1).arbLost, s.ph.i2cStuck, s.ph.i2cNak, s.ph.mbxOverrun]

end Sys2Proof.Machine
end

