-- ==== Sys2Proof/Machine/SumpOps.lean ====
section
/-! DEFINITION. The safe state, the latch of an event, its reaction, the history, and the block resets (20_sump.md). -/

namespace Sys2Proof.Machine

/-- Changes the sump. -/
def onSump (g : Sump → Sump) (s : State) : State := { s with sump := g s.sump }

/-! ### Reactions (Tables 20.1, 20.3, 20.7) -/

/-- The reaction byte that a source has after PORST_N (Table 20.1). -/
def resetReact (src : Nat) : Nat :=
  if 6 ≤ src ∧ src ≤ 9 then 0
  else if 16 ≤ src ∧ src ≤ 23 then 0
  else if src = 2 ∨ src = 3 ∨ src = 26 ∨ src = 28 ∨ src = 29 then 0x11
  else if src = 4 then 0x60
  else if src = 5 then 0x20
  else if src = 31 then 0x10
  else if src = 32 then 0
  else 0x01

/-- The reaction byte of a source: as it was set, or else as after PORST_N. -/
def Sump.reactOf (p : Sump) (src : Nat) : Nat :=
  let r := (Tab.look 0xFF p.react src).toNat
  if r = 0xFF then resetReact src else r

/-- The source has a block reset (Table 20.1). -/
def hasBlockReset (src : Nat) : Bool := (6 ≤ src && src ≤ 9) || (16 ≤ src && src ≤ 23) || (27 ≤ src && src ≤ 30)

/-- The six reaction bits that act: BLOCK_RST is ignored for a source without a block reset (R435). -/
def Sump.actsOf (p : Sump) (src : Nat) : Nat :=
  let r := p.reactOf src % 64
  if hasBlockReset src then r else setBit r 2 false

/-! ### The safe state (R437 to R439) -/

/-- The delay from the latch to the end of the last order-bearing byte, in fs: somewhere in the bounds of Table 20.4. -/
def safeDelay (s : State) : Nat := 8000000 + Config.freeNat s.free % 11500001

/-- A frame in transmission is stomped with reason SAFE, unless it has been stomped already: its record carries SAFE, and its updates are
taken back (R439, 01_order_path.md R39). -/
def stompSafe (p f q : Nat) (s : State) : State :=
  let x := s.frameAt f
  if q = ferrySource && !x.decided then onFrame f (fun x => { x with safeStomp := true }) s
  else
    let deciding := x.txKind = 1 && x.txPort = p && x.mirrorQ ≠ some q && x.te = (s.egressAt p).te
    if x.stomp ≠ 0 && q = ferrySource then s
    else
      let s1 := onPort p (fun v => { v with stomps := Tab.upd 0 v.stomps 4 bump }) s
      let s2 := count 0x0013 (frameOcc p x.berth (some 4)) 1 s1
      if deciding then reverseFrame f (onFrame f (fun x => { x with stomp := 4 }) s2) else s2

/-- The frame is a packet of a queue pair with ORDER set (14_remote_memory.md R327). -/
def State.ofOrderQp (s : State) (f : Nat) : Bool :=
  match (s.frameAt f).src with
  | .rdma q => (s.qpAt q).orderBit
  | _ => false

/-- A port's transmission is from the ferry lane, from a stopped queue, or of a queue pair with ORDER set. -/
def State.blanks (s : State) (f q : Nat) : Bool := q == ferrySource || s.queueStopped q || s.ofOrderQp f

/-- Blanks what a port is transmitting, if the safe state reaches it. -/
def blankPort (delay p : Nat) (s : State) : State :=
  match (s.egressAt p).busy, (s.egressAt p).blank with
  | some (f, q), none =>
    if s.blanks f q then
      let sent := (s.tide.nowFs + delay - (s.egressAt p).since) / byteTime (s.portRate p)
      stompSafe p f q (onEgress p (fun e => { e with blank := some sent }) s)
    else s
  | _, _ => s

/-- Enters the safe state, or widens its scope (R438, R439). -/
def enterSafe (all : Bool) (s : State) : State :=
  if s.sump.safe && (s.sump.scopeAll || !all) then s
  else
    let s1 := onSump (fun p => { p with
      safeEntries := if p.safe then p.safeEntries else bump p.safeEntries, safe := true, scopeAll := p.scopeAll || all }) s
    drawn ((List.range 64).foldl (fun s p => blankPort (safeDelay s) p s) s1)

/-- A frame's copy in a stopped queue is dropped: one of which no other copy goes out has stomp reason SAFE and no egress stamp, and its
updates are taken back (R441). -/
def flushCopy (q f : Nat) (s : State) : State :=
  let s1 := leaveQueue q f (onSump (fun p => { p with safeDrop := bump p.safeDrop }) s)
  let x := s1.frameAt f
  let s2 := if x.queued = [] && x.sending = [] && x.te = 0 then reverseFrame f (onFrame f (fun x => { x with stomp := 4 }) s1) else s1
  settleFrame f s2

/-- The frame messages that wait in a VC-half whose queue is stopped are dropped. -/
def flushHalf (k v h : Nat) (s : State) : State :=
  let q := xlQueueNo k v h
  let out := ((s.xlAt k).qAt v h).txq.filter (fun m => m.kind == 1)
  let s1 := onXlQ k v h (fun x => { x with txq := x.txq.filter (fun m => m.kind != 1) }) s
  out.foldl (fun s m => match m.frame with
    | some f => flushCopy q f s
    | none => onSump (fun p => { p with safeDrop := bump p.safeDrop }) s) s1

/-- Drops every frame in the stopped queues. -/
def flushStopped (s : State) : State :=
  let qs := (s.rsv.queue.map Prod.fst).filter (fun q => s.queueStopped q)
  let s1 := qs.foldl (fun s q => (s.queueAt q).entries.foldl (fun s f => flushCopy q f s) s) s
  (List.range 80).foldl (fun s i =>
    let k := i / 10
    let v := i % 10 / 2
    if s.queueStopped (512 + i) then flushHalf k v (i % 2) s else s) s1

/-! ### The history (R430 to R432) -/

/-- An entry as its 32 bytes (Table 20.2). -/
def Entry.bytes (e : Entry) : List Byte :=
  stampBytes e.stamp ++ [BitVec.ofNat 8 (e.src + 64 * e.kind.toNat),
    BitVec.ofNat 8 (match e.berth with
      | some b => b + 16
      | none => 0)]
    ++ leBytes 2 e.code.toNat ++ leBytes 2 e.n ++ zeros 2 ++ leBytes 8 e.value.toNat ++ leBytes 4 e.hseq.toNat

/-- The entry of an event that latches now. -/
def SumpLine.entry (l : SumpLine) (stamp : Nat) : Entry :=
  { stamp := stamp, src := l.src, kind := l.kind, berth := l.berth, code := l.code, n := l.unit.toNat + 256 * l.cause.toNat, value := l.value }

/-- An OVERFLOW entry absorbs an event. -/
def Entry.absorb (src : Nat) (e : Entry) : Entry := { e with n := min 65535 (e.n + 1), value := e.value ||| BitVec.ofNat 64 (2 ^ src) }

/-- A new OVERFLOW entry, for the event of an entry. -/
def Entry.overflowOf (e : Entry) : Entry := { stamp := e.stamp, src := e.src, kind := 1, code := 0x10FF, n := 1, value := BitVec.ofNat 64 (2 ^ e.src) }

/-- An entry enters the history: it is written, waits in the pending buffer, or is coalesced (R432). -/
def Sump.enter (e : Entry) (p : Sump) : Sump :=
  if p.writing.isNone then { p with writing := some e }
  else if p.pendEv.length < 4 then { p with pendEv := p.pendEv ++ [e] }
  else
    let p1 := { p with coalesced := bump p.coalesced }
    match p.overflow with
    | some o => { p1 with overflow := some (o.absorb e.src) }
    | none =>
      if p.pendEv.any (fun x => x.kind == 1) then
        { p1 with pendEv := p.pendEv.map (fun x => if x.kind == 1 then x.absorb e.src else x) }
      else { p1 with overflow := some e.overflowOf }

/-- The next entry starts to be written; an OVERFLOW without a slot takes the one that frees (R432). -/
def Sump.advance (p : Sump) : Sump :=
  match p.pendEv with
  | [] => { p with writing := none }
  | e :: rest => { p with writing := some e, pendEv := rest ++ p.overflow.toList, overflow := none }

/-! ### The latch (R429, R434 to R436) -/

/-- The blocks that a block reset of an event names: a unit, or the four ports of a quad (Table 20.1, log entry 27). -/
def resetUnits (l : SumpLine) : List (Nat × Nat) :=
  if 6 ≤ l.src ∧ l.src ≤ 9 ∧ l.code.toNat ≠ 0x0380 then (quadPorts l.unit.toNat).map (fun p => (l.src, p)) else [(l.src, l.unit.toNat)]

/-- A non-maskable trap to the Pumphouse: its buffered stores are performed, and it runs (18_pumphouse.md Table 18.8). -/
def trapPumphouse (s : State) : State := onPh (fun p => { p with storeBuf := [], idle := false }) s

/-- The actions of reaction bits that are captured, or that a merge brings: `had` is what the running reaction held before (R435 to R437). -/
def react (l : SumpLine) (bits had : Nat) (all : Bool) (s : State) : State :=
  let s1 := if bitOf bits 5 then enterSafe all s else s
  let s2 := if bitOf bits 4 then onSump (fun p => { p with err := true }) s1 else s1
  let s3 := if bitOf bits 1 && !s2.sump.nmiDone then trapPumphouse (onSump (fun p => { p with nmiDone := true }) s2) else s2
  let s4 := if bitOf bits 0 && !s3.sump.intDone then sendMsix 0 1 (onSump (fun p => { p with intDone := true }) s3) else s3
  let s5 := if bitOf bits 2 && !bitOf had 2 then onSump (fun p => { p with blockRst := p.blockRst ++ resetUnits l }) s4 else s4
  if bitOf bits 3 then
    let s6 := enterSafe true s5
    if s6.sump.chipRstRun then s6
    else if s6.pwr.lastGasp then { s6 with pwr := { s6.pwr with resetPending := true, gaspCause := if s6.pwr.gaspCause = 0 then 1 else s6.pwr.gaspCause } }
    else { onSump (fun p => { p with chipRstRun := true }) s6 with pwr := { s6.pwr with resetPending := true, gaspCause := 1 } }
  else s5

/-- The event sets its bit, is counted, and enters the history. -/
def noteEvent (l : SumpLine) (s : State) : State :=
  count 0x00D0 { cls := some l.src } 1 (onSump (fun p =>
    { p.enter (l.entry s.stamp) with events := bump p.events, status := p.status ||| BitVec.ofNat 64 (2 ^ l.src) }) s)

/-- The first event of an armed sump is captured, and its reaction becomes the running one (R434). -/
def captureFirst (l : SumpLine) (bits : Nat) (s : State) : State :=
  onSump (fun p => { p with
    first := some (l.entry s.stamp), runReact := BitVec.ofNat 6 bits, armed := false, intDone := false, nmiDone := false }) s

/-- A later event is merged (R434). -/
def mergeEvent (bits : Nat) (s : State) : State :=
  onSump (fun p => { p with
    merged := if p.merged = 0xFFFFFFFF then p.merged else p.merged + 1, runReact := p.runReact ||| BitVec.ofNat 6 bits }) s

/-- One event latches. -/
def latchLine (l : SumpLine) (s : State) : State :=
  let bits := s.sump.actsOf l.src
  let all := bitOf (s.sump.reactOf l.src) 6
  let s1 := noteEvent l s
  if bits = 0 then s1
  else if s.sump.armed then react l bits 0 all (captureFirst l bits s1)
  else react l bits s.sump.runReact.toNat all (mergeEvent bits s1)

/-- Latches what has been raised, in ascending source order (R432, R434). -/
def latchAll (s : State) : State :=
  (List.range 64).foldl (fun s k => (s.sump.lines.filter (fun l => l.src == k)).foldl (fun t l => latchLine l t)
    (onSump (fun p => { p with lines := p.lines.filter (fun l => l.src != k) }) s)) s

/-! ### Block resets (R435, Table 20.1) -/

/-- Resets the named block. -/
def resetBlock (src unit : Nat) (s : State) : State :=
  if src ≤ 9 then pcsReset (unit % 64) s
  else if src ≤ 23 then (if (s.xlAt (unit % 8)).enabled then enableLink (unit % 8) (disableLink (unit % 8) s) else s)
  else if src = 27 then relinkBay (unit % 2) s
  else if src = 30 then restartPumphouse s
  else if (s.ddrAt (unit % 2)).st = 5 && !(s.ddrAt (unit % 2)).recovering then startRecovery (unit % 2) true none s
  else s

end Sys2Proof.Machine
end

