-- ==== Sys2Proof/Machine/Test.lean ====
section
/-! DEFINITION. Production and field test: pattern generators and checkers, margining, and the test access port (23_test.md). -/

namespace Sys2Proof.Machine

/-- Changes lane l. -/
def onLane (l : Nat) (g : Lane → Lane) (s : State) : State := { s with lane := Tab.upd {} s.lane l g }

/-- Bits that a lane carries in a time, fs (R479): 10.3125, 25.78125 or 32.0 Gb/s. -/
def State.laneBits (s : State) (l fs : Nat) : Nat :=
  if 63 < l then fs * 32 / 1000000 else if s.portRate l = 0 then fs * 103125 / 10000000000 else fs * 2578125 / 100000000000

/-- Brings BITS of a locked checker up to date (R480). -/
def countBits (l : Nat) (s : State) : State :=
  onLane l (fun x => if x.locked && x.marginFn.isNone then
    { x with bits := bumpBy x.bits (s.laneBits l (s.tide.nowFs - x.lockedAt)), lockedAt := s.tide.nowFs } else x) s

/-- The bits and the errored bits that a LOCKED checker has compared since the last count (R480). -/
def countErrors (l errors : Nat) (s : State) : State :=
  countBits l (onLane l (fun x => if x.locked && x.marginFn.isNone then { x with errors := bumpBy x.errors errors } else x) s)

/-- The lane carries no traffic: its port or bond leader is DISABLED, or its Crossing is disabled (R482). -/
def State.laneIdle (s : State) (l : Nat) : Bool :=
  if 63 < l then (s.xlAt ((l - 64) / 4)).state == 0 else !(s.portAt (if s.bonded l then l / 4 * 4 else l)).enabled

/-- The synthesiser of a lane settles (R490). -/
def State.laneSettles (s : State) (l : Nat) : Bool :=
  if 63 < l then (s.xlAt ((l - 64) / 4)).synth == 2 else (s.quadAt (l / 4)).synth == 1 || (s.quadAt (l / 4)).synth == 2

/-- The domain of a lane's PCS or Crossing. -/
def laneDomain (l : Nat) : Nat := if 63 < l then 64 + (l - 64) / 4 else l

/-- Transitions among the bits of a user pattern. -/
def transitions (user : List Byte) : Nat :=
  let w := leNat user
  ((List.range 79).filter (fun i => bitOf w i != bitOf w (i + 1))).length

/-- The parameters of a start are in range (Table 23.3, Table 23.5). -/
def pgcOk (rq : Req) : Bool :=
  rq.u8 2 ≤ 5 && rq.u8 3 ≤ 2 && rq.u8 4 % 4 != 0 && (rq.u8 2 != 5 || 8 ≤ transitions (rq.bytes 8 10))

/-- One generated bit is inverted: a locked checker on the near-end loop counts it (R480, R481). -/
def Lane.inject (x : Lane) : Lane :=
  if x.locked && x.loop == 1 && x.flags.getLsbD 0 && x.flags.getLsbD 1 then { x with errors := bump x.errors } else x

/-- The PGC of a lane starts, or injects on a running generator without restarting (R493). -/
def startPgc (rq : Req) (x : Lane) : Lane :=
  if x.active && x.flags.getLsbD 0 && rq.bit 4 4 then x.inject
  else { x with
    active := true, locked := false, pattern := BitVec.ofNat 3 (rq.u8 2), loop := BitVec.ofNat 2 (rq.u8 3),
    flags := BitVec.ofNat 8 (rq.u8 4 % 16), user := rq.bytes 8 10 }

/-- TEST_PGC. -/
def execTestPgc (rq : Req) (s : State) : Result :=
  .next (serve (cmdH 0x1301 20) rq (fun s =>
    let l := rq.u8 0
    if 95 < l || 2 < rq.u8 1 || (rq.u8 1 = 1 && !pgcOk rq) then .err .badParam
    else
      let s1 := countBits l s
      if rq.u8 1 = 0 then .ok (onLane l (fun x => { x with active := false, locked := false }) s1) []
      else if rq.u8 1 = 2 then .ok (onLane l (fun x => { x with bits := 0, errors := 0, lockLoss := 0 }) s1) []
      else if s.laneSettles l then .err .busy
      else if !s.laneIdle l || !s.domainOn (laneDomain l) then .err .state
      else .ok (onLane l (startPgc rq) s1) []) s)

/-- TEST_PGC_STATUS of a lane (R492). -/
def Lane.statusWord (x : Lane) : Nat := wordOf [(bitNat x.active, 0), (bitNat x.locked, 1), (x.loop.toNat, 2), (x.pattern.toNat, 4)]

/-- TEST_PGC_STATUS: the lane block, in offset order; `errors` are the errored bits since the last count. -/
def execTestPgcStatus (rq : Req) (errors : Nat) (s : State) : Result :=
  .next (serve (cmdH 0x1302 4) rq (fun s =>
    if 95 < rq.u8 0 then .err .badParam
    else
      let s1 := countErrors (rq.u8 0) errors s
      let x := s1.laneAt (rq.u8 0)
      .ok s1 (leBytes 4 x.statusWord ++ slotsBytes [x.bits, x.errors, x.lockLoss])) s)

/-- PGC_LOCK: a checker locks after 256 correct bits, or loses lock, which is counted; a loss ends a margin point (R480, R483). -/
def execPgcLock (lane : Fin 96) (lost : Bool) (errors : Nat) (s : State) : Result :=
  let x := s.laneAt lane.val
  if lost then
    (if !x.locked then .next s
     else .next (onLane lane.val (fun x => { x with locked := false, lockLoss := bump x.lockLoss, mLost := x.marginFn.isSome })
       (countErrors lane.val errors s)))
  else if x.active && x.flags.getLsbD 1 && !x.locked then .next (onLane lane.val (fun x => { x with locked := true, lockedAt := s.tide.nowFs }) s)
  else .next s

/-- TEST_MARGIN: the sampler is offset, and counting runs for DWELL. -/
def execTestMargin (rq : Req) (s : State) : Result :=
  .next (serve (cmdH 0x1303 8) rq (fun s =>
    let l := rq.u8 0
    let ph := rq.int 1 1
    let vo := rq.int 2 1
    if 95 < l || ph < -32 || 31 < ph || vo < -100 || 100 < vo || rq.u16 4 = 0 || 60000 < rq.u16 4 then .err .badParam
    else if s.laneSettles l || (s.laneAt l).marginFn.isSome then .err .busy
    else if !(s.laneAt l).locked then .err .state
    else .later (onLane l (fun x => { x with marginFn := some rq.fn.val, phase := ph, voff := vo, mLost := false }) (countBits l s))) s)

/-- MARGIN_DWELL_END: the offsets are restored, and the point's errors and bits are returned (R483, R493). -/
def execMarginDwellEnd (lane : Fin 96) (bits errors : BitVec 48) (s : State) : Result :=
  let x := s.laneAt lane.val
  match x.marginFn with
  | none => .next s
  | some fn =>
    let s1 := onLane lane.val (fun x => { x with
      marginFn := none, phase := 0, voff := 0, mLost := false, lockedAt := s.tide.nowFs, bits := x.bits + bits, errors := x.errors + errors }) s
    .next (finish fn 0x1303 .ok (leBytes 8 errors.toNat ++ leBytes 8 bits.toNat ++ [BitVec.ofNat 8 (bitNat x.mLost)]) s1)

/-- A lane's test stops with its domain; its counters keep their values (R490). -/
def stopLane (l : Nat) (s : State) : State :=
  let s1 := countBits l s
  match (s.laneAt l).marginFn with
  | some fn =>
    finish fn 0x1303 .ok (zeros 16 ++ [1]) (onLane l (fun x => { x with active := false, locked := false, marginFn := none, phase := 0, voff := 0 }) s1)
  | none => onLane l (fun x => { x with active := false, locked := false }) s1

/-! ### Test access port (R486 to R488) -/

/-- TAP_RESET: IDCODE is selected. -/
def execTapReset (s : State) : Result := .next { s with tap := { ir := .idcode } }

/-- The instruction that a loaded one selects: those that need PORST_N asserted select BYPASS without it, and private ones on a locked part. -/
def selectIr (ir : JtagIr) (porst locked : Bool) : JtagIr :=
  match ir with
  | .bypass => .bypass
  | .idcode => .idcode
  | .samplePreload => .samplePreload
  | .extest => if porst then .extest else .bypass
  | .clamp => if porst then .clamp else .bypass
  | .highz => if porst then .highz else .bypass
  | .extestPulse => if porst then .extestPulse else .bypass
  | .extestTrain => if porst then .extestTrain else .bypass
  | .hidden c => if locked then .bypass else .hidden c

/-- TAP_INSTRUCTION_LOAD. -/
def execTapInstructionLoad (ir : JtagIr) (s : State) : Result := .next { s with tap := { ir := selectIr ir s.pwr.porst s.fuse.testLock } }

end Sys2Proof.Machine
end

