-- ==== Sys2Proof/Machine/Time.lean ====
section
/-! DEFINITION. The time commands and events (02_tide_gauge.md). -/

namespace Sys2Proof.Machine

/-- The reply of time.get_status (02_tide_gauge.md Table 02.12). -/
def timeStatusBytes (t : Tide) : List Byte :=
  leBytes 4 t.word.toNat ++ leBytes 4 t.bound ++ leBytes 4 t.utcWord
    ++ [BitVec.ofNat 8 (bitNat t.selB + 2 * bitNat t.failA + 4 * bitNat t.failB), t.dissent, 0, 0]
    ++ slotsBytes [t.holdoverCount, t.stateChanges, t.ppsReject]

/-- TIME_GET_STATUS: the 40 bytes of Table 02.12 (R71). -/
def execTimeGetStatus (rq : Req) (s : State) : Result :=
  .next (serve (cmdHBA 0x0401 0) rq (fun s => .ok s (timeStatusBytes s.tide)) s)

/-- The parameters of time.set_source lie in their ranges (Tables 02.7, 02.10). -/
def sourceParamsOk (rq : Req) : Bool :=
  rq.u8 0 ≤ 2 && (rq.u8 1 == 0 || rq.u8 1 == 3) && (rq.u8 1 == 0 || rq.u8 2 == 10 || rq.u8 2 == 25) && (rq.u8 0 != 2 || rq.u8 3 ≤ 3)
  && rq.u32 4 ≤ 1000000000 && 10 ≤ rq.u32 8 && rq.u32 8 ≤ 100000 && 5 ≤ rq.u16 12 && rq.u16 12 ≤ 10000
  && 1 ≤ rq.u16 14 && rq.u16 14 ≤ 1024

/-- The settings of time.set_source. -/
def setSourceFields (rq : Req) (t : Tide) : Tide :=
  { t with phase := BitVec.ofNat 4 (rq.u8 0), freq := BitVec.ofNat 4 (rq.u8 1),
           refMhz := if rq.u8 1 = 3 then BitVec.ofNat 8 (rq.u8 2) else t.refMhz,
           ptpInst := if rq.u8 0 = 2 then BitVec.ofNat 8 (rq.u8 3) else t.ptpInst,
           refUnc := BitVec.ofNat 32 (rq.u32 4), ppsWindow := BitVec.ofNat 32 (rq.u32 8),
           lockThresh := BitVec.ofNat 16 (rq.u16 12), lockCount := BitVec.ofNat 16 (rq.u16 14) }

/-- A different phase source is named: another code, or another PTP instance (R54). -/
def otherPhase (rq : Req) (t : Tide) : Bool :=
  t.phase.toNat != rq.u8 0 || (rq.u8 0 == 2 && t.ptpInst.toNat != rq.u8 3)

/-- What naming the sources does (R48, R53, R54, Table 02.6): phase source NONE leads to FREE, a different one disqualifies the present
one, and in FREE or HOLDOVER it starts a new epoch alone; a change of SOURCE alone, in HOLDOVER, starts one too. -/
def setSource (rq : Req) (s : State) : State :=
  let t := s.tide
  let f (t : Tide) : Tide := { setSourceFields rq t with ppsBad := 0 }
  if rq.u8 0 = 0 && t.st != .free then goFree f s
  else if otherPhase rq t then
    match t.st with
    | .locked => goHoldover f s
    | .acquire => if t.acqFromHold && t.holdLeft then goHoldover f s else goFree f s
    | st => newEpoch (fun t => let u := f t; { u with qualified := false, source := u.sourceIn st }) s
  else
    let u := f t
    if u.sourceIn u.st != t.source then newEpoch (fun _ => { u with source := u.sourceIn u.st }) s
    else { s with tide := u }

/-- TIME_SET_SOURCE (R48). -/
def execTimeSetSource (rq : Req) (s : State) : Result :=
  .next (serve (cmdH 0x0402 16) rq (fun s => if sourceParamsOk rq then .ok (setSource rq s) [] else .err .badParam) s)

/-- TIME_SET_TAI: the TAI second of the next PPS_IN edge (R66). -/
def execTimeSetTai (rq : Req) (s : State) : Result :=
  .next (serve (cmdH 0x0403 8) rq (fun s =>
    match s.tide.st with
    | .locked => .err .state
    | .holdover => .err .state
    | _ => .ok { s with tide := { s.tide with taiNext := some (BitVec.ofNat 48 (rq.u64 0)) } } []) s)

/-- The parameters of time.set_utc are consistent (R47). -/
def utcParamsOk (rq : Req) (t : Tide) : Bool :=
  rq.u8 2 ≤ 2 && (if rq.u32 4 = 0 then rq.u8 2 == 0 else t.utcDay ≤ rq.u32 4)

/-- TIME_SET_UTC: the offset at once, or with its leap indication at the end of the named day (R47). -/
def execTimeSetUtc (rq : Req) (s : State) : Result :=
  .next (serve (cmdH 0x0404 8) rq (fun s =>
    if !utcParamsOk rq s.tide then .err .badParam
    else if rq.u32 4 = 0 then .ok (applyUtc (BitVec.ofNat 16 (rq.u16 0)) s) []
    else .ok { s with tide := { s.tide with leap61 := rq.u8 2 == 1, leap59 := rq.u8 2 == 2,
                                            pendUtc := some (BitVec.ofNat 16 (rq.u16 0), rq.u32 4) } } []) s)

/-- TIME_SET_PORT_DELAY: the board delays of a port (R58, Table 02.7). -/
def execTimeSetPortDelay (rq : Req) (s : State) : Result :=
  .next (serve (cmdH 0x0405 12) rq (fun s =>
    if 63 < rq.u8 0 || 100000 < (rq.int 4 4).natAbs || 100000 < (rq.int 8 4).natAbs then .err .badParam
    else .ok { s with tide := { s.tide with ingDelay := Tab.put 0 s.tide.ingDelay (rq.u8 0) (rq.int 4 4),
                                            egrDelay := Tab.put 0 s.tide.egrDelay (rq.u8 0) (rq.int 8 4) } } []) s)

/-- The parameters of time.ptp_config lie in their ranges, and the domain is the instance's own (Tables 02.3, 02.11). -/
def ptpParamsOk (rq : Req) (t : Tide) : Bool :=
  rq.u8 0 ≤ 3 && rq.u8 1 ≤ 127 && rq.u8 2 ≤ 3 && rq.u8 3 ≤ 1 && rq.u8 4 ≤ 2 && rq.u8 5 ≤ 1
  && -7 ≤ rq.int 6 1 && rq.int 6 1 ≤ 4 && -3 ≤ rq.int 7 1 && rq.int 7 1 ≤ 4
  && (setBits 64 (rq.u64 8)).length ≤ 16
  && !t.ptp.any (fun e => e.1 != rq.u8 0 && e.2.configured && e.2.domain.toNat == rq.u8 1)

/-- TIME_PTP_CONFIG (R50). -/
def execTimePtpConfig (rq : Req) (s : State) : Result :=
  .next (serve (cmdH 0x0406 20) rq (fun s =>
    if !ptpParamsOk rq s.tide then .err .badParam
    else if s.tide.ptp.any (fun e => e.1 != rq.u8 0 && e.2.configured && e.2.ports.toNat &&& rq.u64 8 != 0) then .err .noResource
    else .ok (s.setPtp (rq.u8 0)
      { configured := true, domain := BitVec.ofNat 8 (rq.u8 1), ctype := BitVec.ofNat 2 (rq.u8 2), p2p := rq.u8 3 == 1,
        transport := BitVec.ofNat 2 (rq.u8 4), oneStep := rq.u8 5 == 1, logSync := rq.int 6 1, logAnn := rq.int 7 1,
        ports := BitVec.ofNat 64 (rq.u64 8), prio1 := BitVec.ofNat 8 (rq.u8 16), prio2 := BitVec.ofNat 8 (rq.u8 17) }) []) s)

/-- TIME_SET_FAIL_CLOSED (R57): a berth may name only itself. -/
def execTimeSetFailClosed (rq : Req) (s : State) : Result :=
  .next (serve (cmdOwn 0x0407 8 0) rq (fun s =>
    if 15 < rq.u8 0 || 1 < rq.u8 1 || rq.u32 4 < 4000 || 1000000000 < rq.u32 4 then .err .badParam
    else .ok (s.setBerth (rq.u8 0) { s.berthAt (rq.u8 0) with tfc := rq.u8 1 == 1, tfcThresh := BitVec.ofNat 32 (rq.u32 4) }) []) s)

/-- TIME_SET_HOLDOVER (R54, R56): in HOLDOVER the bound accrued so far is kept. -/
def execTimeSetHoldover (rq : Req) (s : State) : Result :=
  .next (serve (cmdH 0x0408 16) rq (fun s =>
    if 1000000 < rq.u32 0 || 10000 < rq.u32 4 || rq.u32 12 < 100 || 1000000000 < rq.u32 12 then .err .badParam
    else
      let t := s.tide
      .ok { s with tide := { t with
        holdBound := if t.holdStart.isSome then t.holdBound + t.rateGrowth else t.holdBound,
        holdRateFrom := if t.holdStart.isSome then t.nowFs else t.holdRateFrom,
        holdRateSet := some (BitVec.ofNat 32 (rq.u32 0)), holdAge := BitVec.ofNat 32 (rq.u32 4),
        holdLimit := BitVec.ofNat 32 (rq.u32 8), stepThresh := BitVec.ofNat 32 (rq.u32 12) } } []) s)

/-- TIME_SET_DISSENT (R60). -/
def execTimeSetDissent (rq : Req) (s : State) : Result :=
  .next (serve (cmdH 0x0409 8) rq (fun s =>
    if rq.u16 0 < 1 || 1000 < rq.u16 0 || 7 < rq.u8 2 then .err .badParam
    else .ok { s with tide := { s.tide with dissentLimit := BitVec.ofNat 16 (rq.u16 0),
                                            asym := Tab.put 0 s.tide.asym (rq.u8 2) (rq.int 4 4) } } []) s)

/-- TIDE_NOW_NS_READ: NS is returned, and SEC and FRAC of the same instant are latched (R71). -/
def execTideNowNsRead (fn : Fin 17) (s : State) : Result :=
  if !s.mmioLive fn.val then .next s
  else
    let t := s.stamp
    .next (emit (.readData fn.val (if fn.val = 0 then 0x300000 else 0x100) (stampNs t))
      { s with tide := { s.tide with latSec := BitVec.ofNat 48 (stampSec t), latFrac := BitVec.ofNat 16 (stampFrac t) } })

/-- INTERP_HANDOVER: the other interpolator takes the phase bus, unless its reading differs by more than 50 ps: then it is failed and
TIDE_INTERP is raised (R43, R44, R68). -/
def execInterpHandover (diffPs : Nat) (s : State) : Result :=
  if s.tide.failA || s.tide.failB then .next s
  else if 50 < diffPs then
    .next (raise 0 3 0 0 0 none { s with tide := { s.tide with failA := s.tide.selB, failB := !s.tide.selB } })
  else .next { s with tide := { s.tide with selB := !s.tide.selB } }

/-- The seconds a PPS_IN edge stands for: those given, or those of a PTP instance, or the nearest second of the counter (Table 02.2). -/
def ppsSecond (s : State) (edge : Nat) : Nat :=
  match s.tide.taiNext with
  | some sec => sec.toNat
  | none =>
    match Tab.find (fun _ x => x.configured && x.parent.isSome && x.t1 != 0) s.tide.ptp with
    | some i => (((edge : Int) - (s.ptpAt i).offsetFs).toNat + fsPerSec / 2) / fsPerSec
    | none => (edge + fsPerSec / 2) / fsPerSec

/-- PPS_IN_EDGE: while PPS_IN is the phase source, an edge outside PPS_WINDOW of a LOCKED tide gauge is rejected and counted, and the
third in a row disqualifies PPS_IN; any other edge is taken, qualifies the source and updates the servo (R49, R53). -/
def execPpsInEdge (phase : Fin 32) (s : State) : Result :=
  if s.tide.phase != 1 then .next s
  else
    let edge := s.instant phase.val
    let off : Int := (edge : Int) - (ppsSecond s edge * fsPerSec : Nat)
    if s.tide.st = .locked ∧ s.tide.ppsWindow.toNat * 1000000 < off.natAbs then
      let s1 := { s with tide := { s.tide with ppsReject := bump s.tide.ppsReject, ppsBad := s.tide.ppsBad + 1, taiNext := none } }
      if 3 ≤ s1.tide.ppsBad then .next (disqualify (fun t => { t with ppsBad := 0 }) (raise 0 0 0 0 0 none s1)) else .next s1
    else
      let s1 := { s with tide := { s.tide with ppsBad := 0, taiNext := none } }
      .next (servoUpdate off (if s1.tide.qualified then s1 else qualify s1))

/-- PPS_LOSS: no edge for 1.5 s disqualifies PPS_IN (R49, R67). -/
def execPpsLoss (s : State) : Result :=
  if s.tide.phase == 1 && s.tide.qualified then .next (disqualify (fun t => { t with ppsBad := 0 }) (raise 0 0 0 0 0 none s)) else .next s

/-- PTP_MESSAGE: a message for a configured instance of its port, domain and transport is handled; one that uses an option outside Table
02.3 is discarded and counted (R50). -/
def execPtpMessage (p : Fin 64) (bytes : List Byte) (phase : Fin 32) (s : State) : Result :=
  match ptpPayload bytes, s.tide.instOf p.val with
  | some (tr, m), some i =>
    let x := s.ptpAt i
    if !ptpSupported m || tr != x.transport.toNat then
      .next (s.setPort p.val { s.portAt p.val with ptpDiscard := bump (s.portAt p.val).ptpDiscard })
    else if byteAt m 4 != x.domain.toNat then .next s
    else .next (ptpHandle i p.val m (s.ingressStamp p.val phase.val) s)
  | _, _ => .next s

/-- PTP_RECEIPT_TIMEOUT: the PTP source is lost (R67). -/
def execPtpReceiptTimeout (i : Fin 4) (s : State) : Result :=
  if (s.ptpAt i.val).parent.isSome then .next (ptpLost i.val s) else .next s

/-- PTP_SYNC_INTERVAL: a time transmitter or boundary clock sends Sync or Announce; a receiver, boundary clock or peer-to-peer instance
sends its delay request (R50). -/
def execPtpSyncInterval (i : Fin 4) (announce : Bool) (phase : Fin 32) (s : State) : Result :=
  let x := s.ptpAt i.val
  let ts := stampOfFs (s.instant phase.val)
  if !x.configured then .next s
  else
    let sends := x.ctype == 1 || x.ctype == 2
    let s1 := if !sends then s else if announce then ptpSendAnnounce i.val ts s else ptpSendSync i.val ts s
    if !announce && (x.ctype != 1 || x.p2p) then .next (ptpSendRequest i.val ts s1) else .next s1

/-- REF_IN_LOSS: TIDE_SRC_LOST is raised; in HOLDOVER HOLD_RATE takes the no-REF_IN value and the epoch increments (R67). -/
def execRefInLoss (s : State) : Result :=
  if !s.tide.refPresent then .next s
  else
    let t := s.tide
    let acc (t : Tide) : Tide :=
      { t with refPresent := false, holdBound := t.holdBound + t.rateGrowth, holdRateFrom := t.nowFs, holdNoRef := true }
    if t.freq != 3 then .next { s with tide := { t with refPresent := false } }
    else
      let s1 := raise 0 0 0 0 0 none s
      if t.st = .holdover then .next (newEpoch (fun t => let u := acc t; { u with source := u.sourceIn .holdover }) s1)
      else if t.holdStart.isSome then .next { s1 with tide := acc t }
      else .next { s1 with tide := { t with refPresent := false } }

/-- REF_IN_RETURN: REF_IN again holds frequency; in HOLDOVER SOURCE reads REF_IN and HOLD_RATE takes the REF_IN value (R52, R56). -/
def execRefInReturn (s : State) : Result :=
  if s.tide.refPresent then .next s
  else
    let t := s.tide
    let acc (t : Tide) : Tide :=
      if t.holdStart.isSome then
        { t with refPresent := true, holdBound := t.holdBound + t.rateGrowth, holdRateFrom := t.nowFs, holdNoRef := false }
      else { t with refPresent := true }
    if t.st = .holdover ∧ t.freq = 3 then .next (newEpoch (fun t => let u := acc t; { u with source := u.sourceIn .holdover }) s)
    else .next { s with tide := acc t }

/-- HOLDOVER_LIMIT: holdover time has reached HOLDOVER_LIMIT: HOLDOVER goes to FREE, and an ACQUIRE entered from it stays with no holdover
time remaining (R53, R54). -/
def execHoldoverLimit (s : State) : Result :=
  match s.tide.st with
  | .holdover => .next (goFree id s)
  | .acquire => .next { s with tide := { s.tide with holdLeft := false } }
  | _ => .next s

/-- UTC_DAY_END: the pending offset or leap is applied (R47). -/
def execUtcDayEnd (s : State) : Result :=
  match s.tide.pendUtc with
  | some (off, _) => .next (applyUtc off s)
  | none => .next s

/-- PPS_OUT and REF_OUT rise as NS passes 0; until start-up has calibrated the interpolators both stay low (24_pins_electrical.md R502,
Table 24.3). -/
def execPpsOut (s : State) : Result := if s.ph.ready then .next (emit .ppsOut s) else .next s

end Sys2Proof.Machine
end

