-- ==== Sys2Proof/Machine/PowerOps.lean ====
section
/-! DEFINITION. Power domains: when one may be switched, and what its block loses and regains (21_power_reset.md R447 to R449). -/

namespace Sys2Proof.Machine

/-- Changes the power controller. -/
def onPwr (g : Pwr → Pwr) (s : State) : State := { s with pwr := g s.pwr }

/-! ### When a domain may be switched off (Table 21.1) -/

/-- The table codes whose memories a bank holds. -/
def bankTables (bank : Nat) : List Nat :=
  match bank with
  | 0 => [0]
  | 1 => [1]
  | 2 => [1]
  | 3 => [2]
  | 4 => [2]
  | 5 => [2]
  | 6 => [3]
  | _ => [4, 5, 6]

/-- Some berth holds a partition or a quota in a table. -/
def State.tableHeld (s : State) (t : Nat) : Bool := s.fwd.berth.any (fun e => Tab.look 0 e.2.size t != 0)

/-- A shadow, the staging ring or the Pumphouse region lies in a channel (17_dram.md R386). -/
def State.channelHeld (s : State) (c : Nat) : Bool :=
  s.ph.region == some c || (s.ph.region.isSome && s.ledg.ringChannel == c)
    || (List.range 7).any (fun t => (s.protAt t).sounding && dramChannel (s.protAt t).shadow.toNat == c)

/-- A domain may be switched off now. -/
def State.mayOff (s : State) (d : Nat) : Bool :=
  if d < 64 then !(s.portAt d).enabled && !(s.bonded d && (quadPorts (d / 4)).any (fun p => (s.portAt p).enabled))
  else if d < 72 then true
  else if d < 88 then !(s.engineAt (d - 72)).inRotation && !s.pump.patchLeft.contains (d - 72)
  else if d < 120 then true
  else if d < 128 then (bankTables (d - 120)).all (fun t => !s.tableHeld t)
  else if d < 132 then
    let u := d - 128
    s.ph.region.isSome && s.strn.units.getLsbD (if u % 2 = 0 then u + 1 else u - 1)
  else if d < 136 then s.weir.run.isNone
  else if d < 138 then
    let st := (s.ddrAt (d - 136)).st
    !s.channelHeld (d - 136) && (st == 0 || st == 2 || st == 3)
  else if d < 140 then s.ledg.engines.getLsbD (139 - d)
  else d != 142

/-! ### A block off and on (Table 21.1) -/

/-- Clears one bit. -/
def maskOut {n : Nat} (v : BitVec n) (i : Nat) : BitVec n := v &&& ~~~(BitVec.ofNat n (2 ^ i))

/-- Sets one bit. -/
def maskIn {n : Nat} (v : BitVec n) (i : Nat) : BitVec n := v ||| BitVec.ofNat n (2 ^ i)

/-- The domain's block is in service: what it returns to when the domain is on again. -/
def State.blockUp (s : State) (d : Nat) : Bool :=
  if 128 ≤ d && d < 132 then s.strn.units.getLsbD (d - 128)
  else if 132 ≤ d && d < 136 then s.weir.tiles.getLsbD (d - 132)
  else if 138 ≤ d && d < 140 then s.ledg.engines.getLsbD (d - 138)
  else if 140 ≤ d && d < 142 then s.rdma.engines.getLsbD (d - 140)
  else true

/-- What the domain's block does and loses as it goes off. -/
def blockOff (d : Nat) (s : State) : State :=
  if d < 64 then stopLane d (onPort d (fun v => { v with enabled := false, link := 0 }) s)
  else if d < 72 then (List.range 4).foldl (fun s i => stopLane (64 + 4 * (d - 64) + i) s) (disableLink (d - 64) s)
  else if d < 88 then onEngine (d - 72) (fun x => { inRotation := x.inRotation, failed := x.failed }) s
  else if d < 128 then s
  else if d < 132 then onStrn (fun w => { w with units := maskOut w.units (d - 128) }) s
  else if d < 136 then onWeir (fun w => { w with tiles := maskOut w.tiles (d - 132) }) s
  else if d < 138 then
    let c := d - 136
    if (s.ddrAt c).st = 0 then s
    else flushRequests c (issueCmd c .sre 0 (issueCmd c .preAll 0 (onDdr c (fun x => { x with st := 7, srEntering := false, srExiting := false }) s)))
  else if d < 140 then onLedg (fun l => { l with engines := maskOut l.engines (d - 138) }) s
  else if d < 142 then engineDown (d - 140) s
  else if d = 143 then shtlGo (abortOps (fun _ => true) s)
  else s

/-- The cells in service suffice for the guarantees again (08_ferry_reservoir.md R203). -/
def guarBack (s : State) : State :=
  let r := s.rsv
  if r.guarShort && r.guarSum ≤ r.capacity - 8192 then onRsv (fun r => { r with guarShort := false }) s else s

/-- The domain's block as it comes up. -/
def blockOn (d : Nat) (s : State) : State :=
  let back := s.pwr.back.getLsbD d
  if d < 64 then s
  else if d < 72 then onXl (d - 64) (Xl.calibrated s.tjDeg) (enableLink (d - 64) s)
  else if d < 88 then onEngine (d - 72) (fun x => { x with inRotation := true, failed := false }) (loadEngine (d - 72) s)
  else if d < 120 then guarBack (onRsv (fun r => { r with draining := maskOut r.draining (d - 88) }) s)
  else if d < 128 then s
  else if d < 132 then (if back then onStrn (fun w => { w with units := maskIn w.units (d - 128) }) s else s)
  else if d < 136 then (if back then onWeir (fun w => { w with tiles := maskIn w.tiles (d - 132) }) s else s)
  else if d < 138 then
    let c := d - 136
    if (s.ddrAt c).st = 7 then resumeDram c (issueCmd c .mrr 0 (issueCmd c .srx 0 s)) else s
  else if d < 140 then (if back then onLedg (fun l => { l with engines := maskIn l.engines (d - 138) }) s else s)
  else if d < 142 then (if back then onRdma (fun r => { r with engines := maskIn r.engines (d - 140) }) s else s)
  else s

/-- The domains that switch with one: a bonded quad switches as one. -/
def State.withDomain (s : State) (d : Nat) : List Nat := if d < 64 && s.bonded d then quadPorts (d / 4) else [d]

/-- A domain is off: its block has lost its content. -/
def switchOff (d : Nat) (s : State) : State :=
  let up := s.blockUp d
  (s.withDomain d).foldl (fun s i => blockOff i s) (onPwr (fun p => { p with
    on := (s.withDomain d).foldl maskOut p.on, back := if up then maskIn p.back d else maskOut p.back d }) s)

/-- A domain is on: isolation is released, and its block comes up. -/
def switchOn (d : Nat) (s : State) : State :=
  blockOn d (onPwr (fun p => { p with on := (s.withDomain d).foldl maskIn p.on }) s)

/-- Memory BIST has failed: the domain stays isolated and off, and PWR_SUPPLY_FAULT has CAUSE 3 (R449). -/
def bistFails (s : State) : State := raise 2 0 0 3 0 none s

/-- The failure rule of a block's home chapter, after test.mbist has failed (23_test.md R485). -/
def blockFails (d : Nat) (s : State) : State :=
  if 72 ≤ d && d < 88 then failEngine (d - 72) 4 s
  else if 88 ≤ d && d < 120 then
    checkGuar (raise 13 0 (d - 88) 0 0 none (onRsv (fun r => { r with banks := maskOut r.banks (d - 88) }) s))
  else if 128 ≤ d && d < 132 then raise 11 1 (d - 128) 0 0 none s
  else if 132 ≤ d && d < 136 then shtlGo (failTile (d - 132) s)
  else if 136 ≤ d && d < 138 then dramEvent (d - 136) 4 0 0 s
  else if 138 ≤ d && d < 140 then raise 26 1 (d - 138) 0 0 none s
  else if 140 ≤ d && d < 142 then raise 25 0 (d - 140) 0 0 none s
  else s

/-- A domain is quiesced: a bank group holds no cell, and a pump engine no frame. -/
def State.quiesced (s : State) (d : Nat) : Bool :=
  if 88 ≤ d && d < 120 then s.rsv.usedIn (d - 88) == 0
  else if 72 ≤ d && d < 88 then (s.engineAt (d - 72)).ctx == []
  else true

/-- A domain begins to leave service: a bank group leaves the free list at once. -/
def beginOff (d : Nat) (s : State) : State :=
  if 88 ≤ d && d < 120 then checkGuar (onRsv (fun r => { r with draining := maskIn r.draining (d - 88) }) s) else s

/-! ### Resets (R452 to R454) -/

/-- What is left of a bay by a reset: its pins, and the cartridge in it. -/
def Bay.afterReset (x : Bay) : Bay :=
  { prsnt := x.prsnt, latched := x.latched, cart := x.cart.map (fun c => { c with openZone := none, fill := 0 }) }

/-- The bays after a reset. -/
def Cist.afterReset (c : Cist) : Tab Bay := (c.bay.map (fun e => (e.1, e.2.afterReset))).filter (fun e => e.2 != {})

/-- The sump after a chip reset: all but its counters and the running sequence stays (R445, Table 21.7). -/
def Sump.afterChip (p : Sump) : Sump :=
  { p with lines := [], chipRstRun := false, blockRst := [], events := 0, coalesced := 0, safeEntries := 0, safeDrop := 0, parity := 0 }

/-- The tide gauge after a chip reset: it runs on; its counters are 0, PTP instances stop, and interpolators are calibrated anew (R454,
02_tide_gauge.md R68). -/
def Tide.afterChip (t : Tide) : Tide :=
  { t with holdoverCount := 0, stateChanges := 0, ppsReject := 0, ptp := [], failA := false, failB := false }

/-- The power controller after a chip reset, with its cause. -/
def Pwr.afterChip (cause : BitVec 3) (p : Pwr) : Pwr :=
  { cause := cause, supplyOk := p.supplyOk, pwrfail := p.pwrfail, porst := p.porst, resetRun := true, lastGasps := p.lastGasps }

/-- The sensors after a chip reset: every one is in use again, and the last readings and THERM_N stand (24_pins_electrical.md R506, R510). -/
def Therm.afterChip (t : Therm) : Therm := { tj := t.tj, hottest := t.hottest, ts := t.ts, thermN := t.thermN, trip := t.trip }

/-- A PTP-steered servo loses its source as its ports reset (R454). -/
def losePtp (s : State) : State :=
  if s.tide.phase = 2 && s.tide.qualified then disqualify id (raise 0 0 0 0 0 none s) else s

/-- A chip reset: everything outside the always-on domain is cleared. -/
def resetChip (cause : BitVec 3) (s : State) : State :=
  let s1 : State := { State.reset with
    tide := s.tide.afterChip, sump := s.sump.afterChip, trace := s.trace, pwr := s.pwr.afterChip cause,
    guard := { vcode := s.guard.vcode }, ph := { restarts := s.ph.restarts }, fuse := s.fuse, cist := { bay := s.cist.afterReset },
    tap := s.tap, therm := s.therm.afterChip, out := s.out, free := s.free, pending := s.pending }
  losePtp (onTrace (fun t => t.idleIn 2 s.stamp) s1)

/-- PORST_N: everything is cleared but fuses, flash, cartridges and the test access port; KILL_N at its ball holds the safe state (R445,
23_test.md R486). -/
def resetAll (s : State) : State :=
  { State.reset with
    fuse := s.fuse, cist := { bay := s.cist.afterReset }, tap := s.tap, sump := { kill := s.sump.kill, safe := s.sump.kill },
    pwr := { porst := true }, out := s.out, free := s.free, pending := s.pending }

/-! ### Last gasp (R458, 15_ledger.md R349) -/

/-- The power-fail seal of every active chain is written, and appending has stopped. -/
def stopAppending (s : State) : State :=
  onLedg (fun l => { l with stopped := true })
    ((List.range 16).foldl (fun s b => if (s.chainAt b).active then writeSeal b 2 s else s) s)

/-- The domains that last gasp leaves on: the ledger engines, and the controller that holds the staging ring. -/
def State.gaspKeeps (s : State) (d : Nat) : Bool := d == 138 || d == 139 || (s.ph.region.isSome && d == 136 + s.ledg.ringChannel)

/-- Last gasp switches every other domain off, and the Pumphouse's buffered stores drain. -/
def gaspOff (s : State) : State :=
  onPh (fun p => { p with storeBuf := [] })
    ((List.range 144).foldl (fun s d => if s.gaspKeeps d || !s.domainOn d then s else switchOff d s) s)

/-- Last gasp begins. -/
def beginGasp (s : State) : State :=
  [0, 1].foldl (fun s n => revokeWindow n s) (onPwr (fun p => { p with
    lastGasp := true, lastGasps := bump p.lastGasps, switching := [], bist := [] }) s)

end Sys2Proof.Machine
end

