-- ==== Sys2Proof/Machine/Power.lean ====
section
/-! DEFINITION. The power commands, domain switching, resets, start-up, last gasp and the supplies (21_power_reset.md). -/

namespace Sys2Proof.Machine

/-! ### Power domains (R449, R457, R464) -/

/-- A berth may switch the PCS domain of a river port that it owns whole. -/
def ownPcs (s : State) (b : Nat) (rq : Req) : Bool := rq.payload = [] || (rq.u8 0 < 64 && (s.ownerAt (rq.u8 0)).whole == some b)

/-- A domain is switching, or under test. -/
def State.isSwitching (s : State) (d : Nat) : Bool :=
  s.pwr.switching.any (fun e => (s.withDomain e.1).contains d) || s.pwr.bist.any (fun e => e.1 == d)

/-- Notes a switch under way and the function that waits for it. -/
def startSwitch (d : Nat) (on : Bool) (fn : Nat) (s : State) : State :=
  onPwr (fun p => { p with switching := p.switching ++ [(d, on, some fn)] }) s

/-- POWER_DOMAIN. -/
def execPowerDomain (rq : Req) (s : State) : Result :=
  .next (serve { cmdHB 0x1101 4 with own := ownPcs } rq (fun s =>
    let d := rq.u8 0
    let on := rq.u8 1 = 1
    if 143 < d || 1 < rq.u8 1 then .err .badParam
    else if s.bondMember d && d < 64 then .err .state
    else if s.isSwitching d then .err .busy
    else if on == s.domainOn d then .ok s []
    else if on then .later (onGuard (fun g => { g with suppress := 50 }) (startSwitch d true rq.fn.val s))
    else if !s.mayOff d then .err .state
    else .later (beginOff d (startSwitch d false rq.fn.val s))) s)

/-- A switch under way ends: it is counted, and the function that waits is answered. -/
def endSwitch (d : Nat) (fn : Option Nat) (st : Status) (s : State) : State :=
  finishOpt fn 0x1101 st [] (onPwr (fun p => { p with
    switching := p.switching.filter (fun e => e.1 != d), switches := if st = .ok then bump p.switches else p.switches }) s)

/-- A domain's test ends: it returns to service, or stays off (23_test.md R485). -/
def endBist (d fn : Nat) (ok : Bool) (failMem : BitVec 16) (s : State) : State :=
  let s1 := onPwr (fun p => { p with bist := p.bist.filter (fun e => e.1 != d) }) s
  let s2 := if s1.domainOn d then switchOff d s1 else s1
  if ok then finish fn 0x1304 .ok [] (switchOn d s2)
  else finish fn 0x1304 .hwFault (leBytes 2 failMem.toNat) (blockFails d (bistFails s2))

/-- DOMAIN_SWITCH_DONE: a domain is off, or on again when its memory BIST has passed; a bank group that still holds cells goes on
draining. -/
def execDomainSwitchDone (d : Fin 144) (bistOk : Bool) (failMem : BitVec 16) (s : State) : Result :=
  match s.pwr.switching.find? (fun e => e.1 == d.val), s.pwr.bist.find? (fun e => e.1 == d.val) with
  | some (_, false, fn), _ => .next (if s.quiesced d.val then endSwitch d.val fn .ok (switchOff d.val s) else s)
  | some (_, true, fn), _ =>
    .next (if bistOk then endSwitch d.val fn .ok (switchOn d.val s) else endSwitch d.val fn .hwFault (bistFails s))
  | none, some (_, fn) => .next (if s.quiesced d.val then endBist d.val fn bistOk failMem s else s)
  | none, none => .next s

/-- BANK_GROUP_OFF_TIMEOUT: a group that still holds cells returns to the free list. -/
def execBankGroupOffTimeout (g : Fin 32) (s : State) : Result :=
  let d := 88 + g.val
  match s.pwr.switching.find? (fun e => e.1 == d) with
  | some (_, false, fn) =>
    if s.quiesced d then .next s
    else .next (endSwitch d fn .timeout (guarBack (onRsv (fun r => { r with draining := maskOut r.draining g.val }) s)))
  | _ => .next s

/-- TEST_MBIST: the domain leaves service, and DOMAIN_SWITCH_DONE brings its outcome. -/
def execTestMbist (rq : Req) (s : State) : Result :=
  .next (serve (cmdH 0x1304 4) rq (fun s =>
    let d := rq.u8 0
    if 143 < d then .err .badParam
    else if (s.bondMember d && d < 64) || s.isSwitching d || !s.domainOn d || !s.mayOff d then .err .state
    else
      let s1 := beginOff d (onPwr (fun p => { p with bist := p.bist ++ [(d, rq.fn.val)] }) s)
      .later (if s1.quiesced d && !(88 ≤ d && d < 120) then switchOff d s1 else s1)) s)

/-! ### Status and chip reset (R453, R464) -/

/-- Word w of DOMAIN_ON. -/
def Pwr.onWord (p : Pwr) (w : Nat) : Nat := p.on.toNat / 2 ^ (32 * w) % 0x100000000

/-- SUPPLY_OK and LASTGASP. -/
def Pwr.supplyWord (p : Pwr) : Nat := wordOf [(p.supplyOk.toNat, 0), (bitNat p.lastGasp, 7)]

/-- The power counters, in register order. -/
def Pwr.counters (p : Pwr) : List (BitVec 48) := [p.switches, p.offAccess, p.lastGasps]

/-- POWER_STATUS. -/
def execPowerStatus (rq : Req) (s : State) : Result :=
  .next (serve (cmdH 0x1102 0) rq (fun s =>
    .ok s (((List.range 5).map (fun w => leBytes 4 (s.pwr.onWord w))).flatten ++ leBytes 4 s.pwr.cause.toNat ++ leBytes 4 s.pwr.supplyWord
      ++ slotsBytes s.pwr.counters)) s)

/-- A chip reset has been asked for: last gasp begins under the safe state, and CHIP_RST_DELAY bounds it (R453). -/
def askReset (s : State) : State :=
  onSump (fun p => { p with chipRstRun := true })
    (enterSafe true (beginGasp (onPwr (fun p => { p with resetPending := true, gaspCause := 2 }) s)))

/-- POWER_CHIP_RESET: OK is returned, and then last gasp begins. -/
def execPowerChipReset (rq : Req) (s : State) : Result :=
  let busy := s.pwr.resetPending || s.pwr.lastGasp
  let t := serve (cmdH 0x1103 4) rq (fun s =>
    if rq.u32 0 ≠ 0x43484950 then .err .badParam else if busy then .err .busy else .ok s []) s
  .next (if runs (cmdH 0x1103 4) rq s && rq.u32 0 = 0x43484950 && !busy then askReset t else t)

/-- CHIP_RESET: for the cause that is pending, or for a CHIP_RST reaction. -/
def execChipReset (s : State) : Result := .next (resetChip (if s.pwr.gaspCause = 0 then 1 else s.pwr.gaspCause) s)

/-- CHIP_RST_DELAY_EXPIRY: the chip reset falls, unless PWRFAIL_N holds it for the end of last gasp (R453, R457). -/
def execChipRstDelayExpiry (s : State) : Result :=
  if !s.sump.chipRstRun then .next s
  else if s.pwr.pwrfail && s.pwr.lastGasp then .next (onSump (fun p => { p with chipRstRun := false }) s)
  else .next (resetChip s.pwr.gaspCause s)

/-! ### Start-up (R455, 17_dram.md R378, R385) -/

/-- A channel after training: READY at its speed, FAILED, or absent. -/
def trainChannel (c gib : Nat) (speed : Option (Fin 3)) (s : State) : State :=
  if gib = 0 then s
  else match speed with
    | some v => onDdr c (fun d => { d with st := 2, capGib := gib, speed := BitVec.ofNat 2 v.val, trained := BitVec.ofNat 2 v.val, cold := true }) s
    | none => dramEvent c 4 0 0 (onDdr c (fun d => { d with st := 6, capGib := gib, failKind := 4 }) s)

/-- The board descriptor is read; one that is bad, or that names an unsupported fitting, raises PH_BOARD_DESC (18_pumphouse.md R396,
17_dram.md R375). -/
def readBoard (s : State) : State :=
  let b := readDesc s.descBytes
  let bad := !descOk s.descBytes
  let s1 := onPh (fun p => { p with desc := b, boardBad := bad }) s
  if bad || fittingBad b.dc0 || fittingBad b.dc1 then raise 30 3 0 0 0 none s1 else s1

/-- The Pumphouse region and the staging ring take their places (17_dram.md R377, R378, 15_ledger.md R351). -/
def placeRegions (s : State) : State :=
  let up := fun c => (s.ddrAt c).st == 2
  let ring := if up 1 then dc1Base else 0
  onLedg (fun l => { l with ringBase := BitVec.ofNat 64 ring }) (onPh (fun p => { p with region := [0, 1].find? up }) s)

/-- VDD_CORE is written to 0.85 V (03_self_timed_core.md R92), unless its regulator has an unsupported VOUT_MODE: each such regulator
raises PH_PMBUS_MODE (18_pumphouse.md R404). -/
def bootVolt (bad : List (Fin 7)) (s : State) : State :=
  let s1 := bad.foldl (fun s _ => raise 30 4 0 0 0 none s) (onGuard (fun g => { g with voutBad := bad.contains 0 }) s)
  if bad.contains 0 then s1 else emit (.vout 30) (onGuard (fun g => { g with vcode := 30 }) s1)

/-- The synthesisers are calibrated, and the Crossings enabled (11_crossings.md R265). -/
def calibrateAll (s : State) : State :=
  let s1 := (List.range 16).foldl (fun s q => onQuad q (fun x => { x with calTj := s.tjDeg }) s) s
  (List.range 8).foldl (fun s k => enableLink k (onXl k (Xl.calibrated s.tjDeg) s)) s1

/-- The guard starts with its defaults (03_self_timed_core.md R92). -/
def startGuard (s : State) : State := onGuard (fun g => { vcode := g.vcode, voutBad := g.voutBad, running := true, enabled := true }) s

/-- The steps of a cold start before MBX_READY. -/
def coldStart (train : TrainRes) (s : State) : State :=
  let s1 := bootVolt train.badModes (readBoard s)
  let b := s1.ph.desc
  let s2 := placeRegions (trainChannel 1 (fittingGib b.dc1) train.dc1 (trainChannel 0 (fittingGib b.dc0) train.dc0 s1))
  startGuard (standAlone (onFab (fun f => { f with discovering := true }) (calibrateAll s2)))

/-- MBX_READY is set; a new slot has proved itself, and seated cartridges are probed (16_cistern.md R372). -/
def setReady (s : State) : State :=
  let s1 := onPh (fun p => { p with ready := true, restartEvent := false }) s
  let s2 := onPwr (fun p => { p with porst := false, resetRun := false }) { s1 with fuse := { s1.fuse with fresh := false } }
  [0, 1].foldl (fun s n => if (s.bayAt n).prsnt && (s.bayAt n).st = 0 then startProbe n s else s) s2

/-- The functions that exist. -/
def State.functions (s : State) : List Nat := (List.range 17).filter (fun fn => s.role fn != .absent)

/-- STARTUP_COMPLETE: with every step of Table 21.5 unless a start-up has completed since the last reset, which the running guard shows;
after a restart of the Pumphouse with PH_RESTART on every ring (18_pumphouse.md R409). -/
def execStartupComplete (train : TrainRes) (s : State) : Result :=
  if !s.ph.running || s.ph.ready || s.pwr.restartUp then .next s
  else
    let s1 := setReady (if s.guard.running then s else coldStart train s)
    .next (if s.ph.restartEvent then postAll s.functions 0x0103 [s.ph.restarts] s1 else s1)

/-! ### PWRFAIL_N and last gasp (R457 to R460) -/

/-- PWRFAIL_N_ASSERT: PWR_FAIL latches with the safe state of scope ALL; last gasp begins, or before MBX_READY start-up stops. -/
def execPwrfailNAssert (s : State) : Result :=
  if s.pwr.pwrfail then .next s
  else
    let s1 := latchLine { src := 4, code := 0x11B0 } (onPwr (fun p => { p with pwrfail := true }) s)
    if s.ph.ready || s.ph.restartEvent then .next (if s1.pwr.lastGasp then s1 else beginGasp s1)
    else .next (onPwr (fun p => { p with restartUp := true }) s1)

/-- APPENDING_STOP: 2 us after the latch appending stops; in last gasp the other domains go off, and for a CHIP_RST reaction the ledger
alone takes its steps (R437). -/
def execAppendingStop (s : State) : Result :=
  if s.ledg.stopped then .next s
  else if s.pwr.lastGasp then .next (gaspOff (stopAppending s))
  else if s.sump.chipRstRun then .next (stopAppending s)
  else .next s

/-- LAST_GASP_END: no page waits. A chip reset that is due follows at once. -/
def execLastGaspEnd (s : State) : Result :=
  if !s.pwr.lastGasp || !s.ledg.stopped || s.pagesWait then .next s
  else if s.pwr.resetPending then .next (resetChip s.pwr.gaspCause s)
  else .next (onPwr (fun p => { p with lastGasp := false }) s)

/-- PWRFAIL_N_RELEASE: the supplies have held. The event is a brown-out, and a chip reset follows last gasp; before MBX_READY start-up
resumes from its first step. -/
def execPwrfailNRelease (s : State) : Result :=
  if !s.pwr.pwrfail then .next s
  else
    let s1 := onPwr (fun p => { p with pwrfail := false }) s
    if s.pwr.restartUp then .next (onPh (fun p => { p with running := false }) (onPwr (fun p => { p with restartUp := false }) s1))
    else if s.pwr.lastGasp then
      .next (onSump (fun p => { p with chipRstRun := true }) (onPwr (fun p => { p with brownOut := true, resetPending := true, gaspCause := 3 }) s1))
    else if s.ledg.stopped then .next (resetChip 3 s1)
    else .next s1

/-! ### The other resets, supplies and the PCIe link (R450 to R452, 20_sump.md Table 20.1) -/

/-- PORST_N. -/
def execPorstN (s : State) : Result := .next (resetAll s)

/-- PERST_N: the endpoint with VF Enable, every mailbox and event ring, and every berth's rings and queue pairs; the link trains again. -/
def execPerstN (s : State) : Result :=
  let qs := (s.rdma.qp.filter (fun e => e.2.used)).map Prod.fst
  let s1 := rdmaSettle (qs.foldl (fun s q => qpError q 0 s) s)
  let s2 := (List.range 16).foldl (fun s b => resetRings b s) s1
  .next { s2 with mbx := [], msix := [], vfEnable := false, pcieDown := false }

/-- SUPPLY_FAULT: a rail has been outside its tolerance for 1 us. -/
def execSupplyFault (rail : Fin 7) (high : Bool) (s : State) : Result :=
  .next (raise 2 0 rail.val (if high then 2 else 1) 0 none (onPwr (fun p => { p with supplyOk := maskOut p.supplyOk rail.val }) s))

/-- PCIE_LINK_DOWN: the host link goes down, or reports a fatal error. -/
def execPcieLinkDown (fatal : Bool) (s : State) : Result :=
  if fatal then .next (raise 31 1 0 0 0 none s)
  else if s.pcieDown then .next s
  else .next (raise 31 0 0 0 0 none { s with pcieDown := true })

end Sys2Proof.Machine
end

