-- ==== Sys2Proof/Machine/Sump.lean ====
section
/-! DEFINITION. The sump commands, its latch, its history and its pins (20_sump.md). -/

namespace Sys2Proof.Machine

/-! ### Commands (R435, R441, R443, R446) -/

/-- SUMP_SET_REACTION. -/
def execSumpSetReaction (rq : Req) (s : State) : Result :=
  .next (serve (cmdH 0x1001 4) rq (fun s =>
    let src := rq.u8 0
    let r := rq.u8 1 % 128
    if 33 < src || ((src = 4 || src = 5) && !bitOf r 5) then .err .badParam
    else .ok (onSump (fun p => { p with react := Tab.put 0xFF p.react src (BitVec.ofNat 8 r) }) s) []) s)

/-- Clears bits of SUMP_STATUS; a bit whose source latches in the same cycle stays set (R443). -/
def clearStatus (mask : BitVec 64) (p : Sump) : Sump :=
  let stays := BitVec.ofNat 64 (maskOf 64 (fun k => p.lines.any (fun l => l.src == k)))
  { p with status := p.status &&& ~~~(mask &&& ~~~stays) }

/-- Re-arms the sump: what it has captured and merged, and the running reaction, are cleared, and ERR_N is released (R442). -/
def Sump.rearm (p : Sump) : Sump :=
  { p with first := none, merged := 0, runReact := 0, err := false, armed := true, intDone := false, nmiDone := false, blockRst := [] }

/-- SUMP_CLEAR. -/
def execSumpClear (rq : Req) (s : State) : Result :=
  .next (serve (cmdH 0x1002 12) rq (fun s =>
    if 1 < rq.u8 8 || (rq.u64 0 = 0 && rq.u8 8 = 0) then .err .badParam
    else
      let s1 := onSump (clearStatus (BitVec.ofNat 64 (rq.u64 0))) s
      .ok (if rq.u8 8 = 1 then onSump Sump.rearm s1 else s1) []) s)

/-- SUMP_SAFE_ENTER. -/
def execSumpSafeEnter (rq : Req) (s : State) : Result :=
  .next (serve (cmdH 0x1003 4) rq (fun s =>
    if 1 < rq.u8 0 then .err .badParam else .ok (enterSafe (rq.u8 0 == 1) s) []) s)

/-- The safe state may not end yet: KILL_N or PWRFAIL_N is asserted, or a source whose reaction holds SAFE has its bit set (R441). -/
def State.safeHeld (s : State) : Bool :=
  s.sump.kill || s.pwr.pwrfail || (List.range 34).any (fun k => s.sump.status.getLsbD k && bitOf (s.sump.reactOf k) 5)

/-- The safe state ends: the stopped queues have been flushed, or resume in order; the queue pairs retransmit (R441, 14_remote_memory.md
R327). -/
def leaveSafe (flush : Bool) (s : State) : State :=
  let s1 := if flush then flushStopped s else s
  resumeRdma (onSump (fun p => { p with safe := false, scopeAll := false }) s1)

/-- SUMP_SAFE_RELEASE. -/
def execSumpSafeRelease (rq : Req) (s : State) : Result :=
  .next (serve (cmdH 0x1004 4) rq (fun s =>
    if 1 < rq.u8 0 then .err .badParam
    else if s.safeHeld then .err .state
    else .ok (if s.sump.safe then leaveSafe (rq.u8 0 == 1) s else s) []) s)

/-- The berth whose port an injected RP_LINK_DOWN names (R430). -/
def State.injectBerth (s : State) (src code unit : Nat) : Option Nat :=
  if 6 ≤ src && src ≤ 9 && code == 0x0380 && unit < 64 then (s.ownerAt unit).whole else none

/-- SUMP_INJECT: the event is raised as its block would, with KIND INJECTED. -/
def execSumpInject (rq : Req) (s : State) : Result :=
  .next (serve (cmdH 0x1005 16) rq (fun s =>
    let src := rq.u8 0
    let code := rq.u16 2
    if 33 < src || code < sumpFirstCode src || sumpFirstCode src + sumpEventCount src ≤ code then .err .badParam
    else
      let l : SumpLine := { src := src, code := BitVec.ofNat 16 code, unit := BitVec.ofNat 8 (rq.u8 1), cause := BitVec.ofNat 8 (rq.u8 4),
                            value := BitVec.ofNat 64 (rq.u64 8), berth := s.injectBerth src code (rq.u8 1), kind := 2 }
      .ok (onSump (fun p => { p with lines := p.lines ++ [l] }) s) []) s)

/-- The state word of the sump (Table 20.6). -/
def Sump.word (p : Sump) : Nat :=
  wordOf [(bitNat p.armed, 0), (bitNat p.safe, 1), (bitNat p.scopeAll, 2), (bitNat p.kill, 3), (bitNat p.err, 4), (p.runReact.toNat, 5)]

/-- The counters of the sump, in register order. -/
def Sump.counters (p : Sump) : List (BitVec 48) := [p.events, p.coalesced, p.safeEntries, p.safeDrop, p.parity]

/-- SUMP_FIRST. -/
def Sump.firstBytes (p : Sump) : List Byte := (p.first.map Entry.bytes).getD (zeros 32)

/-- A slot of the history; one that nothing has been written to reads 0. -/
def Sump.slotBytes (p : Sump) (i : Nat) : List Byte := (Tab.look {} p.hist i).bytes

/-- SUMP_STATUS: the registers in offset order, then the counters. -/
def execSumpStatus (rq : Req) (s : State) : Result :=
  .next (serve (cmdH 0x1006 0) rq (fun s =>
    let p := s.sump
    .ok s (leBytes 8 p.status.toNat ++ leBytes 4 p.word ++ leBytes 4 p.merged.toNat ++ leBytes 4 p.histCount.toNat ++ p.firstBytes
      ++ ((List.range 16).map p.slotBytes).flatten ++ ((List.range 34).map (fun k => leBytes 4 (p.reactOf k))).flatten
      ++ slotsBytes p.counters)) s)

/-- SUMP_CONFIG. -/
def execSumpConfig (rq : Req) (s : State) : Result :=
  .next (serve (cmdH 0x1007 4) rq (fun s =>
    if rq.u16 0 = 0 || 5000 < rq.u16 0 then .err .badParam else .ok (onSump (fun p => { p with chipRstMs := rq.u16 0 }) s) []) s)

/-! ### Registers -/

/-- SUMP_STATUS_WRITE: a write of STATUS_LO or STATUS_HI clears the bits it names (R443). -/
def execSumpStatusWrite (hi : Bool) (mask : BitVec 32) (s : State) : Result :=
  if s.pcieDown || !s.domainOn 142 then .next s
  else .next (onSump (clearStatus (BitVec.ofNat 64 (mask.toNat * (if hi then 0x100000000 else 1)))) (mmio 0 s))

/-! ### Latch, history and block resets (R429 to R437) -/

/-- SUMP_LATCH. -/
def execSumpLatch (s : State) : Result := .next (latchAll s)

/-- An entry takes its slot, and is posted to PF0's event ring and to its berth's (R431). -/
def storeEntry (e0 : Entry) (s : State) : State :=
  let e := { e0 with hseq := s.sump.histCount }
  let s1 := onSump (fun p => { p with
    hist := Tab.put {} p.hist (e.hseq.toNat % 16) e, histCount := p.histCount + 1 }) s
  postAll (0 :: (e.berth.filter (fun b => s.berthExists b)).toList.map (1 + ·)) 0x1001 e.bytes s1

/-- HISTORY_WRITE: the entry in hand has been written, and the next one starts (R432). -/
def execHistoryWrite (s : State) : Result :=
  match s.sump.writing with
  | none => .next s
  | some e => .next (onSump Sump.advance (storeEntry e s))

/-- BLOCK_RESET: the Pumphouse applies the block reset that waits first. -/
def execBlockReset (s : State) : Result :=
  match s.sump.blockRst with
  | [] => .next s
  | (src, unit) :: rest => .next (resetBlock src unit (onSump (fun p => { p with blockRst := rest }) s))

/-! ### KILL_N (R442) -/

/-- KILL_N_ASSERT: SUMP_KILL latches. -/
def execKillNAssert (s : State) : Result :=
  if s.sump.kill then .next s
  else .next (latchLine { src := 5, code := 0x1080 } (onSump (fun p => { p with kill := true }) s))

/-- KILL_N_RELEASE: the level is gone; the safe state stays. -/
def execKillNRelease (s : State) : Result := .next (onSump (fun p => { p with kill := false }) s)

end Sys2Proof.Machine
end

