-- ==== Sys2Proof/Machine/Registers.lean ====
section
/-! DEFINITION. Counter slots and the writable registers of the function windows (22_counters_trace.md R465, 00_scope.md R12,
25_interface_index.md Tables 25.1 to 25.3). -/

namespace Sys2Proof.Machine

/-! ### Counter slots of PF0 BAR0 -/

/-- The slot of a list of 64-bit slots that an offset from its first one names. -/
def slotOf (cs : List (BitVec 48)) (d : Nat) : Option (BitVec 48) := if d % 8 = 0 then cs[d / 8]? else none

/-- The counters of a port block (04_river_ports.md Table 04.5). -/
def portSlot (v : Port) (d : Nat) : Option (BitVec 48) :=
  if 0x208 ≤ d then slotOf (v.counters.drop 17) (d - 0x208) else if 0x100 ≤ d then slotOf (v.counters.take 17) (d - 0x100) else none

/-- The pump counters (05_pumps.md Table 05.9). -/
def Pump.counters (p : Pump) : List (BitVec 48) :=
  [p.nanoDiscard, p.reparsed, p.noContext, p.dispatchWait, p.fragStored, p.fragFull, p.fragAged, p.selfCheck]

/-- The strainer counters (06_strainer.md Table 06.6). -/
def Strn.counters (p : Strn) : List (BitVec 48) := [p.lookups, p.multi, p.moveSteps, p.handleFull, p.eccCorr, p.eccUncorr]

/-- The table counters (07_tables.md, Commands and registers). -/
def Fwd.counters (p : Fwd) : List (BitVec 48) :=
  [p.lookups, p.learnCnt, p.learnFull, p.aged, p.moves, p.missDrop, p.eccCorr, p.eccUncorr, p.eccDrop, p.soundMismatch, p.soundRepair,
   p.soundPaused]

/-- The reservoir counters (08_ferry_reservoir.md, Commands and registers). -/
def Rsv.counters (p : Rsv) : List (BitVec 48) := [p.ferryRefused, p.ferrySpill, p.fullDrop, p.bankDrop, p.eccCorr, p.eccUncorr]

/-- The Shuttle counters (13_collectives.md R310). -/
def Shtl.counters (p : Shtl) : List (BitVec 48) := [p.ops, p.timeouts, p.aborted, p.mismatch, p.detour, p.staleDrop, p.satCnt]

/-- The RDMA counters (14_remote_memory.md, Commands and registers). -/
def Rdma.counters (p : Rdma) : List (BitVec 48) :=
  [p.txPkts, p.rxPkts, p.retrans, p.nakTx, p.nakRx, p.rnrNak, p.ecnEcho, p.dup, p.qpErr, p.flushed, p.rxDenied, p.rxBadQp, p.rxIcrc, p.rxPkey]

/-- The ledger counters (15_ledger.md, Commands and registers). -/
def Ledg.counters (p : Ledg) : List (BitVec 48) :=
  [p.records, p.seals, p.pagesOut, p.pagesStaged, p.fullRefused, p.gapSkipped, p.lostPages]

/-- The Weir counters of a berth at their offsets (10_weir_windlass.md, Commands and registers). -/
def weirSlot (v : WeirB) (d : Nat) : Option (BitVec 48) :=
  if d % 8 = 0 && 8 ≤ d && d ≤ 0xA0 then some (Tab.look 0 v.rejects (d / 8))
  else if 0xC0 ≤ d then slotOf [v.accepts, v.holds, v.released, v.reversed] (d - 0xC0) else none

/-- The ring counters of a berth (19_host_rings.md R427). -/
def ringSlot (s : State) (b d : Nat) : Option (BitVec 48) :=
  let rx := fun r => let x := s.rxAt b r; [x.frames, x.bytes, x.trunc, x.dbErr]
  let tx := fun r => let x := s.txAt b r; [x.frames, x.descErr, x.dropped, x.dbErr]
  slotOf (((List.range 4).map rx).flatten ++ ((List.range 4).map tx).flatten) d

/-- The counter slots of a programmable counter (22_counters_trace.md R477). -/
def pmonSlot (p : Pmon) (d : Nat) : Option (BitVec 48) :=
  if d % 0x20 = 0 then some (Tab.look 0 p.value (d / 0x20)) else if d % 0x20 = 8 then some (Tab.look 0 p.snap (d / 0x20)) else none

/-- A lane's counters, BITS brought up to the instant (23_test.md R480, R492). -/
def laneSlot (s : State) (l d : Nat) : Option (BitVec 48) :=
  let x := Tab.look {} (countBits l s).lane l
  if 8 ≤ d then slotOf [x.bits, x.errors, x.lockLoss] (d - 8) else none

/-- A span of counter slots: its base, its length, the domain of its block if it has one, and the counter at an offset in it. -/
structure SlotSpan where
  base : Nat
  len : Nat
  domain : Nat → Option Nat := fun _ => none
  read : Nat → Option (BitVec 48)

/-- The counter slots of PF0 BAR0 (25_interface_index.md Table 25.3). -/
def slotSpans (s : State) : List SlotSpan :=
  [{ base := 0x18, len := 8, read := slotOf [s.glb.noBerthDrop] },
   { base := 0x108000, len := 0x38, read := slotOf (phCounters s) },
   { base := 0x201000, len := 0x28, read := slotOf s.sump.counters },
   { base := 0x300040, len := 0x18, read := slotOf [s.tide.holdoverCount, s.tide.stateChanges, s.tide.ppsReject] },
   { base := 0x400800, len := 0x18, read := slotOf s.pwr.counters },
   { base := 0x800000, len := 0x200000, domain := fun d => some (d / 0x8000), read := fun d => portSlot (s.portAt (d / 0x8000)) (d % 0x8000) },
   { base := 0xC00000, len := 0x40000, domain := fun d => some (64 + d / 0x8000),
     read := fun d => if 0x100 ≤ d % 0x8000 then slotOf (s.xlAt (d / 0x8000)).counters (d % 0x8000 - 0x100) else none },
   { base := 0xC40100, len := 0x50, read := slotOf s.fab.counters },
   { base := 0x1001000, len := 0x40, read := slotOf s.pump.counters },
   { base := 0x1002000, len := 0x800,
     read := fun d => slotOf ((List.range 9).map (Tab.look 0 (s.pumpB (d / 0x80)).counts)) (d % 0x80) },
   { base := 0x1401000, len := 0x30, read := slotOf s.strn.counters },
   { base := 0x1402000, len := 0x100,
     read := fun d => let x := Tab.look {} s.strn.berth (d / 0x10); slotOf [x.hit, x.nomatchCnt] (d % 0x10) },
   { base := 0x1801000, len := 0x60, read := slotOf s.fwd.counters },
   { base := 0x1802000, len := 0x200,
     read := fun d => let x := s.fwdB (d / 0x20); slotOf [x.l2Hit, x.l2MissCnt, x.rHit, x.rMiss] (d % 0x20) },
   { base := 0x2001000, len := 0x30, read := slotOf s.rsv.counters },
   { base := 0x2008000, len := 0x5200,
     read := fun d => let x := Tab.look {} s.rsv.queue (d / 0x20); if 8 ≤ d % 0x20 then slotOf [x.tx, x.drop] (d % 0x20 - 8) else none },
   { base := 0x2020000, len := 0x1000, read := fun d => ringSlot s (d / 0x100) (d % 0x100) },
   { base := 0x2801000, len := 0x10, read := slotOf [s.weir.eccCorr, s.weir.eccUncorr] },
   { base := 0x2802000, len := 0x1000, read := fun d => weirSlot (s.weirB (d / 0x100)) (d % 0x100) },
   { base := 0x2A01000, len := 0x20, read := slotOf [s.weir.runs, s.weir.skipped, s.weir.rerun, s.weir.satCnt] },
   { base := 0x2C01000, len := 0x38, domain := fun _ => some 143, read := slotOf s.shtl.counters },
   { base := 0x3001000, len := 0x70, read := slotOf s.rdma.counters },
   { base := 0x3401000, len := 0x38, read := slotOf s.ledg.counters },
   { base := 0x3801000, len := 0x38, read := slotOf s.cist.counters },
   { base := 0x3A00000, len := 0x2000, domain := fun d => some (136 + d / 0x1000),
     read := fun d => if 0x800 ≤ d % 0x1000 then slotOf (Tab.look {} s.ddr (d / 0x1000)).counters (d % 0x1000 - 0x800) else none },
   { base := 0x3C00000, len := 0x1000, read := pmonSlot s.pmon },
   { base := 0x3C02000, len := 0x20, read := slotOf [s.guard.upCount, s.guard.downCount, s.guard.conflictUs, s.pmon.teleSkipped] },
   { base := 0x3E00000, len := 0x1800, domain := fun d => some (laneDomain (d / 0x40)), read := fun d => laneSlot s (d / 0x40) (d % 0x40) }]

/-- The span an offset lies in. -/
def spanAt (s : State) (off : Nat) : Option SlotSpan := (slotSpans s).find? (fun x => x.base ≤ off && off < x.base + x.len)

/-- The offset in PF0 BAR0 of what an offset of a berth window copies, among the counters (25_interface_index.md Table 25.2). -/
def copySource (s : State) (b off : Nat) : Option Nat :=
  if 0x80000 ≤ off && off < 0x90000 then
    let p := (off - 0x80000) / 0x400
    if (s.ownerAt p).whole == some b then some (0x800000 + 0x8000 * p + off % 0x400) else none
  else if 0x90000 ≤ off && off < 0x90080 then some (0x1002000 + 0x80 * b + (off - 0x90000))
  else if 0x90100 ≤ off && off < 0x90110 then some (0x1402000 + 0x10 * b + (off - 0x90100))
  else if 0x90200 ≤ off && off < 0x90220 then some (0x1802000 + 0x20 * b + (off - 0x90200))
  else if 0x90300 ≤ off && off < 0x90400 then some (0x2802000 + 0x100 * b + (off - 0x90300))
  else if 0x90600 ≤ off && off < 0x90700 then some (0x2020000 + 0x100 * b + (off - 0x90600))
  else if 0xA0000 ≤ off && off < 0xA5200 then
    if s.ownsQueue b ((off - 0xA0000) / 0x20) then some (0x2008000 + (off - 0xA0000)) else none
  else none

/-- The offset in PF0 BAR0 that a function's offset reads, among the counters; the auditor's window holds none (09_berths.md R208). -/
def counterSource (s : State) (fn off : Nat) : Option Nat :=
  match s.role fn with
  | .harbour => some off
  | .berth b => copySource s b off
  | _ => none

/-- An access aimed at an off domain is counted (21_power_reset.md R448). -/
def offAccess (s : State) : State := { s with pwr := { s.pwr with offAccess := bump s.pwr.offAccess } }

/-- Where a function's slot keeps its latched half. -/
def latchKey (fn off : Nat) : Nat := 0x100000000 * fn + off

/-- A 32-bit read of the low half of a slot: bits [31:0] are returned, bits [47:32] latched (R465). -/
def readLow (fn off : Nat) (c : BitVec 48) (s : State) : State :=
  emit (.readData fn off (c.toNat % 0x100000000))
    { s with latch := Tab.put none s.latch (latchKey fn off) (some (BitVec.ofNat 16 (c.toNat / 0x100000000))) }

/-- A 32-bit read of the high half of a slot: the latched value, once, else the bits as they are (R465, log entry 34). -/
def readHigh (fn off : Nat) (c : BitVec 48) (s : State) : State :=
  let k := latchKey fn (off - 4)
  emit (.readData fn off ((Tab.look none s.latch k).getD (BitVec.ofNat 16 (c.toNat / 0x100000000))).toNat)
    { s with latch := Tab.put none s.latch k none }

/-- COUNTER_LOW_HALF_READ: an offset that is the high half of a slot reads that half, and one that is no counter reads nothing. -/
def execCounterLowHalfRead (fn : Fin 17) (off : BitVec 32) (s : State) : Result :=
  if !s.mmioLive fn.val then .next s
  else
    let high := off.toNat % 8 == 4
    match counterSource s fn.val (if high then off.toNat - 4 else off.toNat) with
    | none => .next s
    | some src =>
      match spanAt s src with
      | none => .next s
      | some sp =>
        match sp.read (src - sp.base) with
        | none => .next s
        | some c =>
          if ((sp.domain (src - sp.base)).map s.domainOn).getD true then
            .next (if high then readHigh fn.val off.toNat c s else readLow fn.val off.toNat c s)
          else .next (offAccess (emit (.readData fn.val off.toNat 0) s))

/-! ### Writable registers -/

/-- Base of a function's mailbox block (18_pumphouse.md Table 18.3). -/
def mbxBase (fn : Nat) : Nat := if fn = 0 then 0x100000 else 0x10000

/-- Base of a function's MSI-X table (25_interface_index.md R511). -/
def msixBase (fn : Nat) : Nat := if fn = 0 then 0x3F00000 else 0xF0000

/-- Vectors of a function (R511). -/
def msixVectors (fn : Nat) : Nat := if fn = 0 then 2 else 9

/-- A vector that is unmasked sends the message it holds pending. -/
def unmasked (fn vec : Nat) (s : State) : State :=
  let m := Tab.look {} s.msix fn
  if !(Tab.look 0 m.table (4 * vec + 3)).getLsbD 0 && Tab.look false m.pba vec then
    emit (.msix fn vec) { s with msix := Tab.put {} s.msix fn { m with pba := Tab.put false m.pba vec false } }
  else s

/-- A word of a function's MSI-X table is written. -/
def writeMsix (fn i : Nat) (v : BitVec 32) (s : State) : State :=
  let m := Tab.look {} s.msix fn
  unmasked fn (i / 4) { s with msix := Tab.put {} s.msix fn { m with table := Tab.put 0 m.table i v } }

/-- A write to a function's mailbox block: the request area takes the word unless BUSY is set (18_pumphouse.md R397), OVERRUN is
cleared by a 1, the rest is read-only. -/
def writeMbx (fn d : Nat) (v : BitVec 32) (s : State) : State :=
  if d = 4 then
    if v.getLsbD 3 then s.setMbx fn { s.mbxAt fn with overrun := false } else s
  else if 0x1000 ≤ d && d < 0x2000 && !(s.mbxAt fn).busy then
    s.setMbx fn { s.mbxAt fn with reqArea := Tab.putAll 0 (s.mbxAt fn).reqArea (d - 0x1000) (leBytes 4 v.toNat) }
  else s

/-- The model's own offset for VF Enable in PF0's configuration space (log entry 34). -/
def vfEnableOff : Nat := 0xFFFFFFF8

/-- What a write of a word at an offset of a function's window does; everything else there is read-only or reserved (R12, R513, R514). -/
def writeReg (fn off : Nat) (v : BitVec 32) (s : State) : State :=
  if fn = 0 && off = vfEnableOff then { s with vfEnable := v.getLsbD 0 }
  else if fn = 0 && off = 0x1800004 then { s with fwd := { s.fwd with seed := v } }
  else if mbxBase fn ≤ off && off < mbxBase fn + 0x4000 then writeMbx fn (off - mbxBase fn) v s
  else if msixBase fn ≤ off && off < msixBase fn + 16 * msixVectors fn then writeMsix fn ((off - msixBase fn) / 4) v s
  else s

/-- The domain of the block that a PF0 offset aims at, if it has one. -/
def regDomain (off : Nat) : Option Nat :=
  if 0x800000 ≤ off && off < 0xA00000 then some ((off - 0x800000) / 0x8000)
  else if 0xC00000 ≤ off && off < 0xC40000 then some (64 + (off - 0xC00000) / 0x8000)
  else if 0x2C00000 ≤ off && off < 0x3000000 then some 143
  else if 0x3A00000 ≤ off && off < 0x3A02000 then some (136 + (off - 0x3A00000) / 0x1000)
  else if 0x3E00000 ≤ off && off < 0x3E01800 then some (laneDomain ((off - 0x3E00000) / 0x40))
  else none

/-- REGISTER_WRITE: a word that is not aligned is reserved (log entry 34); a write aimed at an off domain is discarded and counted. -/
def execRegisterWrite (fn : Fin 17) (off v : BitVec 32) (s : State) : Result :=
  if !s.mmioLive fn.val then .next s
  else if fn.val = 0 && !(((regDomain off.toNat).map s.domainOn).getD true) then .next (offAccess (mmio 0 s))
  else if off.toNat % 4 != 0 then .next (mmio fn.val s)
  else .next (writeReg fn.val off.toNat v (mmio fn.val s))

end Sys2Proof.Machine
end

