-- ==== Sys2Proof/Machine/Thermal.lean ====
section
/-! DEFINITION. The temperature sensors, their thresholds, and the thermal command (24_pins_electrical.md R505 to R510). -/

namespace Sys2Proof.Machine

/-- POWER_THERM_CONFIG: the threshold applies from the next reading. -/
def execPowerThermConfig (rq : Req) (s : State) : Result :=
  .next (serve (cmdH 0x1104 4) rq (fun s =>
    let w := rq.int 0 1
    if w < 60 || 125 < w then .err .badParam else .ok { s with therm := { s.therm with warnTj := w } } []) s)

/-- The sensors in use. -/
def Therm.used (t : Therm) : List Nat := (List.range 16).filter (fun i => t.inUse.getLsbD i)

/-- Twice the median of the readings of the sensors in use, offset by 512 C. -/
def Therm.median2 (t : Therm) (ts : List Int) : Nat :=
  let q := sortNat (t.used.map (fun i => (ts.getD i 0 + 2048).toNat))
  q.getD ((q.length - 1) / 2) 0 + q.getD (q.length / 2) 0

/-- A reading differs from the median by more than 15 C. -/
def Therm.deviates (t : Therm) (ts : List Int) (i : Nat) : Bool := 120 < (2 * (ts.getD i 0 + 2048) - (t.median2 ts : Int)).natAbs

/-- Consecutive deviating readings of a sensor, with this one. -/
def Therm.runOf (t : Therm) (ts : List Int) (i : Nat) : Nat := if t.deviates ts i then min 10 (Tab.look 0 t.devRun i + 1) else 0

/-- A sensor in use is set aside: it reads outside -70 C to 170 C, or has deviated 10 times (R510). -/
def Therm.bad (t : Therm) (ts : List Int) (i : Nat) : Bool :=
  t.inUse.getLsbD i && (ts.getD i 0 < -280 || 680 < ts.getD i 0 || 10 ≤ t.runOf ts i)

/-- The first sensor in use with the highest reading. -/
def hottestOf (ts : List Int) (used : List Nat) : Nat :=
  used.foldl (fun a i => if ts.getD a 0 < ts.getD i 0 then i else a) (used.headD 0)

/-- One reading: sensors are set aside, and Tj follows those in use. -/
def Therm.read (t : Therm) (ts : List Int) : Therm :=
  let aside := (List.range 16).filter (t.bad ts)
  let t1 := { t with
    inUse := aside.foldl maskOut t.inUse, ts := Tab.putAll 0 [] 0 ts, devRun := Tab.putAll 0 [] 0 ((List.range 16).map (t.runOf ts)) }
  let h := hottestOf ts t1.used
  { t1 with hottest := h, tj := if t1.used = [] then t.tj else ts.getD h 0, held := t.held || t1.used.length < 8 }

/-- THERM_WARN with CAUSE 3 for each sensor newly set aside (R510). -/
def warnAside (before : BitVec 16) (s : State) : State :=
  (List.range 16).foldl (fun s i => if before.getLsbD i && !s.therm.inUse.getLsbD i then raise 3 0 i 3 0 none s else s) s

/-- THERM_WARN at WARN_TJ and below -55 C, each raised once and cleared (Table 24.10). -/
def warnLimits (s : State) : State :=
  let t := s.therm
  let ev := fun (c : Nat) (g : Therm → Therm) (s : State) => raise 3 0 t.hottest c 0 none { s with therm := g s.therm }
  let s1 := if !t.warn && 4 * t.warnTj ≤ t.tj then ev 1 (fun t => { t with warn := true }) s
    else if t.warn && t.tj < 4 * (t.warnTj - 5) then ev 0 (fun t => { t with warn := false }) s
    else s
  if !t.cold && t.tj < -220 then ev 2 (fun t => { t with cold := true }) s1
  else if t.cold && -200 ≤ t.tj then ev 0 (fun t => { t with cold := false }) s1
  else s1

/-- THERM_N above 125 C and THERM_TRIP from 135 C, both until Tj is below 120 C; THERM_N is held with fewer than 8 sensors (Table 24.10,
R510). -/
def tripLimits (s : State) : State :=
  let t := s.therm
  let trips := !t.trip && 540 ≤ t.tj
  let t1 := { t with
    thermN := t.held || 500 < t.tj || (t.thermN && 480 ≤ t.tj), trip := trips || (t.trip && 480 ≤ t.tj) }
  if trips then raise 3 1 t.hottest 0 0 none { s with therm := t1 } else { s with therm := t1 }

/-- DRAM derates above 105 C, and returns to its trained speed below 100 C (17_dram.md R382). -/
def derateDram (s : State) : State :=
  [0, 1].foldl (fun s c => if 420 < s.therm.tj then askSpeed c true s else if s.therm.tj < 400 then askSpeed c false s else s) s

/-- SENSOR_READING: 16 readings in units of 0.25 C. -/
def execSensorReading (temps : List Int) (s : State) : Result :=
  .next (derateDram (tripLimits (warnLimits (warnAside s.therm.inUse { s with therm := s.therm.read temps }))))

end Sys2Proof.Machine
end

