-- ==== Sys2Proof/Machine/Dispatch.lean ====
section
/-! DEFINITION. Which meaning each command has. -/

namespace Sys2Proof.Machine

/-- Runs a command: its effect on everything but the queue of commands. -/
def exec (i : Instr) (s : State) : Host.Outcome State Fault Refusal :=
  match i with
  | .systemPing rq => Sys2Proof.Machine.execSystemPing rq s
  | .systemInfo rq => Sys2Proof.Machine.execSystemInfo rq s
  | .systemFwStage rq => Sys2Proof.Machine.execSystemFwStage rq s
  | .systemFwCommit rq flashOk => Sys2Proof.Machine.execSystemFwCommit rq flashOk s
  | .systemRestart rq => Sys2Proof.Machine.execSystemRestart rq s
  | .systemI2c rq env => Sys2Proof.Machine.execSystemI2c rq env s
  | .unsupportedOpcode rq code => Sys2Proof.Machine.execUnsupportedOpcode rq code s
  | .mbxOverrun fn => Sys2Proof.Machine.execMbxOverrun fn s
  | .mbxEvtConsWrite fn v => Sys2Proof.Machine.execMbxEvtConsWrite fn v s
  | .mbxEvtLostRead fn => Sys2Proof.Machine.execMbxEvtLostRead fn s
  | .tideNowNsRead fn => Sys2Proof.Machine.execTideNowNsRead fn s
  | .counterLowHalfRead fn off => Sys2Proof.Machine.execCounterLowHalfRead fn off s
  | .sumpStatusWrite hi mask => Sys2Proof.Machine.execSumpStatusWrite hi mask s
  | .pmonOvfWrite w mask => Sys2Proof.Machine.execPmonOvfWrite w mask s
  | .registerWrite fn off v => Sys2Proof.Machine.execRegisterWrite fn off v s
  | .berthCreate rq keyOk => Sys2Proof.Machine.execBerthCreate rq keyOk s
  | .berthDestroy rq => Sys2Proof.Machine.execBerthDestroy rq s
  | .destroyDrainTimeout b => Sys2Proof.Machine.execDestroyDrainTimeout b s
  | .berthAssignPort rq => Sys2Proof.Machine.execBerthAssignPort rq s
  | .berthGangway rq => Sys2Proof.Machine.execBerthGangway rq s
  | .berthGetKey rq => Sys2Proof.Machine.execBerthGetKey rq s
  | .berthStatus rq => Sys2Proof.Machine.execBerthStatus rq s
  | .berthSetAuditor rq => Sys2Proof.Machine.execBerthSetAuditor rq s
  | .berthReset rq => Sys2Proof.Machine.execBerthReset rq s
  | .functionLevelReset b => Sys2Proof.Machine.execFunctionLevelReset b s
  | .portQuadConfig rq => Sys2Proof.Machine.execPortQuadConfig rq s
  | .portEnable rq => Sys2Proof.Machine.execPortEnable rq s
  | .portSetFlow rq => Sys2Proof.Machine.execPortSetFlow rq s
  | .portRecal rq => Sys2Proof.Machine.execPortRecal rq s
  | .portGetStatus rq => Sys2Proof.Machine.execPortGetStatus rq s
  | .timeGetStatus rq => Sys2Proof.Machine.execTimeGetStatus rq s
  | .timeSetSource rq => Sys2Proof.Machine.execTimeSetSource rq s
  | .timeSetTai rq => Sys2Proof.Machine.execTimeSetTai rq s
  | .timeSetUtc rq => Sys2Proof.Machine.execTimeSetUtc rq s
  | .timeSetPortDelay rq => Sys2Proof.Machine.execTimeSetPortDelay rq s
  | .timePtpConfig rq => Sys2Proof.Machine.execTimePtpConfig rq s
  | .timeSetFailClosed rq => Sys2Proof.Machine.execTimeSetFailClosed rq s
  | .timeSetHoldover rq => Sys2Proof.Machine.execTimeSetHoldover rq s
  | .timeSetDissent rq => Sys2Proof.Machine.execTimeSetDissent rq s
  | .pumpStage rq => Sys2Proof.Machine.execPumpStage rq s
  | .pumpCommit rq => Sys2Proof.Machine.execPumpCommit rq s
  | .pumpSetProfile rq => Sys2Proof.Machine.execPumpSetProfile rq s
  | .pumpSetAction rq => Sys2Proof.Machine.execPumpSetAction rq s
  | .pumpFragConfig rq => Sys2Proof.Machine.execPumpFragConfig rq s
  | .pumpStatus rq => Sys2Proof.Machine.execPumpStatus rq s
  | .pumpEngineCtl rq checksOk => Sys2Proof.Machine.execPumpEngineCtl rq checksOk s
  | .pumpLockPatch rq => Sys2Proof.Machine.execPumpLockPatch rq s
  | .strainerPartition rq => Sys2Proof.Machine.execStrainerPartition rq s
  | .strainerPatternStage rq => Sys2Proof.Machine.execStrainerPatternStage rq s
  | .strainerPatternCommit rq => Sys2Proof.Machine.execStrainerPatternCommit rq s
  | .strainerBerthConfig rq => Sys2Proof.Machine.execStrainerBerthConfig rq s
  | .strainerRuleInsert rq => Sys2Proof.Machine.execStrainerRuleInsert rq s
  | .strainerRuleDelete rq => Sys2Proof.Machine.execStrainerRuleDelete rq s
  | .strainerRuleWrite rq => Sys2Proof.Machine.execStrainerRuleWrite rq s
  | .strainerLookupCmd rq => Sys2Proof.Machine.execStrainerLookupCmd rq s
  | .strainerMatchNext rq => Sys2Proof.Machine.execStrainerMatchNext rq s
  | .strainerStatus rq => Sys2Proof.Machine.execStrainerStatus rq s
  | .moveStep => Sys2Proof.Machine.execMoveStep s
  | .tablesPartition rq => Sys2Proof.Machine.execTablesPartition rq s
  | .tablesProtect rq => Sys2Proof.Machine.execTablesProtect rq s
  | .tablesBerthConfig rq => Sys2Proof.Machine.execTablesBerthConfig rq s
  | .tablesL2Write rq => Sys2Proof.Machine.execTablesL2Write rq s
  | .tablesRouteWrite rq => Sys2Proof.Machine.execTablesRouteWrite rq s
  | .tablesMcastWrite rq => Sys2Proof.Machine.execTablesMcastWrite rq s
  | .tablesEcmpWrite rq => Sys2Proof.Machine.execTablesEcmpWrite rq s
  | .tablesLookup rq => Sys2Proof.Machine.execTablesLookup rq s
  | .tablesStatus rq => Sys2Proof.Machine.execTablesStatus rq s
  | .queueingFerryWrite rq => Sys2Proof.Machine.execQueueingFerryWrite rq s
  | .queueingQuota rq => Sys2Proof.Machine.execQueueingQuota rq s
  | .queueingQueueConfig rq => Sys2Proof.Machine.execQueueingQueueConfig rq s
  | .queueingShaper rq => Sys2Proof.Machine.execQueueingShaper rq s
  | .queueingPauseThresh rq => Sys2Proof.Machine.execQueueingPauseThresh rq s
  | .queueingStatus rq => Sys2Proof.Machine.execQueueingStatus rq s
  | .queueingRingConfig rq => Sys2Proof.Machine.execQueueingRingConfig rq s
  | .queueingRingStatus rq => Sys2Proof.Machine.execQueueingRingStatus rq s
  | .riskPartition rq => Sys2Proof.Machine.execRiskPartition rq s
  | .riskBerthConfig rq => Sys2Proof.Machine.execRiskBerthConfig rq s
  | .riskAccountWrite rq => Sys2Proof.Machine.execRiskAccountWrite rq s
  | .riskInstrumentWrite rq => Sys2Proof.Machine.execRiskInstrumentWrite rq s
  | .riskPositionWrite rq => Sys2Proof.Machine.execRiskPositionWrite rq s
  | .riskRelease rq => Sys2Proof.Machine.execRiskRelease rq s
  | .riskFirmWrite rq => Sys2Proof.Machine.execRiskFirmWrite rq s
  | .riskScenarioStage rq => Sys2Proof.Machine.execRiskScenarioStage rq s
  | .riskWindlassRun rq => Sys2Proof.Machine.execRiskWindlassRun rq s
  | .riskStatus rq => Sys2Proof.Machine.execRiskStatus rq s
  | .fabricLinkConfig rq => Sys2Proof.Machine.execFabricLinkConfig rq s
  | .fabricLinkCtl rq => Sys2Proof.Machine.execFabricLinkCtl rq s
  | .fabricLinkStatus rq => Sys2Proof.Machine.execFabricLinkStatus rq s
  | .fabricConfig rq => Sys2Proof.Machine.execFabricConfig rq s
  | .fabricStatus rq => Sys2Proof.Machine.execFabricStatus rq s
  | .fabricRouteQuery rq => Sys2Proof.Machine.execFabricRouteQuery rq s
  | .fabricRediscover rq => Sys2Proof.Machine.execFabricRediscover rq s
  | .collectiveGroupCreate rq => Sys2Proof.Machine.execCollectiveGroupCreate rq s
  | .collectiveGroupDestroy rq => Sys2Proof.Machine.execCollectiveGroupDestroy rq s
  | .collectiveStart rq data => Sys2Proof.Machine.execCollectiveStart rq data s
  | .collectiveAbort rq => Sys2Proof.Machine.execCollectiveAbort rq s
  | .collectiveStatus rq => Sys2Proof.Machine.execCollectiveStatus rq s
  | .rdmaQuota rq => Sys2Proof.Machine.execRdmaQuota rq s
  | .rdmaMrReg rq => Sys2Proof.Machine.execRdmaMrReg rq s
  | .rdmaMrDereg rq => Sys2Proof.Machine.execRdmaMrDereg rq s
  | .rdmaCqCreate rq => Sys2Proof.Machine.execRdmaCqCreate rq s
  | .rdmaCqDestroy rq => Sys2Proof.Machine.execRdmaCqDestroy rq s
  | .rdmaQpCreate rq => Sys2Proof.Machine.execRdmaQpCreate rq s
  | .rdmaQpModify rq => Sys2Proof.Machine.execRdmaQpModify rq s
  | .rdmaQpQuery rq => Sys2Proof.Machine.execRdmaQpQuery rq s
  | .rdmaQpDestroy rq => Sys2Proof.Machine.execRdmaQpDestroy rq s
  | .rdmaStatus rq => Sys2Proof.Machine.execRdmaStatus rq s
  | .ledgerConfig rq => Sys2Proof.Machine.execLedgerConfig rq s
  | .ledgerStaging rq => Sys2Proof.Machine.execLedgerStaging rq s
  | .ledgerSealNow rq => Sys2Proof.Machine.execLedgerSealNow rq s
  | .ledgerStatus rq => Sys2Proof.Machine.execLedgerStatus rq s
  | .ledgerDeviceCert rq => Sys2Proof.Machine.execLedgerDeviceCert rq s
  | .cisternStatus rq => Sys2Proof.Machine.execCisternStatus rq s
  | .cisternConfig rq => Sys2Proof.Machine.execCisternConfig rq s
  | .cisternSwap rq => Sys2Proof.Machine.execCisternSwap rq s
  | .cisternRelease rq => Sys2Proof.Machine.execCisternRelease rq s
  | .cisternIdentity rq => Sys2Proof.Machine.execCisternIdentity rq s
  | .cisternRetireChallenge rq hwFault => Sys2Proof.Machine.execCisternRetireChallenge rq hwFault s
  | .cisternRetire rq hwFault => Sys2Proof.Machine.execCisternRetire rq hwFault s
  | .cisternRead rq hwFault => Sys2Proof.Machine.execCisternRead rq hwFault s
  | .dramConfig rq => Sys2Proof.Machine.execDramConfig rq s
  | .dramStatus rq => Sys2Proof.Machine.execDramStatus rq s
  | .dramCapture rq => Sys2Proof.Machine.execDramCapture rq s
  | .dramRecover rq => Sys2Proof.Machine.execDramRecover rq s
  | .dramRead rq err => Sys2Proof.Machine.execDramRead rq err s
  | .sumpSetReaction rq => Sys2Proof.Machine.execSumpSetReaction rq s
  | .sumpClear rq => Sys2Proof.Machine.execSumpClear rq s
  | .sumpSafeEnter rq => Sys2Proof.Machine.execSumpSafeEnter rq s
  | .sumpSafeRelease rq => Sys2Proof.Machine.execSumpSafeRelease rq s
  | .sumpInject rq => Sys2Proof.Machine.execSumpInject rq s
  | .sumpStatus rq => Sys2Proof.Machine.execSumpStatus rq s
  | .sumpConfig rq => Sys2Proof.Machine.execSumpConfig rq s
  | .powerDomain rq => Sys2Proof.Machine.execPowerDomain rq s
  | .domainSwitchDone d bistOk failMem => Sys2Proof.Machine.execDomainSwitchDone d bistOk failMem s
  | .bankGroupOffTimeout g => Sys2Proof.Machine.execBankGroupOffTimeout g s
  | .powerStatus rq => Sys2Proof.Machine.execPowerStatus rq s
  | .powerChipReset rq => Sys2Proof.Machine.execPowerChipReset rq s
  | .powerThermConfig rq => Sys2Proof.Machine.execPowerThermConfig rq s
  | .powerGuardConfig rq => Sys2Proof.Machine.execPowerGuardConfig rq s
  | .powerGuardStatus rq => Sys2Proof.Machine.execPowerGuardStatus rq s
  | .powerSetCap rq => Sys2Proof.Machine.execPowerSetCap rq s
  | .countersConfig rq => Sys2Proof.Machine.execCountersConfig rq s
  | .countersSnapshot rq => Sys2Proof.Machine.execCountersSnapshot rq s
  | .countersTeleConfig rq => Sys2Proof.Machine.execCountersTeleConfig rq s
  | .countersTeleRead rq => Sys2Proof.Machine.execCountersTeleRead rq s
  | .traceConfig rq => Sys2Proof.Machine.execTraceConfig rq s
  | .traceRead rq => Sys2Proof.Machine.execTraceRead rq s
  | .testPgc rq => Sys2Proof.Machine.execTestPgc rq s
  | .testPgcStatus rq errors => Sys2Proof.Machine.execTestPgcStatus rq errors s
  | .testMargin rq => Sys2Proof.Machine.execTestMargin rq s
  | .marginDwellEnd lane bits errors => Sys2Proof.Machine.execMarginDwellEnd lane bits errors s
  | .testMbist rq => Sys2Proof.Machine.execTestMbist rq s
  | .tapReset => Sys2Proof.Machine.execTapReset s
  | .tapInstructionLoad ir => Sys2Proof.Machine.execTapInstructionLoad ir s
  | .frameStart p bytes phase => Sys2Proof.Machine.execFrameStart p bytes phase s
  | .holdingBufferDispatch => Sys2Proof.Machine.execHoldingBufferDispatch s
  | .cellAllocate f => Sys2Proof.Machine.execCellAllocate f s
  | .launchLookup f err => Sys2Proof.Machine.execLaunchLookup f err s
  | .confirmCompare f => Sys2Proof.Machine.execConfirmCompare f s
  | .oversizeCut f => Sys2Proof.Machine.execOversizeCut f s
  | .ingressFrameEnd f fecCorr fecUncorr => Sys2Proof.Machine.execIngressFrameEnd f fecCorr fecUncorr s
  | .parseCommit f => Sys2Proof.Machine.execParseCommit f s
  | .fragAgeExpiry k => Sys2Proof.Machine.execFragAgeExpiry k s
  | .strainerLookup f => Sys2Proof.Machine.execStrainerLookup f s
  | .handleAgeExpiry b slot => Sys2Proof.Machine.execHandleAgeExpiry b slot s
  | .weirVerdict f => Sys2Proof.Machine.execWeirVerdict f s
  | .forwardingResult f => Sys2Proof.Machine.execForwardingResult f s
  | .stompDecision f => Sys2Proof.Machine.execStompDecision f s
  | .enqueue f => Sys2Proof.Machine.execEnqueue f s
  | .egressSelect p phase => Sys2Proof.Machine.execEgressSelect p phase s
  | .matcherRound => Sys2Proof.Machine.execMatcherRound s
  | .egressFrameEnd p err => Sys2Proof.Machine.execEgressFrameEnd p err s
  | .bankGroupFail g cause => Sys2Proof.Machine.execBankGroupFail g cause s
  | .settleLimitDrop f => Sys2Proof.Machine.execSettleLimitDrop f s
  | .orderRecord f => Sys2Proof.Machine.execOrderRecord f s
  | .holdTimeout f => Sys2Proof.Machine.execHoldTimeout f s
  | .pumpFail e kind => Sys2Proof.Machine.execPumpFail e kind s
  | .goldenSelfCheck crcOk => Sys2Proof.Machine.execGoldenSelfCheck crcOk s
  | .patchEngineLoad checksOk => Sys2Proof.Machine.execPatchEngineLoad checksOk s
  | .pumpPatchStall => Sys2Proof.Machine.execPumpPatchStall s
  | .tableBackgroundAccess t m err same => Sys2Proof.Machine.execTableBackgroundAccess t m err same s
  | .ruleFlushing unit automaton err => Sys2Proof.Machine.execRuleFlushing unit automaton err s
  | .directoryFlushing dir way err => Sys2Proof.Machine.execDirectoryFlushing dir way err s
  | .l2AgeSweep b => Sys2Proof.Machine.execL2AgeSweep b s
  | .strnUnitFail u => Sys2Proof.Machine.execStrnUnitFail u s
  | .windlassPeriod b => Sys2Proof.Machine.execWindlassPeriod b s
  | .outputTileDone ix t residueOk => Sys2Proof.Machine.execOutputTileDone ix t residueOk s
  | .exposureInstall => Sys2Proof.Machine.execExposureInstall s
  | .windTileFail t => Sys2Proof.Machine.execWindTileFail t s
  | .interpHandover diffPs => Sys2Proof.Machine.execInterpHandover diffPs s
  | .ppsInEdge phase => Sys2Proof.Machine.execPpsInEdge phase s
  | .ppsLoss => Sys2Proof.Machine.execPpsLoss s
  | .ptpMessage p bytes phase => Sys2Proof.Machine.execPtpMessage p bytes phase s
  | .ptpReceiptTimeout ix => Sys2Proof.Machine.execPtpReceiptTimeout ix s
  | .refInLoss => Sys2Proof.Machine.execRefInLoss s
  | .holdoverLimit => Sys2Proof.Machine.execHoldoverLimit s
  | .utcDayEnd => Sys2Proof.Machine.execUtcDayEnd s
  | .ppsOut => Sys2Proof.Machine.execPpsOut s
  | .witnessRound k phase => Sys2Proof.Machine.execWitnessRound k phase s
  | .wReq k bytes phase => Sys2Proof.Machine.execWReq k bytes phase s
  | .wResp k bytes phase => Sys2Proof.Machine.execWResp k bytes phase s
  | .witnessMissed k => Sys2Proof.Machine.execWitnessMissed k s
  | .sentinelRead preds => Sys2Proof.Machine.execSentinelRead preds s
  | .latBoundReturn => Sys2Proof.Machine.execLatBoundReturn s
  | .powerReading watts => Sys2Proof.Machine.execPowerReading watts s
  | .guardPmbus acked => Sys2Proof.Machine.execGuardPmbus acked s
  | .synthDrainDone q => Sys2Proof.Machine.execSynthDrainDone q s
  | .synthLock q => Sys2Proof.Machine.execSynthLock q s
  | .settleResume p => Sys2Proof.Machine.execSettleResume p s
  | .synthLockTimeout q => Sys2Proof.Machine.execSynthLockTimeout q s
  | .rpRecalDue q => Sys2Proof.Machine.execRpRecalDue q s
  | .rpLinkDown p cause => Sys2Proof.Machine.execRpLinkDown p cause s
  | .linkUpDebounce p => Sys2Proof.Machine.execLinkUpDebounce p s
  | .anRestart p => Sys2Proof.Machine.execAnRestart p s
  | .pauseReceive p bytes => Sys2Proof.Machine.execPauseReceive p bytes s
  | .pauseExpire p cls => Sys2Proof.Machine.execPauseExpire p cls s
  | .pauseRefresh p => Sys2Proof.Machine.execPauseRefresh p s
  | .lpiReceive p => Sys2Proof.Machine.execLpiReceive p s
  | .flitReceive k bytes bad => Sys2Proof.Machine.execFlitReceive k bytes bad s
  | .ctrlFlit k bytes => Sys2Proof.Machine.execCtrlFlit k bytes s
  | .flitSend k phase => Sys2Proof.Machine.execFlitSend k phase s
  | .ctrlFlitDue k => Sys2Proof.Machine.execCtrlFlitDue k s
  | .retryResend k => Sys2Proof.Machine.execRetryResend k s
  | .replayTimeout k => Sys2Proof.Machine.execReplayTimeout k s
  | .tsReceive k lane bytes => Sys2Proof.Machine.execTsReceive k lane bytes s
  | .quiesceReceive k => Sys2Proof.Machine.execQuiesceReceive k s
  | .quiesceGraceEnd k => Sys2Proof.Machine.execQuiesceGraceEnd k s
  | .xlRecalDue k => Sys2Proof.Machine.execXlRecalDue k s
  | .xlSynthLock k => Sys2Proof.Machine.execXlSynthLock k s
  | .laneFail k lane => Sys2Proof.Machine.execLaneFail k lane s
  | .degradeReceive k pair => Sys2Proof.Machine.execDegradeReceive k pair s
  | .xlLinkDown k => Sys2Proof.Machine.execXlLinkDown k s
  | .fastTrainingTimeout k => Sys2Proof.Machine.execFastTrainingTimeout k s
  | .hailSend => Sys2Proof.Machine.execHailSend s
  | .hail k bytes => Sys2Proof.Machine.execHail k bytes s
  | .rootElect => Sys2Proof.Machine.execRootElect s
  | .adj k bytes => Sys2Proof.Machine.execAdj k bytes s
  | .assign k bytes => Sys2Proof.Machine.execAssign k bytes s
  | .lsa k bytes => Sys2Proof.Machine.execLsa k bytes s
  | .installedSend => Sys2Proof.Machine.execInstalledSend s
  | .installed k bytes => Sys2Proof.Machine.execInstalled k bytes s
  | .convergeLimit => Sys2Proof.Machine.execConvergeLimit s
  | .resume k bytes => Sys2Proof.Machine.execResume k bytes s
  | .fabricMessage k vc half => Sys2Proof.Machine.execFabricMessage k vc half s
  | .fabGap src vc => Sys2Proof.Machine.execFabGap src vc s
  | .colMessage k bytes => Sys2Proof.Machine.execColMessage k bytes s
  | .earlyArrivalStale ix => Sys2Proof.Machine.execEarlyArrivalStale ix s
  | .collectiveTimeout slot => Sys2Proof.Machine.execCollectiveTimeout slot s
  | .workRequestFetched q recv wqes data => Sys2Proof.Machine.execWorkRequestFetched q recv wqes data s
  | .rdmaPacket via bytes data => Sys2Proof.Machine.execRdmaPacket via bytes data s
  | .rdmaRetransmitTimeout q => Sys2Proof.Machine.execRdmaRetransmitTimeout q s
  | .ackCoalesceTimeout q => Sys2Proof.Machine.execAckCoalesceTimeout q s
  | .rnrTimer q => Sys2Proof.Machine.execRnrTimer q s
  | .rdmaEngineFail e => Sys2Proof.Machine.execRdmaEngineFail e s
  | .rdmaSqDb b v => Sys2Proof.Machine.execRdmaSqDb b v s
  | .rdmaRqDb b v => Sys2Proof.Machine.execRdmaRqDb b v s
  | .rdmaCqDb b v => Sys2Proof.Machine.execRdmaCqDb b v s
  | .rxDoorbell b r v => Sys2Proof.Machine.execRxDoorbell b r v s
  | .txDoorbell b r v => Sys2Proof.Machine.execTxDoorbell b r v s
  | .txDescFetched b r desc data => Sys2Proof.Machine.execTxDescFetched b r desc data s
  | .hostDelivery bufs => Sys2Proof.Machine.execHostDelivery bufs s
  | .rxWaitExpiry b r => Sys2Proof.Machine.execRxWaitExpiry b r s
  | .itrTimer tx b r => Sys2Proof.Machine.execItrTimer tx b r s
  | .sealDue b => Sys2Proof.Machine.execSealDue b s
  | .pageHashDone b => Sys2Proof.Machine.execPageHashDone b s
  | .sealSigned b selfOk => Sys2Proof.Machine.execSealSigned b selfOk s
  | .pageWrite => Sys2Proof.Machine.execPageWrite s
  | .zoneAppendComplete n ix ok => Sys2Proof.Machine.execZoneAppendComplete n ix ok s
  | .stagingReadback err => Sys2Proof.Machine.execStagingReadback err s
  | .ledgEngineFail e => Sys2Proof.Machine.execLedgEngineFail e s
  | .bayInsert n => Sys2Proof.Machine.execBayInsert n s
  | .probeComplete n res => Sys2Proof.Machine.execProbeComplete n res s
  | .probeLinkTimeout n => Sys2Proof.Machine.execProbeLinkTimeout n s
  | .bayRemove n => Sys2Proof.Machine.execBayRemove n s
  | .latchOpen n => Sys2Proof.Machine.execLatchOpen n s
  | .latchClose n => Sys2Proof.Machine.execLatchClose n s
  | .switchReissue n => Sys2Proof.Machine.execSwitchReissue n s
  | .lifeRead n ident => Sys2Proof.Machine.execLifeRead n ident s
  | .asyncEvent n mediaError ident => Sys2Proof.Machine.execAsyncEvent n mediaError ident s
  | .hkPeriod => Sys2Proof.Machine.execHkPeriod s
  | .adminTimeout n => Sys2Proof.Machine.execAdminTimeout n s
  | .appendStall n => Sys2Proof.Machine.execAppendStall n s
  | .retireNonceExpiry n => Sys2Proof.Machine.execRetireNonceExpiry n s
  | .bayLinkLoss n => Sys2Proof.Machine.execBayLinkLoss n s
  | .dramRequest c client write addr data err => Sys2Proof.Machine.execDramRequest c client write addr data err s
  | .srIdleExpiry c => Sys2Proof.Machine.execSrIdleExpiry c s
  | .srEntryDone c => Sys2Proof.Machine.execSrEntryDone c s
  | .refresh c => Sys2Proof.Machine.execRefresh c s
  | .mr4Read c hottest aboveRated corrected => Sys2Proof.Machine.execMr4Read c hottest aboveRated corrected s
  | .patrolScrub c err => Sys2Proof.Machine.execPatrolScrub c err s
  | .driftUpdate c => Sys2Proof.Machine.execDriftUpdate c s
  | .speedChangeDone c => Sys2Proof.Machine.execSpeedChangeDone c s
  | .autoRecoverExpiry c => Sys2Proof.Machine.execAutoRecoverExpiry c s
  | .recoveryDone c trainedOk => Sys2Proof.Machine.execRecoveryDone c trainedOk s
  | .boot => Sys2Proof.Machine.execBoot s
  | .startupComplete train => Sys2Proof.Machine.execStartupComplete train s
  | .slotFallback => Sys2Proof.Machine.execSlotFallback s
  | .heartbeat run => Sys2Proof.Machine.execHeartbeat run s
  | .watchdog => Sys2Proof.Machine.execWatchdog s
  | .phTrap cause pc => Sys2Proof.Machine.execPhTrap cause pc s
  | .pumphouseIdle pc => Sys2Proof.Machine.execPumphouseIdle pc s
  | .pumphouseWake pc => Sys2Proof.Machine.execPumphouseWake pc s
  | .arbitrationLost bus => Sys2Proof.Machine.execArbitrationLost bus s
  | .arbitrationBackoffEnd bus readBack env => Sys2Proof.Machine.execArbitrationBackoffEnd bus readBack env s
  | .i2cBusStuck bus => Sys2Proof.Machine.execI2cBusStuck bus s
  | .i2cNakRetry bus env => Sys2Proof.Machine.execI2cNakRetry bus env s
  | .sumpLatch => Sys2Proof.Machine.execSumpLatch s
  | .historyWrite => Sys2Proof.Machine.execHistoryWrite s
  | .blockReset => Sys2Proof.Machine.execBlockReset s
  | .chipRstDelayExpiry => Sys2Proof.Machine.execChipRstDelayExpiry s
  | .killNAssert => Sys2Proof.Machine.execKillNAssert s
  | .killNRelease => Sys2Proof.Machine.execKillNRelease s
  | .pwrfailNAssert => Sys2Proof.Machine.execPwrfailNAssert s
  | .appendingStop => Sys2Proof.Machine.execAppendingStop s
  | .lastGaspEnd => Sys2Proof.Machine.execLastGaspEnd s
  | .pwrfailNRelease => Sys2Proof.Machine.execPwrfailNRelease s
  | .porstN => Sys2Proof.Machine.execPorstN s
  | .chipReset => Sys2Proof.Machine.execChipReset s
  | .perstN => Sys2Proof.Machine.execPerstN s
  | .supplyFault rail high => Sys2Proof.Machine.execSupplyFault rail high s
  | .sensorReading temps => Sys2Proof.Machine.execSensorReading temps s
  | .telemetryCapture => Sys2Proof.Machine.execTelemetryCapture s
  | .traceLostPacket => Sys2Proof.Machine.execTraceLostPacket s
  | .rpBlockLock p ev => Sys2Proof.Machine.execRpBlockLock p ev s
  | .anComplete p fec => Sys2Proof.Machine.execAnComplete p fec s
  | .xlLaneLock k lane => Sys2Proof.Machine.execXlLaneLock k lane s
  | .xlSynthTimeout k => Sys2Proof.Machine.execXlSynthTimeout k s
  | .srExitDone c => Sys2Proof.Machine.execSrExitDone c s
  | .pcieLinkDown fatal => Sys2Proof.Machine.execPcieLinkDown fatal s
  | .destroySealTimeout b => Sys2Proof.Machine.execDestroySealTimeout b s
  | .pgcLock lane lost errors => Sys2Proof.Machine.execPgcLock lane lost errors s
  | .ptpSyncInterval ix announce phase => Sys2Proof.Machine.execPtpSyncInterval ix announce phase s
  | .refInReturn => Sys2Proof.Machine.execRefInReturn s

end Sys2Proof.Machine
end

