-- ==== Sys2Proof/Machine/Tick.lean ====
section
/-! DEFINITION. What one cycle of the tide-gauge clock does when no command waits (log entry 3). -/

namespace Sys2Proof.Machine

/-- 50 ppm of the 0.8 ns step, in fs (02_tide_gauge.md R55). -/
def slewStepFs : Int := 40

/-- One cycle: the counter advances by 0.8 ns, slewed by at most 50 ppm towards the offset still to be removed and trimmed by the
servo (02_tide_gauge.md R45, R55); a waiting trace packet is written (22_counters_trace.md R471); CYCLES counts (22_counters_trace.md Table 22.1). -/
def tick (s : State) : State :=
  let d := clampInt (-slewStepFs) slewStepFs s.tide.slewFs
  let trim := clampInt (-slewStepFs) slewStepFs (Config.trimFs s.tide.nowFs)
  let s1 := { s with tide := { s.tide with nowFs := s.tide.nowFs + (800000 + d + trim).toNat, slewFs := s.tide.slewFs - d } }
  count 0x0001 {} 1 (onTrace Trace.drain s1)

end Sys2Proof.Machine
end

