-- ==== Sys2Proof/Safety.lean ====
section
/-! DEFINITION. What counts as a safe step, and the words in which statements speak of a step: what it leaves alone, what a mailbox request
needs to run, and how it is answered. -/

namespace Sys2Proof.Machine

/-- A step is safe when it ends in a next state. -/
def SafeStep (s : State) : Prop := ∃ t, step s = .next t

/-- The outputs are quiet for orders: the safe state holds (20_sump.md R438). -/
def OrderEgressQuiet (s : State) : Prop := s.sump.safe = true

/-- The parts of the state, by the names of its fields. -/
inductive Part where
  | glb
  | tide
  | guard
  | port
  | quad
  | frames
  | nextFrame
  | pump
  | strn
  | fwd
  | rsv
  | weir
  | xl
  | fab
  | shtl
  | rdma
  | ledg
  | cist
  | ddr
  | ph
  | mbx
  | msix
  | fuse
  | host
  | sump
  | pwr
  | pmon
  | trace
  | lane
  | tap
  | therm
  | latch
  | pcieDown
  | vfEnable
  | out
  | free
  | pending
  deriving DecidableEq, Repr

/-- A part is the same in two states. -/
def Part.Same : Part → State → State → Prop
  | .glb, s, t => t.glb = s.glb
  | .tide, s, t => t.tide = s.tide
  | .guard, s, t => t.guard = s.guard
  | .port, s, t => t.port = s.port
  | .quad, s, t => t.quad = s.quad
  | .frames, s, t => t.frames = s.frames
  | .nextFrame, s, t => t.nextFrame = s.nextFrame
  | .pump, s, t => t.pump = s.pump
  | .strn, s, t => t.strn = s.strn
  | .fwd, s, t => t.fwd = s.fwd
  | .rsv, s, t => t.rsv = s.rsv
  | .weir, s, t => t.weir = s.weir
  | .xl, s, t => t.xl = s.xl
  | .fab, s, t => t.fab = s.fab
  | .shtl, s, t => t.shtl = s.shtl
  | .rdma, s, t => t.rdma = s.rdma
  | .ledg, s, t => t.ledg = s.ledg
  | .cist, s, t => t.cist = s.cist
  | .ddr, s, t => t.ddr = s.ddr
  | .ph, s, t => t.ph = s.ph
  | .mbx, s, t => t.mbx = s.mbx
  | .msix, s, t => t.msix = s.msix
  | .fuse, s, t => t.fuse = s.fuse
  | .host, s, t => t.host = s.host
  | .sump, s, t => t.sump = s.sump
  | .pwr, s, t => t.pwr = s.pwr
  | .pmon, s, t => t.pmon = s.pmon
  | .trace, s, t => t.trace = s.trace
  | .lane, s, t => t.lane = s.lane
  | .tap, s, t => t.tap = s.tap
  | .therm, s, t => t.therm = s.therm
  | .latch, s, t => t.latch = s.latch
  | .pcieDown, s, t => t.pcieDown = s.pcieDown
  | .vfEnable, s, t => t.vfEnable = s.vfEnable
  | .out, s, t => t.out = s.out
  | .free, s, t => t.free = s.free
  | .pending, s, t => t.pending = s.pending

/-- Between two states nothing has changed but the parts listed. -/
def ChangesOnly (ps : List Part) (s t : State) : Prop := ∀ p, p ∉ ps → p.Same s t

/-- A mailbox request runs: its doorbell is taken, its mailbox is idle, it is no ping, and the checks of 18_pumphouse.md R398 on its role and
its length pass. -/
def Served (c : CmdSpec) (rq : Req) (s : State) : Bool :=
  s.takesDoorbell rq.fn.val && !(s.mbxAt rq.fn.val).busy && !c.isPing rq && (c.reject rq (accept rq c.code s)).isNone

/-- The response of OK with a payload, on a state that holds the command's effect (18_pumphouse.md R397). -/
def answer (rq : Req) (payload : List Byte) (s : State) : State := respond rq.fn.val .ok 0 payload s

/-- A mailbox command completes: in every state in which its request runs, and in which with the request held the premise holds, it answers
a next state, which is the effect on the state with the request held, answered OK with the payload. -/
def Completes (i : Instr) (c : CmdSpec) (rq : Req) (premise : State → Prop) (payload : State → List Byte) (effect : State → State) : Prop :=
  ∀ s, Served c rq s = true → premise (accept rq c.code s) →
    exec i s = .next (answer rq (payload (accept rq c.code s)) (effect (accept rq c.code s)))

/-- A mailbox command is left waiting: in every state in which its request runs, and in which with the request held the premise holds, it
answers a next state, which is the effect on the state with the request held; the answer comes later. -/
def Waits (i : Instr) (c : CmdSpec) (rq : Req) (premise : State → Prop) (effect : State → State) : Prop :=
  ∀ s, Served c rq s = true → premise (accept rq c.code s) → exec i s = .next (effect (accept rq c.code s))

/-- A mailbox command is turned away: in every state in which its request runs, and in which with the request held the premise holds, the
request is answered with a status and nothing else changes. -/
def TurnsAway (i : Instr) (c : CmdSpec) (rq : Req) (premise : State → Prop) (st : Status) : Prop :=
  ∀ s, Served c rq s = true → premise (accept rq c.code s) → exec i s = .next (respond rq.fn.val st 0 [] (accept rq c.code s))

/-! ### Invariants -/

/-- A bay is in a state of Table 16.1; an empty one alone has no cartridge; only an ACTIVE bay hands over, to a state that is not ACTIVE, and has
appends outstanding (16_cistern.md R356, R364). -/
def Bay.sound (x : Bay) : Bool :=
  x.st ≤ 8 && (x.prsnt || x.st == 0) && (x.st == 4 || (x.draining.isNone && x.out.isEmpty))
  && (match x.draining with
      | some d => d ≤ 8 && d != 4
      | none => true)

/-- Both bays are sound, and at most one is ACTIVE (16_cistern.md R356). -/
def BaysSound (s : State) : Prop :=
  (s.bayAt 0).sound = true ∧ (s.bayAt 1).sound = true ∧ ¬ ((s.bayAt 0).st = 4 ∧ (s.bayAt 1).st = 4)

/-- A guard configuration within the ranges of Table 03.6: a target of 2.9 to 10 ns, a hysteresis of at
least 0.10 ns (R79), and a ceiling and a fixed voltage from VCORE_FLOOR (0.74 V, VCODE 8) to 0.90 V (VCODE 40). -/
structure CfgSound (c : GuardCfg) : Prop where
  target : 290 ≤ c.target.toNat ∧ c.target.toNat ≤ 1000
  hyst : 10 ≤ c.hyst.toNat ∧ c.hyst.toNat ≤ 100
  ceil : 8 ≤ c.ceil.toNat ∧ c.ceil.toNat ≤ 40
  fixed : 8 ≤ c.fixed.toNat ∧ c.fixed.toNat ≤ 40

/-- What the rules of 03_self_timed_core.md keep true of the guard: its configuration in force and the one that waits are within their
ranges; VCAP is never below VCORE_FLOOR (R83); VDD_CORE is never above 0.90 V, and once the guard runs never below VCORE_FLOOR (R75, R78),
unless its regulator's mode is one the Orkai never writes to (R404); and with the guard enabled LAT_BOUND is never below FERRY_LAT_TARGET
(R80). -/
structure Guard.Sound (g : Guard) : Prop where
  cfg : CfgSound { target := g.target, hyst := g.hyst, ceil := g.ceil, fixed := g.fixed }
  pend : ∀ c, g.pendCfg = some c → CfgSound c
  cap : ∀ v, g.vcap = some v → 8 ≤ v ∧ v ≤ 40
  high : g.vcode.toNat ≤ 40
  floor : g.running = true → g.voutBad = false → 8 ≤ g.vcode.toNat
  runs : g.enabled = true → g.running = true
  bound : g.enabled = true → g.target.toNat ≤ g.latBound.toNat

/-- A channel's content is in the one canonical form of a table of bytes that read as zero where none is listed, and its poison list has at most
16 entries (17_dram.md R389, Table 17.5). -/
def Ddr.Sound (d : Ddr) : Prop := Tab.wf 0 d.mem = true ∧ d.poison.length ≤ 16

/-- Every channel is. -/
def DramSound (s : State) : Prop := ∀ c, (s.ddrAt c).Sound

/-- The parts that the mailbox protocol itself changes: the mailboxes, the counters, the messages, and what is put out. -/
def protocolParts : List Part := [.mbx, .pmon, .msix, .out]

/-- The mailbox command a constructor is: its code, roles and lengths (25_interface_index.md Table 25.4), and its request. The other commands are
events, or accesses to a register. -/
def commandOf : Instr → Option (CmdSpec × Req)
  | .systemPing rq => some (cmdHBA 0x0101 0, rq)
  | .systemInfo rq => some (cmdHBA 0x0102 0, rq)
  | .systemFwStage rq => some (cmdHCount 0x0103 8 4, rq)
  | .systemFwCommit rq _ => some (cmdH 0x0104 4, rq)
  | .systemRestart rq => some (cmdH 0x0105 4, rq)
  | .systemI2c rq _ => some (cmdH 0x0106 40, rq)
  | .berthCreate rq _ => some (cmdH 0x0201 16, rq)
  | .berthDestroy rq => some (cmdH 0x0202 4, rq)
  | .berthAssignPort rq => some (cmdH 0x0203 8, rq)
  | .berthGangway rq => some (cmdH 0x0204 8, rq)
  | .berthGetKey rq => some (cmdHBA 0x0205 4, rq)
  | .berthStatus rq => some (cmdOwn 0x0206 4 0, rq)
  | .berthSetAuditor rq => some (cmdH 0x0207 4, rq)
  | .berthReset rq => some (cmdOwn 0x0208 4 0, rq)
  | .portQuadConfig rq => some (cmdH 0x0301 16, rq)
  | .portEnable rq => some (cmdH 0x0302 8, rq)
  | .portSetFlow rq => some (cmdH 0x0303 8, rq)
  | .portRecal rq => some (cmdH 0x0304 4, rq)
  | .portGetStatus rq => some ({ cmdHB 0x0305 4 with own := fun s b rq => 63 < rq.u8 0 || (s.ownerAt (rq.u8 0)).whole == some b }, rq)
  | .timeGetStatus rq => some (cmdHBA 0x0401 0, rq)
  | .timeSetSource rq => some (cmdH 0x0402 16, rq)
  | .timeSetTai rq => some (cmdH 0x0403 8, rq)
  | .timeSetUtc rq => some (cmdH 0x0404 8, rq)
  | .timeSetPortDelay rq => some (cmdH 0x0405 12, rq)
  | .timePtpConfig rq => some (cmdH 0x0406 20, rq)
  | .timeSetFailClosed rq => some (cmdOwn 0x0407 8 0, rq)
  | .timeSetHoldover rq => some (cmdH 0x0408 16, rq)
  | .timeSetDissent rq => some (cmdH 0x0409 8, rq)
  | .pumpStage rq => some ({ cmdH 0x0501 8 with len := fun p => 8 + fieldLe p 4 2 }, rq)
  | .pumpCommit rq => some (cmdH 0x0502 40, rq)
  | .pumpSetProfile rq => some (cmdH 0x0503 8, rq)
  | .pumpSetAction rq => some (cmdOwn 0x0504 8 0, rq)
  | .pumpFragConfig rq => some (cmdH 0x0505 4, rq)
  | .pumpStatus rq => some (cmdHBA 0x0506 0, rq)
  | .pumpEngineCtl rq _ => some (cmdH 0x0507 4, rq)
  | .pumpLockPatch rq => some (cmdH 0x0508 4, rq)
  | .strainerPartition rq => some (cmdH 0x0601 12, rq)
  | .strainerPatternStage rq => some ({ cmdOwn 0x0602 8 0 with len := fun p => 8 + fieldLe p 2 2 }, rq)
  | .strainerPatternCommit rq => some (cmdOwn 0x0603 36 0, rq)
  | .strainerBerthConfig rq => some (cmdOwn 0x0604 8 0, rq)
  | .strainerRuleInsert rq => some (cmdOwn 0x0605 92 0, rq)
  | .strainerRuleDelete rq => some (cmdOwn 0x0606 4 0, rq)
  | .strainerRuleWrite rq => some (cmdOwn 0x0607 92 0, rq)
  | .strainerLookupCmd rq => some (cmdOwn 0x0608 48 0, rq)
  | .strainerMatchNext rq => some (cmdHB 0x0609 4, rq)
  | .strainerStatus rq => some (cmdHBA 0x060A 0, rq)
  | .tablesPartition rq => some (cmdH 0x0701 12, rq)
  | .tablesProtect rq => some (cmdH 0x0702 16, rq)
  | .tablesBerthConfig rq => some (cmdOwn 0x0703 16 0, rq)
  | .tablesL2Write rq => some (cmdOwn 0x0704 16 0, rq)
  | .tablesRouteWrite rq => some (cmdOwn 0x0705 24 0, rq)
  | .tablesMcastWrite rq => some (cmdOwn 0x0706 16 0, rq)
  | .tablesEcmpWrite rq => some ({ cmdOwn 0x0707 4 0 with len := fun p => 4 + 4 * byteAt p 1 }, rq)
  | .tablesLookup rq => some (cmdOwn 0x0708 20 0, rq)
  | .tablesStatus rq => some (cmdHBA 0x0709 0, rq)
  | .queueingFerryWrite rq => some (cmdOwn 0x0801 24 0, rq)
  | .queueingQuota rq => some (cmdH 0x0802 16, rq)
  | .queueingQueueConfig rq => some ({ cmdHB 0x0803 12 with own := ownQueue }, rq)
  | .queueingShaper rq => some ({ cmdHB 0x0804 16 with own := ownQueue }, rq)
  | .queueingPauseThresh rq => some (cmdH 0x0805 12, rq)
  | .queueingStatus rq => some (cmdHBA 0x0806 0, rq)
  | .queueingRingConfig rq => some (cmdOwn 0x0807 32 0, rq)
  | .queueingRingStatus rq => some (cmdOwn 0x0808 4 0, rq)
  | .riskPartition rq => some (cmdH 0x0901 16, rq)
  | .riskBerthConfig rq => some (cmdOwn 0x0902 20 0, rq)
  | .riskAccountWrite rq => some (cmdOwn 0x0903 24 0, rq)
  | .riskInstrumentWrite rq => some (cmdOwn 0x0904 48 0, rq)
  | .riskPositionWrite rq => some (cmdOwn 0x0905 28 0, rq)
  | .riskRelease rq => some (cmdOwn 0x0906 4 0, rq)
  | .riskFirmWrite rq => some (cmdOwn 0x0907 16 0, rq)
  | .riskScenarioStage rq => some ({ cmdOwn 0x0908 8 0 with len := fun p => 8 + fieldLe p 2 2 }, rq)
  | .riskWindlassRun rq => some (cmdOwn 0x0909 20 0, rq)
  | .riskStatus rq => some ({ cmdOwn 0x090A 4 0 with auditor := true }, rq)
  | .fabricLinkConfig rq => some (cmdH 0x0A01 8, rq)
  | .fabricLinkCtl rq => some (cmdH linkCtlCode 4, rq)
  | .fabricLinkStatus rq => some (cmdH 0x0A03 4, rq)
  | .fabricConfig rq => some (cmdH 0x0A04 16, rq)
  | .fabricStatus rq => some ({ cmdHF 0x0A05 0 with auditor := true }, rq)
  | .fabricRouteQuery rq => some (cmdH 0x0A06 4, rq)
  | .fabricRediscover rq => some (cmdH 0x0A07 4, rq)
  | .collectiveGroupCreate rq => some ({ cmdHF 0x0B01 20 with own := namesSelf 0 }, rq)
  | .collectiveGroupDestroy rq => some ({ cmdHF 0x0B02 8 with own := namesSelf 0 }, rq)
  | .collectiveStart rq _ => some ({ cmdHF 0x0B03 40 with own := namesSelf 0 }, rq)
  | .collectiveAbort rq => some ({ cmdHF 0x0B04 12 with own := namesSelf 0 }, rq)
  | .collectiveStatus rq => some (cmdOwn 0x0B05 8 0, rq)
  | .rdmaQuota rq => some (cmdH 0x0C01 12, rq)
  | .rdmaMrReg rq => some (cmdOwn 0x0C02 32 0, rq)
  | .rdmaMrDereg rq => some (cmdOwn 0x0C03 8 0, rq)
  | .rdmaCqCreate rq => some (cmdOwn 0x0C04 16 0, rq)
  | .rdmaCqDestroy rq => some (cmdOwn 0x0C05 4 0, rq)
  | .rdmaQpCreate rq => some (cmdOwn 0x0C06 32 0, rq)
  | .rdmaQpModify rq => some (cmdOwn 0x0C07 76 0, rq)
  | .rdmaQpQuery rq => some (cmdOwn 0x0C08 4 0, rq)
  | .rdmaQpDestroy rq => some (cmdOwn 0x0C09 4 0, rq)
  | .rdmaStatus rq => some (cmdHBA 0x0C0A 0, rq)
  | .ledgerConfig rq => some (cmdOwn 0x0D01 8 0, rq)
  | .ledgerStaging rq => some (cmdH 0x0D02 16, rq)
  | .ledgerSealNow rq => some (cmdOwn 0x0D03 4 0, rq)
  | .ledgerStatus rq => some ({ cmdOwn 0x0D04 4 0 with auditor := true }, rq)
  | .ledgerDeviceCert rq => some (cmdHBA 0x0D05 0, rq)
  | .cisternStatus rq => some (cmdHBA 0x0E01 0, rq)
  | .cisternConfig rq => some (cmdH 0x0E02 4, rq)
  | .cisternSwap rq => some (cmdH 0x0E03 0, rq)
  | .cisternRelease rq => some (cmdH 0x0E04 4, rq)
  | .cisternIdentity rq => some (cmdHA 0x0E05 4, rq)
  | .cisternRetireChallenge rq _ => some (cmdHA 0x0E06 4, rq)
  | .cisternRetire rq _ => some (cmdHA 0x0E07 132, rq)
  | .cisternRead rq _ => some (cmdHA 0x0E08 12, rq)
  | .dramConfig rq => some (cmdH 0x0F01 16, rq)
  | .dramStatus rq => some (cmdH 0x0F02 4, rq)
  | .dramCapture rq => some (cmdH 0x0F03 4, rq)
  | .dramRecover rq => some (cmdH 0x0F04 4, rq)
  | .dramRead rq _ => some (cmdH 0x0F05 12, rq)
  | .sumpSetReaction rq => some (cmdH 0x1001 4, rq)
  | .sumpClear rq => some (cmdH 0x1002 12, rq)
  | .sumpSafeEnter rq => some (cmdH 0x1003 4, rq)
  | .sumpSafeRelease rq => some (cmdH 0x1004 4, rq)
  | .sumpInject rq => some (cmdH 0x1005 16, rq)
  | .sumpStatus rq => some (cmdH 0x1006 0, rq)
  | .sumpConfig rq => some (cmdH 0x1007 4, rq)
  | .powerDomain rq => some ({ cmdHB 0x1101 4 with own := ownPcs }, rq)
  | .powerStatus rq => some (cmdH 0x1102 0, rq)
  | .powerChipReset rq => some (cmdH 0x1103 4, rq)
  | .powerThermConfig rq => some (cmdH 0x1104 4, rq)
  | .powerGuardConfig rq => some (cmdH 0x1120 12, rq)
  | .powerGuardStatus rq => some (cmdHBA 0x1121 0, rq)
  | .powerSetCap rq => some (cmdH 0x1123 4, rq)
  | .countersConfig rq => some (cmdH 0x1201 40, rq)
  | .countersSnapshot rq => some (cmdH 0x1202 4, rq)
  | .countersTeleConfig rq => some (cmdH 0x1203 4, rq)
  | .countersTeleRead rq => some (cmdH 0x1204 4, rq)
  | .traceConfig rq => some (cmdH 0x1205 8, rq)
  | .traceRead rq => some (cmdH 0x1206 4, rq)
  | .testPgc rq => some (cmdH 0x1301 20, rq)
  | .testPgcStatus rq _ => some (cmdH 0x1302 4, rq)
  | .testMargin rq => some (cmdH 0x1303 8, rq)
  | .testMbist rq => some (cmdH 0x1304 4, rq)
  | .unsupportedOpcode _ _ | .mbxOverrun _ | .mbxEvtConsWrite _ _ | .mbxEvtLostRead _ | .tideNowNsRead _ | .counterLowHalfRead _ _
  | .sumpStatusWrite _ _ | .pmonOvfWrite _ _ | .registerWrite _ _ _ | .destroyDrainTimeout _ | .functionLevelReset _ | .moveStep
  | .domainSwitchDone _ _ _ | .bankGroupOffTimeout _ | .marginDwellEnd _ _ _ | .tapReset | .tapInstructionLoad _ | .frameStart _ _ _
  | .holdingBufferDispatch | .cellAllocate _ | .launchLookup _ _ | .confirmCompare _ | .oversizeCut _ | .ingressFrameEnd _ _ _
  | .parseCommit _ | .fragAgeExpiry _ | .strainerLookup _ | .handleAgeExpiry _ _ | .weirVerdict _ | .forwardingResult _ | .stompDecision _
  | .enqueue _ | .egressSelect _ _ | .matcherRound | .egressFrameEnd _ _ | .bankGroupFail _ _ | .settleLimitDrop _ | .orderRecord _
  | .holdTimeout _ | .pumpFail _ _ | .goldenSelfCheck _ | .patchEngineLoad _ | .pumpPatchStall | .tableBackgroundAccess _ _ _ _
  | .ruleFlushing _ _ _ | .directoryFlushing _ _ _ | .l2AgeSweep _ | .strnUnitFail _ | .windlassPeriod _ | .outputTileDone _ _ _
  | .exposureInstall | .windTileFail _ | .interpHandover _ | .ppsInEdge _ | .ppsLoss | .ptpMessage _ _ _ | .ptpReceiptTimeout _
  | .refInLoss | .holdoverLimit | .utcDayEnd | .ppsOut | .witnessRound _ _ | .wReq _ _ _ | .wResp _ _ _ | .witnessMissed _
  | .sentinelRead _ | .latBoundReturn | .powerReading _ | .guardPmbus _ | .synthDrainDone _ | .synthLock _ | .settleResume _
  | .synthLockTimeout _ | .rpRecalDue _ | .rpLinkDown _ _ | .linkUpDebounce _ | .anRestart _ | .pauseReceive _ _ | .pauseExpire _ _
  | .pauseRefresh _ | .lpiReceive _ | .flitReceive _ _ _ | .ctrlFlit _ _ | .flitSend _ _ | .ctrlFlitDue _ | .retryResend _
  | .replayTimeout _ | .tsReceive _ _ _ | .quiesceReceive _ | .quiesceGraceEnd _ | .xlRecalDue _ | .xlSynthLock _ | .laneFail _ _
  | .degradeReceive _ _ | .xlLinkDown _ | .fastTrainingTimeout _ | .hailSend | .hail _ _ | .rootElect | .adj _ _ | .assign _ _ | .lsa _ _
  | .installedSend | .installed _ _ | .convergeLimit | .resume _ _ | .fabricMessage _ _ _ | .fabGap _ _ | .colMessage _ _
  | .earlyArrivalStale _ | .collectiveTimeout _ | .workRequestFetched _ _ _ _ | .rdmaPacket _ _ _ | .rdmaRetransmitTimeout _
  | .ackCoalesceTimeout _ | .rnrTimer _ | .rdmaEngineFail _ | .rdmaSqDb _ _ | .rdmaRqDb _ _ | .rdmaCqDb _ _ | .rxDoorbell _ _ _
  | .txDoorbell _ _ _ | .txDescFetched _ _ _ _ | .hostDelivery _ | .rxWaitExpiry _ _ | .itrTimer _ _ _ | .sealDue _ | .pageHashDone _
  | .sealSigned _ _ | .pageWrite | .zoneAppendComplete _ _ _ | .stagingReadback _ | .ledgEngineFail _ | .bayInsert _ | .probeComplete _ _
  | .probeLinkTimeout _ | .bayRemove _ | .latchOpen _ | .latchClose _ | .switchReissue _ | .lifeRead _ _ | .asyncEvent _ _ _ | .hkPeriod
  | .adminTimeout _ | .appendStall _ | .retireNonceExpiry _ | .bayLinkLoss _ | .dramRequest _ _ _ _ _ _ | .srIdleExpiry _ | .srEntryDone _
  | .refresh _ | .mr4Read _ _ _ _ | .patrolScrub _ _ | .driftUpdate _ | .speedChangeDone _ | .autoRecoverExpiry _ | .recoveryDone _ _
  | .boot | .startupComplete _ | .slotFallback | .heartbeat _ | .watchdog | .phTrap _ _ | .pumphouseIdle _ | .pumphouseWake _
  | .arbitrationLost _ | .arbitrationBackoffEnd _ _ _ | .i2cBusStuck _ | .i2cNakRetry _ _ | .sumpLatch | .historyWrite | .blockReset
  | .chipRstDelayExpiry | .killNAssert | .killNRelease | .pwrfailNAssert | .appendingStop | .lastGaspEnd | .pwrfailNRelease | .porstN
  | .chipReset | .perstN | .supplyFault _ _ | .sensorReading _ | .telemetryCapture | .traceLostPacket | .rpBlockLock _ _ | .anComplete _ _
  | .xlLaneLock _ _ | .xlSynthTimeout _ | .srExitDone _ | .pcieLinkDown _ | .destroySealTimeout _ | .pgcLock _ _ _ | .ptpSyncInterval _ _ _
  | .refInReturn => none

/-- The parts of the state that a command may change. -/
def mayChange : Instr → List Part
  | .systemPing _ | .systemInfo _ | .systemFwStage _ | .systemI2c _ _ | .unsupportedOpcode _ _ | .berthGetKey _ | .berthStatus _
  | .portGetStatus _ | .timeGetStatus _ | .pumpStatus _ | .strainerStatus _ | .tablesLookup _ | .tablesStatus _ | .queueingStatus _
  | .queueingRingStatus _ | .riskStatus _ | .fabricLinkStatus _ | .fabricStatus _ | .fabricRouteQuery _ | .collectiveStatus _
  | .rdmaQpQuery _ | .rdmaStatus _ | .ledgerStatus _ | .ledgerDeviceCert _ | .cisternStatus _ | .cisternIdentity _ | .dramStatus _
  | .dramCapture _ | .sumpStatus _ | .powerStatus _ | .powerGuardStatus _ | .countersConfig _ | .countersSnapshot _ | .countersTeleConfig _
  | .countersTeleRead _ | .traceRead _ | .arbitrationLost _ | .arbitrationBackoffEnd _ _ _ | .i2cBusStuck _ | .i2cNakRetry _ _
    => [.ph, .mbx, .msix, .pmon, .out]
  | .systemFwCommit _ _ => [.ph, .mbx, .msix, .fuse, .sump, .pmon, .trace, .out]
  | .systemRestart _ => [.ph, .mbx, .msix, .sump, .pmon, .trace, .out]
  | .mbxOverrun _ => [.ph, .mbx, .pmon]
  | .mbxEvtConsWrite _ _ => [.mbx, .pmon]
  | .mbxEvtLostRead _ => [.mbx, .out]
  | .tideNowNsRead _ => [.tide, .out]
  | .counterLowHalfRead _ _ => [.pwr, .lane, .latch, .out]
  | .sumpStatusWrite _ _ => [.sump, .pmon]
  | .pmonOvfWrite _ _ | .telemetryCapture => [.pmon]
  | .registerWrite _ _ _ => [.fwd, .mbx, .msix, .pwr, .pmon, .vfEnable, .out]
  | .berthCreate _ _ => [.glb, .weir, .rdma, .ledg, .cist, .ph, .mbx, .msix, .host, .pmon, .out, .free]
  | .berthDestroy _
    => [.glb, .port, .frames, .nextFrame, .pump, .strn, .fwd, .rsv, .weir, .xl, .fab, .shtl, .rdma, .ledg, .cist, .ph, .mbx, .msix,
     .host, .sump, .pmon, .trace, .out]
  | .destroyDrainTimeout _ | .destroySealTimeout _
    => [.glb, .port, .frames, .nextFrame, .strn, .rsv, .weir, .xl, .fab, .rdma, .ledg, .cist, .mbx, .msix, .host, .sump, .pmon, .trace, .out]
  | .berthAssignPort _ | .berthGangway _ | .berthSetAuditor _ | .timeSetFailClosed _ => [.glb, .ph, .mbx, .msix, .pmon, .out]
  | .berthReset _
    => [.port, .frames, .nextFrame, .strn, .rsv, .xl, .fab, .rdma, .ledg, .cist, .ph, .mbx, .msix, .host, .sump, .pmon, .trace, .out]
  | .functionLevelReset _
    => [.port, .frames, .nextFrame, .strn, .rsv, .xl, .fab, .rdma, .ledg, .cist, .mbx, .msix, .host, .sump, .pmon, .trace, .out]
  | .portQuadConfig _ => [.port, .quad, .frames, .strn, .rsv, .ph, .mbx, .msix, .host, .sump, .pmon, .trace, .out]
  | .portEnable _ => [.port, .ph, .mbx, .msix, .sump, .pmon, .out]
  | .portSetFlow _ => [.port, .ph, .mbx, .msix, .pmon, .out]
  | .portRecal _ => [.port, .quad, .frames, .strn, .rsv, .ph, .mbx, .msix, .host, .pmon, .trace, .out]
  | .timeSetSource _ => [.tide, .ledg, .cist, .ph, .mbx, .msix, .sump, .pmon, .out]
  | .timeSetTai _ | .timeSetPortDelay _ | .timePtpConfig _ | .timeSetHoldover _ | .timeSetDissent _ => [.tide, .ph, .mbx, .msix, .pmon, .out]
  | .timeSetUtc _ => [.tide, .ledg, .cist, .ph, .mbx, .msix, .pmon, .out]
  | .pumpStage _ | .pumpCommit _ | .pumpSetProfile _ | .pumpSetAction _ | .pumpFragConfig _ | .pumpEngineCtl _ _
    => [.pump, .ph, .mbx, .msix, .pmon, .out]
  | .pumpLockPatch _ => [.ph, .mbx, .msix, .fuse, .pmon, .out]
  | .strainerPartition _ | .strainerPatternStage _ | .strainerBerthConfig _ | .strainerRuleInsert _ | .strainerRuleDelete _
  | .strainerRuleWrite _ | .strainerLookupCmd _ => [.strn, .ph, .mbx, .msix, .pmon, .out]
  | .strainerPatternCommit _ => [.strn, .ledg, .cist, .ph, .mbx, .msix, .pmon, .out]
  | .strainerMatchNext _ => [.frames, .strn, .ph, .mbx, .msix, .pmon, .out]
  | .moveStep => [.strn, .mbx, .msix, .pmon, .out]
  | .tablesPartition _ | .tablesProtect _ | .tablesBerthConfig _ | .tablesL2Write _ | .tablesRouteWrite _ | .tablesMcastWrite _
  | .tablesEcmpWrite _ => [.fwd, .ph, .mbx, .msix, .pmon, .out]
  | .queueingFerryWrite _ | .queueingQueueConfig _ | .queueingShaper _ => [.rsv, .ph, .mbx, .msix, .pmon, .out]
  | .queueingQuota _ => [.rsv, .ph, .mbx, .msix, .sump, .pmon, .out]
  | .queueingPauseThresh _ => [.port, .rsv, .ph, .mbx, .msix, .pmon, .out]
  | .queueingRingConfig _ => [.port, .frames, .strn, .rsv, .ph, .mbx, .msix, .host, .pmon, .trace, .out]
  | .riskPartition _ | .riskBerthConfig _ | .riskAccountWrite _ | .riskInstrumentWrite _ | .riskPositionWrite _ | .riskFirmWrite _
  | .riskScenarioStage _ | .riskWindlassRun _ => [.weir, .ph, .mbx, .msix, .pmon, .out]
  | .riskRelease _ => [.port, .frames, .strn, .fwd, .rsv, .weir, .xl, .fab, .ledg, .cist, .ph, .mbx, .msix, .host, .pmon, .trace, .out]
  | .fabricLinkConfig _ => [.xl, .ph, .mbx, .msix, .pmon, .out]
  | .fabricLinkCtl _ => [.port, .frames, .strn, .rsv, .xl, .fab, .ph, .mbx, .msix, .host, .pmon, .trace, .out]
  | .fabricConfig _ => [.fab, .ph, .mbx, .msix, .pmon, .out]
  | .fabricRediscover _ => [.xl, .fab, .ph, .mbx, .msix, .pmon, .out]
  | .collectiveGroupCreate _ | .collectiveGroupDestroy _ => [.shtl, .ph, .mbx, .msix, .pmon, .out]
  | .collectiveStart _ _ | .collectiveAbort _ => [.rsv, .weir, .xl, .fab, .shtl, .ph, .mbx, .msix, .pmon, .out]
  | .rdmaQuota _ | .rdmaMrReg _ | .rdmaMrDereg _ | .rdmaCqCreate _ | .rdmaCqDestroy _ | .rdmaQpCreate _ | .rdmaQpDestroy _
    => [.rdma, .ph, .mbx, .msix, .pmon, .out]
  | .rdmaQpModify _ => [.port, .frames, .nextFrame, .strn, .rsv, .xl, .fab, .rdma, .ph, .mbx, .msix, .host, .sump, .pmon, .trace, .out]
  | .ledgerConfig _ | .ledgerSealNow _ => [.ledg, .cist, .ph, .mbx, .msix, .pmon, .out]
  | .ledgerStaging _ => [.ledg, .ph, .mbx, .msix, .pmon, .out]
  | .cisternConfig _ | .cisternRetire _ _ => [.cist, .ph, .mbx, .msix, .pmon, .out]
  | .cisternSwap _ | .cisternRelease _ => [.ledg, .cist, .ph, .mbx, .msix, .sump, .pmon, .out]
  | .cisternRetireChallenge _ _ => [.cist, .ph, .mbx, .msix, .pmon, .out, .free]
  | .cisternRead _ _ => [.ph, .mbx, .msix, .pmon, .out, .free]
  | .dramConfig _ | .dramRecover _ => [.ddr, .ph, .mbx, .msix, .pmon, .out]
  | .dramRead _ _ => [.ddr, .ph, .mbx, .msix, .sump, .pmon, .out, .free]
  | .sumpSetReaction _ | .sumpClear _ | .sumpInject _ | .sumpConfig _ => [.ph, .mbx, .msix, .sump, .pmon, .out]
  | .sumpSafeEnter _ => [.port, .frames, .rsv, .weir, .ph, .mbx, .msix, .sump, .pmon, .out, .free]
  | .sumpSafeRelease _
    => [.port, .frames, .nextFrame, .strn, .rsv, .weir, .xl, .fab, .rdma, .ph, .mbx, .msix, .host, .sump, .pmon, .trace, .out]
  | .powerDomain _ => [.guard, .rsv, .ph, .mbx, .msix, .sump, .pwr, .pmon, .out]
  | .domainSwitchDone _ _ _
    => [.port, .frames, .nextFrame, .pump, .strn, .rsv, .weir, .xl, .fab, .shtl, .rdma, .ledg, .ddr, .mbx, .msix, .host, .sump, .pwr,
     .pmon, .trace, .lane, .out, .free]
  | .bankGroupOffTimeout _ => [.rsv, .mbx, .msix, .pwr, .pmon, .out]
  | .powerChipReset _ => [.port, .frames, .rsv, .weir, .cist, .ph, .mbx, .msix, .sump, .pwr, .pmon, .out, .free]
  | .powerThermConfig _ => [.ph, .mbx, .msix, .pmon, .therm, .out]
  | .powerGuardConfig _ => [.guard, .ledg, .cist, .ph, .mbx, .msix, .pmon, .out]
  | .powerSetCap _ => [.guard, .ph, .mbx, .msix, .sump, .pmon, .out]
  | .traceConfig _ => [.ph, .mbx, .msix, .pmon, .trace, .out]
  | .testPgc _ | .testPgcStatus _ _ | .testMargin _ => [.ph, .mbx, .msix, .pmon, .lane, .out]
  | .marginDwellEnd _ _ _ => [.mbx, .msix, .pmon, .lane, .out]
  | .testMbist _
    => [.port, .frames, .nextFrame, .pump, .strn, .rsv, .weir, .xl, .fab, .shtl, .rdma, .ledg, .ddr, .ph, .mbx, .msix, .host, .sump,
     .pwr, .pmon, .trace, .lane, .out]
  | .tapReset | .tapInstructionLoad _ => [.tap]
  | .frameStart _ _ _ => [.glb, .port, .frames, .nextFrame, .pump, .ledg, .sump]
  | .holdingBufferDispatch => [.frames, .pump]
  | .cellAllocate _ | .egressSelect _ _ | .settleLimitDrop _ | .hostDelivery _ | .rxWaitExpiry _ _
    => [.port, .frames, .strn, .rsv, .msix, .host, .pmon, .trace, .out]
  | .launchLookup _ _ => [.port, .frames, .strn, .rsv, .msix, .host, .sump, .pmon, .trace, .out]
  | .confirmCompare _ => [.frames]
  | .oversizeCut _ | .ingressFrameEnd _ _ _ => [.port, .frames, .strn, .fwd, .rsv, .msix, .host, .pmon, .trace, .out]
  | .parseCommit _ => [.port, .frames, .pump, .strn, .rsv, .weir, .ledg, .cist, .mbx, .msix, .host, .pmon, .trace, .out]
  | .fragAgeExpiry _ => [.pump]
  | .strainerLookup _ => [.frames, .strn, .pmon]
  | .handleAgeExpiry _ _ => [.frames, .strn]
  | .weirVerdict _ => [.port, .frames, .pump, .strn, .rsv, .weir, .mbx, .msix, .host, .pmon, .trace, .out]
  | .forwardingResult _ => [.frames, .pump, .fwd, .pmon]
  | .stompDecision _ | .egressFrameEnd _ _ => [.port, .frames, .strn, .rsv, .weir, .mbx, .msix, .host, .pmon, .trace, .out]
  | .enqueue _ => [.port, .frames, .strn, .fwd, .rsv, .xl, .fab, .rdma, .msix, .host, .pmon, .trace, .out]
  | .matcherRound => [.rsv, .pmon]
  | .bankGroupFail _ _ => [.frames, .rsv, .sump]
  | .orderRecord _ => [.frames, .ledg, .cist, .pmon, .out]
  | .holdTimeout _ => [.port, .frames, .strn, .rsv, .weir, .msix, .host, .pmon, .trace, .out]
  | .pumpFail _ _ | .goldenSelfCheck _ => [.frames, .pump, .ledg, .mbx, .msix, .sump, .out]
  | .patchEngineLoad _ => [.frames, .pump, .ledg, .cist, .mbx, .msix, .sump, .pmon, .out]
  | .pumpPatchStall => [.pump, .mbx, .msix, .sump, .out]
  | .tableBackgroundAccess _ _ _ _ => [.fwd, .sump, .pmon]
  | .ruleFlushing _ _ _ | .strnUnitFail _ => [.strn, .sump]
  | .directoryFlushing _ _ _ => [.weir, .sump]
  | .l2AgeSweep _ => [.fwd]
  | .windlassPeriod _ | .exposureInstall => [.weir, .mbx, .msix, .pmon, .out]
  | .outputTileDone _ _ _ | .windTileFail _ | .rootElect | .installedSend | .installed _ _ | .convergeLimit | .resume _ _
    => [.rsv, .weir, .xl, .fab, .shtl, .mbx, .msix, .sump, .pmon, .out]
  | .interpHandover _ => [.tide, .sump]
  | .ppsInEdge _ => [.tide, .frames, .ledg, .cist, .sump, .pmon, .out]
  | .ppsLoss | .ptpReceiptTimeout _ | .refInLoss => [.tide, .ledg, .cist, .sump, .pmon, .out]
  | .ptpMessage _ _ _ => [.tide, .port, .frames, .ledg, .cist, .sump, .pmon, .out, .free]
  | .holdoverLimit | .utcDayEnd | .refInReturn => [.tide, .ledg, .cist, .pmon, .out]
  | .ppsOut => [.out]
  | .witnessRound _ _ | .wReq _ _ _ | .witnessMissed _ | .ctrlFlitDue _ | .retryResend _ | .quiesceReceive _ | .quiesceGraceEnd _
  | .hailSend => [.xl]
  | .wResp _ _ _ => [.tide, .xl, .ledg, .cist, .sump, .pmon, .out]
  | .sentinelRead _ | .latBoundReturn | .guardPmbus _ => [.guard, .ledg, .cist, .sump, .pmon, .out]
  | .powerReading _ => [.guard, .sump, .out]
  | .synthDrainDone _ | .synthLockTimeout _ => [.port, .quad, .sump]
  | .synthLock _ | .rpRecalDue _ => [.port, .quad, .frames, .strn, .rsv, .msix, .host, .sump, .pmon, .trace, .out]
  | .settleResume _ | .pauseRefresh _ => [.port, .out]
  | .rpLinkDown _ _ | .rpBlockLock _ _ | .anComplete _ _ => [.port, .sump]
  | .linkUpDebounce _ | .anRestart _ | .pauseReceive _ _ | .pauseExpire _ _ | .lpiReceive _ => [.port]
  | .flitReceive _ _ _ | .ctrlFlit _ _ | .tsReceive _ _ _ | .laneFail _ _ | .xlLinkDown _ | .fastTrainingTimeout _ | .xlSynthTimeout _
    => [.port, .frames, .strn, .rsv, .xl, .fab, .mbx, .msix, .host, .sump, .pmon, .trace, .out]
  | .flitSend _ _ => [.port, .frames, .strn, .rsv, .xl, .msix, .host, .pmon, .trace, .out]
  | .replayTimeout _ | .xlSynthLock _ | .xlLaneLock _ _ => [.xl, .out]
  | .xlRecalDue _ => [.xl, .sump, .out]
  | .degradeReceive _ _ => [.xl, .mbx, .msix, .sump, .pmon, .out]
  | .hail _ _ => [.xl, .fab, .sump]
  | .adj _ _ => [.port, .frames, .strn, .rsv, .xl, .fab, .msix, .host, .sump, .pmon, .trace, .out]
  | .assign _ _ => [.xl, .fab]
  | .lsa _ _ => [.port, .frames, .strn, .rsv, .xl, .fab, .msix, .host, .pmon, .trace, .out]
  | .fabricMessage _ _ _ => [.port, .frames, .nextFrame, .strn, .rsv, .xl, .fab, .msix, .host, .sump, .pmon, .trace, .out]
  | .fabGap _ _ => [.port, .frames, .nextFrame, .strn, .rsv, .fab, .msix, .host, .sump, .pmon, .trace, .out]
  | .colMessage _ _ | .collectiveTimeout _ => [.rsv, .weir, .xl, .fab, .shtl, .mbx, .msix, .pmon, .out]
  | .earlyArrivalStale _ => [.shtl]
  | .workRequestFetched _ _ _ _ | .rdmaPacket _ _ _ | .rdmaRetransmitTimeout _ | .ackCoalesceTimeout _ | .rnrTimer _ | .rdmaEngineFail _
  | .rdmaSqDb _ _ | .rdmaRqDb _ _
    => [.port, .frames, .nextFrame, .strn, .rsv, .xl, .fab, .rdma, .mbx, .msix, .host, .sump, .pmon, .trace, .out]
  | .rdmaCqDb _ _ => [.rdma, .pmon]
  | .rxDoorbell _ _ _ | .txDoorbell _ _ _ => [.msix, .host, .sump, .pmon, .out]
  | .txDescFetched _ _ _ _ => [.port, .frames, .nextFrame, .strn, .rsv, .msix, .host, .pmon, .trace, .out]
  | .itrTimer _ _ _ => [.msix, .host, .out]
  | .sealDue _ => [.ledg, .cist, .pmon, .out]
  | .pageHashDone _ => [.ledg]
  | .sealSigned _ _ | .pageWrite | .zoneAppendComplete _ _ _ | .stagingReadback _
    => [.glb, .pump, .strn, .fwd, .rsv, .weir, .xl, .fab, .shtl, .rdma, .ledg, .cist, .mbx, .msix, .host, .sump, .pmon, .out]
  | .ledgEngineFail _ => [.ledg, .sump]
  | .bayInsert _ | .latchClose _ | .retireNonceExpiry _ => [.cist]
  | .probeComplete _ _ => [.cist, .sump, .out, .free]
  | .probeLinkTimeout _ => [.cist, .sump]
  | .bayRemove _ | .latchOpen _ | .switchReissue _ | .lifeRead _ _ | .asyncEvent _ _ _ | .adminTimeout _ | .appendStall _ | .bayLinkLoss _
    => [.ledg, .cist, .mbx, .msix, .sump, .pmon, .out]
  | .hkPeriod => [.cist, .out]
  | .dramRequest _ _ _ _ _ _ | .patrolScrub _ _ => [.ddr, .mbx, .msix, .sump, .pmon, .out]
  | .srIdleExpiry _ | .srEntryDone _ | .refresh _ | .driftUpdate _ => [.ddr, .out]
  | .mr4Read _ _ _ _ => [.ddr, .sump, .out]
  | .speedChangeDone _ | .srExitDone _ => [.ddr, .mbx, .msix, .sump, .pmon, .out, .free]
  | .autoRecoverExpiry _ => [.ddr]
  | .recoveryDone _ _
    => [.glb, .pump, .strn, .fwd, .rsv, .weir, .xl, .fab, .shtl, .rdma, .ledg, .cist, .ddr, .mbx, .msix, .host, .sump, .pmon, .out, .free]
  | .boot => [.ph]
  | .startupComplete _ => [.guard, .quad, .xl, .fab, .ledg, .cist, .ddr, .ph, .mbx, .msix, .fuse, .sump, .pwr, .out]
  | .slotFallback => [.ph, .fuse, .sump]
  | .heartbeat _ | .pumphouseWake _ => [.ph, .pmon, .trace]
  | .watchdog | .phTrap _ _ => [.ph, .mbx, .sump, .trace]
  | .pumphouseIdle _ => [.ph, .trace]
  | .sumpLatch | .killNAssert => [.port, .frames, .rsv, .weir, .ph, .msix, .sump, .pwr, .pmon, .out, .free]
  | .historyWrite => [.mbx, .msix, .sump, .out]
  | .blockReset => [.port, .frames, .strn, .rsv, .xl, .fab, .ledg, .cist, .ddr, .ph, .mbx, .msix, .host, .sump, .pmon, .trace, .out]
  | .chipRstDelayExpiry | .lastGaspEnd | .pwrfailNRelease | .porstN | .chipReset
    => [.glb, .tide, .guard, .port, .quad, .frames, .nextFrame, .pump, .strn, .fwd, .rsv, .weir, .xl, .fab, .shtl, .rdma, .ledg, .cist,
     .ddr, .ph, .mbx, .msix, .host, .sump, .pwr, .pmon, .trace, .lane, .therm, .latch, .pcieDown, .vfEnable, .out, .free]
  | .killNRelease => [.sump]
  | .pwrfailNAssert => [.port, .frames, .rsv, .weir, .cist, .ph, .msix, .sump, .pwr, .pmon, .out, .free]
  | .appendingStop
    => [.port, .frames, .nextFrame, .pump, .strn, .rsv, .weir, .xl, .fab, .shtl, .rdma, .ledg, .cist, .ddr, .ph, .mbx, .msix, .host,
     .sump, .pwr, .pmon, .trace, .lane, .out]
  | .perstN
    => [.port, .frames, .nextFrame, .strn, .rsv, .xl, .fab, .rdma, .mbx, .msix, .host, .sump, .pmon, .trace, .pcieDown, .vfEnable, .out]
  | .supplyFault _ _ => [.sump, .pwr]
  | .sensorReading _ => [.ddr, .sump, .therm, .out]
  | .traceLostPacket => [.trace]
  | .pcieLinkDown _ => [.sump, .pcieDown]
  | .pgcLock _ _ _ => [.lane]
  | .ptpSyncInterval _ _ _ => [.tide, .out, .free]

end Sys2Proof.Machine
end

