-- ==== Sys2Proof/Certificates/Slice0/Obligations.lean ====
section
/-! DEFINITION. The statements for the provers. -/

open Sys2Proof Sys2Proof.Machine

/-- Programmable counters, telemetry and trace (22_counters_trace.md R467 to R475, R477, R478). counters.config with a number up to 127, an
event of Table 22.1 and filters it supports puts the configuration into the counter, clears its stop, and with bit 1 of the control byte its
value; counters.snapshot copies every value and the stamp, and with CLEAR_AFTER restarts every counter; counters.tele_config sets the period;
a telemetry capture writes one sample at the head of the 64 of the ring, or counts it as skipped while the channel is blocked, and does
nothing while telemetry is off; counters.tele_read and trace.read return what is held; trace.config configures the trace unit; a due LOST
packet enters the trace FIFO; a write of PMON_OVF clears the bits written as 1 in its word. -/
def Obligations.CountersAndTraceTakeEffect : Prop :=
  (∀ rq e, Completes (.countersConfig rq) (cmdH 0x1201 40) rq
    (fun _ => rq.u8 0 ≤ 127 ∧ eventSpec (pcCfgOf rq).event.toNat = some e ∧ (pcCfgOf rq).okFor e = true) (fun _ => [])
    (fun u => { u with pmon := { u.pmon with
      cfg := Tab.put {} u.pmon.cfg (rq.u8 0) (pcCfgOf rq), stopped := u.pmon.stopped &&& ~~~(BitVec.ofNat 128 (2 ^ rq.u8 0)),
      value := if rq.bit 1 1 then Tab.put 0 u.pmon.value (rq.u8 0) 0 else u.pmon.value } }))
  ∧ (∀ rq, Completes (.countersSnapshot rq) (cmdH 0x1202 4) rq (fun _ => rq.u8 0 = 0) (fun _ => [])
      (fun u => { u with pmon := { u.pmon with snap := u.pmon.value, snapStamp := u.stamp } }))
  ∧ (∀ rq, Completes (.countersSnapshot rq) (cmdH 0x1202 4) rq (fun _ => rq.u8 0 = 1) (fun _ => [])
      (fun u => { u with pmon := { u.pmon with snap := u.pmon.value, snapStamp := u.stamp, value := [], stopped := 0 } }))
  ∧ (∀ rq, Completes (.countersTeleConfig rq) (cmdH 0x1203 4) rq
      (fun u => rq.u32 0 ≤ 60000 ∧ (rq.u32 0 = 0 ∨ u.ph.region.isSome = true)) (fun _ => [])
      (fun u => { u with pmon := { u.pmon with telePeriod := rq.u32 0 } }))
  ∧ (∀ rq b, Completes (.countersTeleRead rq) (cmdH 0x1204 4) rq
      (fun u => rq.u8 0 ≤ 63 ∧ u.pmon.samples[rq.u8 0]? = some b ∧ u.teleBlocked = false) (fun _ => b) (fun u => u))
  ∧ (∀ rq, TurnsAway (.countersTeleRead rq) (cmdH 0x1204 4) rq
      (fun u => rq.u8 0 < u.pmon.samples.length ∧ rq.u8 0 ≤ 63 ∧ u.teleBlocked = true) .frozen)
  ∧ (∀ s : State, exec .telemetryCapture s = .next (if s.pmon.telePeriod = 0 then s
      else if s.teleBlocked then { s with pmon := { s.pmon with teleSkipped := bump s.pmon.teleSkipped } }
      else { s with pmon := { s.pmon with samples := (sampleBytes s :: s.pmon.samples).take 64 } }))
  ∧ (∀ rq, Completes (.traceConfig rq) (cmdH 0x1205 8) rq (fun _ => rq.u8 1 ≤ 20) (fun _ => [])
      (fun u => { u with trace := u.trace.configure (rq.u8 0) (rq.u8 1) (rq.u16 2) u.stamp }))
  ∧ (∀ rq, Completes (.traceRead rq) (cmdH 0x1206 4) rq (fun _ => rq.u16 0 ≤ 2047 ∧ 1 ≤ rq.u16 2 ∧ rq.u16 2 ≤ 127)
      (fun u => leBytes 4 (traceWptr u.trace)
        ++ ((List.range (rq.u16 2)).map (fun i => padTo 32 (Tab.look [] u.trace.buf ((rq.u16 0 + i) % 2048)))).flatten) (fun u => u))
  ∧ (∀ s : State, s.trace.lostNow ≠ 0 → s.trace.fifo.length < 16 →
      exec .traceLostPacket s = .next { s with trace :=
        (fun x : Trace => if s.trace.lostStreams.getLsbD 0 && s.trace.phOn then x.sync 3 s.stamp else x) { s.trace with
          fifo := s.trace.fifo ++ [packetBytes 8 s.trace.lostStreams.toNat s.trace.tseq s.stamp (leBytes 4 s.trace.lostNow)],
          tseq := s.trace.tseq + 1, lostNow := 0, lostStreams := 0 } })
  ∧ (∀ (w : Fin 4) (mask : BitVec 32) (s : State), exec (.pmonOvfWrite w mask) s
      = .next (mmio 0 { s with pmon := { s.pmon with ovf := s.pmon.ovf &&& ~~~(BitVec.ofNat 128 (mask.toNat * 2 ^ (32 * w.val))) } }))

/-- The sump's commands and its status write (20_sump.md R435, R438, R441, R443, R446). A reaction byte is taken for sources 0 to 33, for 4 and 5
only with SAFE; sump.clear clears the bits named of sources that do not latch in the same cycle, and re-arms when asked; safe entry and
release, an injected event on its source's line with KIND 2, the reset length, and the registers in offset order. Entering the safe state
sets it, widens its scope, and is counted when it was not held; leaving it with no queue pair clears it. -/
def Obligations.SumpCommandsTakeEffect : Prop :=
  (∀ rq, Completes (.sumpSetReaction rq) (cmdH 0x1001 4) rq
      (fun _ => rq.u8 0 ≤ 33 ∧ (rq.u8 0 = 4 ∨ rq.u8 0 = 5 → bitOf (rq.u8 1) 5 = true)) (fun _ => [])
      (fun u => { u with sump := { u.sump with react := Tab.put 0xFF u.sump.react (rq.u8 0) (BitVec.ofNat 8 (rq.u8 1 % 128)) } }))
  ∧ (∀ rq, Completes (.sumpClear rq) (cmdH 0x1002 12) rq (fun _ => rq.u64 0 ≠ 0 ∧ rq.u8 8 = 0) (fun _ => [])
      (fun u => { u with sump := clearStatus (BitVec.ofNat 64 (rq.u64 0)) u.sump }))
  ∧ (∀ rq, Completes (.sumpClear rq) (cmdH 0x1002 12) rq (fun _ => rq.u8 8 = 1) (fun _ => [])
      (fun u => { u with sump := { clearStatus (BitVec.ofNat 64 (rq.u64 0)) u.sump with
        first := none, merged := 0, runReact := 0, err := false, armed := true, intDone := false, nmiDone := false, blockRst := [] } }))
  ∧ (∀ rq, Completes (.sumpSafeEnter rq) (cmdH 0x1003 4) rq (fun _ => rq.u8 0 ≤ 1) (fun _ => []) (fun u => enterSafe (rq.u8 0 == 1) u))
  ∧ (∀ (all : Bool) (s : State), (enterSafe all s).sump = { s.sump with
      safe := true, scopeAll := s.sump.scopeAll || all,
      safeEntries := if s.sump.safe then s.sump.safeEntries else bump s.sump.safeEntries })
  ∧ (∀ rq, Completes (.sumpSafeRelease rq) (cmdH 0x1004 4) rq (fun u => rq.u8 0 ≤ 1 ∧ u.safeHeld = false ∧ u.sump.safe = true)
      (fun _ => []) (fun u => leaveSafe (rq.u8 0 == 1) u))
  ∧ (∀ rq, Completes (.sumpSafeRelease rq) (cmdH 0x1004 4) rq (fun u => rq.u8 0 ≤ 1 ∧ u.safeHeld = false ∧ u.sump.safe = false)
      (fun _ => []) (fun u => u))
  ∧ (∀ rq, TurnsAway (.sumpSafeRelease rq) (cmdH 0x1004 4) rq (fun u => rq.u8 0 ≤ 1 ∧ u.safeHeld = true) .state)
  ∧ (∀ s : State, s.rdma.qp = [] ∧ s.rdma.loop = [] → (leaveSafe false s).sump.safe = false)
  ∧ (∀ rq, Completes (.sumpInject rq) (cmdH 0x1005 16) rq
      (fun _ => rq.u8 0 ≤ 33 ∧ sumpFirstCode (rq.u8 0) ≤ rq.u16 2 ∧ rq.u16 2 < sumpFirstCode (rq.u8 0) + sumpEventCount (rq.u8 0))
      (fun _ => []) (fun u => { u with sump := { u.sump with lines := u.sump.lines ++
        [{ src := rq.u8 0, code := BitVec.ofNat 16 (rq.u16 2), unit := BitVec.ofNat 8 (rq.u8 1), cause := BitVec.ofNat 8 (rq.u8 4),
           value := BitVec.ofNat 64 (rq.u64 8), berth := u.injectBerth (rq.u8 0) (rq.u16 2) (rq.u8 1), kind := 2 }] } }))
  ∧ (∀ rq, Completes (.sumpStatus rq) { cmdH 0x1006 0 with len := fun _ => 0 } rq (fun _ => True)
      (fun u => leBytes 8 u.sump.status.toNat ++ leBytes 4 u.sump.word ++ leBytes 4 u.sump.merged.toNat ++ leBytes 4 u.sump.histCount.toNat
        ++ u.sump.firstBytes ++ ((List.range 16).map u.sump.slotBytes).flatten
        ++ ((List.range 34).map (fun k => leBytes 4 (u.sump.reactOf k))).flatten ++ slotsBytes u.sump.counters) (fun u => u))
  ∧ (∀ rq, Completes (.sumpConfig rq) (cmdH 0x1007 4) rq (fun _ => 1 ≤ rq.u16 0 ∧ rq.u16 0 ≤ 5000) (fun _ => [])
      (fun u => { u with sump := { u.sump with chipRstMs := rq.u16 0 } }))
  ∧ (∀ (hi : Bool) (mask : BitVec 32) (s : State), s.pcieDown = false → s.domainOn 142 = true →
      exec (.sumpStatusWrite hi mask) s = .next { mmio 0 s with
        sump := clearStatus (BitVec.ofNat 64 (if hi then mask.toNat * 0x100000000 else mask.toNat)) s.sump })

/-- The sump's own events (20_sump.md R429 to R436, R442). The events raised latch in ascending source order. An event that latches sets its
status bit, is counted, and with reaction bits is captured when the sump is armed, else merged; SAFE brings the safe state, ERR asserts
ERR_N. The entry in hand takes its slot of the history and the next starts; the first waiting block reset is applied; KILL_N latches
SUMP_KILL, whose SAFE cannot be taken away, and its release leaves the safe state. -/
def Obligations.SumpEventsTakeEffect : Prop :=
  (∀ (s : State) (l : SumpLine), s.sump.lines = [l] → l.src < 64 →
    exec .sumpLatch s = .next (latchLine l { s with sump := { s.sump with lines := [] } }))
  ∧ (∀ (l : SumpLine) (s : State),
      (latchLine l s).sump.status = s.sump.status ||| BitVec.ofNat 64 (2 ^ l.src)
      ∧ (latchLine l s).sump.events = bump s.sump.events
      ∧ (s.sump.actsOf l.src ≠ 0 → s.sump.armed = true →
          (latchLine l s).sump.first = some (l.entry s.stamp) ∧ (latchLine l s).sump.armed = false
          ∧ (latchLine l s).sump.runReact = BitVec.ofNat 6 (s.sump.actsOf l.src))
      ∧ (s.sump.actsOf l.src ≠ 0 → s.sump.armed = false →
          (latchLine l s).sump.first = s.sump.first ∧ (latchLine l s).sump.armed = false
          ∧ (latchLine l s).sump.merged = (if s.sump.merged = 0xFFFFFFFF then s.sump.merged else s.sump.merged + 1)
          ∧ (latchLine l s).sump.runReact = s.sump.runReact ||| BitVec.ofNat 6 (s.sump.actsOf l.src))
      ∧ (bitOf (s.sump.actsOf l.src) 5 = true → (latchLine l s).sump.safe = true)
      ∧ (bitOf (s.sump.actsOf l.src) 4 = true → (latchLine l s).sump.err = true))
  ∧ (∀ (s : State) (e : Entry), s.sump.writing = some e → ∃ t, exec .historyWrite s = .next t
      ∧ Tab.look {} t.sump.hist (s.sump.histCount.toNat % 16) = { e with hseq := s.sump.histCount }
      ∧ t.sump.histCount = s.sump.histCount + 1
      ∧ t.sump.writing = s.sump.pendEv.head?
      ∧ ChangesOnly [.sump, .mbx, .msix, .out] s t)
  ∧ (∀ (s : State) (src unit : Nat) (rest : List (Nat × Nat)), s.sump.blockRst = (src, unit) :: rest →
      exec .blockReset s = .next (resetBlock src unit { s with sump := { s.sump with blockRst := rest } }))
  ∧ (∀ s : State, s.sump.kill = false → exec .killNAssert s
      = .next (latchLine { src := 5, code := 0x1080 } { s with sump := { s.sump with kill := true } }))
  ∧ (∀ s : State, exec .killNRelease s = .next { s with sump := { s.sump with kill := false } })

/-- The system commands (18_pumphouse.md R394, R395, R399, R405, R409, R412, Table 18.11). A ping is answered OK at once with the ping payload;
system.info returns its payload; a staged run of bytes is written to the staging area; a commit of a good image writes the other slot and
prefers it, in RECOVERY with a restart, and answers HW_FAULT when the flash does not verify; a restart is answered OK first; a board-bus
transaction is put on its bus and runs as the bus tells; an opcode that is not defined is answered UNSUPPORTED. -/
def Obligations.SystemCommandsTakeEffect : Prop :=
  (∀ rq s, s.takesDoorbell rq.fn.val = true → (s.mbxAt rq.fn.val).busy = false → rq.length = 0 →
    exec (.systemPing rq) s = .next
      (respond rq.fn.val .ok 1 (pingPayload rq.fn.val (accept rq 0x0101 s)) (accept rq 0x0101 s)))
  ∧ (∀ rq, Completes (.systemInfo rq) (cmdHBA 0x0102 0) rq (fun _ => True)
      (fun u => pingPayload rq.fn.val u ++ slotHeader20 u u.ph.slot.toNat ++ slotHeader20 u (1 - u.ph.slot.toNat)
        ++ [BitVec.ofNat 8 u.preferred, BitVec.ofNat 8 u.tried] ++ leBytes 4 u.fuse.rollback.toNat) (fun u => u))
  ∧ (∀ rq, Completes (.systemFwStage rq) (cmdHCount 0x0103 8 4) rq
      (fun _ => 1 ≤ rq.u16 4 ∧ rq.u16 4 ≤ 4072 ∧ rq.u32 0 + rq.u16 4 ≤ 393344) (fun _ => [])
      (fun u => { u with ph := { u.ph with staging := Tab.putAll 0 u.ph.staging (rq.u32 0) (rq.bytes 8 (rq.u16 4)) } }))
  ∧ (∀ rq s, Served (cmdH 0x0104 4) rq s = true → commitOk rq s = true → s.ph.recovery = false →
      exec (.systemFwCommit rq true) s
        = .next (answer rq [] (preferNew (rq.u8 0 == 1) (commitImage true (accept rq 0x0104 s)))))
  ∧ (∀ rq s, Served (cmdH 0x0104 4) rq s = true → commitOk rq s = true → s.ph.recovery = true →
      exec (.systemFwCommit rq true) s
        = .next (restartPumphouse (answer rq [] (preferNew (rq.u8 0 == 1) (commitImage true (accept rq 0x0104 s))))))
  ∧ (∀ rq s, Served (cmdH 0x0104 4) rq s = true → commitOk rq s = true →
      exec (.systemFwCommit rq false) s = .next (respond rq.fn.val .hwFault 0 [] (commitImage false (accept rq 0x0104 s))))
  ∧ (∀ rq s, Served (cmdH 0x0105 4) rq s = true → rq.u32 0 = 0x52455354 →
      exec (.systemRestart rq) s = .next (restartPumphouse (answer rq [] (accept rq 0x0105 s))))
  ∧ (∀ rq env, Waits (.systemI2c rq env) (cmdH 0x0106 40) rq
      (fun u => rq.u8 0 ≤ 1 ∧ rq.u8 1 ≤ 127 ∧ rq.u8 2 ≤ 32 ∧ rq.u8 3 ≤ 32 ∧ (rq.u8 2 ≠ 0 ∨ rq.u8 3 ≠ 0) ∧ rq.u8 4 ≤ 1
        ∧ ¬ (rq.u8 0 = 0 ∧ rq.u8 1 = u.ph.desc.vcoreAddr.toNat) ∧ ¬ (rq.u8 0 = 1 ∧ (rq.u8 1 = 0x58 ∨ rq.u8 1 = 0x59)))
      (fun u => runTxn (rq.u8 0) env (u.setBus (rq.u8 0) { u.busAt (rq.u8 0) with
        txn := some { fn := some rq.fn.val, addr := BitVec.ofNat 8 (rq.u8 1), wdata := rq.bytes 8 (rq.u8 2), rlen := rq.u8 3,
                      pec := rq.u8 4 == 1 } })))
  ∧ (∀ rq code s, definedCode code.toNat = false → s.takesDoorbell rq.fn.val = true → (s.mbxAt rq.fn.val).busy = false →
      exec (.unsupportedOpcode rq code) s = .next (respond rq.fn.val .unsupported 0 [] (accept rq code.toNat s)))

/-- The mailbox registers (18_pumphouse.md R397, R401, 00_scope.md R12). A doorbell while BUSY sets OVERRUN and is counted, and does nothing
else; a value from CONS to PROD written to MBX_EVT_CONS is taken and lets the next event send its message; a read of MBX_EVT_LOST returns the
count and clears it. -/
def Obligations.MailboxRegistersTakeEffect : Prop :=
  (∀ (fn : Fin 17) s, s.takesDoorbell fn.val = true → (s.mbxAt fn.val).busy = true → ∃ t, exec (.mbxOverrun fn) s = .next t
      ∧ t.mbxAt fn.val = { s.mbxAt fn.val with overrun := true } ∧ t.ph.mbxOverrun = bump s.ph.mbxOverrun
      ∧ ChangesOnly [.mbx, .ph, .pmon] s t)
  ∧ (∀ (fn : Fin 17) v s, s.mmioLive fn.val = true →
      v - (s.mbxAt fn.val).evtCons ≤ (s.mbxAt fn.val).evtProd - (s.mbxAt fn.val).evtCons → ∃ t, exec (.mbxEvtConsWrite fn v) s = .next t
        ∧ t.mbxAt fn.val = { s.mbxAt fn.val with evtCons := v, msgSent := false } ∧ ChangesOnly [.mbx, .pmon] s t)
  ∧ (∀ (fn : Fin 17) v s, ¬ v - (s.mbxAt fn.val).evtCons ≤ (s.mbxAt fn.val).evtProd - (s.mbxAt fn.val).evtCons →
      exec (.mbxEvtConsWrite fn v) s = .next s)
  ∧ (∀ (fn : Fin 17) s, s.mmioLive fn.val = true → ∃ t, exec (.mbxEvtLostRead fn) s = .next t
      ∧ t.mbxAt fn.val = { s.mbxAt fn.val with evtLost := 0 }
      ∧ t.out = Out.readData fn.val (if fn.val = 0 then 0x100014 else 0x10014) (s.mbxAt fn.val).evtLost.toNat :: s.out
      ∧ ChangesOnly [.mbx, .out] s t)

/-- The Pumphouse's own events (18_pumphouse.md R394, R395, R402, R403, R409, R410, 22_counters_trace.md R474). The boot ROM starts the slot it
finds, or enters RECOVERY; a fresh slot that does not come up is abandoned for the other; a heartbeat counts and takes what the core has
done; a restart, by the watchdog or a trap, drops the running requests, counts, and raises PH_WDOG; the core stops with its stores done,
and wakes. -/
def Obligations.PumphouseEventsTakeEffect : Prop :=
  (∀ s n, s.ph.running = false → s.ph.ready = false → bootSlot s = some n →
      exec .boot s = .next { s with ph := { s.ph with slot := BitVec.ofNat 1 n, running := true, recovery := false } })
  ∧ (∀ s, s.ph.running = false → s.ph.ready = false → bootSlot s = none →
      exec .boot s = .next { s with ph := { s.ph with recovery := true, running := false } })
  ∧ (∀ s, s.fuse.fresh = true → s.ph.ready = false → s.ph.running = true → s.ph.slot.toNat = s.preferred →
      ∃ t, exec .slotFallback s = .next t ∧ t.fuse = { (writeBootControl (1 - s.preferred) 1 s).fuse with fresh := false }
        ∧ t.ph = { s.ph with running := false }
        ∧ t.sump.lines = s.sump.lines ++ [{ src := 30, code := 0x0182, unit := 0, cause := 0, value := 0, berth := none, kind := 0 }]
        ∧ ChangesOnly [.fuse, .ph, .sump] s t)
  ∧ (∀ run s, s.ph.running = true → s.ph.idle = true →
      exec (.heartbeat run) s = .next { s with ph := { s.ph with heartbeat := s.ph.heartbeat + 1 } })
  ∧ (∀ run s, s.ph.running = true → s.ph.idle = false → ∃ t, exec (.heartbeat run) s = .next t
      ∧ t.ph = { s.ph with heartbeat := s.ph.heartbeat + 1, storeBuf := run.buffered,
                           fetchDiscard := bumpBy s.ph.fetchDiscard run.discarded }
      ∧ t.trace = run.retired.foldl (fun x i => x.retire i s.stamp) s.trace ∧ ChangesOnly [.ph, .trace, .pmon] s t)
  ∧ (∀ s, ∃ t, exec .watchdog s = .next t
      ∧ t.ph = { s.ph with ready := false, running := false, restarts := s.ph.restarts + 1, restartEvent := true, storeBuf := [],
                           idle := true, idleCause := 1 }
      ∧ (∀ fn, (t.mbxAt fn).busy = false)
      ∧ t.sump.lines = s.sump.lines ++ [{ src := 30, code := 0x0180, unit := 0, cause := 0, value := 0, berth := none, kind := 0 }]
      ∧ ChangesOnly [.ph, .mbx, .sump, .trace] s t)
  ∧ (∀ cause pc s, ∃ t, exec (.phTrap cause pc) s = .next t
      ∧ t.ph = { s.ph with traps := bump s.ph.traps, ready := false, running := false, restarts := s.ph.restarts + 1,
                           restartEvent := true, storeBuf := [], idle := true, idleCause := 1 }
      ∧ t.sump.lines = s.sump.lines ++
          [{ src := 30, code := 0x0181, unit := 0, cause := BitVec.ofNat 8 cause.toNat, value := pc, berth := none, kind := 0 },
           { src := 30, code := 0x0180, unit := 0, cause := 0, value := 0, berth := none, kind := 0 }]
      ∧ ChangesOnly [.ph, .mbx, .sump, .trace] s t)
  ∧ (∀ pc s, s.ph.idle = false → exec (.pumphouseIdle pc) s = .next { s with
      ph := { s.ph with storeBuf := [], idle := true, idleCause := 0 }, trace := ({ s.trace with pc := pc }).idleIn 0 s.stamp })
  ∧ (∀ pc s, s.ph.idle = true → ∃ t, exec (.pumphouseWake pc) s = .next t ∧ t.ph = { s.ph with idle := false }
      ∧ t.trace = ({ s.trace with pc := pc, nextPc := pc, retired := s.trace.retired + 1 }).idleOut s.ph.idleCause.toNat s.stamp
      ∧ ChangesOnly [.ph, .trace, .pmon] s t)

/-- The board-management buses (18_pumphouse.md R405, R406). A lost arbitration is counted and backs off, or after the third retry ends the
transaction with TIMEOUT; after the back-off a lost write that reads back as its own is done, and anything else is retried; a stuck bus is
counted and its transaction ends with TIMEOUT; an address not acknowledged is retried once. -/
def Obligations.BoardBusesTakeEffect : Prop :=
  (∀ (b : Fin 2) s, ¬ ((s.busAt b.val).txn.isSome = true ∧ 3 ≤ (s.busAt b.val).retries) →
      exec (.arbitrationLost b) s = .next (s.setBus b.val { s.busAt b.val with
        arbLost := bump (s.busAt b.val).arbLost, backoff := (s.busAt b.val).txn.isSome }))
  ∧ (∀ (b : Fin 2) s, (s.busAt b.val).txn.isSome = true → 3 ≤ (s.busAt b.val).retries →
      exec (.arbitrationLost b) s = .next (endTxn b.val .timeout [] (s.setBus b.val { s.busAt b.val with
        arbLost := bump (s.busAt b.val).arbLost, backoff := true })))
  ∧ (∀ (b : Fin 2) rb env s t, (s.busAt b.val).txn = some t → (s.busAt b.val).backoff = true → readBackOwn t rb = true →
      exec (.arbitrationBackoffEnd b rb env) s = .next (endTxn b.val .ok [] s))
  ∧ (∀ (b : Fin 2) rb env s t, (s.busAt b.val).txn = some t → (s.busAt b.val).backoff = true → readBackOwn t rb = false →
      exec (.arbitrationBackoffEnd b rb env) s = .next (runTxn b.val env (s.setBus b.val { s.busAt b.val with
        backoff := false, retries := (s.busAt b.val).retries + 1 })))
  ∧ (∀ (b : Fin 2) s, exec (.i2cBusStuck b) s
      = .next (endTxn b.val .timeout [] { s with ph := { s.ph with i2cStuck := bump s.ph.i2cStuck } }))
  ∧ (∀ (b : Fin 2) env s, (s.busAt b.val).nakRetried = true → exec (.i2cNakRetry b env) s = .next (runTxn b.val env s))
  ∧ (∀ (b : Nat) (t : I2cTxn) rdata s, (s.busAt b).txn = some t → t.pec = false →
      runTxn b (.acked rdata true) s = endTxn b .ok (padTo t.rlen rdata) (emit (.i2c b t.addr.toNat t.wdata) s))

/-- The latency guard's commands (03_self_timed_core.md R81 to R83, R86, R89, Tables 03.4, 03.6, 03.7). A configuration and a cap in range are taken
at once, or while a VOUT_COMMAND is in flight held for the next read; the status is the word, the bound, the 24 predictions and the time in
conflict. -/
def Obligations.GuardCommandsTakeEffect : Prop :=
  (∀ rq, Completes (.powerGuardConfig rq) (cmdH 0x1120 12) rq
      (fun _ => rq.u8 0 ≤ 1 ∧ rq.u8 1 % 5 = 0 ∧ 5 ≤ rq.u8 1 ∧ rq.u8 1 ≤ 25 ∧ rq.u16 2 % 5 = 0 ∧ 290 ≤ rq.u16 2 ∧ rq.u16 2 ≤ 1000
        ∧ 10 ≤ rq.u16 4 ∧ rq.u16 4 ≤ 100 ∧ 8 ≤ rq.u8 6 ∧ rq.u8 6 ≤ 40 ∧ 8 ≤ rq.u8 7 ∧ rq.u8 7 ≤ 40) (fun _ => [])
      (fun u => (fun c : GuardCfg => if u.guard.inFlight then { u with guard := { u.guard with pendCfg := some c } } else applyCfg c u)
        { enable := rq.u8 0 == 1, stepMv := BitVec.ofNat 8 (rq.u8 1), target := BitVec.ofNat 16 (rq.u16 2),
          hyst := BitVec.ofNat 16 (rq.u16 4), ceil := BitVec.ofNat 8 (rq.u8 6), fixed := BitVec.ofNat 8 (rq.u8 7) }))
  ∧ (∀ (c : GuardCfg) (s : State), s.guard.running = false → applyCfg c s = { s with guard := { s.guard with
      cfgEnable := c.enable, enabled := false, stepMv := c.stepMv, target := c.target, hyst := c.hyst, ceil := c.ceil, fixed := c.fixed,
      downRun := 0 } })
  ∧ (∀ rq, Completes (.powerGuardStatus rq) (cmdHBA 0x1121 0) rq (fun _ => rq.length = 0)
      (fun u => leBytes 4 (guardStatusWord u.guard) ++ leBytes 4 u.guard.latBound.toNat
        ++ (Tab.run 0 u.guard.preds 0 24).map (fun p => predByte p.toNat) ++ slotBytes u.guard.conflictUs) (fun u => u))
  ∧ (∀ rq, Completes (.powerSetCap rq) (cmdH 0x1123 4) rq
      (fun u => (rq.u16 0 = 0 ∨ 30 ≤ rq.u16 0 ∧ rq.u16 0 ≤ 250) ∧ rq.u8 2 ≤ 1 ∧ u.guard.inFlight = true) (fun _ => [])
      (fun u => { u with guard := { u.guard with pendCap := some (BitVec.ofNat 16 (rq.u16 0), rq.u8 2 == 1) } }))
  ∧ (∀ rq, Completes (.powerSetCap rq) (cmdH 0x1123 4) rq
      (fun u => 30 ≤ rq.u16 0 ∧ rq.u16 0 ≤ 250 ∧ rq.u8 2 ≤ 1 ∧ u.guard.inFlight = false) (fun _ => [])
      (fun u => { u with guard := { u.guard with capW := BitVec.ofNat 16 (rq.u16 0), capFirst := rq.u8 2 == 1 } }))
  ∧ (∀ rq, Completes (.powerSetCap rq) (cmdH 0x1123 4) rq
      (fun u => rq.u16 0 = 0 ∧ rq.u8 2 ≤ 1 ∧ u.guard.inFlight = false ∧ u.guard.conflict = false) (fun _ => [])
      (fun u => { u with guard := { u.guard with capW := 0, capFirst := rq.u8 2 == 1, vcap := none, belowFloor := false } }))

/-- The latency guard's own events (03_self_timed_core.md R76 to R83, R90). A read of the sentinels while the guard runs forms P, and leaves the
advertised bound no lower than P; the bound returns to the target in one step; a power reading moves VCAP and BELOW_FLOOR; an acknowledged
VOUT_COMMAND ends its flight, and one that is not freezes the request and raises GUARD_PMBUS once. -/
def Obligations.GuardEventsTakeEffect : Prop :=
  (∀ preds s, s.guard.running = true → ∃ t, exec (.sentinelRead preds) s = .next t
      ∧ t.guard.pred = (s.guard.sample ((preds.take 24).map BitVec.toNat)).pred
      ∧ t.guard.setAside = (s.guard.sample ((preds.take 24).map BitVec.toNat)).setAside
      ∧ t.guard.pred.toNat ≤ t.guard.latBound.toNat
      ∧ ChangesOnly [.guard, .ledg, .cist, .sump, .pmon, .out] s t)
  ∧ (∀ s, s.guard.enabled = true → s.guard.seen = true → s.guard.short = false → s.guard.pred.toNat ≤ s.guard.target.toNat →
      s.guard.target.toNat < s.guard.latBound.toNat → ∃ t, exec .latBoundReturn s = .next t
        ∧ t.guard.latBound.toNat = s.guard.target.toNat ∧ t.guard.conflict = (s.guard.conflict && !s.guard.capFirst)
        ∧ ChangesOnly [.guard, .ledg, .cist, .sump, .pmon, .out] s t)
  ∧ (∀ watts s, s.guard.running = true → s.guard.capW ≠ 0 → ∃ t, exec (.powerReading watts) s = .next t
      ∧ t.guard.vcap = (s.guard.readPower watts).vcap
      ∧ t.guard.belowFloor = (decide (s.guard.capW.toNat < watts) && s.guard.aboveCap (vcoreFloor + 1))
      ∧ ChangesOnly [.guard, .sump, .out] s t)
  ∧ (∀ (g : Guard) (watts c : Nat), g.vcap = some c →
      (g.readPower watts).vcap = some (if g.capW.toNat < watts then max vcoreFloor (c - 1)
        else if 100 * watts ≤ 97 * g.capW.toNat then min 40 (c + 1) else c))
  ∧ (∀ s, s.guard.inFlight = true →
      exec (.guardPmbus true) s = .next { s with guard := { s.guard with inFlight := false, frozen := false, retries := 0 } })
  ∧ (∀ s, s.guard.inFlight = true → ∃ t, exec (.guardPmbus false) s = .next t
      ∧ t.guard.frozen = true ∧ t.guard.vcode = s.guard.vcode
      ∧ t.sump.lines = (if s.guard.frozen then s.sump.lines else
          s.sump.lines ++ [{ src := 1, code := 0x1182, unit := 0, cause := 0, value := 0, berth := none, kind := 0 }])
      ∧ ChangesOnly [.guard, .ledg, .cist, .sump, .pmon, .out] s t)

/-- The power commands (21_power_reset.md R449, R453, R464, 23_test.md R485). A domain that is as asked is answered OK; one that may switch is noted
as switching and answered later, an up switch suppressing down steps of the guard for 50 reads; the status words; a chip reset is answered OK
and begins last gasp under the safe state; test.mbist takes the domain out of service and is answered later. -/
def Obligations.PowerCommandsTakeEffect : Prop :=
  (∀ rq, Completes (.powerDomain rq) { cmdHB 0x1101 4 with own := ownPcs } rq
      (fun u => rq.u8 0 ≤ 143 ∧ rq.u8 1 ≤ 1 ∧ ¬ (u.bondMember (rq.u8 0) = true ∧ rq.u8 0 < 64) ∧ u.isSwitching (rq.u8 0) = false
        ∧ u.domainOn (rq.u8 0) = (rq.u8 1 == 1)) (fun _ => []) (fun u => u))
  ∧ (∀ rq, Waits (.powerDomain rq) { cmdHB 0x1101 4 with own := ownPcs } rq
      (fun u => rq.u8 0 ≤ 143 ∧ rq.u8 1 = 1 ∧ ¬ (u.bondMember (rq.u8 0) = true ∧ rq.u8 0 < 64) ∧ u.isSwitching (rq.u8 0) = false
        ∧ u.domainOn (rq.u8 0) = false)
      (fun u => { u with pwr := { u.pwr with switching := u.pwr.switching ++ [(rq.u8 0, true, some rq.fn.val)] },
                         guard := { u.guard with suppress := 50 } }))
  ∧ (∀ rq, Waits (.powerDomain rq) { cmdHB 0x1101 4 with own := ownPcs } rq
      (fun u => rq.u8 0 ≤ 143 ∧ rq.u8 1 = 0 ∧ ¬ (u.bondMember (rq.u8 0) = true ∧ rq.u8 0 < 64) ∧ u.isSwitching (rq.u8 0) = false
        ∧ u.domainOn (rq.u8 0) = true ∧ u.mayOff (rq.u8 0) = true)
      (fun u => beginOff (rq.u8 0) { u with pwr := { u.pwr with switching := u.pwr.switching ++ [(rq.u8 0, false, some rq.fn.val)] } }))
  ∧ (∀ rq, TurnsAway (.powerDomain rq) { cmdHB 0x1101 4 with own := ownPcs } rq
      (fun u => rq.u8 0 ≤ 143 ∧ rq.u8 1 = 0 ∧ ¬ (u.bondMember (rq.u8 0) = true ∧ rq.u8 0 < 64) ∧ u.isSwitching (rq.u8 0) = false
        ∧ u.domainOn (rq.u8 0) = true ∧ u.mayOff (rq.u8 0) = false) .state)
  ∧ (∀ rq, Completes (.powerStatus rq) (cmdH 0x1102 0) rq (fun _ => rq.length = 0)
      (fun u => ((List.range 5).map (fun w => leBytes 4 (u.pwr.onWord w))).flatten ++ leBytes 4 u.pwr.cause.toNat
        ++ leBytes 4 u.pwr.supplyWord ++ slotsBytes u.pwr.counters) (fun u => u))
  ∧ (∀ rq s, Served (cmdH 0x1103 4) rq s = true → rq.u32 0 = 0x43484950 → s.pwr.resetPending = false → s.pwr.lastGasp = false →
      exec (.powerChipReset rq) s = .next (askReset (answer rq [] (accept rq 0x1103 s))))
  ∧ (∀ s, (askReset s).pwr.resetPending = true ∧ (askReset s).pwr.lastGasp = true ∧ (askReset s).sump.safe = true
      ∧ (askReset s).sump.scopeAll = true ∧ (askReset s).sump.chipRstRun = true ∧ (askReset s).pwr.lastGasps = bump s.pwr.lastGasps)
  ∧ (∀ rq s, Served (cmdH 0x1103 4) rq s = true → rq.u32 0 = 0x43484950 → s.pwr.resetPending = true ∨ s.pwr.lastGasp = true →
      exec (.powerChipReset rq) s = .next (respond rq.fn.val .busy 0 [] (accept rq 0x1103 s)))
  ∧ (∀ rq, Waits (.testMbist rq) (cmdH 0x1304 4) rq
      (fun u => rq.u8 0 ≤ 143 ∧ ¬ (u.bondMember (rq.u8 0) = true ∧ rq.u8 0 < 64) ∧ u.isSwitching (rq.u8 0) = false
        ∧ u.domainOn (rq.u8 0) = true ∧ u.mayOff (rq.u8 0) = true)
      (fun u => (fun v : State => if v.quiesced (rq.u8 0) && !(88 ≤ rq.u8 0 && rq.u8 0 < 120) then switchOff (rq.u8 0) v else v)
        (beginOff (rq.u8 0) { u with pwr := { u.pwr with bist := u.pwr.bist ++ [(rq.u8 0, rq.fn.val)] } })))

/-- Domain switches (21_power_reset.md R449, 23_test.md R485). A switch that is done takes the domain off or on, and is counted and answered OK; a
failed memory test leaves it off, raises PWR_SUPPLY_FAULT with CAUSE 3 and answers HW_FAULT; a bank group that still holds cells at its
time-out returns to the free list and answers TIMEOUT. -/
def Obligations.DomainSwitchesTakeEffect : Prop :=
  (∀ (d : Fin 144) ok mem s fn, s.pwr.switching.find? (fun e => e.1 == d.val) = some (d.val, false, fn) → s.quiesced d.val = true →
      exec (.domainSwitchDone d ok mem) s = .next (endSwitch d.val fn .ok (switchOff d.val s)))
  ∧ (∀ (d : Fin 144) mem s fn, s.pwr.switching.find? (fun e => e.1 == d.val) = some (d.val, true, fn) →
      exec (.domainSwitchDone d true mem) s = .next (endSwitch d.val fn .ok (switchOn d.val s)))
  ∧ (∀ (d : Fin 144) mem s fn, s.pwr.switching.find? (fun e => e.1 == d.val) = some (d.val, true, fn) →
      exec (.domainSwitchDone d false mem) s = .next (endSwitch d.val fn .hwFault { s with sump := { s.sump with lines := s.sump.lines ++
        [{ src := 2, code := 0x1190, unit := 0, cause := 3, value := 0, berth := none, kind := 0 }] } }))
  ∧ (∀ (d : Fin 144) ok mem s fn, s.pwr.switching.find? (fun e => e.1 == d.val) = none →
      s.pwr.bist.find? (fun e => e.1 == d.val) = some (d.val, fn) → s.quiesced d.val = true →
      exec (.domainSwitchDone d ok mem) s = .next (endBist d.val fn ok mem s))
  ∧ (∀ (g : Fin 32) s fn, s.pwr.switching.find? (fun e => e.1 == 88 + g.val) = some (88 + g.val, false, fn) →
      s.quiesced (88 + g.val) = false →
      exec (.bankGroupOffTimeout g) s
        = .next (endSwitch (88 + g.val) fn .timeout (guarBack { s with rsv := { s.rsv with draining := maskOut s.rsv.draining g.val } })))
  ∧ (∀ d s, 120 ≤ d → d < 128 →
      switchOff d s = { s with pwr := { s.pwr with on := maskOut s.pwr.on d, back := maskIn s.pwr.back d } })

/-- Resets and start-up (21_power_reset.md R450 to R457, R463). A chip reset leaves the time, the sump, the trace, the fuses, the flash, the
cartridges and the test access port, and returns everything else to reset; PORST_N leaves the fuses, the cartridges and the test access port;
PERST_N resets every mailbox and message; start-up sets MBX_READY; a rail that fails is raised and noted; the host link goes down. -/
def Obligations.ResetsTakeEffect : Prop :=
  (∀ s, exec .chipReset s = .next (resetChip (if s.pwr.gaspCause = 0 then 1 else s.pwr.gaspCause) s))
  ∧ (∀ c s, (resetChip c s).fuse = s.fuse ∧ (resetChip c s).tap = s.tap ∧ (resetChip c s).glb = State.reset.glb
      ∧ (resetChip c s).port = [] ∧ (resetChip c s).quad = [] ∧ (resetChip c s).frames = [] ∧ (resetChip c s).mbx = []
      ∧ (resetChip c s).fwd = {} ∧ (resetChip c s).strn = {} ∧ (resetChip c s).rsv = {} ∧ (resetChip c s).weir = {}
      ∧ (resetChip c s).rdma = {} ∧ (resetChip c s).shtl = {} ∧ (resetChip c s).ddr = []
      ∧ (resetChip c s).pwr.cause = c ∧ (resetChip c s).pwr.resetRun = true ∧ (resetChip c s).ph = { restarts := s.ph.restarts }
      ∧ (resetChip c s).sump.status = s.sump.status ∧ (resetChip c s).sump.hist = s.sump.hist
      ∧ (resetChip c s).sump.first = s.sump.first ∧ (resetChip c s).tide.nowFs = s.tide.nowFs
      ∧ (resetChip c s).guard = { vcode := s.guard.vcode })
  ∧ (∀ s, s.sump.chipRstRun = true → ¬ (s.pwr.pwrfail = true ∧ s.pwr.lastGasp = true) →
      exec .chipRstDelayExpiry s = .next (resetChip s.pwr.gaspCause s))
  ∧ (∀ s, s.sump.chipRstRun = true → s.pwr.pwrfail = true → s.pwr.lastGasp = true →
      exec .chipRstDelayExpiry s = .next { s with sump := { s.sump with chipRstRun := false } })
  ∧ (∀ s, exec .porstN s = .next { State.reset with
      fuse := s.fuse, cist := { bay := s.cist.afterReset }, tap := s.tap, sump := { kill := s.sump.kill, safe := s.sump.kill },
      pwr := { porst := true }, out := s.out, free := s.free, pending := s.pending })
  ∧ (∀ s, ∃ t, exec .perstN s = .next t ∧ t.mbx = [] ∧ t.msix = [] ∧ t.vfEnable = false ∧ t.pcieDown = false
      ∧ (∀ p ∈ [Part.glb, .tide, .guard, .quad, .pump, .fwd, .weir, .shtl, .ledg, .cist, .ddr, .ph, .fuse, .pwr, .lane, .tap, .therm],
          p.Same s t))
  ∧ (∀ train s, s.ph.running = true → s.ph.ready = false → s.pwr.restartUp = false → s.guard.running = false →
      s.ph.restartEvent = false → exec (.startupComplete train) s = .next (setReady (coldStart train s)))
  ∧ (∀ train s, s.ph.running = true → s.ph.ready = false → s.pwr.restartUp = false → s.guard.running = true →
      s.ph.restartEvent = true →
      exec (.startupComplete train) s = .next (postAll s.functions 0x0103 [s.ph.restarts] (setReady s)))
  ∧ (∀ s, (setReady s).ph.ready = true ∧ (setReady s).ph.restartEvent = false ∧ (setReady s).fuse.fresh = false
      ∧ (setReady s).pwr = { s.pwr with porst := false, resetRun := false })
  ∧ (∀ rail high s, exec (.supplyFault rail high) s = .next { s with
      pwr := { s.pwr with supplyOk := maskOut s.pwr.supplyOk rail.val },
      sump := { s.sump with lines := s.sump.lines ++
        [{ src := 2, code := 0x1190, unit := BitVec.ofNat 8 rail.val, cause := if high then 2 else 1, value := 0, berth := none,
           kind := 0 }] } })
  ∧ (∀ s, exec (.pcieLinkDown true) s = .next { s with sump := { s.sump with lines := s.sump.lines ++
        [{ src := 31, code := 0x0191, unit := 0, cause := 0, value := 0, berth := none, kind := 0 }] } })
  ∧ (∀ s, s.pcieDown = false → exec (.pcieLinkDown false) s = .next { s with
      pcieDown := true,
      sump := { s.sump with lines := s.sump.lines ++
        [{ src := 31, code := 0x0190, unit := 0, cause := 0, value := 0, berth := none, kind := 0 }] } })

/-- PWRFAIL_N and last gasp (21_power_reset.md R457 to R460, 20_sump.md R437). The failure latches PWR_FAIL, whose reaction holds the safe state,
and begins last gasp, or before MBX_READY stops start-up; appending stops with the power-fail seals, and in last gasp the other domains go
off; last gasp ends when no page waits; the release of PWRFAIL_N makes the failure a brown-out. -/
def Obligations.LastGaspTakesEffect : Prop :=
  (∀ s, s.pwr.pwrfail = false → s.ph.ready = true → bitOf (s.sump.actsOf 4) 5 = true →
      ∃ t, exec .pwrfailNAssert s = .next t ∧ t.pwr.pwrfail = true ∧ t.pwr.lastGasp = true ∧ t.sump.safe = true
        ∧ t.sump.status = s.sump.status ||| 16 ∧ t.sump.events = bump s.sump.events)
  ∧ (∀ s, s.pwr.pwrfail = false → s.ph.ready = false → s.ph.restartEvent = false →
      ∃ t, exec .pwrfailNAssert s = .next t ∧ t.pwr.pwrfail = true ∧ t.pwr.restartUp = true ∧ t.sump.status = s.sump.status ||| 16)
  ∧ (∀ s, s.ledg.stopped = false → s.pwr.lastGasp = true → exec .appendingStop s = .next (gaspOff (stopAppending s)))
  ∧ (∀ s, s.ledg.stopped = false → s.pwr.lastGasp = false → s.sump.chipRstRun = true →
      exec .appendingStop s = .next (stopAppending s))
  ∧ (∀ s, (stopAppending s).ledg.stopped = true)
  ∧ (∀ s, s.pwr.lastGasp = true → s.ledg.stopped = true → s.pagesWait = false → s.pwr.resetPending = false →
      exec .lastGaspEnd s = .next { s with pwr := { s.pwr with lastGasp := false } })
  ∧ (∀ s, s.pwr.lastGasp = true → s.ledg.stopped = true → s.pagesWait = false → s.pwr.resetPending = true →
      exec .lastGaspEnd s = .next (resetChip s.pwr.gaspCause s))
  ∧ (∀ s, s.pwr.pwrfail = true → s.pwr.restartUp = true → exec .pwrfailNRelease s = .next { s with
      pwr := { s.pwr with pwrfail := false, restartUp := false }, ph := { s.ph with running := false } })
  ∧ (∀ s, s.pwr.pwrfail = true → s.pwr.restartUp = false → s.pwr.lastGasp = true → exec .pwrfailNRelease s = .next { s with
      pwr := { s.pwr with pwrfail := false, brownOut := true, resetPending := true, gaspCause := 3 },
      sump := { s.sump with chipRstRun := true } })
  ∧ (∀ s, s.pwr.pwrfail = true → s.pwr.restartUp = false → s.pwr.lastGasp = false → s.ledg.stopped = true →
      exec .pwrfailNRelease s = .next (resetChip 3 { s with pwr := { s.pwr with pwrfail := false } }))

/-- The DRAM commands (17_dram.md R379, R386 to R388, R391, R392). A configuration is taken at once, or in self-refresh and during a speed change held
for the exit; the status and the capture are returned; a recovery of a frozen channel is started and answered later; a read of an aligned
block is issued on a serving channel and waits otherwise; on a frozen or failed channel it answers FROZEN. -/
def Obligations.DramCommandsTakeEffect : Prop :=
  (∀ rq, Completes (.dramConfig rq) (cmdH 0x0F01 16) rq
      (fun u => rq.u8 0 ≤ 1 ∧ rq.u32 4 ≤ 1000000 ∧ rq.u16 8 ≤ 1000 ∧ rq.u16 10 ≤ 1000 ∧ u.noDram (rq.u8 0) = false
        ∧ ((u.ddrAt (rq.u8 0)).st = 3 ∨ (u.ddrAt (rq.u8 0)).st = 4)) (fun _ => [])
      (fun u => u.setDdr (rq.u8 0) { u.ddrAt (rq.u8 0) with pendCfg := some (rq.u32 4, rq.u16 8, rq.u16 10) }))
  ∧ (∀ rq, Completes (.dramConfig rq) (cmdH 0x0F01 16) rq
      (fun u => rq.u8 0 ≤ 1 ∧ rq.u32 4 ≤ 1000000 ∧ rq.u16 8 ≤ 1000 ∧ rq.u16 10 ≤ 1000 ∧ u.noDram (rq.u8 0) = false
        ∧ (u.ddrAt (rq.u8 0)).st ≠ 3 ∧ (u.ddrAt (rq.u8 0)).st ≠ 4) (fun _ => [])
      (fun u => u.setDdr (rq.u8 0) { u.ddrAt (rq.u8 0) with
        srIdle := rq.u32 4, patrolGap := rq.u16 8, autoRecover := rq.u16 10, pendCfg := none }))
  ∧ (∀ rq, Completes (.dramStatus rq) (cmdH 0x0F02 4) rq (fun u => rq.u8 0 ≤ 1 ∧ u.noDram (rq.u8 0) = false)
      (fun u => leBytes 8 (u.ddrAt (rq.u8 0)).word ++ (u.ddrAt (rq.u8 0)).capture ++ slotsBytes (u.ddrAt (rq.u8 0)).counters) (fun u => u))
  ∧ (∀ rq, Completes (.dramCapture rq) (cmdH 0x0F03 4) rq
      (fun u => rq.u8 0 ≤ 1 ∧ u.noDram (rq.u8 0) = false ∧ (u.ddrAt (rq.u8 0)).froze = true)
      (fun u => (u.ddrAt (rq.u8 0)).capture ++ (u.ddrAt (rq.u8 0)).histBytes) (fun u => u))
  ∧ (∀ rq, Waits (.dramRecover rq) (cmdH 0x0F04 4) rq
      (fun u => rq.u8 0 ≤ 1 ∧ u.noDram (rq.u8 0) = false ∧ (u.ddrAt (rq.u8 0)).st = 5 ∧ (u.ddrAt (rq.u8 0)).recovering = false)
      (fun u => u.setDdr (rq.u8 0) { u.ddrAt (rq.u8 0) with recovering := true, autoRun := false, recoverFn := some rq.fn.val }))
  ∧ (∀ rq err, Waits (.dramRead rq err) (cmdH 0x0F05 12) rq
      (fun u => rq.u8 0 ≤ 1 ∧ rq.u64 4 % 64 = 0 ∧ u.noDram (rq.u8 0) = false ∧ dramChannel (rq.u64 4) = rq.u8 0
        ∧ u.dramRangeOk (rq.u64 4) 64 = true ∧ (u.ddrAt (rq.u8 0)).serving = true)
      (fun u => issueRequest (rq.u8 0)
        { client := 5, write := false, addr := BitVec.ofNat 64 (rq.u64 4), data := [], err := err, fn := some rq.fn.val }
        (countDram .read false (rq.u64 4) u)))
  ∧ (∀ rq err, Waits (.dramRead rq err) (cmdH 0x0F05 12) rq
      (fun u => rq.u8 0 ≤ 1 ∧ rq.u64 4 % 64 = 0 ∧ u.noDram (rq.u8 0) = false ∧ dramChannel (rq.u64 4) = rq.u8 0
        ∧ u.dramRangeOk (rq.u64 4) 64 = true ∧ ((u.ddrAt (rq.u8 0)).st = 3 ∨ (u.ddrAt (rq.u8 0)).st = 4))
      (fun u => holdRequest (rq.u8 0)
        { client := 5, write := false, addr := BitVec.ofNat 64 (rq.u64 4), data := [], err := err, fn := some rq.fn.val }
        (countDram .read false (rq.u64 4) u)))
  ∧ (∀ rq err, TurnsAway (.dramRead rq err) (cmdH 0x0F05 12) rq
      (fun u => rq.u8 0 ≤ 1 ∧ rq.u64 4 % 64 = 0 ∧ u.noDram (rq.u8 0) = false ∧ dramChannel (rq.u64 4) = rq.u8 0
        ∧ u.dramRangeOk (rq.u64 4) 64 = true ∧ ((u.ddrAt (rq.u8 0)).st = 5 ∨ (u.ddrAt (rq.u8 0)).st = 6)) .frozen)

/-- Accesses of the DRAM (17_dram.md R376, R384, R387, R389). On a serving channel a write without an error stores its bytes at the address of the
request and leaves every other byte of both channels as it was, and a read stores nothing; a request that cannot be issued waits with its
bytes unwritten. A command-bus parity error freezes the channel: it is FROZEN, its capture holds the address, the kind and the client, and no
request waits any more. -/
def Obligations.DramAccessesTakeEffect : Prop :=
  (∀ (c : Fin 2) client (addr : BitVec 64) data s, dramChannel addr.toNat = c.val → addr.toNat % 64 + data.length ≤ 64 →
      s.dramRangeOk addr.toNat (max 1 data.length) = true → (s.ddrAt c.val).serving = true →
      ∃ t, exec (.dramRequest c client true addr data .ok) s = .next t
        ∧ (∀ a, Tab.look 0 (t.ddrAt c.val).mem a
            = if addr.toNat - dramBase c.val ≤ a ∧ a < addr.toNat - dramBase c.val + data.length
              then data.getD (a - (addr.toNat - dramBase c.val)) 0 else Tab.look 0 (s.ddrAt c.val).mem a)
        ∧ (∀ k, k ≠ c.val → t.ddrAt k = s.ddrAt k) ∧ ChangesOnly [.ddr, .pmon, .out] s t)
  ∧ (∀ (c : Fin 2) client (addr : BitVec 64) data s, dramChannel addr.toNat = c.val → addr.toNat % 64 + data.length ≤ 64 →
      s.dramRangeOk addr.toNat (max 1 data.length) = true → (s.ddrAt c.val).serving = true →
      ∃ t, exec (.dramRequest c client false addr data .ok) s = .next t
        ∧ (∀ k, (t.ddrAt k).mem = (s.ddrAt k).mem) ∧ ChangesOnly [.ddr, .pmon, .out] s t)
  ∧ (∀ (c : Fin 2) client write (addr : BitVec 64) data err s, dramChannel addr.toNat = c.val → addr.toNat % 64 + data.length ≤ 64 →
      s.dramRangeOk addr.toNat (max 1 data.length) = true → (s.ddrAt c.val).serving = false →
      2 ≤ (s.ddrAt c.val).st → (s.ddrAt c.val).st < 5 →
      ∃ t, exec (.dramRequest c client write addr data err) s = .next t
        ∧ (t.ddrAt c.val).queue = (s.ddrAt c.val).queue
            ++ [{ client := clientCode client, write := write, addr := addr, data := data, err := err, fn := none }]
        ∧ (∀ k, (t.ddrAt k).mem = (s.ddrAt k).mem) ∧ ChangesOnly [.ddr, .pmon, .out] s t)
  ∧ (∀ (c : Fin 2) client write (addr : BitVec 64) data s, dramChannel addr.toNat = c.val → addr.toNat % 64 + data.length ≤ 64 →
      s.dramRangeOk addr.toNat (max 1 data.length) = true → (s.ddrAt c.val).serving = true →
      ∃ t, exec (.dramRequest c client write addr data .caParity) s = .next t
        ∧ (t.ddrAt c.val).st = 5 ∧ (t.ddrAt c.val).froze = true ∧ (t.ddrAt c.val).failKind = 2
        ∧ (t.ddrAt c.val).failAddr = addr ∧ (t.ddrAt c.val).failClient = BitVec.ofNat 3 (clientCode client)
        ∧ (t.ddrAt c.val).queue = [] ∧ (t.ddrAt c.val).mem = (s.ddrAt c.val).mem
        ∧ (t.ddrAt c.val).freezes = bump (s.ddrAt c.val).freezes)

/-- The DRAM channels' own events (17_dram.md R380 to R386, R388, R389). An idle channel enters self-refresh and, when that is done, stays there or
starts the exit for what waits; the exit and a speed change resume the channel; refresh, a temperature read, a patrol read and a drift update
on a serving channel put their commands out; a recovery that trains brings the channel back, its failing block poisoned, and one that does
not leaves it FAILED. -/
def Obligations.DramEventsTakeEffect : Prop :=
  (∀ (c : Fin 2) s, (s.ddrAt c.val).serving = true → (s.ddrAt c.val).srIdle ≠ 0 → ∃ t, exec (.srIdleExpiry c) s = .next t
      ∧ (t.ddrAt c.val).srEntering = true ∧ (t.ddrAt c.val).mem = (s.ddrAt c.val).mem
      ∧ t.out = .dram c.val 7 :: .dram c.val 4 :: s.out ∧ ChangesOnly [.ddr, .out] s t)
  ∧ (∀ (c : Fin 2) s, (s.ddrAt c.val).srEntering = true → (s.ddrAt c.val).st = 2 → (s.ddrAt c.val).queue = [] →
      exec (.srEntryDone c) s = .next (s.setDdr c.val { s.ddrAt c.val with
        srEntering := false, srEntries := bump (s.ddrAt c.val).srEntries, st := 3 }))
  ∧ (∀ (c : Fin 2) s, (s.ddrAt c.val).srEntering = true → (s.ddrAt c.val).st = 2 → (s.ddrAt c.val).queue ≠ [] →
      exec (.srEntryDone c) s = .next (beginExit c.val (s.setDdr c.val { s.ddrAt c.val with
        srEntering := false, srEntries := bump (s.ddrAt c.val).srEntries, st := 3 })))
  ∧ (∀ (c : Fin 2) s, (s.ddrAt c.val).srEntering = true → (s.ddrAt c.val).st = 5 →
      exec (.srEntryDone c) s = .next (s.setDdr c.val { s.ddrAt c.val with
        srEntering := false, srEntries := bump (s.ddrAt c.val).srEntries, contentKept := (s.ddrAt c.val).failKind = 1 }))
  ∧ (∀ (c : Fin 2) s, (s.ddrAt c.val).st = 3 → (s.ddrAt c.val).srExiting = true →
      exec (.srExitDone c) s = .next (resumeDram c.val s))
  ∧ (∀ (c : Fin 2) s, (s.ddrAt c.val).st = 4 → (s.ddrAt c.val).driftDue = false →
      exec (.speedChangeDone c) s = .next (resumeDram c.val (dramEvent c.val 2 (bitNat (!(s.ddrAt c.val).derated)) 0
        (issueCmd c.val .srx 0 (s.setDdr c.val { s.ddrAt c.val with
          derated := !(s.ddrAt c.val).derated, speed := if (s.ddrAt c.val).derated then (s.ddrAt c.val).trained else 0,
          derates := if (s.ddrAt c.val).derated then (s.ddrAt c.val).derates else bump (s.ddrAt c.val).derates })))))
  ∧ (∀ (c : Fin 2) s, (s.ddrAt c.val).serving = true → exec (.refresh c) s = .next (issueCmd c.val .refSb 0 s))
  ∧ (∀ (c : Fin 2) hot corrected s, (s.ddrAt c.val).serving = true →
      exec (.mr4Read c hot false corrected) s = .next (issueCmd c.val .mrr 0 (s.setDdr c.val { s.ddrAt c.val with
        refresh := BitVec.ofNat 2 (refreshRow hot s.therm.tj), eccCorr := bumpBy (s.ddrAt c.val).eccCorr corrected })))
  ∧ (∀ (c : Fin 2) hot corrected s, (s.ddrAt c.val).serving = true → ∃ t, exec (.mr4Read c hot true corrected) s = .next t
      ∧ (t.ddrAt c.val).refresh = BitVec.ofNat 2 (refreshRow hot s.therm.tj)
      ∧ t.sump.lines = s.sump.lines ++
          [{ src := 28 + c.val, code := 0x0F83, unit := BitVec.ofNat 8 c.val, cause := 0, value := 0, berth := none, kind := 0 }])
  ∧ (∀ (c : Fin 2) s, (s.ddrAt c.val).serving = true → (s.ddrAt c.val).patrolGap ≠ 0 → ∃ t, exec (.patrolScrub c .ok) s = .next t
      ∧ (t.ddrAt c.val).patrolAt
          = (if (s.ddrAt c.val).clientBytes ≤ (s.ddrAt c.val).patrolAt + 64 then 0 else (s.ddrAt c.val).patrolAt + 64)
      ∧ (t.ddrAt c.val).mem = (s.ddrAt c.val).mem ∧ ChangesOnly [.ddr, .pmon, .out] s t)
  ∧ (∀ (c : Fin 2) s, (s.ddrAt c.val).serving = true → exec (.driftUpdate c) s = .next (issueCmd c.val .mrr 0 s))
  ∧ (∀ (c : Fin 2) s, (s.ddrAt c.val).st = 5 → (s.ddrAt c.val).recovering = false → (s.ddrAt c.val).autoRecover ≠ 0 →
      exec (.autoRecoverExpiry c) s = .next (s.setDdr c.val { s.ddrAt c.val with recovering := true, autoRun := true, recoverFn := none }))
  ∧ (∀ (c : Fin 2) s, (s.ddrAt c.val).recovering = true → (s.ddrAt c.val).poisonAfter.length ≤ 16 → (s.ddrAt c.val).contentKept = true →
      exec (.recoveryDone c true) s = .next (endRecovery c.val .ok (resumeDram c.val (s.setDdr c.val { s.ddrAt c.val with
        poison := (s.ddrAt c.val).poisonAfter }))))
  ∧ (∀ (c : Fin 2) s, (s.ddrAt c.val).recovering = true → ∃ t, exec (.recoveryDone c false) s = .next t
      ∧ (t.ddrAt c.val).st = 6 ∧ (t.ddrAt c.val).failKind = 4 ∧ (t.ddrAt c.val).recovering = false)

/-- The test block (23_test.md R479 to R483, R486 to R488, R492, R493). test.pgc stops, starts or clears the pattern test of a lane, its BITS first brought up
to the instant; the status counts what has been compared and returns the lane block; a checker locks, or loses its lock, which is counted; a
margin point offsets the sampler and is answered at the end of its dwell, when the offsets are 0 again; the test access port selects IDCODE at
reset, and of the instructions loaded only those its state permits. -/
def Obligations.TestBlockTakesEffect : Prop :=
  (∀ rq, Completes (.testPgc rq) (cmdH 0x1301 20) rq (fun _ => rq.u8 0 ≤ 95 ∧ rq.u8 1 = 0) (fun _ => [])
      (fun u => onLane (rq.u8 0) (fun x => { x with active := false, locked := false }) (countBits (rq.u8 0) u)))
  ∧ (∀ rq, Completes (.testPgc rq) (cmdH 0x1301 20) rq
      (fun u => rq.u8 0 ≤ 95 ∧ rq.u8 1 = 1 ∧ pgcOk rq = true ∧ u.laneSettles (rq.u8 0) = false ∧ u.laneIdle (rq.u8 0) = true
        ∧ u.domainOn (laneDomain (rq.u8 0)) = true) (fun _ => [])
      (fun u => onLane (rq.u8 0) (startPgc rq) (countBits (rq.u8 0) u)))
  ∧ (∀ rq (x : Lane), x.active = false → startPgc rq x = { x with
      active := true, locked := false, pattern := BitVec.ofNat 3 (rq.u8 2), loop := BitVec.ofNat 2 (rq.u8 3),
      flags := BitVec.ofNat 8 (rq.u8 4 % 16), user := rq.bytes 8 10 })
  ∧ (∀ rq, Completes (.testPgc rq) (cmdH 0x1301 20) rq (fun _ => rq.u8 0 ≤ 95 ∧ rq.u8 1 = 2) (fun _ => [])
      (fun u => onLane (rq.u8 0) (fun x => { x with bits := 0, errors := 0, lockLoss := 0 }) (countBits (rq.u8 0) u)))
  ∧ (∀ rq errors, Completes (.testPgcStatus rq errors) (cmdH 0x1302 4) rq (fun _ => rq.u8 0 ≤ 95)
      (fun u => (fun x : Lane => leBytes 4 x.statusWord ++ slotsBytes [x.bits, x.errors, x.lockLoss])
        ((countErrors (rq.u8 0) errors u).laneAt (rq.u8 0))) (fun u => countErrors (rq.u8 0) errors u))
  ∧ (∀ (l : Fin 96) errors s, (s.laneAt l.val).active = true → (s.laneAt l.val).flags.getLsbD 1 = true → (s.laneAt l.val).locked = false →
      exec (.pgcLock l false errors) s = .next (s.setLane l.val { s.laneAt l.val with locked := true, lockedAt := s.tide.nowFs }))
  ∧ (∀ (l : Fin 96) errors s, (s.laneAt l.val).locked = true → ∃ t, exec (.pgcLock l true errors) s = .next t
      ∧ (t.laneAt l.val).locked = false ∧ (t.laneAt l.val).lockLoss = bump (s.laneAt l.val).lockLoss
      ∧ (∀ k, k ≠ l.val → t.laneAt k = s.laneAt k) ∧ ChangesOnly [.lane] s t)
  ∧ (∀ rq, Waits (.testMargin rq) (cmdH 0x1303 8) rq
      (fun u => rq.u8 0 ≤ 95 ∧ -32 ≤ rq.int 1 1 ∧ rq.int 1 1 ≤ 31 ∧ -100 ≤ rq.int 2 1 ∧ rq.int 2 1 ≤ 100 ∧ 1 ≤ rq.u16 4
        ∧ rq.u16 4 ≤ 60000 ∧ u.laneSettles (rq.u8 0) = false ∧ (u.laneAt (rq.u8 0)).marginFn = none
        ∧ (u.laneAt (rq.u8 0)).locked = true)
      (fun u => onLane (rq.u8 0) (fun x => { x with marginFn := some rq.fn.val, phase := rq.int 1 1, voff := rq.int 2 1, mLost := false })
        (countBits (rq.u8 0) u)))
  ∧ (∀ (l : Fin 96) bits errors s fn, (s.laneAt l.val).marginFn = some fn →
      exec (.marginDwellEnd l bits errors) s = .next (finish fn 0x1303 .ok
        (leBytes 8 errors.toNat ++ leBytes 8 bits.toNat ++ [BitVec.ofNat 8 (bitNat (s.laneAt l.val).mLost)])
        (s.setLane l.val { s.laneAt l.val with
          marginFn := none, phase := 0, voff := 0, mLost := false, lockedAt := s.tide.nowFs,
          bits := (s.laneAt l.val).bits + bits, errors := (s.laneAt l.val).errors + errors })))
  ∧ (∀ s, exec .tapReset s = .next { s with tap := { ir := .idcode } })
  ∧ (∀ ir s, exec (.tapInstructionLoad ir) s = .next { s with tap := { ir := selectIr ir s.pwr.porst s.fuse.testLock } })
  ∧ (∀ c, selectIr .extest true false = .extest ∧ selectIr .extest false false = .bypass ∧ selectIr (.hidden c) true true = .bypass
      ∧ selectIr (.hidden c) true false = .hidden c)

/-- The temperature sensors (24_pins_electrical.md R505 to R510, 21_power_reset.md). A threshold from 60 to 125 is taken; a reading of the sensors is held,
Tj follows the hottest in use, and THERM_N and THERM_TRIP follow their limits. -/
def Obligations.ThermalTakesEffect : Prop :=
  (∀ rq, Completes (.powerThermConfig rq) (cmdH 0x1104 4) rq (fun _ => 60 ≤ rq.int 0 1 ∧ rq.int 0 1 ≤ 125) (fun _ => [])
      (fun u => { u with therm := { u.therm with warnTj := rq.int 0 1 } }))
  ∧ (∀ temps s, ∃ t, exec (.sensorReading temps) s = .next t
      ∧ t.therm.tj = (s.therm.read temps).tj ∧ t.therm.ts = Tab.putAll 0 [] 0 temps ∧ t.therm.inUse = (s.therm.read temps).inUse
      ∧ t.therm.thermN = ((s.therm.read temps).held || decide (500 < (s.therm.read temps).tj)
          || (s.therm.thermN && decide (480 ≤ (s.therm.read temps).tj)))
      ∧ t.therm.trip = ((!s.therm.trip && decide (540 ≤ (s.therm.read temps).tj))
          || (s.therm.trip && decide (480 ≤ (s.therm.read temps).tj)))
      ∧ t.therm.warnTj = s.therm.warnTj ∧ ChangesOnly [.ddr, .sump, .therm, .out] s t)
  ∧ (∀ (t : Therm) (ts : List Int), (t.read ts).used ≠ [] → (t.read ts).tj = ts.getD (t.read ts).hottest 0)

/-- The registers of a function's window (22_counters_trace.md R465, 00_scope.md R12, 18_pumphouse.md R397, 25_interface_index.md R511, 21_power_reset.md R448). A read of
the low half of a counter returns bits 31 to 0 and latches bits 47 to 32, which the read of the high half returns, once; a write to a request
area that is not BUSY stores its four bytes, and one aimed at an off domain is discarded and counted. -/
def Obligations.RegistersTakeEffect : Prop :=
  (∀ (fn : Fin 17) off s src sp c, s.mmioLive fn.val = true → off.toNat % 8 ≠ 4 → counterSource s fn.val off.toNat = some src →
      spanAt s src = some sp → sp.read (src - sp.base) = some c → ((sp.domain (src - sp.base)).map s.domainOn).getD true = true →
      exec (.counterLowHalfRead fn off) s = .next { s with
        out := .readData fn.val off.toNat (c.toNat % 0x100000000) :: s.out,
        latch := Tab.put none s.latch (latchKey fn.val off.toNat) (some (BitVec.ofNat 16 (c.toNat / 0x100000000))) })
  ∧ (∀ (fn : Fin 17) off s src sp c h, s.mmioLive fn.val = true → off.toNat % 8 = 4 → counterSource s fn.val (off.toNat - 4) = some src →
      spanAt s src = some sp → sp.read (src - sp.base) = some c → ((sp.domain (src - sp.base)).map s.domainOn).getD true = true →
      Tab.look none s.latch (latchKey fn.val (off.toNat - 4)) = some h →
      exec (.counterLowHalfRead fn off) s = .next { s with
        out := .readData fn.val off.toNat h.toNat :: s.out, latch := Tab.put none s.latch (latchKey fn.val (off.toNat - 4)) none })
  ∧ (∀ (off v : BitVec 32) s, s.mmioLive 0 = true → 0x101000 ≤ off.toNat → off.toNat < 0x102000 → off.toNat % 4 = 0 →
      (s.mbxAt 0).busy = false → exec (.registerWrite 0 off v) s = .next ((mmio 0 s).setMbx 0 { s.mbxAt 0 with
        reqArea := Tab.putAll 0 (s.mbxAt 0).reqArea (off.toNat - 0x101000) (leBytes 4 v.toNat) }))
  ∧ (∀ (off v : BitVec 32) s, s.mmioLive 0 = true → 0x101000 ≤ off.toNat → off.toNat < 0x102000 → off.toNat % 4 = 0 →
      (s.mbxAt 0).busy = true → exec (.registerWrite 0 off v) s = .next (mmio 0 s))
  ∧ (∀ (v : BitVec 32) s, s.mmioLive 0 = true → exec (.registerWrite 0 0x01800004 v) s
      = .next { mmio 0 s with fwd := { s.fwd with seed := v } })
  ∧ (∀ (off v : BitVec 32) s d, s.mmioLive 0 = true → regDomain off.toNat = some d → s.domainOn d = false →
      exec (.registerWrite 0 off v) s = .next { mmio 0 s with pwr := { s.pwr with offAccess := bump s.pwr.offAccess } })

/-- The time commands (02_tide_gauge.md R47 to R50, R54, R56 to R58, R60, R66, R71, Tables 02.7, 02.10 to 02.12). The status is returned; sources and
settings in range are taken, and naming no phase source leads to FREE; a TAI second is held for the next edge outside LOCKED and HOLDOVER; a UTC
offset is applied at once or held for its day; board delays, a PTP instance, a berth's fail-closed threshold, the holdover rates, with the
bound accrued so far kept, and the dissent limits are set. -/
def Obligations.TimeCommandsTakeEffect : Prop :=
  (∀ rq, Completes (.timeGetStatus rq) (cmdHBA 0x0401 0) rq (fun _ => rq.length = 0)
      (fun u => leBytes 4 u.tide.word.toNat ++ leBytes 4 u.tide.bound ++ leBytes 4 u.tide.utcWord
        ++ [BitVec.ofNat 8 (bitNat u.tide.selB + 2 * bitNat u.tide.failA + 4 * bitNat u.tide.failB), u.tide.dissent, 0, 0]
        ++ slotsBytes [u.tide.holdoverCount, u.tide.stateChanges, u.tide.ppsReject]) (fun u => u))
  ∧ (∀ rq, Completes (.timeSetSource rq) (cmdH 0x0402 16) rq (fun _ => sourceParamsOk rq = true) (fun _ => []) (fun u => setSource rq u))
  ∧ (∀ rq s, rq.u8 0 = 0 → s.tide.st ≠ .free → (setSource rq s).tide.st = .free ∧ (setSource rq s).tide.epoch = s.tide.epoch + 1)
  ∧ (∀ rq s, s.tide.st = .free → s.tide.source = 0 → (setSource rq s).tide.st = .free
      ∧ (setSource rq s).tide.phase = BitVec.ofNat 4 (rq.u8 0) ∧ (setSource rq s).tide.freq = BitVec.ofNat 4 (rq.u8 1)
      ∧ (setSource rq s).tide.refUnc = BitVec.ofNat 32 (rq.u32 4) ∧ (setSource rq s).tide.ppsWindow = BitVec.ofNat 32 (rq.u32 8)
      ∧ (setSource rq s).tide.lockThresh = BitVec.ofNat 16 (rq.u16 12) ∧ (setSource rq s).tide.lockCount = BitVec.ofNat 16 (rq.u16 14)
      ∧ (setSource rq s).tide.epoch = if otherPhase rq s.tide then s.tide.epoch + 1 else s.tide.epoch)
  ∧ (∀ rq, Completes (.timeSetTai rq) (cmdH 0x0403 8) rq (fun u => u.tide.st = .free ∨ u.tide.st = .acquire) (fun _ => [])
      (fun u => { u with tide := { u.tide with taiNext := some (BitVec.ofNat 48 (rq.u64 0)) } }))
  ∧ (∀ rq, TurnsAway (.timeSetTai rq) (cmdH 0x0403 8) rq (fun u => u.tide.st = .locked ∨ u.tide.st = .holdover) .state)
  ∧ (∀ rq, Completes (.timeSetUtc rq) (cmdH 0x0404 8) rq (fun u => utcParamsOk rq u.tide = true ∧ rq.u32 4 = 0) (fun _ => [])
      (fun u => applyUtc (BitVec.ofNat 16 (rq.u16 0)) u))
  ∧ (∀ rq, Completes (.timeSetUtc rq) (cmdH 0x0404 8) rq (fun u => utcParamsOk rq u.tide = true ∧ rq.u32 4 ≠ 0) (fun _ => [])
      (fun u => { u with tide := { u.tide with
        leap61 := rq.u8 2 == 1, leap59 := rq.u8 2 == 2, pendUtc := some (BitVec.ofNat 16 (rq.u16 0), rq.u32 4) } }))
  ∧ (∀ off s, (applyUtc off s).tide.utcOffset = (if s.tide.utcValid && s.tide.utcOffset == off then s.tide.utcOffset else off)
      ∧ (applyUtc off s).tide.utcValid = true ∧ (applyUtc off s).tide.pendUtc = none ∧ (applyUtc off s).tide.leap61 = false
      ∧ (applyUtc off s).tide.leap59 = false)
  ∧ (∀ rq, Completes (.timeSetPortDelay rq) (cmdH 0x0405 12) rq
      (fun _ => rq.u8 0 ≤ 63 ∧ (rq.int 4 4).natAbs ≤ 100000 ∧ (rq.int 8 4).natAbs ≤ 100000) (fun _ => [])
      (fun u => { u with tide := { u.tide with
        ingDelay := Tab.put 0 u.tide.ingDelay (rq.u8 0) (rq.int 4 4), egrDelay := Tab.put 0 u.tide.egrDelay (rq.u8 0) (rq.int 8 4) } }))
  ∧ (∀ rq, Completes (.timePtpConfig rq) (cmdH 0x0406 20) rq
      (fun u => ptpParamsOk rq u.tide = true
        ∧ u.tide.ptp.any (fun e => e.1 != rq.u8 0 && e.2.configured && e.2.ports.toNat &&& rq.u64 8 != 0) = false) (fun _ => [])
      (fun u => u.setPtp (rq.u8 0)
        { configured := true, domain := BitVec.ofNat 8 (rq.u8 1), ctype := BitVec.ofNat 2 (rq.u8 2), p2p := rq.u8 3 == 1,
          transport := BitVec.ofNat 2 (rq.u8 4), oneStep := rq.u8 5 == 1, logSync := rq.int 6 1, logAnn := rq.int 7 1,
          ports := BitVec.ofNat 64 (rq.u64 8), prio1 := BitVec.ofNat 8 (rq.u8 16), prio2 := BitVec.ofNat 8 (rq.u8 17) }))
  ∧ (∀ rq, Completes (.timeSetFailClosed rq) (cmdOwn 0x0407 8 0) rq
      (fun _ => rq.u8 0 ≤ 15 ∧ rq.u8 1 ≤ 1 ∧ 4000 ≤ rq.u32 4 ∧ rq.u32 4 ≤ 1000000000) (fun _ => [])
      (fun u => u.setBerth (rq.u8 0) { u.berthAt (rq.u8 0) with tfc := rq.u8 1 == 1, tfcThresh := BitVec.ofNat 32 (rq.u32 4) }))
  ∧ (∀ rq, Completes (.timeSetHoldover rq) (cmdH 0x0408 16) rq
      (fun _ => rq.u32 0 ≤ 1000000 ∧ rq.u32 4 ≤ 10000 ∧ 100 ≤ rq.u32 12 ∧ rq.u32 12 ≤ 1000000000) (fun _ => [])
      (fun u => { u with tide := { u.tide with
        holdBound := if u.tide.holdStart.isSome then u.tide.holdBound + u.tide.rateGrowth else u.tide.holdBound,
        holdRateFrom := if u.tide.holdStart.isSome then u.tide.nowFs else u.tide.holdRateFrom,
        holdRateSet := some (BitVec.ofNat 32 (rq.u32 0)), holdAge := BitVec.ofNat 32 (rq.u32 4),
        holdLimit := BitVec.ofNat 32 (rq.u32 8), stepThresh := BitVec.ofNat 32 (rq.u32 12) } }))
  ∧ (∀ rq, Completes (.timeSetDissent rq) (cmdH 0x0409 8) rq (fun _ => 1 ≤ rq.u16 0 ∧ rq.u16 0 ≤ 1000 ∧ rq.u8 2 ≤ 7) (fun _ => [])
      (fun u => { u with tide := { u.tide with
        dissentLimit := BitVec.ofNat 16 (rq.u16 0), asym := Tab.put 0 u.tide.asym (rq.u8 2) (rq.int 4 4) } }))

/-- The tide gauge's own events (02_tide_gauge.md R43, R47 to R56, R66 to R68, R71, Table 02.6). Transitions start a new epoch: a source that
qualifies leads from FREE or HOLDOVER to ACQUIRE, one that is lost leads from LOCKED to HOLDOVER, which is counted and raised, and the end of
holdover time to FREE. A read of NS latches the rest of its instant; the interpolators hand over, or the one that disagrees is failed; edges,
messages, intervals and references act on the servo; a pending UTC offset is applied; PPS_OUT rises once start-up is done. -/
def Obligations.TimeEventsTakeEffect : Prop :=
  (∀ s, s.tide.st = .free ∨ s.tide.st = .holdover → (qualify s).tide.st = .acquire ∧ (qualify s).tide.epoch = s.tide.epoch + 1
      ∧ (qualify s).tide.stateChanges = bump s.tide.stateChanges ∧ (qualify s).tide.source = s.tide.phase)
  ∧ (∀ s, s.tide.st = .locked → s.tide.holdLimit ≠ 0 → (disqualify id s).tide.st = .holdover
      ∧ (disqualify id s).tide.epoch = s.tide.epoch + 1 ∧ (disqualify id s).tide.holdoverCount = bump s.tide.holdoverCount
      ∧ (disqualify id s).tide.holdStart = some s.tide.nowFs
      ∧ (disqualify id s).sump.lines = s.sump.lines ++
          [{ src := 0, code := 0x0481, unit := 0, cause := 0, value := 0, berth := none, kind := 0 }])
  ∧ (∀ (fn : Fin 17) s, s.mmioLive fn.val = true → exec (.tideNowNsRead fn) s = .next { s with
      out := .readData fn.val (if fn.val = 0 then 0x300000 else 0x100) (stampNs s.stamp) :: s.out,
      tide := { s.tide with latSec := BitVec.ofNat 48 (stampSec s.stamp), latFrac := BitVec.ofNat 16 (stampFrac s.stamp) } })
  ∧ (∀ d s, s.tide.failA = false → s.tide.failB = false → d ≤ 50 →
      exec (.interpHandover d) s = .next { s with tide := { s.tide with selB := !s.tide.selB } })
  ∧ (∀ d s, s.tide.failA = false → s.tide.failB = false → 50 < d → exec (.interpHandover d) s = .next { s with
      tide := { s.tide with failA := s.tide.selB, failB := !s.tide.selB },
      sump := { s.sump with lines := s.sump.lines ++
        [{ src := 0, code := 0x0483, unit := 0, cause := 0, value := 0, berth := none, kind := 0 }] } })
  ∧ (∀ (ph : Fin 32) s, s.tide.phase = 1 → s.tide.st = .locked →
      s.tide.ppsWindow.toNat * 1000000 < ((s.instant ph.val : Int) - (ppsSecond s (s.instant ph.val) * fsPerSec : Nat)).natAbs →
      s.tide.ppsBad < 2 → exec (.ppsInEdge ph) s = .next { s with tide := { s.tide with
        ppsReject := bump s.tide.ppsReject, ppsBad := s.tide.ppsBad + 1, taiNext := none } })
  ∧ (∀ (ph : Fin 32) s, s.tide.phase = 1 → s.tide.st ≠ .locked → s.tide.qualified = true →
      exec (.ppsInEdge ph) s = .next (servoUpdate ((s.instant ph.val : Int) - (ppsSecond s (s.instant ph.val) * fsPerSec : Nat))
        { s with tide := { s.tide with ppsBad := 0, taiNext := none } }))
  ∧ (∀ (ph : Fin 32) s, s.tide.phase = 1 → s.tide.st ≠ .locked → s.tide.qualified = false →
      exec (.ppsInEdge ph) s = .next (servoUpdate ((s.instant ph.val : Int) - (ppsSecond s (s.instant ph.val) * fsPerSec : Nat))
        (qualify { s with tide := { s.tide with ppsBad := 0, taiNext := none } })))
  ∧ (∀ s, s.tide.phase = 1 → s.tide.qualified = true →
      exec .ppsLoss s = .next (disqualify (fun t => { t with ppsBad := 0 }) (raise 0 0 0 0 0 none s)))
  ∧ (∀ (p : Fin 64) bytes (ph : Fin 32) s tr m i, ptpPayload bytes = some (tr, m) → s.tide.instOf p.val = some i →
      ptpSupported m = true → tr = (s.ptpAt i).transport.toNat → byteAt m 4 = (s.ptpAt i).domain.toNat →
      exec (.ptpMessage p bytes ph) s = .next (ptpHandle i p.val m (s.ingressStamp p.val ph.val) s))
  ∧ (∀ (p : Fin 64) bytes (ph : Fin 32) s tr m i, ptpPayload bytes = some (tr, m) → s.tide.instOf p.val = some i →
      ptpSupported m = false → exec (.ptpMessage p bytes ph) s
        = .next (s.setPort p.val { s.portAt p.val with ptpDiscard := bump (s.portAt p.val).ptpDiscard }))
  ∧ (∀ (i : Fin 4) s, (s.ptpAt i.val).parent.isSome = true → ¬ (s.tide.phase = 2 ∧ s.tide.ptpInst.toNat = i.val) →
      exec (.ptpReceiptTimeout i) s = .next (s.setPtp i.val { s.ptpAt i.val with
        parent := none, parentKey := [], syncTs := none, reqTs := none, respTs := none }))
  ∧ (∀ (i : Fin 4) (ph : Fin 32) s, (s.ptpAt i.val).configured = true → (s.ptpAt i.val).ctype = 1 →
      exec (.ptpSyncInterval i true ph) s = .next (ptpSendAnnounce i.val (stampOfFs (s.instant ph.val)) s))
  ∧ (∀ (i : Fin 4) (ph : Fin 32) s, (s.ptpAt i.val).configured = true → (s.ptpAt i.val).ctype = 1 → (s.ptpAt i.val).p2p = false →
      exec (.ptpSyncInterval i false ph) s = .next (ptpSendSync i.val (stampOfFs (s.instant ph.val)) s))
  ∧ (∀ (i : Fin 4) (ph : Fin 32) s, (s.ptpAt i.val).configured = true → (s.ptpAt i.val).ctype = 0 →
      exec (.ptpSyncInterval i false ph) s = .next (ptpSendRequest i.val (stampOfFs (s.instant ph.val)) s))
  ∧ (∀ s, s.tide.refPresent = true → s.tide.freq ≠ 3 → exec .refInLoss s = .next { s with tide := { s.tide with refPresent := false } })
  ∧ (∀ s, s.tide.refPresent = true → s.tide.freq = 3 → s.tide.st = .holdover → ∃ t, exec .refInLoss s = .next t
      ∧ t.tide.refPresent = false ∧ t.tide.holdNoRef = true ∧ t.tide.epoch = s.tide.epoch + 1 ∧ t.tide.source = 0
      ∧ t.tide.holdBound = s.tide.holdBound + s.tide.rateGrowth ∧ t.tide.holdRateFrom = s.tide.nowFs)
  ∧ (∀ s, s.tide.refPresent = false → s.tide.st = .free → s.tide.holdStart = none →
      exec .refInReturn s = .next { s with tide := { s.tide with refPresent := true } })
  ∧ (∀ s, s.tide.refPresent = false → s.tide.st = .holdover → s.tide.freq = 3 → s.tide.holdStart.isSome = true →
      ∃ t, exec .refInReturn s = .next t ∧ t.tide.refPresent = true ∧ t.tide.holdNoRef = false ∧ t.tide.epoch = s.tide.epoch + 1
        ∧ t.tide.source = 3 ∧ t.tide.holdBound = s.tide.holdBound + s.tide.rateGrowth)
  ∧ (∀ s, s.tide.st = .holdover → ∃ t, exec .holdoverLimit s = .next t ∧ t.tide.st = .free ∧ t.tide.epoch = s.tide.epoch + 1
      ∧ t.tide.holdStart = none ∧ t.tide.bound = 0xFFFFFFFF)
  ∧ (∀ s, s.tide.st = .acquire → exec .holdoverLimit s = .next { s with tide := { s.tide with holdLeft := false } })
  ∧ (∀ s off day, s.tide.pendUtc = some (off, day) → exec .utcDayEnd s = .next (applyUtc off s))
  ∧ (∀ s, s.ph.ready = true → exec .ppsOut s = .next { s with out := .ppsOut :: s.out })

/-- The commands of the berths (09_berths.md R207, R210, R213, R217 to R220, R222, 04_river_ports.md R94). berth.create makes a berth with a fresh key and its blocks;
assign_port gives, shares or releases a DISABLED port, and answers STATE on a bond member; a gangway is set, and removed unless it is in use; an auditor is named only where
no berth is; berth.reset resets rings, queue pairs, mailbox and event ring; berth.destroy begins the teardown and is answered at its end. -/
def Obligations.BerthCommandsTakeEffect : Prop :=
  (∀ rq p, Completes (.berthCreate rq true) (cmdH 0x0201 16) rq
      (fun u => rq.u8 0 < 16 ∧ rq.u8 1 ≤ 1 ∧ createQps rq ≤ 4096 ∧ createMrs rq % 16 = 0 ∧ createMrs rq ≤ 65536 ∧ rq.u32 8 ≤ 1048576
        ∧ u.berthExists (rq.u8 0) = false ∧ u.glb.auditVf.toNat ≠ rq.u8 0 ∧ u.placeBerth (rq.u8 0) rq = some p) (fun _ => [])
      (fun u => makeBerth (rq.u8 0) rq p u))
  ∧ (∀ b rq p s, ((makeBerth b rq p s).berthAt b) = {
        state := 1, fabricOk := rq.u8 1 == 1, weirCtrs := rq.u32 8, keyNonce := some s.draw,
        pubKey := padTo 32 (Config.edPublic s.draw),
        cert := Config.berthCert b (padTo 32 (Config.edPublic s.draw)) ((sha256 (padTo 32 (Config.edPublic s.draw))).take 8) s.utcNow,
        vfEnabled := true }
      ∧ (makeBerth b rq p s).rdmaB b = { qpBase := p.1, qps := createQps rq, mrBase := p.2.1, mrs := createMrs rq }
      ∧ ((makeBerth b rq p s).weirB b).posBase = p.2.2 ∧ (makeBerth b rq p s).free = s.free + 1)
  ∧ (∀ rq keyOk, TurnsAway (.berthCreate rq keyOk) (cmdH 0x0201 16) rq
      (fun u => rq.u8 0 < 16 ∧ rq.u8 1 ≤ 1 ∧ createQps rq ≤ 4096 ∧ createMrs rq % 16 = 0 ∧ createMrs rq ≤ 65536 ∧ rq.u32 8 ≤ 1048576
        ∧ u.berthExists (rq.u8 0) = true) .state)
  ∧ (∀ rq, Completes (.berthAssignPort rq) (cmdH 0x0203 8) rq
      (fun u => rq.u8 0 ≤ 63 ∧ rq.u8 1 ≤ 15 ∧ rq.u8 2 = 0 ∧ u.bondMember (rq.u8 0) = false ∧ (u.portAt (rq.u8 0)).link = 0
        ∧ u.berthActive (rq.u8 1) = true ∧ (u.ownerAt (rq.u8 0)).whole = none ∧ (u.ownerAt (rq.u8 0)).shares = []) (fun _ => [])
      (fun u => { u with glb := { u.glb with owner := Tab.put {} u.glb.owner (rq.u8 0) { whole := some (rq.u8 1) } } }))
  ∧ (∀ rq, Completes (.berthAssignPort rq) (cmdH 0x0203 8) rq
      (fun u => rq.u8 0 ≤ 63 ∧ rq.u8 1 ≤ 15 ∧ rq.u8 2 = 2 ∧ u.bondMember (rq.u8 0) = false ∧ (u.portAt (rq.u8 0)).link = 0) (fun _ => [])
      (fun u => { u with glb := { u.glb with owner := Tab.del u.glb.owner (rq.u8 0) } }))
  ∧ (∀ rq, TurnsAway (.berthAssignPort rq) (cmdH 0x0203 8) rq
      (fun u => rq.u8 0 ≤ 63 ∧ rq.u8 1 ≤ 15 ∧ rq.u8 2 ≤ 2 ∧ (u.bondMember (rq.u8 0) = true ∨ (u.portAt (rq.u8 0)).link ≠ 0)) .state)
  ∧ (∀ rq v, Completes (.berthGangway rq) (cmdH 0x0204 8) rq
      (fun u => rq.u8 1 = 0 ∧ rq.u8 0 ≤ 63 ∧ rq.u8 2 ≤ 15 ∧ rq.u8 3 ≤ 15 ∧ rq.u8 2 ≠ rq.u8 3 ∧ rq.u8 4 = 0 ∧ rq.u8 5 ≤ 63
        ∧ u.berthActive (rq.u8 2) = true ∧ u.berthActive (rq.u8 3) = true ∧ u.bondMember (rq.u8 5) = false
        ∧ dropGangway (rq.u8 0) u = some v) (fun _ => [])
      (fun u => { u with glb := { u.glb with gangway := Tab.put {} u.glb.gangway (rq.u8 0) {
          valid := true, src := rq.u8 2, dst := rq.u8 3, kind := 0, target := BitVec.ofNat 8 (rq.u8 5) } } }))
  ∧ (∀ rq v, Completes (.berthGangway rq) (cmdH 0x0204 8) rq
      (fun u => rq.u8 1 = 1 ∧ rq.u8 0 ≤ 63 ∧ dropGangway (rq.u8 0) u = some v) (fun _ => [])
      (fun u => { u with glb := { u.glb with gangway := Tab.del u.glb.gangway (rq.u8 0) } }))
  ∧ (∀ rq, TurnsAway (.berthGangway rq) (cmdH 0x0204 8) rq
      (fun u => rq.u8 1 = 1 ∧ rq.u8 0 ≤ 63 ∧ dropGangway (rq.u8 0) u = none) .state)
  ∧ (∀ rq, Completes (.berthGetKey rq) (cmdHBA 0x0205 4) rq
      (fun u => rq.u8 0 < 16 ∧ u.berthExists (rq.u8 0) = true)
      (fun u => (u.berthAt (rq.u8 0)).pubKey ++ leBytes 2 (u.berthAt (rq.u8 0)).cert.length ++ (u.berthAt (rq.u8 0)).cert) id)
  ∧ (∀ rq, Completes (.berthStatus rq) (cmdOwn 0x0206 4 0) rq (fun _ => rq.u8 0 < 16)
      (fun u => [BitVec.ofNat 8 (u.berthAt (rq.u8 0)).state.toNat, BitVec.ofNat 8 (u.portBytes (rq.u8 0)).length,
          BitVec.ofNat 8 (u.gangwayBytes (rq.u8 0)).length, 0] ++ (u.portBytes (rq.u8 0)).flatten ++ (u.gangwayBytes (rq.u8 0)).flatten
        ++ ((u.holdings (rq.u8 0)).map (leBytes 4)).flatten) id)
  ∧ (∀ rq, Completes (.berthSetAuditor rq) (cmdH 0x0207 4) rq
      (fun u => rq.u8 0 ≤ 16 ∧ (rq.u8 0 < 16 → u.berthExists (rq.u8 0) = false)) (fun _ => [])
      (fun u => { u with glb := { u.glb with auditVf := BitVec.ofNat 5 (rq.u8 0) } }))
  ∧ (∀ rq, TurnsAway (.berthSetAuditor rq) (cmdH 0x0207 4) rq (fun u => rq.u8 0 < 16 ∧ u.berthExists (rq.u8 0) = true) .state)
  ∧ (∀ rq, Completes (.berthReset rq) (cmdOwn 0x0208 4 0) rq (fun u => rq.u8 0 < 16 ∧ u.berthExists (rq.u8 0) = true) (fun _ => [])
      (fun u => resetMbx (1 + rq.u8 0) (rq.fn.val == 1 + rq.u8 0) (resetBerth (rq.u8 0) 0 u)))
  ∧ (∀ rq, Waits (.berthDestroy rq) (cmdH 0x0202 4) rq
      (fun u => rq.u8 0 < 16 ∧ (u.berthAt (rq.u8 0)).state = 1 ∧ (u.berthAt (rq.u8 0)).destroyFn = none ∧ u.moveOf (rq.u8 0) = none
        ∧ u.hasFrames (rq.u8 0) = true)
      (fun u => onBerth (rq.u8 0) (fun x => { x with destroyFn := some rq.fn.val, destroyAt := u.tide.nowFs, state := 2, destroyStep := 2 }) u))
  ∧ (∀ rq, Waits (.berthDestroy rq) (cmdH 0x0202 4) rq
      (fun u => rq.u8 0 < 16 ∧ (u.berthAt (rq.u8 0)).state = 1 ∧ (u.berthAt (rq.u8 0)).destroyFn = none ∧ u.moveOf (rq.u8 0) = none
        ∧ u.hasFrames (rq.u8 0) = false)
      (fun u => afterDrain (rq.u8 0)
        (onBerth (rq.u8 0) (fun x => { x with destroyFn := some rq.fn.val, destroyAt := u.tide.nowFs, state := 2, destroyStep := 2 }) u)))

/-- What happens to a berth (09_berths.md R219, R220). A function-level reset of a VF resets its berth, its mailbox, its event ring and its messages; when
the drain of a destroyed berth times out, what it still queues is dropped and the teardown goes on; with no final seal in time the
command returns TIMEOUT and the berth stays in CLOSING with its key. -/
def Obligations.BerthEventsTakeEffect : Prop :=
  (∀ (b : Fin 16) s, ∃ t, exec (.functionLevelReset b) s = .next t
      ∧ t.mbxAt (1 + b.val) = {} ∧ Tab.look {} t.msix (1 + b.val) = {}
      ∧ t.host = (if s.berthExists b.val then (resetBerth b.val 1 s).host else s.host)
      ∧ t.ledg = (if s.berthExists b.val then (resetBerth b.val 1 s).ledg else s.ledg))
  ∧ (∀ (b : Fin 16) s, (s.berthAt b.val).state = 2 → (s.berthAt b.val).destroyStep = 2 →
      exec (.destroyDrainTimeout b) s = .next (afterDrain b.val s))
  ∧ (∀ b s, (s.chainAt b).signing = true ∨ s.sealRoom b = false → finalSeal b s = onBerth b (fun x => { x with destroyStep := 5 }) s)
  ∧ (∀ b s, (s.chainAt b).signing = false → s.sealRoom b = true →
      finalSeal b s = writeSeal b 1 (onBerth b (fun x => { x with destroyStep := 6 }) s))
  ∧ (∀ (b : Fin 16) s fn, (s.berthAt b.val).state = 2 → (s.berthAt b.val).destroyFn = some fn → (s.berthAt b.val).destroyStep ≠ 2 →
      ∃ t, exec (.destroySealTimeout b) s = .next t
        ∧ t = finish fn 0x0202 .timeout [] (onBerth b.val (fun x => { x with destroyFn := none }) s)
        ∧ t.berthAt b.val = { s.berthAt b.val with destroyFn := none })

/-- The receive and transmit rings (19_host_rings.md R413, R418 to R423, R425, R426, R428). ring_config enables a ring with its base and settings, refuses with STATE
a change of a live ring's base or size, and lets only the harbour change TX_OK; a doorbell posts descriptors, and one beyond the ring is counted and
raises HOST_DB_ERR; descriptors are gathered into frames, a wrong chain written back; a delivery fills posted buffers of the next ring in
rotation; a ring left without buffers truncates; the moderation timer sends an armed ring's message. -/
def Obligations.RingsTakeEffect : Prop :=
  (∀ rq, Completes (.queueingRingConfig rq) (cmdOwn 0x0807 32 0) rq
      (fun u => rq.u8 0 < 16 ∧ ringSizeOk (rq.u32 4) = true ∧ rq.u32 4 ≠ 0 ∧ rq.u64 8 % 4096 = 0 ∧ rq.u16 24 ≤ 1000 ∧ rq.u16 26 ≤ 256
        ∧ rq.bit 1 7 = false ∧ 256 ≤ rq.u32 16 ∧ rq.u32 16 ≤ 16384 ∧ rq.u32 16 % 256 = 0 ∧ rq.u32 20 ≤ 1000
        ∧ (u.rxAt (rq.u8 0) (rq.u8 1 % 4)).size = 0 ∧ (u.rxAt (rq.u8 0) (rq.u8 1 % 4)).frame = none) (fun _ => [])
      (fun u => { u with host := { u.host with rx := Tab.put {} u.host.rx (4 * rq.u8 0 + rq.u8 1 % 4) { u.rxAt (rq.u8 0) (rq.u8 1 % 4) with
          size := rq.u32 4, base := BitVec.ofNat 64 (rq.u64 8), bufSize := rq.u32 16,
          rxWait := rq.u32 20, itrUs := rq.u16 24, itrFrames := rq.u16 26, pendCfg := none } } }))
  ∧ (∀ rq, Completes (.queueingRingConfig rq) (cmdOwn 0x0807 32 0) rq
      (fun u => rq.u8 0 < 16 ∧ ringSizeOk (rq.u32 4) = true ∧ rq.u32 4 ≠ 0 ∧ rq.u64 8 % 4096 = 0 ∧ rq.u16 24 ≤ 1000 ∧ rq.u16 26 ≤ 256
        ∧ rq.bit 1 7 = true ∧ rq.u8 2 ≤ 1 ∧ (u.txAt (rq.u8 0) (rq.u8 1 % 4)).pendCfg = none
        ∧ (isHarbour u rq = true ∨ (rq.u8 2 == 1) = (u.txAt (rq.u8 0) (rq.u8 1 % 4)).txOk)
        ∧ (u.txAt (rq.u8 0) (rq.u8 1 % 4)).size = 0 ∧ (u.txAt (rq.u8 0) (rq.u8 1 % 4)).gathering = false) (fun _ => [])
      (fun u => { u with host := { u.host with tx := Tab.put {} u.host.tx (4 * rq.u8 0 + rq.u8 1 % 4) { u.txAt (rq.u8 0) (rq.u8 1 % 4) with
          size := rq.u32 4, base := BitVec.ofNat 64 (rq.u64 8), txOk := rq.u8 2 == 1,
          itrUs := rq.u16 24, itrFrames := rq.u16 26, pendCfg := none } } }))
  ∧ (∀ rq, TurnsAway (.queueingRingConfig rq) (cmdOwn 0x0807 32 0) rq
      (fun u => rq.u8 0 < 16 ∧ ringSizeOk (rq.u32 4) = true ∧ rq.u64 8 % 4096 = 0 ∧ rq.u16 24 ≤ 1000 ∧ rq.u16 26 ≤ 256
        ∧ rq.bit 1 7 = true ∧ rq.u8 2 ≤ 1 ∧ (u.txAt (rq.u8 0) (rq.u8 1 % 4)).pendCfg = none ∧ isHarbour u rq = false
        ∧ (rq.u8 2 == 1) ≠ (u.txAt (rq.u8 0) (rq.u8 1 % 4)).txOk) .noPerm)
  ∧ (∀ rq, TurnsAway (.queueingRingConfig rq) (cmdOwn 0x0807 32 0) rq
      (fun u => rq.u8 0 < 16 ∧ ringSizeOk (rq.u32 4) = true ∧ rq.u32 4 ≠ 0 ∧ rq.u64 8 % 4096 = 0 ∧ rq.u16 24 ≤ 1000 ∧ rq.u16 26 ≤ 256
        ∧ rq.bit 1 7 = false ∧ 256 ≤ rq.u32 16 ∧ rq.u32 16 ≤ 16384 ∧ rq.u32 16 % 256 = 0 ∧ rq.u32 20 ≤ 1000
        ∧ (u.rxAt (rq.u8 0) (rq.u8 1 % 4)).size ≠ 0 ∧ rq.u32 4 ≠ (u.rxAt (rq.u8 0) (rq.u8 1 % 4)).size) .state)
  ∧ (∀ rq, Completes (.queueingRingStatus rq) (cmdOwn 0x0808 4 0) rq (fun _ => rq.u8 0 < 16 ∧ rq.bit 1 7 = false)
      (fun u => (fun x : RxRing => leBytes 4 x.size ++ leBytes 4 x.prod.toNat ++ leBytes 4 x.next.toNat
        ++ leBytes 4 (ownerPhase x.size x.next.toNat) ++ leBytes 4 (bitNat x.armed) ++ leBytes 4 0
        ++ slotsBytes [x.frames, x.bytes, x.trunc, x.dbErr]) (u.rxAt (rq.u8 0) (rq.u8 1 % 4))) id)
  ∧ (∀ rq, Completes (.queueingRingStatus rq) (cmdOwn 0x0808 4 0) rq (fun _ => rq.u8 0 < 16 ∧ rq.bit 1 7 = true)
      (fun u => (fun x : TxRing => leBytes 4 x.size ++ leBytes 4 x.prod.toNat ++ leBytes 4 x.next.toNat
        ++ leBytes 4 (ownerPhase x.size x.next.toNat) ++ leBytes 4 (bitNat x.armed) ++ leBytes 4 (bitNat x.txOk)
        ++ slotsBytes [x.frames, x.descErr, x.dropped, x.dbErr]) (u.txAt (rq.u8 0) (rq.u8 1 % 4))) id)
  ∧ (∀ (b : Fin 16) (r : Fin 4) (v : BitVec 32) s, s.vfLive b.val = true → (s.rxAt b.val r.val).size ≠ 0 →
      (BitVec.ofNat 16 v.toNat - (s.rxAt b.val r.val).firstOpen).toNat ≤ (s.rxAt b.val r.val).size →
      exec (.rxDoorbell b r v) s = .next (signalRx b.val r.val RxRing.frameDue
        (readRing b.val (s.rxAt b.val r.val).base.toNat (s.rxAt b.val r.val).size 32 (s.rxAt b.val r.val).prod.toNat
          (BitVec.ofNat 16 v.toNat - (s.rxAt b.val r.val).prod).toNat
          (onRx b.val r.val (fun x => { x with
            prod := BitVec.ofNat 16 v.toNat, armed := x.armed || v.getLsbD 31,
            waiting := x.waiting && (BitVec.ofNat 16 v.toNat - (s.rxAt b.val r.val).prod).toNat == 0 }) (mmio (1 + b.val) s)))))
  ∧ (∀ (b : Fin 16) (r : Fin 4) (v : BitVec 32) s, s.vfLive b.val = true →
      ((s.rxAt b.val r.val).size = 0 ∨ (s.rxAt b.val r.val).size < (BitVec.ofNat 16 v.toNat - (s.rxAt b.val r.val).firstOpen).toNat) →
      exec (.rxDoorbell b r v) s = .next (raise 32 0 0 0 0 (some b.val)
        (onRx b.val r.val (fun x => { x with dbErr := bump x.dbErr }) (mmio (1 + b.val) s))))
  ∧ (∀ (b : Fin 16) (r : Fin 4) (v : BitVec 32) s, s.vfLive b.val = true → (s.txAt b.val r.val).size ≠ 0 →
      (BitVec.ofNat 16 v.toNat - (s.txAt b.val r.val).firstOpen).toNat ≤ (s.txAt b.val r.val).size →
      exec (.txDoorbell b r v) s = .next (signalTx b.val r.val TxRing.frameDue
        (readRing b.val (s.txAt b.val r.val).base.toNat (s.txAt b.val r.val).size 32 (s.txAt b.val r.val).prod.toNat
          (BitVec.ofNat 16 v.toNat - (s.txAt b.val r.val).prod).toNat
          (onTx b.val r.val (fun x => { x with prod := BitVec.ofNat 16 v.toNat, armed := x.armed || v.getLsbD 31 }) (mmio (1 + b.val) s)))))
  ∧ (∀ (b : Fin 16) (r : Fin 4) (v : BitVec 32) s, s.vfLive b.val = true →
      ((s.txAt b.val r.val).size = 0 ∨ (s.txAt b.val r.val).size < (BitVec.ofNat 16 v.toNat - (s.txAt b.val r.val).firstOpen).toNat) →
      exec (.txDoorbell b r v) s = .next (raise 32 0 0 0 0 (some b.val)
        (onTx b.val r.val (fun x => { x with dbErr := bump x.dbErr }) (mmio (1 + b.val) s))))
  ∧ (∀ (b : Fin 16) (r : Fin 4) desc data s, (s.txAt b.val r.val).size ≠ 0 → (s.txAt b.val r.val).prod ≠ (s.txAt b.val r.val).next →
      (txDescOf desc data).skipped = false → bitOf (byteAt desc 10) 0 = true → (txDescOf desc data).eop = false →
      (s.txAt b.val r.val).gathering = false →
      exec (.txDescFetched b r desc data) s = .next (onTx b.val r.val (fun x => { x with
        next := x.next + 1, cur := [txDescOf desc data], gathering := true }) s))
  ∧ (∀ (b : Fin 16) (r : Fin 4) desc data s, (s.txAt b.val r.val).size ≠ 0 → (s.txAt b.val r.val).prod ≠ (s.txAt b.val r.val).next →
      (txDescOf desc data).skipped = false → bitOf (byteAt desc 10) 0 = false → (txDescOf desc data).eop = false →
      (s.txAt b.val r.val).gathering = true →
      exec (.txDescFetched b r desc data) s = .next (onTx b.val r.val (fun x => { x with
        next := x.next + 1, cur := x.cur ++ [txDescOf desc data] }) s))
  ∧ (∀ (b : Fin 16) (r : Fin 4) desc data s, (s.txAt b.val r.val).size ≠ 0 → (s.txAt b.val r.val).prod ≠ (s.txAt b.val r.val).next →
      (txDescOf desc data).skipped = false → bitOf (byteAt desc 10) 0 = false → (s.txAt b.val r.val).gathering = false →
      exec (.txDescFetched b r desc data) s = .next (queueWriteback b.val r.val [txDescOf desc data] 4
        (onTx b.val r.val (fun x => { x with next := x.next + 1 }) s)))
  ∧ (∀ s b r bufs, rotateFind 16 (readyHost s).rsv.hostNext (fun b => ((readyHost s).nextRing b).isSome) = some b →
      (readyHost s).nextRing b = some r → bufs ≠ [] → ((readyHost s).rxAt b r).frame = none →
      exec (.hostDelivery bufs) s = .next (afterFill b r (fillBuffers b r bufs
        (startDelivery b r (((readyHost s).queueAt (hostQueue b r)).entries.headD 0)
          (onRsv (fun v => { v with hostNext := (b + 1) % 16, ringNext := Tab.put 0 v.ringNext b ((r + 1) % 4) }) (readyHost s))))))
  ∧ (∀ (b : Fin 16) (r : Fin 4) s, (s.rxAt b.val r.val).waiting = true →
      exec (.rxWaitExpiry b r) s = .next (endDelivery b.val r.val true s))
  ∧ (∀ (b : Fin 16) (r : Fin 4) s, (s.rxAt b.val r.val).armed = true → 0 < (s.rxAt b.val r.val).unsig → (s.rxAt b.val r.val).itrUs ≠ 0 →
      exec (.itrTimer false b r) s = .next (sendMsix (1 + b.val) (1 + r.val)
        (onRx b.val r.val (fun x => { x with armed := false, unsig := 0 }) s)))
  ∧ (∀ (b : Fin 16) (r : Fin 4) s, (s.txAt b.val r.val).armed = true → 0 < (s.txAt b.val r.val).unsig → (s.txAt b.val r.val).itrUs ≠ 0 →
      exec (.itrTimer true b r) s = .next (sendMsix (1 + b.val) (5 + r.val)
        (onTx b.val r.val (fun x => { x with armed := false, unsig := 0 }) s)))

/-- A frame arrives (01_order_path.md R21 to R27, 04_river_ports.md R96, 05_pumps.md R114, R115, 08_ferry_reservoir.md R186 to R191, 09_berths.md R211). At its SFD it is stamped and given to the engine with the most free
contexts, or waits in the holding buffer; a frame of no berth is counted and dropped; its bytes take cells; a launch set selects the ferry lane
or the reservoir path; at 9,216 bytes it is cut with a wrong FCS; at its end its FCS is checked and it is counted. -/
def Obligations.FrameArrivalTakesEffect : Prop :=
  (∀ (p : Fin 64) bytes (ph : Fin 32) s b e, bytes ≠ [] → s.receives p.val = true → fieldBe bytes 12 2 ≠ 0x8808 →
      s.frameBerth p.val (outerVlan bytes) = some b → s.chooseEngine = some e →
      ∃ t, exec (.frameStart p bytes ph) s = .next t ∧ t.nextFrame = s.nextFrame + 1
        ∧ (t.frameAt s.nextFrame).src = .port p.val ∧ (t.frameAt s.nextFrame).berth = b ∧ (t.frameAt s.nextFrame).bytes = bytes
        ∧ (t.frameAt s.nextFrame).ts = s.ingressStamp p.val ph.val ∧ (t.frameAt s.nextFrame).sync = s.tide.word
        ∧ (t.frameAt s.nextFrame).engine = some e ∧ (t.frameAt s.nextFrame).actions = (s.pumpB b).action
        ∧ (t.engineAt e).ctx = (s.engineAt e).ctx ++ [s.nextFrame] ∧ ChangesOnly [.frames, .nextFrame, .pump, .ledg, .sump] s t)
  ∧ (∀ f s, s.chooseEngine = none → s.pump.holding.length < 32 → dispatchHeader f s = { s with pump := { s.pump with
      holding := s.pump.holding ++ [f], dispatchWait := bump s.pump.dispatchWait } })
  ∧ (∀ (p : Fin 64) bytes (ph : Fin 32) s, bytes ≠ [] → s.receives p.val = true → fieldBe bytes 12 2 ≠ 0x8808 →
      s.frameBerth p.val (outerVlan bytes) = none → ∃ t, exec (.frameStart p bytes ph) s = .next t
        ∧ t.glb = { s.glb with noBerthDrop := bump s.glb.noBerthDrop } ∧ t.frames = s.frames
        ∧ (t.portAt p.val).rxFrames = bump (s.portAt p.val).rxFrames)
  ∧ (∀ s f rest e, s.pump.holding = f :: rest → s.chooseEngine = some e →
      exec .holdingBufferDispatch s = .next (giveContext f e { s with pump := { s.pump with holding := rest } }))
  ∧ (∀ f s u, s.hasFrame f = true → (s.frameAt f).ended = false → (s.frameAt f).cells.length < cellsOf (s.frameAt f).len →
      (s.frameAt f).closed = false → (s.frameAt f).copyLost = false →
      takeCells f ((s.frameAt f).cells.length + 1) 40 s = (u, true) → exec (.cellAllocate f) s = .next u)
  ∧ (∀ f s, s.hasFrame f = true → (s.frameAt f).isRiver = true → (s.frameAt f).lookedUp = false → (s.frameAt f).routed = false →
      (s.frameAt f).closed = false → (s.frameAt f).copyLost = false →
      s.launchSet (s.frameAt f).berth (s.frameAt f).inPort ((s.frameAt f).bytes.take 6) = [] →
      s.launchBroken (s.frameAt f).berth (s.frameAt f).inPort ((s.frameAt f).bytes.take 6) = false →
      exec (.launchLookup f .ok) s = .next (count 0x0042
        { frameOcc (s.frameAt f).inPort (s.frameAt f).berth none with addr := some (1, 8, (s.rsvB (s.frameAt f).berth).fbase) } 1
        (s.setFrame f { s.frameAt f with lookedUp := true, lset := none })))
  ∧ (∀ f s i rest, s.hasFrame f = true → (s.frameAt f).isRiver = true → (s.frameAt f).lookedUp = false → (s.frameAt f).routed = false →
      (s.frameAt f).closed = false →
      s.launchSet (s.frameAt f).berth (s.frameAt f).inPort ((s.frameAt f).bytes.take 6) = i :: rest →
      s.mayLaunch f (Tab.look {} s.rsv.ferry i).egPort.toNat (Tab.look {} s.rsv.ferry i).tc.toNat = true →
      ∃ t, exec (.launchLookup f .ok) s = .next t ∧ (t.frameAt f).launched = true
        ∧ (t.frameAt f).lset = some ((Tab.look {} s.rsv.ferry i).egPort.toNat, (Tab.look {} s.rsv.ferry i).tc.toNat)
        ∧ (t.frameAt f).queued = (s.frameAt f).queued ++ [ferrySource]
        ∧ (t.egressAt (Tab.look {} s.rsv.ferry i).egPort.toNat).fifo = (s.egressAt (Tab.look {} s.rsv.ferry i).egPort.toNat).fifo ++ [f])
  ∧ (∀ f s, s.hasFrame f = true → (s.frameAt f).lset.isSome = true → (s.frameAt f).confirmed = none →
      exec (.confirmCompare f) s = .next (s.setFrame f { s.frameAt f with confirmed := some (s.confirms (s.frameAt f)) }))
  ∧ (∀ f s, s.hasFrame f = true → (s.frameAt f).isRiver = true → (s.frameAt f).ended = false → 9216 < (s.frameAt f).len →
      exec (.oversizeCut f) s = .next (endFrame f (s.setFrame f { s.frameAt f with
        bytes := (s.frameAt f).bytes.take 9216, oversize := true, fcsBad := true })))
  ∧ (∀ f corr uncorr s, s.hasFrame f = true → (s.frameAt f).isRiver = true → (s.frameAt f).ended = false → (s.frameAt f).len ≤ 9216 →
      exec (.ingressFrameEnd f corr uncorr) s = .next (endFrame f (countFec (s.frameAt f).inPort corr uncorr s)))
  ∧ (∀ p len bad runt long s, ((countRx p len bad runt long s).portAt p).rxFrames = bump (s.portAt p).rxFrames
      ∧ ((countRx p len bad runt long s).portAt p).rxBytes = bumpBy (s.portAt p).rxBytes len
      ∧ ((countRx p len bad runt long s).portAt p).rxFcsErr = (if bad then bump (s.portAt p).rxFcsErr else (s.portAt p).rxFcsErr))

/-- A frame is parsed, strained and judged (05_pumps.md R116, R127, 06_strainer.md R147, R148, 10_weir_windlass.md R234, R235, R237, 07_tables.md R175, 14_remote_memory.md R314). A parse
result commits and frees its context; the rule table is searched, and a lookup's result says whether it hit; the Weir judges an order under the held
updates, a hold beyond HOLD_MAX being a REJECT; forwarding is looked up; aged fragment entries and match contexts are freed. -/
def Obligations.FrameJudgingTakesEffect : Prop :=
  (∀ f s e r, (s.frameAt f).engine = some e → s.hasFrame f = true → (s.frameAt f).committed = false → s.parseFrame f e = some r →
      ∃ t, exec (.parseCommit f) s = .next t ∧ (t.engineAt e).ctx = (s.engineAt e).ctx.erase f
        ∧ t = finalize f (commitFrag f r (reserveFor f (countParse f r
          (onFrame f (fun y => { y with engine := none, committed := true, parse := r.parse })
            (onEngine e (fun x => { x with ctx := x.ctx.erase f }) s))))))
  ∧ (∀ f s, (s.frameAt f).parse.order = false → reserveFor f s = s)
  ∧ (∀ f s u res, s.hasFrame f = true → (s.frameAt f).committed = true → (s.frameAt f).parse.cls = 0 → (s.frameAt f).judged = false →
      (s.frameAt f).strn = none →
      strnLookup (s.frameAt f).berth (ruleKey (s.frameAt f).parse
        (((settleSet (s.frameAt f).berth s).strnB (s.frameAt f).berth).groups ((s.frameAt f).rate == 2) (s.frameAt f).bytes)
        (s.frameAt f).inPort) (some f) (settleSet (s.frameAt f).berth s) = (u, res) →
      exec (.strainerLookup f) s = .next (onFrame f (fun y => { y with
        strn := some (BitVec.ofNat 64 res), ctxSlot := if bitsOf res 47 32 = 0 then none else some (bitsOf res 47 32 / 64) }) u))
  ∧ (∀ b key fr s, s.matchesFrom b 0 key = [] → (strnLookup b key fr s).2
      = strnWord 0 (s.strnB b).onNoMatch.toNat 0 0 false false (s.strnErr b (byteAt key 40 % 64)))
  ∧ (∀ b key fr s i, s.matchesFrom b 0 key = [i] → (strnLookup b key fr s).2
      = strnWord i ((s.ruleAt i).result.toNat % 16) 0 ((s.ruleAt i).result.toNat / 65536) true false (s.strnErr b (byteAt key 40 % 64)))
  ∧ (∀ (b : Fin 16) (slot : Fin 64) s, (s.ctxAt (64 * b.val + slot.val)).live = true → ∃ t, exec (.handleAgeExpiry b slot) s = .next t
        ∧ (t.ctxAt (64 * b.val + slot.val)) = { seq := (s.ctxAt (64 * b.val + slot.val)).seq % 63 + 1 } ∧ ChangesOnly [.frames, .strn] s t)
  ∧ (∀ (k : Fin 4096) s, (Tab.look {} s.pump.frag k.val).src ≠ [] → exec (.fragAgeExpiry k) s = .next { s with pump := { s.pump with
      frag := Tab.del s.pump.frag k.val, fragAged := bump s.pump.fragAged } })
  ∧ (∀ f s res j, s.hasFrame f = true → (s.frameAt f).committed = true → (s.frameAt f).parse.cls = 0 → (s.frameAt f).judged = false →
      (s.frameAt f).strn = some res → (s.frameAt f).parse.order = true →
      judge s (s.frameAt f).berth (s.frameAt f).parse.toOrder
        { full := (s.frameAt f).slot == 2, timeFail := (s.frameAt f).tfcFail, strainer := res.toNat } = j →
      (j.verdict ≠ 3 ∨ (s.weirB (s.frameAt f).berth).held.length < (s.weirB (s.frameAt f).berth).holdMax.toNat) →
      exec (.weirVerdict f) s = .next (finalize f (updateFrag f (verdictArrives f j.verdict j.reason j.upd j.create
        (countVerdict (s.frameAt f).berth j.verdict j.reason s)))))
  ∧ (∀ f s res j, s.hasFrame f = true → (s.frameAt f).committed = true → (s.frameAt f).parse.cls = 0 → (s.frameAt f).judged = false →
      (s.frameAt f).strn = some res → (s.frameAt f).parse.order = true →
      judge s (s.frameAt f).berth (s.frameAt f).parse.toOrder
        { full := (s.frameAt f).slot == 2, timeFail := (s.frameAt f).tfcFail, strainer := res.toNat } = j →
      j.verdict = 3 → (s.weirB (s.frameAt f).berth).holdMax.toNat ≤ (s.weirB (s.frameAt f).berth).held.length →
      exec (.weirVerdict f) s = .next (finalize f (updateFrag f (verdictArrives f 2 0x14 j.upd j.create
        (countVerdict (s.frameAt f).berth 2 0x14 s)))))
  ∧ (∀ f s res, s.hasFrame f = true → (s.frameAt f).committed = true → (s.frameAt f).parse.cls = 0 → (s.frameAt f).judged = false →
      (s.frameAt f).strn = some res → (s.frameAt f).parse.order = false →
      exec (.weirVerdict f) s = .next (finalize f (updateFrag f (verdictArrives f
        (if bitsOf res.toNat 19 17 = 0 ∧ bitOf res.toNat 16 = false then 1 else 2) 0 none none s))))
  ∧ (∀ f s, s.hasFrame f = true → (s.frameAt f).committed = true → (s.frameAt f).fwd = none → (s.frameAt f).isRiver = true →
      s.isRdma (s.frameAt f).berth (s.frameAt f).inPort (s.frameAt f).bytes = true →
      exec (.forwardingResult f) s = .next (updateFrag f (s.setFrame f { s.frameAt f with fwd := some 0, rdma := true })))
  ∧ (∀ f s u o, s.hasFrame f = true → (s.frameAt f).committed = true → (s.frameAt f).fwd = none → (s.frameAt f).isRiver = true →
      s.isRdma (s.frameAt f).berth (s.frameAt f).inPort (s.frameAt f).bytes = false →
      forward (s.frameAt f).berth (s.frameAt f).parse (s.frameAt f).bytes s = (u, o) →
      exec (.forwardingResult f) s = .next (updateFrag f (onFrame f (fun y => { y with
        fwd := some (BitVec.ofNat 32 o.result), fwdMiss := o.missed, fwdErr := o.err }) u)))

/-- A frame leaves (01_order_path.md R31, R35, R37, 04_river_ports.md R104, R109, 08_ferry_reservoir.md R193, R196 to R198, R202, R203, R206, 10_weir_windlass.md R238). At D a ferry frame's stomp reason is taken in
R35's order; a frame is enqueued by its verdict, and a full queue refuses it; a port starts its next frame; the end of a transmission puts the bytes on
the wire and applies deferred commands; a lost bank group leaves service; records are appended; drops are counted. -/
def Obligations.FrameDepartureTakesEffect : Prop :=
  (∀ f s, s.hasFrame f = true → (s.frameAt f).onWire = true → (s.frameAt f).decided = false →
      (s.frameAt f).confirmed = some true → (s.frameAt f).failed = false → (s.frameAt f).judged = true → (s.frameAt f).verdict = 1 →
      s.sump.safe = false → (s.frameAt f).safeStomp = false →
      exec (.stompDecision f) s = .next (routeDone f (s.setFrame f { s.frameAt f with
        decided := true, stomp := 0, ferryTe := (s.frameAt f).te })))
  ∧ (∀ (x : Frame), stompReason x true = 4
      ∧ (x.safeStomp = false → x.confirmed = some false → stompReason x false = 6)
      ∧ (x.safeStomp = false → x.confirmed = some true → x.failed = false → x.judged = false → stompReason x false = 2)
      ∧ (x.safeStomp = false → x.confirmed = some true → x.failed = false → x.judged = true → x.verdict = 2 → stompReason x false = 1)
      ∧ (x.safeStomp = false → x.confirmed = some true → x.failed = false → x.judged = true → x.verdict = 3 → stompReason x false = 3))
  ∧ (∀ f s, s.hasFrame f = true → (s.frameAt f).awaitsQueue = true → (s.frameAt f).lset = none → (s.frameAt f).copyLost = false →
      (s.frameAt f).unparsed = false → (s.frameAt f).committed = true → (s.frameAt f).parse.cls = 0 → (s.frameAt f).judged = true →
      (s.frameAt f).fwd.isSome = true → (s.frameAt f).verdict = 1 → (s.frameAt f).canSend = true →
      exec (.enqueue f) s = .next (sendOn f (s.setFrame f (s.frameAt f))))
  ∧ (∀ f s, s.hasFrame f = true → (s.frameAt f).awaitsQueue = true → (s.frameAt f).lset = none → (s.frameAt f).copyLost = false →
      (s.frameAt f).unparsed = false → (s.frameAt f).committed = true → (s.frameAt f).parse.cls = 0 → (s.frameAt f).judged = true →
      (s.frameAt f).fwd.isSome = true → (s.frameAt f).verdict = 2 →
      s.isRdma (s.frameAt f).berth (s.frameAt f).inPort (s.frameAt f).bytes = false →
      exec (.enqueue f) s = .next (routeDone f (s.setFrame f (s.frameAt f))))
  ∧ (∀ q f s, (s.queueAt q).qmax.toNat ≤ s.queueDepth q →
      joinQueue q f s = (onQueue q (fun x => { x with drop := bump x.drop }) s, false))
  ∧ (∀ q f s, s.queueDepth q < (s.queueAt q).qmax.toNat → (joinQueue q f s).2 = true
      ∧ ((joinQueue q f s).1.queueAt q).entries = (s.queueAt q).entries ++ [f]
      ∧ ((joinQueue q f s).1.frameAt f).queued = (s.frameAt f).queued ++ [q])
  ∧ (∀ (p : Fin 64) (ph : Fin 32) s u src, (s.egressAt p.val).busy = none → s.mayStart p.val = true →
      ((s.portAt p.val).link = 3 ∨ (s.portAt p.val).resumed = false ∨ (s.quadAt (p.val / 4)).synth ≠ 0) →
      (s.quadAt (p.val / 4)).synth ≠ 1 → selectSource p.val (readyPort p.val s) = (u, some src) →
      exec (.egressSelect p ph) s = .next (startFrom p.val src ph.val u))
  ∧ (∀ (p : Fin 64) (ph : Fin 32) s, (s.egressAt p.val).busy = none → (s.portAt p.val).link ≠ 3 → (s.portAt p.val).resumed = true →
      (s.quadAt (p.val / 4)).synth = 0 → exec (.egressSelect p ph) s = .next (dropPort p.val s))
  ∧ (∀ p s f, (s.ferryReady p) = some f → selectSource p s = (s, some ferrySource))
  ∧ (∀ s, (∀ n, s.requests n = []) → exec .matcherRound s = .next (count 0x0051 {} 1 s))
  ∧ (∀ (p : Fin 64) err s f q, (s.egressAt p.val).busy = some (f, q) →
      exec (.egressFrameEnd p err) s = .next (applyDeferred p.val (endTransmission p.val f q (cellEcc f q err s))))
  ∧ (∀ (p : Fin 64) s f q, (s.egressAt p.val).busy = some (f, q) → q ≠ ferrySource →
      endTransmission p.val f q s = copyEnds f q (onEgress p.val (fun e => { e with busy := none, blank := none })
        (onPort p.val (fun v => { v with txFrames := bump v.txFrames, txBytes := bumpBy v.txBytes (s.sentAs p.val f q).length })
          (chargeSent p.val f q { s with out := .wire p.val (s.sentAs p.val f q) :: s.out }))))
  ∧ (∀ (g : Fin 32) c s, s.rsv.banks.getLsbD g.val = true → exec (.bankGroupFail g c) s = .next (checkGuar (raise 13 0 g.val 0 0 none
      (spoilFrames g.val { s with rsv := { s.rsv with banks := s.rsv.banks &&& ~~~(BitVec.ofNat 32 (2 ^ g.val)) } }))))
  ∧ (∀ f s q, (s.frameAt f).queued = [q] → q < 512 → s.settling (q / 8) = true →
      exec (.settleLimitDrop f) s = .next (onPort (q / 8) (fun v => { v with settleDrop := bump v.settleDrop }) (dropCopy f q flagSettle s)))
  ∧ (∀ f s, s.hasFrame f = true → (s.frameAt f).fate = true → (s.frameAt f).isOrder = true → ∃ t, exec (.orderRecord f) s = .next t
        ∧ t.hasFrame f = false ∧ t.ledg = (appendOrder (s.frameAt f).berth ((s.frameAt f).slot == 1) (s.frameAt f).record s).ledg
        ∧ ChangesOnly [.frames, .ledg, .cist, .pmon, .out] s t)
  ∧ (∀ f s, s.hasFrame f = true → (s.frameAt f).holdId.isSome = true → exec (.holdTimeout f) s = .next (rejectHeld f 0x12 s))

/-- The queueing commands (08_ferry_reservoir.md R186, R191, R197, R199, R200, R206, 09_berths.md R212). A launch entry is written to the berth's range, or removed; a quota that fits is set; a queue and a
shaper are configured at once when their port is between frames, and else at its next frame boundary; a berth may not change SAFE_STOP; thresholds
are set; the status reports the reservoir and the berths. -/
def Obligations.QueueingCommandsTakeEffect : Prop :=
  (∀ rq, Completes (.queueingFerryWrite rq) (cmdOwn 0x0801 24 0) rq
      (fun u => rq.u8 0 < 16 ∧ rq.u8 1 = 0 ∧ u.inFerryRange (rq.u8 0) (rq.u16 2) = true ∧ ferryFieldsOk rq = true
        ∧ u.hasPort (rq.u8 0) (rq.u8 4) = true ∧ u.mayUsePort (rq.u8 0) (rq.u8 5) (rq.u8 6) = true
        ∧ u.launchSet (rq.u8 0) (rq.u8 4) (rq.bytes 8 6) = []) (fun _ => [])
      (fun u => { u with rsv := { u.rsv with ferry := Tab.put {} u.rsv.ferry (rq.u16 2) (ferryEntryOf rq) } }))
  ∧ (∀ rq, Completes (.queueingFerryWrite rq) (cmdOwn 0x0801 24 0) rq
      (fun u => rq.u8 0 < 16 ∧ rq.u8 1 = 1 ∧ u.inFerryRange (rq.u8 0) (rq.u16 2) = true) (fun _ => [])
      (fun u => { u with rsv := { u.rsv with ferry := Tab.del u.rsv.ferry (rq.u16 2) } }))
  ∧ (∀ rq, TurnsAway (.queueingFerryWrite rq) (cmdOwn 0x0801 24 0) rq
      (fun u => rq.u8 0 < 16 ∧ rq.u8 1 = 0 ∧ u.inFerryRange (rq.u8 0) (rq.u16 2) = true ∧ ferryFieldsOk rq = true
        ∧ u.mayUsePort (rq.u8 0) (rq.u8 5) (rq.u8 6) = false) .noPerm)
  ∧ (∀ rq, Completes (.queueingQuota rq) (cmdH 0x0802 16) rq
      (fun u => rq.u8 0 < 16 ∧ rq.u16 2 ≤ 8191 ∧ rq.u16 2 + rq.u16 4 ≤ 8192 ∧ rq.u32 8 ≤ 253952 ∧ rq.u32 12 ≤ 262144
        ∧ (∀ o, o < 16 → o ≠ rq.u8 0 → overlaps (rq.u16 2) (rq.u16 4) (u.rsvB o).fbase (u.rsvB o).fsize = false)
        ∧ (((List.range 16).filter (· ≠ rq.u8 0)).map (fun o => (u.rsvB o).guar)).foldl (· + ·) (rq.u32 8) ≤ 253952) (fun _ => [])
      (fun u => checkGuar (onRsvB (rq.u8 0) (fun q => { q with fbase := rq.u16 2, fsize := rq.u16 4, guar := rq.u32 8, max := rq.u32 12 })
        { u with rsv := { u.rsv with ferry := Tab.keep (fun i _ => !((u.rsvB (rq.u8 0)).fbase ≤ i
          && i < (u.rsvB (rq.u8 0)).fbase + (u.rsvB (rq.u8 0)).fsize) || (rq.u16 2 ≤ i && i < rq.u16 2 + rq.u16 4)) u.rsv.ferry } })))
  ∧ (∀ rq, Completes (.queueingQueueConfig rq) { cmdHB 0x0803 12 with own := ownQueue } rq
      (fun u => rq.u16 0 < 656 ∧ rq.u8 2 ≤ 1 ∧ rq.u8 3 ≤ 1 ∧ 64 ≤ rq.u32 4 ∧ rq.u32 4 ≤ 1048576 ∧ rq.u32 8 ≤ 262144
        ∧ (isHarbour u rq = true ∨ (rq.u8 3 == 1) = (u.queueAt (rq.u16 0)).isSafeStop (rq.u16 0))
        ∧ (512 ≤ rq.u16 0 ∨ (u.egressAt (rq.u16 0 / 8)).busy = none)) (fun _ => [])
      (fun u => onQueue (rq.u16 0) (fun x => { x with
        sp := if rq.u16 0 < 512 then some (rq.u8 2 == 0) else x.sp, safeStop := some (rq.u8 3 == 1),
        quantum := BitVec.ofNat 32 (rq.u32 4), qmax := BitVec.ofNat 32 (rq.u32 8) }) u))
  ∧ (∀ rq, Waits (.queueingQueueConfig rq) { cmdHB 0x0803 12 with own := ownQueue } rq
      (fun u => rq.u16 0 < 512 ∧ rq.u8 2 ≤ 1 ∧ rq.u8 3 ≤ 1 ∧ 64 ≤ rq.u32 4 ∧ rq.u32 4 ≤ 1048576 ∧ rq.u32 8 ≤ 262144
        ∧ (isHarbour u rq = true ∨ (rq.u8 3 == 1) = (u.queueAt (rq.u16 0)).isSafeStop (rq.u16 0))
        ∧ (u.egressAt (rq.u16 0 / 8)).busy.isSome = true)
      (fun u => { u with rsv := { u.rsv with deferred := u.rsv.deferred ++ [(rq.u16 0 / 8, false, rq)] } }))
  ∧ (∀ rq, TurnsAway (.queueingQueueConfig rq) { cmdHB 0x0803 12 with own := ownQueue } rq
      (fun u => rq.u16 0 < 656 ∧ rq.u8 2 ≤ 1 ∧ rq.u8 3 ≤ 1 ∧ 64 ≤ rq.u32 4 ∧ rq.u32 4 ≤ 1048576 ∧ rq.u32 8 ≤ 262144
        ∧ isHarbour u rq = false ∧ (rq.u8 3 == 1) ≠ (u.queueAt (rq.u16 0)).isSafeStop (rq.u16 0)) .noPerm)
  ∧ (∀ rq, Completes (.queueingShaper rq) { cmdHB 0x0804 16 with own := ownQueue } rq
      (fun u => rq.u16 0 < 512 ∧ rq.u8 2 ≤ 1 ∧ rq.u8 3 ≤ 1 ∧ rq.u32 4 ≤ u.targetSpeed (rq.u16 0) ∧ 64 ≤ rq.u32 8
        ∧ rq.u32 8 ≤ 1048576 ∧ rq.u8 12 ≤ 32 ∧ (u.egressAt (rq.u16 0 / 8)).busy = none) (fun _ => [])
      (fun u => onQueue (rq.u16 0) (fun x => { x with
        shaper := x.shaper.configure (rq.u8 2 == 1) (rq.u8 3 == 1) (rq.u32 4) (rq.u32 8) (rq.u8 12) (u.targetSpeed (rq.u16 0)) }) (fillQueue (rq.u16 0) u)))
  ∧ (∀ (x : Shaper) forgive rate burst overhead speed, x.everOn = false →
      (x.configure true forgive rate burst overhead speed).level = burst * 256)
  ∧ (∀ rq, Completes (.queueingPauseThresh rq) (cmdH 0x0805 12) rq
      (fun _ => rq.u8 0 ≤ 63 ∧ rq.u8 1 ≤ 7 ∧ rq.u32 4 ≠ 0 ∧ rq.u32 4 ≤ 262144 ∧ rq.u32 8 < rq.u32 4) (fun _ => [])
      (fun u => pauseCheck (rq.u8 0) (rq.u8 1) (onEgress (rq.u8 0) (fun e => { e with
        xoff := Tab.put 1024 e.xoff (rq.u8 1) (BitVec.ofNat 32 (rq.u32 4)), xon := Tab.put 768 e.xon (rq.u8 1) (BitVec.ofNat 32 (rq.u32 8)) }) u)))
  ∧ (∀ rq, Completes (.queueingStatus rq) (cmdHBA 0x0806 0) rq (fun _ => True)
      (fun u => leBytes 4 u.rsv.inService.toNat ++ leBytes 4 u.rsv.free ++ ((u.statusBerths rq).map (fun b =>
        leBytes 2 (u.rsvB b).fbase ++ leBytes 2 (u.rsvB b).fsize ++ leBytes 4 (u.rsvB b).guar ++ leBytes 4 (u.rsvB b).max
          ++ leBytes 4 (u.rsvB b).held)).flatten) id)

/-- The pump commands (05_pumps.md R117, R124, R127, R135, R136, R138, R139). A berth's profile and actions and the age of fragments are set; an image is staged, and its commit, with the
image's digest, a new generation and no reserved field used, starts the patch; PATCH_LOCK is burned once and then lets one commit pass; an engine leaves rotation, never the
last, and returns reloaded; the status reports every engine. -/
def Obligations.PumpCommandsTakeEffect : Prop :=
  (∀ rq, Completes (.pumpSetProfile rq) (cmdH 0x0503 8) rq
      (fun u => rq.u8 0 < 16 ∧ rq.u8 1 ≤ 1 ∧ rq.u16 2 ≤ 16383 ∧ u.berthExists (rq.u8 0) = true) (fun _ => [])
      (fun u => onPumpB (rq.u8 0) (fun x => { x with enable := rq.u8 1 == 1, entry := BitVec.ofNat 14 (rq.u16 2) }) u))
  ∧ (∀ rq, TurnsAway (.pumpSetProfile rq) (cmdH 0x0503 8) rq
      (fun u => rq.u8 0 < 16 ∧ rq.u8 1 ≤ 1 ∧ rq.u16 2 ≤ 16383 ∧ u.berthExists (rq.u8 0) = false) .state)
  ∧ (∀ rq, Completes (.pumpSetAction rq) (cmdOwn 0x0504 8 0) rq
      (fun u => rq.u8 0 < 16 ∧ 1 ≤ rq.u8 1 ∧ rq.u8 1 ≤ 8 ∧ rq.u8 2 ≤ 2 ∧ u.berthExists (rq.u8 0) = true) (fun _ => [])
      (fun u => onPumpB (rq.u8 0) (fun x => { x with
        action := Tab.put 0 x.action (rq.u8 1) (BitVec.ofNat 2 (rq.u8 2)), mirror := Tab.put 0 x.mirror (rq.u8 1) (BitVec.ofNat 16 (rq.u16 4)) }) u))
  ∧ (∀ rq, TurnsAway (.pumpSetAction rq) (cmdOwn 0x0504 8 0) rq
      (fun u => rq.u8 0 < 16 ∧ 1 ≤ rq.u8 1 ∧ rq.u8 1 ≤ 8 ∧ rq.u8 2 = 3 ∧ u.berthExists (rq.u8 0) = true ∧ rq.u16 4 ≤ 63
        ∧ u.mayMirror (rq.u8 0) (rq.u16 4) = false) .noPerm)
  ∧ (∀ rq, Completes (.pumpFragConfig rq) (cmdH 0x0505 4) rq (fun _ => rq.u32 0 ≤ 1000000) (fun _ => [])
      (fun u => { u with pump := { u.pump with fragAge := BitVec.ofNat 32 (rq.u32 0) } }))
  ∧ (∀ rq, Completes (.pumpStatus rq) (cmdHBA 0x0506 0) rq (fun _ => True)
      (fun u => leBytes 4 (pumpRotationWord u) ++ leBytes 4 (pumpGenWord u) ++ ((List.range 16).map (fun e =>
        [(u.engineAt e).gen, 0, 0, 0] ++ padTo 32 (u.engineAt e).digest)).flatten) id)
  ∧ (∀ rq, Completes (.pumpLockPatch rq) (cmdH 0x0508 4) rq (fun u => rq.u32 0 = 0x50415443 ∧ u.fuse.patchLock = false) (fun _ => [])
      (fun u => { u with fuse := { u.fuse with patchLock := true } }))
  ∧ (∀ rq, TurnsAway (.pumpLockPatch rq) (cmdH 0x0508 4) rq (fun _ => rq.u32 0 ≠ 0x50415443) .badParam)
  ∧ (∀ rq, Completes (.pumpStage rq) { cmdH 0x0501 8 with len := fun p => 8 + fieldLe p 4 2 } rq
      (fun u => rq.u16 4 ≠ 0 ∧ rq.u16 4 ≤ 4072 ∧ rq.u32 0 + rq.u16 4 ≤ 74000 ∧ u.pump.patchLeft = []) (fun _ => [])
      (fun u => { u with pump := { u.pump with staging := Tab.putAll 0 u.pump.staging (rq.u32 0) (rq.bytes 8 (rq.u16 4)), staged := true } }))
  ∧ (∀ rq, Completes (.pumpCommit rq) (cmdH 0x0502 40) rq
      (fun u => (u.fuse.patchLock = false ∨ u.pump.lockUsed = false) ∧ u.pump.staged = true ∧ imageDigest u.pump.staging = rq.bytes 0 32
        ∧ rq.u16 32 ≠ 0 ∧ rq.u8 34 ≠ u.pump.gen.toNat ∧ nanoReservedUsed u.pump.staging = false ∧ u.pump.patchLeft = []) (fun _ => [])
      (fun u => startPatch (rq.u16 32) (rq.u8 34) u))
  ∧ (∀ rq, TurnsAway (.pumpCommit rq) (cmdH 0x0502 40) rq (fun u => u.fuse.patchLock = true ∧ u.pump.lockUsed = true) .noPerm)
  ∧ (∀ rq k, Completes (.pumpEngineCtl rq k) (cmdH 0x0507 4) rq
      (fun u => rq.u8 0 ≤ 15 ∧ rq.u8 1 = 0 ∧ u.pump.patchLeft.contains (rq.u8 0) = false ∧ (u.engineAt (rq.u8 0)).inRotation = true
        ∧ 1 < ((List.range 16).filter (fun i => (u.engineAt i).inRotation)).length) (fun _ => [])
      (fun u => onEngine (rq.u8 0) (fun x => { x with inRotation := false }) u))
  ∧ (∀ rq k, TurnsAway (.pumpEngineCtl rq k) (cmdH 0x0507 4) rq
      (fun u => rq.u8 0 ≤ 15 ∧ rq.u8 1 = 0 ∧ u.pump.patchLeft.contains (rq.u8 0) = false
        ∧ ((List.range 16).filter (fun i => (u.engineAt i).inRotation)).length ≤ 1) .state)
  ∧ (∀ rq, Completes (.pumpEngineCtl rq true) (cmdH 0x0507 4) rq
      (fun u => rq.u8 0 ≤ 15 ∧ rq.u8 1 = 1 ∧ u.pump.patchLeft.contains (rq.u8 0) = false ∧ (u.engineAt (rq.u8 0)).inRotation = false
        ∧ (u.engineAt (rq.u8 0)).ctx = []) (fun _ => [])
      (fun u => onEngine (rq.u8 0) (fun x => { x with inRotation := true, failed := false }) (loadEngine (rq.u8 0) u)))

/-- The pump engines' events (05_pumps.md R130, R131, R133, R134). A failed engine leaves rotation with PUMP_FAIL and its frames are reparsed; the golden check runs on the
next engine; a drained engine loads the image and its record is written before it returns; a record not accepted in time stops the patch. -/
def Obligations.PumpEventsTakeEffect : Prop :=
  (∀ (e : Fin 16) s, (s.engineAt e.val).failed = false → (s.engineAt e.val).ctx = [] → s.pump.patchLeft = [] →
      exec (.pumpFail e .selfCheck) s = .next (raise 10 0 e.val 4 0 none
        (onEngine e.val (fun x => { x with inRotation := false, failed := true, patching := false, ctx := [] }) (onEngine e.val id s))))
  ∧ (∀ (e : Fin 16) kind s, (s.engineAt e.val).failed = false → ∃ t, exec (.pumpFail e kind) s = .next t
      ∧ ChangesOnly [.frames, .pump, .ledg, .mbx, .msix, .sump, .out] s t)
  ∧ (∀ s e, s.goldenEngine = some e → exec (.goldenSelfCheck true) s = .next { s with pump := { s.pump with
      selfNext := (e + 1) % 16, selfCheck := bump s.pump.selfCheck } })
  ∧ (∀ s e, s.goldenEngine = some e → exec (.goldenSelfCheck false) s = .next (failEngine e 4 { s with pump := { s.pump with
      selfNext := (e + 1) % 16, selfCheck := bump s.pump.selfCheck } }))
  ∧ (∀ s e rest, s.pump.patchLeft = e :: rest → s.pump.patchLoaded = false → (s.engineAt e).ctx = [] →
      exec (.patchEngineLoad true) s = .next (readmitPatched e (appendAll 4 0 (microInfo e s.pump.gen.toNat) s.pump.patchDigest
        (onPump (fun p => { p with patchLoaded := true }) (loadEngine e s)))))
  ∧ (∀ s e rest, s.pump.patchLeft = e :: rest → s.pump.patchLoaded = false → (s.engineAt e).ctx = [] →
      exec (.patchEngineLoad false) s = .next (failEngine e 3 (loadEngine e s)))
  ∧ (∀ e s, ((loadEngine e s).engineAt e).gen = s.pump.gen ∧ ((loadEngine e s).engineAt e).digest = s.pump.patchDigest
      ∧ ((loadEngine e s).engineAt e).newest = true ∧ ((loadEngine e s).engineAt e).inRotation = (s.engineAt e).inRotation)
  ∧ (∀ e s, s.configWritten (microInfo e s.pump.gen.toNat) = false → readmitPatched e s = s)
  ∧ (∀ e s rest, s.configWritten (microInfo e s.pump.gen.toNat) = true → s.pump.patchLeft = e :: rest →
      ((readmitPatched e s).pump.patchLeft = rest ∧ (readmitPatched e s).pump.patchLoaded = false
        ∧ ((readmitPatched e s).engineAt e).inRotation = true))
  ∧ (∀ s e rest, s.pump.patchLeft = e :: rest → s.pump.patchLoaded = true → s.configWritten (microInfo e s.pump.gen.toNat) = false →
      ∃ t, exec .pumpPatchStall s = .next t ∧ t.pump.patchLeft = [] ∧ t.pump.patchLoaded = false
        ∧ (t.engineAt e).inRotation = false ∧ (t.engineAt e).patching = false ∧ ChangesOnly [.pump, .mbx, .msix, .sump, .out] s t)

/-- The strainer's commands (06_strainer.md R140, R143, R145, R147 to R152, R156, R157, R160). A partition that fits is set, and a range that moves loses its rules; a pattern set is staged and
committed under its digest and the berth's quotas; a rule is appended or written at once, while any other insert and any delete but the last is a
move, answered at its end; a lookup answers as for a frame, and a handle steps to the next match or ends. -/
def Obligations.StrainerCommandsTakeEffect : Prop :=
  (∀ rq, Completes (.strainerPartition rq) (cmdH 0x0601 12) rq
      (fun u => rq.u8 0 < 16 ∧ rq.u16 2 ≤ 16383 ∧ rq.u16 2 + rq.u16 4 ≤ 16384 ∧ rq.u16 6 ≤ 8192 ∧ rq.u16 8 ≤ 256
        ∧ (∀ o, o < 16 → o ≠ rq.u8 0 → overlaps (rq.u16 2) (rq.u16 4) (u.strnB o).rbase (u.strnB o).rsize = false)
        ∧ (((List.range 16).filter (· ≠ rq.u8 0)).map (fun o => (u.strnB o).pquota)).foldl (· + ·) 0 + rq.u16 6 ≤ 8192
        ∧ (((List.range 16).filter (· ≠ rq.u8 0)).map (fun o => (u.strnB o).squota)).foldl (· + ·) 0 + rq.u16 8 ≤ 256
        ∧ u.moveOf (rq.u8 0) = none ∧ u.ctxLive (rq.u8 0) = false) (fun _ => []) (fun u => setPartition rq u))
  ∧ (∀ rq u, rq.u16 2 ≠ (u.strnB (rq.u8 0)).rbase → (setPartition rq u).strnB (rq.u8 0) = { u.strnB (rq.u8 0) with
      rbase := rq.u16 2, rsize := rq.u16 4, rcount := 0, pquota := rq.u16 6, squota := rq.u16 8 })
  ∧ (∀ rq, Completes (.strainerBerthConfig rq) (cmdOwn 0x0604 8 0) rq
      (fun _ => rq.u8 0 < 16 ∧ rq.u16 2 ≤ 256 ∧ rq.u8 4 ≤ 2 ∧ rq.u16 6 ≤ 10000) (fun _ => [])
      (fun u => onStrnB (rq.u8 0) (fun x => { x with
        scanOff := BitVec.ofNat 8 (rq.u8 1), scanLen := BitVec.ofNat 16 (rq.u16 2), onNoMatch := BitVec.ofNat 4 (rq.u8 4),
        handleAge := BitVec.ofNat 16 (rq.u16 6) }) u))
  ∧ (∀ rq, Completes (.strainerPatternStage rq) { cmdOwn 0x0602 8 0 with len := fun p => 8 + fieldLe p 2 2 } rq
      (fun _ => rq.u8 0 < 16 ∧ rq.u16 2 ≠ 0 ∧ rq.u16 2 ≤ 4072 ∧ rq.u32 4 = 0) (fun _ => [])
      (fun u => onStrnB (rq.u8 0) (fun x => { x with
        staging := Tab.putAll 0 [] 0 (rq.bytes 8 (rq.u16 2)), stagedLen := rq.u16 2 }) u))
  ∧ (∀ rq, Completes (.strainerPatternCommit rq) (cmdOwn 0x0603 36 0) rq
      (fun u => rq.u8 0 < 16 ∧ (u.strnB (rq.u8 0)).stagedLen ≠ 0 ∧ sha256 (u.strnB (rq.u8 0)).staged = rq.bytes 4 32
        ∧ Config.setPatterns (u.strnB (rq.u8 0)).staged ≤ (u.strnB (rq.u8 0)).pquota
        ∧ Config.setBlocks (u.strnB (rq.u8 0)).staged ≤ (u.strnB (rq.u8 0)).squota ∧ u.setWaits (rq.u8 0) = false) (fun _ => [])
      (fun u => settleSet (rq.u8 0) (append (rq.u8 0) 4 0 2 (sha256 (u.strnB (rq.u8 0)).staged)
        (onStrnB (rq.u8 0) (fun x => { x with staging := [], stagedLen := 0, pend := some (u.strnB (rq.u8 0)).staged }) u))))
  ∧ (∀ rq, TurnsAway (.strainerPatternCommit rq) (cmdOwn 0x0603 36 0) rq
      (fun u => rq.u8 0 < 16 ∧ (u.strnB (rq.u8 0)).stagedLen ≠ 0 ∧ sha256 (u.strnB (rq.u8 0)).staged ≠ rq.bytes 4 32) .badParam)
  ∧ (∀ rq, Completes (.strainerRuleInsert rq) (cmdOwn 0x0605 92 0) rq
      (fun u => rq.u8 0 < 16 ∧ rq.u16 2 = (u.strnB (rq.u8 0)).rbase + (u.strnB (rq.u8 0)).rcount
        ∧ u.ruleLegal (rq.u8 0) (ruleOf rq) none = true ∧ u.moveOf (rq.u8 0) = none
        ∧ (u.strnB (rq.u8 0)).rcount < (u.strnB (rq.u8 0)).rsize) (fun _ => [])
      (fun u => onStrnB (rq.u8 0) (fun x => { x with rcount := x.rcount + 1 }) (setRule (rq.u16 2) (ruleOf rq) u)))
  ∧ (∀ rq, Waits (.strainerRuleInsert rq) (cmdOwn 0x0605 92 0) rq
      (fun u => rq.u8 0 < 16 ∧ (u.strnB (rq.u8 0)).rbase ≤ rq.u16 2 ∧ rq.u16 2 < (u.strnB (rq.u8 0)).rbase + (u.strnB (rq.u8 0)).rcount
        ∧ u.ruleLegal (rq.u8 0) (ruleOf rq) none = true ∧ u.moveOf (rq.u8 0) = none
        ∧ (u.strnB (rq.u8 0)).rcount < (u.strnB (rq.u8 0)).rsize)
      (fun u => setMove (rq.u8 0) (some {
        del := false, index := rq.u16 2, cur := (u.strnB (rq.u8 0)).rbase + (u.strnB (rq.u8 0)).rcount - 1, entry := ruleOf rq,
        fn := rq.fn.val }) u))
  ∧ (∀ rq, TurnsAway (.strainerRuleInsert rq) (cmdOwn 0x0605 92 0) rq
      (fun u => rq.u8 0 < 16 ∧ rq.u16 2 = (u.strnB (rq.u8 0)).rbase + (u.strnB (rq.u8 0)).rcount
        ∧ u.ruleLegal (rq.u8 0) (ruleOf rq) none = true ∧ u.moveOf (rq.u8 0) = none
        ∧ (u.strnB (rq.u8 0)).rsize ≤ (u.strnB (rq.u8 0)).rcount) .noResource)
  ∧ (∀ rq, Completes (.strainerRuleDelete rq) (cmdOwn 0x0606 4 0) rq
      (fun u => rq.u8 0 < 16 ∧ u.usedIndex (rq.u8 0) (rq.u16 2) = true ∧ u.moveOf (rq.u8 0) = none
        ∧ rq.u16 2 + 1 = (u.strnB (rq.u8 0)).rbase + (u.strnB (rq.u8 0)).rcount) (fun _ => [])
      (fun u => onStrnB (rq.u8 0) (fun x => { x with rcount := x.rcount - 1 })
        (shiftCtx (rq.u8 0) (rq.u16 2) ((rq.u16 2 : Int) - 1) (setRule (rq.u16 2) {} u))))
  ∧ (∀ rq, Waits (.strainerRuleDelete rq) (cmdOwn 0x0606 4 0) rq
      (fun u => rq.u8 0 < 16 ∧ u.usedIndex (rq.u8 0) (rq.u16 2) = true ∧ u.moveOf (rq.u8 0) = none
        ∧ rq.u16 2 + 1 ≠ (u.strnB (rq.u8 0)).rbase + (u.strnB (rq.u8 0)).rcount)
      (fun u => setMove (rq.u8 0) (some { del := true, index := rq.u16 2, cur := rq.u16 2 + 1, fn := rq.fn.val })
        (shiftCtx (rq.u8 0) (rq.u16 2) ((rq.u16 2 : Int) - 1) (setRule (rq.u16 2) {} u))))
  ∧ (∀ rq, Completes (.strainerRuleWrite rq) (cmdOwn 0x0607 92 0) rq
      (fun u => rq.u8 0 < 16 ∧ u.usedIndex (rq.u8 0) (rq.u16 2) = true ∧ u.ruleLegal (rq.u8 0) (ruleOf rq) (some (rq.u16 2)) = true
        ∧ u.moveOf (rq.u8 0) = none) (fun _ => []) (fun u => setRule (rq.u16 2) (ruleOf rq) u))
  ∧ (∀ rq, Completes (.strainerLookupCmd rq) (cmdOwn 0x0608 48 0) rq (fun _ => rq.u8 0 < 16)
      (fun u => leBytes 8 (strnLookup (rq.u8 0) (rq.bytes 4 41) none u).2) (fun u => (strnLookup (rq.u8 0) (rq.bytes 4 41) none u).1))
  ∧ (∀ rq b k j, Completes (.strainerMatchNext rq) (cmdHB 0x0609 4) rq
      (fun u => u.handleCtx rq = some (b, k) ∧ (u.matchesFrom b ((u.ctxAt k).pos + 1).toNat (u.ctxAt k).key).head? = some j)
      (fun u => leBytes 2 j ++ leBytes 2 (u.ruleAt j).ruleId.toNat ++ leBytes 4 (u.ruleAt j).result.toNat)
      (fun u => onStrn (fun w => { w with ctx := Tab.put {} w.ctx k { u.ctxAt k with pos := j } })
        (count 0x0030 { masters := [(2, b)], addr := some (1, 7, j) } 1 u)))
  ∧ (∀ rq b k, Completes (.strainerMatchNext rq) (cmdHB 0x0609 4) rq
      (fun u => u.handleCtx rq = some (b, k) ∧ (u.matchesFrom b ((u.ctxAt k).pos + 1).toNat (u.ctxAt k).key).head? = none)
      (fun _ => leBytes 2 0xFFFF ++ zeros 6)
      (fun u => endCtx k (count 0x0030 { masters := [(2, b)], addr := some (1, 7, (u.ctxAt k).pos.toNat) } 1 u)))
  ∧ (∀ rq, TurnsAway (.strainerMatchNext rq) (cmdHB 0x0609 4) rq (fun u => u.handleCtx rq = none) .state)
  ∧ (∀ rq, Completes (.strainerStatus rq) (cmdHBA 0x060A 0) rq (fun _ => True)
      (fun u => strnWords u (u.statusBerths rq) ++ ((u.statusBerths rq).map (fun b =>
        leBytes 2 (u.strnB b).rbase ++ leBytes 2 (u.strnB b).rsize ++ leBytes 2 (u.strnB b).rcount ++ leBytes 2 (u.strnB b).pquota
          ++ leBytes 2 (u.strnB b).squota ++ padTo 32 (u.strnB b).digest)).flatten) id)

/-- The strainer's moves and its protection (06_strainer.md R150, R153, R154, R157, R158). The move engine serves one berth in rotation; a step moves one entry to its neighbour, and
the last one of an insert writes the new entry and answers; flushing reads one word and counts its errors, an uncorrectable one making a used
rule DAMAGED; a failed unit leaves service. -/
def Obligations.StrainerEventsTakeEffect : Prop :=
  (∀ s b m, ((List.range 16).map (fun i => (s.strn.moveNext + i) % 16)).find? (fun b => (s.moveOf b).isSome) = some b →
      s.moveOf b = some m → m.del = false → exec .moveStep s
        = .next (insertStep b m { s with strn := { s.strn with moveNext := (b + 1) % 16 } }))
  ∧ (∀ s b m, ((List.range 16).map (fun i => (s.strn.moveNext + i) % 16)).find? (fun b => (s.moveOf b).isSome) = some b →
      s.moveOf b = some m → m.del = true → exec .moveStep s
        = .next (deleteStep b m { s with strn := { s.strn with moveNext := (b + 1) % 16 } }))
  ∧ (∀ b m s, m.index < m.cur → insertStep b m s = setMove b (some { m with cur := m.cur - 1 }) (moveEntry b m.cur (m.cur + 1) s))
  ∧ (∀ b src dst s, src ≠ dst → (moveEntry b src dst s).ruleAt dst = s.ruleAt src ∧ (moveEntry b src dst s).ruleAt src = {}
      ∧ ∀ k, k ≠ src → k ≠ dst → (moveEntry b src dst s).ruleAt k = s.ruleAt k)
  ∧ (∀ u a s, exec (.ruleFlushing u a .ok) s = .next { s with strn := { s.strn with flushAt := (s.strn.flushAt + 1) % 16384 } })
  ∧ (∀ u a s, exec (.ruleFlushing u a .corrected) s = .next { s with strn := { s.strn with
      flushAt := (s.strn.flushAt + 1) % 16384, eccCorr := bump s.strn.eccCorr } })
  ∧ (∀ u s b, s.ruleOwner s.strn.flushAt = some b → (s.ruleAt s.strn.flushAt).ruleId ≠ 0 →
      ∃ t, exec (.ruleFlushing u false .uncorrectable) s = .next t ∧ t.strn.eccUncorr = bump s.strn.eccUncorr
        ∧ t.ruleAt s.strn.flushAt = { s.ruleAt s.strn.flushAt with damaged := true } ∧ ChangesOnly [.strn, .sump] s t)
  ∧ (∀ (u : Fin 4) s, s.strn.units.getLsbD u.val = true → exec (.strnUnitFail u) s = .next (raise 11 1 u.val 0 0 none
      { s with strn := { s.strn with units := s.strn.units &&& ~~~(BitVec.ofNat 4 (2 ^ u.val)) } }))

/-- The table commands and the tables' background (07_tables.md R161, R165 to R171, R173, R176, R178, R179, R181 to R183, R185, 09_berths.md R212). A partition that fits is set unless entries would be lost; entries,
routes and groups are written where the berth may name what they name, and refused with NO_PERM or NO_RESOURCE; a lookup leaves the tables as they are; a sweep ages;
a background access reads the next word, counts and poisons. -/
def Obligations.TablesTakeEffect : Prop :=
  (∀ rq, Completes (.tablesPartition rq) (cmdH 0x0701 12) rq
      (fun u => rq.u8 0 < 16 ∧ rq.u8 1 ≤ 6 ∧ isTrie (rq.u8 1) = false ∧ rq.u32 4 + rq.u32 8 ≤ tableSize (rq.u8 1)
        ∧ rq.u32 4 % tableStep (rq.u8 1) = 0 ∧ rq.u32 8 % tableStep (rq.u8 1) = 0
        ∧ (∀ o, o < 16 → o ≠ rq.u8 0 → overlaps (rq.u32 4) (rq.u32 8) ((u.fwdB o).baseOf (rq.u8 1)) ((u.fwdB o).sizeOf (rq.u8 1)) = false)
        ∧ u.tableUsed (rq.u8 0) (rq.u8 1) = 0) (fun _ => [])
      (fun u => onFwdB (rq.u8 0) (fun x => { x with
        base := Tab.put 0 x.base (rq.u8 1) (rq.u32 4), size := Tab.put 0 x.size (rq.u8 1) (rq.u32 8) }) u))
  ∧ (∀ rq, TurnsAway (.tablesPartition rq) (cmdH 0x0701 12) rq
      (fun u => rq.u8 0 < 16 ∧ rq.u8 1 ≤ 6 ∧ isTrie (rq.u8 1) = false ∧ rq.u32 4 + rq.u32 8 ≤ tableSize (rq.u8 1)
        ∧ rq.u32 4 % tableStep (rq.u8 1) = 0 ∧ rq.u32 8 % tableStep (rq.u8 1) = 0
        ∧ (∀ o, o < 16 → o ≠ rq.u8 0 → overlaps (rq.u32 4) (rq.u32 8) ((u.fwdB o).baseOf (rq.u8 1)) ((u.fwdB o).sizeOf (rq.u8 1)) = false)
        ∧ 0 < u.tableUsed (rq.u8 0) (rq.u8 1) ∧ rq.u32 8 < (u.fwdB (rq.u8 0)).sizeOf (rq.u8 1)) .state)
  ∧ (∀ rq, Completes (.tablesBerthConfig rq) (cmdOwn 0x0703 16 0) rq
      (fun _ => rq.u8 0 < 16 ∧ rq.u8 1 ≤ 2 ∧ rq.u8 2 ≤ 1 ∧ (rq.u8 3 = 0 ∨ rq.u8 3 = 2) ∧ (rq.u8 4 = 0 ∨ rq.u8 4 = 2) ∧ rq.u8 5 ≤ 1
        ∧ rq.u16 6 ≠ 0 ∧ rq.u16 6 ≤ 4094 ∧ rq.u16 8 ≤ 16383 ∧ rq.u32 12 ≤ 1000000) (fun _ => [])
      (fun u => onFwdB (rq.u8 0) (fun x => { x with
        mode := BitVec.ofNat 2 (rq.u8 1), learn := rq.u8 2 == 1, l2Miss := BitVec.ofNat 2 (rq.u8 3), routeMiss := BitVec.ofNat 2 (rq.u8 4),
        ecmpKey0 := rq.u8 5 == 1, defVlan := BitVec.ofNat 12 (rq.u16 6), floodGroup := BitVec.ofNat 16 (rq.u16 8),
        l2Age := BitVec.ofNat 32 (rq.u32 12) }) u))
  ∧ (∀ rq w, Completes (.tablesL2Write rq) (cmdOwn 0x0704 16 0) rq
      (fun u => rq.u8 0 < 16 ∧ rq.u8 1 = 0 ∧ rq.u16 2 ≠ 0 ∧ rq.u16 2 ≤ 4094 ∧ beNat (rq.bytes 4 6) ≠ 0 ∧ resultOk (rq.u32 12) = true
        ∧ u.mayResult (rq.u8 0) (rq.u32 12) = true
        ∧ (u.findL2 (rq.u8 0) (rq.u16 2) (rq.bytes 4 6)).or ((u.hashWays 0 (rq.u8 0) (rq.u16 2) (rq.bytes 4 6)).find?
          (fun w => !(Tab.look {} u.fwd.l2 w).valid)) = some w) (fun _ => [])
      (fun u => clearPoison 0 0 w (onFwd (fun t => { t with l2 := Tab.put {} t.l2 w {
        valid := true, berth := rq.u8 0, fid := BitVec.ofNat 12 (rq.u16 2), mac := rq.bytes 4 6, result := BitVec.ofNat 32 (rq.u32 12),
        static := true, hit := (Tab.look {} u.fwd.l2 w).hit } }) u)))
  ∧ (∀ rq, TurnsAway (.tablesL2Write rq) (cmdOwn 0x0704 16 0) rq
      (fun u => rq.u8 0 < 16 ∧ rq.u8 1 = 0 ∧ rq.u16 2 ≠ 0 ∧ rq.u16 2 ≤ 4094 ∧ beNat (rq.bytes 4 6) ≠ 0 ∧ resultOk (rq.u32 12) = true
        ∧ u.mayResult (rq.u8 0) (rq.u32 12) = false) .noPerm)
  ∧ (∀ rq w, Completes (.tablesL2Write rq) (cmdOwn 0x0704 16 0) rq
      (fun u => rq.u8 0 < 16 ∧ rq.u8 1 = 1 ∧ rq.u16 2 ≠ 0 ∧ rq.u16 2 ≤ 4094 ∧ beNat (rq.bytes 4 6) ≠ 0
        ∧ u.findL2 (rq.u8 0) (rq.u16 2) (rq.bytes 4 6) = some w) (fun _ => [])
      (fun u => clearPoison 0 0 w (onFwd (fun t => { t with l2 := Tab.del t.l2 w }) u)))
  ∧ (∀ rq w, Completes (.tablesRouteWrite rq) (cmdOwn 0x0705 24 0) rq
      (fun u => rq.u8 0 < 16 ∧ rq.u8 1 = 0 ∧ rq.u8 2 = 4 ∧ prefixOk false (rq.u8 3) (beNat (rq.bytes 4 4)) = true ∧ resultOk (rq.u32 20) = true
        ∧ u.mayResult (rq.u8 0) (rq.u32 20) = true
        ∧ ((u.fwd.routes.filter (fun x => !x.isFor (rq.u8 0) false (rq.u8 3) (beNat (rq.bytes 4 4)))).filter
          (fun x => x.berth == rq.u8 0 && x.v6 == false)).length < (u.fwdB (rq.u8 0)).sizeOf (famTable false)
        ∧ u.addNodes (rq.u8 0) false (beNat (rq.bytes 4 4)) ((List.range (prefixLevel false (rq.u8 3) - 1)).map (· + 2)) u.fwd = some w)
      (fun _ => [])
      (fun u => { u with fwd := clearSlots (rq.u8 0) false (rq.u8 3) (beNat (rq.bytes 4 4)) { w with
        routes := u.fwd.routes.filter (fun x => !x.isFor (rq.u8 0) false (rq.u8 3) (beNat (rq.bytes 4 4)))
          ++ [{ berth := rq.u8 0, v6 := false, len := rq.u8 3, pfx := beNat (rq.bytes 4 4), result := BitVec.ofNat 32 (rq.u32 20) }] } }))
  ∧ (∀ rq, Completes (.tablesRouteWrite rq) (cmdOwn 0x0705 24 0) rq
      (fun _ => rq.u8 0 < 16 ∧ rq.u8 1 = 1 ∧ rq.u8 2 = 4 ∧ prefixOk false (rq.u8 3) (beNat (rq.bytes 4 4)) = true) (fun _ => [])
      (fun u => deleteRoute (rq.u8 0) false (rq.u8 3) (beNat (rq.bytes 4 4)) u))
  ∧ (∀ rq, Completes (.tablesMcastWrite rq) (cmdOwn 0x0706 16 0) rq
      (fun u => rq.u8 0 < 16 ∧ (u.fwdB (rq.u8 0)).holds 4 (rq.u16 2) = true
        ∧ (setBits 64 (rq.u64 8)).any (fun p => !(List.range 8).any (u.mayUsePort (rq.u8 0) p)) = false) (fun _ => [])
      (fun u => clearPoison 4 0 (rq.u16 2) (onFwd (fun w => { w with mcast := Tab.put {} w.mcast (rq.u16 2) {
        ports := BitVec.ofNat 64 (rq.u64 8), rings := BitVec.ofNat 4 (rq.u8 4 % 16) } }) u)))
  ∧ (∀ rq, TurnsAway (.tablesMcastWrite rq) (cmdOwn 0x0706 16 0) rq
      (fun u => rq.u8 0 < 16 ∧ (u.fwdB (rq.u8 0)).holds 4 (rq.u16 2) = true
        ∧ (setBits 64 (rq.u64 8)).any (fun p => !(List.range 8).any (u.mayUsePort (rq.u8 0) p)) = true) .noPerm)
  ∧ (∀ rq base, Completes (.tablesEcmpWrite rq) { cmdOwn 0x0707 4 0 with len := fun p => 4 + 4 * byteAt p 1 } rq
      (fun u => rq.u8 0 < 16 ∧ rq.u8 1 ≠ 0 ∧ rq.u8 1 ≤ 64 ∧ (u.fwdB (rq.u8 0)).holds 5 (rq.u16 2) = true
        ∧ (∀ i, i < rq.u8 1 → resultOk (rq.u32 (4 + 4 * i)) = true ∧ (resKind (rq.u32 (4 + 4 * i)) = 1 ∨ resKind (rq.u32 (4 + 4 * i)) = 5)
          ∧ u.mayResult (rq.u8 0) (rq.u32 (4 + 4 * i)) = true)
        ∧ u.freshSlots (rq.u8 0) (rq.u8 1) = some base) (fun _ => [])
      (fun u => swingGroup (rq.u16 2) base ((List.range (rq.u8 1)).map (fun i => rq.u32 (4 + 4 * i))) u))
  ∧ (∀ rq, Completes (.tablesLookup rq) (cmdOwn 0x0708 20 0) rq (fun _ => rq.u8 0 < 16 ∧ rq.u8 1 = 1)
      (fun u => foundBytes (u.lookL3 (rq.u8 0) false (rq.bytes 4 4))) id)
  ∧ (∀ rq, Completes (.tablesLookup rq) (cmdOwn 0x0708 20 0) rq
      (fun _ => rq.u8 0 < 16 ∧ rq.u8 1 = 0 ∧ rq.u16 2 ≠ 0 ∧ rq.u16 2 ≤ 4094)
      (fun u => foundBytes (u.lookL2 (rq.u8 0) (rq.u16 2) (rq.bytes 4 6))) id)
  ∧ (∀ rq, Completes (.tablesStatus rq) (cmdHBA 0x0709 0) rq (fun _ => True)
      (fun u => leBytes 4 (fwdModeWord u) ++ leBytes 4 u.fwd.seed.toNat ++ leBytes 4 u.fwd.poison.length
        ++ ((u.statusBerths rq).map (fun b => ((List.range 7).map (fun t => leBytes 4 ((u.fwdB b).baseOf t) ++ leBytes 4 ((u.fwdB b).sizeOf t)
          ++ leBytes 4 (u.tableUsed b t))).flatten)).flatten) id)
  ∧ (∀ rq, Completes (.tablesProtect rq) (cmdH 0x0702 16) rq (fun _ => rq.u8 0 ≤ 6 ∧ rq.u8 1 = 0 ∧ rq.u8 2 ≤ 1) (fun _ => [])
      (fun u => onProt (rq.u8 0) (fun _ => { sounding := false, repair := rq.u8 2 == 1, shadow := 0 }) u))
  ∧ (∀ rq, Completes (.tablesProtect rq) (cmdH 0x0702 16) rq
      (fun u => rq.u8 0 ≤ 6 ∧ rq.u8 1 = 1 ∧ rq.u8 2 ≤ 1 ∧ u.ph.region.isSome = true ∧ rq.u64 8 % 4096 = 0
        ∧ u.dramRangeOk (rq.u64 8) 1 = true ∧ (u.ddrAt (dramChannel (rq.u64 8))).st ≠ 5) (fun _ => [])
      (fun u => onProt (rq.u8 0) (fun _ => { sounding := true, repair := rq.u8 2 == 1, shadow := BitVec.ofNat 64 (rq.u64 8) }) u))
  ∧ (∀ (b : Fin 16) s, (s.fwdB b.val).l2Age ≠ 0 → ∃ t, exec (.l2AgeSweep b) s = .next t
      ∧ t.fwd.l2 = (Tab.keep (fun _ e => !(e.berth == b.val && !e.static && !e.hit)) s.fwd.l2).map
          (fun e => if e.2.berth = b.val then (e.1, { e.2 with hit := false }) else e)
      ∧ t.fwd.routes = s.fwd.routes ∧ t.fwd.host = s.fwd.host ∧ ChangesOnly [.fwd] s t)
  ∧ (∀ (t : Fin 7) (m : Fin 6) err same s, isTrie t.val = false → memWords t.val m.val ≠ 0 → (s.protAt t.val).storm = false →
      (s.protAt t.val).sounding = false → (s.protAt t.val).paused = false →
      exec (.tableBackgroundAccess t m err same) s = .next (advanceCursor t.val m.val (Tab.look 0 (s.protAt t.val).cursor m.val)
        (readWord t.val m.val (Tab.look 0 (s.protAt t.val).cursor m.val) err same
          (count 0x0041 { addr := some (1, t.val, Tab.look 0 (s.protAt t.val).cursor m.val) } 1 s))))
  ∧ (∀ t m i same s, (s.protAt t).sounding = false → readWord t m i .ok same s = s
      ∧ readWord t m i .corrected same s = { s with fwd := { s.fwd with eccCorr := bump s.fwd.eccCorr } }
      ∧ readWord t m i .uncorrectable same s = poisonWord t m i s)

/-- The port commands (04_river_ports.md R95, R99, R103, R110, R113, 23_test.md R482, 09_berths.md R215). A quad settles only when its rate or bond changes; a port is enabled, which starts it
at DOWN, or disabled; flow control is set and a change of mode ends its pauses; a recalibration drains and settles, also out of FAILED; a status shows the port. -/
def Obligations.PortCommandsTakeEffect : Prop :=
  (∀ rq, Completes (.portQuadConfig rq) (cmdH 0x0301 16) rq
      (fun u => rq.u8 0 ≤ 15 ∧ rq.u8 1 ≤ 2 ∧ rq.u8 2 ≤ 1 ∧ rq.u8 3 ≤ rq.u8 2 ∧ (quadFecs rq).all (fecOk (rq.u8 1)) = true
        ∧ rq.u32 8 ≤ 100000 ∧ rq.u8 12 ≤ 1 ∧ (u.quadAt (rq.u8 0)).synth = 0 ∧ rq.u8 1 ≠ (u.quadAt (rq.u8 0)).rate.toNat) (fun _ => [])
      (fun u => startDrain (rq.u8 0) (onQuad (rq.u8 0) (fun x => { x with
        media := BitVec.ofNat 1 (rq.u8 2), an := rq.u8 3 == 1, settleLimit := BitVec.ofNat 32 (rq.u32 8), recalAuto := rq.u8 12 == 1,
        pend := some (rq.u8 1, quadFecs rq) }) u)))
  ∧ (∀ rq, Completes (.portQuadConfig rq) (cmdH 0x0301 16) rq
      (fun u => rq.u8 0 ≤ 15 ∧ rq.u8 1 ≤ 2 ∧ rq.u8 2 ≤ 1 ∧ rq.u8 3 ≤ rq.u8 2 ∧ (quadFecs rq).all (fecOk (rq.u8 1)) = true
        ∧ rq.u32 8 ≤ 100000 ∧ rq.u8 12 ≤ 1 ∧ (u.quadAt (rq.u8 0)).synth = 0 ∧ rq.u8 1 = (u.quadAt (rq.u8 0)).rate.toNat) (fun _ => [])
      (fun u => setFecs (rq.u8 0) (quadFecs rq) (onQuad (rq.u8 0) (fun x => { x with
        media := BitVec.ofNat 1 (rq.u8 2), an := rq.u8 3 == 1, settleLimit := BitVec.ofNat 32 (rq.u32 8), recalAuto := rq.u8 12 == 1,
        pend := none }) u)))
  ∧ (∀ rq, TurnsAway (.portQuadConfig rq) (cmdH 0x0301 16) rq
      (fun u => rq.u8 0 ≤ 15 ∧ rq.u8 1 ≤ 2 ∧ rq.u8 2 ≤ 1 ∧ rq.u8 3 ≤ rq.u8 2 ∧ (quadFecs rq).all (fecOk (rq.u8 1)) = true
        ∧ rq.u32 8 ≤ 100000 ∧ rq.u8 12 ≤ 1 ∧ ((u.quadAt (rq.u8 0)).synth = 1 ∨ (u.quadAt (rq.u8 0)).synth = 2)) .busy)
  ∧ (∀ q s, (s.quadAt q).settleLimit ≠ 0 → ((startDrain q s).quadAt q).synth = 1 ∧ ((startDrain q s).quadAt q).drainAt = s.tide.nowFs
      ∧ (startDrain q s).rsv = s.rsv)
  ∧ (∀ rq, Completes (.portEnable rq) (cmdH 0x0302 8) rq
      (fun u => rq.u8 0 ≤ 63 ∧ rq.u8 1 = 1 ∧ rq.u32 4 ≤ 1000000 ∧ u.bondMember (rq.u8 0) = false ∧ u.domainOn (rq.u8 0) = true
        ∧ u.pgcOnPort (rq.u8 0) = false ∧ (u.portAt (rq.u8 0)).enabled = false) (fun _ => [])
      (fun u => evalLink (rq.u8 0) (onPort (rq.u8 0) (fun v => { v with
        debounce := BitVec.ofNat 32 (rq.u32 4), enabled := true, link := 1, cleanSince := none }) u)))
  ∧ (∀ rq, Completes (.portEnable rq) (cmdH 0x0302 8) rq
      (fun u => rq.u8 0 ≤ 63 ∧ rq.u8 1 = 0 ∧ rq.u32 4 ≤ 1000000 ∧ u.bondMember (rq.u8 0) = false ∧ u.domainOn (rq.u8 0) = true) (fun _ => [])
      (fun u => onPort (rq.u8 0) (fun v => { v with
        debounce := BitVec.ofNat 32 (rq.u32 4), enabled := false, link := 0, cleanSince := none, anDone := false, paused := false,
        pfcPaused := 0, xoff := 0, xoffDue := 0 }) u))
  ∧ (∀ rq, TurnsAway (.portEnable rq) (cmdH 0x0302 8) rq
      (fun u => rq.u8 0 ≤ 63 ∧ rq.u8 1 = 1 ∧ rq.u32 4 ≤ 1000000 ∧ u.pgcOnPort (rq.u8 0) = true) .state)
  ∧ (∀ rq, Completes (.portSetFlow rq) (cmdH 0x0303 8) rq
      (fun u => rq.u8 0 ≤ 63 ∧ rq.u8 1 ≤ 2 ∧ rq.u16 4 ≠ 0 ∧ u.bondMember (rq.u8 0) = false
        ∧ (u.portAt (rq.u8 0)).flowMode.toNat ≠ rq.u8 1) (fun _ => [])
      (fun u => onPort (rq.u8 0) (fun v => { v with
        flowMode := BitVec.ofNat 2 (rq.u8 1), pfcEn := BitVec.ofNat 8 (rq.u8 2), quanta := BitVec.ofNat 16 (rq.u16 4),
        paused := false, pfcPaused := 0, xoff := 0, xoffDue := 0 }) u))
  ∧ (∀ rq, Completes (.portRecal rq) (cmdH 0x0304 4) rq
      (fun u => rq.u8 0 ≤ 15 ∧ ((u.quadAt (rq.u8 0)).synth = 0 ∨ (u.quadAt (rq.u8 0)).synth = 3)) (fun _ => []) (startDrain (rq.u8 0)))
  ∧ (∀ rq, Completes (.portGetStatus rq)
      { cmdHB 0x0305 4 with own := fun s b rq => 63 < rq.u8 0 || (s.ownerAt (rq.u8 0)).whole == some b } rq
      (fun u => rq.u8 0 ≤ 63 ∧ u.bondMember (rq.u8 0) = false)
      (fun u => leBytes 4 (rpStatusWord u (rq.u8 0)) ++ leBytes 4 (rqStatusWord u (rq.u8 0 / 4))
        ++ slotsBytes (u.portAt (rq.u8 0)).counters) id)

/-- What happens on the river side (04_river_ports.md R97 to R100, R103, R104, R106 to R108, R110, 20_sump.md R430). Lock, faults and debounce move the link state; leaving UP is counted and
raised for the owner; a draining quad settles when its last frame has ended, and resumes after lock; a synthesiser that never locks is tried three times again and then
FAILED; drift recalibrates; Pause frames act in their mode, expire and are refreshed; LPI is counted. -/
def Obligations.PortEventsTakeEffect : Prop :=
  (∀ (p : Fin 64) ev s, s.bondMember p.val = false → exec (.rpBlockLock p ev) s = .next (evalLink p.val (onPort p.val (lockApply ev) s)))
  ∧ (∀ (p : Fin 64) s, s.portUp p.val = true → s.bondMember p.val = false → (s.portAt p.val).enabled = true → (s.portAt p.val).link = 3 →
      ∃ t, exec (.rpLinkDown p .blockLock) s = .next t ∧ (t.portAt p.val).linkDowns = bump (s.portAt p.val).linkDowns
        ∧ (t.portAt p.val).blockLock = false ∧ (t.portAt p.val).link ≠ 3
        ∧ t.sump = (raise (riverSource (p.val / 4)) 0 p.val 0 0 (s.ownerAt p.val).whole s).sump ∧ ChangesOnly [.port, .sump] s t)
  ∧ (∀ (p : Fin 64) s, s.linkClean p.val = true → (s.portAt p.val).link ≠ 3 →
      exec (.linkUpDebounce p) s = .next (s.setPort p.val { s.portAt p.val with link := 3 }))
  ∧ (∀ (p : Fin 64) s, (s.portAt p.val).enabled = true → s.bondMember p.val = false → (s.quadAt (p.val / 4)).an = true →
      (s.portAt p.val).anDone = false → exec (.anRestart p) s = .next (s.setPort p.val { s.portAt p.val with
        link := 2, linkDowns := bump (s.portAt p.val).linkDowns }))
  ∧ (∀ (p : Fin 64) (fec : Fin 4) s, (s.portAt p.val).enabled = true → s.bondMember p.val = false → (s.quadAt (p.val / 4)).an = true →
      fecOk (s.quadAt (p.val / 4)).rate.toNat fec.val = true → exec (.anComplete p fec) s = .next (evalLink p.val
        (onPort p.val (fun v => { v with anDone := true, fec := BitVec.ofNat 2 fec.val }) s)))
  ∧ (∀ (q : Fin 16) s, (s.quadAt q.val).synth = 1 → (s.quadAt q.val).pend = none →
      (quadPorts q.val).any (fun p => (s.egressAt p).busy.isSome || (s.portUp p && (s.egressAt p).fifo != [])) = false →
      exec (.synthDrainDone q) s = .next (onQuad q.val (fun x => { x with
        synth := 2, settleAt := s.tide.nowFs, recalCount := x.recalCount + 1 }) s))
  ∧ (∀ (q : Fin 16) s rate fecs, (s.quadAt q.val).synth = 1 → (s.quadAt q.val).pend = some (rate, fecs) →
      (quadPorts q.val).any (fun p => (s.egressAt p).busy.isSome || (s.portUp p && (s.egressAt p).fifo != [])) = false →
      exec (.synthDrainDone q) s = .next (applyRate q.val rate fecs (onQuad q.val (fun x => { x with
        synth := 2, settleAt := s.tide.nowFs, recalCount := x.recalCount + 1 }) s)))
  ∧ (∀ (q : Fin 16) s, (s.quadAt q.val).synth = 2 → (s.quadAt q.val).recalDue = false → ∃ t, exec (.synthLock q) s = .next t
      ∧ (t.quadAt q.val).synth = 0 ∧ (t.quadAt q.val).calTj = s.tjDeg ∧ (t.quadAt q.val).retrain = false
      ∧ (t.quadAt q.val).settleUs = BitVec.ofNat 8 (min 255 ((s.tide.nowFs - (s.quadAt q.val).settleAt) / 1000000000)))
  ∧ (∀ (p : Fin 64) s, (s.quadAt (p.val / 4)).synth = 0 → (s.portAt p.val).resumed = false → (s.portAt p.val).localFault = false →
      (s.portAt p.val).remoteFault = false → (onPort p.val (fun v => { v with resumed := true }) s).mayStart p.val = false →
      exec (.settleResume p) s = .next (onPort p.val (fun v => { v with resumed := true }) s))
  ∧ (∀ (q : Fin 16) s, (s.quadAt q.val).synth = 2 → (s.quadAt q.val).retries < 3 →
      exec (.synthLockTimeout q) s = .next (s.setQuad q.val { s.quadAt q.val with retries := (s.quadAt q.val).retries + 1 }))
  ∧ (∀ (q : Fin 16) s, (s.quadAt q.val).synth = 2 → 3 ≤ (s.quadAt q.val).retries → exec (.synthLockTimeout q) s
      = .next ((quadPorts q.val).foldl (fun s p => evalLink p s) (raise (riverSource q.val) 2 q.val 0 0 none
        (s.setQuad q.val { s.quadAt q.val with synth := 3, retries := 0, recalDue := false }))))
  ∧ (∀ (q : Fin 16) s, (s.quadAt q.val).recalAuto = true → (s.quadAt q.val).synth = 0 → 50 ≤ (s.tjDeg - (s.quadAt q.val).calTj).natAbs →
      exec (.rpRecalDue q) s = .next (startDrain q.val s))
  ∧ (∀ (q : Fin 16) s, (s.quadAt q.val).recalAuto = false → (s.quadAt q.val).dueRaised = false →
      50 ≤ (s.tjDeg - (s.quadAt q.val).calTj).natAbs → (s.tjDeg - (s.quadAt q.val).calTj).natAbs < 80 →
      exec (.rpRecalDue q) s = .next (raise (riverSource q.val) 1 q.val 0 0 none
        (s.setQuad q.val { s.quadAt q.val with dueRaised := true })))
  ∧ (∀ (p : Fin 64) bytes s, s.receives p.val = true → fieldBe bytes 12 2 = 0x8808 → fcsGood bytes = true → fieldBe bytes 14 2 = 1 →
      (s.portAt p.val).flowMode = 1 → exec (.pauseReceive p bytes) s = .next (s.setPort p.val { s.portAt p.val with
        rxPause := bump (s.portAt p.val).rxPause, paused := fieldBe bytes 16 2 != 0 }))
  ∧ (∀ (p : Fin 64) s, exec (.pauseExpire p none) s = .next (s.setPort p.val { s.portAt p.val with paused := false }))
  ∧ (∀ (p : Fin 64) (c : Fin 8) s, exec (.pauseExpire p (some c)) s = .next (s.setPort p.val { s.portAt p.val with
        pfcPaused := (s.portAt p.val).pfcPaused &&& ~~~(BitVec.ofNat 8 (2 ^ c.val)) }))
  ∧ (∀ (p : Fin 64) s, exec (.pauseRefresh p) s = .next ((setBits 8 (s.portAt p.val).xoff.toNat).foldl
        (fun s' c => flowSignal p.val c (s.portAt p.val).quanta.toNat s') s))
  ∧ (∀ (p : Fin 64) s, s.receives p.val = true → exec (.lpiReceive p) s = .next (s.setPort p.val { s.portAt p.val with
        lpiRx := bump (s.portAt p.val).lpiRx }))

/-- The commands on the Crossing links, and their flits (11_crossings.md R254, R257 to R259, R261, R262, R265, R266, R270, R271, 23_test.md R482). A link's weights and times are set; it is enabled, disabled, trained, restored and
recalibrated from the states that allow it; a status shows registers and counters; a DATA flit is taken in sequence and one with a wrong CRC or out of
sequence discarded, the first time with RETRY; CTRL, RETRY and a replay fall due. -/
def Obligations.CrossingFlitsTakeEffect : Prop :=
  (∀ rq, Completes (.fabricLinkConfig rq) (cmdH 0x0A01 8) rq
      (fun _ => rq.u8 0 ≤ 7 ∧ rq.u8 1 ≤ 1 ∧ rq.u16 2 ≠ 0 ∧ rq.u16 2 ≤ 10000 ∧ (∀ i, i < 4 → 1 ≤ rq.u8 (4 + i) ∧ rq.u8 (4 + i) ≤ 63)) (fun _ => [])
      (fun u => onXl (rq.u8 0) (fun x => { x with
        recalManual := rq.u8 1 == 1, linkDownTime := BitVec.ofNat 16 (rq.u16 2), wReq := BitVec.ofNat 8 (rq.u8 4),
        wRsp := BitVec.ofNat 8 (rq.u8 5), wCol := BitVec.ofNat 8 (rq.u8 6), wBlk := BitVec.ofNat 8 (rq.u8 7) }) u))
  ∧ (∀ rq, Completes (.fabricLinkCtl rq) (cmdH 0x0A02 4) rq
      (fun u => rq.u8 0 ≤ 7 ∧ rq.u8 1 = 1 ∧ (u.xlAt (rq.u8 0)).state = 0 ∧ (u.xlAt (rq.u8 0)).enabled = false ∧ u.pgcOnXl (rq.u8 0) = false
        ∧ u.domainOn (64 + rq.u8 0) = true) (fun _ => [])
      (fun u => onXl (rq.u8 0) (fun x => { x with enabled := true, state := 1 }) u))
  ∧ (∀ rq, Completes (.fabricLinkCtl rq) (cmdH 0x0A02 4) rq
      (fun u => rq.u8 0 ≤ 7 ∧ rq.u8 1 = 0 ∧ (u.xlAt (rq.u8 0)).state ≠ 2 ∧ (u.xlAt (rq.u8 0)).state ≠ 4 ∧ (u.xlAt (rq.u8 0)).state ≠ 5)
      (fun _ => []) (fun u => disableLink (rq.u8 0) u))
  ∧ (∀ rq, Completes (.fabricLinkCtl rq) (cmdH 0x0A02 4) rq
      (fun u => rq.u8 0 ≤ 7 ∧ rq.u8 1 = 2 ∧ (u.xlAt (rq.u8 0)).state = 3) (fun _ => []) (fun u => startFast (rq.u8 0) true u))
  ∧ (∀ rq, Waits (.fabricLinkCtl rq) (cmdH 0x0A02 4) rq
      (fun u => rq.u8 0 ≤ 7 ∧ rq.u8 1 = 3 ∧ (u.xlAt (rq.u8 0)).state = 3 ∧ (u.xlAt (rq.u8 0)).rxLanes ≠ 0)
      (fun u => startFast (rq.u8 0) true (onXl (rq.u8 0) (fun x => { x with restore := some rq.fn.val }) u)))
  ∧ (∀ rq, TurnsAway (.fabricLinkCtl rq) (cmdH 0x0A02 4) rq
      (fun u => rq.u8 0 ≤ 7 ∧ rq.u8 1 ≤ 4 ∧ ((u.xlAt (rq.u8 0)).state = 2 ∨ (u.xlAt (rq.u8 0)).state = 4 ∨ (u.xlAt (rq.u8 0)).state = 5)) .busy)
  ∧ (∀ rq, Completes (.fabricLinkStatus rq) (cmdH 0x0A03 4) rq (fun _ => rq.u8 0 ≤ 7)
      (fun u => (fun x : Xl => leBytes 4 (xlStatusWord x) ++ leBytes 4 (xlSeqWord x) ++ leBytes 8 x.peerSerial.toNat
        ++ leBytes 4 x.peerLink.toNat ++ leBytes 4 (unsignedOf 32 x.witOffset) ++ leBytes 4 (unsignedOf 32 x.witDelay)
        ++ leBytes 4 x.witPeer.toNat ++ leBytes 4 (bitNat (u.tide.dissent.getLsbD (rq.u8 0))) ++ slotsBytes x.counters) (u.xlAt (rq.u8 0))) id)
  ∧ (∀ (k : Fin 8) bytes bad s, exec (.flitReceive k bytes bad) s
      = .next (takeFlit k.val bytes (onXl k.val (fun x => { x with badBlock := bumpBy x.badBlock bad }) s)))
  ∧ (∀ (k : Fin 8) bytes s, exec (.ctrlFlit k bytes) s = .next (takeFlit k.val bytes s))
  ∧ (∀ k bytes s, (s.xlAt k).carries = true → flitGood bytes = false → takeFlit k bytes s = onXl k (fun x => { x with
      crcErr := bump x.crcErr, retryDue := x.retryDue || !x.discarding, discarding := true }) s)
  ∧ (∀ k bytes s, (s.xlAt k).carries = true → flitGood bytes = true → (readFlit bytes).ftype ≠ 1 →
      (readFlit bytes).seq = ((onXl k (Xl.takeAck (readFlit bytes).ack) s).xlAt k).rxExpect →
      takeFlit k bytes s = acceptFlit k (readFlit bytes) (onXl k (Xl.takeAck (readFlit bytes).ack) s))
  ∧ (∀ (k : Fin 8) (ph : Fin 32) s, (s.xlAt k.val).txDone = true → (s.xlAt k.val).carries = true →
      exec (.flitSend k ph) s = .next (flitSlot k.val ph.val s))
  ∧ (∀ (k : Fin 8) s, (s.xlAt k.val).carries = true → (s.xlAt k.val).ackNow ≠ (s.xlAt k.val).ackSent →
      exec (.ctrlFlitDue k) s = .next (onXl k.val (fun x => { x with ctrlDue := true }) s))
  ∧ (∀ (k : Fin 8) s, (s.xlAt k.val).carries = true → (s.xlAt k.val).discarding = true →
      exec (.retryResend k) s = .next (onXl k.val (fun x => { x with retryDue := true }) s))
  ∧ (∀ (k : Fin 8) s, (s.xlAt k.val).carries = true → (s.xlAt k.val).txDone = true → (s.xlAt k.val).replay ≠ [] →
      (s.xlAt k.val).peerHold = false → (s.xlAt k.val).peerGrace = false → exec (.replayTimeout k) s = .next (retry k.val s))

/-- The lanes, the training and the synthesiser of a Crossing (11_crossings.md R252, R253, R262, R265 to R268). Lock starts full training on a link that was down; TS sets are taken in the phase they
belong to; a failed lane degrades or takes the link down; DEGRADE moves the transmitter to a pair; the peer's grace suspends; drift recalibrates; a synthesiser that
does not lock is tried three times more, and then the link is down. -/
def Obligations.CrossingLinksTakeEffect : Prop :=
  (∀ (k : Fin 8) (l : Fin 4) s, (s.xlAt k.val).enabled = true → (s.xlAt k.val).state = 1 → (s.xlAt k.val).synth = 0 →
      exec (.xlLaneLock k l) s = .next (startFull k.val
        (onXl k.val (fun x => { x with rxLock := x.rxLock ||| BitVec.ofNat 4 (2 ^ l.val) }) s)))
  ∧ (∀ k s, ((startFull k s).xlAt k).state = 2 ∧ ((startFull k s).xlAt k).trainFull = true ∧ ((startFull k s).xlAt k).replay = []
      ∧ ((startFull k s).xlAt k).txNext = 0 ∧ ((startFull k s).xlAt k).rxExpect = 0 ∧ ((startFull k s).xlAt k).txLanes = 0
      ∧ ((startFull k s).xlAt k).rxFailed = 0)
  ∧ (∀ (k : Fin 8) (l : Fin 4) bytes s, (s.xlAt k.val).state = 2 → bitOf (byteAt bytes 1) 4 = false →
      exec (.tsReceive k l bytes) s = .next (takeTs k.val l.val bytes s))
  ∧ (∀ (k : Fin 8) (l : Fin 4) bytes s, (s.xlAt k.val).state = 3 → bitOf (byteAt bytes 1) 4 = true → byteAt bytes 1 / 4 % 4 ≠ 2 →
      exec (.tsReceive k l bytes) s = .next (takeTs k.val l.val bytes (startFast k.val false s)))
  ∧ (∀ (k : Fin 8) (l : Fin 4) s, (s.xlAt k.val).carries = true → (s.xlAt k.val).peerGrace = false →
      (s.xlAt k.val).rxFailed.getLsbD l.val = false → exec (.laneFail k l) s = .next (failLane k.val l.val s))
  ∧ (∀ k l s, pairFor ((s.xlAt k).rxFailed ||| BitVec.ofNat 4 (2 ^ l)) = none → failLane k l s = linkDown k (onXl k (fun x => { x with
      rxLock := x.rxLock &&& ~~~(BitVec.ofNat 4 (2 ^ l)), rxFailed := x.rxFailed ||| BitVec.ofNat 4 (2 ^ l) }) s))
  ∧ (∀ (k : Fin 8) (p : Fin 2) s, (s.xlAt k.val).state = 3 → (s.xlAt k.val).restore = none →
      ∃ t, exec (.degradeReceive k p) s = .next t ∧ (t.xlAt k.val).state = 4 ∧ (t.xlAt k.val).txLanes = BitVec.ofNat 2 (p.val + 1)
        ∧ (t.xlAt k.val).degrades = bump (s.xlAt k.val).degrades ∧ (t.xlAt k.val).afterDegrade = true ∧ (t.xlAt k.val).txDone = false)
  ∧ (∀ (k : Fin 8) s, (s.xlAt k.val).peerGrace = false → exec (.xlLinkDown k) s = .next (linkDown k.val s))
  ∧ (∀ (k : Fin 8) s, (s.xlAt k.val).state = 4 → exec (.fastTrainingTimeout k) s = .next (linkDown k.val s))
  ∧ (∀ (k : Fin 8) s, (s.xlAt k.val).carries = true → exec (.quiesceReceive k) s = .next (onXl k.val (fun x => { x with peerGrace := true }) s))
  ∧ (∀ (k : Fin 8) s, exec (.quiesceGraceEnd k) s = .next (onXl k.val (fun x => { x with peerGrace := false }) s))
  ∧ (∀ (k : Fin 8) s, (s.xlAt k.val).recalManual = false → 50 ≤ (s.tjDeg - (s.xlAt k.val).calTj).natAbs →
      exec (.xlRecalDue k) s = .next (recalibrate k.val s))
  ∧ (∀ (k : Fin 8) s, (s.xlAt k.val).recalManual = true → (s.xlAt k.val).dueRaised = false → 50 ≤ (s.tjDeg - (s.xlAt k.val).calTj).natAbs →
      (s.tjDeg - (s.xlAt k.val).calTj).natAbs < 80 → exec (.xlRecalDue k) s
        = .next (raise (xlSource k.val) 2 k.val 0 0 none (onXl k.val (fun x => { x with dueRaised := true }) s)))
  ∧ (∀ (k : Fin 8) s, (s.xlAt k.val).synth = 2 → (s.xlAt k.val).state = 5 →
      exec (.xlSynthLock k) s = .next (startFast k.val true (onXl k.val (Xl.calibrated s.tjDeg) s)))
  ∧ (∀ (k : Fin 8) s, (s.xlAt k.val).synth = 2 → (s.xlAt k.val).synthRetries < 3 →
      exec (.xlSynthTimeout k) s = .next (onXl k.val (fun x => { x with synthRetries := x.synthRetries + 1 }) s))
  ∧ (∀ (k : Fin 8) s, (s.xlAt k.val).synth = 2 → 3 ≤ (s.xlAt k.val).synthRetries →
      exec (.xlSynthTimeout k) s = .next (linkDown k.val (onXl k.val (fun x => { x with synth := 3, synthRetries := 0 }) s)))

/-- The fabric (12_fabric.md R276, R278 to R281, R287, R288, R290, R291, R294, R295). A configuration is taken but while converging; rediscovery starts again; HAIL tells of the best root candidate,
and a better one is taken over; a device that hears of none better is root; ADJ, ASSIGN, LSA, INSTALLED and RESUME are each relayed once and, for the epoch in hand, acted
on; a message with a bad header is counted, and one routed here is delivered in order of its MSG_ID; a gap that stays open is released and counted. -/
def Obligations.FabricTakesEffect : Prop :=
  (∀ rq, Completes (.fabricConfig rq) (cmdH 0x0A04 16) rq (fun u => cfgOk rq = true ∧ u.fab.st ≠ 3) (fun _ => [])
      (fun u => { u with fab := { u.fab with
        cfg := cfgOf rq, role := Tab.put 0 (Tab.put 0 u.fab.role 6 (rq.u8 10)) 7 (rq.u8 11), transit := rq.u16 12, convLimit := rq.u16 14 } }))
  ∧ (∀ rq, TurnsAway (.fabricConfig rq) (cmdH 0x0A04 16) rq (fun u => cfgOk rq = true ∧ u.fab.st = 3) .busy)
  ∧ (∀ rq, Completes (.fabricStatus rq) { cmdHF 0x0A05 0 with auditor := true } rq (fun _ => True)
      (fun u => leBytes 4 (fabIdWord u.fab) ++ leBytes 4 (fabBoxWord u.fab) ++ leBytes 4 u.fab.epoch.toNat ++ leBytes 8 u.fab.rootSerial.toNat
        ++ slotsBytes u.fab.counters ++ ((List.range 8).map (fun k => leBytes 2 (Tab.look 0xFFFF u.fab.peerId k))).flatten) id)
  ∧ (∀ rq, Completes (.fabricRouteQuery rq) (cmdH 0x0A06 4) rq
      (fun u => rq.u16 0 ≤ 1023 ∧ 1 ≤ rq.u8 2 ∧ rq.u8 2 ≤ 4 ∧ (rq.u8 2 = 4 → rq.u8 3 ≤ 63) ∧ u.fab.assigned = true)
      (fun u => u.queryRoute (rq.u16 0) (rq.u8 2) (rq.u8 3)) id)
  ∧ (∀ rq, Completes (.fabricRediscover rq) (cmdH 0x0A07 4) rq (fun u => rq.u32 0 = 0x4841494C ∧ u.fab.st ≠ 3) (fun _ => []) rediscover)
  ∧ (∀ s, s.fab.discovering = true → exec .hailSend s
      = .next ((List.range 8).foldl (fun s' k => if (s'.xlAt k).carries then sendByp k (hailBytes s'.fab k) s' else s') s))
  ∧ (∀ (k : Fin 8) bytes s, s.fab.discovering = true → (s.xlAt k.val).carries = true →
      betterRoot (BitVec.ofNat 8 (byteAt bytes 3)) (BitVec.ofNat 64 (fieldLe bytes 4 8)) s.fab.bestPrio s.fab.bestSerial = true →
      (BitVec.ofNat 8 (byteAt bytes 3) ≠ 0 ∨ s.fab.bestPrio ≠ 0) →
      exec (.hail k bytes) s = .next (floodAdjs { s with fab := { notePeer k.val bytes s.fab with
        bestPrio := BitVec.ofNat 8 (byteAt bytes 3), bestSerial := BitVec.ofNat 64 (fieldLe bytes 4 8), root := false } }))
  ∧ (∀ (k : Fin 8) bytes s, s.fab.discovering = true → (s.xlAt k.val).carries = true →
      betterRoot (BitVec.ofNat 8 (byteAt bytes 3)) (BitVec.ofNat 64 (fieldLe bytes 4 8)) s.fab.bestPrio s.fab.bestSerial = false →
      (BitVec.ofNat 8 (byteAt bytes 3) ≠ 0 ∨ s.fab.bestPrio ≠ 0) →
      exec (.hail k bytes) s = .next { s with fab := notePeer k.val bytes s.fab })
  ∧ (∀ s, s.fab.discovering = true → s.fab.st ≠ 0 → s.fab.root = false → s.fab.bestSerial = ownSerial → s.fab.assigned = false → s.fab.st ≠ 3 →
      ∃ t u, exec .rootElect s = .next t ∧ u = { s with fab := { s.fab with
        root := true, rootSerial := ownSerial,
        epoch := (if epochAfter s.fab.epochHigh s.fab.epoch then s.fab.epochHigh else s.fab.epoch) + 1,
        epochHigh := (if epochAfter s.fab.epochHigh s.fab.epoch then s.fab.epochHigh else s.fab.epoch) + 1 } }
        ∧ t = if (assignAll s.fab.rootAt u).fab.boxDiffers then raise 24 1 0 0 0 none (assignAll s.fab.rootAt u) else assignAll s.fab.rootAt u)
  ∧ (∀ (k : Fin 8) bytes s, s.fab.discovering = true → s.floodSeen 0x11 (fieldLe bytes 4 8) (fieldLe bytes 20 4) = true →
      exec (.adj k bytes) s = .next s)
  ∧ (∀ (k : Fin 8) bytes s, s.fab.discovering = true → s.floodSeen 0x11 (fieldLe bytes 4 8) (fieldLe bytes 20 4) = false →
      exec (.adj k bytes) s = .next (admitNew (onFab (Fab.addAdj {
        serial := BitVec.ofNat 64 (fieldLe bytes 4 8), link := byteAt bytes 1 % 8, peerLink := byteAt bytes 2 % 8,
        peer := BitVec.ofNat 64 (fieldLe bytes 12 8) }) (relay k.val 0x11 (fieldLe bytes 4 8) (fieldLe bytes 20 4) bytes s))))
  ∧ (∀ (k : Fin 8) bytes s, s.fab.discovering = true → s.floodSeen 0x12 s.fab.bestSerial.toNat (fieldLe bytes 16 4) = false →
      ∃ u, exec (.assign k bytes) s = .next (applyAssign (BitVec.ofNat 64 (fieldLe bytes 8 8))
          (byteAt bytes 1 % 16 + 16 * (byteAt bytes 2 % 8) + 128 * (byteAt bytes 3 % 8)) u)
        ∧ u.fab.nx = byteAt bytes 4 ∧ u.fab.ny = byteAt bytes 5 ∧ u.fab.nz = byteAt bytes 6)
  ∧ (∀ (k : Fin 8) bytes s, s.fab.discovering = true → s.floodSeen 0x13 (fieldLe bytes 2 2 % 1024) (fieldLe bytes 4 4) = false →
      s.fab.assigned = true → epochAfter (BitVec.ofNat 32 (fieldLe bytes 8 4)) s.fab.epoch = true →
      exec (.lsa k bytes) s = .next (converge (BitVec.ofNat 32 (fieldLe bytes 8 4)) (onFab (fun f => { f with
        upMask := Tab.put 0xFF f.upMask (fieldLe bytes 2 2 % 1024) (BitVec.ofNat 8 (byteAt bytes 1)) })
          (relay k.val 0x13 (fieldLe bytes 2 2 % 1024) (fieldLe bytes 4 4) bytes s))))
  ∧ (∀ s, s.fab.st = 3 → s.fab.selfInstalled = false → exec .installedSend s = .next (checkInstalled (flood 0x14 s.fab.id
      (epochBytes 0x14 0 { s.fab with selfInstalled := true, installed := s.fab.installed ++ [s.fab.id] })
      { s with fab := { s.fab with selfInstalled := true, installed := s.fab.installed ++ [s.fab.id] } })))
  ∧ (∀ (k : Fin 8) bytes s, s.fab.discovering = true → s.floodSeen 0x14 (fieldLe bytes 2 2 % 1024) (fieldLe bytes 4 4) = false →
      BitVec.ofNat 32 (fieldLe bytes 8 4) = s.fab.epoch → exec (.installed k bytes) s = .next (checkInstalled (onFab (fun f => { f with
        installed := if f.installed.contains (fieldLe bytes 2 2 % 1024) then f.installed else f.installed ++ [fieldLe bytes 2 2 % 1024] })
          (relay k.val 0x14 (fieldLe bytes 2 2 % 1024) (fieldLe bytes 4 4) bytes s))))
  ∧ (∀ s, s.fab.root = true → s.fab.st = 3 → exec .convergeLimit s = .next (floodResume s))
  ∧ (∀ (k : Fin 8) bytes s, s.fab.discovering = true → s.floodSeen 0x15 (fieldLe bytes 2 2 % 1024) (fieldLe bytes 4 4) = false →
      BitVec.ofNat 32 (fieldLe bytes 8 4) = s.fab.epoch → exec (.resume k bytes) s = .next (applyResume (onFab (fun f => { f with
        rootSerial := ((s.fab.devices.find? (fun d => d.2 == fieldLe bytes 2 2 % 1024)).map Prod.fst).getD s.fab.rootSerial })
          (relay k.val 0x15 (fieldLe bytes 2 2 % 1024) (fieldLe bytes 4 4) bytes s))))
  ∧ (∀ (k : Fin 8) (vc : Fin 5) (h : Fin 2) s fs rest, ((s.xlAt k.val).qAt vc.val h.val).ready = fs :: rest →
      s.badHeader (readMsg vc.val h.val (fs.map Flit.payload).flatten) fs.length (fieldLe (fs.map Flit.payload).flatten 12 2) = true →
      exec (.fabricMessage k vc h) s = .next (onFab (fun f => { f with badHdr := bump f.badHdr }) (takeReady k.val vc.val h.val s)))
  ∧ (∀ (k : Fin 8) (vc : Fin 5) (h : Fin 2) s fs rest, ((s.xlAt k.val).qAt vc.val h.val).ready = fs :: rest →
      s.badHeader (readMsg vc.val h.val (fs.map Flit.payload).flatten) fs.length (fieldLe (fs.map Flit.payload).flatten 12 2) = false →
      (readMsg vc.val h.val (fs.map Flit.payload).flatten).kind ≠ 3 →
      exec (.fabricMessage k vc h) s = .next (routeMsg k.val (readMsg vc.val h.val (fs.map Flit.payload).flatten)
        (takeReady k.val vc.val h.val s)))
  ∧ (∀ m s, arrives (Tab.look 0 s.fab.rxId (8 * m.src + m.vc)) m.msgId = none →
      deliverNumbered m s = { s with fab := { s.fab with dup := bump s.fab.dup } })
  ∧ (∀ (src : Fin 1024) (vc : Fin 5) s, s.fab.lowest (8 * src.val + vc.val) = none → exec (.fabGap src vc) s = .next s)
  ∧ (∀ (src : Fin 1024) (vc : Fin 5) s h, s.fab.lowest (8 * src.val + vc.val) = some h → exec (.fabGap src vc) s
      = .next (deliverRun (8 * src.val + vc.val) 256 h.msg (raise 24 2 0 vc.val src.val none
        { s with fab := { s.fab with store := s.fab.store.erase h, gap := bump s.fab.gap } })))

/-- The collectives (13_collectives.md R298, R299, R304, R307, R308, R311). A group is created with the extent of its kind and destroyed when nothing of it is pending; an operation takes a
slot and returns its OP_SEQ; it is aborted by its OP_SEQ; a status shows a group; a message of an operation acts or waits in the early store; a
stale one is discarded; a missing one ends the operation with a timeout. -/
def Obligations.CollectivesTakeEffect : Prop :=
  (∀ rq lo hi, Completes (.collectiveGroupCreate rq) { cmdHF 0x0B01 20 with own := namesSelf 0 } rq
      (fun u => rq.u8 0 < 16 ∧ rq.u32 4 ≠ 0xFFFFFFFF ∧ 10 ≤ rq.u32 16 ∧ rq.u32 16 ≤ 1000000 ∧ u.fab.assigned = true
        ∧ u.berthExists (rq.u8 0) = true ∧ (u.groupAt (rq.u32 4)).valid = false ∧ groupBox rq u = some (lo, hi)
        ∧ u.shtl.group.length < 64) (fun _ => [])
      (fun u => { u with shtl := { u.shtl with group := Tab.put {} u.shtl.group (rq.u32 4) {
        valid := true, berth := rq.u8 0, kind := BitVec.ofNat 2 (rq.u8 1), lo := lo, hi := hi, timeout := BitVec.ofNat 32 (rq.u32 16) } } }))
  ∧ (∀ rq, Completes (.collectiveGroupDestroy rq) { cmdHF 0x0B02 8 with own := namesSelf 0 } rq
      (fun u => groupErr rq u = none ∧ u.groupBusy (rq.u32 4) = false) (fun _ => [])
      (fun u => { u with shtl := { u.shtl with group := Tab.del u.shtl.group (rq.u32 4) } }))
  ∧ (∀ rq, TurnsAway (.collectiveGroupDestroy rq) { cmdHF 0x0B02 8 with own := namesSelf 0 } rq
      (fun u => groupErr rq u = none ∧ u.groupBusy (rq.u32 4) = true) .state)
  ∧ (∀ rq data k, Completes (.collectiveStart rq data) { cmdHF 0x0B03 40 with own := namesSelf 0 } rq
      (fun u => groupErr rq u = none ∧ (opOf rq).argsOk rq (u.groupAt (rq.u32 4)) = true
        ∧ (opOf rq).inputs (u.groupAt (rq.u32 4)) u.fab.id = 0
        ∧ u.coversBuf (u.groupAt (rq.u32 4)).berth (rq.u32 32) (rq.u64 16) 0 = true
        ∧ u.coversBuf (u.groupAt (rq.u32 4)).berth (rq.u32 32) (rq.u64 24) ((opOf rq).outputs (u.groupAt (rq.u32 4)) * (opOf rq).esize) = true
        ∧ u.domainOn 143 = true ∧ u.freeOp = some k)
      (fun u => leBytes 4 (u.groupAt (rq.u32 4)).nextSeq.toNat)
      (fun u => shtlGo (postOp k { opOf rq with
        vec := (opOf rq).start (u.groupAt (rq.u32 4)) u.fab.id ((opOf rq).ofBytes (data.take 0)) } u)))
  ∧ (∀ rq data, TurnsAway (.collectiveStart rq data) { cmdHF 0x0B03 40 with own := namesSelf 0 } rq
      (fun u => groupErr rq u = none ∧ (opOf rq).argsOk rq (u.groupAt (rq.u32 4)) = false) .badParam)
  ∧ (∀ rq k, Completes (.collectiveAbort rq) { cmdHF 0x0B04 12 with own := namesSelf 0 } rq
      (fun u => groupErr rq u = none
        ∧ Tab.find (fun _ (op : ColOp) => op.tag.toNat == rq.u32 4 && op.seq.toNat == rq.u32 8) u.shtl.slots = some k) (fun _ => [])
      (fun u => shtlGo (endOp k 3 0xFFFF u)))
  ∧ (∀ rq, Completes (.collectiveStatus rq) (cmdOwn 0x0B05 8 0) rq (fun u => groupErr rq u = none)
      (fun u => [BitVec.ofNat 8 (u.groupAt (rq.u32 4)).kind.toNat]
        ++ ((List.range 3).map (fun a => BitVec.ofNat 8 (axisOf (u.groupAt (rq.u32 4)).lo a)))
        ++ ((List.range 3).map (fun a => BitVec.ofNat 8 (axisOf (u.groupAt (rq.u32 4)).hi a)))
        ++ [BitVec.ofNat 8 ((u.shtl.slots.map Prod.snd).filter (fun op => op.tag.toNat == rq.u32 4)).length]
        ++ leBytes 4 (u.groupAt (rq.u32 4)).nextSeq.toNat
        ++ (((u.shtl.slots.map Prod.snd).filter (fun op => op.tag.toNat == rq.u32 4)).map opBytes).flatten) id)
  ∧ (∀ (k : Fin 8) bytes s u, 24 ≤ bytes.length → s.domainOn 143 = true → s.opPast (colHdr bytes) = false →
      u = shtlGo { s with shtl := { s.shtl with early := s.shtl.early ++ [{ dst := s.fab.id, kind := 3, vc := 3, body := bytes }] } } →
      u.shtl.earlyBytes ≤ 262144 → exec (.colMessage k bytes) s = .next u)
  ∧ (∀ i s m, s.shtl.early[i]? = some m → s.opPending (colHdr m.body) = false → exec (.earlyArrivalStale i) s = .next { s with
      shtl := { s.shtl with early := s.shtl.early.eraseIdx i, staleDrop := bump s.shtl.staleDrop } })
  ∧ (∀ (k : Fin 8) s a, s.opSlots.contains k.val = true → (s.opAt k.val).begun = true → s.opAxis (s.opAt k.val) = some a →
      exec (.collectiveTimeout k) s = .next (shtlGo (endOp k.val 1 ((s.opGroup (s.opAt k.val)).predOf s.fab.id a) s)))

/-- The RDMA commands (14_remote_memory.md R317, R318, R321, R327, R332, R334, Table 14.9). A quota moves a berth's blocks and refuses an overlap; a region is
registered under its index and KEY8, and deregistered by its key; a CQ is created empty and destroyed when no queue pair uses it; a queue
pair is created in RESET, moves only along the transitions allowed, and is destroyed only in RESET or ERR; queries and statuses report. -/
def Obligations.RdmaCommandsTakeEffect : Prop :=
  (∀ rq (new : RdmaB), Completes (.rdmaQuota rq) (cmdH 0x0C01 12) rq
      (fun u => rq.u8 0 < 16 ∧ new = { qpBase := rq.u16 2, qps := rq.u16 4, mrBase := 16 * rq.u16 8, mrs := 16 * rq.u16 10 }
        ∧ new.qps ≤ 4096 ∧ new.qpBase + new.qps ≤ 4096 ∧ new.mrBase + new.mrs ≤ 65536 ∧ u.berthExists (rq.u8 0) = true
        ∧ (∀ e ∈ u.rdma.qp, e.2.used = true → e.2.berth = rq.u8 0 → new.qpBase ≤ e.1 ∧ e.1 < new.qpBase + new.qps)
        ∧ (∀ t ∈ u.qpBlocks (rq.u8 0), overlaps new.qpBase new.qps t.1 t.2 = false)
        ∧ (∀ t ∈ u.mrBlocks (rq.u8 0), overlaps new.mrBase new.mrs t.1 t.2 = false)) (fun _ => []) (fun u => trimBlocks (rq.u8 0) new u))
  ∧ (∀ rq, TurnsAway (.rdmaQuota rq) (cmdH 0x0C01 12) rq
      (fun u => rq.u8 0 < 16 ∧ rq.u16 4 ≤ 4096 ∧ rq.u16 2 + rq.u16 4 ≤ 4096 ∧ 16 * rq.u16 8 + 16 * rq.u16 10 ≤ 65536 ∧ u.berthExists (rq.u8 0) = true
        ∧ ∃ e ∈ u.rdma.qp, e.2.used = true ∧ e.2.berth = rq.u8 0 ∧ (e.1 < rq.u16 2 ∨ rq.u16 2 + rq.u16 4 ≤ e.1)) .state)
  ∧ (∀ rq i, Completes (.rdmaMrReg rq) (cmdOwn 0x0C02 32 0) rq
      (fun u => rq.u8 0 < 16 ∧ 1 ≤ rq.u64 16 ∧ rq.u64 16 ≤ 2 ^ 40 ∧ rq.u32 24 < (u.rdmaB (rq.u8 0)).mrs ∧ i = (u.rdmaB (rq.u8 0)).mrBase + rq.u32 24)
      (fun _ => leBytes 4 (i * 256 + rq.u8 1))
      (fun u => { u with rdma := { u.rdma with mr := Tab.put {} u.rdma.mr i {
        valid := true, base := BitVec.ofNat 64 (rq.u64 8), len := rq.u64 16, pd := BitVec.ofNat 16 (rq.u16 4),
        access := BitVec.ofNat 8 (rq.u8 2 % 8), key8 := BitVec.ofNat 8 (rq.u8 1) } } }))
  ∧ (∀ rq, TurnsAway (.rdmaMrReg rq) (cmdOwn 0x0C02 32 0) rq (fun _ => rq.u64 16 = 0 ∨ 2 ^ 40 < rq.u64 16) .badParam)
  ∧ (∀ rq i, Completes (.rdmaMrDereg rq) (cmdOwn 0x0C03 8 0) rq
      (fun u => rq.u8 0 < 16 ∧ i = rq.u32 4 / 256 ∧ (u.rdmaB (rq.u8 0)).mrBase ≤ i ∧ i < (u.rdmaB (rq.u8 0)).mrBase + (u.rdmaB (rq.u8 0)).mrs
        ∧ (u.mrAt i).valid = true ∧ (u.mrAt i).key8.toNat = rq.u32 4 % 256) (fun _ => [])
      (fun u => { u with rdma := { u.rdma with mr := Tab.del u.rdma.mr i } }))
  ∧ (∀ rq c, Completes (.rdmaCqCreate rq) (cmdOwn 0x0C04 16 0) rq
      (fun u => u.rdmaIndex rq = some c ∧ isPow2In 16 65536 (rq.u32 4) = true ∧ rq.u64 8 % 4096 = 0 ∧ (u.cqAt c).used = false) (fun _ => [])
      (fun u => { u with rdma := { u.rdma with
        cq := Tab.upd {} u.rdma.cq c (fun _ => { used := true, depth := rq.u32 4, addr := BitVec.ofNat 64 (rq.u64 8) }) } }))
  ∧ (∀ rq c, TurnsAway (.rdmaCqCreate rq) (cmdOwn 0x0C04 16 0) rq
      (fun u => u.rdmaIndex rq = some c ∧ isPow2In 16 65536 (rq.u32 4) = true ∧ rq.u64 8 % 4096 = 0 ∧ (u.cqAt c).used = true) .state)
  ∧ (∀ rq c, Completes (.rdmaCqDestroy rq) (cmdOwn 0x0C05 4 0) rq
      (fun u => u.rdmaIndex rq = some c ∧ (u.cqAt c).used = true ∧ ∀ e ∈ u.rdma.qp, e.2.used = true → e.2.sqCq ≠ c ∧ e.2.rqCq ≠ c) (fun _ => [])
      (fun u => { u with rdma := { u.rdma with cq := Tab.del u.rdma.cq c } }))
  ∧ (∀ rq c, TurnsAway (.rdmaCqDestroy rq) (cmdOwn 0x0C05 4 0) rq
      (fun u => u.rdmaIndex rq = some c ∧ ∃ e ∈ u.rdma.qp, e.2.used = true ∧ (e.2.sqCq = c ∨ e.2.rqCq = c)) .state)
  ∧ (∀ rq q, Completes (.rdmaQpCreate rq) (cmdOwn 0x0C06 32 0) rq
      (fun u => u.rdmaIndex rq = some q ∧ rq.u8 1 ≤ 2 ∧ depthOk (rq.u16 10) = true ∧ depthOk (rq.u16 12) = true ∧ rq.u8 14 ≤ 1 ∧ rq.u64 16 % 4096 = 0
        ∧ rq.u64 24 % 4096 = 0 ∧ rq.u16 6 < (u.rdmaB (rq.u8 0)).qps ∧ rq.u16 8 < (u.rdmaB (rq.u8 0)).qps
        ∧ (rq.u8 14 = 1 → isHarbour u rq = true) ∧ (u.qpAt q).used = false
        ∧ (u.cqAt ((u.rdmaB (rq.u8 0)).qpBase + rq.u16 6)).used = true ∧ (u.cqAt ((u.rdmaB (rq.u8 0)).qpBase + rq.u16 8)).used = true)
      (fun _ => []) (fun u => onQp q (fun _ => qpOfReq rq (u.rdmaB (rq.u8 0)).qpBase) u))
  ∧ (∀ rq q, TurnsAway (.rdmaQpCreate rq) (cmdOwn 0x0C06 32 0) rq
      (fun u => u.rdmaIndex rq = some q ∧ rq.u8 1 ≤ 2 ∧ depthOk (rq.u16 10) = true ∧ depthOk (rq.u16 12) = true ∧ rq.u8 14 = 1 ∧ rq.u64 16 % 4096 = 0
        ∧ rq.u64 24 % 4096 = 0 ∧ rq.u16 6 < (u.rdmaB (rq.u8 0)).qps ∧ rq.u16 8 < (u.rdmaB (rq.u8 0)).qps ∧ isHarbour u rq = false) .noPerm)
  ∧ (∀ rq q, Completes (.rdmaQpModify rq) (cmdOwn 0x0C07 76 0) rq
      (fun u => u.rdmaIndex rq = some q ∧ rq.u8 4 ≤ 4 ∧ modifyOk rq (u.qpAt q).path.toNat (rq.u8 4) = true ∧ (u.qpAt q).used = true
        ∧ (rq.u8 4 = 0 ∨ rq.u8 4 = 4 ∨ ((u.qpAt q).state.toNat + 1 = rq.u8 4 ∧ u.rdmaEngine q = true))
        ∧ (rq.u8 4 = 2 → u.pathOk rq (u.qpAt q) = true)) (fun _ => []) (fun u => rdmaSettle (moveQp q (rq.u8 4) rq u)))
  ∧ (∀ rq q, TurnsAway (.rdmaQpModify rq) (cmdOwn 0x0C07 76 0) rq
      (fun u => u.rdmaIndex rq = some q ∧ modifyOk rq (u.qpAt q).path.toNat (rq.u8 4) = true ∧ 1 ≤ rq.u8 4 ∧ rq.u8 4 ≤ 3
        ∧ (u.qpAt q).state.toNat + 1 ≠ rq.u8 4) .state)
  ∧ (∀ rq q, TurnsAway (.rdmaQpModify rq) (cmdOwn 0x0C07 76 0) rq
      (fun u => u.rdmaIndex rq = some q ∧ rq.u8 4 = 2 ∧ modifyOk rq (u.qpAt q).path.toNat 2 = true ∧ (u.qpAt q).used = true ∧ (u.qpAt q).state = 1
        ∧ u.rdmaEngine q = true ∧ u.pathOk rq (u.qpAt q) = false) .noPerm)
  ∧ (∀ (x : Qp) rq, (x.toRts rq).w = rq.u16 72 ∧ (x.toRts rq).state = 3)
  ∧ (∀ rq q, Completes (.rdmaQpQuery rq) (cmdOwn 0x0C08 4 0) rq (fun u => u.rdmaIndex rq = some q ∧ (u.qpAt q).used = true)
      (fun u => (u.qpAt q).report (u.rdmaB (rq.u8 0)).qpBase) id)
  ∧ (∀ rq q, Completes (.rdmaQpDestroy rq) (cmdOwn 0x0C09 4 0) rq
      (fun u => u.rdmaIndex rq = some q ∧ (u.qpAt q).used = true ∧ ((u.qpAt q).state = 0 ∨ (u.qpAt q).state = 4)) (fun _ => [])
      (fun u => { u with rdma := { u.rdma with qp := Tab.del u.rdma.qp q } }))
  ∧ (∀ rq q, TurnsAway (.rdmaQpDestroy rq) (cmdOwn 0x0C09 4 0) rq
      (fun u => u.rdmaIndex rq = some q ∧ (u.qpAt q).state ≠ 0 ∧ (u.qpAt q).state ≠ 4) .state)
  ∧ (∀ rq, Completes (.rdmaStatus rq) (cmdHBA 0x0C0A 0) rq (fun _ => True)
      (fun u => leBytes 4 u.rdma.engines.toNat ++ ((u.statusBerths rq).map (fun b =>
        leBytes 2 (u.rdmaB b).qpBase ++ leBytes 2 (u.rdmaB b).qps ++ leBytes 2 (u.qpsUsed b) ++ leBytes 2 ((u.rdmaB b).mrBase / 16)
          ++ leBytes 4 (u.rdmaB b).mrs ++ leBytes 4 (u.mrsUsed b))).flatten) id)

/-- The RDMA engines (14_remote_memory.md R312, R314, R315, R319, R321, R322, R323, R325, R327, R328, R330, R331). A doorbell beyond the ring depth is an error; the
consumer index frees CQ slots and ARM arms; work requests behind the producer index join their queue, and in the error state are flushed; a
packet for another P_Key, QPN or with a bad ICRC is counted and discarded; the timers retransmit, acknowledge and retry; an echo halves the
window once; a completion that finds its CQ full puts it into the error state; a failed engine takes its queue pairs with it. -/
def Obligations.RdmaEnginesTakeEffect : Prop :=
  (∀ (b : Fin 16) v s q, s.vfLive b.val = true → s.dbIndex b.val v.toNat = some q → ∃ t u, u = mmio (1 + b.val) s ∧ exec (.rdmaSqDb b v) s = .next t
      ∧ ((u.qpAt q).sqDepth ≠ 0 → (u.qpAt q).state ≠ 0 → (u.qpAt q).sqDepth < (BitVec.ofNat 16 (v.toNat / 65536) - (u.qpAt q).sqProd).toNat →
          t = rdmaSettle (qpError q 0x03 u))
      ∧ ((u.qpAt q).sqDepth ≠ 0 → (u.qpAt q).state ≠ 0 → (BitVec.ofNat 16 (v.toNat / 65536) - (u.qpAt q).sqProd).toNat ≤ (u.qpAt q).sqDepth →
          t = rdmaSettle (readRing b.val (u.qpAt q).sqAddr.toNat (u.qpAt q).sqDepth 64 (u.qpAt q).sqProd.toNat
            (BitVec.ofNat 16 (v.toNat / 65536) - (u.qpAt q).sqProd).toNat (onQp q (fun x => { x with sqProd := BitVec.ofNat 16 (v.toNat / 65536) }) u)))
      ∧ ((u.qpAt q).sqDepth = 0 → t = rdmaSettle u))
  ∧ (∀ (b : Fin 16) v s q, s.vfLive b.val = true → s.dbIndex b.val v.toNat = some q → ∃ t u, u = mmio (1 + b.val) s ∧ exec (.rdmaRqDb b v) s = .next t
      ∧ ((u.qpAt q).rqDepth ≠ 0 → (u.qpAt q).state ≠ 0 → (u.qpAt q).rqDepth < (BitVec.ofNat 16 (v.toNat / 65536) - (u.qpAt q).rqProd).toNat →
          t = rdmaSettle (qpError q 0x03 u))
      ∧ ((u.qpAt q).rqDepth ≠ 0 → (u.qpAt q).state ≠ 0 → (BitVec.ofNat 16 (v.toNat / 65536) - (u.qpAt q).rqProd).toNat ≤ (u.qpAt q).rqDepth →
          t = rdmaSettle (readRing b.val (u.qpAt q).rqAddr.toNat (u.qpAt q).rqDepth 32 (u.qpAt q).rqProd.toNat
            (BitVec.ofNat 16 (v.toNat / 65536) - (u.qpAt q).rqProd).toNat (onQp q (fun x => { x with rqProd := BitVec.ofNat 16 (v.toNat / 65536) }) u))))
  ∧ (∀ (b : Fin 16) v s c, s.vfLive b.val = true → s.dbIndex b.val v.toNat = some c → (s.cqAt c).used = true →
      exec (.rdmaCqDb b v) s = .next (onCq c (fun x => { x with
        cons := BitVec.ofNat 16 (v.toNat / 65536), full := x.full && BitVec.ofNat 16 (v.toNat / 65536) == x.cons, armed := x.armed || v.getLsbD 12 })
          (mmio (1 + b.val) s)))
  ∧ (∀ (b : Fin 16) v s, s.vfLive b.val = false →
      exec (.rdmaSqDb b v) s = .next s ∧ exec (.rdmaRqDb b v) s = .next s ∧ exec (.rdmaCqDb b v) s = .next s)
  ∧ (∀ (q : Fin 4096) wqes data s, (s.qpAt q.val).used = true → (s.qpAt q.val).state ≠ 0 →
      exec (.workRequestFetched q true wqes data) s
          = .next (rdmaSettle (takeRecvWrs q.val (wqes.take ((s.qpAt q.val).rqProd - (s.qpAt q.val).rqFetch).toNat) s))
      ∧ exec (.workRequestFetched q false wqes data) s = .next (rdmaSettle (advance q.val (takeSendWrs q.val
          ((wqes.take ((s.qpAt q.val).sqProd - (s.qpAt q.val).sqFetch).toNat).zipIdx.map (fun e => (e.1, data.getD e.2 []))) s))))
  ∧ (∀ q e d s, (onQp q (fun x => { x with sqFetch := x.sqFetch + 1 }) s).qpAt q = { s.qpAt q with sqFetch := (s.qpAt q).sqFetch + 1 }
      ∧ ((s.qpAt q).state = 4 → takeSendWrs q [(e, d)] s
          = completeSend q (sendWr s (s.qpAt q) e d) 0x0A (onQp q (fun x => { x with sqFetch := x.sqFetch + 1 }) s)))
  ∧ (∀ (p : Fin 64) bytes data s h, roceOf bytes = some h →
      (h.icrcOk = false → exec (.rdmaPacket (.river p) bytes data) s = .next { s with rdma := { s.rdma with rxIcrc := bump s.rdma.rxIcrc } })
      ∧ (h.icrcOk = true → exec (.rdmaPacket (.river p) bytes data) s
          = .next (deliverPkt (parseRdma h.bth h.ce) (fun x => x.path == 0 && x.port == p.val && x.isAt h.v6 h.dst) data s)))
  ∧ (∀ d vc bytes data s x, x = s.qpAt ((parseRdma bytes false).qpn - qpnBase) →
      (x.used = true → (s.berthAt x.berth).fabricOk = false →
        exec (.rdmaPacket (.fabric d vc) bytes data) s = .next { s with fab := { s.fab with refused := bump s.fab.refused } })
      ∧ (x.used = false ∨ (s.berthAt x.berth).fabricOk = true →
        exec (.rdmaPacket (.fabric d vc) bytes data) s = .next (deliverPkt (parseRdma bytes false) (fun x => x.path == 1) data s)))
  ∧ (∀ (p : RdmaPkt) ok data s,
      (p.pkey ≠ 0xFFFF → deliverPkt p ok data s = { s with rdma := { s.rdma with rxPkey := bump s.rdma.rxPkey } })
      ∧ (p.pkey = 0xFFFF → p.qpn < 0x1000 → deliverPkt p ok data s = { s with rdma := { s.rdma with rxBadQp := bump s.rdma.rxBadQp } })
      ∧ (p.pkey = 0xFFFF → 0x1000 ≤ p.qpn → p.qpn < 0x2000 → (s.qpAt (p.qpn - 0x1000)).used = true → ok (s.qpAt (p.qpn - 0x1000)) = true →
          deliverPkt p ok data s = rdmaSettle (qpTakes (p.qpn - 0x1000) p data s)))
  ∧ (∀ (q : Fin 4096) s, (s.qpAt q.val).state = 3 → s.timersHeld (s.qpAt q.val) = false → (s.qpAt q.val).rnrWait = false →
      (s.qpAt q.val).sqPsn ≠ (s.qpAt q.val).unaPsn → exec (.rdmaRetransmitTimeout q) s = .next (rdmaSettle (retransmit q.val s)))
  ∧ (∀ q s, ((s.qpAt q).retryCnt ≤ (s.qpAt q).retries → retransmit q s = failSend q 0x08 s)
      ∧ ((s.qpAt q).retries < (s.qpAt q).retryCnt → retransmit q s = trySend q (rewind q (onRdma (fun r => { r with retrans := bump r.retrans })
          (onQp q (fun x => { x with retries := x.retries + 1, retrans := bump x.retrans }) s)))))
  ∧ (∀ (q : Fin 4096) s, (s.qpAt q.val).ackDue = true → s.timersHeld (s.qpAt q.val) = false →
      exec (.ackCoalesceTimeout q) s = .next (rdmaSettle (sendAck q.val s)))
  ∧ (∀ (q : Fin 4096) s, (s.qpAt q.val).rnrWait = true → s.timersHeld (s.qpAt q.val) = false →
      exec (.rnrTimer q) s = .next (rdmaSettle (trySend q.val (onQp q.val (fun x => { x with rnrWait := false }) s))))
  ∧ (∀ (q : Fin 4096) s, s.sump.safe = true → (s.qpAt q.val).path = 0 →
      exec (.rdmaRetransmitTimeout q) s = .next s ∧ exec (.ackCoalesceTimeout q) s = .next s ∧ exec (.rnrTimer q) s = .next s)
  ∧ (∀ q s, (0 < (s.qpAt q).echoHold → echo q s = { s with rdma := { s.rdma with ecnEcho := bump s.rdma.ecnEcho } })
      ∧ ((s.qpAt q).echoHold = 0 → ((echo q s).qpAt q).w = max 1 ((s.qpAt q).w / 2) ∧ ((echo q s).qpAt q).echoHold = max 1 ((s.qpAt q).w / 2)))
  ∧ (∀ b c bytes s, (s.cqAt c).used = true → (s.cqAt c).err = false → (s.cqAt c).full = true →
      writeCqe b c bytes s = raise 25 1 0 0 0 (some b) (onCq c (fun q => { q with err := true }) s))
  ∧ (∀ b c bytes s, (s.cqAt c).err = true → writeCqe b c bytes s = s)
  ∧ (∀ (e : Fin 2) s, s.rdma.engines.getLsbD e.val = true → ∃ u, u = { s with rdma := { s.rdma with
        engines := s.rdma.engines &&& ~~~(BitVec.ofNat 2 (2 ^ e.val)) } }
      ∧ exec (.rdmaEngineFail e) s = .next (raise 25 0 e.val 0 0 none (rdmaSettle ((u.engineQps e.val).foldl (fun s q => qpError q 0 s) u))))
  ∧ (∀ q st s, (s.qpAt q).used = true → (s.qpAt q).state ≠ 4 → qpError q st s = postEvent (1 + (s.qpAt q).berth) 0x0C02
      (leBytes 2 (s.qpLocal q) ++ [BitVec.ofNat 8 st]) (flushQp q (onRdma (fun r => { r with qpErr := bump r.qpErr })
        (onQp q (fun x => { x with state := 4 }) s))))

/-- The ledger's commands and events (15_ledger.md R335, R337, R339, R340, R342, R346 to R348, R353). A configuration takes the policy at once and the interval with the next
seal; staging moves only while no page is staged; a seal asked for is written at once or after the one in hand; a record takes the next SEQ
and the next slot; an interval with records makes a seal due; a hash goes on to the next page; a signature closes its page, and one that
fails twice holds the berth FULL; pages leave oldest first, to the bay or to the staging ring; a staged page that reads uncorrectable is
lost, and named; a failed engine is raised. -/
def Obligations.LedgerTakesEffect : Prop :=
  (∀ rq, Completes (.ledgerConfig rq) (cmdOwn 0x0D01 8 0) rq
      (fun u => rq.u8 0 < 16 ∧ rq.u8 1 ≤ 1 ∧ rq.u8 2 ≤ 1 ∧ rq.u32 4 ≤ 1000000 ∧ (isHarbour u rq = true ∨ (rq.u8 2 = 1 ↔ (u.chainAt (rq.u8 0)).gapOk = true))
        ∧ (rq.u8 1 = 1 → rq.u8 2 = 1) ∧ u.berthExists (rq.u8 0) = true ∧ ((u.chainAt (rq.u8 0)).gapPolicy = true ↔ rq.u8 1 = 1)) (fun _ => [])
      (onChain (rq.u8 0) (fun c => { c with gapPolicy := rq.u8 1 = 1, gapOk := rq.u8 2 = 1, pendInterval := some (rq.u32 4) })))
  ∧ (∀ rq, Completes (.ledgerConfig rq) (cmdOwn 0x0D01 8 0) rq
      (fun u => rq.u8 0 < 16 ∧ rq.u8 1 ≤ 1 ∧ rq.u8 2 ≤ 1 ∧ rq.u32 4 ≤ 1000000 ∧ isHarbour u rq = true
        ∧ (rq.u8 1 = 1 → rq.u8 2 = 1) ∧ u.berthExists (rq.u8 0) = true ∧ ¬ ((u.chainAt (rq.u8 0)).gapPolicy = true ↔ rq.u8 1 = 1)) (fun _ => [])
      (fun u => closeSpan (rq.u8 0) (onChain (rq.u8 0)
        (fun c => { c with gapPolicy := rq.u8 1 = 1, gapOk := rq.u8 2 = 1, pendInterval := some (rq.u32 4) }) u)))
  ∧ (∀ rq, TurnsAway (.ledgerConfig rq) (cmdOwn 0x0D01 8 0) rq
      (fun u => rq.u8 0 < 16 ∧ rq.u8 1 ≤ 1 ∧ rq.u8 2 ≤ 1 ∧ rq.u32 4 ≤ 1000000 ∧ isHarbour u rq = false
        ∧ ¬ (rq.u8 2 = 1 ↔ (u.chainAt (rq.u8 0)).gapOk = true)) .noPerm)
  ∧ (∀ rq, Completes (.ledgerStaging rq) (cmdH 0x0D02 16) rq
      (fun u => rq.u64 0 % 2 ^ 30 = 0 ∧ rq.u64 0 < 0x1000000000 ∧ 1 ≤ rq.u8 8 ∧ rq.u8 8 ≤ 16 ∧ u.ph.region ≠ none ∧ u.ledg.ring = []
        ∧ u.ringFits (rq.u64 0) (rq.u8 8) = true ∧ 1 ≤ (u.ddrAt (dramChannel (rq.u64 0))).st ∧ (u.ddrAt (dramChannel (rq.u64 0))).st ≤ 4)
      (fun _ => []) (fun u => { u with ledg := { u.ledg with ringBase := BitVec.ofNat 64 (rq.u64 0), ringGib := rq.u8 8 } }))
  ∧ (∀ rq, TurnsAway (.ledgerStaging rq) (cmdH 0x0D02 16) rq
      (fun u => rq.u64 0 % 2 ^ 30 = 0 ∧ rq.u64 0 < 0x1000000000 ∧ 1 ≤ rq.u8 8 ∧ rq.u8 8 ≤ 16 ∧ u.ledg.ring ≠ []) .state)
  ∧ (∀ rq, Waits (.ledgerSealNow rq) (cmdOwn 0x0D03 4 0) rq
      (fun u => rq.u8 0 < 16 ∧ u.berthExists (rq.u8 0) = true ∧ (u.berthAt (rq.u8 0)).state ≠ 2 ∧ (u.chainAt (rq.u8 0)).active = true)
      (fun u => dueSeal (rq.u8 0) (onChain (rq.u8 0) (fun c => { c with
        sealFns := c.sealFns ++ [(rq.fn.val, if (u.chainAt (rq.u8 0)).signing then 2 else 1)] }) u)))
  ∧ (∀ rq, TurnsAway (.ledgerSealNow rq) (cmdOwn 0x0D03 4 0) rq
      (fun u => rq.u8 0 < 16 ∧ (u.berthExists (rq.u8 0) = false ∨ (u.berthAt (rq.u8 0)).state = 2)) .state)
  ∧ (∀ rq, Completes (.ledgerStatus rq) { cmdOwn 0x0D04 4 0 with auditor := true } rq (fun _ => rq.u8 0 < 16)
      (fun u => leBytes 8 ((u.chainAt (rq.u8 0)).nextSeq - 1) ++ leBytes 8 (u.chainAt (rq.u8 0)).sealSeq ++ stampBytes (u.chainAt (rq.u8 0)).sealStamp
        ++ leBytes 8 (u.chainAt (rq.u8 0)).page.no ++ padTo 32 (u.chainAt (rq.u8 0)).lastHash ++ leBytes 4 (u.ledgWord (rq.u8 0))
        ++ [BitVec.ofNat 8 (bitNat (u.chainAt (rq.u8 0)).full + 2 * bitNat (u.chainAt (rq.u8 0)).gapFirst.isSome)]) id)
  ∧ (∀ rq, Completes (.ledgerDeviceCert rq) (cmdHBA 0x0D05 0) rq (fun _ => True)
      (fun _ => leBytes 2 Config.deviceCert.length ++ Config.deviceCert) id)
  ∧ (∀ b ty rcd s, (s.chainAt b).page.slots.length < 62 → ((putRecord b ty rcd s).chainAt b).nextSeq = (s.chainAt b).nextSeq + 1
      ∧ ((putRecord b ty rcd s).chainAt b).page.slots = (s.chainAt b).page.slots ++ [rcd (s.chainAt b).nextSeq])
  ∧ (∀ (b : Fin 16) s, (s.chainAt b.val).active = true → (s.chainAt b.val).interval ≠ 0 → s.ledg.stopped = false →
      ((s.chainAt b.val).appended = true → exec (.sealDue b) s = .next (dueSeal b.val s))
      ∧ ((s.chainAt b.val).appended = false → exec (.sealDue b) s = .next (onChain b.val (fun c => { c with intervalUp := true }) s)))
  ∧ (∀ b s, ((s.chainAt b).signing = true ∨ s.sealRoom b = false → dueSeal b s = s.setChain b { s.chainAt b with sealWaits := true })
      ∧ ((s.chainAt b).signing = false → s.sealRoom b = true → dueSeal b s = writeSeal b 0 s))
  ∧ (∀ (b : Fin 16) s p h, (s.chainAt b.val).closed.find? Page.hashable = some p → s.engineUp = true → h = sha256 p.bytes →
      exec (.pageHashDone b) s = .next (onChain b.val (fun c => { c with
        closed := c.closed.map (fun q => if q.no = p.no && q.chainId = p.chainId then { q with hash := some h } else linkNext p h q),
        page := linkNext p h c.page, lastHash := h }) s))
  ∧ (∀ (b : Fin 16) ok s p, (s.chainAt b.val).closed.find? Page.awaitSig = some p → p.prevHash ≠ none → s.engineUp = true →
      (s.chainAt b.val).signHold = false → ∃ t, exec (.sealSigned b ok) s = .next t
      ∧ (ok = true → t = sealDone b.val p s)
      ∧ (ok = false → (s.chainAt b.val).signFails = 0 → t = onChain b.val (fun c => { c with signFails := 1 }) s)
      ∧ (ok = false → (s.chainAt b.val).signFails ≠ 0 →
          t = raise 26 2 0 0 0 (some b.val) (onChain b.val (fun c => { c with signFails := 2, signHold := true, full := true }) s)))
  ∧ (∀ (e : Fin 2) s, s.ledg.engines.getLsbD e.val = true → exec (.ledgEngineFail e) s = .next (raise 26 1 e.val 0 0 none { s with
      ledg := { s.ledg with engines := s.ledg.engines &&& ~~~(BitVec.ofNat 2 (2 ^ e.val)) } }))
  ∧ (∀ s p n, firstOf s.bufferedPages = some p → s.stagedPages = [] ∨ p.powerFail = true → s.activeBay = some n → s.bayRoom n = true →
      exec .pageWrite s = .next (issuePage n p false s))
  ∧ (∀ s p q, firstOf s.bufferedPages = some p → s.activeBay = none →
      firstOf (s.bufferedPages.filter (fun p => 0 < s.ringRoom p.berth && !s.ledg.stopped)) = some q → exec .pageWrite s = .next (stagePage q s))
  ∧ (∀ s p n, firstOf s.stagedPages = some p → s.activeBay = some n → s.stagingUp = true → s.bayRoom n = true →
      s.bufferedPages.any Page.powerFail = false →
      exec (.stagingReadback .uncorrectable) s = .next (losePage p s) ∧ exec (.stagingReadback .ok) s = .next (issuePage n p true s))

/-- The witness exchange (11_crossings.md R263, R264, 02_tide_gauge.md R60). A round sends W_REQ on an UP link, and misses one still open; a W_REQ is answered with its stamps;
a W_RESP of the round in hand gives the peer offset and the path delay, and any other is missed; three offsets in a row beyond DISSENT_LIMIT
raise dissent, and three in a row within it clear it. -/
def Obligations.WitnessTakesEffect : Prop :=
  (∀ (k : Fin 8) ph s, (s.xlAt k.val).isUp = true → ∃ u, exec (.witnessRound k ph) s
        = .next (sendByp k.val ([1, (u.xlAt k.val).round, 0, 0] ++ leBytes 4 s.tide.word.toNat) u)
      ∧ (u.xlAt k.val).round = (s.xlAt k.val).round + 1 ∧ (u.xlAt k.val).witOpen = true ∧ (u.xlAt k.val).witEpoch = s.tide.epoch
      ∧ (u.xlAt k.val).witMissed = if (s.xlAt k.val).witOpen then bump (s.xlAt k.val).witMissed else (s.xlAt k.val).witMissed)
  ∧ (∀ (k : Fin 8) ph s, (s.xlAt k.val).isUp = false → exec (.witnessRound k ph) s = .next s)
  ∧ (∀ (k : Fin 8) bytes ph s, (s.xlAt k.val).carries = true → exec (.wReq k bytes ph) s = .next (sendByp k.val
      ([2, BitVec.ofNat 8 (byteAt bytes 1), 0, 0] ++ leBytes 4 s.tide.word.toNat ++ stampBytes (s.xlStamp k.val false ph.val) ++ zeros 12) s))
  ∧ (∀ (k : Fin 8) bytes ph s x t4 θ, (s.xlAt k.val).carries = true → (s.xlAt k.val).witOpen = true → x = s.xlAt k.val →
      byteAt bytes 1 = x.round.toNat → x.witEpoch = s.tide.epoch → x.witBroken = false → t4 = s.xlStamp k.val false ph.val →
      θ = peerOffset x.witT1 (stampAt bytes 8) (stampAt bytes 20) t4 (Tab.look 0 s.tide.asym k.val) →
      exec (.wResp k bytes ph) s = .next (judgeOffset k.val θ (onXl k.val (fun w => { w with
        witOpen := false, witOffset := θ, witDelay := pathDelay x.witT1 (stampAt bytes 8) (stampAt bytes 20) t4,
        witPeer := BitVec.ofNat 32 (fieldLe bytes 4 4) }) s)))
  ∧ (∀ (k : Fin 8) bytes ph s, (s.xlAt k.val).carries = true → (s.xlAt k.val).witOpen = true →
      byteAt bytes 1 ≠ (s.xlAt k.val).round.toNat ∨ (s.xlAt k.val).witEpoch ≠ s.tide.epoch ∨ (s.xlAt k.val).witBroken = true →
      exec (.wResp k bytes ph) s = .next (onXl k.val (fun x => { x with witOpen := false, witMissed := bump x.witMissed }) s))
  ∧ (∀ (k : Fin 8) s, (s.xlAt k.val).witOpen = true →
      exec (.witnessMissed k) s = .next (onXl k.val (fun x => { x with witOpen := false, witMissed := bump x.witMissed }) s))
  ∧ (∀ (k : Fin 8) s, (s.xlAt k.val).witOpen = false → exec (.witnessMissed k) s = .next s)
  ∧ (∀ k (θ : Int) s, s.tide.dissentLimit.toNat * 1000 < θ.natAbs → s.tide.dissent.getLsbD k = false → Tab.look 0 s.tide.overRun k = 2 →
      judgeOffset k θ s = setDissent k true θ { s with tide := { s.tide with
        overRun := Tab.put 0 s.tide.overRun k 3, withinRun := Tab.put 0 s.tide.withinRun k 0 } })
  ∧ (∀ k (θ : Int) s, θ.natAbs ≤ s.tide.dissentLimit.toNat * 1000 → s.tide.dissent.getLsbD k = true → Tab.look 0 s.tide.withinRun k = 2 →
      judgeOffset k θ s = setDissent k false θ { s with tide := { s.tide with
        overRun := Tab.put 0 s.tide.overRun k 0, withinRun := Tab.put 0 s.tide.withinRun k 3 } })
  ∧ (∀ k (θ : Int) s, s.tide.dissentLimit.toNat * 1000 < θ.natAbs → Tab.look 0 s.tide.overRun k < 2 →
      judgeOffset k θ s = { s with tide := { s.tide with
        overRun := Tab.put 0 s.tide.overRun k (Tab.look 0 s.tide.overRun k + 1), withinRun := Tab.put 0 s.tide.withinRun k 0 } })

/-- The Cistern's commands (16_cistern.md R364, R366, R368, R373, R374). The status, the settings, a swap that waits for its switch, a release in each state, the identity page,
the nonce of a Retire, a Retire with a valid signature, and a page read back. -/
def Obligations.CisternCommandsTakeEffect : Prop :=
  (∀ rq, Completes (.cisternStatus rq) (cmdHBA 0x0E01 0) rq (fun _ => True)
      (fun u => u.bayRegs 0 ++ u.bayRegs 1 ++ padTo 128 (u.cartAt 0).ident ++ padTo 128 (u.cartAt 1).ident ++ slotsBytes u.cist.counters) id)
  ∧ (∀ rq, Completes (.cisternConfig rq) (cmdH 0x0E02 4) rq
      (fun _ => rq.u8 0 ≤ 5 ∧ (rq.u8 1 = 0 ∨ (50 ≤ rq.u8 1 ∧ rq.u8 1 ≤ 99))) (fun _ => [])
      (fun u => { u with cist := { u.cist with hkShare := BitVec.ofNat 8 (rq.u8 0), capWarn := BitVec.ofNat 8 (rq.u8 1) } }))
  ∧ (∀ rq n m, Waits (.cisternSwap rq) (cmdH 0x0E03 0) rq (fun u => u.activeBay = some n ∧ u.standbyBay = some m)
      (fun u => handOverBay n 3 { u with cist := { u.cist with swapFn := some rq.fn.val } }))
  ∧ (∀ rq, TurnsAway (.cisternSwap rq) (cmdH 0x0E03 0) rq (fun u => u.activeBay = none ∨ u.standbyBay = none) .state)
  ∧ (∀ rq, TurnsAway (.cisternRelease rq) (cmdH 0x0E04 4) rq (fun u => rq.u8 0 ≤ 1 ∧ (u.bayAt (rq.u8 0)).st ≤ 2) .state)
  ∧ (∀ rq, Completes (.cisternRelease rq) (cmdH 0x0E04 4) rq (fun u => rq.u8 0 ≤ 1 ∧ (u.bayAt (rq.u8 0)).st = 7) (fun _ => []) id)
  ∧ (∀ rq, Waits (.cisternRelease rq) (cmdH 0x0E04 4) rq (fun u => rq.u8 0 ≤ 1 ∧ (u.bayAt (rq.u8 0)).st = 4)
      (fun u => retireBay (rq.u8 0) 7 (onBay (rq.u8 0) (fun x => { x with releaseFn := some rq.fn.val }) u)))
  ∧ (∀ rq, Completes (.cisternRelease rq) (cmdH 0x0E04 4) rq
      (fun u => rq.u8 0 ≤ 1 ∧ ((u.bayAt (rq.u8 0)).st = 3 ∨ (u.bayAt (rq.u8 0)).st = 5 ∨ (u.bayAt (rq.u8 0)).st = 6)) (fun _ => [])
      (fun u => onBay (rq.u8 0) (fun x => { x with st := 7 }) (flushBay (rq.u8 0) (revokeWindow (rq.u8 0) u))))
  ∧ (∀ rq, Completes (.cisternIdentity rq) (cmdHA 0x0E05 4) rq
      (fun u => rq.u8 0 ≤ 1 ∧ (u.bayAt (rq.u8 0)).st ≠ 0 ∧ (u.cartAt (rq.u8 0)).ident ≠ []) (fun u => padTo 1024 (u.cartAt (rq.u8 0)).ident) id)
  ∧ (∀ rq, Completes (.cisternRetireChallenge rq false) (cmdHA 0x0E06 4) rq (fun u => rq.u8 0 ≤ 1 ∧ 3 ≤ (u.bayAt (rq.u8 0)).st)
      (fun u => u.freeRun 32)
      (fun u => emit (.nvme (rq.u8 0) 0xC2 0 []) (drawn (onBay (rq.u8 0) (fun x => { x with nonce := some (u.freeRun 32) }) u))))
  ∧ (∀ rq, TurnsAway (.cisternRetireChallenge rq true) (cmdHA 0x0E06 4) rq (fun u => rq.u8 0 ≤ 1 ∧ 3 ≤ (u.bayAt (rq.u8 0)).st) .hwFault)
  ∧ (∀ rq, Completes (.cisternRetire rq false) (cmdHA 0x0E07 132) rq
      (fun u => rq.u8 0 ≤ 1 ∧ ((u.bayAt (rq.u8 0)).st = 3 ∨ (u.bayAt (rq.u8 0)).st = 5 ∨ (u.bayAt (rq.u8 0)).st = 6 ∨ (u.bayAt (rq.u8 0)).st = 7)
        ∧ retireValid (u.bayAt (rq.u8 0)).nonce (u.cartAt (rq.u8 0)).ident (rq.bytes 4 128) = true) (fun _ => [])
      (fun u => startProbe (rq.u8 0) (onBay (rq.u8 0) (fun x => { x with capWarned := false }) (onCart (rq.u8 0) Cart.retired (revokeWindow (rq.u8 0)
        (emit (.nvme (rq.u8 0) 0xC1 0 (rq.bytes 4 128)) (onBay (rq.u8 0) (fun x => { x with nonce := none }) u)))))))
  ∧ (∀ rq hw, TurnsAway (.cisternRetire rq hw) (cmdHA 0x0E07 132) rq (fun u => rq.u8 0 ≤ 1 ∧ (u.bayAt (rq.u8 0)).st = 4) .state)
  ∧ (∀ nonce ident buf, retireValid nonce ident buf = true ↔ (nonce = some (sliceBytes buf 0 32) ∧ sliceBytes buf 32 8 = sliceBytes ident 8 8
      ∧ sliceBytes buf 40 8 = sliceBytes ident 80 8
      ∧ Config.edVerify (sliceBytes ident 88 32) (sha256 (retireTag ++ sliceBytes ident 8 8 ++ sliceBytes buf 0 32)) (sliceBytes buf 48 64) = true))
  ∧ (∀ rq, Completes (.cisternRead rq false) (cmdHA 0x0E08 12) rq
      (fun u => rq.u8 0 ≤ 1 ∧ rq.u8 1 = 1 ∧ rq.u64 4 < 0x100000000 ∧ 3 ≤ (u.bayAt (rq.u8 0)).st) (fun u => u.pageAt (rq.u8 0) (rq.u64 4))
      (fun u => emit (.nvme (rq.u8 0) 0x02 (rq.u64 4) []) (drawn u)))

/-- The bays and the cartridges (16_cistern.md R357, R360 to R364, R367 to R372). An append that completes puts its page on the cartridge; a stall is counted, and the 64th in a
second hands the bay over; a timeout faults the bay; a reading of LIFE_USED warns and wears; a window stands open while no page waits; an
inserted cartridge is probed once MBX_READY, a passing one is ACTIVE when no bay is and STANDBY otherwise, a failing one is refused; a
removed one leaves its bay EMPTY; a latch releases, and closed again probes. -/
def Obligations.CisternEventsTakeEffect : Prop :=
  (∀ (n : Fin 2) i s a, (s.bayAt n.val).out[i]? = some a → exec (.zoneAppendComplete n i true) s
        = .next (drainCheck n.val (pageWritten n.val a (onBay n.val (fun x => { x with out := x.out.eraseIdx i }) s)))
      ∧ exec (.zoneAppendComplete n i false) s = .next (drainCheck n.val (appendFails n.val i a s)))
  ∧ (∀ n a s, ∃ u v, u = onCart n (fun c => { c with
        pages := Tab.put [] c.pages (524288 * ((s.cartAt n).openZone.getD 0) + (s.cartAt n).fill) a.bytes, fill := c.fill + 1 }) s
      ∧ v = { u with cist := { u.cist with pagesWritten := bump u.cist.pagesWritten }, ledg := { u.ledg with pagesOut := bump u.ledg.pagesOut } }
      ∧ pageWritten n a s = zoneFull n (freePage a.berth a.page v))
  ∧ (∀ (n : Fin 2) s, ((s.bayAt n.val).draining ≠ none → exec (.switchReissue n) s = .next (completeSwitch n.val s))
      ∧ ((s.bayAt n.val).draining = none → exec (.switchReissue n) s = .next s))
  ∧ (∀ (n : Fin 2) s recent u, (s.bayAt n.val).out ≠ [] →
      recent = s.tide.nowFs :: ((s.bayAt n.val).stalls.filter (fun t => s.tide.nowFs < t + 1000000000000000)) →
      u = onCist (fun c => { c with stallCnt := bump c.stallCnt }) (onBay n.val (fun x => { x with stalls := recent }) s) →
      (recent.length < 64 → exec (.appendStall n) s = .next u)
      ∧ (64 ≤ recent.length → ∃ v, v = raise 27 7 n.val 0 0 none (onBay n.val (fun x => { x with stalls := [] }) u)
        ∧ exec (.appendStall n) s = .next (if v.standbyBay.isSome && v.activeBay = some n.val then handOverBay n.val 3 v else v)))
  ∧ (∀ (n : Fin 2) s, (s.bayAt n.val).st ≠ 0 → (s.bayAt n.val).st ≠ 2 → (s.bayAt n.val).st ≠ 8 →
      exec (.adminTimeout n) s = .next (retireBay n.val 8 (raise 27 6 n.val 0 0 none s)))
  ∧ (∀ (n : Fin 2) ident s, (s.bayAt n.val).mounted = true → exec (.lifeRead n ident) s = .next (readLife n.val ident s)
      ∧ exec (.asyncEvent n true ident) s = .next (faultBay n.val (readLife n.val ident s))
      ∧ exec (.asyncEvent n false ident) s = .next (readLife n.val ident s))
  ∧ (∀ s us u, s.pagesWait = true → us = 1000 * s.cist.hkShare.toNat → u = revokeWindow 1 (revokeWindow 0 s) → us ≠ 0 →
      (s.bayAt 0).mounted = true ∨ (s.bayAt 1).mounted = true →
      exec .hkPeriod s = .next (onCist (fun c => { c with hkUs := bumpBy c.hkUs us }) (grantWindow us 1 (grantWindow us 0 u))))
  ∧ (∀ s u, s.pagesWait = false → (s.bayAt 0).window = none → (s.bayAt 1).window = none → u = grantWindow 0xFFFFFFFF 0 s →
      (u.bayAt 1).window = none → exec .hkPeriod s = .next (grantWindow 0xFFFFFFFF 1 u))
  ∧ (∀ (n : Fin 2) s, exec (.retireNonceExpiry n) s = .next (onBay n.val (fun x => { x with nonce := none }) s))
  ∧ (∀ (n : Fin 2) s u, (s.bayAt n.val).prsnt = false → u = onBay n.val (fun x => { x with prsnt := true, latched := true, cart := some {} }) s →
      exec (.bayInsert n) s = .next (if s.ph.ready then startProbe n.val u else u))
  ∧ (∀ n s, ((startProbe n s).bayAt n).st = 1 ∧ ((startProbe n s).bayAt n).window = none ∧ ((startProbe n s).bayAt n).nonce = none)
  ∧ (∀ (n : Fin 2) res s u, (s.bayAt n.val).st = 1 →
      u = onBay n.val (fun x => { x with
          linkFull := res.linkFull, serial := BitVec.ofNat 64 (fieldLe (padTo 1024 res.ident) 8 8), life := lifeOf (padTo 1024 res.ident) })
        (onCart n.val (fun c => { c with ident := padTo 1024 res.ident })
          (drawn (emit (.nvme n.val 0xC6 Config.deviceSerial.toNat (s.freeRun 16)) s))) →
      exec (.probeComplete n res) s = .next (match probeFails res (s.freeRun 16) with
        | some step => refuseCart n.val step u
        | none => mount n.val res u))
  ∧ (∀ n step s, refuseCart n step s = raise 27 0 n step 0 none
      (onCist (fun c => { c with authFail := bump c.authFail }) (onBay n (fun x => { x with st := 2 }) s)))
  ∧ (∀ used s, (8192 ≤ used → mountState used s = 5) ∧ (used < 8192 → s.anyActive = true → mountState used s = 3)
      ∧ (used < 8192 → s.anyActive = false → mountState used s = 4))
  ∧ (∀ (n : Fin 2) s, (s.bayAt n.val).st = 1 → exec (.probeLinkTimeout n) s = .next (refuseCart n.val 1 s))
  ∧ (∀ (n : Fin 2) s, (s.bayAt n.val).prsnt = true → ∃ t, exec (.bayRemove n) s = .next t ∧ (t.bayAt n.val).st = 0 ∧ (t.bayAt n.val).cart = none)
  ∧ (∀ (n : Fin 2) s, (s.bayAt n.val).prsnt = false → exec (.bayRemove n) s = .next s)
  ∧ (∀ (n : Fin 2) s, (s.bayAt n.val).prsnt = true → (s.bayAt n.val).st ≠ 0 → ∃ t, exec (.bayLinkLoss n) s = .next t
      ∧ t = startProbe n.val (onBay n.val (fun x => { x with prsnt := true }) (vacate n.val s)) ∧ (t.bayAt n.val).st = 1)
  ∧ (∀ (n : Fin 2) s u, u = onBay n.val (fun x => { x with latched := false }) s →
      ((s.bayAt n.val).st = 4 → exec (.latchOpen n) s = .next (retireBay n.val 7 u))
      ∧ ((s.bayAt n.val).st = 3 ∨ (s.bayAt n.val).st = 5 ∨ (s.bayAt n.val).st = 6 →
          exec (.latchOpen n) s = .next (onBay n.val (fun x => { x with st := 7 }) (flushBay n.val (revokeWindow n.val u))))
      ∧ ((s.bayAt n.val).st ≤ 2 ∨ 7 ≤ (s.bayAt n.val).st → exec (.latchOpen n) s = .next u))
  ∧ (∀ (n : Fin 2) s u, u = onBay n.val (fun x => { x with latched := true }) s →
      ((s.bayAt n.val).st = 7 → exec (.latchClose n) s = .next (startProbe n.val u))
      ∧ ((s.bayAt n.val).st ≠ 7 → exec (.latchClose n) s = .next u))

/-- The risk commands (10_weir_windlass.md R225, R232, R236, R238, R239, R249). A partition that overlaps no other and holds no entry it would move is taken; the settings of a
berth; an account, an instrument and a position counter are set where they stand or in a free way, deleted and adjusted; the limit of a firm
group; the release of a held frame; the scenario matrix; the status. -/
def Obligations.RiskCommandsTakeEffect : Prop :=
  (∀ rq others, Completes (.riskPartition rq) (cmdH 0x0901 16) rq
      (fun u => rq.u8 0 < 16 ∧ rq.u8 4 + rq.u8 5 ≤ 256 ∧ rq.u16 6 + rq.u16 8 ≤ 512 ∧ others = (List.range 16).filter (· ≠ rq.u8 0)
        ∧ (∀ o ∈ others, overlaps (rq.u8 4) (rq.u8 5) (u.weirB o).acctBase (u.weirB o).acctSize = false
            ∧ overlaps (rq.u16 6) (rq.u16 8) (u.weirB o).instrBase (u.weirB o).instrSize = false)
        ∧ (others.map (fun o => (u.weirB o).agg)).foldl (· + ·) 0 + fieldLe rq.payload 10 3 ≤ 262144
        ∧ (others.map (fun o => (u.weirB o).scen)).foldl (· + ·) 0 + fieldLe rq.payload 13 3 ≤ 524288
        ∧ u.berthExists (rq.u8 0) = true ∧ u.acctsUsed (rq.u8 0) = 0 ∧ u.instrsUsed (rq.u8 0) = 0) (fun _ => [])
      (onWeirB (rq.u8 0) (fun w => { w with
        acctBase := rq.u8 4, acctSize := rq.u8 5, instrBase := rq.u16 6, instrSize := rq.u16 8,
        agg := fieldLe rq.payload 10 3, scen := fieldLe rq.payload 13 3 })))
  ∧ (∀ rq, Completes (.riskBerthConfig rq) (cmdOwn 0x0902 20 0) rq
      (fun _ => rq.u8 0 < 16 ∧ rq.u8 1 ≤ 1 ∧ rq.u8 2 ≤ 63 ∧ rq.u8 3 ≤ 1 ∧ rq.u8 4 ≤ 1 ∧ rq.u8 5 ≤ 1 ∧ rq.u8 6 ≤ 2 ∧ rq.u32 8 ≤ 1000000
        ∧ rq.u16 12 ≤ 1024 ∧ rq.u32 16 ≤ 1000000) (fun _ => [])
      (onWeirB (rq.u8 0) (fun w => { w with
        gateClosed := rq.u8 1 == 1, checkHold := BitVec.ofNat 8 (rq.u8 2), exemptOk := rq.u8 3 == 1,
        auto := rq.u8 4 == 1, firmOn := rq.u8 5 == 1, staleAction := BitVec.ofNat 2 (rq.u8 6), holdTimeout := BitVec.ofNat 32 (rq.u32 8),
        holdMax := BitVec.ofNat 16 (rq.u16 12), headMaxAge := BitVec.ofNat 32 (rq.u32 16) })))
  ∧ (∀ rq w, Completes (.riskAccountWrite rq) (cmdOwn 0x0903 24 0) rq
      (fun u => rq.u8 0 < 16 ∧ rq.u8 1 = 0
        ∧ placeWay (u.findAcct (rq.u8 0) (rq.u32 4)) (u.acctWays (rq.u8 0) (rq.u32 4)) (fun w => (Tab.look {} u.weir.acct w).valid) = some w)
      (fun _ => []) (fun u => { u with weir := { u.weir with acct := Tab.put {} u.weir.acct w {
        valid := true, account := BitVec.ofNat 32 (rq.u32 4),
        group := BitVec.ofNat 8 (rq.u8 2), creditLimit := BitVec.ofNat 64 (rq.u64 8), creditUsed := BitVec.ofNat 64 (rq.u64 16) } } }))
  ∧ (∀ rq, TurnsAway (.riskAccountWrite rq) (cmdOwn 0x0903 24 0) rq
      (fun u => rq.u8 0 < 16 ∧ rq.u8 1 = 0
        ∧ placeWay (u.findAcct (rq.u8 0) (rq.u32 4)) (u.acctWays (rq.u8 0) (rq.u32 4)) (fun w => (Tab.look {} u.weir.acct w).valid) = none)
      .noResource)
  ∧ (∀ rq w, Completes (.riskAccountWrite rq) (cmdOwn 0x0903 24 0) rq
      (fun u => rq.u8 0 < 16 ∧ rq.u8 1 = 1 ∧ u.findAcct (rq.u8 0) (rq.u32 4) = some w)
      (fun _ => []) (fun u => { u with weir := { u.weir with acct := Tab.put {} u.weir.acct w {} } }))
  ∧ (∀ rq w e, Completes (.riskAccountWrite rq) (cmdOwn 0x0903 24 0) rq
      (fun u => rq.u8 0 < 16 ∧ rq.u8 1 = 2 ∧ u.findAcct (rq.u8 0) (rq.u32 4) = some w ∧ e = Tab.look {} u.weir.acct w ∧ e.poison = false)
      (fun _ => []) (fun u => { u with weir := { u.weir with acct := Tab.put {} u.weir.acct w { e with
        creditUsed := BitVec.ofNat 64 (min (2 ^ 64 - 1) (max 0 ((e.creditUsed.toNat : Int) + rq.int 16 8)).toNat) } } }))
  ∧ (∀ rq w, Completes (.riskInstrumentWrite rq) (cmdOwn 0x0904 48 0) rq
      (fun u => rq.u8 0 < 16 ∧ rq.u8 1 = 0 ∧ rq.u16 2 ≠ 0 ∧ (u.weirB (rq.u8 0)).columnOk (rq.u16 36) = true
        ∧ placeWay (u.findInstr (rq.u8 0) (rq.u32 4)) (u.instrWays (rq.u8 0) (rq.u32 4)) (fun w => (Tab.look {} u.weir.instr w).valid) = some w)
      (fun _ => []) (fun u => { u with weir := { u.weir with instr := Tab.put {} u.weir.instr w {
        valid := true, instrument := BitVec.ofNat 32 (rq.u32 4), mult := BitVec.ofNat 16 (rq.u16 2), refPrice := rq.int 8 8,
        band := BitVec.ofNat 64 (rq.u64 16), maxNotional := BitVec.ofNat 64 (rq.u64 24), maxQty := BitVec.ofNat 32 (rq.u32 32),
        column := BitVec.ofNat 16 (rq.u16 36), defLong := BitVec.ofNat 32 (rq.u32 40), defShort := BitVec.ofNat 32 (rq.u32 44) } } }))
  ∧ (∀ rq w, Completes (.riskInstrumentWrite rq) (cmdOwn 0x0904 48 0) rq
      (fun u => rq.u8 0 < 16 ∧ rq.u8 1 = 1 ∧ u.findInstr (rq.u8 0) (rq.u32 4) = some w)
      (fun _ => []) (fun u => { u with weir := { u.weir with instr := Tab.put {} u.weir.instr w {} } }))
  ∧ (∀ rq w, Completes (.riskPositionWrite rq) (cmdOwn 0x0905 28 0) rq
      (fun u => rq.u8 0 < 16 ∧ rq.u8 1 = 0
        ∧ (u.findPos (rq.u8 0) (rq.u32 4) (rq.u32 8)).or (u.freePos (rq.u8 0) (rq.u32 4) (rq.u32 8)) = some w)
      (fun _ => []) (fun u => { u with weir := { u.weir with pos := Tab.put {} u.weir.pos w {
        valid := true, account := BitVec.ofNat 32 (rq.u32 4), instrument := BitVec.ofNat 32 (rq.u32 8), position := rq.int 20 8,
        limitLong := BitVec.ofNat 32 (rq.u32 12), limitShort := BitVec.ofNat 32 (rq.u32 16) } } }))
  ∧ (∀ rq w e, Completes (.riskPositionWrite rq) (cmdOwn 0x0905 28 0) rq
      (fun u => rq.u8 0 < 16 ∧ rq.u8 1 = 2 ∧ u.findPos (rq.u8 0) (rq.u32 4) (rq.u32 8) = some w ∧ e = Tab.look {} u.weir.pos w ∧ e.poison = false)
      (fun _ => []) (fun u => { u with weir := { u.weir with
        pos := Tab.put {} u.weir.pos w { e with position := sat64 (e.position + rq.int 20 8) } } }))
  ∧ (∀ rq w e, Completes (.riskPositionWrite rq) (cmdOwn 0x0905 28 0) rq
      (fun u => rq.u8 0 < 16 ∧ rq.u8 1 = 1 ∧ u.findPos (rq.u8 0) (rq.u32 4) (rq.u32 8) = some w ∧ e = Tab.look {} u.weir.pos w ∧ e.poison = false
        ∧ e.position = 0) (fun _ => []) (fun u => { u with weir := { u.weir with pos := Tab.put {} u.weir.pos w {} } }))
  ∧ (∀ rq w, TurnsAway (.riskPositionWrite rq) (cmdOwn 0x0905 28 0) rq
      (fun u => rq.u8 0 < 16 ∧ rq.u8 1 = 1 ∧ u.findPos (rq.u8 0) (rq.u32 4) (rq.u32 8) = some w ∧ (Tab.look {} u.weir.pos w).position ≠ 0) .state)
  ∧ (∀ rq, Completes (.riskFirmWrite rq) (cmdOwn 0x0907 16 0) rq (fun _ => rq.u8 0 < 16) (fun _ => [])
      (onWeirB (rq.u8 0) (fun w => { w with firm := Tab.upd {} w.firm (rq.u8 1) (fun f => { f with limit := rq.int 8 8 }) })))
  ∧ (∀ rq h (j : State → Judgement), Completes (.riskRelease rq) (cmdOwn 0x0906 4 0) rq
      (fun u => rq.u8 0 < 16 ∧ rq.u8 1 ≤ 2 ∧ (rq.u8 1 = 2 → (u.weirB (rq.u8 0)).exemptOk = true)
        ∧ (u.weirB (rq.u8 0)).held.find? (fun h => h.1 == rq.u16 2) = some h ∧ j = fun u => releaseVerdict h.2 (rq.u8 1) (refreshFull (rq.u8 0) u))
      (fun u => [BitVec.ofNat 8 (j u).verdict, BitVec.ofNat 8 (j u).reason])
      (fun u => if (j u).verdict = 1 then acceptHeld h.2 (j u).upd (j u).create (refreshFull (rq.u8 0) u)
        else rejectHeld h.2 (j u).reason (refreshFull (rq.u8 0) u)))
  ∧ (∀ f s, releaseVerdict f 0 s = { verdict := 2, reason := 0x13 })
  ∧ (∀ f s, s.ledgerShut (s.frameAt f).berth = true → releaseVerdict f 2 s = { verdict := 2, reason := 0x02 })
  ∧ (∀ rq, TurnsAway (.riskRelease rq) (cmdOwn 0x0906 4 0) rq
      (fun u => rq.u8 0 < 16 ∧ rq.u8 1 ≤ 1 ∧ (u.weirB (rq.u8 0)).held.find? (fun h => h.1 == rq.u16 2) = none) .state)
  ∧ (∀ rq, Completes (.riskScenarioStage rq) { cmdOwn 0x0908 8 0 with len := fun p => 8 + fieldLe p 2 2 } rq
      (fun u => rq.u8 0 < 16 ∧ 1 ≤ rq.u16 2 ∧ rq.u16 2 ≤ 4072 ∧ rq.u32 4 + rq.u16 2 ≤ 4 * (u.weirB (rq.u8 0)).scen) (fun _ => [])
      (onWeirB (rq.u8 0) (fun w => { w with s := Tab.putAll 0 w.s (rq.u32 4) (rq.bytes 8 (rq.u16 2)) })))
  ∧ (∀ rq w, Completes (.riskStatus rq) { cmdOwn 0x090A 4 0 with auditor := true } rq
      (fun u => rq.u8 0 < 16 ∧ w = u.weirB (rq.u8 0))
      (fun u => [BitVec.ofNat 8 (rq.u8 0), BitVec.ofNat 8 (bitNat w.gateClosed), w.checkHold, BitVec.ofNat 8 (bitNat w.exemptOk),
          BitVec.ofNat 8 (bitNat w.auto), BitVec.ofNat 8 (bitNat w.firmOn), BitVec.ofNat 8 w.staleAction.toNat, 0]
        ++ leBytes 4 w.holdTimeout.toNat ++ leBytes 2 w.holdMax.toNat ++ leBytes 2 0 ++ leBytes 4 w.headMaxAge.toNat
        ++ [BitVec.ofNat 8 w.acctBase, BitVec.ofNat 8 w.acctSize] ++ leBytes 2 w.instrBase ++ leBytes 2 w.instrSize
        ++ leBytes 3 w.agg ++ leBytes 3 w.scen
        ++ leBytes 4 (u.acctsUsed (rq.u8 0)) ++ leBytes 4 (u.instrsUsed (rq.u8 0)) ++ leBytes 4 (u.posUsed (rq.u8 0))
        ++ leBytes 4 (u.berthAt (rq.u8 0)).weirCtrs ++ leBytes 4 w.held.length ++ leBytes 4 (u.headAge (rq.u8 0))
        ++ leBytes 2 (w.firm.take 154).length ++ ((w.firm.take 154).map firmBytes).flatten) id)

/-- The Windlass and the Weir's flushing (10_weir_windlass.md R240 to R243, R245, R246, R249). A run is configured, stopped, started when none is in progress, and waits behind another
berth's; a period that falls due joins the runs due or is skipped; an output tile whose residue check passes is kept, and one that fails
fails the tile of the Windlass; E is installed from the reduced product, never below 0; a correctable error of a directory is counted, and
an uncorrectable one poisons its entry. -/
def Obligations.WindlassTakesEffect : Prop :=
  (∀ rq, Completes (.riskWindlassRun rq) (cmdOwn 0x0909 20 0) rq
      (fun u => rq.u8 0 < 16 ∧ rq.u8 1 = 0 ∧ windArgsOk rq u = true ∧ rq.u16 4 * rq.u16 8 ≤ (u.weirB (rq.u8 0)).agg
        ∧ rq.u16 8 * rq.u8 6 ≤ (u.weirB (rq.u8 0)).scen) (fun _ => [])
      (onWeirB (rq.u8 0) (fun w => { w with
        configured := true, tiles := rq.u8 2, stream := rq.u8 3 == 1, m := rq.u16 4, n := rq.u8 6,
        k := rq.u16 8, period := BitVec.ofNat 32 (rq.u32 12), group := BitVec.ofNat 32 (rq.u32 16) })))
  ∧ (∀ rq, TurnsAway (.riskWindlassRun rq) (cmdOwn 0x0909 20 0) rq
      (fun u => rq.u8 0 < 16 ∧ rq.u8 1 = 0 ∧ windArgsOk rq u = true ∧ ((u.weirB (rq.u8 0)).agg < rq.u16 4 * rq.u16 8
        ∨ (u.weirB (rq.u8 0)).scen < rq.u16 8 * rq.u8 6)) .noResource)
  ∧ (∀ rq, Completes (.riskWindlassRun rq) (cmdOwn 0x0909 20 0) rq (fun _ => rq.u8 0 < 16 ∧ rq.u8 1 = 2) (fun _ => [])
      (onWeirB (rq.u8 0) (fun w => { w with period := 0 })))
  ∧ (∀ rq, Completes (.riskWindlassRun rq) (cmdOwn 0x0909 20 0) rq
      (fun u => rq.u8 0 < 16 ∧ rq.u8 1 = 1 ∧ (u.weirB (rq.u8 0)).configured = true ∧ u.runOf (rq.u8 0) = false
        ∧ (u.weirB (rq.u8 0)).tiles ≠ 0 ∧ u.weir.tiles ≠ 0 ∧ u.weir.run = none) (fun _ => []) (startRun (rq.u8 0)))
  ∧ (∀ rq r, Waits (.riskWindlassRun rq) (cmdOwn 0x0909 20 0) rq
      (fun u => rq.u8 0 < 16 ∧ rq.u8 1 = 1 ∧ (u.weirB (rq.u8 0)).configured = true ∧ u.runOf (rq.u8 0) = false
        ∧ (u.weirB (rq.u8 0)).tiles ≠ 0 ∧ u.weir.tiles ≠ 0 ∧ u.weir.run = some r)
      (fun u => { u with weir := { u.weir with dueRuns := u.weir.dueRuns ++ [(rq.u8 0, some rq.fn.val)] } }))
  ∧ (∀ rq, TurnsAway (.riskWindlassRun rq) (cmdOwn 0x0909 20 0) rq
      (fun u => rq.u8 0 < 16 ∧ rq.u8 1 = 1 ∧ (u.weirB (rq.u8 0)).configured = true ∧ u.runOf (rq.u8 0) = true) .busy)
  ∧ (∀ (b : Fin 16) s, (s.weirB b.val).configured = true → (s.weirB b.val).period ≠ 0 → (s.weirB b.val).tiles ≠ 0 →
      (s.runOf b.val = true → exec (.windlassPeriod b) s = .next { s with weir := { s.weir with skipped := bump s.weir.skipped } })
      ∧ (s.runOf b.val = false → exec (.windlassPeriod b) s
          = .next (startDue { s with weir := { s.weir with dueRuns := s.weir.dueRuns ++ [(b.val, none)] } })))
  ∧ (∀ (i t : Fin 4) s r, s.weir.run = some r → i.val < r.outTiles → r.done.contains i.val = false → s.weir.tiles.getLsbD t.val = true →
      exec (.outputTileDone i t false) s = .next (shtlGo (failTile t.val s))
      ∧ exec (.outputTileDone i t true) s
          = .next (shtlGo (onRun (fun r => { r with reduced := !r.shuttled && r.allDone }) (computeTile i.val s))))
  ∧ (∀ s r, s.weir.run = some r → r.reduced = true → exec .exposureInstall s = .next (startDue (endRun (install r s))))
  ∧ (∀ s r, s.weir.run = some r → r.reduced = false → exec .exposureInstall s = .next s)
  ∧ (∀ (r : WindRun) g, 0 ≤ r.exposure g)
  ∧ (∀ (t : Fin 4) s, s.weir.tiles.getLsbD t.val = true → exec (.windTileFail t) s = .next (shtlGo (failTile t.val s)))
  ∧ (∀ (t : Fin 4) s, s.weir.tiles.getLsbD t.val = false → exec (.windTileFail t) s = .next s)
  ∧ (∀ dir way s u, u = { s with weir := { s.weir with flushAt := way + 1 } } →
      exec (.directoryFlushing dir way .ok) s = .next u
      ∧ exec (.directoryFlushing dir way .corrected) s = .next { u with weir := { u.weir with eccCorr := bump u.weir.eccCorr } }
      ∧ exec (.directoryFlushing dir way .uncorrectable) s = .next (raise 14 0 (weirDirCode dir) 0 way (s.wayOwner dir way)
          (poisonWay dir way { u with weir := { u.weir with eccUncorr := bump u.weir.eccUncorr } })))
  ∧ (∀ way s, (Tab.look {} s.weir.acct way).valid = true → (Tab.look {} (poisonWay .account way s).weir.acct way).poison = true)

/-- Every step keeps each bay in one of the states of Table 16.1, with at most one bay ACTIVE (16_cistern.md R356); with them goes what makes it
so: a bay without a cartridge is EMPTY, and only an ACTIVE bay hands over or has appends outstanding. -/
def Obligations.AtMostOneBayIsActive : Prop := ∀ s t, BaysSound s → step s = .next t → BaysSound t

/-- At reset each bay is in one of the states of Table 16.1, and no bay is ACTIVE (16_cistern.md R356, R372). -/
def Obligations.BaysAreSoundAtReset : Prop := BaysSound State.reset ∧ ∀ n, (State.reset.bayAt n).st ≤ 8 ∧ (State.reset.bayAt n).st ≠ 4

/-- Every step keeps the guard sound (03_self_timed_core.md R75, R78, R79, R80, R83, R86, R89, 18_pumphouse.md R404): its configuration stays
within the ranges of Table 03.6, VCAP never goes below VCORE_FLOOR, VDD_CORE stays within 0.90 V and, once the guard runs, is never set below
VCORE_FLOOR, and with the guard enabled LAT_BOUND is never below FERRY_LAT_TARGET. -/
def Obligations.TheGuardKeepsItsLimits : Prop := ∀ s t, s.guard.Sound → step s = .next t → t.guard.Sound

/-- At reset the guard does not run, its configuration is that of Table 03.3, and it is sound (03_self_timed_core.md R92). -/
def Obligations.TheGuardIsSoundAtReset : Prop :=
  State.reset.guard.Sound ∧ State.reset.guard.running = false ∧ State.reset.guard.enabled = false ∧ State.reset.guard.latBound = 480
  ∧ State.reset.guard.target = 450 ∧ State.reset.guard.hyst = 15 ∧ State.reset.guard.stepMv = 5 ∧ State.reset.guard.ceil = 40
  ∧ State.reset.guard.fixed = 30 ∧ State.reset.guard.capW = 0

/-- Every step keeps the content of each DRAM channel in its canonical form, and each poison list within the 16 entries that recovery allows
(17_dram.md R389). -/
def Obligations.DramContentStaysSound : Prop := ∀ s t, DramSound s → step s = .next t → DramSound t

/-- At reset no channel lists any content or any poisoned block (17_dram.md R390). -/
def Obligations.DramContentIsSoundAtReset : Prop :=
  DramSound State.reset ∧ ∀ c, (State.reset.ddrAt c).mem = [] ∧ (State.reset.ddrAt c).poison = []

/-- One step with a command at the front of the queue is that command on the state with the queue's rest. -/
def Obligations.AStepRunsTheFrontCommand : Prop :=
  ∀ c rest s, s.pending = c :: rest → step s = exec c { s with pending := rest }

/-- On an empty queue a step is one cycle of the tide gauge's clock, 0.8 ns with at most 50 ppm of slewing and trim (02_tide_gauge.md R45, R55;
log entry 3): the queue stays empty and, but for the time, what remains to be slewed, the cycle counts and the trace, nothing changes. -/
def Obligations.AnEmptyQueueIsOneClockCycle : Prop :=
  ∀ s, s.pending = [] → ∃ t, step s = .next t ∧ t.pending = []
    ∧ s.tide.nowFs + 799920 ≤ t.tide.nowFs ∧ t.tide.nowFs ≤ s.tide.nowFs + 800080
    ∧ (s.tide.slewFs = 0 → t.tide.slewFs = 0) ∧ t.tide.slewFs.natAbs ≤ s.tide.slewFs.natAbs
    ∧ { t.tide with nowFs := s.tide.nowFs, slewFs := s.tide.slewFs } = s.tide
    ∧ ChangesOnly [.tide, .pmon, .trace] s t

/-- Every command answers a next state in every state, leaves the queue alone, and changes only the parts listed for it. -/
def Obligations.EveryCommandChangesOnlyItsParts : Prop :=
  ∀ i s, ∃ t, exec i s = .next t ∧ t.pending = s.pending ∧ ChangesOnly (mayChange i) s t

/-- How every mailbox command's request is received (18_pumphouse.md R397, R398, R399, 00_scope.md R5, 09_berths.md R209): a doorbell that is
not taken does nothing; one while BUSY sets OVERRUN and is counted; a ping is answered OK with the PING flag and the 16 bytes of Table 18.7 in
any role; a request that a check turns away, in the order of R398, is answered with that status and a length of 0. A ping and a request
turned away change only the mailbox protocol's own parts. -/
def Obligations.RequestsAreCheckedInOrder : Prop :=
  ∀ i c rq, commandOf i = some (c, rq) → ∀ s,
    (s.takesDoorbell rq.fn.val = false → exec i s = .next s)
    ∧ (s.takesDoorbell rq.fn.val = true → (s.mbxAt rq.fn.val).busy = true → exec i s = .next (overrun rq.fn.val s))
    ∧ (s.takesDoorbell rq.fn.val = true → (s.mbxAt rq.fn.val).busy = false → rq.length = 0 → c.len [] ≠ 0 ∨ c.code = 0x0101 →
        exec i s = .next (respond rq.fn.val .ok 1 (pingPayload rq.fn.val (accept rq c.code s)) (accept rq c.code s))
        ∧ (pingPayload rq.fn.val (accept rq c.code s)).length = 16
        ∧ ChangesOnly protocolParts s (respond rq.fn.val .ok 1 (pingPayload rq.fn.val (accept rq c.code s)) (accept rq c.code s)))
    ∧ (∀ st, s.takesDoorbell rq.fn.val = true → (s.mbxAt rq.fn.val).busy = false → ¬ (rq.length = 0 ∧ (c.len [] ≠ 0 ∨ c.code = 0x0101)) →
        (if s.ph.recovery = true ∧ recoveryRuns c.code = false then st = .state
         else if c.permits rq (accept rq c.code s) (s.role rq.fn.val) = false then st = .noPerm
         else (rq.length.toNat ≠ c.len rq.payload ∨ 4080 < rq.length.toNat ∨ rq.payload.length ≠ rq.length.toNat) ∧ st = .badLen) →
        exec i s = .next (respond rq.fn.val st 0 [] (accept rq c.code s))
        ∧ ChangesOnly protocolParts s (respond rq.fn.val st 0 [] (accept rq c.code s)))

/-- The mailbox protocol (18_pumphouse.md R397). A doorbell that is taken sets BUSY, clears RESP_VALID, holds the request and leaves the response
area alone; an answer writes the response header and payload, sets RESP_VALID and clears BUSY, and with NOTIFY posts MBX_DONE to the
function's event ring; no other mailbox changes. -/
def Obligations.TheMailboxProtocol : Prop :=
  (∀ rq code s, ((accept rq code s).mbxAt rq.fn.val).busy = true ∧ ((accept rq code s).mbxAt rq.fn.val).respValid = false
      ∧ ((accept rq code s).mbxAt rq.fn.val).reqOp = BitVec.ofNat 16 code ∧ ((accept rq code s).mbxAt rq.fn.val).reqSeq = rq.seq
      ∧ ((accept rq code s).mbxAt rq.fn.val).reqNotify = rq.flags.getLsbD 0
      ∧ ((accept rq code s).mbxAt rq.fn.val).resp = (s.mbxAt rq.fn.val).resp
      ∧ (∀ g, g ≠ rq.fn.val → (accept rq code s).mbxAt g = s.mbxAt g) ∧ ChangesOnly [.mbx, .pmon] s (accept rq code s))
  ∧ (∀ fn st flags p s, ((respond fn st flags p s).mbxAt fn).busy = false ∧ ((respond fn st flags p s).mbxAt fn).respValid = true
      ∧ ((respond fn st flags p s).mbxAt fn).resp
          = respBytes (s.mbxAt fn).reqOp.toNat (statusCode st) flags (s.mbxAt fn).reqSeq p
      ∧ (∀ g, g ≠ fn → (respond fn st flags p s).mbxAt g = s.mbxAt g) ∧ ChangesOnly protocolParts s (respond fn st flags p s))
  ∧ (∀ fn st flags p s, (s.mbxAt fn).reqNotify = false → ((respond fn st flags p s).mbxAt fn).evtProd = (s.mbxAt fn).evtProd)
  ∧ (∀ fn st flags p s, (s.mbxAt fn).reqNotify = true → (s.mbxAt fn).lostSince = 0 →
      (s.mbxAt fn).evtProd - (s.mbxAt fn).evtCons < 64 →
      ((respond fn st flags p s).mbxAt fn).evtProd = (s.mbxAt fn).evtProd + 1
      ∧ Tab.look {} ((respond fn st flags p s).mbxAt fn).ring ((s.mbxAt fn).evtProd.toNat % 64)
          = { code := 0x0101, eseq := (s.mbxAt fn).eseq, stamp := s.stamp,
              detail := leBytes 4 (s.mbxAt fn).reqSeq.toNat ++ [BitVec.ofNat 8 (statusCode st)] })

/-- A setting of the guard that arrives while a VOUT_COMMAND is in flight is held, changes nothing else, and is what the next read of the sentinels
takes first (03_self_timed_core.md R89). -/
def Obligations.WaitingGuardSettingsTakeEffectAtTheNextRead : Prop :=
  (∀ rq, Completes (.powerGuardConfig rq) (cmdH 0x1120 12) rq
      (fun u => u.guard.inFlight = true ∧ CfgSound ⟨rq.u8 0 == 1, BitVec.ofNat 8 (rq.u8 1), BitVec.ofNat 16 (rq.u16 2),
          BitVec.ofNat 16 (rq.u16 4), BitVec.ofNat 8 (rq.u8 6), BitVec.ofNat 8 (rq.u8 7)⟩
        ∧ rq.u8 0 ≤ 1 ∧ rq.u8 1 % 5 = 0 ∧ 5 ≤ rq.u8 1 ∧ rq.u8 1 ≤ 25 ∧ rq.u16 2 % 5 = 0)
      (fun _ => [])
      (fun u => { u with guard := { u.guard with
        pendCfg := some ⟨rq.u8 0 == 1, BitVec.ofNat 8 (rq.u8 1), BitVec.ofNat 16 (rq.u16 2), BitVec.ofNat 16 (rq.u16 4),
          BitVec.ofNat 8 (rq.u8 6), BitVec.ofNat 8 (rq.u8 7)⟩ } }))
  ∧ (∀ rq, Completes (.powerSetCap rq) (cmdH 0x1123 4) rq
      (fun u => u.guard.inFlight = true ∧ (rq.u16 0 = 0 ∨ 30 ≤ rq.u16 0 ∧ rq.u16 0 ≤ 250) ∧ rq.u8 2 ≤ 1) (fun _ => [])
      (fun u => { u with guard := { u.guard with pendCap := some (BitVec.ofNat 16 (rq.u16 0), rq.u8 2 == 1) } }))
  ∧ (∀ preds c w s, s.guard.running = true → s.guard.pendCfg = some c → s.guard.pendCap = some w →
      exec (.sentinelRead preds) s
        = exec (.sentinelRead preds) (applyCap w.1 w.2 (applyCfg c { s with guard := { s.guard with pendCfg := none, pendCap := none } })))
  ∧ (∀ preds c s, s.guard.running = true → s.guard.pendCfg = some c → s.guard.pendCap = none →
      exec (.sentinelRead preds) s
        = exec (.sentinelRead preds) (applyCfg c { s with guard := { s.guard with pendCfg := none, pendCap := none } }))
  ∧ (∀ preds w s, s.guard.running = true → s.guard.pendCfg = none → s.guard.pendCap = some w →
      exec (.sentinelRead preds) s
        = exec (.sentinelRead preds) (applyCap w.1 w.2 { s with guard := { s.guard with pendCfg := none, pendCap := none } }))

/-- What PORST_N and a chip reset leave of the test block and of the strainer (23_test.md R491, 06_strainer.md R159): every PGC stopped, with no
loopback and its counters at 0, and TEST_LOCK as it is fused; all four strainer units in service with empty automata, every quota, RSIZE and
SCAN_LEN 0, NOMATCH DENY, HANDLE_AGE 100 us, no context live and every counter 0. -/
def Obligations.ResetsStopTheTestBlockAndEmptyTheStrainer : Prop :=
  ∀ i s, i = .porstN ∨ i = .chipReset → ∃ t, exec i s = .next t
    ∧ (∀ l, (t.laneAt l).active = false ∧ (t.laneAt l).loop = 0 ∧ (t.laneAt l).bits = 0 ∧ (t.laneAt l).errors = 0
        ∧ (t.laneAt l).lockLoss = 0)
    ∧ t.fuse.testLock = s.fuse.testLock
    ∧ t.strn.units = 0xF
    ∧ (∀ b, (t.strnB b).image = [] ∧ (t.strnB b).patterns = 0 ∧ (t.strnB b).pquota = 0 ∧ (t.strnB b).squota = 0 ∧ (t.strnB b).rsize = 0
        ∧ (t.strnB b).scanLen = 0 ∧ (t.strnB b).onNoMatch = 1 ∧ (t.strnB b).handleAge = 100 ∧ (t.strnB b).hit = 0
        ∧ (t.strnB b).nomatchCnt = 0)
    ∧ (∀ k, (Tab.look {} t.strn.ctx k).live = false)
    ∧ t.strn.lookups = 0 ∧ t.strn.multi = 0 ∧ t.strn.moveSteps = 0 ∧ t.strn.handleFull = 0 ∧ t.strn.eccCorr = 0 ∧ t.strn.eccUncorr = 0
end

