-- ==== Sys2Proof/Laws/Tab.lean ====
section
/-! SUPPORT. Reading after writing in an indexed set, and the canonical form that every write keeps. -/

namespace Sys2Proof

variable {α : Type}

/-- What a removed index reads as. -/
theorem Tab.look_del (d : α) (t : Tab α) (k j : Nat) : Tab.look d (Tab.del t k) j = if j = k then d else Tab.look d t j := by
  induction t with
  | nil => simp [Tab.del, Tab.look]
  | cons e t ih =>
    obtain ⟨i, v⟩ := e
    by_cases h : i = k
    · subst h
      simp only [Tab.del, if_true, ih, Tab.look]
      by_cases hj : j = i
      · simp [hj]
      · simp [hj, Ne.symm hj]
    · simp only [Tab.del, h, if_false, Tab.look, ih]
      by_cases hj : i = j
      · subst hj
        simp [h]
      · simp [hj]

/-- What an inserted index reads as, where it is new. -/
theorem Tab.look_ins (d : α) (t : Tab α) (k j : Nat) (v : α) (new : ∀ e ∈ t, e.1 ≠ k) :
    Tab.look d (Tab.ins t k v) j = if j = k then v else Tab.look d t j := by
  induction t with
  | nil =>
    simp only [Tab.ins, Tab.look, eq_comm]
  | cons e t ih =>
    obtain ⟨i, w⟩ := e
    have hi : i ≠ k := new (i, w) List.mem_cons_self
    by_cases h : k < i
    · simp only [Tab.ins, h, if_true, Tab.look, eq_comm]
    · simp only [Tab.ins, h, if_false, Tab.look, ih (fun e he => new e (List.mem_cons_of_mem _ he))]
      by_cases hj : i = j
      · subst hj
        simp [hi]
      · simp [hj]

/-- A removed index is in no entry. -/
theorem Tab.del_new (t : Tab α) (k : Nat) : ∀ e ∈ Tab.del t k, e.1 ≠ k := by
  induction t with
  | nil => simp [Tab.del]
  | cons e t ih =>
    obtain ⟨i, w⟩ := e
    by_cases h : i = k
    · simpa [Tab.del, h] using ih
    · simp only [Tab.del, h, if_false, List.mem_cons]
      rintro e (rfl | he)
      · exact h
      · exact ih e he

/-- Reading after writing one value: the value at its index, what was there elsewhere. -/
theorem Tab.look_put [DecidableEq α] (d : α) (t : Tab α) (k j : Nat) (v : α) :
    Tab.look d (Tab.put d t k v) j = if j = k then v else Tab.look d t j := by
  unfold Tab.put
  split
  · next h => rw [Tab.look_del, h]
  · rw [Tab.look_ins _ _ _ _ _ (Tab.del_new t k), Tab.look_del]
    by_cases h : j = k <;> simp [h]

/-- Removing twice. -/
theorem Tab.del_del (t : Tab α) (k : Nat) : Tab.del (Tab.del t k) k = Tab.del t k := by
  induction t with
  | nil => rfl
  | cons e t ih =>
    obtain ⟨i, w⟩ := e
    by_cases h : i = k <;> simp [Tab.del, h, ih]

/-- Removing what was inserted. -/
theorem Tab.del_ins (t : Tab α) (k : Nat) (v : α) : Tab.del (Tab.ins t k v) k = Tab.del t k := by
  induction t with
  | nil => simp [Tab.ins, Tab.del]
  | cons e t ih =>
    obtain ⟨i, w⟩ := e
    by_cases h : k < i
    · simp [Tab.ins, Tab.del, h]
    · by_cases hi : i = k <;> simp [Tab.ins, Tab.del, h, hi, ih]

/-- Of two writes to an index the second stands. -/
@[simp] theorem Tab.put_put [DecidableEq α] (d : α) (t : Tab α) (k : Nat) (v w : α) :
    Tab.put d (Tab.put d t k v) k w = Tab.put d t k w := by
  have h : Tab.del (Tab.put d t k v) k = Tab.del t k := by
    unfold Tab.put
    split
    · exact Tab.del_del t k
    · rw [Tab.del_ins, Tab.del_del]
  generalize Tab.put d t k v = u at h ⊢
  unfold Tab.put
  rw [h]

/-- Reading the index just written. -/
@[simp] theorem Tab.look_put_self [DecidableEq α] (d : α) (t : Tab α) (k : Nat) (v : α) : Tab.look d (Tab.put d t k v) k = v := by
  simp [Tab.look_put]

/-- Reading any other index. -/
theorem Tab.look_put_ne [DecidableEq α] (d : α) (t : Tab α) (k j : Nat) (v : α) (h : j ≠ k) :
    Tab.look d (Tab.put d t k v) j = Tab.look d t j := by
  simp [Tab.look_put, h]

/-- Reading after changing one value. -/
theorem Tab.look_upd [DecidableEq α] (d : α) (t : Tab α) (k j : Nat) (f : α → α) :
    Tab.look d (Tab.upd d t k f) j = if j = k then f (Tab.look d t k) else Tab.look d t j := by
  rw [Tab.upd, Tab.look_put]

/-- Reading after writing a run of values: the run in its span, what was there elsewhere. -/
theorem Tab.look_putAll [DecidableEq α] (d : α) (vs : List α) (t : Tab α) (k j : Nat) :
    Tab.look d (Tab.putAll d t k vs) j = if k ≤ j ∧ j < k + vs.length then vs.getD (j - k) d else Tab.look d t j := by
  induction vs generalizing t k with
  | nil =>
    have h : ¬ (k ≤ j ∧ j < k + ([] : List α).length) := by simp
    rw [if_neg h]
    rfl
  | cons v vs ih =>
    rw [Tab.putAll, ih, Tab.look_put]
    by_cases h : j = k
    · subst h
      have h1 : ¬ (j + 1 ≤ j ∧ j < j + 1 + vs.length) := by omega
      have h2 : j ≤ j ∧ j < j + (v :: vs).length := by simp
      rw [if_neg h1, if_pos h2, if_pos rfl, Nat.sub_self, List.getD_cons_zero]
    · by_cases h2 : k + 1 ≤ j ∧ j < k + 1 + vs.length
      · have h3 : k ≤ j ∧ j < k + (v :: vs).length := by simp; omega
        rw [if_pos h2, if_pos h3]
        obtain ⟨n, hn⟩ : ∃ n, j - k = n + 1 := ⟨j - k - 1, by omega⟩
        rw [hn, List.getD_cons_succ]
        congr 1
        omega
      · have h3 : ¬ (k ≤ j ∧ j < k + (v :: vs).length) := by simp; omega
        rw [if_neg h2, if_neg h3, if_neg h]

/-! ### The canonical form -/

/-- The canonical form, as bounds on a head and a tail. -/
theorem Tab.wf_cons [DecidableEq α] (d : α) (i : Nat) (v : α) (t : Tab α) :
    Tab.wf d ((i, v) :: t) = true ↔ v ≠ d ∧ (∀ e ∈ t, i < e.1) ∧ Tab.wf d t = true := by
  induction t generalizing i v with
  | nil => simp [Tab.wf]
  | cons e t ih =>
    obtain ⟨j, w⟩ := e
    simp only [Tab.wf, Bool.and_eq_true, decide_eq_true_eq, List.mem_cons, forall_eq_or_imp]
    constructor
    · rintro ⟨⟨h1, h2⟩, h3⟩
      exact ⟨h2, ⟨h1, fun e he => Nat.lt_trans h1 (((ih j w).1 h3).2.1 e he)⟩, h3⟩
    · rintro ⟨h2, ⟨h1, -⟩, h3⟩
      exact ⟨⟨h1, h2⟩, h3⟩

/-- Entries of a set after a removal stood in it. -/
theorem Tab.mem_del (t : Tab α) (k : Nat) : ∀ e ∈ Tab.del t k, e ∈ t := by
  induction t with
  | nil => simp [Tab.del]
  | cons e t ih =>
    obtain ⟨i, w⟩ := e
    by_cases h : i = k
    · simp only [Tab.del, h, if_true]
      exact fun e he => List.mem_cons_of_mem _ (ih e he)
    · simp only [Tab.del, h, if_false, List.mem_cons]
      rintro e (rfl | he)
      · exact .inl rfl
      · exact .inr (ih e he)

/-- Entries of a set after an insertion stood in it or are the new one. -/
theorem Tab.mem_ins (t : Tab α) (k : Nat) (v : α) : ∀ e ∈ Tab.ins t k v, e = (k, v) ∨ e ∈ t := by
  induction t with
  | nil => simp [Tab.ins]
  | cons e t ih =>
    obtain ⟨i, w⟩ := e
    by_cases h : k < i
    · simp [Tab.ins, h]
    · simp only [Tab.ins, h, if_false, List.mem_cons]
      rintro e (rfl | he)
      · exact .inr (.inl rfl)
      · exact (ih e he).imp id .inr

/-- A removal keeps the canonical form. -/
theorem Tab.wf_del [DecidableEq α] (d : α) (t : Tab α) (k : Nat) (h : Tab.wf d t = true) : Tab.wf d (Tab.del t k) = true := by
  induction t with
  | nil => rfl
  | cons e t ih =>
    obtain ⟨i, v⟩ := e
    obtain ⟨h1, h2, h3⟩ := (Tab.wf_cons d i v t).1 h
    by_cases hk : i = k
    · simpa [Tab.del, hk] using ih h3
    · simp only [Tab.del, hk, if_false]
      exact (Tab.wf_cons ..).2 ⟨h1, fun e he => h2 e (Tab.mem_del t k e he), ih h3⟩

/-- An insertion of a new index keeps the canonical form. -/
theorem Tab.wf_ins [DecidableEq α] (d : α) (t : Tab α) (k : Nat) (v : α) (hv : v ≠ d) (new : ∀ e ∈ t, e.1 ≠ k) (h : Tab.wf d t = true) :
    Tab.wf d (Tab.ins t k v) = true := by
  induction t with
  | nil => simpa [Tab.ins, Tab.wf] using hv
  | cons e t ih =>
    obtain ⟨i, w⟩ := e
    obtain ⟨h1, h2, h3⟩ := (Tab.wf_cons d i w t).1 h
    have hi : i ≠ k := new (i, w) List.mem_cons_self
    by_cases hk : k < i
    · simp only [Tab.ins, hk, if_true]
      refine (Tab.wf_cons ..).2 ⟨hv, ?_, h⟩
      intro e he
      rcases List.mem_cons.1 he with rfl | he
      · exact hk
      · exact Nat.lt_trans hk (h2 e he)
    · simp only [Tab.ins, hk, if_false]
      refine (Tab.wf_cons ..).2 ⟨h1, ?_, ih (fun e he => new e (List.mem_cons_of_mem _ he)) h3⟩
      intro e he
      rcases Tab.mem_ins t k v e he with rfl | he
      · show i < k
        omega
      · exact h2 e he

/-- A write keeps the canonical form. -/
theorem Tab.wf_put [DecidableEq α] (d : α) (t : Tab α) (k : Nat) (v : α) (h : Tab.wf d t = true) : Tab.wf d (Tab.put d t k v) = true := by
  unfold Tab.put
  split
  · exact Tab.wf_del d t k h
  · next hv => exact Tab.wf_ins d _ k v hv (Tab.del_new t k) (Tab.wf_del d t k h)

/-- A change keeps the canonical form. -/
theorem Tab.wf_upd [DecidableEq α] (d : α) (t : Tab α) (k : Nat) (f : α → α) (h : Tab.wf d t = true) : Tab.wf d (Tab.upd d t k f) = true :=
  Tab.wf_put d t k _ h

/-- A run of writes keeps the canonical form. -/
theorem Tab.wf_putAll [DecidableEq α] (d : α) (vs : List α) (t : Tab α) (k : Nat) (h : Tab.wf d t = true) :
    Tab.wf d (Tab.putAll d t k vs) = true := by
  induction vs generalizing t k with
  | nil => exact h
  | cons v vs ih => exact ih _ _ (Tab.wf_put d t k v h)

/-- Keeping some entries keeps the canonical form. -/
theorem Tab.wf_keep [DecidableEq α] (d : α) (p : Nat → α → Bool) (t : Tab α) (h : Tab.wf d t = true) : Tab.wf d (Tab.keep p t) = true := by
  unfold Tab.keep
  induction t with
  | nil => rfl
  | cons e t ih =>
    obtain ⟨i, v⟩ := e
    obtain ⟨h1, h2, h3⟩ := (Tab.wf_cons d i v t).1 h
    rw [List.filter_cons]
    split
    · exact (Tab.wf_cons ..).2 ⟨h1, fun e he => h2 e (List.mem_filter.1 he).1, ih h3⟩
    · exact ih h3

end Sys2Proof
end

