-- ==== Sys2Proof/Laws/Access.lean ====
section
/-! SUPPORT. Reading back what was written: each register file read at one index after a write of another. -/

namespace Sys2Proof.Machine

/-- Reading Mbx j after writing Mbx i. -/
theorem mbxAt_setMbx (s : State) (i : Nat) (v : Mbx) (j : Nat) : (s.setMbx i v).mbxAt j = if j = i then v else s.mbxAt j := by
  simp only [State.setMbx, State.mbxAt, Tab.look_put]

/-- Reading Port j after writing Port i. -/
theorem portAt_setPort (s : State) (i : Nat) (v : Port) (j : Nat) : (s.setPort i v).portAt j = if j = i then v else s.portAt j := by
  simp only [State.setPort, State.portAt, Tab.look_put]

/-- Reading Quad j after writing Quad i. -/
theorem quadAt_setQuad (s : State) (i : Nat) (v : Quad) (j : Nat) : (s.setQuad i v).quadAt j = if j = i then v else s.quadAt j := by
  simp only [State.setQuad, State.quadAt, Tab.look_put]

/-- Reading Xl j after writing Xl i. -/
theorem xlAt_setXl (s : State) (i : Nat) (v : Xl) (j : Nat) : (s.setXl i v).xlAt j = if j = i then v else s.xlAt j := by
  simp only [State.setXl, State.xlAt, Tab.look_put]

/-- Reading Ddr j after writing Ddr i. -/
theorem ddrAt_setDdr (s : State) (i : Nat) (v : Ddr) (j : Nat) : (s.setDdr i v).ddrAt j = if j = i then v else s.ddrAt j := by
  simp only [State.setDdr, State.ddrAt, Tab.look_put]

/-- Reading Lane j after writing Lane i. -/
theorem laneAt_setLane (s : State) (i : Nat) (v : Lane) (j : Nat) : (s.setLane i v).laneAt j = if j = i then v else s.laneAt j := by
  simp only [State.setLane, State.laneAt, Tab.look_put]

/-- Reading Frame j after writing Frame i. -/
theorem frameAt_setFrame (s : State) (i : Nat) (v : Frame) (j : Nat) : (s.setFrame i v).frameAt j = if j = i then v else s.frameAt j := by
  simp only [State.setFrame, State.frameAt, Tab.look_put]

/-- Reading Berth j after writing Berth i. -/
theorem berthAt_setBerth (s : State) (i : Nat) (v : Berth) (j : Nat) : (s.setBerth i v).berthAt j = if j = i then v else s.berthAt j := by
  simp only [State.setBerth, State.berthAt, Tab.look_put]

/-- Reading Chain j after writing Chain i. -/
theorem chainAt_setChain (s : State) (i : Nat) (v : Chain) (j : Nat) : (s.setChain i v).chainAt j = if j = i then v else s.chainAt j := by
  simp only [State.setChain, State.chainAt, Tab.look_put]

/-- Reading I2cBus j after writing I2cBus i. -/
theorem busAt_setBus (s : State) (i : Nat) (v : I2cBus) (j : Nat) : (s.setBus i v).busAt j = if j = i then v else s.busAt j := by
  simp only [State.setBus, State.busAt, onPh, Tab.look_put]

/-- Reading PtpInst j after writing PtpInst i. -/
theorem ptpAt_setPtp (s : State) (i : Nat) (v : PtpInst) (j : Nat) : (s.setPtp i v).ptpAt j = if j = i then v else s.ptpAt j := by
  simp only [State.setPtp, State.ptpAt, Tab.look_put]

/-- Reading Port j after changing Port i. -/
theorem portAt_onPort (i : Nat) (g : Port → Port) (s : State) (j : Nat) : (onPort i g s).portAt j = if j = i then g (s.portAt i) else s.portAt j :=
  portAt_setPort s i _ j

/-- Reading Quad j after changing Quad i. -/
theorem quadAt_onQuad (i : Nat) (g : Quad → Quad) (s : State) (j : Nat) : (onQuad i g s).quadAt j = if j = i then g (s.quadAt i) else s.quadAt j :=
  quadAt_setQuad s i _ j

/-- Reading Xl j after changing Xl i. -/
theorem xlAt_onXl (i : Nat) (g : Xl → Xl) (s : State) (j : Nat) : (onXl i g s).xlAt j = if j = i then g (s.xlAt i) else s.xlAt j :=
  xlAt_setXl s i _ j

/-- Reading Ddr j after changing Ddr i. -/
theorem ddrAt_onDdr (i : Nat) (g : Ddr → Ddr) (s : State) (j : Nat) : (onDdr i g s).ddrAt j = if j = i then g (s.ddrAt i) else s.ddrAt j :=
  ddrAt_setDdr s i _ j

/-- Reading Frame j after changing Frame i. -/
theorem frameAt_onFrame (i : Nat) (g : Frame → Frame) (s : State) (j : Nat) : (onFrame i g s).frameAt j = if j = i then g (s.frameAt i) else s.frameAt j :=
  frameAt_setFrame s i _ j

/-- Reading Berth j after changing Berth i. -/
theorem berthAt_onBerth (i : Nat) (g : Berth → Berth) (s : State) (j : Nat) : (onBerth i g s).berthAt j = if j = i then g (s.berthAt i) else s.berthAt j :=
  berthAt_setBerth s i _ j

/-- Reading Chain j after changing Chain i. -/
theorem chainAt_onChain (i : Nat) (g : Chain → Chain) (s : State) (j : Nat) : (onChain i g s).chainAt j = if j = i then g (s.chainAt i) else s.chainAt j :=
  chainAt_setChain s i _ j

/-- Reading Engine j after changing Engine i. -/
theorem engineAt_onEngine (i : Nat) (g : Engine → Engine) (s : State) (j : Nat) : (onEngine i g s).engineAt j = if j = i then g (s.engineAt i) else s.engineAt j := by
  simp only [onEngine, onPump, State.engineAt, Tab.look_upd]

/-- Reading Cq j after changing Cq i. -/
theorem cqAt_onCq (i : Nat) (g : Cq → Cq) (s : State) (j : Nat) : (onCq i g s).cqAt j = if j = i then g (s.cqAt i) else s.cqAt j := by
  simp only [onCq, onRdma, State.cqAt, Tab.look_upd]

/-- Reading Qp j after changing Qp i. -/
theorem qpAt_onQp (i : Nat) (g : Qp → Qp) (s : State) (j : Nat) : (onQp i g s).qpAt j = if j = i then g (s.qpAt i) else s.qpAt j := by
  simp only [onQp, onRdma, State.qpAt, Tab.look_upd]

/-- Reading Queue j after changing Queue i. -/
theorem queueAt_onQueue (i : Nat) (g : Queue → Queue) (s : State) (j : Nat) : (onQueue i g s).queueAt j = if j = i then g (s.queueAt i) else s.queueAt j := by
  simp only [onQueue, onRsv, State.queueAt, Tab.look_upd]

/-- Reading Egress j after changing Egress i. -/
theorem egressAt_onEgress (i : Nat) (g : Egress → Egress) (s : State) (j : Nat) : (onEgress i g s).egressAt j = if j = i then g (s.egressAt i) else s.egressAt j := by
  simp only [onEgress, onRsv, State.egressAt, Tab.look_upd]

/-- Reading ColOp j after changing ColOp i. -/
theorem opAt_onOp (i : Nat) (g : ColOp → ColOp) (s : State) (j : Nat) : (onOp i g s).opAt j = if j = i then g (s.opAt i) else s.opAt j := by
  simp only [onOp, onShtl, State.opAt, Tab.look_upd]

/-- Reading StrnB j after changing StrnB i. -/
theorem strnB_onStrnB (i : Nat) (g : StrnB → StrnB) (s : State) (j : Nat) : (onStrnB i g s).strnB j = if j = i then g (s.strnB i) else s.strnB j := by
  simp only [onStrnB, onStrn, State.strnB, Tab.look_upd]

/-- Reading Prot j after changing Prot i. -/
theorem protAt_onProt (i : Nat) (g : Prot → Prot) (s : State) (j : Nat) : (onProt i g s).protAt j = if j = i then g (s.protAt i) else s.protAt j := by
  simp only [onProt, onFwd, State.protAt, Tab.look_upd]

/-- Reading Lane j after changing Lane i. -/
theorem laneAt_onLane (i : Nat) (g : Lane → Lane) (s : State) (j : Nat) : (onLane i g s).laneAt j = if j = i then g (s.laneAt i) else s.laneAt j := by
  simp only [onLane, State.laneAt, Tab.look_upd]

/-- Reading the ring that was changed. -/
theorem rxAt_onRx (b r : Nat) (g : RxRing → RxRing) (s : State) : (onRx b r g s).rxAt b r = g (s.rxAt b r) := by
  simp only [onRx, State.rxAt, Tab.look_upd, if_true]

/-- Reading the ring that was changed. -/
theorem txAt_onTx (b r : Nat) (g : TxRing → TxRing) (s : State) : (onTx b r g s).txAt b r = g (s.txAt b r) := by
  simp only [onTx, State.txAt, Tab.look_upd, if_true]

end Sys2Proof.Machine
end

