-- ==== Sys2Proof/Laws/Frame.lean ====
section
/-! SUPPORT. Footprints: which parts of the state an operation may change. A footprint is a mask, bit i for the part that stands at place i
of the record; two states agree outside a mask when their views are equal. -/

namespace Sys2Proof.Machine

/-- The state with the parts of a mask blanked. -/
def State.view (s : State) (M : Nat) : State :=
  {
    glb := bif M.testBit 0 then {} else s.glb,
    tide := bif M.testBit 1 then {} else s.tide,
    guard := bif M.testBit 2 then {} else s.guard,
    port := bif M.testBit 3 then [] else s.port,
    quad := bif M.testBit 4 then [] else s.quad,
    frames := bif M.testBit 5 then [] else s.frames,
    nextFrame := bif M.testBit 6 then 0 else s.nextFrame,
    pump := bif M.testBit 7 then {} else s.pump,
    strn := bif M.testBit 8 then {} else s.strn,
    fwd := bif M.testBit 9 then {} else s.fwd,
    rsv := bif M.testBit 10 then {} else s.rsv,
    weir := bif M.testBit 11 then {} else s.weir,
    xl := bif M.testBit 12 then [] else s.xl,
    fab := bif M.testBit 13 then {} else s.fab,
    shtl := bif M.testBit 14 then {} else s.shtl,
    rdma := bif M.testBit 15 then {} else s.rdma,
    ledg := bif M.testBit 16 then {} else s.ledg,
    cist := bif M.testBit 17 then {} else s.cist,
    ddr := bif M.testBit 18 then [] else s.ddr,
    ph := bif M.testBit 19 then {} else s.ph,
    mbx := bif M.testBit 20 then [] else s.mbx,
    msix := bif M.testBit 21 then [] else s.msix,
    fuse := bif M.testBit 22 then {} else s.fuse,
    host := bif M.testBit 23 then {} else s.host,
    sump := bif M.testBit 24 then {} else s.sump,
    pwr := bif M.testBit 25 then {} else s.pwr,
    pmon := bif M.testBit 26 then {} else s.pmon,
    trace := bif M.testBit 27 then {} else s.trace,
    lane := bif M.testBit 28 then [] else s.lane,
    tap := bif M.testBit 29 then {} else s.tap,
    therm := bif M.testBit 30 then {} else s.therm,
    latch := bif M.testBit 31 then [] else s.latch,
    pcieDown := bif M.testBit 32 then false else s.pcieDown,
    vfEnable := bif M.testBit 33 then false else s.vfEnable,
    out := bif M.testBit 34 then [] else s.out,
    free := bif M.testBit 35 then 0 else s.free,
    pending := bif M.testBit 36 then [] else s.pending }

/-- A wider mask sees less. -/
theorem State.view_view (s : State) {m M : Nat} (h : m ||| M = M) : (s.view m).view M = s.view M := by
  have hb : ∀ i, m.testBit i = true → M.testBit i = true := by
    intro i hi
    have e : (m ||| M).testBit i = M.testBit i := by rw [h]
    simpa [Nat.testBit_or, hi] using e.symm
  have key : ∀ {α : Type} (i : Nat) (d x : α), (bif M.testBit i then d else (bif m.testBit i then d else x)) = bif M.testBit i then d else x := by
    intro α i d x
    cases hm : m.testBit i
    · rfl
    · rw [hb i hm]
      rfl
  simp only [State.view, key]

/-- What agrees outside a mask agrees outside a wider one. -/
theorem view_le {s t : State} {m M : Nat} (h : m ||| M = M) (e : t.view m = s.view m) : t.view M = s.view M := by
  rw [← State.view_view t h, e, State.view_view s h]

/-- Masks are ordered. -/
theorem mask_le {a m M : Nat} (h : a ||| m = m) (hM : m ||| M = M) : a ||| M = M := by
  rw [← hM, ← Nat.or_assoc, h]

/-- The view of a choice. -/
theorem view_ite {M : Nat} {c : Prop} [Decidable c] {a b : State} :
    (if c then a else b).view M = if c then a.view M else b.view M := by
  split <;> rfl

/-- Steps over a list keep what each of them keeps. -/
theorem foldl_view {α : Type} {M : Nat} {g : State → α → State} (h : ∀ s a, (g s a).view M = s.view M) (l : List α) (s : State) :
    (l.foldl g s).view M = s.view M := by
  induction l generalizing s with
  | nil => rfl
  | cons a l ih => rw [List.foldl_cons, ih, h]

/-- Writing `glb` stays within its bit. -/
theorem view_glb {M : Nat} (h : 1 ||| M = M) (s : State) (x) : { s with glb := x }.view M = s.view M := by
  refine view_le h ?_
  rfl

/-- Writing `tide` stays within its bit. -/
theorem view_tide {M : Nat} (h : 2 ||| M = M) (s : State) (x) : { s with tide := x }.view M = s.view M := by
  refine view_le h ?_
  rfl

/-- Writing `guard` stays within its bit. -/
theorem view_guard {M : Nat} (h : 4 ||| M = M) (s : State) (x) : { s with guard := x }.view M = s.view M := by
  refine view_le h ?_
  rfl

/-- Writing `port` stays within its bit. -/
theorem view_port {M : Nat} (h : 8 ||| M = M) (s : State) (x) : { s with port := x }.view M = s.view M := by
  refine view_le h ?_
  rfl

/-- Writing `quad` stays within its bit. -/
theorem view_quad {M : Nat} (h : 16 ||| M = M) (s : State) (x) : { s with quad := x }.view M = s.view M := by
  refine view_le h ?_
  rfl

/-- Writing `frames` stays within its bit. -/
theorem view_frames {M : Nat} (h : 32 ||| M = M) (s : State) (x) : { s with frames := x }.view M = s.view M := by
  refine view_le h ?_
  rfl

/-- Writing `nextFrame` stays within its bit. -/
theorem view_nextFrame {M : Nat} (h : 64 ||| M = M) (s : State) (x) : { s with nextFrame := x }.view M = s.view M := by
  refine view_le h ?_
  rfl

/-- Writing `pump` stays within its bit. -/
theorem view_pump {M : Nat} (h : 128 ||| M = M) (s : State) (x) : { s with pump := x }.view M = s.view M := by
  refine view_le h ?_
  rfl

/-- Writing `strn` stays within its bit. -/
theorem view_strn {M : Nat} (h : 256 ||| M = M) (s : State) (x) : { s with strn := x }.view M = s.view M := by
  refine view_le h ?_
  rfl

/-- Writing `fwd` stays within its bit. -/
theorem view_fwd {M : Nat} (h : 512 ||| M = M) (s : State) (x) : { s with fwd := x }.view M = s.view M := by
  refine view_le h ?_
  rfl

/-- Writing `rsv` stays within its bit. -/
theorem view_rsv {M : Nat} (h : 1024 ||| M = M) (s : State) (x) : { s with rsv := x }.view M = s.view M := by
  refine view_le h ?_
  rfl

/-- Writing `weir` stays within its bit. -/
theorem view_weir {M : Nat} (h : 2048 ||| M = M) (s : State) (x) : { s with weir := x }.view M = s.view M := by
  refine view_le h ?_
  rfl

/-- Writing `xl` stays within its bit. -/
theorem view_xl {M : Nat} (h : 4096 ||| M = M) (s : State) (x) : { s with xl := x }.view M = s.view M := by
  refine view_le h ?_
  rfl

/-- Writing `fab` stays within its bit. -/
theorem view_fab {M : Nat} (h : 8192 ||| M = M) (s : State) (x) : { s with fab := x }.view M = s.view M := by
  refine view_le h ?_
  rfl

/-- Writing `shtl` stays within its bit. -/
theorem view_shtl {M : Nat} (h : 16384 ||| M = M) (s : State) (x) : { s with shtl := x }.view M = s.view M := by
  refine view_le h ?_
  rfl

/-- Writing `rdma` stays within its bit. -/
theorem view_rdma {M : Nat} (h : 32768 ||| M = M) (s : State) (x) : { s with rdma := x }.view M = s.view M := by
  refine view_le h ?_
  rfl

/-- Writing `ledg` stays within its bit. -/
theorem view_ledg {M : Nat} (h : 65536 ||| M = M) (s : State) (x) : { s with ledg := x }.view M = s.view M := by
  refine view_le h ?_
  rfl

/-- Writing `cist` stays within its bit. -/
theorem view_cist {M : Nat} (h : 131072 ||| M = M) (s : State) (x) : { s with cist := x }.view M = s.view M := by
  refine view_le h ?_
  rfl

/-- Writing `ddr` stays within its bit. -/
theorem view_ddr {M : Nat} (h : 262144 ||| M = M) (s : State) (x) : { s with ddr := x }.view M = s.view M := by
  refine view_le h ?_
  rfl

/-- Writing `ph` stays within its bit. -/
theorem view_ph {M : Nat} (h : 524288 ||| M = M) (s : State) (x) : { s with ph := x }.view M = s.view M := by
  refine view_le h ?_
  rfl

/-- Writing `mbx` stays within its bit. -/
theorem view_mbx {M : Nat} (h : 1048576 ||| M = M) (s : State) (x) : { s with mbx := x }.view M = s.view M := by
  refine view_le h ?_
  rfl

/-- Writing `msix` stays within its bit. -/
theorem view_msix {M : Nat} (h : 2097152 ||| M = M) (s : State) (x) : { s with msix := x }.view M = s.view M := by
  refine view_le h ?_
  rfl

/-- Writing `fuse` stays within its bit. -/
theorem view_fuse {M : Nat} (h : 4194304 ||| M = M) (s : State) (x) : { s with fuse := x }.view M = s.view M := by
  refine view_le h ?_
  rfl

/-- Writing `host` stays within its bit. -/
theorem view_host {M : Nat} (h : 8388608 ||| M = M) (s : State) (x) : { s with host := x }.view M = s.view M := by
  refine view_le h ?_
  rfl

/-- Writing `sump` stays within its bit. -/
theorem view_sump {M : Nat} (h : 16777216 ||| M = M) (s : State) (x) : { s with sump := x }.view M = s.view M := by
  refine view_le h ?_
  rfl

/-- Writing `pwr` stays within its bit. -/
theorem view_pwr {M : Nat} (h : 33554432 ||| M = M) (s : State) (x) : { s with pwr := x }.view M = s.view M := by
  refine view_le h ?_
  rfl

/-- Writing `pmon` stays within its bit. -/
theorem view_pmon {M : Nat} (h : 67108864 ||| M = M) (s : State) (x) : { s with pmon := x }.view M = s.view M := by
  refine view_le h ?_
  rfl

/-- Writing `trace` stays within its bit. -/
theorem view_trace {M : Nat} (h : 134217728 ||| M = M) (s : State) (x) : { s with trace := x }.view M = s.view M := by
  refine view_le h ?_
  rfl

/-- Writing `lane` stays within its bit. -/
theorem view_lane {M : Nat} (h : 268435456 ||| M = M) (s : State) (x) : { s with lane := x }.view M = s.view M := by
  refine view_le h ?_
  rfl

/-- Writing `tap` stays within its bit. -/
theorem view_tap {M : Nat} (h : 536870912 ||| M = M) (s : State) (x) : { s with tap := x }.view M = s.view M := by
  refine view_le h ?_
  rfl

/-- Writing `therm` stays within its bit. -/
theorem view_therm {M : Nat} (h : 1073741824 ||| M = M) (s : State) (x) : { s with therm := x }.view M = s.view M := by
  refine view_le h ?_
  rfl

/-- Writing `latch` stays within its bit. -/
theorem view_latch {M : Nat} (h : 2147483648 ||| M = M) (s : State) (x) : { s with latch := x }.view M = s.view M := by
  refine view_le h ?_
  rfl

/-- Writing `pcieDown` stays within its bit. -/
theorem view_pcieDown {M : Nat} (h : 4294967296 ||| M = M) (s : State) (x) : { s with pcieDown := x }.view M = s.view M := by
  refine view_le h ?_
  rfl

/-- Writing `vfEnable` stays within its bit. -/
theorem view_vfEnable {M : Nat} (h : 8589934592 ||| M = M) (s : State) (x) : { s with vfEnable := x }.view M = s.view M := by
  refine view_le h ?_
  rfl

/-- Writing `out` stays within its bit. -/
theorem view_out {M : Nat} (h : 17179869184 ||| M = M) (s : State) (x) : { s with out := x }.view M = s.view M := by
  refine view_le h ?_
  rfl

/-- Writing `free` stays within its bit. -/
theorem view_free {M : Nat} (h : 34359738368 ||| M = M) (s : State) (x) : { s with free := x }.view M = s.view M := by
  refine view_le h ?_
  rfl

/-- Writing `pending` stays within its bit. -/
theorem view_pending {M : Nat} (h : 68719476736 ||| M = M) (s : State) (x) : { s with pending := x }.view M = s.view M := by
  refine view_le h ?_
  rfl

/-- Outside its bit, `glb` is the same. -/
theorem same_glb {s t : State} {M : Nat} (h : t.view M = s.view M) (b : M.testBit 0 = false) : t.glb = s.glb := by
  have e := congrArg State.glb h
  simpa only [State.view, b, cond_false] using e

/-- Outside its bit, `tide` is the same. -/
theorem same_tide {s t : State} {M : Nat} (h : t.view M = s.view M) (b : M.testBit 1 = false) : t.tide = s.tide := by
  have e := congrArg State.tide h
  simpa only [State.view, b, cond_false] using e

/-- Outside its bit, `guard` is the same. -/
theorem same_guard {s t : State} {M : Nat} (h : t.view M = s.view M) (b : M.testBit 2 = false) : t.guard = s.guard := by
  have e := congrArg State.guard h
  simpa only [State.view, b, cond_false] using e

/-- Outside its bit, `port` is the same. -/
theorem same_port {s t : State} {M : Nat} (h : t.view M = s.view M) (b : M.testBit 3 = false) : t.port = s.port := by
  have e := congrArg State.port h
  simpa only [State.view, b, cond_false] using e

/-- Outside its bit, `quad` is the same. -/
theorem same_quad {s t : State} {M : Nat} (h : t.view M = s.view M) (b : M.testBit 4 = false) : t.quad = s.quad := by
  have e := congrArg State.quad h
  simpa only [State.view, b, cond_false] using e

/-- Outside its bit, `frames` is the same. -/
theorem same_frames {s t : State} {M : Nat} (h : t.view M = s.view M) (b : M.testBit 5 = false) : t.frames = s.frames := by
  have e := congrArg State.frames h
  simpa only [State.view, b, cond_false] using e

/-- Outside its bit, `nextFrame` is the same. -/
theorem same_nextFrame {s t : State} {M : Nat} (h : t.view M = s.view M) (b : M.testBit 6 = false) : t.nextFrame = s.nextFrame := by
  have e := congrArg State.nextFrame h
  simpa only [State.view, b, cond_false] using e

/-- Outside its bit, `pump` is the same. -/
theorem same_pump {s t : State} {M : Nat} (h : t.view M = s.view M) (b : M.testBit 7 = false) : t.pump = s.pump := by
  have e := congrArg State.pump h
  simpa only [State.view, b, cond_false] using e

/-- Outside its bit, `strn` is the same. -/
theorem same_strn {s t : State} {M : Nat} (h : t.view M = s.view M) (b : M.testBit 8 = false) : t.strn = s.strn := by
  have e := congrArg State.strn h
  simpa only [State.view, b, cond_false] using e

/-- Outside its bit, `fwd` is the same. -/
theorem same_fwd {s t : State} {M : Nat} (h : t.view M = s.view M) (b : M.testBit 9 = false) : t.fwd = s.fwd := by
  have e := congrArg State.fwd h
  simpa only [State.view, b, cond_false] using e

/-- Outside its bit, `rsv` is the same. -/
theorem same_rsv {s t : State} {M : Nat} (h : t.view M = s.view M) (b : M.testBit 10 = false) : t.rsv = s.rsv := by
  have e := congrArg State.rsv h
  simpa only [State.view, b, cond_false] using e

/-- Outside its bit, `weir` is the same. -/
theorem same_weir {s t : State} {M : Nat} (h : t.view M = s.view M) (b : M.testBit 11 = false) : t.weir = s.weir := by
  have e := congrArg State.weir h
  simpa only [State.view, b, cond_false] using e

/-- Outside its bit, `xl` is the same. -/
theorem same_xl {s t : State} {M : Nat} (h : t.view M = s.view M) (b : M.testBit 12 = false) : t.xl = s.xl := by
  have e := congrArg State.xl h
  simpa only [State.view, b, cond_false] using e

/-- Outside its bit, `fab` is the same. -/
theorem same_fab {s t : State} {M : Nat} (h : t.view M = s.view M) (b : M.testBit 13 = false) : t.fab = s.fab := by
  have e := congrArg State.fab h
  simpa only [State.view, b, cond_false] using e

/-- Outside its bit, `shtl` is the same. -/
theorem same_shtl {s t : State} {M : Nat} (h : t.view M = s.view M) (b : M.testBit 14 = false) : t.shtl = s.shtl := by
  have e := congrArg State.shtl h
  simpa only [State.view, b, cond_false] using e

/-- Outside its bit, `rdma` is the same. -/
theorem same_rdma {s t : State} {M : Nat} (h : t.view M = s.view M) (b : M.testBit 15 = false) : t.rdma = s.rdma := by
  have e := congrArg State.rdma h
  simpa only [State.view, b, cond_false] using e

/-- Outside its bit, `ledg` is the same. -/
theorem same_ledg {s t : State} {M : Nat} (h : t.view M = s.view M) (b : M.testBit 16 = false) : t.ledg = s.ledg := by
  have e := congrArg State.ledg h
  simpa only [State.view, b, cond_false] using e

/-- Outside its bit, `cist` is the same. -/
theorem same_cist {s t : State} {M : Nat} (h : t.view M = s.view M) (b : M.testBit 17 = false) : t.cist = s.cist := by
  have e := congrArg State.cist h
  simpa only [State.view, b, cond_false] using e

/-- Outside its bit, `ddr` is the same. -/
theorem same_ddr {s t : State} {M : Nat} (h : t.view M = s.view M) (b : M.testBit 18 = false) : t.ddr = s.ddr := by
  have e := congrArg State.ddr h
  simpa only [State.view, b, cond_false] using e

/-- Outside its bit, `ph` is the same. -/
theorem same_ph {s t : State} {M : Nat} (h : t.view M = s.view M) (b : M.testBit 19 = false) : t.ph = s.ph := by
  have e := congrArg State.ph h
  simpa only [State.view, b, cond_false] using e

/-- Outside its bit, `mbx` is the same. -/
theorem same_mbx {s t : State} {M : Nat} (h : t.view M = s.view M) (b : M.testBit 20 = false) : t.mbx = s.mbx := by
  have e := congrArg State.mbx h
  simpa only [State.view, b, cond_false] using e

/-- Outside its bit, `msix` is the same. -/
theorem same_msix {s t : State} {M : Nat} (h : t.view M = s.view M) (b : M.testBit 21 = false) : t.msix = s.msix := by
  have e := congrArg State.msix h
  simpa only [State.view, b, cond_false] using e

/-- Outside its bit, `fuse` is the same. -/
theorem same_fuse {s t : State} {M : Nat} (h : t.view M = s.view M) (b : M.testBit 22 = false) : t.fuse = s.fuse := by
  have e := congrArg State.fuse h
  simpa only [State.view, b, cond_false] using e

/-- Outside its bit, `host` is the same. -/
theorem same_host {s t : State} {M : Nat} (h : t.view M = s.view M) (b : M.testBit 23 = false) : t.host = s.host := by
  have e := congrArg State.host h
  simpa only [State.view, b, cond_false] using e

/-- Outside its bit, `sump` is the same. -/
theorem same_sump {s t : State} {M : Nat} (h : t.view M = s.view M) (b : M.testBit 24 = false) : t.sump = s.sump := by
  have e := congrArg State.sump h
  simpa only [State.view, b, cond_false] using e

/-- Outside its bit, `pwr` is the same. -/
theorem same_pwr {s t : State} {M : Nat} (h : t.view M = s.view M) (b : M.testBit 25 = false) : t.pwr = s.pwr := by
  have e := congrArg State.pwr h
  simpa only [State.view, b, cond_false] using e

/-- Outside its bit, `pmon` is the same. -/
theorem same_pmon {s t : State} {M : Nat} (h : t.view M = s.view M) (b : M.testBit 26 = false) : t.pmon = s.pmon := by
  have e := congrArg State.pmon h
  simpa only [State.view, b, cond_false] using e

/-- Outside its bit, `trace` is the same. -/
theorem same_trace {s t : State} {M : Nat} (h : t.view M = s.view M) (b : M.testBit 27 = false) : t.trace = s.trace := by
  have e := congrArg State.trace h
  simpa only [State.view, b, cond_false] using e

/-- Outside its bit, `lane` is the same. -/
theorem same_lane {s t : State} {M : Nat} (h : t.view M = s.view M) (b : M.testBit 28 = false) : t.lane = s.lane := by
  have e := congrArg State.lane h
  simpa only [State.view, b, cond_false] using e

/-- Outside its bit, `tap` is the same. -/
theorem same_tap {s t : State} {M : Nat} (h : t.view M = s.view M) (b : M.testBit 29 = false) : t.tap = s.tap := by
  have e := congrArg State.tap h
  simpa only [State.view, b, cond_false] using e

/-- Outside its bit, `therm` is the same. -/
theorem same_therm {s t : State} {M : Nat} (h : t.view M = s.view M) (b : M.testBit 30 = false) : t.therm = s.therm := by
  have e := congrArg State.therm h
  simpa only [State.view, b, cond_false] using e

/-- Outside its bit, `latch` is the same. -/
theorem same_latch {s t : State} {M : Nat} (h : t.view M = s.view M) (b : M.testBit 31 = false) : t.latch = s.latch := by
  have e := congrArg State.latch h
  simpa only [State.view, b, cond_false] using e

/-- Outside its bit, `pcieDown` is the same. -/
theorem same_pcieDown {s t : State} {M : Nat} (h : t.view M = s.view M) (b : M.testBit 32 = false) : t.pcieDown = s.pcieDown := by
  have e := congrArg State.pcieDown h
  simpa only [State.view, b, cond_false] using e

/-- Outside its bit, `vfEnable` is the same. -/
theorem same_vfEnable {s t : State} {M : Nat} (h : t.view M = s.view M) (b : M.testBit 33 = false) : t.vfEnable = s.vfEnable := by
  have e := congrArg State.vfEnable h
  simpa only [State.view, b, cond_false] using e

/-- Outside its bit, `out` is the same. -/
theorem same_out {s t : State} {M : Nat} (h : t.view M = s.view M) (b : M.testBit 34 = false) : t.out = s.out := by
  have e := congrArg State.out h
  simpa only [State.view, b, cond_false] using e

/-- Outside its bit, `free` is the same. -/
theorem same_free {s t : State} {M : Nat} (h : t.view M = s.view M) (b : M.testBit 35 = false) : t.free = s.free := by
  have e := congrArg State.free h
  simpa only [State.view, b, cond_false] using e

/-- Outside its bit, `pending` is the same. -/
theorem same_pending {s t : State} {M : Nat} (h : t.view M = s.view M) (b : M.testBit 36 = false) : t.pending = s.pending := by
  have e := congrArg State.pending h
  simpa only [State.view, b, cond_false] using e

/-- The state of a pair. -/
theorem fst_view {α : Type} {M : Nat} {p : State × α} {t : State} {b : α} (e : p = (t, b)) : t.view M = p.1.view M := by
  rw [e]

/-- An outcome's next state agrees with a state outside a mask. -/
structure Kept (M : Nat) (s : State) (o : Result) : Prop where
  /-- The next state, if there is one. -/
  agrees : ∀ t, o = .next t → t.view M = s.view M

/-- A reply's state agrees with a state outside a mask. -/
def Reply.Keeps (M : Nat) (s : State) : Reply → Prop
  | .ok t _ => t.view M = s.view M
  | .err _ => True
  | .failed t _ _ => t.view M = s.view M
  | .later t => t.view M = s.view M

/-- What is kept outside a mask is kept outside a wider one. -/
theorem Kept.le {s : State} {m M : Nat} {o : Result} (h : m ||| M = M) (e : Kept m s o) : Kept M s o :=
  ⟨fun t ht => view_le h (e.agrees t ht)⟩

/-- The same of a reply. -/
theorem Reply.Keeps.le {s : State} {m M : Nat} {r : Reply} (h : m ||| M = M) (e : r.Keeps m s) : r.Keeps M s := by
  cases r with
  | ok t _ => exact view_le h e
  | err _ => trivial
  | failed t _ _ => exact view_le h e
  | later t => exact view_le h e

/-- A next state. -/
theorem kept_next {M : Nat} {s t : State} : Kept M s (.next t) = (t.view M = s.view M) :=
  propext ⟨fun h => h.agrees t rfl, fun h => ⟨fun u hu => by cases hu; exact h⟩⟩

/-- An answer of OK. -/
theorem keeps_ok {M : Nat} {s t : State} {p : List Byte} : Reply.Keeps M s (.ok t p) = (t.view M = s.view M) := rfl

/-- A status that means no change. -/
theorem keeps_err {M : Nat} {s : State} {e : Status} : Reply.Keeps M s (.err e) = True := rfl

/-- A status with an effect. -/
theorem keeps_failed {M : Nat} {s t : State} {e : Status} {p : List Byte} : Reply.Keeps M s (.failed t e p) = (t.view M = s.view M) := rfl

/-- An answer that comes later. -/
theorem keeps_later {M : Nat} {s t : State} : Reply.Keeps M s (.later t) = (t.view M = s.view M) := rfl

/-- A choice of outcomes. -/
theorem kept_ite {M : Nat} {s : State} {c : Prop} [Decidable c] {a b : Result} :
    Kept M s (if c then a else b) = if c then Kept M s a else Kept M s b := by
  split <;> rfl

/-- A choice of replies. -/
theorem keeps_ite {M : Nat} {s : State} {c : Prop} [Decidable c] {a b : Reply} :
    Reply.Keeps M s (if c then a else b) = if c then Reply.Keeps M s a else Reply.Keeps M s b := by
  split <;> rfl

end Sys2Proof.Machine
end

