-- ==== Sys2Proof/Laws/KeepOps.lean ====
section
/-! SUPPORT. What the operations of Machine/Ops.lean may change: one lemma for each. -/

namespace Sys2Proof.Machine

/-- State.setMbx may change: mbx. -/
theorem State.setMbx_view {M : Nat} (hM : 1048576 ||| M = M) (s : State) (fn : Nat) (m : Mbx) :
    (State.setMbx s fn m).view M = s.view M := by
  refine view_le hM ?_
  simp only [State.setMbx, view_mbx, view_ite, foldl_view, ite_self, Nat.reduceOr]

/-- State.setPort may change: port. -/
theorem State.setPort_view {M : Nat} (hM : 8 ||| M = M) (s : State) (p : Nat) (v : Port) :
    (State.setPort s p v).view M = s.view M := by
  refine view_le hM ?_
  simp only [State.setPort, view_port, view_ite, foldl_view, ite_self, Nat.reduceOr]

/-- State.setQuad may change: quad. -/
theorem State.setQuad_view {M : Nat} (hM : 16 ||| M = M) (s : State) (q : Nat) (v : Quad) :
    (State.setQuad s q v).view M = s.view M := by
  refine view_le hM ?_
  simp only [State.setQuad, view_quad, view_ite, foldl_view, ite_self, Nat.reduceOr]

/-- State.setXl may change: xl. -/
theorem State.setXl_view {M : Nat} (hM : 4096 ||| M = M) (s : State) (k : Nat) (v : Xl) :
    (State.setXl s k v).view M = s.view M := by
  refine view_le hM ?_
  simp only [State.setXl, view_xl, view_ite, foldl_view, ite_self, Nat.reduceOr]

/-- State.setDdr may change: ddr. -/
theorem State.setDdr_view {M : Nat} (hM : 262144 ||| M = M) (s : State) (c : Nat) (v : Ddr) :
    (State.setDdr s c v).view M = s.view M := by
  refine view_le hM ?_
  simp only [State.setDdr, view_ddr, view_ite, foldl_view, ite_self, Nat.reduceOr]

/-- State.setLane may change: lane. -/
theorem State.setLane_view {M : Nat} (hM : 268435456 ||| M = M) (s : State) (l : Nat) (v : Lane) :
    (State.setLane s l v).view M = s.view M := by
  refine view_le hM ?_
  simp only [State.setLane, view_lane, view_ite, foldl_view, ite_self, Nat.reduceOr]

/-- State.setFrame may change: frames. -/
theorem State.setFrame_view {M : Nat} (hM : 32 ||| M = M) (s : State) (f : Nat) (v : Frame) :
    (State.setFrame s f v).view M = s.view M := by
  refine view_le hM ?_
  simp only [State.setFrame, view_frames, view_ite, foldl_view, ite_self, Nat.reduceOr]

/-- State.setBerth may change: glb. -/
theorem State.setBerth_view {M : Nat} (hM : 1 ||| M = M) (s : State) (b : Nat) (v : Berth) :
    (State.setBerth s b v).view M = s.view M := by
  refine view_le hM ?_
  simp only [State.setBerth, view_glb, view_ite, foldl_view, ite_self, Nat.reduceOr]

/-- emit may change: out. -/
theorem emit_view {M : Nat} (hM : 17179869184 ||| M = M) (o : Out) (s : State) :
    (emit o s).view M = s.view M := by
  refine view_le hM ?_
  simp only [emit, view_out, view_ite, foldl_view, ite_self, Nat.reduceOr]

/-- drawn may change: free. -/
theorem drawn_view {M : Nat} (hM : 34359738368 ||| M = M) (s : State) :
    (drawn s).view M = s.view M := by
  refine view_le hM ?_
  simp only [drawn, view_free, view_ite, foldl_view, ite_self, Nat.reduceOr]

/-- count may change: pmon. -/
theorem count_view {M : Nat} (hM : 67108864 ||| M = M) (ev : Nat) (o : Occ) (n : Nat) (s : State) :
    (count ev o n s).view M = s.view M := by
  refine view_le hM ?_
  simp only [count, view_pmon, view_ite, foldl_view, ite_self, Nat.reduceOr]

/-- raise may change: sump. -/
theorem raise_view {M : Nat} (hM : 16777216 ||| M = M) (src ev : Nat) (unit cause value : Nat) (berth : Option Nat) (s : State) :
    (raise src ev unit cause value berth s).view M = s.view M := by
  refine view_le hM ?_
  simp only [raise, view_sump, view_ite, foldl_view, ite_self, Nat.reduceOr]

/-- sendMsix may change: msix, out. -/
theorem sendMsix_view {M : Nat} (hM : 17181966336 ||| M = M) (fn vec : Nat) (s : State) :
    (sendMsix fn vec s).view M = s.view M := by
  refine view_le hM ?_
  simp only [sendMsix, emit_view, view_msix, view_ite, foldl_view, ite_self, Nat.reduceOr]

/-- postEvent may change: mbx, msix, out. -/
theorem postEvent_view {M : Nat} (hM : 17183014912 ||| M = M) (fn : Nat) (code : Nat) (detail : List Byte) (s : State) :
    (postEvent fn code detail s).view M = s.view M := by
  refine view_le hM ?_
  simp only [postEvent, State.setMbx_view, sendMsix_view, view_ite, foldl_view, ite_self, Nat.reduceOr]

/-- postAll may change: mbx, msix, out. -/
theorem postAll_view {M : Nat} (hM : 17183014912 ||| M = M) (fns : List Nat) (code : Nat) (detail : List Byte) (s : State) :
    (postAll fns code detail s).view M = s.view M := by
  refine view_le hM ?_
  unfold postAll
  exact foldl_view (fun s a => postEvent_view rfl a code detail s) fns s

/-- mmio may change: pmon. -/
theorem mmio_view {M : Nat} (hM : 67108864 ||| M = M) (fn : Nat) (s : State) :
    (mmio fn s).view M = s.view M := by
  refine view_le hM ?_
  simp only [mmio, count_view, view_ite, foldl_view, ite_self, Nat.reduceOr]

/-- respond may change: mbx, msix, pmon, out. -/
theorem respond_view {M : Nat} (hM : 17250123776 ||| M = M) (fn : Nat) (st : Status) (flags : Nat) (payload : List Byte) (s : State) :
    (respond fn st flags payload s).view M = s.view M := by
  refine view_le hM ?_
  simp only [respond, State.setMbx_view, count_view, postEvent_view, view_ite, foldl_view, ite_self, Nat.reduceOr]

/-- finish may change: mbx, msix, pmon, out. -/
theorem finish_view {M : Nat} (hM : 17250123776 ||| M = M) (fn code : Nat) (st : Status) (payload : List Byte) (s : State) :
    (finish fn code st payload s).view M = s.view M := by
  refine view_le hM ?_
  simp only [finish, respond_view, view_ite, foldl_view, ite_self, Nat.reduceOr]

/-- finishOpt may change: mbx, msix, pmon, out. -/
theorem finishOpt_view {M : Nat} (hM : 17250123776 ||| M = M) (fn : Option Nat) (code : Nat) (st : Status) (payload : List Byte) (s : State) :
    (finishOpt fn code st payload s).view M = s.view M := by
  refine view_le hM ?_
  unfold finishOpt
  (try simp only [finish_view, view_ite, foldl_view, ite_self, Nat.reduceOr]) <;> (repeat' split) <;> (try simp only [finish_view, view_ite, foldl_view, ite_self, Nat.reduceOr]) <;> (repeat' split) <;> (try simp only [finish_view, view_ite, foldl_view, ite_self, Nat.reduceOr])

/-- accept may change: mbx, pmon. -/
theorem accept_view {M : Nat} (hM : 68157440 ||| M = M) (rq : Req) (code : Nat) (s : State) :
    (accept rq code s).view M = s.view M := by
  refine view_le hM ?_
  simp only [accept, State.setMbx_view, count_view, mmio_view, view_ite, foldl_view, ite_self, Nat.reduceOr]

/-- overrun may change: ph, mbx, pmon. -/
theorem overrun_view {M : Nat} (hM : 68681728 ||| M = M) (fn : Nat) (s : State) :
    (overrun fn s).view M = s.view M := by
  refine view_le hM ?_
  unfold overrun
  exact (view_ph rfl _ _).trans ((mmio_view rfl fn _).trans (State.setMbx_view rfl s fn _))

/-- The answer of a reply may change the mailboxes, the messages and the counters, beside what the reply's state has changed. -/
theorem settle_view {M : Nat} (hM : 17250123776 ||| M = M) (fn : Nat) (s : State) (r : Reply) (h : r.Keeps M s) :
    (settle fn s r).view M = s.view M := by
  cases r with
  | ok t p => exact (respond_view hM fn .ok 0 p t).trans h
  | err st => exact respond_view hM fn st 0 [] s
  | failed t st p => exact (respond_view hM fn st 0 p t).trans h
  | later t => exact h

/-- A command in hand changes what its own effect changes, beside the answer. -/
theorem dispatch_view {M : Nat} (hM : 17250123776 ||| M = M) (c : CmdSpec) (rq : Req) (body : State → Reply)
    (h : ∀ s, (body s).Keeps M s) (s : State) : (dispatch c rq body s).view M = s.view M := by
  unfold dispatch
  split
  · exact respond_view hM _ _ _ _ _
  · split
    · exact respond_view hM _ _ _ _ _
    · exact settle_view hM _ _ _ (h s)

/-- A mailbox command may change the mailboxes, the messages, the counters and MBX_OVERRUNS, beside what its own effect changes. -/
theorem serve_kept {M : Nat} (hM : 17250648064 ||| M = M) (c : CmdSpec) (rq : Req) {body : State → Reply}
    (h : ∀ s, (body s).Keeps M s) (s : State) : Kept M s (.next (serve c rq body s)) := by
  have hR : 17250123776 ||| M = M := mask_le rfl hM
  have hA : 68157440 ||| M = M := mask_le rfl hM
  rw [kept_next]
  unfold serve
  split
  · rfl
  · split
    · exact overrun_view (mask_le rfl hM) _ s
    · exact (dispatch_view hR c rq body h _).trans (accept_view hA rq c.code s)

end Sys2Proof.Machine
end

