-- ==== Sys2Proof/Laws/KeepLedgerOps.lean ====
section
/-! SUPPORT. What the operations of Machine/LedgerOps.lean may change: one lemma for each. -/

namespace Sys2Proof.Machine

/-- State.setChain may change: ledg. -/
theorem State.setChain_view {M : Nat} (hM : 65536 ||| M = M) (s : State) (b : Nat) (c : Chain) :
    (State.setChain s b c).view M = s.view M := by
  refine view_le hM ?_
  simp only [State.setChain, view_ledg, view_ite, foldl_view, ite_self, Nat.reduceOr]

/-- onBay may change: cist. -/
theorem onBay_view {M : Nat} (hM : 131072 ||| M = M) (n : Nat) (g : Bay → Bay) (s : State) :
    (onBay n g s).view M = s.view M := by
  refine view_le hM ?_
  simp only [onBay, view_cist, view_ite, foldl_view, ite_self, Nat.reduceOr]

/-- revokeWindow may change: cist, out. -/
theorem revokeWindow_view {M : Nat} (hM : 17180000256 ||| M = M) (n : Nat) (s : State) :
    (revokeWindow n s).view M = s.view M := by
  refine view_le hM ?_
  unfold revokeWindow
  (try simp only [emit_view, onBay_view, view_cist, view_ite, foldl_view, ite_self, Nat.reduceOr]) <;> (repeat' split) <;> (try simp only [emit_view, onBay_view, view_cist, view_ite, foldl_view, ite_self, Nat.reduceOr]) <;> (repeat' split) <;> (try simp only [emit_view, onBay_view, view_cist, view_ite, foldl_view, ite_self, Nat.reduceOr])

/-- revokeOpen may change: cist, out. -/
theorem revokeOpen_view {M : Nat} (hM : 17180000256 ||| M = M) (s : State) :
    (revokeOpen s).view M = s.view M := by
  refine view_le hM ?_
  unfold revokeOpen
  repeat' (first | with_reducible rfl | simp only [revokeWindow_view, view_ite, foldl_view, ite_self, Nat.reduceOr] | split | refine (foldl_view (fun s a => ?_) _ _).trans ?_ | (rename_i e; rw [fst_view e]) | (rename_i e _; rw [fst_view e]) | (rename_i e _ _; rw [fst_view e]))

/-- closePage may change: ledg, cist, out. -/
theorem closePage_view {M : Nat} (hM : 17180065792 ||| M = M) (b : Nat) (awaitSig : Bool) (s : State) :
    (closePage b awaitSig s).view M = s.view M := by
  refine view_le hM ?_
  simp only [closePage, State.setChain_view, revokeOpen_view, view_ledg, view_ite, foldl_view, ite_self, Nat.reduceOr]

/-- putSlot may change: ledg, cist, out. -/
theorem putSlot_view {M : Nat} (hM : 17180065792 ||| M = M) (b : Nat) (rcd : List Byte) (s : State) :
    (putSlot b rcd s).view M = s.view M := by
  refine view_le hM ?_
  simp only [putSlot, State.setChain_view, closePage_view, view_ite, foldl_view, ite_self, Nat.reduceOr]

/-- putRecord may change: ledg, cist, pmon, out. -/
theorem putRecord_view {M : Nat} (hM : 17247174656 ||| M = M) (b : Nat) (ty : Nat) (rcd : Nat → List Byte) (s : State) :
    (putRecord b ty rcd s).view M = s.view M := by
  refine view_le hM ?_
  simp only [putRecord, State.setChain_view, count_view, putSlot_view, view_ledg, view_ite, foldl_view, ite_self, Nat.reduceOr]

/-- putUnclassed may change: ledg, cist, pmon, out. -/
theorem putUnclassed_view {M : Nat} (hM : 17247174656 ||| M = M) (b : Nat) (s : State) :
    (putUnclassed b s).view M = s.view M := by
  refine view_le hM ?_
  simp only [putUnclassed, State.setChain_view, putRecord_view, view_ite, foldl_view, ite_self, Nat.reduceOr]

/-- padForSeal may change: ledg, cist, out. -/
theorem padForSeal_view {M : Nat} (hM : 17180065792 ||| M = M) (b : Nat) (s : State) :
    (padForSeal b s).view M = s.view M := by
  refine view_le hM ?_
  simp only [padForSeal, putSlot_view, view_ite, foldl_view, ite_self, Nat.reduceOr]

/-- writeSeal may change: ledg, cist, pmon, out. -/
theorem writeSeal_view {M : Nat} (hM : 17247174656 ||| M = M) (b : Nat) (flags : Nat) (s : State) :
    (writeSeal b flags s).view M = s.view M := by
  refine view_le hM ?_
  simp only [writeSeal, State.setChain_view, closePage_view, count_view, padForSeal_view, putUnclassed_view, view_ledg, view_ite, foldl_view, ite_self, Nat.reduceOr]

/-- dueSeal may change: ledg, cist, pmon, out. -/
theorem dueSeal_view {M : Nat} (hM : 17247174656 ||| M = M) (b : Nat) (s : State) :
    (dueSeal b s).view M = s.view M := by
  refine view_le hM ?_
  simp only [dueSeal, State.setChain_view, writeSeal_view, view_ite, foldl_view, ite_self, Nat.reduceOr]

/-- sealOnAppend may change: ledg, cist, pmon, out. -/
theorem sealOnAppend_view {M : Nat} (hM : 17247174656 ||| M = M) (b : Nat) (s : State) :
    (sealOnAppend b s).view M = s.view M := by
  refine view_le hM ?_
  simp only [sealOnAppend, dueSeal_view, view_ite, foldl_view, ite_self, Nat.reduceOr]

/-- append may change: ledg, cist, pmon, out. -/
theorem append_view {M : Nat} (hM : 17247174656 ||| M = M) (b : Nat) (ty flags info : Nat) (body : List Byte) (s : State) :
    (append b ty flags info body s).view M = s.view M := by
  refine view_le hM ?_
  simp only [append, State.setChain_view, putRecord_view, sealOnAppend_view, view_ite, foldl_view, ite_self, Nat.reduceOr]

/-- appendAll may change: ledg, cist, pmon, out. -/
theorem appendAll_view {M : Nat} (hM : 17247174656 ||| M = M) (ty flags info : Nat) (body : List Byte) (s : State) :
    (appendAll ty flags info body s).view M = s.view M := by
  refine view_le hM ?_
  unfold appendAll
  repeat' (first | with_reducible rfl | simp only [append_view, view_ite, foldl_view, ite_self, Nat.reduceOr] | split | refine (foldl_view (fun s a => ?_) _ _).trans ?_ | (rename_i e; rw [fst_view e]) | (rename_i e _; rw [fst_view e]) | (rename_i e _ _; rw [fst_view e]))

/-- drainWaiting may change: ledg, cist, pmon, out. -/
theorem drainWaiting_view {M : Nat} (hM : 17247174656 ||| M = M) (x0 : Nat) (x1 : Nat) (s : State) :
    (drainWaiting x0 x1 s).view M = s.view M := by
  refine view_le hM ?_
  induction x0 generalizing x1 s with
  | zero => rfl
  | succ n ih =>
    simp only [drainWaiting]
    repeat' (first | with_reducible rfl | simp only [State.setChain_view, putRecord_view, sealOnAppend_view, view_ite, foldl_view, ite_self, Nat.reduceOr, ih] | split | refine (foldl_view (fun s a => ?_) _ _).trans ?_ | (rename_i e; rw [fst_view e]) | (rename_i e _; rw [fst_view e]) | (rename_i e _ _; rw [fst_view e]))

/-- closeSpan may change: ledg, cist, pmon, out. -/
theorem closeSpan_view {M : Nat} (hM : 17247174656 ||| M = M) (b : Nat) (s : State) :
    (closeSpan b s).view M = s.view M := by
  refine view_le hM ?_
  unfold closeSpan
  (try simp only [State.setChain_view, append_view, view_ite, foldl_view, ite_self, Nat.reduceOr]) <;> (repeat' split) <;> (try simp only [State.setChain_view, append_view, view_ite, foldl_view, ite_self, Nat.reduceOr]) <;> (repeat' split) <;> (try simp only [State.setChain_view, append_view, view_ite, foldl_view, ite_self, Nat.reduceOr])

/-- refreshFull may change: ledg, cist, pmon, out. -/
theorem refreshFull_view {M : Nat} (hM : 17247174656 ||| M = M) (b : Nat) (s : State) :
    (refreshFull b s).view M = s.view M := by
  refine view_le hM ?_
  simp only [refreshFull, State.setChain_view, closeSpan_view, drainWaiting_view, view_ite, foldl_view, ite_self, Nat.reduceOr]

/-- sealNext may change: ledg, cist, pmon, out. -/
theorem sealNext_view {M : Nat} (hM : 17247174656 ||| M = M) (b : Nat) (s : State) :
    (sealNext b s).view M = s.view M := by
  refine view_le hM ?_
  simp only [sealNext, writeSeal_view, view_ite, foldl_view, ite_self, Nat.reduceOr]

/-- spaceFreed may change: ledg, cist, pmon, out. -/
theorem spaceFreed_view {M : Nat} (hM : 17247174656 ||| M = M) (b : Nat) (s : State) :
    (spaceFreed b s).view M = s.view M := by
  refine view_le hM ?_
  simp only [spaceFreed, refreshFull_view, sealNext_view, view_ite, foldl_view, ite_self, Nat.reduceOr]

/-- reserveSlot may change: ledg, cist, pmon, out. -/
theorem reserveSlot_view {M : Nat} (hM : 17247174656 ||| M = M) (b : Nat) (s : State) :
    (reserveSlot b s).1.view M = s.view M := by
  refine view_le hM ?_
  unfold reserveSlot
  (try simp only [State.setChain_view, refreshFull_view, view_ite, foldl_view, ite_self, Nat.reduceOr]) <;> (repeat' split) <;> (try simp only [State.setChain_view, refreshFull_view, view_ite, foldl_view, ite_self, Nat.reduceOr]) <;> (repeat' split) <;> (try simp only [State.setChain_view, refreshFull_view, view_ite, foldl_view, ite_self, Nat.reduceOr])

/-- refuseFull may change: ledg. -/
theorem refuseFull_view {M : Nat} (hM : 65536 ||| M = M) (b : Nat) (ts : Nat) (s : State) :
    (refuseFull b ts s).view M = s.view M := by
  refine view_le hM ?_
  simp only [refuseFull, State.setChain_view, view_ledg, view_ite, foldl_view, ite_self, Nat.reduceOr]

/-- skipSeq may change: ledg. -/
theorem skipSeq_view {M : Nat} (hM : 65536 ||| M = M) (b : Nat) (s : State) :
    (skipSeq b s).view M = s.view M := by
  refine view_le hM ?_
  simp only [skipSeq, State.setChain_view, view_ledg, view_ite, foldl_view, ite_self, Nat.reduceOr]

/-- appendOrder may change: ledg, cist, pmon, out. -/
theorem appendOrder_view {M : Nat} (hM : 17247174656 ||| M = M) (b : Nat) (reserved : Bool) (rcd : Nat → List Byte) (s : State) :
    (appendOrder b reserved rcd s).view M = s.view M := by
  refine view_le hM ?_
  simp only [appendOrder, State.setChain_view, putRecord_view, refreshFull_view, sealOnAppend_view, skipSeq_view, view_ite, foldl_view, ite_self, Nat.reduceOr]

/-- openChain may change: ledg, cist, pmon, out. -/
theorem openChain_view {M : Nat} (hM : 17247174656 ||| M = M) (b : Nat) (pub cert : List Byte) (s : State) :
    (openChain b pub cert s).view M = s.view M := by
  refine view_le hM ?_
  simp only [openChain, State.setChain_view, putRecord_view, putSlot_view, view_ite, foldl_view, ite_self, Nat.reduceOr]

end Sys2Proof.Machine
end

