-- ==== Sys2Proof/Laws/KeepServo.lean ====
section
/-! SUPPORT. What the operations of Machine/Servo.lean may change: one lemma for each. -/

namespace Sys2Proof.Machine

/-- newEpoch may change: tide, ledg, cist, pmon, out. -/
theorem newEpoch_view {M : Nat} (hM : 17247174658 ||| M = M) (f : Tide → Tide) (s : State) :
    (newEpoch f s).view M = s.view M := by
  refine view_le hM ?_
  simp only [newEpoch, appendAll_view, view_tide, view_ite, foldl_view, ite_self, Nat.reduceOr]

/-- goFree may change: tide, ledg, cist, pmon, out. -/
theorem goFree_view {M : Nat} (hM : 17247174658 ||| M = M) (f : Tide → Tide) (s : State) :
    (goFree f s).view M = s.view M := by
  refine view_le hM ?_
  simp only [goFree, newEpoch_view, view_ite, foldl_view, ite_self, Nat.reduceOr]

/-- goHoldover may change: tide, ledg, cist, sump, pmon, out. -/
theorem goHoldover_view {M : Nat} (hM : 17263951874 ||| M = M) (f : Tide → Tide) (s : State) :
    (goHoldover f s).view M = s.view M := by
  refine view_le hM ?_
  simp only [goHoldover, goFree_view, newEpoch_view, raise_view, view_ite, foldl_view, ite_self, Nat.reduceOr]

/-- disqualify may change: tide, ledg, cist, sump, pmon, out. -/
theorem disqualify_view {M : Nat} (hM : 17263951874 ||| M = M) (f : Tide → Tide) (s : State) :
    (disqualify f s).view M = s.view M := by
  refine view_le hM ?_
  unfold disqualify
  (try simp only [goFree_view, goHoldover_view, view_tide, view_ite, foldl_view, ite_self, Nat.reduceOr]) <;> (repeat' split) <;> (try simp only [goFree_view, goHoldover_view, view_tide, view_ite, foldl_view, ite_self, Nat.reduceOr]) <;> (repeat' split) <;> (try simp only [goFree_view, goHoldover_view, view_tide, view_ite, foldl_view, ite_self, Nat.reduceOr])

/-- qualify may change: tide, ledg, cist, pmon, out. -/
theorem qualify_view {M : Nat} (hM : 17247174658 ||| M = M) (s : State) :
    (qualify s).view M = s.view M := by
  refine view_le hM ?_
  unfold qualify
  (try simp only [newEpoch_view, view_tide, view_ite, foldl_view, ite_self, Nat.reduceOr]) <;> (repeat' split) <;> (try simp only [newEpoch_view, view_tide, view_ite, foldl_view, ite_self, Nat.reduceOr]) <;> (repeat' split) <;> (try simp only [newEpoch_view, view_tide, view_ite, foldl_view, ite_self, Nat.reduceOr])

/-- phaseStep may change: tide, frames, ledg, cist, pmon, out. -/
theorem phaseStep_view {M : Nat} (hM : 17247174690 ||| M = M) (off : Int) (s : State) :
    (phaseStep off s).view M = s.view M := by
  refine view_le hM ?_
  simp only [phaseStep, newEpoch_view, view_frames, view_ite, foldl_view, ite_self, Nat.reduceOr]

/-- servoUpdate may change: tide, frames, ledg, cist, sump, pmon, out. -/
theorem servoUpdate_view {M : Nat} (hM : 17263951906 ||| M = M) (offFs : Int) (s : State) :
    (servoUpdate offFs s).view M = s.view M := by
  refine view_le hM ?_
  unfold servoUpdate
  (try simp only [disqualify_view, newEpoch_view, phaseStep_view, raise_view, view_tide, view_ite, foldl_view, ite_self, Nat.reduceOr]) <;> (repeat' split) <;> (try simp only [disqualify_view, newEpoch_view, phaseStep_view, raise_view, view_tide, view_ite, foldl_view, ite_self, Nat.reduceOr]) <;> (repeat' split) <;> (try simp only [disqualify_view, newEpoch_view, phaseStep_view, raise_view, view_tide, view_ite, foldl_view, ite_self, Nat.reduceOr])

/-- applyUtc may change: tide, ledg, cist, pmon, out. -/
theorem applyUtc_view {M : Nat} (hM : 17247174658 ||| M = M) (off : BitVec 16) (s : State) :
    (applyUtc off s).view M = s.view M := by
  refine view_le hM ?_
  simp only [applyUtc, newEpoch_view, view_tide, view_ite, foldl_view, ite_self, Nat.reduceOr]

end Sys2Proof.Machine
end

