-- ==== Sys2Proof/Laws/KeepPtp.lean ====
section
/-! SUPPORT. What the operations of Machine/Ptp.lean may change: one lemma for each. -/

namespace Sys2Proof.Machine

/-- State.setPtp may change: tide. -/
theorem State.setPtp_view {M : Nat} (hM : 2 ||| M = M) (s : State) (i : Nat) (v : PtpInst) :
    (State.setPtp s i v).view M = s.view M := by
  refine view_le hM ?_
  simp only [State.setPtp, view_tide, view_ite, foldl_view, ite_self, Nat.reduceOr]

/-- ptpSynced may change: tide, frames, ledg, cist, sump, pmon, out. -/
theorem ptpSynced_view {M : Nat} (hM : 17263951906 ||| M = M) (i : Nat) (t1 t2 : Int) (s : State) :
    (ptpSynced i t1 t2 s).view M = s.view M := by
  refine view_le hM ?_
  simp only [ptpSynced, State.setPtp_view, qualify_view, servoUpdate_view, view_ite, foldl_view, ite_self, Nat.reduceOr]

/-- sendPtp may change: out. -/
theorem sendPtp_view {M : Nat} (hM : 17179869184 ||| M = M) (p : Nat) (x : PtpInst) (m : List Byte) (s : State) :
    (sendPtp p x m s).view M = s.view M := by
  refine view_le hM ?_
  simp only [sendPtp, emit_view, view_ite, foldl_view, ite_self, Nat.reduceOr]

/-- ptpAnnounce may change: tide, ledg, cist, pmon, out. -/
theorem ptpAnnounce_view {M : Nat} (hM : 17247174658 ||| M = M) (i : Nat) (m : List Byte) (s : State) :
    (ptpAnnounce i m s).view M = s.view M := by
  refine view_le hM ?_
  simp only [ptpAnnounce, State.setPtp_view, applyUtc_view, view_tide, view_ite, foldl_view, ite_self, Nat.reduceOr]

/-- ptpAsReceiver may change: tide, frames, ledg, cist, sump, pmon, out. -/
theorem ptpAsReceiver_view {M : Nat} (hM : 17263951906 ||| M = M) (i p : Nat) (m : List Byte) (ts : Nat) (s : State) :
    (ptpAsReceiver i p m ts s).view M = s.view M := by
  refine view_le hM ?_
  unfold ptpAsReceiver
  (try simp only [State.setPtp_view, ptpAnnounce_view, ptpSynced_view, view_ite, foldl_view, ite_self, Nat.reduceOr]) <;> (repeat' split) <;> (try simp only [State.setPtp_view, ptpAnnounce_view, ptpSynced_view, view_ite, foldl_view, ite_self, Nat.reduceOr]) <;> (repeat' split) <;> (try simp only [State.setPtp_view, ptpAnnounce_view, ptpSynced_view, view_ite, foldl_view, ite_self, Nat.reduceOr])

/-- ptpPeer may change: tide, out. -/
theorem ptpPeer_view {M : Nat} (hM : 17179869186 ||| M = M) (i p : Nat) (m : List Byte) (ts : Nat) (s : State) :
    (ptpPeer i p m ts s).view M = s.view M := by
  refine view_le hM ?_
  unfold ptpPeer
  (try simp only [State.setPtp_view, sendPtp_view, view_ite, foldl_view, ite_self, Nat.reduceOr]) <;> (repeat' split) <;> (try simp only [State.setPtp_view, sendPtp_view, view_ite, foldl_view, ite_self, Nat.reduceOr]) <;> (repeat' split) <;> (try simp only [State.setPtp_view, sendPtp_view, view_ite, foldl_view, ite_self, Nat.reduceOr])

/-- ptpAsTransmitter may change: out. -/
theorem ptpAsTransmitter_view {M : Nat} (hM : 17179869184 ||| M = M) (i p : Nat) (m : List Byte) (ts : Nat) (s : State) :
    (ptpAsTransmitter i p m ts s).view M = s.view M := by
  refine view_le hM ?_
  simp only [ptpAsTransmitter, sendPtp_view, view_ite, foldl_view, ite_self, Nat.reduceOr]

/-- ptpManagement may change: out, free. -/
theorem ptpManagement_view {M : Nat} (hM : 51539607552 ||| M = M) (i p : Nat) (m : List Byte) (s : State) :
    (ptpManagement i p m s).view M = s.view M := by
  refine view_le hM ?_
  simp only [ptpManagement, drawn_view, sendPtp_view, view_ite, foldl_view, ite_self, Nat.reduceOr]

/-- ptpHandle may change: tide, frames, ledg, cist, sump, pmon, out, free. -/
theorem ptpHandle_view {M : Nat} (hM : 51623690274 ||| M = M) (i p : Nat) (m : List Byte) (ts : Nat) (s : State) :
    (ptpHandle i p m ts s).view M = s.view M := by
  refine view_le hM ?_
  unfold ptpHandle
  (try simp only [ptpAsReceiver_view, ptpAsTransmitter_view, ptpManagement_view, ptpPeer_view, view_ite, foldl_view, ite_self, Nat.reduceOr]) <;> (repeat' split) <;> (try simp only [ptpAsReceiver_view, ptpAsTransmitter_view, ptpManagement_view, ptpPeer_view, view_ite, foldl_view, ite_self, Nat.reduceOr]) <;> (repeat' split) <;> (try simp only [ptpAsReceiver_view, ptpAsTransmitter_view, ptpManagement_view, ptpPeer_view, view_ite, foldl_view, ite_self, Nat.reduceOr])

/-- ptpLost may change: tide, ledg, cist, sump, pmon, out. -/
theorem ptpLost_view {M : Nat} (hM : 17263951874 ||| M = M) (i : Nat) (s : State) :
    (ptpLost i s).view M = s.view M := by
  refine view_le hM ?_
  simp only [ptpLost, State.setPtp_view, disqualify_view, raise_view, view_ite, foldl_view, ite_self, Nat.reduceOr]

/-- ptpSendSync may change: tide, out. -/
theorem ptpSendSync_view {M : Nat} (hM : 17179869186 ||| M = M) (i : Nat) (ts : Nat) (s : State) :
    (ptpSendSync i ts s).view M = s.view M := by
  refine view_le hM ?_
  unfold ptpSendSync
  repeat' (first | with_reducible rfl | simp only [State.setPtp_view, sendPtp_view, view_ite, foldl_view, ite_self, Nat.reduceOr] | split | refine (foldl_view (fun s a => ?_) _ _).trans ?_ | (rename_i e; rw [fst_view e]) | (rename_i e _; rw [fst_view e]) | (rename_i e _ _; rw [fst_view e]))

/-- ptpSendAnnounce may change: tide, out, free. -/
theorem ptpSendAnnounce_view {M : Nat} (hM : 51539607554 ||| M = M) (i : Nat) (ts : Nat) (s : State) :
    (ptpSendAnnounce i ts s).view M = s.view M := by
  refine view_le hM ?_
  unfold ptpSendAnnounce
  repeat' (first | with_reducible rfl | simp only [State.setPtp_view, drawn_view, sendPtp_view, view_ite, foldl_view, ite_self, Nat.reduceOr] | split | refine (foldl_view (fun s a => ?_) _ _).trans ?_ | (rename_i e; rw [fst_view e]) | (rename_i e _; rw [fst_view e]) | (rename_i e _ _; rw [fst_view e]))

/-- ptpSendRequest may change: tide, out. -/
theorem ptpSendRequest_view {M : Nat} (hM : 17179869186 ||| M = M) (i : Nat) (ts : Nat) (s : State) :
    (ptpSendRequest i ts s).view M = s.view M := by
  refine view_le hM ?_
  unfold ptpSendRequest
  repeat' (first | with_reducible rfl | simp only [State.setPtp_view, sendPtp_view, view_ite, foldl_view, ite_self, Nat.reduceOr] | split | refine (foldl_view (fun s a => ?_) _ _).trans ?_ | (rename_i e; rw [fst_view e]) | (rename_i e _; rw [fst_view e]) | (rename_i e _ _; rw [fst_view e]))

end Sys2Proof.Machine
end

