-- ==== Sys2Proof/Laws/KeepTraceOps.lean ====
section
/-! SUPPORT. What the operations of Machine/TraceOps.lean may change: one lemma for each. -/

namespace Sys2Proof.Machine

/-- onTrace may change: trace. -/
theorem onTrace_view {M : Nat} (hM : 134217728 ||| M = M) (f : Trace → Trace) (s : State) :
    (onTrace f s).view M = s.view M := by
  refine view_le hM ?_
  simp only [onTrace, view_trace, view_ite, foldl_view, ite_self, Nat.reduceOr]

end Sys2Proof.Machine
end

