-- ==== Sys2Proof/Laws/KeepFrameOps.lean ====
section
/-! SUPPORT. What the operations of Machine/FrameOps.lean may change: one lemma for each. -/

namespace Sys2Proof.Machine

/-- onFrame may change: frames. -/
theorem onFrame_view {M : Nat} (hM : 32 ||| M = M) (f : Nat) (g : Frame → Frame) (s : State) :
    (onFrame f g s).view M = s.view M := by
  refine view_le hM ?_
  simp only [onFrame, State.setFrame_view, view_ite, foldl_view, ite_self, Nat.reduceOr]

/-- onPort may change: port. -/
theorem onPort_view {M : Nat} (hM : 8 ||| M = M) (p : Nat) (g : Port → Port) (s : State) :
    (onPort p g s).view M = s.view M := by
  refine view_le hM ?_
  simp only [onPort, State.setPort_view, view_ite, foldl_view, ite_self, Nat.reduceOr]

end Sys2Proof.Machine
end

