-- ==== Sys2Proof/Laws/KeepRsvOps.lean ====
section
/-! SUPPORT. What the operations of Machine/RsvOps.lean may change: one lemma for each. -/

namespace Sys2Proof.Machine

/-- onRsv may change: rsv. -/
theorem onRsv_view {M : Nat} (hM : 1024 ||| M = M) (g : Rsv → Rsv) (s : State) :
    (onRsv g s).view M = s.view M := by
  refine view_le hM ?_
  simp only [onRsv, view_rsv, view_ite, foldl_view, ite_self, Nat.reduceOr]

/-- onQueue may change: rsv. -/
theorem onQueue_view {M : Nat} (hM : 1024 ||| M = M) (q : Nat) (g : Queue → Queue) (s : State) :
    (onQueue q g s).view M = s.view M := by
  refine view_le hM ?_
  simp only [onQueue, onRsv_view, view_ite, foldl_view, ite_self, Nat.reduceOr]

/-- onEgress may change: rsv. -/
theorem onEgress_view {M : Nat} (hM : 1024 ||| M = M) (p : Nat) (g : Egress → Egress) (s : State) :
    (onEgress p g s).view M = s.view M := by
  refine view_le hM ?_
  simp only [onEgress, onRsv_view, view_ite, foldl_view, ite_self, Nat.reduceOr]

/-- onRsvB may change: rsv. -/
theorem onRsvB_view {M : Nat} (hM : 1024 ||| M = M) (b : Nat) (g : RsvB → RsvB) (s : State) :
    (onRsvB b g s).view M = s.view M := by
  refine view_le hM ?_
  simp only [onRsvB, onRsv_view, view_ite, foldl_view, ite_self, Nat.reduceOr]

/-- sendPause may change: port, out. -/
theorem sendPause_view {M : Nat} (hM : 17179869192 ||| M = M) (p cls quanta : Nat) (s : State) :
    (sendPause p cls quanta s).view M = s.view M := by
  refine view_le hM ?_
  simp only [sendPause, emit_view, onPort_view, view_ite, foldl_view, ite_self, Nat.reduceOr]

/-- flowSignal may change: port, out. -/
theorem flowSignal_view {M : Nat} (hM : 17179869192 ||| M = M) (p cls quanta : Nat) (s : State) :
    (flowSignal p cls quanta s).view M = s.view M := by
  refine view_le hM ?_
  simp only [flowSignal, onPort_view, sendPause_view, view_ite, foldl_view, ite_self, Nat.reduceOr]

/-- pauseCheck may change: port, out. -/
theorem pauseCheck_view {M : Nat} (hM : 17179869192 ||| M = M) (p cls : Nat) (s : State) :
    (pauseCheck p cls s).view M = s.view M := by
  refine view_le hM ?_
  simp only [pauseCheck, flowSignal_view, onPort_view, view_ite, foldl_view, ite_self, Nat.reduceOr]

/-- takeCell may change: port, frames, rsv, pmon, out. -/
theorem takeCell_view {M : Nat} (hM : 17246979112 ||| M = M) (f : Nat) (s : State) {t : State}
    (h : takeCell f s = some t) : t.view M = s.view M := by
  refine view_le hM ?_
  simp only [takeCell] at h
  (repeat' split at h) <;> (first | contradiction | (cases h; repeat' (first | with_reducible rfl | simp only [count_view, onFrame_view, onRsv_view, onRsvB_view, pauseCheck_view, view_rsv, view_ite, foldl_view, ite_self, Nat.reduceOr] | split | refine (foldl_view (fun s a => ?_) _ _).trans ?_ | (rename_i e; rw [fst_view e]) | (rename_i e _; rw [fst_view e]) | (rename_i e _ _; rw [fst_view e]))))

/-- freeCells may change: port, frames, rsv, out. -/
theorem freeCells_view {M : Nat} (hM : 17179870248 ||| M = M) (f : Nat) (s : State) :
    (freeCells f s).view M = s.view M := by
  refine view_le hM ?_
  unfold freeCells
  (try simp only [onFrame_view, onRsv_view, onRsvB_view, pauseCheck_view, view_ite, foldl_view, ite_self, Nat.reduceOr]) <;> (repeat' split) <;> (try simp only [onFrame_view, onRsv_view, onRsvB_view, pauseCheck_view, view_ite, foldl_view, ite_self, Nat.reduceOr]) <;> (repeat' split) <;> (try simp only [onFrame_view, onRsv_view, onRsvB_view, pauseCheck_view, view_ite, foldl_view, ite_self, Nat.reduceOr])

/-- takeCells may change: port, frames, rsv, pmon, out. -/
theorem takeCells_view {M : Nat} (hM : 17246979112 ||| M = M) (f n : Nat) (x0 : Nat) (s : State) :
    (takeCells f n x0 s).1.view M = s.view M := by
  refine view_le hM ?_
  induction x0 generalizing s with
  | zero => rfl
  | succ n ih =>
    simp only [takeCells]
    repeat' (first | with_reducible rfl | simp only [view_ite, foldl_view, ite_self, Nat.reduceOr, ih] | split | refine (foldl_view (fun s a => ?_) _ _).trans ?_ | (rename_i e; rw [takeCell_view rfl _ _ e]) | (rename_i e; rw [takeCell_view rfl _ e]) | (rename_i e; rw [takeCell_view rfl _ _ _ e]) | (rename_i e; rw [fst_view e]) | (rename_i e _; rw [fst_view e]) | (rename_i e _ _; rw [fst_view e]))

/-- fillQueue may change: rsv. -/
theorem fillQueue_view {M : Nat} (hM : 1024 ||| M = M) (q : Nat) (s : State) :
    (fillQueue q s).view M = s.view M := by
  refine view_le hM ?_
  simp only [fillQueue, onQueue_view, view_ite, foldl_view, ite_self, Nat.reduceOr]

/-- fillPort may change: rsv. -/
theorem fillPort_view {M : Nat} (hM : 1024 ||| M = M) (p : Nat) (s : State) :
    (fillPort p s).view M = s.view M := by
  refine view_le hM ?_
  simp only [fillPort, onEgress_view, view_ite, foldl_view, ite_self, Nat.reduceOr]

/-- chargeFor may change: rsv. -/
theorem chargeFor_view {M : Nat} (hM : 1024 ||| M = M) (q len : Nat) (s : State) :
    (chargeFor q len s).view M = s.view M := by
  refine view_le hM ?_
  simp only [chargeFor, fillPort_view, fillQueue_view, onEgress_view, onQueue_view, view_ite, foldl_view, ite_self, Nat.reduceOr]

/-- joinQueue may change: frames, rsv. -/
theorem joinQueue_view {M : Nat} (hM : 1056 ||| M = M) (q f : Nat) (s : State) :
    (joinQueue q f s).1.view M = s.view M := by
  refine view_le hM ?_
  unfold joinQueue
  (try simp only [onFrame_view, onQueue_view, view_ite, foldl_view, ite_self, Nat.reduceOr]) <;> (repeat' split) <;> (try simp only [onFrame_view, onQueue_view, view_ite, foldl_view, ite_self, Nat.reduceOr]) <;> (repeat' split) <;> (try simp only [onFrame_view, onQueue_view, view_ite, foldl_view, ite_self, Nat.reduceOr])

/-- leaveQueue may change: frames, rsv. -/
theorem leaveQueue_view {M : Nat} (hM : 1056 ||| M = M) (q f : Nat) (s : State) :
    (leaveQueue q f s).view M = s.view M := by
  refine view_le hM ?_
  simp only [leaveQueue, onFrame_view, onQueue_view, view_ite, foldl_view, ite_self, Nat.reduceOr]

end Sys2Proof.Machine
end

