-- ==== Sys2Proof/Laws/KeepWeirOps.lean ====
section
/-! SUPPORT. What the operations of Machine/WeirOps.lean may change: one lemma for each. -/

namespace Sys2Proof.Machine

/-- onWeir may change: weir. -/
theorem onWeir_view {M : Nat} (hM : 2048 ||| M = M) (g : Weir → Weir) (s : State) :
    (onWeir g s).view M = s.view M := by
  refine view_le hM ?_
  simp only [onWeir, view_weir, view_ite, foldl_view, ite_self, Nat.reduceOr]

/-- onWeirB may change: weir. -/
theorem onWeirB_view {M : Nat} (hM : 2048 ||| M = M) (b : Nat) (g : WeirB → WeirB) (s : State) :
    (onWeirB b g s).view M = s.view M := by
  refine view_le hM ?_
  simp only [onWeirB, onWeir_view, view_ite, foldl_view, ite_self, Nat.reduceOr]

/-- movePos may change: weir. -/
theorem movePos_view {M : Nat} (hM : 2048 ||| M = M) (b : Nat) (u : Updates) (create : Option Nat) (d : Int) (s : State) :
    (movePos b u create d s).view M = s.view M := by
  refine view_le hM ?_
  unfold movePos
  (try simp only [onWeir_view, view_ite, foldl_view, ite_self, Nat.reduceOr]) <;> (repeat' split) <;> (try simp only [onWeir_view, view_ite, foldl_view, ite_self, Nat.reduceOr]) <;> (repeat' split) <;> (try simp only [onWeir_view, view_ite, foldl_view, ite_self, Nat.reduceOr])

/-- moveCredit may change: weir. -/
theorem moveCredit_view {M : Nat} (hM : 2048 ||| M = M) (b : Nat) (u : Updates) (d : Int) (s : State) :
    (moveCredit b u d s).view M = s.view M := by
  refine view_le hM ?_
  unfold moveCredit
  (try simp only [onWeir_view, view_ite, foldl_view, ite_self, Nat.reduceOr]) <;> (repeat' split) <;> (try simp only [onWeir_view, view_ite, foldl_view, ite_self, Nat.reduceOr]) <;> (repeat' split) <;> (try simp only [onWeir_view, view_ite, foldl_view, ite_self, Nat.reduceOr])

/-- moveLocal may change: weir. -/
theorem moveLocal_view {M : Nat} (hM : 2048 ||| M = M) (b g : Nat) (d : Int) (s : State) :
    (moveLocal b g d s).view M = s.view M := by
  refine view_le hM ?_
  simp only [moveLocal, onWeirB_view, view_ite, foldl_view, ite_self, Nat.reduceOr]

/-- applyUpd may change: weir. -/
theorem applyUpd_view {M : Nat} (hM : 2048 ||| M = M) (b : Nat) (u : Updates) (create : Option Nat) (s : State) :
    (applyUpd b u create s).view M = s.view M := by
  refine view_le hM ?_
  simp only [applyUpd, moveCredit_view, moveLocal_view, movePos_view, view_ite, foldl_view, ite_self, Nat.reduceOr]

/-- revertUpd may change: weir. -/
theorem revertUpd_view {M : Nat} (hM : 2048 ||| M = M) (b : Nat) (u : Updates) (s : State) :
    (revertUpd b u s).view M = s.view M := by
  refine view_le hM ?_
  simp only [revertUpd, moveCredit_view, moveLocal_view, movePos_view, view_ite, foldl_view, ite_self, Nat.reduceOr]

/-- reverseFrame may change: frames, weir. -/
theorem reverseFrame_view {M : Nat} (hM : 2080 ||| M = M) (f : Nat) (s : State) :
    (reverseFrame f s).view M = s.view M := by
  refine view_le hM ?_
  unfold reverseFrame
  (try simp only [onFrame_view, onWeirB_view, revertUpd_view, view_ite, foldl_view, ite_self, Nat.reduceOr]) <;> (repeat' split) <;> (try simp only [onFrame_view, onWeirB_view, revertUpd_view, view_ite, foldl_view, ite_self, Nat.reduceOr]) <;> (repeat' split) <;> (try simp only [onFrame_view, onWeirB_view, revertUpd_view, view_ite, foldl_view, ite_self, Nat.reduceOr])

/-- countVerdict may change: weir. -/
theorem countVerdict_view {M : Nat} (hM : 2048 ||| M = M) (b verdict reason : Nat) (s : State) :
    (countVerdict b verdict reason s).view M = s.view M := by
  refine view_le hM ?_
  simp only [countVerdict, onWeirB_view, view_ite, foldl_view, ite_self, Nat.reduceOr]

end Sys2Proof.Machine
end

