-- ==== Sys2Proof/Laws/KeepFwdOps.lean ====
section
/-! SUPPORT. What the operations of Machine/FwdOps.lean may change: one lemma for each. -/

namespace Sys2Proof.Machine

/-- onFwd may change: fwd. -/
theorem onFwd_view {M : Nat} (hM : 512 ||| M = M) (g : Fwd → Fwd) (s : State) :
    (onFwd g s).view M = s.view M := by
  refine view_le hM ?_
  simp only [onFwd, view_fwd, view_ite, foldl_view, ite_self, Nat.reduceOr]

/-- onFwdB may change: fwd. -/
theorem onFwdB_view {M : Nat} (hM : 512 ||| M = M) (b : Nat) (g : FwdB → FwdB) (s : State) :
    (onFwdB b g s).view M = s.view M := by
  refine view_le hM ?_
  simp only [onFwdB, onFwd_view, view_ite, foldl_view, ite_self, Nat.reduceOr]

/-- clearPoison may change: fwd. -/
theorem clearPoison_view {M : Nat} (hM : 512 ||| M = M) (t m i : Nat) (s : State) :
    (clearPoison t m i s).view M = s.view M := by
  refine view_le hM ?_
  simp only [clearPoison, onFwd_view, view_ite, foldl_view, ite_self, Nat.reduceOr]

/-- countLookup may change: fwd, pmon. -/
theorem countLookup_view {M : Nat} (hM : 67109376 ||| M = M) (b table : Nat) (r : Found) (s : State) :
    (countLookup b table r s).view M = s.view M := by
  refine view_le hM ?_
  simp only [countLookup, count_view, onFwd_view, onFwdB_view, view_ite, foldl_view, ite_self, Nat.reduceOr]

/-- forward may change: fwd, pmon. -/
theorem forward_view {M : Nat} (hM : 67109376 ||| M = M) (b : Nat) (p : Parse) (bytes : List Byte) (s : State) :
    (forward b p bytes s).1.view M = s.view M := by
  refine view_le hM ?_
  unfold forward
  (try simp only [countLookup_view, view_ite, foldl_view, ite_self, Nat.reduceOr]) <;> (repeat' split) <;> (try simp only [countLookup_view, view_ite, foldl_view, ite_self, Nat.reduceOr]) <;> (repeat' split) <;> (try simp only [countLookup_view, view_ite, foldl_view, ite_self, Nat.reduceOr])

/-- learn may change: fwd. -/
theorem learn_view {M : Nat} (hM : 512 ||| M = M) (b port : Nat) (bytes : List Byte) (s : State) :
    (learn b port bytes s).view M = s.view M := by
  refine view_le hM ?_
  unfold learn
  (try simp only [clearPoison_view, onFwd_view, view_ite, foldl_view, ite_self, Nat.reduceOr]) <;> (repeat' split) <;> (try simp only [clearPoison_view, onFwd_view, view_ite, foldl_view, ite_self, Nat.reduceOr]) <;> (repeat' split) <;> (try simp only [clearPoison_view, onFwd_view, view_ite, foldl_view, ite_self, Nat.reduceOr])

end Sys2Proof.Machine
end

