-- ==== Sys2Proof/Laws/KeepFabRoute.lean ====
section
/-! SUPPORT. What the operations of Machine/FabRoute.lean may change: one lemma for each. -/

namespace Sys2Proof.Machine

/-- onFab may change: fab. -/
theorem onFab_view {M : Nat} (hM : 8192 ||| M = M) (g : Fab → Fab) (s : State) :
    (onFab g s).view M = s.view M := by
  refine view_le hM ?_
  simp only [onFab, view_fab, view_ite, foldl_view, ite_self, Nat.reduceOr]

/-- onXl may change: xl. -/
theorem onXl_view {M : Nat} (hM : 4096 ||| M = M) (k : Nat) (g : Xl → Xl) (s : State) :
    (onXl k g s).view M = s.view M := by
  refine view_le hM ?_
  simp only [onXl, State.setXl_view, view_ite, foldl_view, ite_self, Nat.reduceOr]

/-- onXlQ may change: xl. -/
theorem onXlQ_view {M : Nat} (hM : 4096 ||| M = M) (k v h : Nat) (g : XlQueue → XlQueue) (s : State) :
    (onXlQ k v h g s).view M = s.view M := by
  refine view_le hM ?_
  simp only [onXlQ, onXl_view, view_ite, foldl_view, ite_self, Nat.reduceOr]

/-- handOn may change: rsv, xl, fab. -/
theorem handOn_view {M : Nat} (hM : 13312 ||| M = M) (m : Msg) (came : Option (Nat × Nat)) (s : State) :
    (handOn m came s).1.view M = s.view M := by
  refine view_le hM ?_
  unfold handOn
  (try simp only [onFab_view, onQueue_view, onXlQ_view, view_ite, foldl_view, ite_self, Nat.reduceOr]) <;> (repeat' split) <;> (try simp only [onFab_view, onQueue_view, onXlQ_view, view_ite, foldl_view, ite_self, Nat.reduceOr]) <;> (repeat' split) <;> (try simp only [onFab_view, onQueue_view, onXlQ_view, view_ite, foldl_view, ite_self, Nat.reduceOr])

/-- inject may change: rsv, xl, fab. -/
theorem inject_view {M : Nat} (hM : 13312 ||| M = M) (m : Msg) (s : State) :
    (inject m s).1.view M = s.view M := by
  refine view_le hM ?_
  unfold inject
  (try simp only [handOn_view, onFab_view, view_ite, foldl_view, ite_self, Nat.reduceOr]) <;> (repeat' split) <;> (try simp only [handOn_view, onFab_view, view_ite, foldl_view, ite_self, Nat.reduceOr]) <;> (repeat' split) <;> (try simp only [handOn_view, onFab_view, view_ite, foldl_view, ite_self, Nat.reduceOr])

end Sys2Proof.Machine
end

