-- ==== Sys2Proof/Laws/KeepHostOps.lean ====
section
/-! SUPPORT. What the operations of Machine/HostOps.lean may change: one lemma for each. -/

namespace Sys2Proof.Machine

/-- onRx may change: host. -/
theorem onRx_view {M : Nat} (hM : 8388608 ||| M = M) (b r : Nat) (g : RxRing → RxRing) (s : State) :
    (onRx b r g s).view M = s.view M := by
  refine view_le hM ?_
  simp only [onRx, view_host, view_ite, foldl_view, ite_self, Nat.reduceOr]

/-- onTx may change: host. -/
theorem onTx_view {M : Nat} (hM : 8388608 ||| M = M) (b r : Nat) (g : TxRing → TxRing) (s : State) :
    (onTx b r g s).view M = s.view M := by
  refine view_le hM ?_
  simp only [onTx, view_host, view_ite, foldl_view, ite_self, Nat.reduceOr]

/-- hostWrite may change: pmon, out. -/
theorem hostWrite_view {M : Nat} (hM : 17246978048 ||| M = M) (b addr : Nat) (data : List Byte) (s : State) :
    (hostWrite b addr data s).view M = s.view M := by
  refine view_le hM ?_
  simp only [hostWrite, count_view, emit_view, view_ite, foldl_view, ite_self, Nat.reduceOr]

/-- hostRead may change: pmon, out. -/
theorem hostRead_view {M : Nat} (hM : 17246978048 ||| M = M) (b addr len : Nat) (s : State) :
    (hostRead b addr len s).view M = s.view M := by
  refine view_le hM ?_
  simp only [hostRead, count_view, emit_view, view_ite, foldl_view, ite_self, Nat.reduceOr]

/-- signalRx may change: msix, host, out. -/
theorem signalRx_view {M : Nat} (hM : 17190354944 ||| M = M) (b r : Nat) (due : RxRing → Bool) (s : State) :
    (signalRx b r due s).view M = s.view M := by
  refine view_le hM ?_
  simp only [signalRx, onRx_view, sendMsix_view, view_ite, foldl_view, ite_self, Nat.reduceOr]

/-- signalTx may change: msix, host, out. -/
theorem signalTx_view {M : Nat} (hM : 17190354944 ||| M = M) (b r : Nat) (due : TxRing → Bool) (s : State) :
    (signalTx b r due s).view M = s.view M := by
  refine view_le hM ?_
  simp only [signalTx, onTx_view, sendMsix_view, view_ite, foldl_view, ite_self, Nat.reduceOr]

/-- writeDescs may change: pmon, out. -/
theorem writeDescs_view {M : Nat} (hM : 17246978048 ||| M = M) (b : Nat) (x : TxRing) (st : BitVec 8) (te : Nat) (x0 : List TxDesc) (x1 : Nat) (s : State) :
    (writeDescs b x st te x0 x1 s).view M = s.view M := by
  refine view_le hM ?_
  induction x0 generalizing x1 s with
  | nil => rfl
  | cons a l ih =>
    simp only [writeDescs]
    repeat' (first | with_reducible rfl | simp only [hostWrite_view, view_ite, foldl_view, ite_self, Nat.reduceOr, ih] | split | refine (foldl_view (fun s a => ?_) _ _).trans ?_ | (rename_i e; rw [fst_view e]) | (rename_i e _; rw [fst_view e]) | (rename_i e _ _; rw [fst_view e]))

/-- flushTx may change: msix, host, pmon, out. -/
theorem flushTx_view {M : Nat} (hM : 17257463808 ||| M = M) (x0 : Nat) (x1 : Nat) (x2 : Nat) (s : State) :
    (flushTx x0 x1 x2 s).view M = s.view M := by
  refine view_le hM ?_
  induction x0 generalizing x1 x2 s with
  | zero => rfl
  | succ n ih =>
    simp only [flushTx]
    repeat' (first | with_reducible rfl | simp only [onTx_view, signalTx_view, writeDescs_view, view_frames, view_ite, foldl_view, ite_self, Nat.reduceOr, ih] | split | refine (foldl_view (fun s a => ?_) _ _).trans ?_ | (rename_i e; rw [fst_view e]) | (rename_i e _; rw [fst_view e]) | (rename_i e _ _; rw [fst_view e]))

/-- txFate may change: msix, host, pmon, out. -/
theorem txFate_view {M : Nat} (hM : 17257463808 ||| M = M) (f b r : Nat) (st : BitVec 8) (te : Nat) (s : State) :
    (txFate f b r st te s).view M = s.view M := by
  refine view_le hM ?_
  simp only [txFate, flushTx_view, onTx_view, view_ite, foldl_view, ite_self, Nat.reduceOr]

end Sys2Proof.Machine
end

