-- ==== Sys2Proof/Laws/KeepFateOps.lean ====
section
/-! SUPPORT. What the operations of Machine/FateOps.lean may change: one lemma for each. -/

namespace Sys2Proof.Machine

/-- addFlags may change: frames. -/
theorem addFlags_view {M : Nat} (hM : 32 ||| M = M) (f : Nat) (b : BitVec 16) (s : State) :
    (addFlags f b s).view M = s.view M := by
  refine view_le hM ?_
  simp only [addFlags, onFrame_view, view_ite, foldl_view, ite_self, Nat.reduceOr]

/-- freeCtx may change: strn. -/
theorem freeCtx_view {M : Nat} (hM : 256 ||| M = M) (k : Nat) (s : State) :
    (freeCtx k s).view M = s.view M := by
  refine view_le hM ?_
  simp only [freeCtx, view_strn, view_ite, foldl_view, ite_self, Nat.reduceOr]

/-- flowTrace may change: trace. -/
theorem flowTrace_view {M : Nat} (hM : 134217728 ||| M = M) (x : Frame) (s : State) :
    (flowTrace x s).view M = s.view M := by
  refine view_le hM ?_
  simp only [flowTrace, onTrace_view, view_ite, foldl_view, ite_self, Nat.reduceOr]

/-- dropFrame may change: frames. -/
theorem dropFrame_view {M : Nat} (hM : 32 ||| M = M) (f : Nat) (s : State) :
    (dropFrame f s).view M = s.view M := by
  refine view_le hM ?_
  simp only [dropFrame, view_frames, view_ite, foldl_view, ite_self, Nat.reduceOr]

/-- finalize may change: frames, strn, msix, host, pmon, trace, out. -/
theorem finalize_view {M : Nat} (hM : 17391681824 ||| M = M) (f : Nat) (s : State) :
    (finalize f s).view M = s.view M := by
  refine view_le hM ?_
  unfold finalize
  (try simp only [dropFrame_view, flowTrace_view, freeCtx_view, onFrame_view, txFate_view, view_ite, foldl_view, ite_self, Nat.reduceOr]) <;> (repeat' split) <;> (try simp only [dropFrame_view, flowTrace_view, freeCtx_view, onFrame_view, txFate_view, view_ite, foldl_view, ite_self, Nat.reduceOr]) <;> (repeat' split) <;> (try simp only [dropFrame_view, flowTrace_view, freeCtx_view, onFrame_view, txFate_view, view_ite, foldl_view, ite_self, Nat.reduceOr])

/-- closeFrame may change: port, frames, strn, rsv, msix, host, pmon, trace, out. -/
theorem closeFrame_view {M : Nat} (hM : 17391682856 ||| M = M) (f : Nat) (s : State) :
    (closeFrame f s).view M = s.view M := by
  refine view_le hM ?_
  simp only [closeFrame, finalize_view, freeCells_view, onFrame_view, view_ite, foldl_view, ite_self, Nat.reduceOr]

/-- settleFrame may change: port, frames, strn, rsv, msix, host, pmon, trace, out. -/
theorem settleFrame_view {M : Nat} (hM : 17391682856 ||| M = M) (f : Nat) (s : State) :
    (settleFrame f s).view M = s.view M := by
  refine view_le hM ?_
  simp only [settleFrame, closeFrame_view, view_ite, foldl_view, ite_self, Nat.reduceOr]

/-- routeDone may change: port, frames, strn, rsv, msix, host, pmon, trace, out. -/
theorem routeDone_view {M : Nat} (hM : 17391682856 ||| M = M) (f : Nat) (s : State) :
    (routeDone f s).view M = s.view M := by
  refine view_le hM ?_
  simp only [routeDone, onFrame_view, settleFrame_view, view_ite, foldl_view, ite_self, Nat.reduceOr]

/-- dropWith may change: port, frames, strn, rsv, msix, host, pmon, trace, out. -/
theorem dropWith_view {M : Nat} (hM : 17391682856 ||| M = M) (f : Nat) (flags : BitVec 16) (s : State) :
    (dropWith f flags s).view M = s.view M := by
  refine view_le hM ?_
  simp only [dropWith, addFlags_view, routeDone_view, view_ite, foldl_view, ite_self, Nat.reduceOr]

/-- dropCopy may change: port, frames, strn, rsv, msix, host, pmon, trace, out. -/
theorem dropCopy_view {M : Nat} (hM : 17391682856 ||| M = M) (f q : Nat) (flags : BitVec 16) (s : State) :
    (dropCopy f q flags s).view M = s.view M := by
  refine view_le hM ?_
  simp only [dropCopy, addFlags_view, leaveQueue_view, settleFrame_view, view_ite, foldl_view, ite_self, Nat.reduceOr]

/-- copyEnds may change: port, frames, strn, rsv, msix, host, pmon, trace, out. -/
theorem copyEnds_view {M : Nat} (hM : 17391682856 ||| M = M) (f q : Nat) (s : State) :
    (copyEnds f q s).view M = s.view M := by
  refine view_le hM ?_
  simp only [copyEnds, onFrame_view, settleFrame_view, view_ite, foldl_view, ite_self, Nat.reduceOr]

/-- stampEgress may change: frames. -/
theorem stampEgress_view {M : Nat} (hM : 32 ||| M = M) (f q te : Nat) (kind : BitVec 2) (port : Nat) (s : State) :
    (stampEgress f q te kind port s).view M = s.view M := by
  refine view_le hM ?_
  simp only [stampEgress, onFrame_view, view_ite, foldl_view, ite_self, Nat.reduceOr]

/-- copyTo may change: frames, rsv. -/
theorem copyTo_view {M : Nat} (hM : 1056 ||| M = M) (f q : Nat) (s : State) :
    (copyTo f q s).1.view M = s.view M := by
  refine view_le hM ?_
  unfold copyTo
  (try simp only [joinQueue_view, onQueue_view, view_ite, foldl_view, ite_self, Nat.reduceOr]) <;> (repeat' split) <;> (try simp only [joinQueue_view, onQueue_view, view_ite, foldl_view, ite_self, Nat.reduceOr]) <;> (repeat' split) <;> (try simp only [joinQueue_view, onQueue_view, view_ite, foldl_view, ite_self, Nat.reduceOr])

/-- copyAll may change: frames, rsv. -/
theorem copyAll_view {M : Nat} (hM : 1056 ||| M = M) (f : Nat) (x0 : List Nat) (s : State) :
    (copyAll f x0 s).1.view M = s.view M := by
  refine view_le hM ?_
  induction x0 generalizing s with
  | nil => rfl
  | cons a l ih =>
    simp only [copyAll]
    repeat' (first | with_reducible rfl | simp only [copyTo_view, view_ite, foldl_view, ite_self, Nat.reduceOr, ih] | split | refine (foldl_view (fun s a => ?_) _ _).trans ?_ | (rename_i e; rw [fst_view e]) | (rename_i e _; rw [fst_view e]) | (rename_i e _ _; rw [fst_view e]))

/-- sendTo may change: port, frames, strn, rsv, msix, host, pmon, trace, out. -/
theorem sendTo_view {M : Nat} (hM : 17391682856 ||| M = M) (f q : Nat) (s : State) :
    (sendTo f q s).view M = s.view M := by
  refine view_le hM ?_
  simp only [sendTo, copyTo_view, dropWith_view, routeDone_view, view_ite, foldl_view, ite_self, Nat.reduceOr]

/-- sendFabric may change: port, frames, strn, rsv, xl, fab, msix, host, pmon, trace, out. -/
theorem sendFabric_view {M : Nat} (hM : 17391695144 ||| M = M) (f res : Nat) (s : State) :
    (sendFabric f res s).view M = s.view M := by
  refine view_le hM ?_
  unfold sendFabric
  repeat' (first | with_reducible rfl | simp only [dropWith_view, inject_view, onFab_view, onFrame_view, routeDone_view, sendTo_view, view_port, view_ite, foldl_view, ite_self, Nat.reduceOr] | split | refine (foldl_view (fun s a => ?_) _ _).trans ?_ | (rename_i e; rw [fst_view e]) | (rename_i e _; rw [fst_view e]) | (rename_i e _ _; rw [fst_view e]))

/-- sendResult may change: port, frames, strn, fwd, rsv, xl, fab, msix, host, pmon, trace, out. -/
theorem sendResult_view {M : Nat} (hM : 17391695656 ||| M = M) (f res : Nat) (s : State) :
    (sendResult f res s).view M = s.view M := by
  refine view_le hM ?_
  simp only [sendResult, copyAll_view, dropWith_view, onFwd_view, routeDone_view, sendFabric_view, sendTo_view, view_ite, foldl_view, ite_self, Nat.reduceOr]

/-- sendOn may change: port, frames, strn, fwd, rsv, xl, fab, msix, host, pmon, trace, out. -/
theorem sendOn_view {M : Nat} (hM : 17391695656 ||| M = M) (f : Nat) (s : State) :
    (sendOn f s).view M = s.view M := by
  refine view_le hM ?_
  unfold sendOn
  (try simp only [routeDone_view, sendResult_view, sendTo_view, view_ite, foldl_view, ite_self, Nat.reduceOr]) <;> (repeat' split) <;> (try simp only [routeDone_view, sendResult_view, sendTo_view, view_ite, foldl_view, ite_self, Nat.reduceOr]) <;> (repeat' split) <;> (try simp only [routeDone_view, sendResult_view, sendTo_view, view_ite, foldl_view, ite_self, Nat.reduceOr])

/-- sendMirror may change: frames, rsv. -/
theorem sendMirror_view {M : Nat} (hM : 1056 ||| M = M) (f : Nat) (s : State) :
    (sendMirror f s).view M = s.view M := by
  refine view_le hM ?_
  simp only [sendMirror, copyTo_view, onFrame_view, view_ite, foldl_view, ite_self, Nat.reduceOr]

/-- loseCopy may change: port, frames, rsv, out. -/
theorem loseCopy_view {M : Nat} (hM : 17179870248 ||| M = M) (f : Nat) (s : State) :
    (loseCopy f s).view M = s.view M := by
  refine view_le hM ?_
  simp only [loseCopy, freeCells_view, onFrame_view, onRsv_view, view_ite, foldl_view, ite_self, Nat.reduceOr]

/-- loseQueued may change: port, frames, strn, rsv, msix, host, pmon, trace, out. -/
theorem loseQueued_view {M : Nat} (hM : 17391682856 ||| M = M) (f : Nat) (s : State) :
    (loseQueued f s).view M = s.view M := by
  refine view_le hM ?_
  unfold loseQueued
  repeat' (first | with_reducible rfl | simp only [dropCopy_view, loseCopy_view, view_ite, foldl_view, ite_self, Nat.reduceOr] | split | refine (foldl_view (fun s a => ?_) _ _).trans ?_ | (rename_i e; rw [fst_view e]) | (rename_i e _; rw [fst_view e]) | (rename_i e _ _; rw [fst_view e]))

/-- unhold may change: frames, weir. -/
theorem unhold_view {M : Nat} (hM : 2080 ||| M = M) (f : Nat) (s : State) :
    (unhold f s).view M = s.view M := by
  refine view_le hM ?_
  simp only [unhold, onFrame_view, onWeirB_view, view_ite, foldl_view, ite_self, Nat.reduceOr]

/-- rejectHeld may change: port, frames, strn, rsv, weir, msix, host, pmon, trace, out. -/
theorem rejectHeld_view {M : Nat} (hM : 17391684904 ||| M = M) (f reason : Nat) (s : State) :
    (rejectHeld f reason s).view M = s.view M := by
  refine view_le hM ?_
  simp only [rejectHeld, countVerdict_view, onFrame_view, routeDone_view, unhold_view, view_ite, foldl_view, ite_self, Nat.reduceOr]

/-- holdFrame may change: port, frames, strn, rsv, weir, mbx, msix, host, pmon, trace, out. -/
theorem holdFrame_view {M : Nat} (hM : 17392733480 ||| M = M) (f : Nat) (s : State) :
    (holdFrame f s).view M = s.view M := by
  refine view_le hM ?_
  simp only [holdFrame, onFrame_view, onWeirB_view, postEvent_view, rejectHeld_view, view_ite, foldl_view, ite_self, Nat.reduceOr]

/-- acceptHeld may change: port, frames, strn, fwd, rsv, weir, xl, fab, msix, host, pmon, trace, out. -/
theorem acceptHeld_view {M : Nat} (hM : 17391697704 ||| M = M) (f : Nat) (upd : Option Updates) (create : Option Nat) (s : State) :
    (acceptHeld f upd create s).view M = s.view M := by
  refine view_le hM ?_
  unfold acceptHeld
  (try simp only [applyUpd_view, countVerdict_view, onFrame_view, onWeirB_view, sendOn_view, unhold_view, view_ite, foldl_view, ite_self, Nat.reduceOr]) <;> (repeat' split) <;> (try simp only [applyUpd_view, countVerdict_view, onFrame_view, onWeirB_view, sendOn_view, unhold_view, view_ite, foldl_view, ite_self, Nat.reduceOr]) <;> (repeat' split) <;> (try simp only [applyUpd_view, countVerdict_view, onFrame_view, onWeirB_view, sendOn_view, unhold_view, view_ite, foldl_view, ite_self, Nat.reduceOr])

/-- divert may change: port, frames, strn, rsv, weir, mbx, msix, host, pmon, trace, out. -/
theorem divert_view {M : Nat} (hM : 17392733480 ||| M = M) (f reason : Nat) (s : State) :
    (divert f reason s).view M = s.view M := by
  refine view_le hM ?_
  simp only [divert, dropWith_view, holdFrame_view, onFrame_view, reverseFrame_view, routeDone_view, sendMirror_view, sendTo_view, view_ite, foldl_view, ite_self, Nat.reduceOr]

/-- decide1 may change: port, frames, strn, rsv, weir, mbx, msix, host, pmon, trace, out. -/
theorem decide1_view {M : Nat} (hM : 17392733480 ||| M = M) (f : Nat) (s : State) :
    (decide1 f s).view M = s.view M := by
  refine view_le hM ?_
  simp only [decide1, count_view, divert_view, onFrame_view, onPort_view, view_ite, foldl_view, ite_self, Nat.reduceOr]

end Sys2Proof.Machine
end

