-- ==== Sys2Proof/Laws/KeepIngress.lean ====
section
/-! SUPPORT. What the operations of Machine/Ingress.lean may change: one lemma for each. -/

namespace Sys2Proof.Machine

/-- onPump may change: pump. -/
theorem onPump_view {M : Nat} (hM : 128 ||| M = M) (g : Pump → Pump) (s : State) :
    (onPump g s).view M = s.view M := by
  refine view_le hM ?_
  simp only [onPump, view_pump, view_ite, foldl_view, ite_self, Nat.reduceOr]

/-- onEngine may change: pump. -/
theorem onEngine_view {M : Nat} (hM : 128 ||| M = M) (e : Nat) (g : Engine → Engine) (s : State) :
    (onEngine e g s).view M = s.view M := by
  refine view_le hM ?_
  simp only [onEngine, onPump_view, view_ite, foldl_view, ite_self, Nat.reduceOr]

/-- giveContext may change: frames, pump. -/
theorem giveContext_view {M : Nat} (hM : 160 ||| M = M) (f e : Nat) (s : State) :
    (giveContext f e s).view M = s.view M := by
  refine view_le hM ?_
  simp only [giveContext, onEngine_view, onFrame_view, onPump_view, view_ite, foldl_view, ite_self, Nat.reduceOr]

/-- neverParsed may change: frames, pump, ledg, sump. -/
theorem neverParsed_view {M : Nat} (hM : 16842912 ||| M = M) (f : Nat) (s : State) :
    (neverParsed f s).view M = s.view M := by
  refine view_le hM ?_
  simp only [neverParsed, State.setChain_view, onFrame_view, onPump_view, raise_view, view_ite, foldl_view, ite_self, Nat.reduceOr]

/-- dispatchHeader may change: frames, pump, ledg, sump. -/
theorem dispatchHeader_view {M : Nat} (hM : 16842912 ||| M = M) (f : Nat) (s : State) :
    (dispatchHeader f s).view M = s.view M := by
  refine view_le hM ?_
  unfold dispatchHeader
  (try simp only [giveContext_view, neverParsed_view, onPump_view, view_ite, foldl_view, ite_self, Nat.reduceOr]) <;> (repeat' split) <;> (try simp only [giveContext_view, neverParsed_view, onPump_view, view_ite, foldl_view, ite_self, Nat.reduceOr]) <;> (repeat' split) <;> (try simp only [giveContext_view, neverParsed_view, onPump_view, view_ite, foldl_view, ite_self, Nat.reduceOr])

/-- countRx may change: port. -/
theorem countRx_view {M : Nat} (hM : 8 ||| M = M) (p len : Nat) (fcsBad runt oversize : Bool) (s : State) :
    (countRx p len fcsBad runt oversize s).view M = s.view M := by
  refine view_le hM ?_
  simp only [countRx, onPort_view, view_ite, foldl_view, ite_self, Nat.reduceOr]

/-- beginFrame may change: frames, nextFrame, pump, ledg, sump. -/
theorem beginFrame_view {M : Nat} (hM : 16842976 ||| M = M) (p b : Nat) (bytes : List Byte) (phase : Nat) (s : State) :
    (beginFrame p b bytes phase s).view M = s.view M := by
  refine view_le hM ?_
  simp only [beginFrame, State.setFrame_view, dispatchHeader_view, view_nextFrame, view_ite, foldl_view, ite_self, Nat.reduceOr]

/-- execFrameStart may change: glb, port, frames, nextFrame, pump, ledg, sump. -/
theorem execFrameStart_kept {M : Nat} (hM : 16842985 ||| M = M) (p : Fin 64) (bytes : List Byte) (phase : Fin 32) (s : State) :
    Kept M s (execFrameStart p bytes phase s) := by
  refine Kept.le hM ?_
  unfold execFrameStart
  (try simp only [beginFrame_view, countRx_view, view_glb, view_ite, foldl_view, ite_self, Nat.reduceOr, kept_ite, keeps_ite, kept_next, keeps_ok, keeps_err, keeps_failed, keeps_later]) <;> (repeat' split) <;> (try simp only [beginFrame_view, countRx_view, view_glb, view_ite, foldl_view, ite_self, Nat.reduceOr, kept_ite, keeps_ite, kept_next, keeps_ok, keeps_err, keeps_failed, keeps_later]) <;> (repeat' split) <;> (try simp only [beginFrame_view, countRx_view, view_glb, view_ite, foldl_view, ite_self, Nat.reduceOr, kept_ite, keeps_ite, kept_next, keeps_ok, keeps_err, keeps_failed, keeps_later])

/-- execHoldingBufferDispatch may change: frames, pump. -/
theorem execHoldingBufferDispatch_kept {M : Nat} (hM : 160 ||| M = M) (s : State) :
    Kept M s (execHoldingBufferDispatch s) := by
  refine Kept.le hM ?_
  unfold execHoldingBufferDispatch
  (try simp only [giveContext_view, onPump_view, view_ite, foldl_view, ite_self, Nat.reduceOr, kept_ite, keeps_ite, kept_next, keeps_ok, keeps_err, keeps_failed, keeps_later]) <;> (repeat' split) <;> (try simp only [giveContext_view, onPump_view, view_ite, foldl_view, ite_self, Nat.reduceOr, kept_ite, keeps_ite, kept_next, keeps_ok, keeps_err, keeps_failed, keeps_later]) <;> (repeat' split) <;> (try simp only [giveContext_view, onPump_view, view_ite, foldl_view, ite_self, Nat.reduceOr, kept_ite, keeps_ite, kept_next, keeps_ok, keeps_err, keeps_failed, keeps_later])

/-- growTo may change: port, frames, strn, rsv, msix, host, pmon, trace, out. -/
theorem growTo_view {M : Nat} (hM : 17391682856 ||| M = M) (f n : Nat) (s : State) :
    (growTo f n s).view M = s.view M := by
  refine view_le hM ?_
  simp only [growTo, dropWith_view, loseCopy_view, loseQueued_view, takeCells_view, view_ite, foldl_view, ite_self, Nat.reduceOr]

/-- execCellAllocate may change: port, frames, strn, rsv, msix, host, pmon, trace, out. -/
theorem execCellAllocate_kept {M : Nat} (hM : 17391682856 ||| M = M) (f : Nat) (s : State) :
    Kept M s (execCellAllocate f s) := by
  refine Kept.le hM ?_
  unfold execCellAllocate
  simp only [growTo_view, view_ite, foldl_view, ite_self, Nat.reduceOr, kept_ite, keeps_ite, kept_next, keeps_ok, keeps_err, keeps_failed, keeps_later]

/-- toReservoir may change: port, frames, strn, rsv, msix, host, pmon, trace, out. -/
theorem toReservoir_view {M : Nat} (hM : 17391682856 ||| M = M) (f : Nat) (s : State) :
    (toReservoir f s).view M = s.view M := by
  refine view_le hM ?_
  simp only [toReservoir, dropWith_view, view_ite, foldl_view, ite_self, Nat.reduceOr]

/-- breakEntry may change: rsv, sump. -/
theorem breakEntry_view {M : Nat} (hM : 16778240 ||| M = M) (i : Nat) (s : State) :
    (breakEntry i s).view M = s.view M := by
  refine view_le hM ?_
  simp only [breakEntry, onRsv_view, raise_view, view_ite, foldl_view, ite_self, Nat.reduceOr]

/-- execLaunchLookup may change: port, frames, strn, rsv, msix, host, sump, pmon, trace, out. -/
theorem execLaunchLookup_kept {M : Nat} (hM : 17408460072 ||| M = M) (f : Nat) (err : EccErr) (s0 : State) :
    Kept M s0 (execLaunchLookup f err s0) := by
  refine Kept.le hM ?_
  unfold execLaunchLookup
  (try simp only [breakEntry_view, count_view, onEgress_view, onFrame_view, onRsv_view, toReservoir_view, view_ite, foldl_view, ite_self, Nat.reduceOr, kept_ite, keeps_ite, kept_next, keeps_ok, keeps_err, keeps_failed, keeps_later]) <;> (repeat' split) <;> (try simp only [breakEntry_view, count_view, onEgress_view, onFrame_view, onRsv_view, toReservoir_view, view_ite, foldl_view, ite_self, Nat.reduceOr, kept_ite, keeps_ite, kept_next, keeps_ok, keeps_err, keeps_failed, keeps_later]) <;> (repeat' split) <;> (try simp only [breakEntry_view, count_view, onEgress_view, onFrame_view, onRsv_view, toReservoir_view, view_ite, foldl_view, ite_self, Nat.reduceOr, kept_ite, keeps_ite, kept_next, keeps_ok, keeps_err, keeps_failed, keeps_later])

/-- execConfirmCompare may change: frames. -/
theorem execConfirmCompare_kept {M : Nat} (hM : 32 ||| M = M) (f : Nat) (s : State) :
    Kept M s (execConfirmCompare f s) := by
  refine Kept.le hM ?_
  unfold execConfirmCompare
  simp only [onFrame_view, view_ite, foldl_view, ite_self, Nat.reduceOr, kept_ite, keeps_ite, kept_next, keeps_ok, keeps_err, keeps_failed, keeps_later]

/-- endFrame may change: port, frames, strn, fwd, rsv, msix, host, pmon, trace, out. -/
theorem endFrame_view {M : Nat} (hM : 17391683368 ||| M = M) (f : Nat) (s : State) :
    (endFrame f s).view M = s.view M := by
  refine view_le hM ?_
  simp only [endFrame, count_view, countRx_view, finalize_view, growTo_view, learn_view, onFrame_view, routeDone_view, view_ite, foldl_view, ite_self, Nat.reduceOr]

/-- cutOversize may change: port, frames, strn, fwd, rsv, msix, host, pmon, trace, out. -/
theorem cutOversize_view {M : Nat} (hM : 17391683368 ||| M = M) (f : Nat) (s : State) :
    (cutOversize f s).view M = s.view M := by
  refine view_le hM ?_
  simp only [cutOversize, endFrame_view, onFrame_view, view_ite, foldl_view, ite_self, Nat.reduceOr]

/-- execOversizeCut may change: port, frames, strn, fwd, rsv, msix, host, pmon, trace, out. -/
theorem execOversizeCut_kept {M : Nat} (hM : 17391683368 ||| M = M) (f : Nat) (s : State) :
    Kept M s (execOversizeCut f s) := by
  refine Kept.le hM ?_
  unfold execOversizeCut
  simp only [cutOversize_view, view_ite, foldl_view, ite_self, Nat.reduceOr, kept_ite, keeps_ite, kept_next, keeps_ok, keeps_err, keeps_failed, keeps_later]

/-- countFec may change: port. -/
theorem countFec_view {M : Nat} (hM : 8 ||| M = M) (p corr uncorr : Nat) (s : State) :
    (countFec p corr uncorr s).view M = s.view M := by
  refine view_le hM ?_
  simp only [countFec, onPort_view, view_ite, foldl_view, ite_self, Nat.reduceOr]

/-- execIngressFrameEnd may change: port, frames, strn, fwd, rsv, msix, host, pmon, trace, out. -/
theorem execIngressFrameEnd_kept {M : Nat} (hM : 17391683368 ||| M = M) (f fecCorr fecUncorr : Nat) (s0 : State) :
    Kept M s0 (execIngressFrameEnd f fecCorr fecUncorr s0) := by
  refine Kept.le hM ?_
  unfold execIngressFrameEnd
  simp only [countFec_view, cutOversize_view, endFrame_view, view_ite, foldl_view, ite_self, Nat.reduceOr, kept_ite, keeps_ite, kept_next, keeps_ok, keeps_err, keeps_failed, keeps_later]

end Sys2Proof.Machine
end

