-- ==== Sys2Proof/Laws/KeepStrnOps.lean ====
section
/-! SUPPORT. What the operations of Machine/StrnOps.lean may change: one lemma for each. -/

namespace Sys2Proof.Machine

/-- onStrn may change: strn. -/
theorem onStrn_view {M : Nat} (hM : 256 ||| M = M) (g : Strn → Strn) (s : State) :
    (onStrn g s).view M = s.view M := by
  refine view_le hM ?_
  simp only [onStrn, view_strn, view_ite, foldl_view, ite_self, Nat.reduceOr]

/-- onStrnB may change: strn. -/
theorem onStrnB_view {M : Nat} (hM : 256 ||| M = M) (b : Nat) (g : StrnB → StrnB) (s : State) :
    (onStrnB b g s).view M = s.view M := by
  refine view_le hM ?_
  simp only [onStrnB, onStrn_view, view_ite, foldl_view, ite_self, Nat.reduceOr]

/-- setRule may change: strn. -/
theorem setRule_view {M : Nat} (hM : 256 ||| M = M) (i : Nat) (r : Rule) (s : State) :
    (setRule i r s).view M = s.view M := by
  refine view_le hM ?_
  simp only [setRule, onStrn_view, view_ite, foldl_view, ite_self, Nat.reduceOr]

/-- takeCtx may change: strn. -/
theorem takeCtx_view {M : Nat} (hM : 256 ||| M = M) (b first : Nat) (key : List Byte) (frame : Option Nat) (s : State) :
    (takeCtx b first key frame s).1.view M = s.view M := by
  refine view_le hM ?_
  unfold takeCtx
  (try simp only [onStrn_view, view_ite, foldl_view, ite_self, Nat.reduceOr]) <;> (repeat' split) <;> (try simp only [onStrn_view, view_ite, foldl_view, ite_self, Nat.reduceOr]) <;> (repeat' split) <;> (try simp only [onStrn_view, view_ite, foldl_view, ite_self, Nat.reduceOr])

/-- countStrn may change: strn, pmon. -/
theorem countStrn_view {M : Nat} (hM : 67109120 ||| M = M) (b first : Nat) (hit multi : Bool) (s : State) :
    (countStrn b first hit multi s).view M = s.view M := by
  refine view_le hM ?_
  simp only [countStrn, count_view, onStrn_view, onStrnB_view, view_ite, foldl_view, ite_self, Nat.reduceOr]

/-- strnLookup may change: strn, pmon. -/
theorem strnLookup_view {M : Nat} (hM : 67109120 ||| M = M) (b : Nat) (key : List Byte) (frame : Option Nat) (s : State) :
    (strnLookup b key frame s).1.view M = s.view M := by
  refine view_le hM ?_
  unfold strnLookup
  (try simp only [countStrn_view, takeCtx_view, view_port, view_ite, foldl_view, ite_self, Nat.reduceOr]) <;> (repeat' split) <;> (try simp only [countStrn_view, takeCtx_view, view_port, view_ite, foldl_view, ite_self, Nat.reduceOr]) <;> (repeat' split) <;> (try simp only [countStrn_view, takeCtx_view, view_port, view_ite, foldl_view, ite_self, Nat.reduceOr])

/-- installSet may change: strn. -/
theorem installSet_view {M : Nat} (hM : 256 ||| M = M) (b : Nat) (img : List Byte) (s : State) :
    (installSet b img s).view M = s.view M := by
  refine view_le hM ?_
  simp only [installSet, onStrnB_view, view_ite, foldl_view, ite_self, Nat.reduceOr]

/-- settleSet may change: strn. -/
theorem settleSet_view {M : Nat} (hM : 256 ||| M = M) (b : Nat) (s : State) :
    (settleSet b s).view M = s.view M := by
  refine view_le hM ?_
  unfold settleSet
  (try simp only [installSet_view, view_ite, foldl_view, ite_self, Nat.reduceOr]) <;> (repeat' split) <;> (try simp only [installSet_view, view_ite, foldl_view, ite_self, Nat.reduceOr]) <;> (repeat' split) <;> (try simp only [installSet_view, view_ite, foldl_view, ite_self, Nat.reduceOr])

/-- execStrainerLookup may change: frames, strn, pmon. -/
theorem execStrainerLookup_kept {M : Nat} (hM : 67109152 ||| M = M) (f : Nat) (s : State) :
    Kept M s (execStrainerLookup f s) := by
  refine Kept.le hM ?_
  unfold execStrainerLookup
  simp only [onFrame_view, settleSet_view, strnLookup_view, view_strn, view_ite, foldl_view, ite_self, Nat.reduceOr, kept_ite, keeps_ite, kept_next, keeps_ok, keeps_err, keeps_failed, keeps_later]

/-- execHandleAgeExpiry may change: frames, strn. -/
theorem execHandleAgeExpiry_kept {M : Nat} (hM : 288 ||| M = M) (b : Fin 16) (slot : Fin 64) (s : State) :
    Kept M s (execHandleAgeExpiry b slot s) := by
  refine Kept.le hM ?_
  unfold execHandleAgeExpiry
  (try simp only [freeCtx_view, onFrame_view, view_ite, foldl_view, ite_self, Nat.reduceOr, kept_ite, keeps_ite, kept_next, keeps_ok, keeps_err, keeps_failed, keeps_later]) <;> (repeat' split) <;> (try simp only [freeCtx_view, onFrame_view, view_ite, foldl_view, ite_self, Nat.reduceOr, kept_ite, keeps_ite, kept_next, keeps_ok, keeps_err, keeps_failed, keeps_later]) <;> (repeat' split) <;> (try simp only [freeCtx_view, onFrame_view, view_ite, foldl_view, ite_self, Nat.reduceOr, kept_ite, keeps_ite, kept_next, keeps_ok, keeps_err, keeps_failed, keeps_later])

end Sys2Proof.Machine
end

