-- ==== Sys2Proof/Laws/KeepJudging.lean ====
section
/-! SUPPORT. What the operations of Machine/Judging.lean may change: one lemma for each. -/

namespace Sys2Proof.Machine

/-- storeFrag may change: pump. -/
theorem storeFrag_view {M : Nat} (hM : 128 ||| M = M) (f : Nat) (h : FragHdr) (s : State) :
    (storeFrag f h s).view M = s.view M := by
  refine view_le hM ?_
  unfold storeFrag
  (try simp only [onPump_view, view_fwd, view_ite, foldl_view, ite_self, Nat.reduceOr]) <;> (repeat' split) <;> (try simp only [onPump_view, view_fwd, view_ite, foldl_view, ite_self, Nat.reduceOr]) <;> (repeat' split) <;> (try simp only [onPump_view, view_fwd, view_ite, foldl_view, ite_self, Nat.reduceOr])

/-- updateFrag may change: pump. -/
theorem updateFrag_view {M : Nat} (hM : 128 ||| M = M) (f : Nat) (s : State) :
    (updateFrag f s).view M = s.view M := by
  refine view_le hM ?_
  unfold updateFrag
  (try simp only [onPump_view, view_fwd, view_ite, foldl_view, ite_self, Nat.reduceOr]) <;> (repeat' split) <;> (try simp only [onPump_view, view_fwd, view_ite, foldl_view, ite_self, Nat.reduceOr]) <;> (repeat' split) <;> (try simp only [onPump_view, view_fwd, view_ite, foldl_view, ite_self, Nat.reduceOr])

/-- execFragAgeExpiry may change: pump. -/
theorem execFragAgeExpiry_kept {M : Nat} (hM : 128 ||| M = M) (k : Fin 4096) (s : State) :
    Kept M s (execFragAgeExpiry k s) := by
  refine Kept.le hM ?_
  unfold execFragAgeExpiry
  simp only [onPump_view, view_ite, foldl_view, ite_self, Nat.reduceOr, kept_ite, keeps_ite, kept_next, keeps_ok, keeps_err, keeps_failed, keeps_later]

/-- verdictArrives may change: port, frames, strn, rsv, weir, mbx, msix, host, pmon, trace, out. -/
theorem verdictArrives_view {M : Nat} (hM : 17392733480 ||| M = M) (f v reason : Nat) (upd : Option Updates) (create : Option Nat) (s : State) :
    (verdictArrives f v reason upd create s).view M = s.view M := by
  refine view_le hM ?_
  unfold verdictArrives
  (try simp only [applyUpd_view, count_view, holdFrame_view, onFrame_view, reverseFrame_view, view_ite, foldl_view, ite_self, Nat.reduceOr]) <;> (repeat' split) <;> (try simp only [applyUpd_view, count_view, holdFrame_view, onFrame_view, reverseFrame_view, view_ite, foldl_view, ite_self, Nat.reduceOr]) <;> (repeat' split) <;> (try simp only [applyUpd_view, count_view, holdFrame_view, onFrame_view, reverseFrame_view, view_ite, foldl_view, ite_self, Nat.reduceOr])

/-- execWeirVerdict may change: port, frames, pump, strn, rsv, weir, mbx, msix, host, pmon, trace, out. -/
theorem execWeirVerdict_kept {M : Nat} (hM : 17392733608 ||| M = M) (f : Nat) (s : State) :
    Kept M s (execWeirVerdict f s) := by
  refine Kept.le hM ?_
  unfold execWeirVerdict
  (try simp only [countVerdict_view, finalize_view, updateFrag_view, verdictArrives_view, view_ite, foldl_view, ite_self, Nat.reduceOr, kept_ite, keeps_ite, kept_next, keeps_ok, keeps_err, keeps_failed, keeps_later]) <;> (repeat' split) <;> (try simp only [countVerdict_view, finalize_view, updateFrag_view, verdictArrives_view, view_ite, foldl_view, ite_self, Nat.reduceOr, kept_ite, keeps_ite, kept_next, keeps_ok, keeps_err, keeps_failed, keeps_later]) <;> (repeat' split) <;> (try simp only [countVerdict_view, finalize_view, updateFrag_view, verdictArrives_view, view_ite, foldl_view, ite_self, Nat.reduceOr, kept_ite, keeps_ite, kept_next, keeps_ok, keeps_err, keeps_failed, keeps_later])

/-- execForwardingResult may change: frames, pump, fwd, pmon. -/
theorem execForwardingResult_kept {M : Nat} (hM : 67109536 ||| M = M) (f : Nat) (s : State) :
    Kept M s (execForwardingResult f s) := by
  refine Kept.le hM ?_
  unfold execForwardingResult
  simp only [forward_view, onFrame_view, updateFrag_view, view_fwd, view_rdma, view_ite, foldl_view, ite_self, Nat.reduceOr, kept_ite, keeps_ite, kept_next, keeps_ok, keeps_err, keeps_failed, keeps_later]

/-- reserveFor may change: frames, ledg, cist, pmon, out. -/
theorem reserveFor_view {M : Nat} (hM : 17247174688 ||| M = M) (f : Nat) (s : State) :
    (reserveFor f s).view M = s.view M := by
  refine view_le hM ?_
  simp only [reserveFor, onFrame_view, refuseFull_view, reserveSlot_view, view_ite, foldl_view, ite_self, Nat.reduceOr]

/-- countParse may change: pump, pmon. -/
theorem countParse_view {M : Nat} (hM : 67108992 ||| M = M) (f : Nat) (r : Parsed) (s : State) :
    (countParse f r s).view M = s.view M := by
  refine view_le hM ?_
  simp only [countParse, count_view, onPump_view, view_ite, foldl_view, ite_self, Nat.reduceOr]

/-- commitFrag may change: port, frames, pump, strn, rsv, weir, mbx, msix, host, pmon, trace, out. -/
theorem commitFrag_view {M : Nat} (hM : 17392733608 ||| M = M) (f : Nat) (r : Parsed) (s : State) :
    (commitFrag f r s).view M = s.view M := by
  refine view_le hM ?_
  unfold commitFrag
  (try simp only [onFrame_view, onPump_view, storeFrag_view, verdictArrives_view, view_fwd, view_ite, foldl_view, ite_self, Nat.reduceOr]) <;> (repeat' split) <;> (try simp only [onFrame_view, onPump_view, storeFrag_view, verdictArrives_view, view_fwd, view_ite, foldl_view, ite_self, Nat.reduceOr]) <;> (repeat' split) <;> (try simp only [onFrame_view, onPump_view, storeFrag_view, verdictArrives_view, view_fwd, view_ite, foldl_view, ite_self, Nat.reduceOr])

/-- commit may change: port, frames, pump, strn, rsv, weir, ledg, cist, mbx, msix, host, pmon, trace, out. -/
theorem commit_view {M : Nat} (hM : 17392930216 ||| M = M) (f e : Nat) (r : Parsed) (s : State) :
    (commit f e r s).view M = s.view M := by
  refine view_le hM ?_
  simp only [commit, commitFrag_view, countParse_view, finalize_view, onEngine_view, onFrame_view, reserveFor_view, view_ite, foldl_view, ite_self, Nat.reduceOr]

/-- execParseCommit may change: port, frames, pump, strn, rsv, weir, ledg, cist, mbx, msix, host, pmon, trace, out. -/
theorem execParseCommit_kept {M : Nat} (hM : 17392930216 ||| M = M) (f : Nat) (s : State) :
    Kept M s (execParseCommit f s) := by
  refine Kept.le hM ?_
  unfold execParseCommit
  (try simp only [commit_view, view_ite, foldl_view, ite_self, Nat.reduceOr, kept_ite, keeps_ite, kept_next, keeps_ok, keeps_err, keeps_failed, keeps_later]) <;> (repeat' split) <;> (try simp only [commit_view, view_ite, foldl_view, ite_self, Nat.reduceOr, kept_ite, keeps_ite, kept_next, keeps_ok, keeps_err, keeps_failed, keeps_later]) <;> (repeat' split) <;> (try simp only [commit_view, view_ite, foldl_view, ite_self, Nat.reduceOr, kept_ite, keeps_ite, kept_next, keeps_ok, keeps_err, keeps_failed, keeps_later])

end Sys2Proof.Machine
end

