-- ==== Sys2Proof/Laws/KeepEgressPath.lean ====
section
/-! SUPPORT. What the operations of Machine/EgressPath.lean may change: one lemma for each. -/

namespace Sys2Proof.Machine

/-- execStompDecision may change: port, frames, strn, rsv, weir, mbx, msix, host, pmon, trace, out. -/
theorem execStompDecision_kept {M : Nat} (hM : 17392733480 ||| M = M) (f : Nat) (s : State) :
    Kept M s (execStompDecision f s) := by
  refine Kept.le hM ?_
  unfold execStompDecision
  simp only [decide1_view, view_ite, foldl_view, ite_self, Nat.reduceOr, kept_ite, keeps_ite, kept_next, keeps_ok, keeps_err, keeps_failed, keeps_later]

/-- countDenied may change: rdma. -/
theorem countDenied_view {M : Nat} (hM : 32768 ||| M = M) (x : Frame) (s : State) :
    (countDenied x s).view M = s.view M := by
  refine view_le hM ?_
  simp only [countDenied, view_rdma, view_ite, foldl_view, ite_self, Nat.reduceOr]

/-- enqueueFailed may change: port, frames, strn, fwd, rsv, xl, fab, rdma, msix, host, pmon, trace, out. -/
theorem enqueueFailed_view {M : Nat} (hM : 17391728424 ||| M = M) (f : Nat) (s : State) :
    (enqueueFailed f s).view M = s.view M := by
  refine view_le hM ?_
  simp only [enqueueFailed, countDenied_view, routeDone_view, sendMirror_view, sendOn_view, sendTo_view, view_ite, foldl_view, ite_self, Nat.reduceOr]

/-- enqueueFrame may change: port, frames, strn, fwd, rsv, xl, fab, rdma, msix, host, pmon, trace, out. -/
theorem enqueueFrame_view {M : Nat} (hM : 17391728424 ||| M = M) (f : Nat) (s : State) :
    (enqueueFrame f s).view M = s.view M := by
  refine view_le hM ?_
  simp only [enqueueFrame, countDenied_view, dropWith_view, enqueueFailed_view, routeDone_view, sendOn_view, view_ite, foldl_view, ite_self, Nat.reduceOr]

/-- execEnqueue may change: port, frames, strn, fwd, rsv, xl, fab, rdma, msix, host, pmon, trace, out. -/
theorem execEnqueue_kept {M : Nat} (hM : 17391728424 ||| M = M) (f : Nat) (s : State) :
    Kept M s (execEnqueue f s) := by
  refine Kept.le hM ?_
  unfold execEnqueue
  simp only [enqueueFrame_view, onFrame_view, view_ite, foldl_view, ite_self, Nat.reduceOr, kept_ite, keeps_ite, kept_next, keeps_ok, keeps_err, keeps_failed, keeps_later]

/-- leaveFifo may change: frames, rsv. -/
theorem leaveFifo_view {M : Nat} (hM : 1056 ||| M = M) (p f : Nat) (s : State) :
    (leaveFifo p f s).view M = s.view M := by
  refine view_le hM ?_
  simp only [leaveFifo, onEgress_view, onFrame_view, view_ite, foldl_view, ite_self, Nat.reduceOr]

/-- dropFerry may change: port, frames, strn, rsv, msix, host, pmon, trace, out. -/
theorem dropFerry_view {M : Nat} (hM : 17391682856 ||| M = M) (p f : Nat) (flags : BitVec 16) (s : State) :
    (dropFerry p f flags s).view M = s.view M := by
  refine view_le hM ?_
  simp only [dropFerry, dropWith_view, leaveFifo_view, onFrame_view, view_ite, foldl_view, ite_self, Nat.reduceOr]

/-- takeFrom may change: frames, rsv. -/
theorem takeFrom_view {M : Nat} (hM : 1056 ||| M = M) (q f : Nat) (s : State) :
    (takeFrom q f s).view M = s.view M := by
  refine view_le hM ?_
  simp only [takeFrom, onFrame_view, onQueue_view, view_ite, foldl_view, ite_self, Nat.reduceOr]

/-- dropLostHeads may change: port, frames, strn, rsv, msix, host, pmon, trace, out. -/
theorem dropLostHeads_view {M : Nat} (hM : 17391682856 ||| M = M) (q : Nat) (x0 : Nat) (s : State) :
    (dropLostHeads q x0 s).view M = s.view M := by
  refine view_le hM ?_
  induction x0 generalizing s with
  | zero => rfl
  | succ n ih =>
    simp only [dropLostHeads]
    repeat' (first | with_reducible rfl | simp only [dropCopy_view, onRsv_view, view_ite, foldl_view, ite_self, Nat.reduceOr, ih] | split | refine (foldl_view (fun s a => ?_) _ _).trans ?_ | (rename_i e; rw [fst_view e]) | (rename_i e _; rw [fst_view e]) | (rename_i e _ _; rw [fst_view e]))

/-- dropDown may change: port, frames, strn, rsv, msix, host, pmon, trace, out. -/
theorem dropDown_view {M : Nat} (hM : 17391682856 ||| M = M) (q : Nat) (s : State) :
    (dropDown q s).view M = s.view M := by
  refine view_le hM ?_
  unfold dropDown
  repeat' (first | with_reducible rfl | simp only [dropCopy_view, onPort_view, view_ite, foldl_view, ite_self, Nat.reduceOr] | split | refine (foldl_view (fun s a => ?_) _ _).trans ?_ | (rename_i e; rw [fst_view e]) | (rename_i e _; rw [fst_view e]) | (rename_i e _ _; rw [fst_view e]))

/-- dropPort may change: port, frames, strn, rsv, msix, host, pmon, trace, out. -/
theorem dropPort_view {M : Nat} (hM : 17391682856 ||| M = M) (p : Nat) (s : State) :
    (dropPort p s).view M = s.view M := by
  refine view_le hM ?_
  unfold dropPort
  repeat' (first | with_reducible rfl | simp only [dropDown_view, dropFerry_view, onPort_view, view_ite, foldl_view, ite_self, Nat.reduceOr] | split | refine (foldl_view (fun s a => ?_) _ _).trans ?_ | (rename_i e; rw [fst_view e]) | (rename_i e _; rw [fst_view e]) | (rename_i e _ _; rw [fst_view e]))

/-- drrServe may change: rsv. -/
theorem drrServe_view {M : Nat} (hM : 1024 ||| M = M) (p : Nat) (x0 : Nat) (s : State) :
    (drrServe p x0 s).1.view M = s.view M := by
  refine view_le hM ?_
  induction x0 generalizing s with
  | zero => rfl
  | succ n ih =>
    simp only [drrServe]
    repeat' (first | with_reducible rfl | simp only [onEgress_view, onQueue_view, view_ite, foldl_view, ite_self, Nat.reduceOr, ih] | split | refine (foldl_view (fun s a => ?_) _ _).trans ?_ | (rename_i e; rw [fst_view e]) | (rename_i e _; rw [fst_view e]) | (rename_i e _ _; rw [fst_view e]))

/-- selectSource may change: rsv. -/
theorem selectSource_view {M : Nat} (hM : 1024 ||| M = M) (p : Nat) (s : State) :
    (selectSource p s).1.view M = s.view M := by
  refine view_le hM ?_
  unfold selectSource
  (try simp only [drrServe_view, view_ite, foldl_view, ite_self, Nat.reduceOr]) <;> (repeat' split) <;> (try simp only [drrServe_view, view_ite, foldl_view, ite_self, Nat.reduceOr]) <;> (repeat' split) <;> (try simp only [drrServe_view, view_ite, foldl_view, ite_self, Nat.reduceOr])

/-- startFerry may change: port, frames, rsv. -/
theorem startFerry_view {M : Nat} (hM : 1064 ||| M = M) (p f te : Nat) (s : State) :
    (startFerry p f te s).view M = s.view M := by
  refine view_le hM ?_
  simp only [startFerry, leaveFifo_view, onEgress_view, onFrame_view, onPort_view, onRsv_view, stampEgress_view, view_ite, foldl_view, ite_self, Nat.reduceOr]

/-- startQueued may change: frames, rsv. -/
theorem startQueued_view {M : Nat} (hM : 1056 ||| M = M) (p q f te : Nat) (s : State) :
    (startQueued p q f te s).view M = s.view M := by
  refine view_le hM ?_
  simp only [startQueued, onEgress_view, stampEgress_view, takeFrom_view, view_ite, foldl_view, ite_self, Nat.reduceOr]

/-- startFrom may change: port, frames, rsv, pmon. -/
theorem startFrom_view {M : Nat} (hM : 67109928 ||| M = M) (p src phase : Nat) (s : State) :
    (startFrom p src phase s).view M = s.view M := by
  refine view_le hM ?_
  simp only [startFrom, count_view, onEgress_view, startFerry_view, startQueued_view, view_ite, foldl_view, ite_self, Nat.reduceOr]

/-- readyPort may change: port, frames, strn, rsv, msix, host, pmon, trace, out. -/
theorem readyPort_view {M : Nat} (hM : 17391682856 ||| M = M) (p : Nat) (s : State) :
    (readyPort p s).view M = s.view M := by
  refine view_le hM ?_
  unfold readyPort
  repeat' (first | with_reducible rfl | simp only [dropLostHeads_view, fillPort_view, fillQueue_view, view_ite, foldl_view, ite_self, Nat.reduceOr] | split | refine (foldl_view (fun s a => ?_) _ _).trans ?_ | (rename_i e; rw [fst_view e]) | (rename_i e _; rw [fst_view e]) | (rename_i e _ _; rw [fst_view e]))

/-- execEgressSelect may change: port, frames, strn, rsv, msix, host, pmon, trace, out. -/
theorem execEgressSelect_kept {M : Nat} (hM : 17391682856 ||| M = M) (p : Fin 64) (phase : Fin 32) (s : State) :
    Kept M s (execEgressSelect p phase s) := by
  refine Kept.le hM ?_
  unfold execEgressSelect
  repeat' (first | with_reducible rfl | simp only [dropPort_view, readyPort_view, selectSource_view, startFrom_view, view_ite, foldl_view, ite_self, Nat.reduceOr, kept_ite, kept_next] | split | refine (foldl_view (fun s a => ?_) _ _).trans ?_ | (rename_i e; rw [fst_view e]) | (rename_i e _; rw [fst_view e]) | (rename_i e _ _; rw [fst_view e]))

/-- execMatcherRound may change: rsv, pmon. -/
theorem execMatcherRound_kept {M : Nat} (hM : 67109888 ||| M = M) (s : State) :
    Kept M s (execMatcherRound s) := by
  refine Kept.le hM ?_
  unfold execMatcherRound
  simp only [accept_view, count_view, onRsv_view, view_ite, foldl_view, ite_self, Nat.reduceOr, kept_ite, keeps_ite, kept_next, keeps_ok, keeps_err, keeps_failed, keeps_later]

/-- chargeSent may change: rsv. -/
theorem chargeSent_view {M : Nat} (hM : 1024 ||| M = M) (p f q : Nat) (s : State) :
    (chargeSent p f q s).view M = s.view M := by
  refine view_le hM ?_
  simp only [chargeSent, chargeFor_view, onQueue_view, view_ite, foldl_view, ite_self, Nat.reduceOr]

/-- endTransmission may change: port, frames, strn, rsv, weir, mbx, msix, host, pmon, trace, out. -/
theorem endTransmission_view {M : Nat} (hM : 17392733480 ||| M = M) (p f q : Nat) (s : State) :
    (endTransmission p f q s).view M = s.view M := by
  refine view_le hM ?_
  simp only [endTransmission, chargeSent_view, copyEnds_view, decide1_view, emit_view, onEgress_view, onPort_view, view_ite, foldl_view, ite_self, Nat.reduceOr]

/-- spoilFrame may change: frames, rsv. -/
theorem spoilFrame_view {M : Nat} (hM : 1056 ||| M = M) (f : Nat) (s : State) :
    (spoilFrame f s).view M = s.view M := by
  refine view_le hM ?_
  simp only [spoilFrame, addFlags_view, onRsv_view, view_ite, foldl_view, ite_self, Nat.reduceOr]

/-- cellEcc may change: frames, rsv. -/
theorem cellEcc_view {M : Nat} (hM : 1056 ||| M = M) (f q : Nat) (err : EccErr) (s : State) :
    (cellEcc f q err s).view M = s.view M := by
  refine view_le hM ?_
  unfold cellEcc
  (try simp only [onRsv_view, spoilFrame_view, view_ite, foldl_view, ite_self, Nat.reduceOr]) <;> (repeat' split) <;> (try simp only [onRsv_view, spoilFrame_view, view_ite, foldl_view, ite_self, Nat.reduceOr]) <;> (repeat' split) <;> (try simp only [onRsv_view, spoilFrame_view, view_ite, foldl_view, ite_self, Nat.reduceOr])

/-- spoilFrames may change: frames, rsv. -/
theorem spoilFrames_view {M : Nat} (hM : 1056 ||| M = M) (g : Nat) (s : State) :
    (spoilFrames g s).view M = s.view M := by
  refine view_le hM ?_
  unfold spoilFrames
  repeat' (first | with_reducible rfl | simp only [spoilFrame_view, view_ite, foldl_view, ite_self, Nat.reduceOr] | split | refine (foldl_view (fun s a => ?_) _ _).trans ?_ | (rename_i e; rw [fst_view e]) | (rename_i e _; rw [fst_view e]) | (rename_i e _ _; rw [fst_view e]))

/-- checkGuar may change: rsv, sump. -/
theorem checkGuar_view {M : Nat} (hM : 16778240 ||| M = M) (s : State) :
    (checkGuar s).view M = s.view M := by
  refine view_le hM ?_
  simp only [checkGuar, onRsv_view, raise_view, view_ite, foldl_view, ite_self, Nat.reduceOr]

/-- execBankGroupFail may change: frames, rsv, sump. -/
theorem execBankGroupFail_kept {M : Nat} (hM : 16778272 ||| M = M) (g : Fin 32) (z0 : BankFault) (s : State) :
    Kept M s (execBankGroupFail g z0 s) := by
  refine Kept.le hM ?_
  unfold execBankGroupFail
  simp only [checkGuar_view, onRsv_view, raise_view, spoilFrames_view, view_ite, foldl_view, ite_self, Nat.reduceOr, kept_ite, keeps_ite, kept_next, keeps_ok, keeps_err, keeps_failed, keeps_later]

/-- execSettleLimitDrop may change: port, frames, strn, rsv, msix, host, pmon, trace, out. -/
theorem execSettleLimitDrop_kept {M : Nat} (hM : 17391682856 ||| M = M) (f : Nat) (s : State) :
    Kept M s (execSettleLimitDrop f s) := by
  refine Kept.le hM ?_
  unfold execSettleLimitDrop
  repeat' (first | with_reducible rfl | simp only [dropCopy_view, dropFerry_view, onPort_view, view_ite, foldl_view, ite_self, Nat.reduceOr, kept_ite, kept_next] | split | refine (foldl_view (fun s a => ?_) _ _).trans ?_ | (rename_i e; rw [fst_view e]) | (rename_i e _; rw [fst_view e]) | (rename_i e _ _; rw [fst_view e]))

/-- execOrderRecord may change: frames, ledg, cist, pmon, out. -/
theorem execOrderRecord_kept {M : Nat} (hM : 17247174688 ||| M = M) (f : Nat) (s : State) :
    Kept M s (execOrderRecord f s) := by
  refine Kept.le hM ?_
  unfold execOrderRecord
  simp only [appendOrder_view, dropFrame_view, view_ite, foldl_view, ite_self, Nat.reduceOr, kept_ite, keeps_ite, kept_next, keeps_ok, keeps_err, keeps_failed, keeps_later]

/-- execHoldTimeout may change: port, frames, strn, rsv, weir, msix, host, pmon, trace, out. -/
theorem execHoldTimeout_kept {M : Nat} (hM : 17391684904 ||| M = M) (f : Nat) (s : State) :
    Kept M s (execHoldTimeout f s) := by
  refine Kept.le hM ?_
  unfold execHoldTimeout
  simp only [rejectHeld_view, view_ite, foldl_view, ite_self, Nat.reduceOr, kept_ite, keeps_ite, kept_next, keeps_ok, keeps_err, keeps_failed, keeps_later]

end Sys2Proof.Machine
end

