-- ==== Sys2Proof/Laws/KeepQueueing.lean ====
section
/-! SUPPORT. What the operations of Machine/Queueing.lean may change: one lemma for each. -/

namespace Sys2Proof.Machine

/-- addFerry may change: rsv. -/
theorem addFerry_keeps {M : Nat} (hM : 1024 ||| M = M) (rq : Req) (s : State) :
    Reply.Keeps M s (addFerry rq s) := by
  refine Reply.Keeps.le hM ?_
  simp only [addFerry, onRsv_view, view_ite, foldl_view, ite_self, Nat.reduceOr, kept_ite, keeps_ite, kept_next, keeps_ok, keeps_err, keeps_failed, keeps_later]

/-- execQueueingFerryWrite may change: rsv, ph, mbx, msix, pmon, out. -/
theorem execQueueingFerryWrite_kept {M : Nat} (hM : 17250649088 ||| M = M) (rq : Req) (s : State) :
    Kept M s (execQueueingFerryWrite rq s) := by
  refine Kept.le hM ?_
  unfold execQueueingFerryWrite
  refine serve_kept rfl _ _ (fun s => ?_) s
  (try simp only [onRsv_view, view_ite, foldl_view, ite_self, Nat.reduceOr, kept_ite, keeps_ite, kept_next, keeps_ok, keeps_err, keeps_failed, keeps_later]) <;> (repeat' split) <;> (try simp only [onRsv_view, view_ite, foldl_view, ite_self, Nat.reduceOr, kept_ite, keeps_ite, kept_next, keeps_ok, keeps_err, keeps_failed, keeps_later]) <;> (repeat' split) <;> (try simp only [onRsv_view, view_ite, foldl_view, ite_self, Nat.reduceOr, kept_ite, keeps_ite, kept_next, keeps_ok, keeps_err, keeps_failed, keeps_later])
  all_goals (first | exact addFerry_keeps rfl .. | skip)

/-- execQueueingQuota may change: rsv, ph, mbx, msix, sump, pmon, out. -/
theorem execQueueingQuota_kept {M : Nat} (hM : 17267426304 ||| M = M) (rq : Req) (s : State) :
    Kept M s (execQueueingQuota rq s) := by
  refine Kept.le hM ?_
  unfold execQueueingQuota
  refine serve_kept rfl _ _ (fun s => ?_) s
  simp only [checkGuar_view, onRsv_view, onRsvB_view, view_ite, foldl_view, ite_self, Nat.reduceOr, kept_ite, keeps_ite, kept_next, keeps_ok, keeps_err, keeps_failed, keeps_later]

/-- setQueue may change: rsv. -/
theorem setQueue_view {M : Nat} (hM : 1024 ||| M = M) (rq : Req) (s : State) :
    (setQueue rq s).view M = s.view M := by
  refine view_le hM ?_
  simp only [setQueue, onQueue_view, view_ite, foldl_view, ite_self, Nat.reduceOr]

/-- setShaper may change: rsv. -/
theorem setShaper_view {M : Nat} (hM : 1024 ||| M = M) (rq : Req) (s : State) :
    (setShaper rq s).view M = s.view M := by
  refine view_le hM ?_
  simp only [setShaper, fillPort_view, fillQueue_view, onEgress_view, onQueue_view, view_ite, foldl_view, ite_self, Nat.reduceOr]

/-- atBoundary may change: rsv. -/
theorem atBoundary_keeps {M : Nat} (hM : 1024 ||| M = M) (port : Option Nat) (shaper : Bool) (rq : Req) (s : State) :
    Reply.Keeps M s (atBoundary port shaper rq s) := by
  refine Reply.Keeps.le hM ?_
  unfold atBoundary
  repeat' (first | with_reducible rfl | simp only [onRsv_view, setQueue_view, setShaper_view, view_ite, foldl_view, ite_self, Nat.reduceOr, kept_ite, keeps_ite, kept_next, keeps_ok, keeps_err, keeps_failed, keeps_later] | split | refine (foldl_view (fun s a => ?_) _ _).trans ?_ | trivial | (rename_i e; rw [fst_view e]) | (rename_i e _; rw [fst_view e]) | (rename_i e _ _; rw [fst_view e]))

/-- execQueueingQueueConfig may change: rsv, ph, mbx, msix, pmon, out. -/
theorem execQueueingQueueConfig_kept {M : Nat} (hM : 17250649088 ||| M = M) (rq : Req) (s : State) :
    Kept M s (execQueueingQueueConfig rq s) := by
  refine Kept.le hM ?_
  unfold execQueueingQueueConfig
  refine serve_kept rfl _ _ (fun s => ?_) s
  (try simp only [view_ite, foldl_view, ite_self, Nat.reduceOr, kept_ite, keeps_ite, kept_next, keeps_ok, keeps_err, keeps_failed, keeps_later]) <;> (repeat' split) <;> (try simp only [view_ite, foldl_view, ite_self, Nat.reduceOr, kept_ite, keeps_ite, kept_next, keeps_ok, keeps_err, keeps_failed, keeps_later]) <;> (repeat' split) <;> (try simp only [view_ite, foldl_view, ite_self, Nat.reduceOr, kept_ite, keeps_ite, kept_next, keeps_ok, keeps_err, keeps_failed, keeps_later])
  all_goals (first | exact atBoundary_keeps rfl .. | skip)

/-- execQueueingShaper may change: rsv, ph, mbx, msix, pmon, out. -/
theorem execQueueingShaper_kept {M : Nat} (hM : 17250649088 ||| M = M) (rq : Req) (s : State) :
    Kept M s (execQueueingShaper rq s) := by
  refine Kept.le hM ?_
  unfold execQueueingShaper
  refine serve_kept rfl _ _ (fun s => ?_) s
  (try simp only [view_ite, foldl_view, ite_self, Nat.reduceOr, kept_ite, keeps_ite, kept_next, keeps_ok, keeps_err, keeps_failed, keeps_later]) <;> (repeat' split) <;> (try simp only [view_ite, foldl_view, ite_self, Nat.reduceOr, kept_ite, keeps_ite, kept_next, keeps_ok, keeps_err, keeps_failed, keeps_later]) <;> (repeat' split) <;> (try simp only [view_ite, foldl_view, ite_self, Nat.reduceOr, kept_ite, keeps_ite, kept_next, keeps_ok, keeps_err, keeps_failed, keeps_later])
  all_goals (first | exact atBoundary_keeps rfl .. | skip)

/-- execQueueingPauseThresh may change: port, rsv, ph, mbx, msix, pmon, out. -/
theorem execQueueingPauseThresh_kept {M : Nat} (hM : 17250649096 ||| M = M) (rq : Req) (s : State) :
    Kept M s (execQueueingPauseThresh rq s) := by
  refine Kept.le hM ?_
  unfold execQueueingPauseThresh
  refine serve_kept rfl _ _ (fun s => ?_) s
  simp only [onEgress_view, pauseCheck_view, view_ite, foldl_view, ite_self, Nat.reduceOr, kept_ite, keeps_ite, kept_next, keeps_ok, keeps_err, keeps_failed, keeps_later]

/-- execQueueingStatus may change: ph, mbx, msix, pmon, out. -/
theorem execQueueingStatus_kept {M : Nat} (hM : 17250648064 ||| M = M) (rq : Req) (s : State) :
    Kept M s (execQueueingStatus rq s) := by
  refine Kept.le hM ?_
  unfold execQueueingStatus
  refine serve_kept rfl _ _ (fun s => ?_) s
  simp only [view_ite, foldl_view, ite_self, Nat.reduceOr, kept_ite, keeps_ite, kept_next, keeps_ok, keeps_err, keeps_failed, keeps_later]

/-- applyDeferred may change: rsv, mbx, msix, pmon, out. -/
theorem applyDeferred_view {M : Nat} (hM : 17250124800 ||| M = M) (p : Nat) (s : State) :
    (applyDeferred p s).view M = s.view M := by
  refine view_le hM ?_
  unfold applyDeferred
  repeat' (first | with_reducible rfl | simp only [finish_view, onRsv_view, setQueue_view, setShaper_view, view_ite, foldl_view, ite_self, Nat.reduceOr] | split | refine (foldl_view (fun s a => ?_) _ _).trans ?_ | (rename_i e; rw [fst_view e]) | (rename_i e _; rw [fst_view e]) | (rename_i e _ _; rw [fst_view e]))

/-- execEgressFrameEnd may change: port, frames, strn, rsv, weir, mbx, msix, host, pmon, trace, out. -/
theorem execEgressFrameEnd_kept {M : Nat} (hM : 17392733480 ||| M = M) (p : Fin 64) (err : EccErr) (s : State) :
    Kept M s (execEgressFrameEnd p err s) := by
  refine Kept.le hM ?_
  unfold execEgressFrameEnd
  (try simp only [applyDeferred_view, cellEcc_view, endTransmission_view, view_ite, foldl_view, ite_self, Nat.reduceOr, kept_ite, keeps_ite, kept_next, keeps_ok, keeps_err, keeps_failed, keeps_later]) <;> (repeat' split) <;> (try simp only [applyDeferred_view, cellEcc_view, endTransmission_view, view_ite, foldl_view, ite_self, Nat.reduceOr, kept_ite, keeps_ite, kept_next, keeps_ok, keeps_err, keeps_failed, keeps_later]) <;> (repeat' split) <;> (try simp only [applyDeferred_view, cellEcc_view, endTransmission_view, view_ite, foldl_view, ite_self, Nat.reduceOr, kept_ite, keeps_ite, kept_next, keeps_ok, keeps_err, keeps_failed, keeps_later])

end Sys2Proof.Machine
end

