-- ==== Sys2Proof/Laws/KeepPumps.lean ====
section
/-! SUPPORT. What the operations of Machine/Pumps.lean may change: one lemma for each. -/

namespace Sys2Proof.Machine

/-- onPumpB may change: pump. -/
theorem onPumpB_view {M : Nat} (hM : 128 ||| M = M) (b : Nat) (g : PumpB → PumpB) (s : State) :
    (onPumpB b g s).view M = s.view M := by
  refine view_le hM ?_
  simp only [onPumpB, onPump_view, view_ite, foldl_view, ite_self, Nat.reduceOr]

/-- execPumpSetProfile may change: pump, ph, mbx, msix, pmon, out. -/
theorem execPumpSetProfile_kept {M : Nat} (hM : 17250648192 ||| M = M) (rq : Req) (s : State) :
    Kept M s (execPumpSetProfile rq s) := by
  refine Kept.le hM ?_
  unfold execPumpSetProfile
  refine serve_kept rfl _ _ (fun s => ?_) s
  simp only [onPumpB_view, view_ite, foldl_view, ite_self, Nat.reduceOr, kept_ite, keeps_ite, kept_next, keeps_ok, keeps_err, keeps_failed, keeps_later]

/-- execPumpSetAction may change: pump, ph, mbx, msix, pmon, out. -/
theorem execPumpSetAction_kept {M : Nat} (hM : 17250648192 ||| M = M) (rq : Req) (s : State) :
    Kept M s (execPumpSetAction rq s) := by
  refine Kept.le hM ?_
  unfold execPumpSetAction
  refine serve_kept rfl _ _ (fun s => ?_) s
  simp only [onPumpB_view, view_ite, foldl_view, ite_self, Nat.reduceOr, kept_ite, keeps_ite, kept_next, keeps_ok, keeps_err, keeps_failed, keeps_later]

/-- execPumpFragConfig may change: pump, ph, mbx, msix, pmon, out. -/
theorem execPumpFragConfig_kept {M : Nat} (hM : 17250648192 ||| M = M) (rq : Req) (s : State) :
    Kept M s (execPumpFragConfig rq s) := by
  refine Kept.le hM ?_
  unfold execPumpFragConfig
  refine serve_kept rfl _ _ (fun s => ?_) s
  simp only [onPump_view, view_ite, foldl_view, ite_self, Nat.reduceOr, kept_ite, keeps_ite, kept_next, keeps_ok, keeps_err, keeps_failed, keeps_later]

/-- execPumpStatus may change: ph, mbx, msix, pmon, out. -/
theorem execPumpStatus_kept {M : Nat} (hM : 17250648064 ||| M = M) (rq : Req) (s : State) :
    Kept M s (execPumpStatus rq s) := by
  refine Kept.le hM ?_
  unfold execPumpStatus
  refine serve_kept rfl _ _ (fun s => ?_) s
  simp only [view_ite, foldl_view, ite_self, Nat.reduceOr, kept_ite, keeps_ite, kept_next, keeps_ok, keeps_err, keeps_failed, keeps_later]

/-- execPumpLockPatch may change: ph, mbx, msix, fuse, pmon, out. -/
theorem execPumpLockPatch_kept {M : Nat} (hM : 17254842368 ||| M = M) (rq : Req) (s : State) :
    Kept M s (execPumpLockPatch rq s) := by
  refine Kept.le hM ?_
  unfold execPumpLockPatch
  refine serve_kept rfl _ _ (fun s => ?_) s
  simp only [view_fuse, view_ite, foldl_view, ite_self, Nat.reduceOr, kept_ite, keeps_ite, kept_next, keeps_ok, keeps_err, keeps_failed, keeps_later]

/-- execPumpStage may change: pump, ph, mbx, msix, pmon, out. -/
theorem execPumpStage_kept {M : Nat} (hM : 17250648192 ||| M = M) (rq : Req) (s : State) :
    Kept M s (execPumpStage rq s) := by
  refine Kept.le hM ?_
  unfold execPumpStage
  refine serve_kept rfl _ _ (fun s => ?_) s
  simp only [onPump_view, view_ite, foldl_view, ite_self, Nat.reduceOr, kept_ite, keeps_ite, kept_next, keeps_ok, keeps_err, keeps_failed, keeps_later]

/-- beginDrain may change: pump. -/
theorem beginDrain_view {M : Nat} (hM : 128 ||| M = M) (s : State) :
    (beginDrain s).view M = s.view M := by
  refine view_le hM ?_
  unfold beginDrain
  (try simp only [onEngine_view, view_ite, foldl_view, ite_self, Nat.reduceOr]) <;> (repeat' split) <;> (try simp only [onEngine_view, view_ite, foldl_view, ite_self, Nat.reduceOr]) <;> (repeat' split) <;> (try simp only [onEngine_view, view_ite, foldl_view, ite_self, Nat.reduceOr])

/-- donePatch may change: mbx, msix, out. -/
theorem donePatch_view {M : Nat} (hM : 17183014912 ||| M = M) (s : State) :
    (donePatch s).view M = s.view M := by
  refine view_le hM ?_
  simp only [donePatch, postEvent_view, view_ite, foldl_view, ite_self, Nat.reduceOr]

/-- startPatch may change: pump, mbx, msix, out. -/
theorem startPatch_view {M : Nat} (hM : 17183015040 ||| M = M) (engines gen : Nat) (s : State) :
    (startPatch engines gen s).view M = s.view M := by
  refine view_le hM ?_
  unfold startPatch
  repeat' (first | with_reducible rfl | simp only [beginDrain_view, donePatch_view, onEngine_view, onPump_view, view_ite, foldl_view, ite_self, Nat.reduceOr] | split | refine (foldl_view (fun s a => ?_) _ _).trans ?_ | (rename_i e; rw [fst_view e]) | (rename_i e _; rw [fst_view e]) | (rename_i e _ _; rw [fst_view e]))

/-- execPumpCommit may change: pump, ph, mbx, msix, pmon, out. -/
theorem execPumpCommit_kept {M : Nat} (hM : 17250648192 ||| M = M) (rq : Req) (s : State) :
    Kept M s (execPumpCommit rq s) := by
  refine Kept.le hM ?_
  unfold execPumpCommit
  refine serve_kept rfl _ _ (fun s => ?_) s
  simp only [startPatch_view, view_ite, foldl_view, ite_self, Nat.reduceOr, kept_ite, keeps_ite, kept_next, keeps_ok, keeps_err, keeps_failed, keeps_later]

/-- loadEngine may change: pump. -/
theorem loadEngine_view {M : Nat} (hM : 128 ||| M = M) (e : Nat) (s : State) :
    (loadEngine e s).view M = s.view M := by
  refine view_le hM ?_
  simp only [loadEngine, onEngine_view, view_ite, foldl_view, ite_self, Nat.reduceOr]

/-- reparse may change: frames, pump, ledg, sump. -/
theorem reparse_view {M : Nat} (hM : 16842912 ||| M = M) (f : Nat) (s : State) :
    (reparse f s).view M = s.view M := by
  refine view_le hM ?_
  unfold reparse
  (try simp only [giveContext_view, neverParsed_view, onFrame_view, onPump_view, view_ite, foldl_view, ite_self, Nat.reduceOr]) <;> (repeat' split) <;> (try simp only [giveContext_view, neverParsed_view, onFrame_view, onPump_view, view_ite, foldl_view, ite_self, Nat.reduceOr]) <;> (repeat' split) <;> (try simp only [giveContext_view, neverParsed_view, onFrame_view, onPump_view, view_ite, foldl_view, ite_self, Nat.reduceOr])

/-- leavePatch may change: pump. -/
theorem leavePatch_view {M : Nat} (hM : 128 ||| M = M) (e : Nat) (s : State) :
    (leavePatch e s).view M = s.view M := by
  refine view_le hM ?_
  simp only [leavePatch, beginDrain_view, onPump_view, view_ite, foldl_view, ite_self, Nat.reduceOr]

/-- failEngine may change: frames, pump, ledg, mbx, msix, sump, out. -/
theorem failEngine_view {M : Nat} (hM : 17199857824 ||| M = M) (e cause : Nat) (s : State) :
    (failEngine e cause s).view M = s.view M := by
  refine view_le hM ?_
  unfold failEngine
  repeat' (first | with_reducible rfl | simp only [donePatch_view, leavePatch_view, onEngine_view, raise_view, reparse_view, view_ite, foldl_view, ite_self, Nat.reduceOr] | split | refine (foldl_view (fun s a => ?_) _ _).trans ?_ | (rename_i e; rw [fst_view e]) | (rename_i e _; rw [fst_view e]) | (rename_i e _ _; rw [fst_view e]))

/-- execPumpFail may change: frames, pump, ledg, mbx, msix, sump, out. -/
theorem execPumpFail_kept {M : Nat} (hM : 17199857824 ||| M = M) (e : Fin 16) (kind : PumpFault) (s : State) :
    Kept M s (execPumpFail e kind s) := by
  refine Kept.le hM ?_
  unfold execPumpFail
  simp only [failEngine_view, onEngine_view, view_ite, foldl_view, ite_self, Nat.reduceOr, kept_ite, keeps_ite, kept_next, keeps_ok, keeps_err, keeps_failed, keeps_later]

/-- execGoldenSelfCheck may change: frames, pump, ledg, mbx, msix, sump, out. -/
theorem execGoldenSelfCheck_kept {M : Nat} (hM : 17199857824 ||| M = M) (crcOk : Bool) (s : State) :
    Kept M s (execGoldenSelfCheck crcOk s) := by
  refine Kept.le hM ?_
  unfold execGoldenSelfCheck
  (try simp only [failEngine_view, onPump_view, view_ite, foldl_view, ite_self, Nat.reduceOr, kept_ite, keeps_ite, kept_next, keeps_ok, keeps_err, keeps_failed, keeps_later]) <;> (repeat' split) <;> (try simp only [failEngine_view, onPump_view, view_ite, foldl_view, ite_self, Nat.reduceOr, kept_ite, keeps_ite, kept_next, keeps_ok, keeps_err, keeps_failed, keeps_later]) <;> (repeat' split) <;> (try simp only [failEngine_view, onPump_view, view_ite, foldl_view, ite_self, Nat.reduceOr, kept_ite, keeps_ite, kept_next, keeps_ok, keeps_err, keeps_failed, keeps_later])

/-- execPumpEngineCtl may change: pump, ph, mbx, msix, pmon, out. -/
theorem execPumpEngineCtl_kept {M : Nat} (hM : 17250648192 ||| M = M) (rq : Req) (checksOk : Bool) (s : State) :
    Kept M s (execPumpEngineCtl rq checksOk s) := by
  refine Kept.le hM ?_
  unfold execPumpEngineCtl
  refine serve_kept rfl _ _ (fun s => ?_) s
  simp only [loadEngine_view, onEngine_view, view_ite, foldl_view, ite_self, Nat.reduceOr, kept_ite, keeps_ite, kept_next, keeps_ok, keeps_err, keeps_failed, keeps_later]

/-- readmitPatched may change: pump, mbx, msix, out. -/
theorem readmitPatched_view {M : Nat} (hM : 17183015040 ||| M = M) (e : Nat) (s : State) :
    (readmitPatched e s).view M = s.view M := by
  refine view_le hM ?_
  simp only [readmitPatched, beginDrain_view, donePatch_view, onEngine_view, onPump_view, view_ite, foldl_view, ite_self, Nat.reduceOr]

/-- execPatchEngineLoad may change: frames, pump, ledg, cist, mbx, msix, sump, pmon, out. -/
theorem execPatchEngineLoad_kept {M : Nat} (hM : 17267097760 ||| M = M) (checksOk : Bool) (s : State) :
    Kept M s (execPatchEngineLoad checksOk s) := by
  refine Kept.le hM ?_
  unfold execPatchEngineLoad
  (try simp only [appendAll_view, failEngine_view, loadEngine_view, onPump_view, readmitPatched_view, view_ite, foldl_view, ite_self, Nat.reduceOr, kept_ite, keeps_ite, kept_next, keeps_ok, keeps_err, keeps_failed, keeps_later]) <;> (repeat' split) <;> (try simp only [appendAll_view, failEngine_view, loadEngine_view, onPump_view, readmitPatched_view, view_ite, foldl_view, ite_self, Nat.reduceOr, kept_ite, keeps_ite, kept_next, keeps_ok, keeps_err, keeps_failed, keeps_later]) <;> (repeat' split) <;> (try simp only [appendAll_view, failEngine_view, loadEngine_view, onPump_view, readmitPatched_view, view_ite, foldl_view, ite_self, Nat.reduceOr, kept_ite, keeps_ite, kept_next, keeps_ok, keeps_err, keeps_failed, keeps_later])

/-- execPumpPatchStall may change: pump, mbx, msix, sump, out. -/
theorem execPumpPatchStall_kept {M : Nat} (hM : 17199792256 ||| M = M) (s : State) :
    Kept M s (execPumpPatchStall s) := by
  refine Kept.le hM ?_
  unfold execPumpPatchStall
  (try simp only [onEngine_view, onPump_view, postEvent_view, raise_view, view_ite, foldl_view, ite_self, Nat.reduceOr, kept_ite, keeps_ite, kept_next, keeps_ok, keeps_err, keeps_failed, keeps_later]) <;> (repeat' split) <;> (try simp only [onEngine_view, onPump_view, postEvent_view, raise_view, view_ite, foldl_view, ite_self, Nat.reduceOr, kept_ite, keeps_ite, kept_next, keeps_ok, keeps_err, keeps_failed, keeps_later]) <;> (repeat' split) <;> (try simp only [onEngine_view, onPump_view, postEvent_view, raise_view, view_ite, foldl_view, ite_self, Nat.reduceOr, kept_ite, keeps_ite, kept_next, keeps_ok, keeps_err, keeps_failed, keeps_later])

end Sys2Proof.Machine
end

