-- ==== Sys2Proof/Laws/KeepRdmaPkt.lean ====
section
/-! SUPPORT. What the operations of Machine/RdmaPkt.lean may change: one lemma for each. -/

namespace Sys2Proof.Machine

/-- onRdma may change: rdma. -/
theorem onRdma_view {M : Nat} (hM : 32768 ||| M = M) (g : Rdma → Rdma) (s : State) :
    (onRdma g s).view M = s.view M := by
  refine view_le hM ?_
  simp only [onRdma, view_rdma, view_ite, foldl_view, ite_self, Nat.reduceOr]

/-- onQp may change: rdma. -/
theorem onQp_view {M : Nat} (hM : 32768 ||| M = M) (q : Nat) (g : Qp → Qp) (s : State) :
    (onQp q g s).view M = s.view M := by
  refine view_le hM ?_
  simp only [onQp, onRdma_view, view_ite, foldl_view, ite_self, Nat.reduceOr]

/-- originate may change: port, frames, nextFrame, strn, rsv, msix, host, pmon, trace, out. -/
theorem originate_view {M : Nat} (hM : 17391682920 ||| M = M) (x : Frame) (q : Nat) (s : State) :
    (originate x q s).view M = s.view M := by
  refine view_le hM ?_
  unfold originate
  repeat' (first | with_reducible rfl | simp only [State.setFrame_view, dropWith_view, loseCopy_view, sendTo_view, takeCells_view, view_nextFrame, view_ite, foldl_view, ite_self, Nat.reduceOr] | split | refine (foldl_view (fun s a => ?_) _ _).trans ?_ | (rename_i e; rw [fst_view e]) | (rename_i e _; rw [fst_view e]) | (rename_i e _ _; rw [fst_view e]))

/-- sendPkt may change: port, frames, nextFrame, strn, rsv, xl, fab, rdma, msix, host, pmon, trace, out. -/
theorem sendPkt_view {M : Nat} (hM : 17391727976 ||| M = M) (q : Nat) (p : RdmaPkt) (s : State) :
    (sendPkt q p s).view M = s.view M := by
  refine view_le hM ?_
  simp only [sendPkt, count_view, inject_view, onRdma_view, originate_view, view_ite, foldl_view, ite_self, Nat.reduceOr]

end Sys2Proof.Machine
end

