-- ==== Sys2Proof/Laws/KeepRdmaOps.lean ====
section
/-! SUPPORT. What the operations of Machine/RdmaOps.lean may change: one lemma for each. -/

namespace Sys2Proof.Machine

/-- onCq may change: rdma. -/
theorem onCq_view {M : Nat} (hM : 32768 ||| M = M) (c : Nat) (g : Cq → Cq) (s : State) :
    (onCq c g s).view M = s.view M := by
  refine view_le hM ?_
  simp only [onCq, onRdma_view, view_ite, foldl_view, ite_self, Nat.reduceOr]

/-- writeCqe may change: rdma, mbx, msix, sump, pmon, out. -/
theorem writeCqe_view {M : Nat} (hM : 17266933760 ||| M = M) (b c : Nat) (bytes : Bool → List Byte) (s : State) :
    (writeCqe b c bytes s).view M = s.view M := by
  refine view_le hM ?_
  simp only [writeCqe, hostWrite_view, onCq_view, postEvent_view, raise_view, view_ite, foldl_view, ite_self, Nat.reduceOr]

/-- countFlush may change: rdma. -/
theorem countFlush_view {M : Nat} (hM : 32768 ||| M = M) (status : Nat) (s : State) :
    (countFlush status s).view M = s.view M := by
  refine view_le hM ?_
  simp only [countFlush, onRdma_view, view_ite, foldl_view, ite_self, Nat.reduceOr]

/-- completeSend may change: rdma, mbx, msix, sump, pmon, out. -/
theorem completeSend_view {M : Nat} (hM : 17266933760 ||| M = M) (q : Nat) (w : Wr) (status : Nat) (s : State) :
    (completeSend q w status s).view M = s.view M := by
  refine view_le hM ?_
  simp only [completeSend, countFlush_view, writeCqe_view, view_ite, foldl_view, ite_self, Nat.reduceOr]

/-- completeRecv may change: rdma, mbx, msix, sump, pmon, out. -/
theorem completeRecv_view {M : Nat} (hM : 17266933760 ||| M = M) (q : Nat) (w : Wr) (status got : Nat) (imm : Option Nat) (sol : Bool) (s : State) :
    (completeRecv q w status got imm sol s).view M = s.view M := by
  refine view_le hM ?_
  simp only [completeRecv, countFlush_view, writeCqe_view, view_ite, foldl_view, ite_self, Nat.reduceOr]

/-- flushQp may change: rdma, mbx, msix, sump, pmon, out. -/
theorem flushQp_view {M : Nat} (hM : 17266933760 ||| M = M) (q : Nat) (s : State) :
    (flushQp q s).view M = s.view M := by
  refine view_le hM ?_
  unfold flushQp
  repeat' (first | with_reducible rfl | simp only [completeRecv_view, completeSend_view, onQp_view, view_ite, foldl_view, ite_self, Nat.reduceOr] | split | refine (foldl_view (fun s a => ?_) _ _).trans ?_ | (rename_i e; rw [fst_view e]) | (rename_i e _; rw [fst_view e]) | (rename_i e _ _; rw [fst_view e]))

/-- qpError may change: rdma, mbx, msix, sump, pmon, out. -/
theorem qpError_view {M : Nat} (hM : 17266933760 ||| M = M) (q status : Nat) (s : State) :
    (qpError q status s).view M = s.view M := by
  refine view_le hM ?_
  simp only [qpError, flushQp_view, onQp_view, onRdma_view, postEvent_view, view_ite, foldl_view, ite_self, Nat.reduceOr]

/-- failSend may change: rdma, mbx, msix, sump, pmon, out. -/
theorem failSend_view {M : Nat} (hM : 17266933760 ||| M = M) (q status : Nat) (s : State) :
    (failSend q status s).view M = s.view M := by
  refine view_le hM ?_
  unfold failSend
  (try simp only [completeSend_view, onQp_view, qpError_view, view_ite, foldl_view, ite_self, Nat.reduceOr]) <;> (repeat' split) <;> (try simp only [completeSend_view, onQp_view, qpError_view, view_ite, foldl_view, ite_self, Nat.reduceOr]) <;> (repeat' split) <;> (try simp only [completeSend_view, onQp_view, qpError_view, view_ite, foldl_view, ite_self, Nat.reduceOr])

/-- settleCqs may change: rdma, mbx, msix, sump, pmon, out. -/
theorem settleCqs_view {M : Nat} (hM : 17266933760 ||| M = M) (x0 : Nat) (s : State) :
    (settleCqs x0 s).view M = s.view M := by
  refine view_le hM ?_
  induction x0 generalizing s with
  | zero => rfl
  | succ n ih =>
    simp only [settleCqs]
    repeat' (first | with_reducible rfl | simp only [qpError_view, view_ite, foldl_view, ite_self, Nat.reduceOr, ih] | split | refine (foldl_view (fun s a => ?_) _ _).trans ?_ | (rename_i e; rw [fst_view e]) | (rename_i e _; rw [fst_view e]) | (rename_i e _ _; rw [fst_view e]))

/-- sendRequests may change: port, frames, nextFrame, strn, rsv, xl, fab, rdma, msix, host, pmon, trace, out. -/
theorem sendRequests_view {M : Nat} (hM : 17391727976 ||| M = M) (x0 : Nat) (x1 : Nat) (s : State) :
    (sendRequests x0 x1 s).view M = s.view M := by
  refine view_le hM ?_
  induction x0 generalizing x1 s with
  | zero => rfl
  | succ n ih =>
    simp only [sendRequests]
    repeat' (first | with_reducible rfl | simp only [onQp_view, sendPkt_view, view_ite, foldl_view, ite_self, Nat.reduceOr, ih] | split | refine (foldl_view (fun s a => ?_) _ _).trans ?_ | (rename_i e; rw [fst_view e]) | (rename_i e _; rw [fst_view e]) | (rename_i e _ _; rw [fst_view e]))

/-- trySend may change: port, frames, nextFrame, strn, rsv, xl, fab, rdma, msix, host, pmon, trace, out. -/
theorem trySend_view {M : Nat} (hM : 17391727976 ||| M = M) (q : Nat) (s : State) :
    (trySend q s).view M = s.view M := by
  refine view_le hM ?_
  simp only [trySend, sendRequests_view, view_ite, foldl_view, ite_self, Nat.reduceOr]

/-- rewind may change: rdma. -/
theorem rewind_view {M : Nat} (hM : 32768 ||| M = M) (q : Nat) (s : State) :
    (rewind q s).view M = s.view M := by
  refine view_le hM ?_
  simp only [rewind, onQp_view, view_ite, foldl_view, ite_self, Nat.reduceOr]

/-- retransmit may change: port, frames, nextFrame, strn, rsv, xl, fab, rdma, mbx, msix, host, sump, pmon, trace, out. -/
theorem retransmit_view {M : Nat} (hM : 17409553768 ||| M = M) (q : Nat) (s : State) :
    (retransmit q s).view M = s.view M := by
  refine view_le hM ?_
  simp only [retransmit, failSend_view, onQp_view, onRdma_view, rewind_view, trySend_view, view_ite, foldl_view, ite_self, Nat.reduceOr]

/-- completeHeads may change: rdma, mbx, msix, sump, pmon, out. -/
theorem completeHeads_view {M : Nat} (hM : 17266933760 ||| M = M) (x0 : Nat) (x1 : Nat) (s : State) :
    (completeHeads x0 x1 s).view M = s.view M := by
  refine view_le hM ?_
  induction x0 generalizing x1 s with
  | zero => rfl
  | succ n ih =>
    simp only [completeHeads]
    repeat' (first | with_reducible rfl | simp only [completeSend_view, failSend_view, onQp_view, view_ite, foldl_view, ite_self, Nat.reduceOr, ih] | split | refine (foldl_view (fun s a => ?_) _ _).trans ?_ | (rename_i e; rw [fst_view e]) | (rename_i e _; rw [fst_view e]) | (rename_i e _ _; rw [fst_view e]))

/-- advance may change: port, frames, nextFrame, strn, rsv, xl, fab, rdma, mbx, msix, host, sump, pmon, trace, out. -/
theorem advance_view {M : Nat} (hM : 17409553768 ||| M = M) (q : Nat) (s : State) :
    (advance q s).view M = s.view M := by
  refine view_le hM ?_
  simp only [advance, completeHeads_view, trySend_view, view_ite, foldl_view, ite_self, Nat.reduceOr]

/-- ackPackets may change: rdma, mbx, msix, sump, pmon, out. -/
theorem ackPackets_view {M : Nat} (hM : 17266933760 ||| M = M) (q n : Nat) (s : State) :
    (ackPackets q n s).1.view M = s.view M := by
  refine view_le hM ?_
  unfold ackPackets
  (try simp only [completeHeads_view, onQp_view, view_ite, foldl_view, ite_self, Nat.reduceOr]) <;> (repeat' split) <;> (try simp only [completeHeads_view, onQp_view, view_ite, foldl_view, ite_self, Nat.reduceOr]) <;> (repeat' split) <;> (try simp only [completeHeads_view, onQp_view, view_ite, foldl_view, ite_self, Nat.reduceOr])

/-- echo may change: rdma. -/
theorem echo_view {M : Nat} (hM : 32768 ||| M = M) (q : Nat) (s : State) :
    (echo q s).view M = s.view M := by
  refine view_le hM ?_
  simp only [echo, onQp_view, onRdma_view, view_ite, foldl_view, ite_self, Nat.reduceOr]

/-- onNak may change: port, frames, nextFrame, strn, rsv, xl, fab, rdma, mbx, msix, host, sump, pmon, trace, out. -/
theorem onNak_view {M : Nat} (hM : 17409553768 ||| M = M) (q : Nat) (p : RdmaPkt) (s : State) :
    (onNak q p s).view M = s.view M := by
  refine view_le hM ?_
  simp only [onNak, ackPackets_view, failSend_view, onQp_view, onRdma_view, retransmit_view, rewind_view, view_ite, foldl_view, ite_self, Nat.reduceOr]

/-- onAck may change: port, frames, nextFrame, strn, rsv, xl, fab, rdma, mbx, msix, host, sump, pmon, trace, out. -/
theorem onAck_view {M : Nat} (hM : 17409553768 ||| M = M) (q : Nat) (p : RdmaPkt) (s : State) :
    (onAck q p s).view M = s.view M := by
  refine view_le hM ?_
  simp only [onAck, ackPackets_view, retransmit_view, trySend_view, view_ite, foldl_view, ite_self, Nat.reduceOr]

/-- placeResponse may change: port, frames, nextFrame, strn, rsv, xl, fab, rdma, mbx, msix, host, sump, pmon, trace, out. -/
theorem placeResponse_view {M : Nat} (hM : 17409553768 ||| M = M) (q : Nat) (p : RdmaPkt) (w : Wr) (s : State) :
    (placeResponse q p w s).view M = s.view M := by
  refine view_le hM ?_
  simp only [placeResponse, advance_view, failSend_view, hostWrite_view, onQp_view, view_ite, foldl_view, ite_self, Nat.reduceOr]

/-- onReadResponse may change: port, frames, nextFrame, strn, rsv, xl, fab, rdma, mbx, msix, host, sump, pmon, trace, out. -/
theorem onReadResponse_view {M : Nat} (hM : 17409553768 ||| M = M) (q : Nat) (p : RdmaPkt) (s : State) :
    (onReadResponse q p s).view M = s.view M := by
  refine view_le hM ?_
  unfold onReadResponse
  (try simp only [ackPackets_view, failSend_view, placeResponse_view, retransmit_view, view_ite, foldl_view, ite_self, Nat.reduceOr]) <;> (repeat' split) <;> (try simp only [ackPackets_view, failSend_view, placeResponse_view, retransmit_view, view_ite, foldl_view, ite_self, Nat.reduceOr]) <;> (repeat' split) <;> (try simp only [ackPackets_view, failSend_view, placeResponse_view, retransmit_view, view_ite, foldl_view, ite_self, Nat.reduceOr])

/-- requesterTakes may change: port, frames, nextFrame, strn, rsv, xl, fab, rdma, mbx, msix, host, sump, pmon, trace, out. -/
theorem requesterTakes_view {M : Nat} (hM : 17409553768 ||| M = M) (q : Nat) (p : RdmaPkt) (s : State) :
    (requesterTakes q p s).view M = s.view M := by
  refine view_le hM ?_
  simp only [requesterTakes, echo_view, onAck_view, onNak_view, onReadResponse_view, view_ite, foldl_view, ite_self, Nat.reduceOr]

/-- respondPkt may change: port, frames, nextFrame, strn, rsv, xl, fab, rdma, msix, host, pmon, trace, out. -/
theorem respondPkt_view {M : Nat} (hM : 17391727976 ||| M = M) (q : Nat) (p : RdmaPkt) (s : State) :
    (respondPkt q p s).view M = s.view M := by
  refine view_le hM ?_
  simp only [respondPkt, onQp_view, sendPkt_view, view_ite, foldl_view, ite_self, Nat.reduceOr]

/-- sendAck may change: port, frames, nextFrame, strn, rsv, xl, fab, rdma, msix, host, pmon, trace, out. -/
theorem sendAck_view {M : Nat} (hM : 17391727976 ||| M = M) (q : Nat) (s : State) :
    (sendAck q s).view M = s.view M := by
  refine view_le hM ?_
  simp only [sendAck, onQp_view, respondPkt_view, view_ite, foldl_view, ite_self, Nat.reduceOr]

/-- sendNak may change: port, frames, nextFrame, strn, rsv, xl, fab, rdma, msix, host, pmon, trace, out. -/
theorem sendNak_view {M : Nat} (hM : 17391727976 ||| M = M) (q code : Nat) (s : State) :
    (sendNak q code s).view M = s.view M := by
  refine view_le hM ?_
  simp only [sendNak, onRdma_view, respondPkt_view, view_ite, foldl_view, ite_self, Nat.reduceOr]

/-- refuse may change: port, frames, nextFrame, strn, rsv, xl, fab, rdma, mbx, msix, host, sump, pmon, trace, out. -/
theorem refuse_view {M : Nat} (hM : 17409553768 ||| M = M) (q code status : Nat) (s : State) :
    (refuse q code status s).view M = s.view M := by
  refine view_le hM ?_
  simp only [refuse, qpError_view, sendNak_view, view_ite, foldl_view, ite_self, Nat.reduceOr]

/-- failRecv may change: port, frames, nextFrame, strn, rsv, xl, fab, rdma, mbx, msix, host, sump, pmon, trace, out. -/
theorem failRecv_view {M : Nat} (hM : 17409553768 ||| M = M) (q code status : Nat) (s : State) :
    (failRecv q code status s).view M = s.view M := by
  refine view_le hM ?_
  unfold failRecv
  (try simp only [completeRecv_view, onQp_view, refuse_view, view_ite, foldl_view, ite_self, Nat.reduceOr]) <;> (repeat' split) <;> (try simp only [completeRecv_view, onQp_view, refuse_view, view_ite, foldl_view, ite_self, Nat.reduceOr]) <;> (repeat' split) <;> (try simp only [completeRecv_view, onQp_view, refuse_view, view_ite, foldl_view, ite_self, Nat.reduceOr])

/-- noReceive may change: port, frames, nextFrame, strn, rsv, xl, fab, rdma, mbx, msix, host, sump, pmon, trace, out. -/
theorem noReceive_view {M : Nat} (hM : 17409553768 ||| M = M) (q : Nat) (s : State) :
    (noReceive q s).view M = s.view M := by
  refine view_le hM ?_
  simp only [noReceive, onRdma_view, refuse_view, respondPkt_view, view_ite, foldl_view, ite_self, Nat.reduceOr]

/-- taken may change: port, frames, nextFrame, strn, rsv, xl, fab, rdma, msix, host, pmon, trace, out. -/
theorem taken_view {M : Nat} (hM : 17391727976 ||| M = M) (q n : Nat) (p : RdmaPkt) (s : State) :
    (taken q n p s).view M = s.view M := by
  refine view_le hM ?_
  simp only [taken, onQp_view, sendAck_view, view_ite, foldl_view, ite_self, Nat.reduceOr]

/-- endMessage may change: rdma. -/
theorem endMessage_view {M : Nat} (hM : 32768 ||| M = M) (q : Nat) (s : State) :
    (endMessage q s).view M = s.view M := by
  refine view_le hM ?_
  simp only [endMessage, onQp_view, view_ite, foldl_view, ite_self, Nat.reduceOr]

/-- takeSend may change: port, frames, nextFrame, strn, rsv, xl, fab, rdma, mbx, msix, host, sump, pmon, trace, out. -/
theorem takeSend_view {M : Nat} (hM : 17409553768 ||| M = M) (q : Nat) (p : RdmaPkt) (s : State) :
    (takeSend q p s).view M = s.view M := by
  refine view_le hM ?_
  unfold takeSend
  (try simp only [completeRecv_view, endMessage_view, failRecv_view, hostWrite_view, noReceive_view, onQp_view, refuse_view, taken_view, view_ite, foldl_view, ite_self, Nat.reduceOr]) <;> (repeat' split) <;> (try simp only [completeRecv_view, endMessage_view, failRecv_view, hostWrite_view, noReceive_view, onQp_view, refuse_view, taken_view, view_ite, foldl_view, ite_self, Nat.reduceOr]) <;> (repeat' split) <;> (try simp only [completeRecv_view, endMessage_view, failRecv_view, hostWrite_view, noReceive_view, onQp_view, refuse_view, taken_view, view_ite, foldl_view, ite_self, Nat.reduceOr])

/-- takeWrite may change: port, frames, nextFrame, strn, rsv, xl, fab, rdma, mbx, msix, host, sump, pmon, trace, out. -/
theorem takeWrite_view {M : Nat} (hM : 17409553768 ||| M = M) (q : Nat) (p : RdmaPkt) (s : State) :
    (takeWrite q p s).view M = s.view M := by
  refine view_le hM ?_
  unfold takeWrite
  (try simp only [completeRecv_view, endMessage_view, hostWrite_view, noReceive_view, onQp_view, refuse_view, taken_view, view_ite, foldl_view, ite_self, Nat.reduceOr]) <;> (repeat' split) <;> (try simp only [completeRecv_view, endMessage_view, hostWrite_view, noReceive_view, onQp_view, refuse_view, taken_view, view_ite, foldl_view, ite_self, Nat.reduceOr]) <;> (repeat' split) <;> (try simp only [completeRecv_view, endMessage_view, hostWrite_view, noReceive_view, onQp_view, refuse_view, taken_view, view_ite, foldl_view, ite_self, Nat.reduceOr])

/-- readResponses may change: port, frames, nextFrame, strn, rsv, xl, fab, rdma, msix, host, pmon, trace, out. -/
theorem readResponses_view {M : Nat} (hM : 17391727976 ||| M = M) (q mtu n : Nat) (data : List Byte) (psn : Nat) (x0 : Nat) (x1 : Nat) (s : State) :
    (readResponses q mtu n data psn x0 x1 s).view M = s.view M := by
  refine view_le hM ?_
  induction x0 generalizing x1 s with
  | zero => rfl
  | succ n ih =>
    simp only [readResponses]
    repeat' (first | with_reducible rfl | simp only [respondPkt_view, view_ite, foldl_view, ite_self, Nat.reduceOr, ih] | split | refine (foldl_view (fun s a => ?_) _ _).trans ?_ | (rename_i e; rw [fst_view e]) | (rename_i e _; rw [fst_view e]) | (rename_i e _ _; rw [fst_view e]))

/-- takeRead may change: port, frames, nextFrame, strn, rsv, xl, fab, rdma, mbx, msix, host, sump, pmon, trace, out. -/
theorem takeRead_view {M : Nat} (hM : 17409553768 ||| M = M) (q : Nat) (p : RdmaPkt) (dup : Bool) (data : List Byte) (s : State) :
    (takeRead q p dup data s).view M = s.view M := by
  refine view_le hM ?_
  simp only [takeRead, hostRead_view, onQp_view, readResponses_view, refuse_view, view_ite, foldl_view, ite_self, Nat.reduceOr]

/-- takeRequest may change: port, frames, nextFrame, strn, rsv, xl, fab, rdma, mbx, msix, host, sump, pmon, trace, out. -/
theorem takeRequest_view {M : Nat} (hM : 17409553768 ||| M = M) (q : Nat) (p : RdmaPkt) (data : List Byte) (s : State) :
    (takeRequest q p data s).view M = s.view M := by
  refine view_le hM ?_
  simp only [takeRequest, refuse_view, takeRead_view, takeSend_view, takeWrite_view, view_ite, foldl_view, ite_self, Nat.reduceOr]

/-- responderTakes may change: port, frames, nextFrame, strn, rsv, xl, fab, rdma, mbx, msix, host, sump, pmon, trace, out. -/
theorem responderTakes_view {M : Nat} (hM : 17409553768 ||| M = M) (q : Nat) (p : RdmaPkt) (data : List Byte) (s : State) :
    (responderTakes q p data s).view M = s.view M := by
  refine view_le hM ?_
  simp only [responderTakes, onQp_view, onRdma_view, sendAck_view, sendNak_view, takeRead_view, takeRequest_view, view_ite, foldl_view, ite_self, Nat.reduceOr]

/-- qpTakes may change: port, frames, nextFrame, strn, rsv, xl, fab, rdma, mbx, msix, host, sump, pmon, trace, out. -/
theorem qpTakes_view {M : Nat} (hM : 17409553768 ||| M = M) (q : Nat) (p : RdmaPkt) (data : List Byte) (s : State) :
    (qpTakes q p data s).view M = s.view M := by
  refine view_le hM ?_
  simp only [qpTakes, onRdma_view, requesterTakes_view, responderTakes_view, view_ite, foldl_view, ite_self, Nat.reduceOr]

/-- runLocal may change: port, frames, nextFrame, strn, rsv, xl, fab, rdma, mbx, msix, host, sump, pmon, trace, out. -/
theorem runLocal_view {M : Nat} (hM : 17409553768 ||| M = M) (x0 : Nat) (s : State) :
    (runLocal x0 s).view M = s.view M := by
  refine view_le hM ?_
  induction x0 generalizing s with
  | zero => rfl
  | succ n ih =>
    simp only [runLocal]
    repeat' (first | with_reducible rfl | simp only [onRdma_view, qpTakes_view, view_ite, foldl_view, ite_self, Nat.reduceOr, ih] | split | refine (foldl_view (fun s a => ?_) _ _).trans ?_ | (rename_i e; rw [fst_view e]) | (rename_i e _; rw [fst_view e]) | (rename_i e _ _; rw [fst_view e]))

/-- rdmaSettle may change: port, frames, nextFrame, strn, rsv, xl, fab, rdma, mbx, msix, host, sump, pmon, trace, out. -/
theorem rdmaSettle_view {M : Nat} (hM : 17409553768 ||| M = M) (s : State) :
    (rdmaSettle s).view M = s.view M := by
  refine view_le hM ?_
  simp only [rdmaSettle, runLocal_view, settleCqs_view, view_ite, foldl_view, ite_self, Nat.reduceOr]

end Sys2Proof.Machine
end

