-- ==== Sys2Proof/Laws/KeepRdmaCmd.lean ====
section
/-! SUPPORT. What the operations of Machine/RdmaCmd.lean may change: one lemma for each. -/

namespace Sys2Proof.Machine

/-- onRdmaB may change: rdma. -/
theorem onRdmaB_view {M : Nat} (hM : 32768 ||| M = M) (b : Nat) (g : RdmaB → RdmaB) (s : State) :
    (onRdmaB b g s).view M = s.view M := by
  refine view_le hM ?_
  simp only [onRdmaB, onRdma_view, view_ite, foldl_view, ite_self, Nat.reduceOr]

/-- trimBlocks may change: rdma. -/
theorem trimBlocks_view {M : Nat} (hM : 32768 ||| M = M) (b : Nat) (new : RdmaB) (s : State) :
    (trimBlocks b new s).view M = s.view M := by
  refine view_le hM ?_
  simp only [trimBlocks, onRdma_view, view_out, view_ite, foldl_view, ite_self, Nat.reduceOr]

/-- execRdmaQuota may change: rdma, ph, mbx, msix, pmon, out. -/
theorem execRdmaQuota_kept {M : Nat} (hM : 17250680832 ||| M = M) (rq : Req) (s : State) :
    Kept M s (execRdmaQuota rq s) := by
  refine Kept.le hM ?_
  unfold execRdmaQuota
  refine serve_kept rfl _ _ (fun s => ?_) s
  simp only [trimBlocks_view, view_ite, foldl_view, ite_self, Nat.reduceOr, kept_ite, keeps_ite, kept_next, keeps_ok, keeps_err, keeps_failed, keeps_later]

/-- execRdmaMrReg may change: rdma, ph, mbx, msix, pmon, out. -/
theorem execRdmaMrReg_kept {M : Nat} (hM : 17250680832 ||| M = M) (rq : Req) (s : State) :
    Kept M s (execRdmaMrReg rq s) := by
  refine Kept.le hM ?_
  unfold execRdmaMrReg
  refine serve_kept rfl _ _ (fun s => ?_) s
  simp only [onRdma_view, view_ite, foldl_view, ite_self, Nat.reduceOr, kept_ite, keeps_ite, kept_next, keeps_ok, keeps_err, keeps_failed, keeps_later]

/-- execRdmaMrDereg may change: rdma, ph, mbx, msix, pmon, out. -/
theorem execRdmaMrDereg_kept {M : Nat} (hM : 17250680832 ||| M = M) (rq : Req) (s : State) :
    Kept M s (execRdmaMrDereg rq s) := by
  refine Kept.le hM ?_
  unfold execRdmaMrDereg
  refine serve_kept rfl _ _ (fun s => ?_) s
  simp only [onRdma_view, view_ite, foldl_view, ite_self, Nat.reduceOr, kept_ite, keeps_ite, kept_next, keeps_ok, keeps_err, keeps_failed, keeps_later]

/-- execRdmaCqCreate may change: rdma, ph, mbx, msix, pmon, out. -/
theorem execRdmaCqCreate_kept {M : Nat} (hM : 17250680832 ||| M = M) (rq : Req) (s : State) :
    Kept M s (execRdmaCqCreate rq s) := by
  refine Kept.le hM ?_
  unfold execRdmaCqCreate
  refine serve_kept rfl _ _ (fun s => ?_) s
  (try simp only [onCq_view, view_ite, foldl_view, ite_self, Nat.reduceOr, kept_ite, keeps_ite, kept_next, keeps_ok, keeps_err, keeps_failed, keeps_later]) <;> (repeat' split) <;> (try simp only [onCq_view, view_ite, foldl_view, ite_self, Nat.reduceOr, kept_ite, keeps_ite, kept_next, keeps_ok, keeps_err, keeps_failed, keeps_later]) <;> (repeat' split) <;> (try simp only [onCq_view, view_ite, foldl_view, ite_self, Nat.reduceOr, kept_ite, keeps_ite, kept_next, keeps_ok, keeps_err, keeps_failed, keeps_later])

/-- execRdmaCqDestroy may change: rdma, ph, mbx, msix, pmon, out. -/
theorem execRdmaCqDestroy_kept {M : Nat} (hM : 17250680832 ||| M = M) (rq : Req) (s : State) :
    Kept M s (execRdmaCqDestroy rq s) := by
  refine Kept.le hM ?_
  unfold execRdmaCqDestroy
  refine serve_kept rfl _ _ (fun s => ?_) s
  (try simp only [onRdma_view, view_ite, foldl_view, ite_self, Nat.reduceOr, kept_ite, keeps_ite, kept_next, keeps_ok, keeps_err, keeps_failed, keeps_later]) <;> (repeat' split) <;> (try simp only [onRdma_view, view_ite, foldl_view, ite_self, Nat.reduceOr, kept_ite, keeps_ite, kept_next, keeps_ok, keeps_err, keeps_failed, keeps_later]) <;> (repeat' split) <;> (try simp only [onRdma_view, view_ite, foldl_view, ite_self, Nat.reduceOr, kept_ite, keeps_ite, kept_next, keeps_ok, keeps_err, keeps_failed, keeps_later])

/-- execRdmaQpCreate may change: rdma, ph, mbx, msix, pmon, out. -/
theorem execRdmaQpCreate_kept {M : Nat} (hM : 17250680832 ||| M = M) (rq : Req) (s : State) :
    Kept M s (execRdmaQpCreate rq s) := by
  refine Kept.le hM ?_
  unfold execRdmaQpCreate
  refine serve_kept rfl _ _ (fun s => ?_) s
  (try simp only [onQp_view, view_ite, foldl_view, ite_self, Nat.reduceOr, kept_ite, keeps_ite, kept_next, keeps_ok, keeps_err, keeps_failed, keeps_later]) <;> (repeat' split) <;> (try simp only [onQp_view, view_ite, foldl_view, ite_self, Nat.reduceOr, kept_ite, keeps_ite, kept_next, keeps_ok, keeps_err, keeps_failed, keeps_later]) <;> (repeat' split) <;> (try simp only [onQp_view, view_ite, foldl_view, ite_self, Nat.reduceOr, kept_ite, keeps_ite, kept_next, keeps_ok, keeps_err, keeps_failed, keeps_later])

/-- moveQp may change: port, frames, nextFrame, strn, rsv, xl, fab, rdma, mbx, msix, host, sump, pmon, trace, out. -/
theorem moveQp_view {M : Nat} (hM : 17409553768 ||| M = M) (q dest : Nat) (rq : Req) (s : State) :
    (moveQp q dest rq s).view M = s.view M := by
  refine view_le hM ?_
  simp only [moveQp, onQp_view, qpError_view, trySend_view, view_ite, foldl_view, ite_self, Nat.reduceOr]

/-- execRdmaQpModify may change: port, frames, nextFrame, strn, rsv, xl, fab, rdma, ph, mbx, msix, host, sump, pmon, trace, out. -/
theorem execRdmaQpModify_kept {M : Nat} (hM : 17410078056 ||| M = M) (rq : Req) (s : State) :
    Kept M s (execRdmaQpModify rq s) := by
  refine Kept.le hM ?_
  unfold execRdmaQpModify
  refine serve_kept rfl _ _ (fun s => ?_) s
  (try simp only [moveQp_view, rdmaSettle_view, view_ite, foldl_view, ite_self, Nat.reduceOr, kept_ite, keeps_ite, kept_next, keeps_ok, keeps_err, keeps_failed, keeps_later]) <;> (repeat' split) <;> (try simp only [moveQp_view, rdmaSettle_view, view_ite, foldl_view, ite_self, Nat.reduceOr, kept_ite, keeps_ite, kept_next, keeps_ok, keeps_err, keeps_failed, keeps_later]) <;> (repeat' split) <;> (try simp only [moveQp_view, rdmaSettle_view, view_ite, foldl_view, ite_self, Nat.reduceOr, kept_ite, keeps_ite, kept_next, keeps_ok, keeps_err, keeps_failed, keeps_later])

/-- execRdmaQpQuery may change: ph, mbx, msix, pmon, out. -/
theorem execRdmaQpQuery_kept {M : Nat} (hM : 17250648064 ||| M = M) (rq : Req) (s : State) :
    Kept M s (execRdmaQpQuery rq s) := by
  refine Kept.le hM ?_
  unfold execRdmaQpQuery
  refine serve_kept rfl _ _ (fun s => ?_) s
  (try simp only [view_ite, foldl_view, ite_self, Nat.reduceOr, kept_ite, keeps_ite, kept_next, keeps_ok, keeps_err, keeps_failed, keeps_later]) <;> (repeat' split) <;> (try simp only [view_ite, foldl_view, ite_self, Nat.reduceOr, kept_ite, keeps_ite, kept_next, keeps_ok, keeps_err, keeps_failed, keeps_later]) <;> (repeat' split) <;> (try simp only [view_ite, foldl_view, ite_self, Nat.reduceOr, kept_ite, keeps_ite, kept_next, keeps_ok, keeps_err, keeps_failed, keeps_later])

/-- execRdmaQpDestroy may change: rdma, ph, mbx, msix, pmon, out. -/
theorem execRdmaQpDestroy_kept {M : Nat} (hM : 17250680832 ||| M = M) (rq : Req) (s : State) :
    Kept M s (execRdmaQpDestroy rq s) := by
  refine Kept.le hM ?_
  unfold execRdmaQpDestroy
  refine serve_kept rfl _ _ (fun s => ?_) s
  (try simp only [onRdma_view, view_ite, foldl_view, ite_self, Nat.reduceOr, kept_ite, keeps_ite, kept_next, keeps_ok, keeps_err, keeps_failed, keeps_later]) <;> (repeat' split) <;> (try simp only [onRdma_view, view_ite, foldl_view, ite_self, Nat.reduceOr, kept_ite, keeps_ite, kept_next, keeps_ok, keeps_err, keeps_failed, keeps_later]) <;> (repeat' split) <;> (try simp only [onRdma_view, view_ite, foldl_view, ite_self, Nat.reduceOr, kept_ite, keeps_ite, kept_next, keeps_ok, keeps_err, keeps_failed, keeps_later])

/-- execRdmaStatus may change: ph, mbx, msix, pmon, out. -/
theorem execRdmaStatus_kept {M : Nat} (hM : 17250648064 ||| M = M) (rq : Req) (s : State) :
    Kept M s (execRdmaStatus rq s) := by
  refine Kept.le hM ?_
  unfold execRdmaStatus
  refine serve_kept rfl _ _ (fun s => ?_) s
  simp only [view_ite, foldl_view, ite_self, Nat.reduceOr, kept_ite, keeps_ite, kept_next, keeps_ok, keeps_err, keeps_failed, keeps_later]

end Sys2Proof.Machine
end

