-- ==== Sys2Proof/Laws/KeepRdmaEvents.lean ====
section
/-! SUPPORT. What the operations of Machine/RdmaEvents.lean may change: one lemma for each. -/

namespace Sys2Proof.Machine

/-- readRing may change: pmon, out. -/
theorem readRing_view {M : Nat} (hM : 17246978048 ||| M = M) (b base size entry first n : Nat) (s : State) :
    (readRing b base size entry first n s).view M = s.view M := by
  refine view_le hM ?_
  simp only [readRing, hostRead_view, view_ite, foldl_view, ite_self, Nat.reduceOr]

/-- postSends may change: rdma, mbx, msix, sump, pmon, out. -/
theorem postSends_view {M : Nat} (hM : 17266933760 ||| M = M) (b q prod : Nat) (s : State) :
    (postSends b q prod s).view M = s.view M := by
  refine view_le hM ?_
  simp only [postSends, onQp_view, qpError_view, readRing_view, view_ite, foldl_view, ite_self, Nat.reduceOr]

/-- postRecvs may change: rdma, mbx, msix, sump, pmon, out. -/
theorem postRecvs_view {M : Nat} (hM : 17266933760 ||| M = M) (b q prod : Nat) (s : State) :
    (postRecvs b q prod s).view M = s.view M := by
  refine view_le hM ?_
  simp only [postRecvs, onQp_view, qpError_view, readRing_view, view_ite, foldl_view, ite_self, Nat.reduceOr]

/-- execRdmaSqDb may change: port, frames, nextFrame, strn, rsv, xl, fab, rdma, mbx, msix, host, sump, pmon, trace, out. -/
theorem execRdmaSqDb_kept {M : Nat} (hM : 17409553768 ||| M = M) (b : Fin 16) (v : BitVec 32) (s : State) :
    Kept M s (execRdmaSqDb b v s) := by
  refine Kept.le hM ?_
  unfold execRdmaSqDb
  (try simp only [mmio_view, postSends_view, rdmaSettle_view, view_ite, foldl_view, ite_self, Nat.reduceOr, kept_ite, keeps_ite, kept_next, keeps_ok, keeps_err, keeps_failed, keeps_later]) <;> (repeat' split) <;> (try simp only [mmio_view, postSends_view, rdmaSettle_view, view_ite, foldl_view, ite_self, Nat.reduceOr, kept_ite, keeps_ite, kept_next, keeps_ok, keeps_err, keeps_failed, keeps_later]) <;> (repeat' split) <;> (try simp only [mmio_view, postSends_view, rdmaSettle_view, view_ite, foldl_view, ite_self, Nat.reduceOr, kept_ite, keeps_ite, kept_next, keeps_ok, keeps_err, keeps_failed, keeps_later])

/-- execRdmaRqDb may change: port, frames, nextFrame, strn, rsv, xl, fab, rdma, mbx, msix, host, sump, pmon, trace, out. -/
theorem execRdmaRqDb_kept {M : Nat} (hM : 17409553768 ||| M = M) (b : Fin 16) (v : BitVec 32) (s : State) :
    Kept M s (execRdmaRqDb b v s) := by
  refine Kept.le hM ?_
  unfold execRdmaRqDb
  (try simp only [mmio_view, postRecvs_view, rdmaSettle_view, view_ite, foldl_view, ite_self, Nat.reduceOr, kept_ite, keeps_ite, kept_next, keeps_ok, keeps_err, keeps_failed, keeps_later]) <;> (repeat' split) <;> (try simp only [mmio_view, postRecvs_view, rdmaSettle_view, view_ite, foldl_view, ite_self, Nat.reduceOr, kept_ite, keeps_ite, kept_next, keeps_ok, keeps_err, keeps_failed, keeps_later]) <;> (repeat' split) <;> (try simp only [mmio_view, postRecvs_view, rdmaSettle_view, view_ite, foldl_view, ite_self, Nat.reduceOr, kept_ite, keeps_ite, kept_next, keeps_ok, keeps_err, keeps_failed, keeps_later])

/-- execRdmaCqDb may change: rdma, pmon. -/
theorem execRdmaCqDb_kept {M : Nat} (hM : 67141632 ||| M = M) (b : Fin 16) (v : BitVec 32) (s : State) :
    Kept M s (execRdmaCqDb b v s) := by
  refine Kept.le hM ?_
  unfold execRdmaCqDb
  (try simp only [mmio_view, onCq_view, view_ite, foldl_view, ite_self, Nat.reduceOr, kept_ite, keeps_ite, kept_next, keeps_ok, keeps_err, keeps_failed, keeps_later]) <;> (repeat' split) <;> (try simp only [mmio_view, onCq_view, view_ite, foldl_view, ite_self, Nat.reduceOr, kept_ite, keeps_ite, kept_next, keeps_ok, keeps_err, keeps_failed, keeps_later]) <;> (repeat' split) <;> (try simp only [mmio_view, onCq_view, view_ite, foldl_view, ite_self, Nat.reduceOr, kept_ite, keeps_ite, kept_next, keeps_ok, keeps_err, keeps_failed, keeps_later])

/-- readData may change: pmon, out. -/
theorem readData_view {M : Nat} (hM : 17246978048 ||| M = M) (x : Qp) (w : Wr) (s : State) :
    (readData x w s).view M = s.view M := by
  refine view_le hM ?_
  simp only [readData, hostRead_view, view_ite, foldl_view, ite_self, Nat.reduceOr]

/-- takeSendWrs may change: rdma, mbx, msix, sump, pmon, out. -/
theorem takeSendWrs_view {M : Nat} (hM : 17266933760 ||| M = M) (q : Nat) (x0 : List (List Byte × List Byte)) (s : State) :
    (takeSendWrs q x0 s).view M = s.view M := by
  refine view_le hM ?_
  induction x0 generalizing s with
  | nil => rfl
  | cons a l ih =>
    simp only [takeSendWrs]
    repeat' (first | with_reducible rfl | simp only [completeSend_view, onQp_view, readData_view, view_ite, foldl_view, ite_self, Nat.reduceOr, ih] | split | refine (foldl_view (fun s a => ?_) _ _).trans ?_ | (rename_i e; rw [fst_view e]) | (rename_i e _; rw [fst_view e]) | (rename_i e _ _; rw [fst_view e]))

/-- takeRecvWrs may change: rdma, mbx, msix, sump, pmon, out. -/
theorem takeRecvWrs_view {M : Nat} (hM : 17266933760 ||| M = M) (q : Nat) (x0 : List (List Byte)) (s : State) :
    (takeRecvWrs q x0 s).view M = s.view M := by
  refine view_le hM ?_
  induction x0 generalizing s with
  | nil => rfl
  | cons a l ih =>
    simp only [takeRecvWrs]
    repeat' (first | with_reducible rfl | simp only [completeRecv_view, onQp_view, view_ite, foldl_view, ite_self, Nat.reduceOr, ih] | split | refine (foldl_view (fun s a => ?_) _ _).trans ?_ | (rename_i e; rw [fst_view e]) | (rename_i e _; rw [fst_view e]) | (rename_i e _ _; rw [fst_view e]))

/-- execWorkRequestFetched may change: port, frames, nextFrame, strn, rsv, xl, fab, rdma, mbx, msix, host, sump, pmon, trace, out. -/
theorem execWorkRequestFetched_kept {M : Nat} (hM : 17409553768 ||| M = M) (q : Fin 4096) (recv : Bool) (wqes : List (List Byte)) (data : List (List Byte)) (s : State) :
    Kept M s (execWorkRequestFetched q recv wqes data s) := by
  refine Kept.le hM ?_
  unfold execWorkRequestFetched
  simp only [advance_view, rdmaSettle_view, takeRecvWrs_view, takeSendWrs_view, view_ite, foldl_view, ite_self, Nat.reduceOr, kept_ite, keeps_ite, kept_next, keeps_ok, keeps_err, keeps_failed, keeps_later]

/-- badQp may change: rdma. -/
theorem badQp_view {M : Nat} (hM : 32768 ||| M = M) (s : State) :
    (badQp s).view M = s.view M := by
  refine view_le hM ?_
  simp only [badQp, onRdma_view, view_ite, foldl_view, ite_self, Nat.reduceOr]

/-- deliverPkt may change: port, frames, nextFrame, strn, rsv, xl, fab, rdma, mbx, msix, host, sump, pmon, trace, out. -/
theorem deliverPkt_view {M : Nat} (hM : 17409553768 ||| M = M) (p : RdmaPkt) (ok : Qp → Bool) (data : List Byte) (s : State) :
    (deliverPkt p ok data s).view M = s.view M := by
  refine view_le hM ?_
  simp only [deliverPkt, badQp_view, onRdma_view, qpTakes_view, rdmaSettle_view, view_ite, foldl_view, ite_self, Nat.reduceOr]

/-- riverPacket may change: port, frames, nextFrame, strn, rsv, xl, fab, rdma, mbx, msix, host, sump, pmon, trace, out. -/
theorem riverPacket_view {M : Nat} (hM : 17409553768 ||| M = M) (p : Nat) (bytes data : List Byte) (s : State) :
    (riverPacket p bytes data s).view M = s.view M := by
  refine view_le hM ?_
  unfold riverPacket
  (try simp only [deliverPkt_view, onRdma_view, view_ite, foldl_view, ite_self, Nat.reduceOr]) <;> (repeat' split) <;> (try simp only [deliverPkt_view, onRdma_view, view_ite, foldl_view, ite_self, Nat.reduceOr]) <;> (repeat' split) <;> (try simp only [deliverPkt_view, onRdma_view, view_ite, foldl_view, ite_self, Nat.reduceOr])

/-- fabricPacket may change: port, frames, nextFrame, strn, rsv, xl, fab, rdma, mbx, msix, host, sump, pmon, trace, out. -/
theorem fabricPacket_view {M : Nat} (hM : 17409553768 ||| M = M) (bytes data : List Byte) (s : State) :
    (fabricPacket bytes data s).view M = s.view M := by
  refine view_le hM ?_
  simp only [fabricPacket, deliverPkt_view, onFab_view, view_ite, foldl_view, ite_self, Nat.reduceOr]

/-- execRdmaPacket may change: port, frames, nextFrame, strn, rsv, xl, fab, rdma, mbx, msix, host, sump, pmon, trace, out. -/
theorem execRdmaPacket_kept {M : Nat} (hM : 17409553768 ||| M = M) (via : PktVia) (bytes : List Byte) (data : List Byte) (s : State) :
    Kept M s (execRdmaPacket via bytes data s) := by
  refine Kept.le hM ?_
  unfold execRdmaPacket
  (try simp only [fabricPacket_view, riverPacket_view, view_ite, foldl_view, ite_self, Nat.reduceOr, kept_ite, keeps_ite, kept_next, keeps_ok, keeps_err, keeps_failed, keeps_later]) <;> (repeat' split) <;> (try simp only [fabricPacket_view, riverPacket_view, view_ite, foldl_view, ite_self, Nat.reduceOr, kept_ite, keeps_ite, kept_next, keeps_ok, keeps_err, keeps_failed, keeps_later]) <;> (repeat' split) <;> (try simp only [fabricPacket_view, riverPacket_view, view_ite, foldl_view, ite_self, Nat.reduceOr, kept_ite, keeps_ite, kept_next, keeps_ok, keeps_err, keeps_failed, keeps_later])

/-- execRdmaRetransmitTimeout may change: port, frames, nextFrame, strn, rsv, xl, fab, rdma, mbx, msix, host, sump, pmon, trace, out. -/
theorem execRdmaRetransmitTimeout_kept {M : Nat} (hM : 17409553768 ||| M = M) (q : Fin 4096) (s : State) :
    Kept M s (execRdmaRetransmitTimeout q s) := by
  refine Kept.le hM ?_
  unfold execRdmaRetransmitTimeout
  simp only [rdmaSettle_view, retransmit_view, view_ite, foldl_view, ite_self, Nat.reduceOr, kept_ite, keeps_ite, kept_next, keeps_ok, keeps_err, keeps_failed, keeps_later]

/-- execAckCoalesceTimeout may change: port, frames, nextFrame, strn, rsv, xl, fab, rdma, mbx, msix, host, sump, pmon, trace, out. -/
theorem execAckCoalesceTimeout_kept {M : Nat} (hM : 17409553768 ||| M = M) (q : Fin 4096) (s : State) :
    Kept M s (execAckCoalesceTimeout q s) := by
  refine Kept.le hM ?_
  unfold execAckCoalesceTimeout
  simp only [rdmaSettle_view, sendAck_view, view_ite, foldl_view, ite_self, Nat.reduceOr, kept_ite, keeps_ite, kept_next, keeps_ok, keeps_err, keeps_failed, keeps_later]

/-- execRnrTimer may change: port, frames, nextFrame, strn, rsv, xl, fab, rdma, mbx, msix, host, sump, pmon, trace, out. -/
theorem execRnrTimer_kept {M : Nat} (hM : 17409553768 ||| M = M) (q : Fin 4096) (s : State) :
    Kept M s (execRnrTimer q s) := by
  refine Kept.le hM ?_
  unfold execRnrTimer
  simp only [onQp_view, rdmaSettle_view, trySend_view, view_ite, foldl_view, ite_self, Nat.reduceOr, kept_ite, keeps_ite, kept_next, keeps_ok, keeps_err, keeps_failed, keeps_later]

/-- engineDown may change: port, frames, nextFrame, strn, rsv, xl, fab, rdma, mbx, msix, host, sump, pmon, trace, out. -/
theorem engineDown_view {M : Nat} (hM : 17409553768 ||| M = M) (e : Nat) (s : State) :
    (engineDown e s).view M = s.view M := by
  refine view_le hM ?_
  unfold engineDown
  repeat' (first | with_reducible rfl | simp only [onRdma_view, qpError_view, rdmaSettle_view, view_ite, foldl_view, ite_self, Nat.reduceOr] | split | refine (foldl_view (fun s a => ?_) _ _).trans ?_ | (rename_i e; rw [fst_view e]) | (rename_i e _; rw [fst_view e]) | (rename_i e _ _; rw [fst_view e]))

/-- execRdmaEngineFail may change: port, frames, nextFrame, strn, rsv, xl, fab, rdma, mbx, msix, host, sump, pmon, trace, out. -/
theorem execRdmaEngineFail_kept {M : Nat} (hM : 17409553768 ||| M = M) (e : Fin 2) (s : State) :
    Kept M s (execRdmaEngineFail e s) := by
  refine Kept.le hM ?_
  unfold execRdmaEngineFail
  simp only [engineDown_view, raise_view, view_ite, foldl_view, ite_self, Nat.reduceOr, kept_ite, keeps_ite, kept_next, keeps_ok, keeps_err, keeps_failed, keeps_later]

/-- resumeRdma may change: port, frames, nextFrame, strn, rsv, xl, fab, rdma, mbx, msix, host, sump, pmon, trace, out. -/
theorem resumeRdma_view {M : Nat} (hM : 17409553768 ||| M = M) (s : State) :
    (resumeRdma s).view M = s.view M := by
  refine view_le hM ?_
  unfold resumeRdma
  repeat' (first | with_reducible rfl | simp only [rdmaSettle_view, rewind_view, trySend_view, view_ite, foldl_view, ite_self, Nat.reduceOr] | split | refine (foldl_view (fun s a => ?_) _ _).trans ?_ | (rename_i e; rw [fst_view e]) | (rename_i e _; rw [fst_view e]) | (rename_i e _ _; rw [fst_view e]))

end Sys2Proof.Machine
end

