-- ==== Sys2Proof/Laws/KeepRings.lean ====
section
/-! SUPPORT. What the operations of Machine/Rings.lean may change: one lemma for each. -/

namespace Sys2Proof.Machine

/-- writeHeld may change: host, pmon, out. -/
theorem writeHeld_view {M : Nat} (hM : 17255366656 ||| M = M) (b r : Nat) (eop trunc : Bool) (s : State) :
    (writeHeld b r eop trunc s).view M = s.view M := by
  refine view_le hM ?_
  unfold writeHeld
  (try simp only [hostWrite_view, onRx_view, view_ite, foldl_view, ite_self, Nat.reduceOr]) <;> (repeat' split) <;> (try simp only [hostWrite_view, onRx_view, view_ite, foldl_view, ite_self, Nat.reduceOr]) <;> (repeat' split) <;> (try simp only [hostWrite_view, onRx_view, view_ite, foldl_view, ite_self, Nat.reduceOr])

/-- endDelivery may change: port, frames, strn, rsv, msix, host, pmon, trace, out. -/
theorem endDelivery_view {M : Nat} (hM : 17391682856 ||| M = M) (b r : Nat) (trunc : Bool) (s : State) :
    (endDelivery b r trunc s).view M = s.view M := by
  refine view_le hM ?_
  unfold endDelivery
  (try simp only [chargeFor_view, copyEnds_view, onQueue_view, onRx_view, signalRx_view, writeHeld_view, view_frames, view_ite, foldl_view, ite_self, Nat.reduceOr]) <;> (repeat' split) <;> (try simp only [chargeFor_view, copyEnds_view, onQueue_view, onRx_view, signalRx_view, writeHeld_view, view_frames, view_ite, foldl_view, ite_self, Nat.reduceOr]) <;> (repeat' split) <;> (try simp only [chargeFor_view, copyEnds_view, onQueue_view, onRx_view, signalRx_view, writeHeld_view, view_frames, view_ite, foldl_view, ite_self, Nat.reduceOr])

/-- abandonDelivery may change: port, frames, strn, rsv, msix, host, pmon, trace, out. -/
theorem abandonDelivery_view {M : Nat} (hM : 17391682856 ||| M = M) (b r : Nat) (s : State) :
    (abandonDelivery b r s).view M = s.view M := by
  refine view_le hM ?_
  unfold abandonDelivery
  (try simp only [copyEnds_view, onRx_view, view_ite, foldl_view, ite_self, Nat.reduceOr]) <;> (repeat' split) <;> (try simp only [copyEnds_view, onRx_view, view_ite, foldl_view, ite_self, Nat.reduceOr]) <;> (repeat' split) <;> (try simp only [copyEnds_view, onRx_view, view_ite, foldl_view, ite_self, Nat.reduceOr])

/-- dropRingFrames may change: port, frames, strn, rsv, msix, host, pmon, trace, out. -/
theorem dropRingFrames_view {M : Nat} (hM : 17391682856 ||| M = M) (b r : Nat) (s : State) :
    (dropRingFrames b r s).view M = s.view M := by
  refine view_le hM ?_
  unfold dropRingFrames
  repeat' (first | with_reducible rfl | simp only [dropCopy_view, view_ite, foldl_view, ite_self, Nat.reduceOr] | split | refine (foldl_view (fun s a => ?_) _ _).trans ?_ | (rename_i e; rw [fst_view e]) | (rename_i e _; rw [fst_view e]) | (rename_i e _ _; rw [fst_view e]))

/-- disableRx may change: port, frames, strn, rsv, msix, host, pmon, trace, out. -/
theorem disableRx_view {M : Nat} (hM : 17391682856 ||| M = M) (b r : Nat) (s : State) :
    (disableRx b r s).view M = s.view M := by
  refine view_le hM ?_
  simp only [disableRx, endDelivery_view, onRx_view, view_ite, foldl_view, ite_self, Nat.reduceOr]

/-- disableTx may change: port, frames, strn, rsv, msix, host, pmon, trace, out. -/
theorem disableTx_view {M : Nat} (hM : 17391682856 ||| M = M) (b r : Nat) (s : State) :
    (disableTx b r s).view M = s.view M := by
  refine view_le hM ?_
  simp only [disableTx, dropRingFrames_view, onTx_view, view_ite, foldl_view, ite_self, Nat.reduceOr]

/-- configRx may change: port, frames, strn, rsv, msix, host, pmon, trace, out. -/
theorem configRx_keeps {M : Nat} (hM : 17391682856 ||| M = M) (b r : Nat) (rq : Req) (s : State) :
    Reply.Keeps M s (configRx b r rq s) := by
  refine Reply.Keeps.le hM ?_
  simp only [configRx, disableRx_view, onRx_view, view_ite, foldl_view, ite_self, Nat.reduceOr, kept_ite, keeps_ite, kept_next, keeps_ok, keeps_err, keeps_failed, keeps_later]

/-- configTx may change: port, frames, strn, rsv, msix, host, pmon, trace, out. -/
theorem configTx_keeps {M : Nat} (hM : 17391682856 ||| M = M) (b r : Nat) (rq : Req) (s : State) :
    Reply.Keeps M s (configTx b r rq s) := by
  refine Reply.Keeps.le hM ?_
  simp only [configTx, disableTx_view, onTx_view, view_ite, foldl_view, ite_self, Nat.reduceOr, kept_ite, keeps_ite, kept_next, keeps_ok, keeps_err, keeps_failed, keeps_later]

/-- execQueueingRingConfig may change: port, frames, strn, rsv, ph, mbx, msix, host, pmon, trace, out. -/
theorem execQueueingRingConfig_kept {M : Nat} (hM : 17393255720 ||| M = M) (rq : Req) (s : State) :
    Kept M s (execQueueingRingConfig rq s) := by
  refine Kept.le hM ?_
  unfold execQueueingRingConfig
  refine serve_kept rfl _ _ (fun s => ?_) s
  (try simp only [view_ite, foldl_view, ite_self, Nat.reduceOr, kept_ite, keeps_ite, kept_next, keeps_ok, keeps_err, keeps_failed, keeps_later]) <;> (repeat' split) <;> (try simp only [view_ite, foldl_view, ite_self, Nat.reduceOr, kept_ite, keeps_ite, kept_next, keeps_ok, keeps_err, keeps_failed, keeps_later]) <;> (repeat' split) <;> (try simp only [view_ite, foldl_view, ite_self, Nat.reduceOr, kept_ite, keeps_ite, kept_next, keeps_ok, keeps_err, keeps_failed, keeps_later])
  all_goals (first | exact configTx_keeps rfl .. | skip)
  all_goals (first | exact configRx_keeps rfl .. | skip)

/-- execQueueingRingStatus may change: ph, mbx, msix, pmon, out. -/
theorem execQueueingRingStatus_kept {M : Nat} (hM : 17250648064 ||| M = M) (rq : Req) (s : State) :
    Kept M s (execQueueingRingStatus rq s) := by
  refine Kept.le hM ?_
  unfold execQueueingRingStatus
  refine serve_kept rfl _ _ (fun s => ?_) s
  simp only [view_ite, foldl_view, ite_self, Nat.reduceOr, kept_ite, keeps_ite, kept_next, keeps_ok, keeps_err, keeps_failed, keeps_later]

/-- resetRings may change: port, frames, strn, rsv, msix, host, pmon, trace, out. -/
theorem resetRings_view {M : Nat} (hM : 17391682856 ||| M = M) (b : Nat) (s : State) :
    (resetRings b s).view M = s.view M := by
  refine view_le hM ?_
  unfold resetRings
  repeat' (first | with_reducible rfl | simp only [abandonDelivery_view, onRx_view, onTx_view, view_ite, foldl_view, ite_self, Nat.reduceOr] | split | refine (foldl_view (fun s a => ?_) _ _).trans ?_ | (rename_i e; rw [fst_view e]) | (rename_i e _; rw [fst_view e]) | (rename_i e _ _; rw [fst_view e]))

/-- rxDbErr may change: host, sump. -/
theorem rxDbErr_view {M : Nat} (hM : 25165824 ||| M = M) (b r : Nat) (s : State) :
    (rxDbErr b r s).view M = s.view M := by
  refine view_le hM ?_
  simp only [rxDbErr, onRx_view, raise_view, view_ite, foldl_view, ite_self, Nat.reduceOr]

/-- txDbErr may change: host, sump. -/
theorem txDbErr_view {M : Nat} (hM : 25165824 ||| M = M) (b r : Nat) (s : State) :
    (txDbErr b r s).view M = s.view M := by
  refine view_le hM ?_
  simp only [txDbErr, onTx_view, raise_view, view_ite, foldl_view, ite_self, Nat.reduceOr]

/-- execRxDoorbell may change: msix, host, sump, pmon, out. -/
theorem execRxDoorbell_kept {M : Nat} (hM : 17274241024 ||| M = M) (b : Fin 16) (r : Fin 4) (v : BitVec 32) (s0 : State) :
    Kept M s0 (execRxDoorbell b r v s0) := by
  refine Kept.le hM ?_
  unfold execRxDoorbell
  simp only [mmio_view, onRx_view, readRing_view, rxDbErr_view, signalRx_view, view_ite, foldl_view, ite_self, Nat.reduceOr, kept_ite, keeps_ite, kept_next, keeps_ok, keeps_err, keeps_failed, keeps_later]

/-- execTxDoorbell may change: msix, host, sump, pmon, out. -/
theorem execTxDoorbell_kept {M : Nat} (hM : 17274241024 ||| M = M) (b : Fin 16) (r : Fin 4) (v : BitVec 32) (s0 : State) :
    Kept M s0 (execTxDoorbell b r v s0) := by
  refine Kept.le hM ?_
  unfold execTxDoorbell
  simp only [mmio_view, onTx_view, readRing_view, signalTx_view, txDbErr_view, view_ite, foldl_view, ite_self, Nat.reduceOr, kept_ite, keeps_ite, kept_next, keeps_ok, keeps_err, keeps_failed, keeps_later]

/-- queueWriteback may change: msix, host, pmon, out. -/
theorem queueWriteback_view {M : Nat} (hM : 17257463808 ||| M = M) (b r : Nat) (ds : List TxDesc) (st : BitVec 8) (s : State) :
    (queueWriteback b r ds st s).view M = s.view M := by
  refine view_le hM ?_
  simp only [queueWriteback, flushTx_view, onTx_view, view_ite, foldl_view, ite_self, Nat.reduceOr]

/-- closeTxFrame may change: port, frames, nextFrame, strn, rsv, msix, host, pmon, trace, out. -/
theorem closeTxFrame_view {M : Nat} (hM : 17391682920 ||| M = M) (b r : Nat) (s : State) :
    (closeTxFrame b r s).view M = s.view M := by
  refine view_le hM ?_
  simp only [closeTxFrame, onTx_view, originate_view, queueWriteback_view, view_ite, foldl_view, ite_self, Nat.reduceOr]

/-- cutChain may change: msix, host, pmon, out. -/
theorem cutChain_view {M : Nat} (hM : 17257463808 ||| M = M) (b r : Nat) (s : State) :
    (cutChain b r s).view M = s.view M := by
  refine view_le hM ?_
  simp only [cutChain, onTx_view, queueWriteback_view, view_ite, foldl_view, ite_self, Nat.reduceOr]

/-- takeTxDesc may change: port, frames, nextFrame, strn, rsv, msix, host, pmon, trace, out. -/
theorem takeTxDesc_view {M : Nat} (hM : 17391682920 ||| M = M) (b r : Nat) (sop : Bool) (d : TxDesc) (s : State) :
    (takeTxDesc b r sop d s).view M = s.view M := by
  refine view_le hM ?_
  simp only [takeTxDesc, closeTxFrame_view, cutChain_view, onTx_view, queueWriteback_view, view_ite, foldl_view, ite_self, Nat.reduceOr]

/-- execTxDescFetched may change: port, frames, nextFrame, strn, rsv, msix, host, pmon, trace, out. -/
theorem execTxDescFetched_kept {M : Nat} (hM : 17391682920 ||| M = M) (b : Fin 16) (r : Fin 4) (desc : List Byte) (data : Option (List Byte)) (s : State) :
    Kept M s (execTxDescFetched b r desc data s) := by
  refine Kept.le hM ?_
  unfold execTxDescFetched
  simp only [takeTxDesc_view, view_ite, foldl_view, ite_self, Nat.reduceOr, kept_ite, keeps_ite, kept_next, keeps_ok, keeps_err, keeps_failed, keeps_later]

/-- startDelivery may change: frames, rsv, host. -/
theorem startDelivery_view {M : Nat} (hM : 8389664 ||| M = M) (b r f : Nat) (s : State) :
    (startDelivery b r f s).view M = s.view M := by
  refine view_le hM ?_
  simp only [startDelivery, onRx_view, takeFrom_view, view_ite, foldl_view, ite_self, Nat.reduceOr]

/-- fillBuffer may change: frames, host, pmon, out. -/
theorem fillBuffer_view {M : Nat} (hM : 17255366688 ||| M = M) (b r addr : Nat) (s : State) :
    (fillBuffer b r addr s).view M = s.view M := by
  refine view_le hM ?_
  unfold fillBuffer
  (try simp only [hostWrite_view, onRx_view, stampEgress_view, writeHeld_view, view_ite, foldl_view, ite_self, Nat.reduceOr]) <;> (repeat' split) <;> (try simp only [hostWrite_view, onRx_view, stampEgress_view, writeHeld_view, view_ite, foldl_view, ite_self, Nat.reduceOr]) <;> (repeat' split) <;> (try simp only [hostWrite_view, onRx_view, stampEgress_view, writeHeld_view, view_ite, foldl_view, ite_self, Nat.reduceOr])

/-- fillBuffers may change: frames, host, pmon, out. -/
theorem fillBuffers_view {M : Nat} (hM : 17255366688 ||| M = M) (b r : Nat) (x0 : List (BitVec 64)) (s : State) :
    (fillBuffers b r x0 s).view M = s.view M := by
  refine view_le hM ?_
  induction x0 generalizing s with
  | nil => rfl
  | cons a l ih =>
    simp only [fillBuffers]
    repeat' (first | with_reducible rfl | simp only [fillBuffer_view, view_ite, foldl_view, ite_self, Nat.reduceOr, ih] | split | refine (foldl_view (fun s a => ?_) _ _).trans ?_ | (rename_i e; rw [fst_view e]) | (rename_i e _; rw [fst_view e]) | (rename_i e _ _; rw [fst_view e]))

/-- afterFill may change: port, frames, strn, rsv, msix, host, pmon, trace, out. -/
theorem afterFill_view {M : Nat} (hM : 17391682856 ||| M = M) (b r : Nat) (s : State) :
    (afterFill b r s).view M = s.view M := by
  refine view_le hM ?_
  simp only [afterFill, endDelivery_view, onRx_view, view_ite, foldl_view, ite_self, Nat.reduceOr]

/-- readyHost may change: port, frames, strn, rsv, msix, host, pmon, trace, out. -/
theorem readyHost_view {M : Nat} (hM : 17391682856 ||| M = M) (s : State) :
    (readyHost s).view M = s.view M := by
  refine view_le hM ?_
  unfold readyHost
  repeat' (first | with_reducible rfl | simp only [dropLostHeads_view, fillQueue_view, view_ite, foldl_view, ite_self, Nat.reduceOr] | split | refine (foldl_view (fun s a => ?_) _ _).trans ?_ | (rename_i e; rw [fst_view e]) | (rename_i e _; rw [fst_view e]) | (rename_i e _ _; rw [fst_view e]))

/-- execHostDelivery may change: port, frames, strn, rsv, msix, host, pmon, trace, out. -/
theorem execHostDelivery_kept {M : Nat} (hM : 17391682856 ||| M = M) (bufs : List (BitVec 64)) (s : State) :
    Kept M s (execHostDelivery bufs s) := by
  refine Kept.le hM ?_
  have h := readyHost_view (M := 17391682856) rfl s
  unfold execHostDelivery
  dsimp only
  generalize readyHost s = s1 at h ⊢
  generalize rotateFind 16 s1.rsv.hostNext (fun b => (s1.nextRing b).isSome) = o
  cases o with
  | none => rw [kept_next]; exact h
  | some b =>
    have h2 : ∀ v, (onRsv v s1).view 17391682856 = s.view 17391682856 := fun v => (onRsv_view rfl v s1).trans h
    dsimp only
    by_cases hb : bufs = []
    · rw [if_pos hb, kept_next]
      exact h
    · rw [if_neg hb, kept_next, afterFill_view rfl, fillBuffers_view rfl, view_ite, startDelivery_view rfl, h2, ite_self]

/-- execRxWaitExpiry may change: port, frames, strn, rsv, msix, host, pmon, trace, out. -/
theorem execRxWaitExpiry_kept {M : Nat} (hM : 17391682856 ||| M = M) (b : Fin 16) (r : Fin 4) (s : State) :
    Kept M s (execRxWaitExpiry b r s) := by
  refine Kept.le hM ?_
  unfold execRxWaitExpiry
  simp only [endDelivery_view, view_ite, foldl_view, ite_self, Nat.reduceOr, kept_ite, keeps_ite, kept_next, keeps_ok, keeps_err, keeps_failed, keeps_later]

/-- execItrTimer may change: msix, host, out. -/
theorem execItrTimer_kept {M : Nat} (hM : 17190354944 ||| M = M) (tx : Bool) (b : Fin 16) (r : Fin 4) (s : State) :
    Kept M s (execItrTimer tx b r s) := by
  refine Kept.le hM ?_
  unfold execItrTimer
  simp only [signalRx_view, signalTx_view, view_ite, foldl_view, ite_self, Nat.reduceOr, kept_ite, keeps_ite, kept_next, keeps_ok, keeps_err, keeps_failed, keeps_later]

end Sys2Proof.Machine
end

