-- ==== Sys2Proof/Laws/KeepWindOps.lean ====
section
/-! SUPPORT. What the operations of Machine/WindOps.lean may change: one lemma for each. -/

namespace Sys2Proof.Machine

/-- onRun may change: weir. -/
theorem onRun_view {M : Nat} (hM : 2048 ||| M = M) (g : WindRun → WindRun) (s : State) :
    (onRun g s).view M = s.view M := by
  refine view_le hM ?_
  simp only [onRun, onWeir_view, view_ite, foldl_view, ite_self, Nat.reduceOr]

/-- rollLocal may change: weir. -/
theorem rollLocal_view {M : Nat} (hM : 2048 ||| M = M) (b : Nat) (s : State) :
    (rollLocal b s).view M = s.view M := by
  refine view_le hM ?_
  simp only [rollLocal, onWeirB_view, view_ite, foldl_view, ite_self, Nat.reduceOr]

/-- markSat may change: weir. -/
theorem markSat_view {M : Nat} (hM : 2048 ||| M = M) (hit : Bool) (s : State) :
    (markSat hit s).view M = s.view M := by
  refine view_le hM ?_
  simp only [markSat, onWeir_view, view_ite, foldl_view, ite_self, Nat.reduceOr]

/-- startRun may change: weir. -/
theorem startRun_view {M : Nat} (hM : 2048 ||| M = M) (b : Nat) (s : State) :
    (startRun b s).view M = s.view M := by
  refine view_le hM ?_
  simp only [startRun, markSat_view, onWeir_view, rollLocal_view, view_ite, foldl_view, ite_self, Nat.reduceOr]

/-- startDue may change: weir, mbx, msix, pmon, out. -/
theorem startDue_view {M : Nat} (hM : 17250125824 ||| M = M) (s : State) :
    (startDue s).view M = s.view M := by
  refine view_le hM ?_
  unfold startDue
  (try simp only [finishOpt_view, onWeir_view, startRun_view, view_ite, foldl_view, ite_self, Nat.reduceOr]) <;> (repeat' split) <;> (try simp only [finishOpt_view, onWeir_view, startRun_view, view_ite, foldl_view, ite_self, Nat.reduceOr]) <;> (repeat' split) <;> (try simp only [finishOpt_view, onWeir_view, startRun_view, view_ite, foldl_view, ite_self, Nat.reduceOr])

/-- dropDue may change: weir, mbx, msix, pmon, out. -/
theorem dropDue_view {M : Nat} (hM : 17250125824 ||| M = M) (b : Nat) (s : State) :
    (dropDue b s).view M = s.view M := by
  refine view_le hM ?_
  unfold dropDue
  repeat' (first | with_reducible rfl | simp only [finishOpt_view, onWeir_view, view_ite, foldl_view, ite_self, Nat.reduceOr] | split | refine (foldl_view (fun s a => ?_) _ _).trans ?_ | (rename_i e; rw [fst_view e]) | (rename_i e _; rw [fst_view e]) | (rename_i e _ _; rw [fst_view e]))

/-- endRun may change: weir. -/
theorem endRun_view {M : Nat} (hM : 2048 ||| M = M) (s : State) :
    (endRun s).view M = s.view M := by
  refine view_le hM ?_
  simp only [endRun, onWeir_view, view_ite, foldl_view, ite_self, Nat.reduceOr]

/-- computeTile may change: weir. -/
theorem computeTile_view {M : Nat} (hM : 2048 ||| M = M) (i : Nat) (s : State) :
    (computeTile i s).view M = s.view M := by
  refine view_le hM ?_
  unfold computeTile
  (try simp only [markSat_view, onRun_view, view_ite, foldl_view, ite_self, Nat.reduceOr]) <;> (repeat' split) <;> (try simp only [markSat_view, onRun_view, view_ite, foldl_view, ite_self, Nat.reduceOr]) <;> (repeat' split) <;> (try simp only [markSat_view, onRun_view, view_ite, foldl_view, ite_self, Nat.reduceOr])

/-- failTile may change: weir, mbx, msix, sump, pmon, out. -/
theorem failTile_view {M : Nat} (hM : 17266903040 ||| M = M) (t : Nat) (s : State) :
    (failTile t s).view M = s.view M := by
  refine view_le hM ?_
  unfold failTile
  (try simp only [endRun_view, onRun_view, onWeir_view, raise_view, startDue_view, view_ite, foldl_view, ite_self, Nat.reduceOr]) <;> (repeat' split) <;> (try simp only [endRun_view, onRun_view, onWeir_view, raise_view, startDue_view, view_ite, foldl_view, ite_self, Nat.reduceOr]) <;> (repeat' split) <;> (try simp only [endRun_view, onRun_view, onWeir_view, raise_view, startDue_view, view_ite, foldl_view, ite_self, Nat.reduceOr])

/-- install may change: weir, mbx, msix, out. -/
theorem install_view {M : Nat} (hM : 17183016960 ||| M = M) (r : WindRun) (s : State) :
    (install r s).view M = s.view M := by
  refine view_le hM ?_
  simp only [install, onWeirB_view, postEvent_view, view_ite, foldl_view, ite_self, Nat.reduceOr]

end Sys2Proof.Machine
end

