-- ==== Sys2Proof/Laws/KeepShtlOps.lean ====
section
/-! SUPPORT. What the operations of Machine/ShtlOps.lean may change: one lemma for each. -/

namespace Sys2Proof.Machine

/-- onShtl may change: shtl. -/
theorem onShtl_view {M : Nat} (hM : 16384 ||| M = M) (g : Shtl → Shtl) (s : State) :
    (onShtl g s).view M = s.view M := by
  refine view_le hM ?_
  simp only [onShtl, view_shtl, view_ite, foldl_view, ite_self, Nat.reduceOr]

/-- onOp may change: shtl. -/
theorem onOp_view {M : Nat} (hM : 16384 ||| M = M) (k : Nat) (g : ColOp → ColOp) (s : State) :
    (onOp k g s).view M = s.view M := by
  refine view_le hM ?_
  simp only [onOp, onShtl_view, view_ite, foldl_view, ite_self, Nat.reduceOr]

/-- sendCol may change: rsv, xl, fab. -/
theorem sendCol_view {M : Nat} (hM : 13312 ||| M = M) (dst : Nat) (body : List Byte) (s : State) :
    (sendCol dst body s).view M = s.view M := by
  refine view_le hM ?_
  simp only [sendCol, inject_view, view_ite, foldl_view, ite_self, Nat.reduceOr]

/-- sendFirst may change: rsv, xl, fab. -/
theorem sendFirst_view {M : Nat} (hM : 13312 ||| M = M) (k a : Nat) (s : State) :
    (sendFirst k a s).view M = s.view M := by
  refine view_le hM ?_
  unfold sendFirst
  repeat' (first | with_reducible rfl | simp only [sendCol_view, view_ite, foldl_view, ite_self, Nat.reduceOr] | split | refine (foldl_view (fun s a => ?_) _ _).trans ?_ | (rename_i e; rw [fst_view e]) | (rename_i e _; rw [fst_view e]) | (rename_i e _ _; rw [fst_view e]))

/-- sendAborts may change: rsv, xl, fab. -/
theorem sendAborts_view {M : Nat} (hM : 13312 ||| M = M) (op : ColOp) (s : State) :
    (sendAborts op s).view M = s.view M := by
  refine view_le hM ?_
  unfold sendAborts
  repeat' (first | with_reducible rfl | simp only [sendCol_view, view_ite, foldl_view, ite_self, Nat.reduceOr] | split | refine (foldl_view (fun s a => ?_) _ _).trans ?_ | (rename_i e; rw [fst_view e]) | (rename_i e _; rw [fst_view e]) | (rename_i e _ _; rw [fst_view e]))

/-- countOp may change: shtl. -/
theorem countOp_view {M : Nat} (hM : 16384 ||| M = M) (op : ColOp) (status : Nat) (s : State) :
    (countOp op status s).view M = s.view M := by
  refine view_le hM ?_
  unfold countOp
  rfl

/-- runTakes may change: weir, mbx, msix, pmon, out. -/
theorem runTakes_view {M : Nat} (hM : 17250125824 ||| M = M) (op : ColOp) (ok : Bool) (s : State) :
    (runTakes op ok s).view M = s.view M := by
  refine view_le hM ?_
  unfold runTakes
  (try simp only [endRun_view, onRun_view, startDue_view, view_ite, foldl_view, ite_self, Nat.reduceOr]) <;> (repeat' split) <;> (try simp only [endRun_view, onRun_view, startDue_view, view_ite, foldl_view, ite_self, Nat.reduceOr]) <;> (repeat' split) <;> (try simp only [endRun_view, onRun_view, startDue_view, view_ite, foldl_view, ite_self, Nat.reduceOr])

/-- endOp may change: rsv, weir, xl, fab, shtl, mbx, msix, pmon, out. -/
theorem endOp_view {M : Nat} (hM : 17250155520 ||| M = M) (k status peer : Nat) (s : State) :
    (endOp k status peer s).view M = s.view M := by
  refine view_le hM ?_
  unfold endOp
  (try simp only [countOp_view, hostWrite_view, onShtl_view, postEvent_view, runTakes_view, sendAborts_view, view_out, view_ite, foldl_view, ite_self, Nat.reduceOr]) <;> (repeat' split) <;> (try simp only [countOp_view, hostWrite_view, onShtl_view, postEvent_view, runTakes_view, sendAborts_view, view_out, view_ite, foldl_view, ite_self, Nat.reduceOr]) <;> (repeat' split) <;> (try simp only [countOp_view, hostWrite_view, onShtl_view, postEvent_view, runTakes_view, sendAborts_view, view_out, view_ite, foldl_view, ite_self, Nat.reduceOr])

/-- loadPart may change: shtl. -/
theorem loadPart_view {M : Nat} (hM : 16384 ||| M = M) (k : Nat) (s : State) :
    (loadPart k s).view M = s.view M := by
  refine view_le hM ?_
  unfold loadPart
  (try simp only [count_view, onOp_view, view_ite, foldl_view, ite_self, Nat.reduceOr]) <;> (repeat' split) <;> (try simp only [count_view, onOp_view, view_ite, foldl_view, ite_self, Nat.reduceOr]) <;> (repeat' split) <;> (try simp only [count_view, onOp_view, view_ite, foldl_view, ite_self, Nat.reduceOr])

/-- axisDone may change: shtl. -/
theorem axisDone_view {M : Nat} (hM : 16384 ||| M = M) (k : Nat) (s : State) :
    (axisDone k s).view M = s.view M := by
  refine view_le hM ?_
  simp only [axisDone, onOp_view, view_ite, foldl_view, ite_self, Nat.reduceOr]

/-- beginAxis may change: rsv, xl, fab, shtl. -/
theorem beginAxis_view {M : Nat} (hM : 29696 ||| M = M) (k a : Nat) (s : State) :
    (beginAxis k a s).view M = s.view M := by
  refine view_le hM ?_
  simp only [beginAxis, axisDone_view, loadPart_view, onOp_view, sendFirst_view, view_ite, foldl_view, ite_self, Nat.reduceOr]

/-- partDone may change: rsv, weir, xl, fab, shtl, mbx, msix, pmon, out. -/
theorem partDone_view {M : Nat} (hM : 17250155520 ||| M = M) (k : Nat) (s : State) :
    (partDone k s).view M = s.view M := by
  refine view_le hM ?_
  simp only [partDone, endOp_view, loadPart_view, onOp_view, view_ite, foldl_view, ite_self, Nat.reduceOr]

/-- takeSegment may change: rsv, xl, fab, shtl. -/
theorem takeSegment_view {M : Nat} (hM : 29696 ||| M = M) (k a : Nat) (h : ColHdr) (data : List Byte) (s : State) :
    (takeSegment k a h data s).view M = s.view M := by
  refine view_le hM ?_
  unfold takeSegment
  (try simp only [axisDone_view, onOp_view, sendCol_view, view_ite, foldl_view, ite_self, Nat.reduceOr]) <;> (repeat' split) <;> (try simp only [axisDone_view, onOp_view, sendCol_view, view_ite, foldl_view, ite_self, Nat.reduceOr]) <;> (repeat' split) <;> (try simp only [axisDone_view, onOp_view, sendCol_view, view_ite, foldl_view, ite_self, Nat.reduceOr])

/-- actOn may change: rsv, weir, xl, fab, shtl, mbx, msix, pmon, out. -/
theorem actOn_view {M : Nat} (hM : 17250155520 ||| M = M) (k i : Nat) (s : State) :
    (actOn k i s).view M = s.view M := by
  refine view_le hM ?_
  simp only [actOn, endOp_view, onShtl_view, takeSegment_view, view_ite, foldl_view, ite_self, Nat.reduceOr]

/-- postOp may change: shtl. -/
theorem postOp_view {M : Nat} (hM : 16384 ||| M = M) (k : Nat) (op : ColOp) (s : State) :
    (postOp k op s).view M = s.view M := by
  refine view_le hM ?_
  simp only [postOp, onShtl_view, view_ite, foldl_view, ite_self, Nat.reduceOr]

/-- postRun may change: weir, shtl, mbx, msix, pmon, out. -/
theorem postRun_view {M : Nat} (hM : 17250142208 ||| M = M) (r : WindRun) (s : State) {t : State}
    (h : postRun r s = some t) : t.view M = s.view M := by
  refine view_le hM ?_
  simp only [postRun] at h
  (repeat' split at h) <;> (first | contradiction | (cases h; repeat' (first | with_reducible rfl | simp only [count_view, endRun_view, onRun_view, postOp_view, startDue_view, view_ite, foldl_view, ite_self, Nat.reduceOr] | split | refine (foldl_view (fun s a => ?_) _ _).trans ?_ | (rename_i e; rw [fst_view e]) | (rename_i e _; rw [fst_view e]) | (rename_i e _ _; rw [fst_view e]))))

/-- opAct may change: rsv, weir, xl, fab, shtl, mbx, msix, pmon, out. -/
theorem opAct_view {M : Nat} (hM : 17250155520 ||| M = M) (k : Nat) (s : State) {t : State}
    (h : opAct k s = some t) : t.view M = s.view M := by
  refine view_le hM ?_
  simp only [opAct] at h
  (repeat' split at h) <;> (first | contradiction | (cases h; repeat' (first | with_reducible rfl | simp only [actOn_view, beginAxis_view, endOp_view, onOp_view, partDone_view, view_ite, foldl_view, ite_self, Nat.reduceOr] | split | refine (foldl_view (fun s a => ?_) _ _).trans ?_ | (rename_i e; rw [fst_view e]) | (rename_i e _; rw [fst_view e]) | (rename_i e _ _; rw [fst_view e]))))

/-- shtlAct may change: rsv, weir, xl, fab, shtl, mbx, msix, pmon, out. -/
theorem shtlAct_view {M : Nat} (hM : 17250155520 ||| M = M) (s : State) {t : State}
    (h : shtlAct s = some t) : t.view M = s.view M := by
  refine view_le hM ?_
  unfold shtlAct at h
  split at h
  · rename_i s1 e
    obtain ⟨r, -, hr⟩ := Option.bind_eq_some_iff.mp e
    cases h
    exact postRun_view rfl r s hr
  · obtain ⟨k, -, hk⟩ := List.exists_of_findSome?_eq_some h
    exact opAct_view rfl k s hk

/-- shtlSettle may change: rsv, weir, xl, fab, shtl, mbx, msix, pmon, out. -/
theorem shtlSettle_view {M : Nat} (hM : 17250155520 ||| M = M) (x0 : Nat) (s : State) :
    (shtlSettle x0 s).view M = s.view M := by
  refine view_le hM ?_
  induction x0 generalizing s with
  | zero => rfl
  | succ n ih =>
    simp only [shtlSettle]
    repeat' (first | with_reducible rfl | simp only [view_ite, foldl_view, ite_self, Nat.reduceOr, ih] | split | refine (foldl_view (fun s a => ?_) _ _).trans ?_ | (rename_i e; rw [shtlAct_view rfl _ _ e]) | (rename_i e; rw [shtlAct_view rfl _ e]) | (rename_i e; rw [shtlAct_view rfl _ _ _ e]) | (rename_i e; rw [fst_view e]) | (rename_i e _; rw [fst_view e]) | (rename_i e _ _; rw [fst_view e]))

/-- shtlGo may change: rsv, weir, xl, fab, shtl, mbx, msix, pmon, out. -/
theorem shtlGo_view {M : Nat} (hM : 17250155520 ||| M = M) (s : State) :
    (shtlGo s).view M = s.view M := by
  refine view_le hM ?_
  simp only [shtlGo, shtlSettle_view, view_ite, foldl_view, ite_self, Nat.reduceOr]

/-- abortOps may change: rsv, weir, xl, fab, shtl, mbx, msix, pmon, out. -/
theorem abortOps_view {M : Nat} (hM : 17250155520 ||| M = M) (p : Group → Bool) (s : State) :
    (abortOps p s).view M = s.view M := by
  refine view_le hM ?_
  unfold abortOps
  repeat' (first | with_reducible rfl | simp only [endOp_view, view_ite, foldl_view, ite_self, Nat.reduceOr] | split | refine (foldl_view (fun s a => ?_) _ _).trans ?_ | (rename_i e; rw [fst_view e]) | (rename_i e _; rw [fst_view e]) | (rename_i e _ _; rw [fst_view e]))

/-- releaseGroups may change: rsv, weir, xl, fab, shtl, mbx, msix, pmon, out. -/
theorem releaseGroups_view {M : Nat} (hM : 17250155520 ||| M = M) (b : Nat) (s : State) :
    (releaseGroups b s).view M = s.view M := by
  refine view_le hM ?_
  simp only [releaseGroups, abortOps_view, onShtl_view, view_ite, foldl_view, ite_self, Nat.reduceOr]

end Sys2Proof.Machine
end

