-- ==== Sys2Proof/Laws/KeepStrainer.lean ====
section
/-! SUPPORT. What the operations of Machine/Strainer.lean may change: one lemma for each. -/

namespace Sys2Proof.Machine

/-- setMove may change: strn. -/
theorem setMove_view {M : Nat} (hM : 256 ||| M = M) (b : Nat) (m : Option Move) (s : State) :
    (setMove b m s).view M = s.view M := by
  refine view_le hM ?_
  simp only [setMove, onStrn_view, view_ite, foldl_view, ite_self, Nat.reduceOr]

/-- clearRange may change: strn. -/
theorem clearRange_view {M : Nat} (hM : 256 ||| M = M) (b : Nat) (s : State) :
    (clearRange b s).view M = s.view M := by
  refine view_le hM ?_
  simp only [clearRange, onStrn_view, view_ite, foldl_view, ite_self, Nat.reduceOr]

/-- setPartition may change: strn. -/
theorem setPartition_view {M : Nat} (hM : 256 ||| M = M) (rq : Req) (s : State) :
    (setPartition rq s).view M = s.view M := by
  refine view_le hM ?_
  simp only [setPartition, clearRange_view, onStrnB_view, view_ite, foldl_view, ite_self, Nat.reduceOr]

/-- execStrainerPartition may change: strn, ph, mbx, msix, pmon, out. -/
theorem execStrainerPartition_kept {M : Nat} (hM : 17250648320 ||| M = M) (rq : Req) (s : State) :
    Kept M s (execStrainerPartition rq s) := by
  refine Kept.le hM ?_
  unfold execStrainerPartition
  refine serve_kept rfl _ _ (fun s => ?_) s
  simp only [setPartition_view, view_ite, foldl_view, ite_self, Nat.reduceOr, kept_ite, keeps_ite, kept_next, keeps_ok, keeps_err, keeps_failed, keeps_later]

/-- execStrainerBerthConfig may change: strn, ph, mbx, msix, pmon, out. -/
theorem execStrainerBerthConfig_kept {M : Nat} (hM : 17250648320 ||| M = M) (rq : Req) (s : State) :
    Kept M s (execStrainerBerthConfig rq s) := by
  refine Kept.le hM ?_
  unfold execStrainerBerthConfig
  refine serve_kept rfl _ _ (fun s => ?_) s
  simp only [onStrnB_view, view_ite, foldl_view, ite_self, Nat.reduceOr, kept_ite, keeps_ite, kept_next, keeps_ok, keeps_err, keeps_failed, keeps_later]

/-- execStrainerPatternStage may change: strn, ph, mbx, msix, pmon, out. -/
theorem execStrainerPatternStage_kept {M : Nat} (hM : 17250648320 ||| M = M) (rq : Req) (s : State) :
    Kept M s (execStrainerPatternStage rq s) := by
  refine Kept.le hM ?_
  unfold execStrainerPatternStage
  refine serve_kept rfl _ _ (fun s => ?_) s
  simp only [onStrnB_view, view_ite, foldl_view, ite_self, Nat.reduceOr, kept_ite, keeps_ite, kept_next, keeps_ok, keeps_err, keeps_failed, keeps_later]

/-- execStrainerPatternCommit may change: strn, ledg, cist, ph, mbx, msix, pmon, out. -/
theorem execStrainerPatternCommit_kept {M : Nat} (hM : 17250844928 ||| M = M) (rq : Req) (s : State) :
    Kept M s (execStrainerPatternCommit rq s) := by
  refine Kept.le hM ?_
  unfold execStrainerPatternCommit
  refine serve_kept rfl _ _ (fun s => ?_) s
  simp only [append_view, onStrnB_view, settleSet_view, view_ite, foldl_view, ite_self, Nat.reduceOr, kept_ite, keeps_ite, kept_next, keeps_ok, keeps_err, keeps_failed, keeps_later]

/-- shiftCtx may change: strn. -/
theorem shiftCtx_view {M : Nat} (hM : 256 ||| M = M) (b i : Nat) (dest : Int) (s : State) :
    (shiftCtx b i dest s).view M = s.view M := by
  refine view_le hM ?_
  unfold shiftCtx
  repeat' (first | with_reducible rfl | simp only [onStrn_view, view_ite, foldl_view, ite_self, Nat.reduceOr] | split | refine (foldl_view (fun s a => ?_) _ _).trans ?_ | (rename_i e; rw [fst_view e]) | (rename_i e _; rw [fst_view e]) | (rename_i e _ _; rw [fst_view e]))

/-- execStrainerRuleInsert may change: strn, ph, mbx, msix, pmon, out. -/
theorem execStrainerRuleInsert_kept {M : Nat} (hM : 17250648320 ||| M = M) (rq : Req) (s : State) :
    Kept M s (execStrainerRuleInsert rq s) := by
  refine Kept.le hM ?_
  unfold execStrainerRuleInsert
  refine serve_kept rfl _ _ (fun s => ?_) s
  simp only [onStrnB_view, setMove_view, setRule_view, view_ite, foldl_view, ite_self, Nat.reduceOr, kept_ite, keeps_ite, kept_next, keeps_ok, keeps_err, keeps_failed, keeps_later]

/-- execStrainerRuleDelete may change: strn, ph, mbx, msix, pmon, out. -/
theorem execStrainerRuleDelete_kept {M : Nat} (hM : 17250648320 ||| M = M) (rq : Req) (s : State) :
    Kept M s (execStrainerRuleDelete rq s) := by
  refine Kept.le hM ?_
  unfold execStrainerRuleDelete
  refine serve_kept rfl _ _ (fun s => ?_) s
  simp only [onStrnB_view, setMove_view, setRule_view, shiftCtx_view, view_ite, foldl_view, ite_self, Nat.reduceOr, kept_ite, keeps_ite, kept_next, keeps_ok, keeps_err, keeps_failed, keeps_later]

/-- execStrainerRuleWrite may change: strn, ph, mbx, msix, pmon, out. -/
theorem execStrainerRuleWrite_kept {M : Nat} (hM : 17250648320 ||| M = M) (rq : Req) (s : State) :
    Kept M s (execStrainerRuleWrite rq s) := by
  refine Kept.le hM ?_
  unfold execStrainerRuleWrite
  refine serve_kept rfl _ _ (fun s => ?_) s
  simp only [setRule_view, view_ite, foldl_view, ite_self, Nat.reduceOr, kept_ite, keeps_ite, kept_next, keeps_ok, keeps_err, keeps_failed, keeps_later]

/-- moveEntry may change: strn, pmon. -/
theorem moveEntry_view {M : Nat} (hM : 67109120 ||| M = M) (b src dst : Nat) (s : State) :
    (moveEntry b src dst s).view M = s.view M := by
  refine view_le hM ?_
  simp only [moveEntry, count_view, onStrn_view, setRule_view, shiftCtx_view, view_ite, foldl_view, ite_self, Nat.reduceOr]

/-- insertStep may change: strn, mbx, msix, pmon, out. -/
theorem insertStep_view {M : Nat} (hM : 17250124032 ||| M = M) (b : Nat) (m : Move) (s : State) :
    (insertStep b m s).view M = s.view M := by
  refine view_le hM ?_
  simp only [insertStep, finish_view, moveEntry_view, onStrnB_view, setMove_view, setRule_view, view_ite, foldl_view, ite_self, Nat.reduceOr]

/-- deleteStep may change: strn, mbx, msix, pmon, out. -/
theorem deleteStep_view {M : Nat} (hM : 17250124032 ||| M = M) (b : Nat) (m : Move) (s : State) :
    (deleteStep b m s).view M = s.view M := by
  refine view_le hM ?_
  simp only [deleteStep, finish_view, moveEntry_view, onStrnB_view, setMove_view, view_ite, foldl_view, ite_self, Nat.reduceOr]

/-- execMoveStep may change: strn, mbx, msix, pmon, out. -/
theorem execMoveStep_kept {M : Nat} (hM : 17250124032 ||| M = M) (s : State) :
    Kept M s (execMoveStep s) := by
  refine Kept.le hM ?_
  unfold execMoveStep
  (try simp only [deleteStep_view, insertStep_view, onStrn_view, view_ite, foldl_view, ite_self, Nat.reduceOr, kept_ite, keeps_ite, kept_next, keeps_ok, keeps_err, keeps_failed, keeps_later]) <;> (repeat' split) <;> (try simp only [deleteStep_view, insertStep_view, onStrn_view, view_ite, foldl_view, ite_self, Nat.reduceOr, kept_ite, keeps_ite, kept_next, keeps_ok, keeps_err, keeps_failed, keeps_later]) <;> (repeat' split) <;> (try simp only [deleteStep_view, insertStep_view, onStrn_view, view_ite, foldl_view, ite_self, Nat.reduceOr, kept_ite, keeps_ite, kept_next, keeps_ok, keeps_err, keeps_failed, keeps_later])

/-- execStrainerLookupCmd may change: strn, ph, mbx, msix, pmon, out. -/
theorem execStrainerLookupCmd_kept {M : Nat} (hM : 17250648320 ||| M = M) (rq : Req) (s : State) :
    Kept M s (execStrainerLookupCmd rq s) := by
  refine Kept.le hM ?_
  unfold execStrainerLookupCmd
  refine serve_kept rfl _ _ (fun s => ?_) s
  simp only [strnLookup_view, view_ite, foldl_view, ite_self, Nat.reduceOr, kept_ite, keeps_ite, kept_next, keeps_ok, keeps_err, keeps_failed, keeps_later]

/-- endCtx may change: frames, strn. -/
theorem endCtx_view {M : Nat} (hM : 288 ||| M = M) (k : Nat) (s : State) :
    (endCtx k s).view M = s.view M := by
  refine view_le hM ?_
  unfold endCtx
  (try simp only [freeCtx_view, onFrame_view, view_ite, foldl_view, ite_self, Nat.reduceOr]) <;> (repeat' split) <;> (try simp only [freeCtx_view, onFrame_view, view_ite, foldl_view, ite_self, Nat.reduceOr]) <;> (repeat' split) <;> (try simp only [freeCtx_view, onFrame_view, view_ite, foldl_view, ite_self, Nat.reduceOr])

/-- execStrainerMatchNext may change: frames, strn, ph, mbx, msix, pmon, out. -/
theorem execStrainerMatchNext_kept {M : Nat} (hM : 17250648352 ||| M = M) (rq : Req) (s : State) :
    Kept M s (execStrainerMatchNext rq s) := by
  refine Kept.le hM ?_
  unfold execStrainerMatchNext
  refine serve_kept rfl _ _ (fun s => ?_) s
  (try simp only [count_view, endCtx_view, onStrn_view, view_ite, foldl_view, ite_self, Nat.reduceOr, kept_ite, keeps_ite, kept_next, keeps_ok, keeps_err, keeps_failed, keeps_later]) <;> (repeat' split) <;> (try simp only [count_view, endCtx_view, onStrn_view, view_ite, foldl_view, ite_self, Nat.reduceOr, kept_ite, keeps_ite, kept_next, keeps_ok, keeps_err, keeps_failed, keeps_later]) <;> (repeat' split) <;> (try simp only [count_view, endCtx_view, onStrn_view, view_ite, foldl_view, ite_self, Nat.reduceOr, kept_ite, keeps_ite, kept_next, keeps_ok, keeps_err, keeps_failed, keeps_later])

/-- execStrainerStatus may change: ph, mbx, msix, pmon, out. -/
theorem execStrainerStatus_kept {M : Nat} (hM : 17250648064 ||| M = M) (rq : Req) (s : State) :
    Kept M s (execStrainerStatus rq s) := by
  refine Kept.le hM ?_
  unfold execStrainerStatus
  refine serve_kept rfl _ _ (fun s => ?_) s
  simp only [view_ite, foldl_view, ite_self, Nat.reduceOr, kept_ite, keeps_ite, kept_next, keeps_ok, keeps_err, keeps_failed, keeps_later]

/-- damageRule may change: strn, sump. -/
theorem damageRule_view {M : Nat} (hM : 16777472 ||| M = M) (i : Nat) (s : State) :
    (damageRule i s).view M = s.view M := by
  refine view_le hM ?_
  unfold damageRule
  (try simp only [raise_view, setRule_view, view_ite, foldl_view, ite_self, Nat.reduceOr]) <;> (repeat' split) <;> (try simp only [raise_view, setRule_view, view_ite, foldl_view, ite_self, Nat.reduceOr]) <;> (repeat' split) <;> (try simp only [raise_view, setRule_view, view_ite, foldl_view, ite_self, Nat.reduceOr])

/-- damageAutomaton may change: strn, sump. -/
theorem damageAutomaton_view {M : Nat} (hM : 16777472 ||| M = M) (b u i : Nat) (s : State) :
    (damageAutomaton b u i s).view M = s.view M := by
  refine view_le hM ?_
  simp only [damageAutomaton, onStrnB_view, raise_view, view_ite, foldl_view, ite_self, Nat.reduceOr]

/-- execRuleFlushing may change: strn, sump. -/
theorem execRuleFlushing_kept {M : Nat} (hM : 16777472 ||| M = M) (unit : Fin 4) (automaton : Bool) (err : EccErr) (s : State) :
    Kept M s (execRuleFlushing unit automaton err s) := by
  refine Kept.le hM ?_
  unfold execRuleFlushing
  (try simp only [damageAutomaton_view, damageRule_view, onStrn_view, view_ite, foldl_view, ite_self, Nat.reduceOr, kept_ite, keeps_ite, kept_next, keeps_ok, keeps_err, keeps_failed, keeps_later]) <;> (repeat' split) <;> (try simp only [damageAutomaton_view, damageRule_view, onStrn_view, view_ite, foldl_view, ite_self, Nat.reduceOr, kept_ite, keeps_ite, kept_next, keeps_ok, keeps_err, keeps_failed, keeps_later]) <;> (repeat' split) <;> (try simp only [damageAutomaton_view, damageRule_view, onStrn_view, view_ite, foldl_view, ite_self, Nat.reduceOr, kept_ite, keeps_ite, kept_next, keeps_ok, keeps_err, keeps_failed, keeps_later])

/-- execStrnUnitFail may change: strn, sump. -/
theorem execStrnUnitFail_kept {M : Nat} (hM : 16777472 ||| M = M) (u : Fin 4) (s : State) :
    Kept M s (execStrnUnitFail u s) := by
  refine Kept.le hM ?_
  unfold execStrnUnitFail
  simp only [onStrn_view, raise_view, view_ite, foldl_view, ite_self, Nat.reduceOr, kept_ite, keeps_ite, kept_next, keeps_ok, keeps_err, keeps_failed, keeps_later]

end Sys2Proof.Machine
end

