-- ==== Sys2Proof/Laws/KeepTables.lean ====
section
/-! SUPPORT. What the operations of Machine/Tables.lean may change: one lemma for each. -/

namespace Sys2Proof.Machine

/-- setRoot may change: fwd. -/
theorem setRoot_view {M : Nat} (hM : 512 ||| M = M) (b : Nat) (v6 : Bool) (r : Option Nat) (s : State) :
    (setRoot b v6 r s).view M = s.view M := by
  refine view_le hM ?_
  simp only [setRoot, onFwd_view, onFwdB_view, view_ite, foldl_view, ite_self, Nat.reduceOr]

/-- execTablesPartition may change: fwd, ph, mbx, msix, pmon, out. -/
theorem execTablesPartition_kept {M : Nat} (hM : 17250648576 ||| M = M) (rq : Req) (s : State) :
    Kept M s (execTablesPartition rq s) := by
  refine Kept.le hM ?_
  unfold execTablesPartition
  refine serve_kept rfl _ _ (fun s => ?_) s
  simp only [onFwdB_view, setRoot_view, view_ite, foldl_view, ite_self, Nat.reduceOr, kept_ite, keeps_ite, kept_next, keeps_ok, keeps_err, keeps_failed, keeps_later]

/-- execTablesBerthConfig may change: fwd, ph, mbx, msix, pmon, out. -/
theorem execTablesBerthConfig_kept {M : Nat} (hM : 17250648576 ||| M = M) (rq : Req) (s : State) :
    Kept M s (execTablesBerthConfig rq s) := by
  refine Kept.le hM ?_
  unfold execTablesBerthConfig
  refine serve_kept rfl _ _ (fun s => ?_) s
  simp only [learn_view, onFwdB_view, view_ite, foldl_view, ite_self, Nat.reduceOr, kept_ite, keeps_ite, kept_next, keeps_ok, keeps_err, keeps_failed, keeps_later]

/-- execTablesL2Write may change: fwd, ph, mbx, msix, pmon, out. -/
theorem execTablesL2Write_kept {M : Nat} (hM : 17250648576 ||| M = M) (rq : Req) (s : State) :
    Kept M s (execTablesL2Write rq s) := by
  refine Kept.le hM ?_
  unfold execTablesL2Write
  refine serve_kept rfl _ _ (fun s => ?_) s
  (try simp only [clearPoison_view, onFwd_view, view_ite, foldl_view, ite_self, Nat.reduceOr, kept_ite, keeps_ite, kept_next, keeps_ok, keeps_err, keeps_failed, keeps_later]) <;> (repeat' split) <;> (try simp only [clearPoison_view, onFwd_view, view_ite, foldl_view, ite_self, Nat.reduceOr, kept_ite, keeps_ite, kept_next, keeps_ok, keeps_err, keeps_failed, keeps_later]) <;> (repeat' split) <;> (try simp only [clearPoison_view, onFwd_view, view_ite, foldl_view, ite_self, Nat.reduceOr, kept_ite, keeps_ite, kept_next, keeps_ok, keeps_err, keeps_failed, keeps_later])

/-- writeHost may change: fwd. -/
theorem writeHost_keeps {M : Nat} (hM : 512 ||| M = M) (b r : Nat) (addr : List Byte) (s : State) :
    Reply.Keeps M s (writeHost b r addr s) := by
  refine Reply.Keeps.le hM ?_
  unfold writeHost
  repeat' (first | with_reducible rfl | simp only [clearPoison_view, onFwd_view, view_host, view_ite, foldl_view, ite_self, Nat.reduceOr, kept_ite, keeps_ite, kept_next, keeps_ok, keeps_err, keeps_failed, keeps_later] | split | refine (foldl_view (fun s a => ?_) _ _).trans ?_ | trivial | (rename_i e; rw [fst_view e]) | (rename_i e _; rw [fst_view e]) | (rename_i e _ _; rw [fst_view e]))

/-- deleteHost may change: fwd. -/
theorem deleteHost_keeps {M : Nat} (hM : 512 ||| M = M) (b : Nat) (addr : List Byte) (s : State) :
    Reply.Keeps M s (deleteHost b addr s) := by
  refine Reply.Keeps.le hM ?_
  unfold deleteHost
  repeat' (first | with_reducible rfl | simp only [clearPoison_view, onFwd_view, view_host, view_ite, foldl_view, ite_self, Nat.reduceOr, kept_ite, keeps_ite, kept_next, keeps_ok, keeps_err, keeps_failed, keeps_later] | split | refine (foldl_view (fun s a => ?_) _ _).trans ?_ | trivial | (rename_i e; rw [fst_view e]) | (rename_i e _; rw [fst_view e]) | (rename_i e _ _; rw [fst_view e]))

/-- addRoute may change: fwd. -/
theorem addRoute_keeps {M : Nat} (hM : 512 ||| M = M) (b : Nat) (v6 : Bool) (len pfx r : Nat) (s : State) :
    Reply.Keeps M s (addRoute b v6 len pfx r s) := by
  refine Reply.Keeps.le hM ?_
  unfold addRoute
  repeat' (first | with_reducible rfl | simp only [onFwd_view, view_ite, foldl_view, ite_self, Nat.reduceOr, kept_ite, keeps_ite, kept_next, keeps_ok, keeps_err, keeps_failed, keeps_later] | split | refine (foldl_view (fun s a => ?_) _ _).trans ?_ | trivial | (rename_i e; rw [fst_view e]) | (rename_i e _; rw [fst_view e]) | (rename_i e _ _; rw [fst_view e]))

/-- deleteRoute may change: fwd. -/
theorem deleteRoute_view {M : Nat} (hM : 512 ||| M = M) (b : Nat) (v6 : Bool) (len pfx : Nat) (s : State) :
    (deleteRoute b v6 len pfx s).view M = s.view M := by
  refine view_le hM ?_
  simp only [deleteRoute, onFwd_view, view_ite, foldl_view, ite_self, Nat.reduceOr]

/-- execTablesRouteWrite may change: fwd, ph, mbx, msix, pmon, out. -/
theorem execTablesRouteWrite_kept {M : Nat} (hM : 17250648576 ||| M = M) (rq : Req) (s : State) :
    Kept M s (execTablesRouteWrite rq s) := by
  refine Kept.le hM ?_
  unfold execTablesRouteWrite
  refine serve_kept rfl _ _ (fun s => ?_) s
  (try simp only [deleteRoute_view, view_ite, foldl_view, ite_self, Nat.reduceOr, kept_ite, keeps_ite, kept_next, keeps_ok, keeps_err, keeps_failed, keeps_later]) <;> (repeat' split) <;> (try simp only [deleteRoute_view, view_ite, foldl_view, ite_self, Nat.reduceOr, kept_ite, keeps_ite, kept_next, keeps_ok, keeps_err, keeps_failed, keeps_later]) <;> (repeat' split) <;> (try simp only [deleteRoute_view, view_ite, foldl_view, ite_self, Nat.reduceOr, kept_ite, keeps_ite, kept_next, keeps_ok, keeps_err, keeps_failed, keeps_later])
  all_goals (first | exact deleteHost_keeps rfl .. | skip)
  all_goals (first | exact writeHost_keeps rfl .. | skip)
  all_goals (first | exact addRoute_keeps rfl .. | skip)

/-- execTablesMcastWrite may change: fwd, ph, mbx, msix, pmon, out. -/
theorem execTablesMcastWrite_kept {M : Nat} (hM : 17250648576 ||| M = M) (rq : Req) (s : State) :
    Kept M s (execTablesMcastWrite rq s) := by
  refine Kept.le hM ?_
  unfold execTablesMcastWrite
  refine serve_kept rfl _ _ (fun s => ?_) s
  simp only [clearPoison_view, onFwd_view, view_ite, foldl_view, ite_self, Nat.reduceOr, kept_ite, keeps_ite, kept_next, keeps_ok, keeps_err, keeps_failed, keeps_later]

/-- swingGroup may change: fwd. -/
theorem swingGroup_view {M : Nat} (hM : 512 ||| M = M) (g base : Nat) (ms : List Nat) (s : State) :
    (swingGroup g base ms s).view M = s.view M := by
  refine view_le hM ?_
  simp only [swingGroup, count_view, onFwd_view, view_ite, foldl_view, ite_self, Nat.reduceOr]

/-- execTablesEcmpWrite may change: fwd, ph, mbx, msix, pmon, out. -/
theorem execTablesEcmpWrite_kept {M : Nat} (hM : 17250648576 ||| M = M) (rq : Req) (s : State) :
    Kept M s (execTablesEcmpWrite rq s) := by
  refine Kept.le hM ?_
  unfold execTablesEcmpWrite
  refine serve_kept rfl _ _ (fun s => ?_) s
  (try simp only [swingGroup_view, view_ite, foldl_view, ite_self, Nat.reduceOr, kept_ite, keeps_ite, kept_next, keeps_ok, keeps_err, keeps_failed, keeps_later]) <;> (repeat' split) <;> (try simp only [swingGroup_view, view_ite, foldl_view, ite_self, Nat.reduceOr, kept_ite, keeps_ite, kept_next, keeps_ok, keeps_err, keeps_failed, keeps_later]) <;> (repeat' split) <;> (try simp only [swingGroup_view, view_ite, foldl_view, ite_self, Nat.reduceOr, kept_ite, keeps_ite, kept_next, keeps_ok, keeps_err, keeps_failed, keeps_later])

/-- execTablesLookup may change: ph, mbx, msix, pmon, out. -/
theorem execTablesLookup_kept {M : Nat} (hM : 17250648064 ||| M = M) (rq : Req) (s : State) :
    Kept M s (execTablesLookup rq s) := by
  refine Kept.le hM ?_
  unfold execTablesLookup
  refine serve_kept rfl _ _ (fun s => ?_) s
  simp only [view_ite, foldl_view, ite_self, Nat.reduceOr, kept_ite, keeps_ite, kept_next, keeps_ok, keeps_err, keeps_failed, keeps_later]

/-- execTablesStatus may change: ph, mbx, msix, pmon, out. -/
theorem execTablesStatus_kept {M : Nat} (hM : 17250648064 ||| M = M) (rq : Req) (s : State) :
    Kept M s (execTablesStatus rq s) := by
  refine Kept.le hM ?_
  unfold execTablesStatus
  refine serve_kept rfl _ _ (fun s => ?_) s
  simp only [view_ite, foldl_view, ite_self, Nat.reduceOr, kept_ite, keeps_ite, kept_next, keeps_ok, keeps_err, keeps_failed, keeps_later]

/-- execL2AgeSweep may change: fwd. -/
theorem execL2AgeSweep_kept {M : Nat} (hM : 512 ||| M = M) (b : Fin 16) (s : State) :
    Kept M s (execL2AgeSweep b s) := by
  refine Kept.le hM ?_
  unfold execL2AgeSweep
  simp only [count_view, onFwd_view, view_ite, foldl_view, ite_self, Nat.reduceOr, kept_ite, keeps_ite, kept_next, keeps_ok, keeps_err, keeps_failed, keeps_later]

/-- onProt may change: fwd. -/
theorem onProt_view {M : Nat} (hM : 512 ||| M = M) (t : Nat) (g : Prot → Prot) (s : State) :
    (onProt t g s).view M = s.view M := by
  refine view_le hM ?_
  simp only [onProt, onFwd_view, view_ite, foldl_view, ite_self, Nat.reduceOr]

/-- execTablesProtect may change: fwd, ph, mbx, msix, pmon, out. -/
theorem execTablesProtect_kept {M : Nat} (hM : 17250648576 ||| M = M) (rq : Req) (s : State) :
    Kept M s (execTablesProtect rq s) := by
  refine Kept.le hM ?_
  unfold execTablesProtect
  refine serve_kept rfl _ _ (fun s => ?_) s
  simp only [onProt_view, view_ite, foldl_view, ite_self, Nat.reduceOr, kept_ite, keeps_ite, kept_next, keeps_ok, keeps_err, keeps_failed, keeps_later]

/-- poisonWord may change: fwd, sump. -/
theorem poisonWord_view {M : Nat} (hM : 16777728 ||| M = M) (t m i : Nat) (s : State) :
    (poisonWord t m i s).view M = s.view M := by
  refine view_le hM ?_
  simp only [poisonWord, onFwd_view, raise_view, view_ite, foldl_view, ite_self, Nat.reduceOr]

/-- repairWord may change: fwd. -/
theorem repairWord_view {M : Nat} (hM : 512 ||| M = M) (t m i : Nat) (s : State) :
    (repairWord t m i s).view M = s.view M := by
  refine view_le hM ?_
  simp only [repairWord, clearPoison_view, onFwd_view, view_ite, foldl_view, ite_self, Nat.reduceOr]

/-- mismatch may change: fwd, sump. -/
theorem mismatch_view {M : Nat} (hM : 16777728 ||| M = M) (t m i : Nat) (s : State) :
    (mismatch t m i s).view M = s.view M := by
  refine view_le hM ?_
  simp only [mismatch, onFwd_view, onProt_view, raise_view, repairWord_view, view_ite, foldl_view, ite_self, Nat.reduceOr]

/-- readWord may change: fwd, sump. -/
theorem readWord_view {M : Nat} (hM : 16777728 ||| M = M) (t m i : Nat) (err : EccErr) (same : Bool) (s : State) :
    (readWord t m i err same s).view M = s.view M := by
  refine view_le hM ?_
  unfold readWord
  (try simp only [mismatch_view, onFwd_view, poisonWord_view, repairWord_view, view_ite, foldl_view, ite_self, Nat.reduceOr]) <;> (repeat' split) <;> (try simp only [mismatch_view, onFwd_view, poisonWord_view, repairWord_view, view_ite, foldl_view, ite_self, Nat.reduceOr]) <;> (repeat' split) <;> (try simp only [mismatch_view, onFwd_view, poisonWord_view, repairWord_view, view_ite, foldl_view, ite_self, Nat.reduceOr])

/-- advanceCursor may change: fwd. -/
theorem advanceCursor_view {M : Nat} (hM : 512 ||| M = M) (t m i : Nat) (s : State) :
    (advanceCursor t m i s).view M = s.view M := by
  refine view_le hM ?_
  simp only [advanceCursor, onProt_view, view_ite, foldl_view, ite_self, Nat.reduceOr]

/-- execTableBackgroundAccess may change: fwd, sump, pmon. -/
theorem execTableBackgroundAccess_kept {M : Nat} (hM : 83886592 ||| M = M) (t : Fin 7) (m : Fin 6) (err : EccErr) (same : Bool) (s : State) :
    Kept M s (execTableBackgroundAccess t m err same s) := by
  refine Kept.le hM ?_
  unfold execTableBackgroundAccess
  simp only [advanceCursor_view, count_view, onFwd_view, onProt_view, readWord_view, view_ite, foldl_view, ite_self, Nat.reduceOr, kept_ite, keeps_ite, kept_next, keeps_ok, keeps_err, keeps_failed, keeps_later]

end Sys2Proof.Machine
end

