-- ==== Sys2Proof/Laws/KeepBerths.lean ====
section
/-! SUPPORT. What the operations of Machine/Berths.lean may change: one lemma for each. -/

namespace Sys2Proof.Machine

/-- onGlb may change: glb. -/
theorem onGlb_view {M : Nat} (hM : 1 ||| M = M) (g : Glb → Glb) (s : State) :
    (onGlb g s).view M = s.view M := by
  refine view_le hM ?_
  simp only [onGlb, view_glb, view_ite, foldl_view, ite_self, Nat.reduceOr]

/-- onBerth may change: glb. -/
theorem onBerth_view {M : Nat} (hM : 1 ||| M = M) (b : Nat) (g : Berth → Berth) (s : State) :
    (onBerth b g s).view M = s.view M := by
  refine view_le hM ?_
  simp only [onBerth, State.setBerth_view, view_ite, foldl_view, ite_self, Nat.reduceOr]

/-- genRecords may change: ledg, cist, pmon, out. -/
theorem genRecords_view {M : Nat} (hM : 17247174656 ||| M = M) (b : Nat) (s : State) :
    (genRecords b s).view M = s.view M := by
  refine view_le hM ?_
  unfold genRecords
  repeat' (first | with_reducible rfl | simp only [append_view, view_ite, foldl_view, ite_self, Nat.reduceOr] | split | refine (foldl_view (fun s a => ?_) _ _).trans ?_ | (rename_i e; rw [fst_view e]) | (rename_i e _; rw [fst_view e]) | (rename_i e _ _; rw [fst_view e]))

/-- freshSettings may change: weir, host. -/
theorem freshSettings_view {M : Nat} (hM : 8390656 ||| M = M) (b posBase : Nat) (s : State) :
    (freshSettings b posBase s).view M = s.view M := by
  refine view_le hM ?_
  simp only [freshSettings, onWeirB_view, view_host, view_ite, foldl_view, ite_self, Nat.reduceOr]

/-- makeBerth may change: glb, weir, rdma, ledg, cist, host, pmon, out, free. -/
theorem makeBerth_view {M : Nat} (hM : 51615336449 ||| M = M) (b : Nat) (rq : Req) (place : Nat × Nat × Nat) (s : State) :
    (makeBerth b rq place s).view M = s.view M := by
  refine view_le hM ?_
  simp only [makeBerth, State.setBerth_view, drawn_view, freshSettings_view, genRecords_view, onRdmaB_view, openChain_view, view_ite, foldl_view, ite_self, Nat.reduceOr]

/-- execBerthCreate may change: glb, weir, rdma, ledg, cist, ph, mbx, msix, host, pmon, out, free. -/
theorem execBerthCreate_kept {M : Nat} (hM : 51619006465 ||| M = M) (rq : Req) (keyOk : Bool) (s : State) :
    Kept M s (execBerthCreate rq keyOk s) := by
  refine Kept.le hM ?_
  unfold execBerthCreate
  refine serve_kept rfl _ _ (fun s => ?_) s
  (try simp only [makeBerth_view, view_ite, foldl_view, ite_self, Nat.reduceOr, kept_ite, keeps_ite, kept_next, keeps_ok, keeps_err, keeps_failed, keeps_later]) <;> (repeat' split) <;> (try simp only [makeBerth_view, view_ite, foldl_view, ite_self, Nat.reduceOr, kept_ite, keeps_ite, kept_next, keeps_ok, keeps_err, keeps_failed, keeps_later]) <;> (repeat' split) <;> (try simp only [makeBerth_view, view_ite, foldl_view, ite_self, Nat.reduceOr, kept_ite, keeps_ite, kept_next, keeps_ok, keeps_err, keeps_failed, keeps_later])

/-- addShare may change: glb. -/
theorem addShare_keeps {M : Nat} (hM : 1 ||| M = M) (rq : Req) (o : Owner) (s : State) :
    Reply.Keeps M s (addShare rq o s) := by
  refine Reply.Keeps.le hM ?_
  simp only [addShare, onGlb_view, view_ite, foldl_view, ite_self, Nat.reduceOr, kept_ite, keeps_ite, kept_next, keeps_ok, keeps_err, keeps_failed, keeps_later]

/-- execBerthAssignPort may change: glb, ph, mbx, msix, pmon, out. -/
theorem execBerthAssignPort_kept {M : Nat} (hM : 17250648065 ||| M = M) (rq : Req) (s : State) :
    Kept M s (execBerthAssignPort rq s) := by
  refine Kept.le hM ?_
  unfold execBerthAssignPort
  refine serve_kept rfl _ _ (fun s => ?_) s
  (try simp only [onGlb_view, view_ite, foldl_view, ite_self, Nat.reduceOr, kept_ite, keeps_ite, kept_next, keeps_ok, keeps_err, keeps_failed, keeps_later]) <;> (repeat' split) <;> (try simp only [onGlb_view, view_ite, foldl_view, ite_self, Nat.reduceOr, kept_ite, keeps_ite, kept_next, keeps_ok, keeps_err, keeps_failed, keeps_later]) <;> (repeat' split) <;> (try simp only [onGlb_view, view_ite, foldl_view, ite_self, Nat.reduceOr, kept_ite, keeps_ite, kept_next, keeps_ok, keeps_err, keeps_failed, keeps_later])
  all_goals (first | exact addShare_keeps rfl .. | skip)

/-- dropGangway may change: glb. -/
theorem dropGangway_view {M : Nat} (hM : 1 ||| M = M) (i : Nat) (s : State) {t : State}
    (h : dropGangway i s = some t) : t.view M = s.view M := by
  refine view_le hM ?_
  simp only [dropGangway] at h
  (repeat' split at h) <;> (first | contradiction | (cases h; repeat' (first | with_reducible rfl | simp only [onGlb_view, view_ite, foldl_view, ite_self, Nat.reduceOr] | split | refine (foldl_view (fun s a => ?_) _ _).trans ?_ | (rename_i e; rw [fst_view e]) | (rename_i e _; rw [fst_view e]) | (rename_i e _ _; rw [fst_view e]))))

/-- execBerthGangway may change: glb, ph, mbx, msix, pmon, out. -/
theorem execBerthGangway_kept {M : Nat} (hM : 17250648065 ||| M = M) (rq : Req) (s : State) :
    Kept M s (execBerthGangway rq s) := by
  refine Kept.le hM ?_
  unfold execBerthGangway
  refine serve_kept rfl _ _ (fun s => ?_) s
  have h : ∀ i t, dropGangway i s = some t → t.view 17250648065 = s.view 17250648065 := fun i t e => dropGangway_view rfl i s e
  dsimp only
  repeat' split
  all_goals first
    | trivial
    | (rename_i e; exact h _ _ e)
    | (rename_i e; exact (onGlb_view rfl _ _).trans (h _ _ e))

/-- execBerthGetKey may change: ph, mbx, msix, pmon, out. -/
theorem execBerthGetKey_kept {M : Nat} (hM : 17250648064 ||| M = M) (rq : Req) (s : State) :
    Kept M s (execBerthGetKey rq s) := by
  refine Kept.le hM ?_
  unfold execBerthGetKey
  refine serve_kept rfl _ _ (fun s => ?_) s
  simp only [view_ite, foldl_view, ite_self, Nat.reduceOr, kept_ite, keeps_ite, kept_next, keeps_ok, keeps_err, keeps_failed, keeps_later]

/-- execBerthStatus may change: ph, mbx, msix, pmon, out. -/
theorem execBerthStatus_kept {M : Nat} (hM : 17250648064 ||| M = M) (rq : Req) (s : State) :
    Kept M s (execBerthStatus rq s) := by
  refine Kept.le hM ?_
  unfold execBerthStatus
  refine serve_kept rfl _ _ (fun s => ?_) s
  simp only [view_ite, foldl_view, ite_self, Nat.reduceOr, kept_ite, keeps_ite, kept_next, keeps_ok, keeps_err, keeps_failed, keeps_later]

/-- execBerthSetAuditor may change: glb, ph, mbx, msix, pmon, out. -/
theorem execBerthSetAuditor_kept {M : Nat} (hM : 17250648065 ||| M = M) (rq : Req) (s : State) :
    Kept M s (execBerthSetAuditor rq s) := by
  refine Kept.le hM ?_
  unfold execBerthSetAuditor
  refine serve_kept rfl _ _ (fun s => ?_) s
  simp only [onGlb_view, view_ite, foldl_view, ite_self, Nat.reduceOr, kept_ite, keeps_ite, kept_next, keeps_ok, keeps_err, keeps_failed, keeps_later]

/-- resetBerth may change: port, frames, nextFrame, strn, rsv, xl, fab, rdma, ledg, cist, mbx, msix, host, sump, pmon, trace, out. -/
theorem resetBerth_view {M : Nat} (hM : 17409750376 ||| M = M) (b info : Nat) (s : State) :
    (resetBerth b info s).view M = s.view M := by
  refine view_le hM ?_
  unfold resetBerth
  repeat' (first | with_reducible rfl | simp only [append_view, qpError_view, rdmaSettle_view, resetRings_view, view_ite, foldl_view, ite_self, Nat.reduceOr] | split | refine (foldl_view (fun s a => ?_) _ _).trans ?_ | (rename_i e; rw [fst_view e]) | (rename_i e _; rw [fst_view e]) | (rename_i e _ _; rw [fst_view e]))

/-- resetMbx may change: mbx. -/
theorem resetMbx_view {M : Nat} (hM : 1048576 ||| M = M) (fn : Nat) (keep : Bool) (s : State) :
    (resetMbx fn keep s).view M = s.view M := by
  refine view_le hM ?_
  simp only [resetMbx, State.setMbx_view, view_ite, foldl_view, ite_self, Nat.reduceOr]

/-- execBerthReset may change: port, frames, nextFrame, strn, rsv, xl, fab, rdma, ledg, cist, ph, mbx, msix, host, sump, pmon, trace, out. -/
theorem execBerthReset_kept {M : Nat} (hM : 17410274664 ||| M = M) (rq : Req) (s : State) :
    Kept M s (execBerthReset rq s) := by
  refine Kept.le hM ?_
  unfold execBerthReset
  refine serve_kept rfl _ _ (fun s => ?_) s
  simp only [resetBerth_view, resetMbx_view, view_ite, foldl_view, ite_self, Nat.reduceOr, kept_ite, keeps_ite, kept_next, keeps_ok, keeps_err, keeps_failed, keeps_later]

/-- execFunctionLevelReset may change: port, frames, nextFrame, strn, rsv, xl, fab, rdma, ledg, cist, mbx, msix, host, sump, pmon, trace, out. -/
theorem execFunctionLevelReset_kept {M : Nat} (hM : 17409750376 ||| M = M) (b : Fin 16) (s : State) :
    Kept M s (execFunctionLevelReset b s) := by
  refine Kept.le hM ?_
  unfold execFunctionLevelReset
  simp only [resetBerth_view, resetMbx_view, view_msix, view_ite, foldl_view, ite_self, Nat.reduceOr, kept_ite, keeps_ite, kept_next, keeps_ok, keeps_err, keeps_failed, keeps_later]

/-- finishMove may change: strn, mbx, msix, pmon, out. -/
theorem finishMove_view {M : Nat} (hM : 17250124032 ||| M = M) (b : Nat) (x0 : Nat) (s : State) :
    (finishMove b x0 s).view M = s.view M := by
  refine view_le hM ?_
  induction x0 generalizing s with
  | zero => rfl
  | succ n ih =>
    simp only [finishMove]
    repeat' (first | with_reducible rfl | simp only [deleteStep_view, insertStep_view, view_ite, foldl_view, ite_self, Nat.reduceOr, ih] | split | refine (foldl_view (fun s a => ?_) _ _).trans ?_ | (rename_i e; rw [fst_view e]) | (rename_i e _; rw [fst_view e]) | (rename_i e _ _; rw [fst_view e]))

/-- dropQueued may change: port, frames, strn, rsv, msix, host, pmon, trace, out. -/
theorem dropQueued_view {M : Nat} (hM : 17391682856 ||| M = M) (b : Nat) (s : State) :
    (dropQueued b s).view M = s.view M := by
  refine view_le hM ?_
  unfold dropQueued
  repeat' (first | with_reducible rfl | simp only [dropCopy_view, dropFerry_view, view_ite, foldl_view, ite_self, Nat.reduceOr] | split | refine (foldl_view (fun s a => ?_) _ _).trans ?_ | (rename_i e; rw [fst_view e]) | (rename_i e _; rw [fst_view e]) | (rename_i e _ _; rw [fst_view e]))

/-- writeRecords may change: frames, ledg, cist, pmon, out. -/
theorem writeRecords_view {M : Nat} (hM : 17247174688 ||| M = M) (b : Nat) (s : State) :
    (writeRecords b s).view M = s.view M := by
  refine view_le hM ?_
  unfold writeRecords
  repeat' (first | with_reducible rfl | simp only [appendOrder_view, dropFrame_view, view_ite, foldl_view, ite_self, Nat.reduceOr] | split | refine (foldl_view (fun s a => ?_) _ _).trans ?_ | (rename_i e; rw [fst_view e]) | (rename_i e _; rw [fst_view e]) | (rename_i e _ _; rw [fst_view e]))

/-- releaseAll may change: glb, pump, strn, fwd, rsv, weir, rdma, mbx, msix, host, pmon, out. -/
theorem releaseAll_view {M : Nat} (hM : 17258549121 ||| M = M) (b : Nat) (s : State) :
    (releaseAll b s).view M = s.view M := by
  refine view_le hM ?_
  simp only [releaseAll, dropDue_view, freshSettings_view, onFwd_view, onGlb_view, onPump_view, onRdma_view, onRsv_view, onStrn_view, onWeir_view, view_host, view_ite, foldl_view, ite_self, Nat.reduceOr]

/-- endDestroy may change: glb, pump, strn, fwd, rsv, weir, xl, fab, shtl, rdma, ledg, mbx, msix, host, pmon, out. -/
theorem endDestroy_view {M : Nat} (hM : 17258643329 ||| M = M) (b : Nat) (s : State) :
    (endDestroy b s).view M = s.view M := by
  refine view_le hM ?_
  simp only [endDestroy, State.setBerth_view, State.setChain_view, finishOpt_view, releaseAll_view, releaseGroups_view, resetMbx_view, shtlGo_view, startDue_view, view_ite, foldl_view, ite_self, Nat.reduceOr]

/-- finalSeal may change: glb, ledg, cist, pmon, out. -/
theorem finalSeal_view {M : Nat} (hM : 17247174657 ||| M = M) (b : Nat) (s : State) :
    (finalSeal b s).view M = s.view M := by
  refine view_le hM ?_
  simp only [finalSeal, onBerth_view, writeSeal_view, view_ite, foldl_view, ite_self, Nat.reduceOr]

/-- afterDrain may change: glb, port, frames, nextFrame, strn, rsv, weir, xl, fab, rdma, ledg, cist, mbx, msix, host, sump, pmon, trace, out. -/
theorem afterDrain_view {M : Nat} (hM : 17409752425 ||| M = M) (b : Nat) (s : State) :
    (afterDrain b s).view M = s.view M := by
  refine view_le hM ?_
  unfold afterDrain
  repeat' (first | with_reducible rfl | simp only [dropQueued_view, finalSeal_view, qpError_view, rdmaSettle_view, rejectHeld_view, writeRecords_view, view_ite, foldl_view, ite_self, Nat.reduceOr] | split | refine (foldl_view (fun s a => ?_) _ _).trans ?_ | (rename_i e; rw [fst_view e]) | (rename_i e _; rw [fst_view e]) | (rename_i e _ _; rw [fst_view e]))

/-- resumeDestroy may change: glb, pump, strn, fwd, rsv, weir, xl, fab, shtl, rdma, ledg, cist, mbx, msix, host, pmon, out. -/
theorem resumeDestroy_view {M : Nat} (hM : 17258774401 ||| M = M) (b : Nat) (s : State) :
    (resumeDestroy b s).view M = s.view M := by
  refine view_le hM ?_
  simp only [resumeDestroy, endDestroy_view, finalSeal_view, onBerth_view, view_ite, foldl_view, ite_self, Nat.reduceOr]

/-- execBerthDestroy may change: glb, port, frames, nextFrame, pump, strn, fwd, rsv, weir, xl, fab, shtl, rdma, ledg, cist, ph, mbx, msix, host, sump, pmon, trace, out. -/
theorem execBerthDestroy_kept {M : Nat} (hM : 17410293737 ||| M = M) (rq : Req) (s : State) :
    Kept M s (execBerthDestroy rq s) := by
  refine Kept.le hM ?_
  unfold execBerthDestroy
  refine serve_kept rfl _ _ (fun s => ?_) s
  simp only [afterDrain_view, endDestroy_view, finishMove_view, onBerth_view, resumeDestroy_view, view_ite, foldl_view, ite_self, Nat.reduceOr, kept_ite, keeps_ite, kept_next, keeps_ok, keeps_err, keeps_failed, keeps_later]

/-- execDestroyDrainTimeout may change: glb, port, frames, nextFrame, strn, rsv, weir, xl, fab, rdma, ledg, cist, mbx, msix, host, sump, pmon, trace, out. -/
theorem execDestroyDrainTimeout_kept {M : Nat} (hM : 17409752425 ||| M = M) (b : Fin 16) (s : State) :
    Kept M s (execDestroyDrainTimeout b s) := by
  refine Kept.le hM ?_
  unfold execDestroyDrainTimeout
  simp only [afterDrain_view, view_ite, foldl_view, ite_self, Nat.reduceOr, kept_ite, keeps_ite, kept_next, keeps_ok, keeps_err, keeps_failed, keeps_later]

/-- execDestroySealTimeout may change: glb, port, frames, nextFrame, strn, rsv, weir, xl, fab, rdma, ledg, cist, mbx, msix, host, sump, pmon, trace, out. -/
theorem execDestroySealTimeout_kept {M : Nat} (hM : 17409752425 ||| M = M) (b : Fin 16) (s : State) :
    Kept M s (execDestroySealTimeout b s) := by
  refine Kept.le hM ?_
  unfold execDestroySealTimeout
  simp only [afterDrain_view, finishOpt_view, onBerth_view, view_ite, foldl_view, ite_self, Nat.reduceOr, kept_ite, keeps_ite, kept_next, keeps_ok, keeps_err, keeps_failed, keeps_later]

end Sys2Proof.Machine
end

