-- ==== Sys2Proof/Laws/KeepBayOps.lean ====
section
/-! SUPPORT. What the operations of Machine/BayOps.lean may change: one lemma for each. -/

namespace Sys2Proof.Machine

/-- onCist may change: cist. -/
theorem onCist_view {M : Nat} (hM : 131072 ||| M = M) (g : Cist → Cist) (s : State) :
    (onCist g s).view M = s.view M := by
  refine view_le hM ?_
  simp only [onCist, view_cist, view_ite, foldl_view, ite_self, Nat.reduceOr]

/-- onLedg may change: ledg. -/
theorem onLedg_view {M : Nat} (hM : 65536 ||| M = M) (g : Ledg → Ledg) (s : State) :
    (onLedg g s).view M = s.view M := by
  refine view_le hM ?_
  simp only [onLedg, view_ledg, view_ite, foldl_view, ite_self, Nat.reduceOr]

/-- onChain may change: ledg. -/
theorem onChain_view {M : Nat} (hM : 65536 ||| M = M) (b : Nat) (g : Chain → Chain) (s : State) :
    (onChain b g s).view M = s.view M := by
  refine view_le hM ?_
  simp only [onChain, State.setChain_view, view_ite, foldl_view, ite_self, Nat.reduceOr]

/-- onCart may change: cist. -/
theorem onCart_view {M : Nat} (hM : 131072 ||| M = M) (n : Nat) (g : Cart → Cart) (s : State) :
    (onCart n g s).view M = s.view M := by
  refine view_le hM ?_
  simp only [onCart, onBay_view, view_ite, foldl_view, ite_self, Nat.reduceOr]

/-- cistEvent may change: sump. -/
theorem cistEvent_view {M : Nat} (hM : 16777216 ||| M = M) (ev n cause : Nat) (s : State) :
    (cistEvent ev n cause s).view M = s.view M := by
  refine view_le hM ?_
  simp only [cistEvent, raise_view, view_ite, foldl_view, ite_self, Nat.reduceOr]

/-- markPage may change: ledg. -/
theorem markPage_view {M : Nat} (hM : 65536 ||| M = M) (b no : Nat) (place : Nat) (s : State) :
    (markPage b no place s).view M = s.view M := by
  refine view_le hM ?_
  simp only [markPage, onChain_view, onLedg_view, view_ite, foldl_view, ite_self, Nat.reduceOr]

/-- unissue may change: ledg. -/
theorem unissue_view {M : Nat} (hM : 65536 ||| M = M) (a : Append) (s : State) :
    (unissue a s).view M = s.view M := by
  refine view_le hM ?_
  simp only [unissue, markPage_view, view_ite, foldl_view, ite_self, Nat.reduceOr]

/-- checkCap may change: cist, sump. -/
theorem checkCap_view {M : Nat} (hM : 16908288 ||| M = M) (n : Nat) (s : State) :
    (checkCap n s).view M = s.view M := by
  refine view_le hM ?_
  simp only [checkCap, cistEvent_view, onBay_view, view_ite, foldl_view, ite_self, Nat.reduceOr]

/-- openZone may change: cist, sump, out. -/
theorem openZone_view {M : Nat} (hM : 17196777472 ||| M = M) (n : Nat) (s : State) :
    (openZone n s).view M = s.view M := by
  refine view_le hM ?_
  unfold openZone
  exact (checkCap_view rfl n _).trans ((emit_view rfl _ _).trans (onCart_view rfl n _ s))

/-- flushBay may change: cist, out. -/
theorem flushBay_view {M : Nat} (hM : 17180000256 ||| M = M) (n : Nat) (s : State) :
    (flushBay n s).view M = s.view M := by
  refine view_le hM ?_
  unfold flushBay
  (try simp only [emit_view, onCart_view, openZone_view, view_ite, foldl_view, ite_self, Nat.reduceOr]) <;> (repeat' split) <;> (try simp only [emit_view, onCart_view, openZone_view, view_ite, foldl_view, ite_self, Nat.reduceOr]) <;> (repeat' split) <;> (try simp only [emit_view, onCart_view, openZone_view, view_ite, foldl_view, ite_self, Nat.reduceOr])

/-- endRelease may change: cist, mbx, msix, pmon, out. -/
theorem endRelease_view {M : Nat} (hM : 17250254848 ||| M = M) (n : Nat) (st : Status) (s : State) :
    (endRelease n st s).view M = s.view M := by
  refine view_le hM ?_
  simp only [endRelease, finishOpt_view, onBay_view, view_ite, foldl_view, ite_self, Nat.reduceOr]

/-- endSwap may change: cist, mbx, msix, pmon, out. -/
theorem endSwap_view {M : Nat} (hM : 17250254848 ||| M = M) (st : Status) (s : State) :
    (endSwap st s).view M = s.view M := by
  refine view_le hM ?_
  simp only [endSwap, finishOpt_view, onCist_view, view_ite, foldl_view, ite_self, Nat.reduceOr]

/-- completeSwitch may change: ledg, cist, mbx, msix, sump, pmon, out. -/
theorem completeSwitch_view {M : Nat} (hM : 17267097600 ||| M = M) (n : Nat) (s : State) :
    (completeSwitch n s).view M = s.view M := by
  refine view_le hM ?_
  unfold completeSwitch
  repeat' (first | with_reducible rfl | simp only [cistEvent_view, endRelease_view, endSwap_view, flushBay_view, onBay_view, onCist_view, unissue_view, view_out, view_ite, foldl_view, ite_self, Nat.reduceOr] | split | refine (foldl_view (fun s a => ?_) _ _).trans ?_ | (rename_i e; rw [fst_view e]) | (rename_i e _; rw [fst_view e]) | (rename_i e _ _; rw [fst_view e]))

/-- handOverBay may change: ledg, cist, mbx, msix, sump, pmon, out. -/
theorem handOverBay_view {M : Nat} (hM : 17267097600 ||| M = M) (n dest : Nat) (s : State) :
    (handOverBay n dest s).view M = s.view M := by
  refine view_le hM ?_
  simp only [handOverBay, completeSwitch_view, onBay_view, view_ite, foldl_view, ite_self, Nat.reduceOr]

/-- retireBay may change: ledg, cist, mbx, msix, sump, pmon, out. -/
theorem retireBay_view {M : Nat} (hM : 17267097600 ||| M = M) (n dest : Nat) (s : State) :
    (retireBay n dest s).view M = s.view M := by
  refine view_le hM ?_
  simp only [retireBay, handOverBay_view, onBay_view, view_ite, foldl_view, ite_self, Nat.reduceOr]

/-- faultBay may change: ledg, cist, mbx, msix, sump, pmon, out. -/
theorem faultBay_view {M : Nat} (hM : 17267097600 ||| M = M) (n : Nat) (s : State) :
    (faultBay n s).view M = s.view M := by
  refine view_le hM ?_
  simp only [faultBay, cistEvent_view, retireBay_view, view_ite, foldl_view, ite_self, Nat.reduceOr]

/-- issuePage may change: ledg, cist, sump, out. -/
theorem issuePage_view {M : Nat} (hM : 17196843008 ||| M = M) (n : Nat) (p : Page) (staged : Bool) (s : State) :
    (issuePage n p staged s).view M = s.view M := by
  refine view_le hM ?_
  simp only [issuePage, emit_view, markPage_view, onBay_view, openZone_view, view_out, view_ite, foldl_view, ite_self, Nat.reduceOr]

/-- zoneFull may change: ledg, cist, mbx, msix, sump, pmon, out. -/
theorem zoneFull_view {M : Nat} (hM : 17267097600 ||| M = M) (n : Nat) (s : State) :
    (zoneFull n s).view M = s.view M := by
  refine view_le hM ?_
  simp only [zoneFull, cistEvent_view, onCart_view, openZone_view, retireBay_view, view_ite, foldl_view, ite_self, Nat.reduceOr]

/-- freePage may change: glb, pump, strn, fwd, rsv, weir, xl, fab, shtl, rdma, ledg, cist, mbx, msix, host, pmon, out. -/
theorem freePage_view {M : Nat} (hM : 17258774401 ||| M = M) (b no : Nat) (s : State) :
    (freePage b no s).view M = s.view M := by
  refine view_le hM ?_
  simp only [freePage, onChain_view, onLedg_view, resumeDestroy_view, spaceFreed_view, view_ite, foldl_view, ite_self, Nat.reduceOr]

/-- pageWritten may change: glb, pump, strn, fwd, rsv, weir, xl, fab, shtl, rdma, ledg, cist, mbx, msix, host, sump, pmon, out. -/
theorem pageWritten_view {M : Nat} (hM : 17275551617 ||| M = M) (n : Nat) (a : Append) (s : State) :
    (pageWritten n a s).view M = s.view M := by
  refine view_le hM ?_
  simp only [pageWritten, freePage_view, onCart_view, onCist_view, onLedg_view, zoneFull_view, view_ite, foldl_view, ite_self, Nat.reduceOr]

/-- appendFails may change: ledg, cist, mbx, msix, sump, pmon, out. -/
theorem appendFails_view {M : Nat} (hM : 17267097600 ||| M = M) (n i : Nat) (a : Append) (s : State) :
    (appendFails n i a s).view M = s.view M := by
  refine view_le hM ?_
  simp only [appendFails, emit_view, faultBay_view, onBay_view, onCist_view, openZone_view, unissue_view, view_out, view_ite, foldl_view, ite_self, Nat.reduceOr]

end Sys2Proof.Machine
end

