-- ==== Sys2Proof/Laws/KeepLedger.lean ====
section
/-! SUPPORT. What the operations of Machine/Ledger.lean may change: one lemma for each. -/

namespace Sys2Proof.Machine

/-- execLedgerConfig may change: ledg, cist, ph, mbx, msix, pmon, out. -/
theorem execLedgerConfig_kept {M : Nat} (hM : 17250844672 ||| M = M) (rq : Req) (s : State) :
    Kept M s (execLedgerConfig rq s) := by
  refine Kept.le hM ?_
  unfold execLedgerConfig
  refine serve_kept rfl _ _ (fun s => ?_) s
  simp only [closeSpan_view, onChain_view, view_ite, foldl_view, ite_self, Nat.reduceOr, kept_ite, keeps_ite, kept_next, keeps_ok, keeps_err, keeps_failed, keeps_later]

/-- execLedgerStaging may change: ledg, ph, mbx, msix, pmon, out. -/
theorem execLedgerStaging_kept {M : Nat} (hM : 17250713600 ||| M = M) (rq : Req) (s : State) :
    Kept M s (execLedgerStaging rq s) := by
  refine Kept.le hM ?_
  unfold execLedgerStaging
  refine serve_kept rfl _ _ (fun s => ?_) s
  simp only [onLedg_view, view_ite, foldl_view, ite_self, Nat.reduceOr, kept_ite, keeps_ite, kept_next, keeps_ok, keeps_err, keeps_failed, keeps_later]

/-- execLedgerSealNow may change: ledg, cist, ph, mbx, msix, pmon, out. -/
theorem execLedgerSealNow_kept {M : Nat} (hM : 17250844672 ||| M = M) (rq : Req) (s : State) :
    Kept M s (execLedgerSealNow rq s) := by
  refine Kept.le hM ?_
  unfold execLedgerSealNow
  refine serve_kept rfl _ _ (fun s => ?_) s
  simp only [dueSeal_view, onChain_view, view_ite, foldl_view, ite_self, Nat.reduceOr, kept_ite, keeps_ite, kept_next, keeps_ok, keeps_err, keeps_failed, keeps_later]

/-- execLedgerStatus may change: ph, mbx, msix, pmon, out. -/
theorem execLedgerStatus_kept {M : Nat} (hM : 17250648064 ||| M = M) (rq : Req) (s : State) :
    Kept M s (execLedgerStatus rq s) := by
  refine Kept.le hM ?_
  unfold execLedgerStatus
  refine serve_kept rfl _ _ (fun s => ?_) s
  simp only [view_ite, foldl_view, ite_self, Nat.reduceOr, kept_ite, keeps_ite, kept_next, keeps_ok, keeps_err, keeps_failed, keeps_later]

/-- execLedgerDeviceCert may change: ph, mbx, msix, pmon, out. -/
theorem execLedgerDeviceCert_kept {M : Nat} (hM : 17250648064 ||| M = M) (rq : Req) (s : State) :
    Kept M s (execLedgerDeviceCert rq s) := by
  refine Kept.le hM ?_
  unfold execLedgerDeviceCert
  refine serve_kept rfl _ _ (fun s => ?_) s
  simp only [view_ite, foldl_view, ite_self, Nat.reduceOr, kept_ite, keeps_ite, kept_next, keeps_ok, keeps_err, keeps_failed, keeps_later]

/-- execSealDue may change: ledg, cist, pmon, out. -/
theorem execSealDue_kept {M : Nat} (hM : 17247174656 ||| M = M) (b : Fin 16) (s : State) :
    Kept M s (execSealDue b s) := by
  refine Kept.le hM ?_
  unfold execSealDue
  simp only [dueSeal_view, onChain_view, view_ite, foldl_view, ite_self, Nat.reduceOr, kept_ite, keeps_ite, kept_next, keeps_ok, keeps_err, keeps_failed, keeps_later]

/-- execPageHashDone may change: ledg. -/
theorem execPageHashDone_kept {M : Nat} (hM : 65536 ||| M = M) (b : Fin 16) (s : State) :
    Kept M s (execPageHashDone b s) := by
  refine Kept.le hM ?_
  unfold execPageHashDone
  (try simp only [onChain_view, view_ite, foldl_view, ite_self, Nat.reduceOr, kept_ite, keeps_ite, kept_next, keeps_ok, keeps_err, keeps_failed, keeps_later]) <;> (repeat' split) <;> (try simp only [onChain_view, view_ite, foldl_view, ite_self, Nat.reduceOr, kept_ite, keeps_ite, kept_next, keeps_ok, keeps_err, keeps_failed, keeps_later]) <;> (repeat' split) <;> (try simp only [onChain_view, view_ite, foldl_view, ite_self, Nat.reduceOr, kept_ite, keeps_ite, kept_next, keeps_ok, keeps_err, keeps_failed, keeps_later])

/-- answerSeals may change: ledg, mbx, msix, pmon, out. -/
theorem answerSeals_view {M : Nat} (hM : 17250189312 ||| M = M) (b : Nat) (s : State) :
    (answerSeals b s).view M = s.view M := by
  refine view_le hM ?_
  unfold answerSeals
  repeat' (first | with_reducible rfl | simp only [finish_view, onChain_view, view_ite, foldl_view, ite_self, Nat.reduceOr] | split | refine (foldl_view (fun s a => ?_) _ _).trans ?_ | (rename_i e; rw [fst_view e]) | (rename_i e _; rw [fst_view e]) | (rename_i e _ _; rw [fst_view e]))

/-- sealDone may change: glb, pump, strn, fwd, rsv, weir, xl, fab, shtl, rdma, ledg, cist, mbx, msix, host, pmon, out. -/
theorem sealDone_view {M : Nat} (hM : 17258774401 ||| M = M) (b : Nat) (p : Page) (s : State) :
    (sealDone b p s).view M = s.view M := by
  refine view_le hM ?_
  simp only [sealDone, answerSeals_view, onChain_view, onLedg_view, resumeDestroy_view, sealNext_view, view_ite, foldl_view, ite_self, Nat.reduceOr]

/-- execSealSigned may change: glb, pump, strn, fwd, rsv, weir, xl, fab, shtl, rdma, ledg, cist, mbx, msix, host, sump, pmon, out. -/
theorem execSealSigned_kept {M : Nat} (hM : 17275551617 ||| M = M) (b : Fin 16) (selfOk : Bool) (s : State) :
    Kept M s (execSealSigned b selfOk s) := by
  refine Kept.le hM ?_
  unfold execSealSigned
  (try simp only [onChain_view, raise_view, sealDone_view, view_ite, foldl_view, ite_self, Nat.reduceOr, kept_ite, keeps_ite, kept_next, keeps_ok, keeps_err, keeps_failed, keeps_later]) <;> (repeat' split) <;> (try simp only [onChain_view, raise_view, sealDone_view, view_ite, foldl_view, ite_self, Nat.reduceOr, kept_ite, keeps_ite, kept_next, keeps_ok, keeps_err, keeps_failed, keeps_later]) <;> (repeat' split) <;> (try simp only [onChain_view, raise_view, sealDone_view, view_ite, foldl_view, ite_self, Nat.reduceOr, kept_ite, keeps_ite, kept_next, keeps_ok, keeps_err, keeps_failed, keeps_later])

/-- execLedgEngineFail may change: ledg, sump. -/
theorem execLedgEngineFail_kept {M : Nat} (hM : 16842752 ||| M = M) (e : Fin 2) (s : State) :
    Kept M s (execLedgEngineFail e s) := by
  refine Kept.le hM ?_
  unfold execLedgEngineFail
  simp only [onLedg_view, raise_view, view_ite, foldl_view, ite_self, Nat.reduceOr, kept_ite, keeps_ite, kept_next, keeps_ok, keeps_err, keeps_failed, keeps_later]

/-- stagePage may change: glb, pump, strn, fwd, rsv, weir, xl, fab, shtl, rdma, ledg, cist, mbx, msix, host, pmon, out. -/
theorem stagePage_view {M : Nat} (hM : 17258774401 ||| M = M) (p : Page) (s : State) :
    (stagePage p s).view M = s.view M := by
  refine view_le hM ?_
  simp only [stagePage, onChain_view, onLedg_view, resumeDestroy_view, spaceFreed_view, view_ite, foldl_view, ite_self, Nat.reduceOr]

/-- execPageWrite may change: glb, pump, strn, fwd, rsv, weir, xl, fab, shtl, rdma, ledg, cist, mbx, msix, host, sump, pmon, out. -/
theorem execPageWrite_kept {M : Nat} (hM : 17275551617 ||| M = M) (s : State) :
    Kept M s (execPageWrite s) := by
  refine Kept.le hM ?_
  unfold execPageWrite
  (try simp only [issuePage_view, stagePage_view, view_ite, foldl_view, ite_self, Nat.reduceOr, kept_ite, keeps_ite, kept_next, keeps_ok, keeps_err, keeps_failed, keeps_later]) <;> (repeat' split) <;> (try simp only [issuePage_view, stagePage_view, view_ite, foldl_view, ite_self, Nat.reduceOr, kept_ite, keeps_ite, kept_next, keeps_ok, keeps_err, keeps_failed, keeps_later]) <;> (repeat' split) <;> (try simp only [issuePage_view, stagePage_view, view_ite, foldl_view, ite_self, Nat.reduceOr, kept_ite, keeps_ite, kept_next, keeps_ok, keeps_err, keeps_failed, keeps_later])

/-- losePage may change: glb, pump, strn, fwd, rsv, weir, xl, fab, shtl, rdma, ledg, cist, mbx, msix, host, sump, pmon, out. -/
theorem losePage_view {M : Nat} (hM : 17275551617 ||| M = M) (p : Page) (s : State) :
    (losePage p s).view M = s.view M := by
  refine view_le hM ?_
  simp only [losePage, append_view, freePage_view, onLedg_view, raise_view, view_ite, foldl_view, ite_self, Nat.reduceOr]

/-- loseStaged may change: glb, pump, strn, fwd, rsv, weir, xl, fab, shtl, rdma, ledg, cist, mbx, msix, host, sump, pmon, out. -/
theorem loseStaged_view {M : Nat} (hM : 17275551617 ||| M = M) (s : State) :
    (loseStaged s).view M = s.view M := by
  refine view_le hM ?_
  unfold loseStaged
  repeat' (first | with_reducible rfl | simp only [losePage_view, view_ite, foldl_view, ite_self, Nat.reduceOr] | split | refine (foldl_view (fun s a => ?_) _ _).trans ?_ | (rename_i e; rw [fst_view e]) | (rename_i e _; rw [fst_view e]) | (rename_i e _ _; rw [fst_view e]))

/-- execStagingReadback may change: glb, pump, strn, fwd, rsv, weir, xl, fab, shtl, rdma, ledg, cist, mbx, msix, host, sump, pmon, out. -/
theorem execStagingReadback_kept {M : Nat} (hM : 17275551617 ||| M = M) (err : EccErr) (s : State) :
    Kept M s (execStagingReadback err s) := by
  refine Kept.le hM ?_
  unfold execStagingReadback
  (try simp only [issuePage_view, losePage_view, view_ite, foldl_view, ite_self, Nat.reduceOr, kept_ite, keeps_ite, kept_next, keeps_ok, keeps_err, keeps_failed, keeps_later]) <;> (repeat' split) <;> (try simp only [issuePage_view, losePage_view, view_ite, foldl_view, ite_self, Nat.reduceOr, kept_ite, keeps_ite, kept_next, keeps_ok, keeps_err, keeps_failed, keeps_later]) <;> (repeat' split) <;> (try simp only [issuePage_view, losePage_view, view_ite, foldl_view, ite_self, Nat.reduceOr, kept_ite, keeps_ite, kept_next, keeps_ok, keeps_err, keeps_failed, keeps_later])

end Sys2Proof.Machine
end

