-- ==== Sys2Proof/Laws/KeepCistern.lean ====
section
/-! SUPPORT. What the operations of Machine/Cistern.lean may change: one lemma for each. -/

namespace Sys2Proof.Machine

/-- execCisternStatus may change: ph, mbx, msix, pmon, out. -/
theorem execCisternStatus_kept {M : Nat} (hM : 17250648064 ||| M = M) (rq : Req) (s : State) :
    Kept M s (execCisternStatus rq s) := by
  refine Kept.le hM ?_
  unfold execCisternStatus
  refine serve_kept rfl _ _ (fun s => ?_) s
  simp only [view_ite, foldl_view, ite_self, Nat.reduceOr, kept_ite, keeps_ite, kept_next, keeps_ok, keeps_err, keeps_failed, keeps_later]

/-- execCisternConfig may change: cist, ph, mbx, msix, pmon, out. -/
theorem execCisternConfig_kept {M : Nat} (hM : 17250779136 ||| M = M) (rq : Req) (s : State) :
    Kept M s (execCisternConfig rq s) := by
  refine Kept.le hM ?_
  unfold execCisternConfig
  refine serve_kept rfl _ _ (fun s => ?_) s
  simp only [onCist_view, view_ite, foldl_view, ite_self, Nat.reduceOr, kept_ite, keeps_ite, kept_next, keeps_ok, keeps_err, keeps_failed, keeps_later]

/-- execCisternSwap may change: ledg, cist, ph, mbx, msix, sump, pmon, out. -/
theorem execCisternSwap_kept {M : Nat} (hM : 17267621888 ||| M = M) (rq : Req) (s : State) :
    Kept M s (execCisternSwap rq s) := by
  refine Kept.le hM ?_
  unfold execCisternSwap
  refine serve_kept rfl _ _ (fun s => ?_) s
  (try simp only [handOverBay_view, onCist_view, view_ite, foldl_view, ite_self, Nat.reduceOr, kept_ite, keeps_ite, kept_next, keeps_ok, keeps_err, keeps_failed, keeps_later]) <;> (repeat' split) <;> (try simp only [handOverBay_view, onCist_view, view_ite, foldl_view, ite_self, Nat.reduceOr, kept_ite, keeps_ite, kept_next, keeps_ok, keeps_err, keeps_failed, keeps_later]) <;> (repeat' split) <;> (try simp only [handOverBay_view, onCist_view, view_ite, foldl_view, ite_self, Nat.reduceOr, kept_ite, keeps_ite, kept_next, keeps_ok, keeps_err, keeps_failed, keeps_later])

/-- execCisternRelease may change: ledg, cist, ph, mbx, msix, sump, pmon, out. -/
theorem execCisternRelease_kept {M : Nat} (hM : 17267621888 ||| M = M) (rq : Req) (s : State) :
    Kept M s (execCisternRelease rq s) := by
  refine Kept.le hM ?_
  unfold execCisternRelease
  refine serve_kept rfl _ _ (fun s => ?_) s
  simp only [flushBay_view, onBay_view, retireBay_view, revokeWindow_view, view_ite, foldl_view, ite_self, Nat.reduceOr, kept_ite, keeps_ite, kept_next, keeps_ok, keeps_err, keeps_failed, keeps_later]

/-- execCisternIdentity may change: ph, mbx, msix, pmon, out. -/
theorem execCisternIdentity_kept {M : Nat} (hM : 17250648064 ||| M = M) (rq : Req) (s : State) :
    Kept M s (execCisternIdentity rq s) := by
  refine Kept.le hM ?_
  unfold execCisternIdentity
  refine serve_kept rfl _ _ (fun s => ?_) s
  simp only [view_ite, foldl_view, ite_self, Nat.reduceOr, kept_ite, keeps_ite, kept_next, keeps_ok, keeps_err, keeps_failed, keeps_later]

/-- execCisternRetireChallenge may change: cist, ph, mbx, msix, pmon, out, free. -/
theorem execCisternRetireChallenge_kept {M : Nat} (hM : 51610517504 ||| M = M) (rq : Req) (hwFault : Bool) (s : State) :
    Kept M s (execCisternRetireChallenge rq hwFault s) := by
  refine Kept.le hM ?_
  unfold execCisternRetireChallenge
  refine serve_kept rfl _ _ (fun s => ?_) s
  simp only [drawn_view, emit_view, onBay_view, view_ite, foldl_view, ite_self, Nat.reduceOr, kept_ite, keeps_ite, kept_next, keeps_ok, keeps_err, keeps_failed, keeps_later]

/-- startProbe may change: cist. -/
theorem startProbe_view {M : Nat} (hM : 131072 ||| M = M) (n : Nat) (s : State) :
    (startProbe n s).view M = s.view M := by
  refine view_le hM ?_
  simp only [startProbe, onBay_view, view_ite, foldl_view, ite_self, Nat.reduceOr]

/-- execCisternRetire may change: cist, ph, mbx, msix, pmon, out. -/
theorem execCisternRetire_kept {M : Nat} (hM : 17250779136 ||| M = M) (rq : Req) (hwFault : Bool) (s : State) :
    Kept M s (execCisternRetire rq hwFault s) := by
  refine Kept.le hM ?_
  unfold execCisternRetire
  refine serve_kept rfl _ _ (fun s => ?_) s
  simp only [emit_view, onBay_view, onCart_view, revokeWindow_view, startProbe_view, view_ite, foldl_view, ite_self, Nat.reduceOr, kept_ite, keeps_ite, kept_next, keeps_ok, keeps_err, keeps_failed, keeps_later]

/-- execCisternRead may change: ph, mbx, msix, pmon, out, free. -/
theorem execCisternRead_kept {M : Nat} (hM : 51610386432 ||| M = M) (rq : Req) (hwFault : Bool) (s : State) :
    Kept M s (execCisternRead rq hwFault s) := by
  refine Kept.le hM ?_
  unfold execCisternRead
  refine serve_kept rfl _ _ (fun s => ?_) s
  simp only [drawn_view, emit_view, view_ite, foldl_view, ite_self, Nat.reduceOr, kept_ite, keeps_ite, kept_next, keeps_ok, keeps_err, keeps_failed, keeps_later]

/-- drainCheck may change: ledg, cist, mbx, msix, sump, pmon, out. -/
theorem drainCheck_view {M : Nat} (hM : 17267097600 ||| M = M) (n : Nat) (s : State) :
    (drainCheck n s).view M = s.view M := by
  refine view_le hM ?_
  simp only [drainCheck, completeSwitch_view, view_ite, foldl_view, ite_self, Nat.reduceOr]

/-- execZoneAppendComplete may change: glb, pump, strn, fwd, rsv, weir, xl, fab, shtl, rdma, ledg, cist, mbx, msix, host, sump, pmon, out. -/
theorem execZoneAppendComplete_kept {M : Nat} (hM : 17275551617 ||| M = M) (n : Fin 2) (i : Nat) (ok : Bool) (s : State) :
    Kept M s (execZoneAppendComplete n i ok s) := by
  refine Kept.le hM ?_
  unfold execZoneAppendComplete
  (try simp only [appendFails_view, drainCheck_view, onBay_view, pageWritten_view, view_out, view_ite, foldl_view, ite_self, Nat.reduceOr, kept_ite, keeps_ite, kept_next, keeps_ok, keeps_err, keeps_failed, keeps_later]) <;> (repeat' split) <;> (try simp only [appendFails_view, drainCheck_view, onBay_view, pageWritten_view, view_out, view_ite, foldl_view, ite_self, Nat.reduceOr, kept_ite, keeps_ite, kept_next, keeps_ok, keeps_err, keeps_failed, keeps_later]) <;> (repeat' split) <;> (try simp only [appendFails_view, drainCheck_view, onBay_view, pageWritten_view, view_out, view_ite, foldl_view, ite_self, Nat.reduceOr, kept_ite, keeps_ite, kept_next, keeps_ok, keeps_err, keeps_failed, keeps_later])

/-- execSwitchReissue may change: ledg, cist, mbx, msix, sump, pmon, out. -/
theorem execSwitchReissue_kept {M : Nat} (hM : 17267097600 ||| M = M) (n : Fin 2) (s : State) :
    Kept M s (execSwitchReissue n s) := by
  refine Kept.le hM ?_
  unfold execSwitchReissue
  simp only [completeSwitch_view, view_ite, foldl_view, ite_self, Nat.reduceOr, kept_ite, keeps_ite, kept_next, keeps_ok, keeps_err, keeps_failed, keeps_later]

/-- execAppendStall may change: ledg, cist, mbx, msix, sump, pmon, out. -/
theorem execAppendStall_kept {M : Nat} (hM : 17267097600 ||| M = M) (n : Fin 2) (s : State) :
    Kept M s (execAppendStall n s) := by
  refine Kept.le hM ?_
  unfold execAppendStall
  simp only [cistEvent_view, handOverBay_view, onBay_view, onCist_view, view_ite, foldl_view, ite_self, Nat.reduceOr, kept_ite, keeps_ite, kept_next, keeps_ok, keeps_err, keeps_failed, keeps_later]

/-- execAdminTimeout may change: ledg, cist, mbx, msix, sump, pmon, out. -/
theorem execAdminTimeout_kept {M : Nat} (hM : 17267097600 ||| M = M) (n : Fin 2) (s : State) :
    Kept M s (execAdminTimeout n s) := by
  refine Kept.le hM ?_
  unfold execAdminTimeout
  simp only [faultBay_view, view_ite, foldl_view, ite_self, Nat.reduceOr, kept_ite, keeps_ite, kept_next, keeps_ok, keeps_err, keeps_failed, keeps_later]

/-- lifeWarnings may change: cist, sump. -/
theorem lifeWarnings_view {M : Nat} (hM : 16908288 ||| M = M) (n life : Nat) (s : State) :
    (lifeWarnings n life s).view M = s.view M := by
  refine view_le hM ?_
  simp only [lifeWarnings, cistEvent_view, onBay_view, view_ite, foldl_view, ite_self, Nat.reduceOr]

/-- readLife may change: ledg, cist, mbx, msix, sump, pmon, out. -/
theorem readLife_view {M : Nat} (hM : 17267097600 ||| M = M) (n : Nat) (ident : List Byte) (s : State) :
    (readLife n ident s).view M = s.view M := by
  refine view_le hM ?_
  simp only [readLife, lifeWarnings_view, onCart_view, retireBay_view, view_ite, foldl_view, ite_self, Nat.reduceOr]

/-- execLifeRead may change: ledg, cist, mbx, msix, sump, pmon, out. -/
theorem execLifeRead_kept {M : Nat} (hM : 17267097600 ||| M = M) (n : Fin 2) (ident : List Byte) (s : State) :
    Kept M s (execLifeRead n ident s) := by
  refine Kept.le hM ?_
  unfold execLifeRead
  simp only [readLife_view, view_ite, foldl_view, ite_self, Nat.reduceOr, kept_ite, keeps_ite, kept_next, keeps_ok, keeps_err, keeps_failed, keeps_later]

/-- execAsyncEvent may change: ledg, cist, mbx, msix, sump, pmon, out. -/
theorem execAsyncEvent_kept {M : Nat} (hM : 17267097600 ||| M = M) (n : Fin 2) (mediaError : Bool) (ident : List Byte) (s : State) :
    Kept M s (execAsyncEvent n mediaError ident s) := by
  refine Kept.le hM ?_
  unfold execAsyncEvent
  simp only [faultBay_view, readLife_view, view_ite, foldl_view, ite_self, Nat.reduceOr, kept_ite, keeps_ite, kept_next, keeps_ok, keeps_err, keeps_failed, keeps_later]

/-- grantWindow may change: cist, out. -/
theorem grantWindow_view {M : Nat} (hM : 17180000256 ||| M = M) (us n : Nat) (s : State) :
    (grantWindow us n s).view M = s.view M := by
  refine view_le hM ?_
  simp only [grantWindow, emit_view, onBay_view, view_ite, foldl_view, ite_self, Nat.reduceOr]

/-- execHkPeriod may change: cist, out. -/
theorem execHkPeriod_kept {M : Nat} (hM : 17180000256 ||| M = M) (s : State) :
    Kept M s (execHkPeriod s) := by
  refine Kept.le hM ?_
  unfold execHkPeriod
  repeat' (first | with_reducible rfl | simp only [grantWindow_view, onCist_view, revokeWindow_view, view_ite, foldl_view, ite_self, Nat.reduceOr, kept_ite, kept_next] | split | refine (foldl_view (fun s a => ?_) _ _).trans ?_ | (rename_i e; rw [fst_view e]) | (rename_i e _; rw [fst_view e]) | (rename_i e _ _; rw [fst_view e]))

/-- execRetireNonceExpiry may change: cist. -/
theorem execRetireNonceExpiry_kept {M : Nat} (hM : 131072 ||| M = M) (n : Fin 2) (s : State) :
    Kept M s (execRetireNonceExpiry n s) := by
  refine Kept.le hM ?_
  unfold execRetireNonceExpiry
  simp only [onBay_view, view_ite, foldl_view, ite_self, Nat.reduceOr, kept_ite, keeps_ite, kept_next, keeps_ok, keeps_err, keeps_failed, keeps_later]

/-- execBayInsert may change: cist. -/
theorem execBayInsert_kept {M : Nat} (hM : 131072 ||| M = M) (n : Fin 2) (s : State) :
    Kept M s (execBayInsert n s) := by
  refine Kept.le hM ?_
  unfold execBayInsert
  simp only [onBay_view, startProbe_view, view_ite, foldl_view, ite_self, Nat.reduceOr, kept_ite, keeps_ite, kept_next, keeps_ok, keeps_err, keeps_failed, keeps_later]

/-- refuseCart may change: cist, sump. -/
theorem refuseCart_view {M : Nat} (hM : 16908288 ||| M = M) (n step : Nat) (s : State) :
    (refuseCart n step s).view M = s.view M := by
  refine view_le hM ?_
  simp only [refuseCart, cistEvent_view, onBay_view, onCist_view, view_ite, foldl_view, ite_self, Nat.reduceOr]

/-- mount may change: cist, sump. -/
theorem mount_view {M : Nat} (hM : 16908288 ||| M = M) (n : Nat) (res : ProbeRes) (s : State) :
    (mount n res s).view M = s.view M := by
  refine view_le hM ?_
  simp only [mount, checkCap_view, cistEvent_view, lifeWarnings_view, onBay_view, onCart_view, openZone_view, view_ite, foldl_view, ite_self, Nat.reduceOr]

/-- execProbeComplete may change: cist, sump, out, free. -/
theorem execProbeComplete_kept {M : Nat} (hM : 51556515840 ||| M = M) (n : Fin 2) (res : ProbeRes) (s : State) :
    Kept M s (execProbeComplete n res s) := by
  refine Kept.le hM ?_
  unfold execProbeComplete
  (try simp only [drawn_view, emit_view, mount_view, onBay_view, onCart_view, refuseCart_view, view_ite, foldl_view, ite_self, Nat.reduceOr, kept_ite, keeps_ite, kept_next, keeps_ok, keeps_err, keeps_failed, keeps_later]) <;> (repeat' split) <;> (try simp only [drawn_view, emit_view, mount_view, onBay_view, onCart_view, refuseCart_view, view_ite, foldl_view, ite_self, Nat.reduceOr, kept_ite, keeps_ite, kept_next, keeps_ok, keeps_err, keeps_failed, keeps_later]) <;> (repeat' split) <;> (try simp only [drawn_view, emit_view, mount_view, onBay_view, onCart_view, refuseCart_view, view_ite, foldl_view, ite_self, Nat.reduceOr, kept_ite, keeps_ite, kept_next, keeps_ok, keeps_err, keeps_failed, keeps_later])

/-- execProbeLinkTimeout may change: cist, sump. -/
theorem execProbeLinkTimeout_kept {M : Nat} (hM : 16908288 ||| M = M) (n : Fin 2) (s : State) :
    Kept M s (execProbeLinkTimeout n s) := by
  refine Kept.le hM ?_
  unfold execProbeLinkTimeout
  simp only [refuseCart_view, view_ite, foldl_view, ite_self, Nat.reduceOr, kept_ite, keeps_ite, kept_next, keeps_ok, keeps_err, keeps_failed, keeps_later]

/-- vacate may change: ledg, cist, mbx, msix, sump, pmon, out. -/
theorem vacate_view {M : Nat} (hM : 17267097600 ||| M = M) (n : Nat) (s : State) :
    (vacate n s).view M = s.view M := by
  refine view_le hM ?_
  simp only [vacate, completeSwitch_view, onBay_view, revokeWindow_view, view_ite, foldl_view, ite_self, Nat.reduceOr]

/-- execBayRemove may change: ledg, cist, mbx, msix, sump, pmon, out. -/
theorem execBayRemove_kept {M : Nat} (hM : 17267097600 ||| M = M) (n : Fin 2) (s : State) :
    Kept M s (execBayRemove n s) := by
  refine Kept.le hM ?_
  unfold execBayRemove
  simp only [onBay_view, vacate_view, view_ite, foldl_view, ite_self, Nat.reduceOr, kept_ite, keeps_ite, kept_next, keeps_ok, keeps_err, keeps_failed, keeps_later]

/-- relinkBay may change: ledg, cist, mbx, msix, sump, pmon, out. -/
theorem relinkBay_view {M : Nat} (hM : 17267097600 ||| M = M) (n : Nat) (s : State) :
    (relinkBay n s).view M = s.view M := by
  refine view_le hM ?_
  simp only [relinkBay, onBay_view, startProbe_view, vacate_view, view_ite, foldl_view, ite_self, Nat.reduceOr]

/-- execBayLinkLoss may change: ledg, cist, mbx, msix, sump, pmon, out. -/
theorem execBayLinkLoss_kept {M : Nat} (hM : 17267097600 ||| M = M) (n : Fin 2) (s : State) :
    Kept M s (execBayLinkLoss n s) := by
  refine Kept.le hM ?_
  unfold execBayLinkLoss
  simp only [relinkBay_view, view_ite, foldl_view, ite_self, Nat.reduceOr, kept_ite, keeps_ite, kept_next, keeps_ok, keeps_err, keeps_failed, keeps_later]

/-- execLatchOpen may change: ledg, cist, mbx, msix, sump, pmon, out. -/
theorem execLatchOpen_kept {M : Nat} (hM : 17267097600 ||| M = M) (n : Fin 2) (s : State) :
    Kept M s (execLatchOpen n s) := by
  refine Kept.le hM ?_
  unfold execLatchOpen
  simp only [flushBay_view, onBay_view, retireBay_view, revokeWindow_view, view_ite, foldl_view, ite_self, Nat.reduceOr, kept_ite, keeps_ite, kept_next, keeps_ok, keeps_err, keeps_failed, keeps_later]

/-- execLatchClose may change: cist. -/
theorem execLatchClose_kept {M : Nat} (hM : 131072 ||| M = M) (n : Fin 2) (s : State) :
    Kept M s (execLatchClose n s) := by
  refine Kept.le hM ?_
  unfold execLatchClose
  simp only [onBay_view, startProbe_view, view_ite, foldl_view, ite_self, Nat.reduceOr, kept_ite, keeps_ite, kept_next, keeps_ok, keeps_err, keeps_failed, keeps_later]

end Sys2Proof.Machine
end

