-- ==== Sys2Proof/Laws/KeepCollectives.lean ====
section
/-! SUPPORT. What the operations of Machine/Collectives.lean may change: one lemma for each. -/

namespace Sys2Proof.Machine

/-- execCollectiveGroupCreate may change: shtl, ph, mbx, msix, pmon, out. -/
theorem execCollectiveGroupCreate_kept {M : Nat} (hM : 17250664448 ||| M = M) (rq : Req) (s : State) :
    Kept M s (execCollectiveGroupCreate rq s) := by
  refine Kept.le hM ?_
  unfold execCollectiveGroupCreate
  refine serve_kept rfl _ _ (fun s => ?_) s
  (try simp only [onShtl_view, view_ite, foldl_view, ite_self, Nat.reduceOr, kept_ite, keeps_ite, kept_next, keeps_ok, keeps_err, keeps_failed, keeps_later]) <;> (repeat' split) <;> (try simp only [onShtl_view, view_ite, foldl_view, ite_self, Nat.reduceOr, kept_ite, keeps_ite, kept_next, keeps_ok, keeps_err, keeps_failed, keeps_later]) <;> (repeat' split) <;> (try simp only [onShtl_view, view_ite, foldl_view, ite_self, Nat.reduceOr, kept_ite, keeps_ite, kept_next, keeps_ok, keeps_err, keeps_failed, keeps_later])

/-- execCollectiveGroupDestroy may change: shtl, ph, mbx, msix, pmon, out. -/
theorem execCollectiveGroupDestroy_kept {M : Nat} (hM : 17250664448 ||| M = M) (rq : Req) (s : State) :
    Kept M s (execCollectiveGroupDestroy rq s) := by
  refine Kept.le hM ?_
  unfold execCollectiveGroupDestroy
  refine serve_kept rfl _ _ (fun s => ?_) s
  (try simp only [onShtl_view, view_ite, foldl_view, ite_self, Nat.reduceOr, kept_ite, keeps_ite, kept_next, keeps_ok, keeps_err, keeps_failed, keeps_later]) <;> (repeat' split) <;> (try simp only [onShtl_view, view_ite, foldl_view, ite_self, Nat.reduceOr, kept_ite, keeps_ite, kept_next, keeps_ok, keeps_err, keeps_failed, keeps_later]) <;> (repeat' split) <;> (try simp only [onShtl_view, view_ite, foldl_view, ite_self, Nat.reduceOr, kept_ite, keeps_ite, kept_next, keeps_ok, keeps_err, keeps_failed, keeps_later])

/-- execCollectiveStart may change: rsv, weir, xl, fab, shtl, ph, mbx, msix, pmon, out. -/
theorem execCollectiveStart_kept {M : Nat} (hM : 17250679808 ||| M = M) (rq : Req) (data : List Byte) (s : State) :
    Kept M s (execCollectiveStart rq data s) := by
  refine Kept.le hM ?_
  unfold execCollectiveStart
  refine serve_kept rfl _ _ (fun s => ?_) s
  (try simp only [count_view, emit_view, endOp_view, postOp_view, shtlGo_view, view_ite, foldl_view, ite_self, Nat.reduceOr, kept_ite, keeps_ite, kept_next, keeps_ok, keeps_err, keeps_failed, keeps_later]) <;> (repeat' split) <;> (try simp only [count_view, emit_view, endOp_view, postOp_view, shtlGo_view, view_ite, foldl_view, ite_self, Nat.reduceOr, kept_ite, keeps_ite, kept_next, keeps_ok, keeps_err, keeps_failed, keeps_later]) <;> (repeat' split) <;> (try simp only [count_view, emit_view, endOp_view, postOp_view, shtlGo_view, view_ite, foldl_view, ite_self, Nat.reduceOr, kept_ite, keeps_ite, kept_next, keeps_ok, keeps_err, keeps_failed, keeps_later])

/-- execCollectiveAbort may change: rsv, weir, xl, fab, shtl, ph, mbx, msix, pmon, out. -/
theorem execCollectiveAbort_kept {M : Nat} (hM : 17250679808 ||| M = M) (rq : Req) (s : State) :
    Kept M s (execCollectiveAbort rq s) := by
  refine Kept.le hM ?_
  unfold execCollectiveAbort
  refine serve_kept rfl _ _ (fun s => ?_) s
  (try simp only [endOp_view, shtlGo_view, view_ite, foldl_view, ite_self, Nat.reduceOr, kept_ite, keeps_ite, kept_next, keeps_ok, keeps_err, keeps_failed, keeps_later]) <;> (repeat' split) <;> (try simp only [endOp_view, shtlGo_view, view_ite, foldl_view, ite_self, Nat.reduceOr, kept_ite, keeps_ite, kept_next, keeps_ok, keeps_err, keeps_failed, keeps_later]) <;> (repeat' split) <;> (try simp only [endOp_view, shtlGo_view, view_ite, foldl_view, ite_self, Nat.reduceOr, kept_ite, keeps_ite, kept_next, keeps_ok, keeps_err, keeps_failed, keeps_later])

/-- execCollectiveStatus may change: ph, mbx, msix, pmon, out. -/
theorem execCollectiveStatus_kept {M : Nat} (hM : 17250648064 ||| M = M) (rq : Req) (s : State) :
    Kept M s (execCollectiveStatus rq s) := by
  refine Kept.le hM ?_
  unfold execCollectiveStatus
  refine serve_kept rfl _ _ (fun s => ?_) s
  (try simp only [view_ite, foldl_view, ite_self, Nat.reduceOr, kept_ite, keeps_ite, kept_next, keeps_ok, keeps_err, keeps_failed, keeps_later]) <;> (repeat' split) <;> (try simp only [view_ite, foldl_view, ite_self, Nat.reduceOr, kept_ite, keeps_ite, kept_next, keeps_ok, keeps_err, keeps_failed, keeps_later]) <;> (repeat' split) <;> (try simp only [view_ite, foldl_view, ite_self, Nat.reduceOr, kept_ite, keeps_ite, kept_next, keeps_ok, keeps_err, keeps_failed, keeps_later])

/-- execColMessage may change: rsv, weir, xl, fab, shtl, mbx, msix, pmon, out. -/
theorem execColMessage_kept {M : Nat} (hM : 17250155520 ||| M = M) (z0 : Fin 8) (bytes : List Byte) (s : State) :
    Kept M s (execColMessage z0 bytes s) := by
  refine Kept.le hM ?_
  unfold execColMessage
  simp only [onShtl_view, shtlGo_view, view_ite, foldl_view, ite_self, Nat.reduceOr, kept_ite, keeps_ite, kept_next, keeps_ok, keeps_err, keeps_failed, keeps_later]

/-- execEarlyArrivalStale may change: shtl. -/
theorem execEarlyArrivalStale_kept {M : Nat} (hM : 16384 ||| M = M) (i : Nat) (s : State) :
    Kept M s (execEarlyArrivalStale i s) := by
  refine Kept.le hM ?_
  unfold execEarlyArrivalStale
  (try simp only [onShtl_view, view_ite, foldl_view, ite_self, Nat.reduceOr, kept_ite, keeps_ite, kept_next, keeps_ok, keeps_err, keeps_failed, keeps_later]) <;> (repeat' split) <;> (try simp only [onShtl_view, view_ite, foldl_view, ite_self, Nat.reduceOr, kept_ite, keeps_ite, kept_next, keeps_ok, keeps_err, keeps_failed, keeps_later]) <;> (repeat' split) <;> (try simp only [onShtl_view, view_ite, foldl_view, ite_self, Nat.reduceOr, kept_ite, keeps_ite, kept_next, keeps_ok, keeps_err, keeps_failed, keeps_later])

/-- execCollectiveTimeout may change: rsv, weir, xl, fab, shtl, mbx, msix, pmon, out. -/
theorem execCollectiveTimeout_kept {M : Nat} (hM : 17250155520 ||| M = M) (slot : Fin 8) (s : State) :
    Kept M s (execCollectiveTimeout slot s) := by
  refine Kept.le hM ?_
  unfold execCollectiveTimeout
  (try simp only [endOp_view, shtlGo_view, view_ite, foldl_view, ite_self, Nat.reduceOr, kept_ite, keeps_ite, kept_next, keeps_ok, keeps_err, keeps_failed, keeps_later]) <;> (repeat' split) <;> (try simp only [endOp_view, shtlGo_view, view_ite, foldl_view, ite_self, Nat.reduceOr, kept_ite, keeps_ite, kept_next, keeps_ok, keeps_err, keeps_failed, keeps_later]) <;> (repeat' split) <;> (try simp only [endOp_view, shtlGo_view, view_ite, foldl_view, ite_self, Nat.reduceOr, kept_ite, keeps_ite, kept_next, keeps_ok, keeps_err, keeps_failed, keeps_later])

end Sys2Proof.Machine
end

