-- ==== Sys2Proof/Laws/KeepCountTrace.lean ====
section
/-! SUPPORT. What the operations of Machine/CountTrace.lean may change: one lemma for each. -/

namespace Sys2Proof.Machine

/-- onPmon may change: pmon. -/
theorem onPmon_view {M : Nat} (hM : 67108864 ||| M = M) (f : Pmon → Pmon) (s : State) :
    (onPmon f s).view M = s.view M := by
  refine view_le hM ?_
  simp only [onPmon, view_pmon, view_ite, foldl_view, ite_self, Nat.reduceOr]

/-- execCountersConfig may change: ph, mbx, msix, pmon, out. -/
theorem execCountersConfig_kept {M : Nat} (hM : 17250648064 ||| M = M) (rq : Req) (s : State) :
    Kept M s (execCountersConfig rq s) := by
  refine Kept.le hM ?_
  unfold execCountersConfig
  refine serve_kept rfl _ _ (fun s => ?_) s
  (try simp only [onPmon_view, view_ite, foldl_view, ite_self, Nat.reduceOr, kept_ite, keeps_ite, kept_next, keeps_ok, keeps_err, keeps_failed, keeps_later]) <;> (repeat' split) <;> (try simp only [onPmon_view, view_ite, foldl_view, ite_self, Nat.reduceOr, kept_ite, keeps_ite, kept_next, keeps_ok, keeps_err, keeps_failed, keeps_later]) <;> (repeat' split) <;> (try simp only [onPmon_view, view_ite, foldl_view, ite_self, Nat.reduceOr, kept_ite, keeps_ite, kept_next, keeps_ok, keeps_err, keeps_failed, keeps_later])

/-- execCountersSnapshot may change: ph, mbx, msix, pmon, out. -/
theorem execCountersSnapshot_kept {M : Nat} (hM : 17250648064 ||| M = M) (rq : Req) (s : State) :
    Kept M s (execCountersSnapshot rq s) := by
  refine Kept.le hM ?_
  unfold execCountersSnapshot
  refine serve_kept rfl _ _ (fun s => ?_) s
  simp only [onPmon_view, view_ite, foldl_view, ite_self, Nat.reduceOr, kept_ite, keeps_ite, kept_next, keeps_ok, keeps_err, keeps_failed, keeps_later]

/-- execCountersTeleConfig may change: ph, mbx, msix, pmon, out. -/
theorem execCountersTeleConfig_kept {M : Nat} (hM : 17250648064 ||| M = M) (rq : Req) (s : State) :
    Kept M s (execCountersTeleConfig rq s) := by
  refine Kept.le hM ?_
  unfold execCountersTeleConfig
  refine serve_kept rfl _ _ (fun s => ?_) s
  simp only [onPmon_view, view_ite, foldl_view, ite_self, Nat.reduceOr, kept_ite, keeps_ite, kept_next, keeps_ok, keeps_err, keeps_failed, keeps_later]

/-- execTelemetryCapture may change: pmon. -/
theorem execTelemetryCapture_kept {M : Nat} (hM : 67108864 ||| M = M) (s : State) :
    Kept M s (execTelemetryCapture s) := by
  refine Kept.le hM ?_
  unfold execTelemetryCapture
  simp only [onPmon_view, view_ite, foldl_view, ite_self, Nat.reduceOr, kept_ite, keeps_ite, kept_next, keeps_ok, keeps_err, keeps_failed, keeps_later]

/-- execCountersTeleRead may change: ph, mbx, msix, pmon, out. -/
theorem execCountersTeleRead_kept {M : Nat} (hM : 17250648064 ||| M = M) (rq : Req) (s : State) :
    Kept M s (execCountersTeleRead rq s) := by
  refine Kept.le hM ?_
  unfold execCountersTeleRead
  refine serve_kept rfl _ _ (fun s => ?_) s
  (try simp only [view_ite, foldl_view, ite_self, Nat.reduceOr, kept_ite, keeps_ite, kept_next, keeps_ok, keeps_err, keeps_failed, keeps_later]) <;> (repeat' split) <;> (try simp only [view_ite, foldl_view, ite_self, Nat.reduceOr, kept_ite, keeps_ite, kept_next, keeps_ok, keeps_err, keeps_failed, keeps_later]) <;> (repeat' split) <;> (try simp only [view_ite, foldl_view, ite_self, Nat.reduceOr, kept_ite, keeps_ite, kept_next, keeps_ok, keeps_err, keeps_failed, keeps_later])

/-- execTraceConfig may change: ph, mbx, msix, pmon, trace, out. -/
theorem execTraceConfig_kept {M : Nat} (hM : 17384865792 ||| M = M) (rq : Req) (s : State) :
    Kept M s (execTraceConfig rq s) := by
  refine Kept.le hM ?_
  unfold execTraceConfig
  refine serve_kept rfl _ _ (fun s => ?_) s
  simp only [onTrace_view, view_ite, foldl_view, ite_self, Nat.reduceOr, kept_ite, keeps_ite, kept_next, keeps_ok, keeps_err, keeps_failed, keeps_later]

/-- execTraceRead may change: ph, mbx, msix, pmon, out. -/
theorem execTraceRead_kept {M : Nat} (hM : 17250648064 ||| M = M) (rq : Req) (s : State) :
    Kept M s (execTraceRead rq s) := by
  refine Kept.le hM ?_
  unfold execTraceRead
  refine serve_kept rfl _ _ (fun s => ?_) s
  simp only [view_ite, foldl_view, ite_self, Nat.reduceOr, kept_ite, keeps_ite, kept_next, keeps_ok, keeps_err, keeps_failed, keeps_later]

/-- execTraceLostPacket may change: trace. -/
theorem execTraceLostPacket_kept {M : Nat} (hM : 134217728 ||| M = M) (s : State) :
    Kept M s (execTraceLostPacket s) := by
  refine Kept.le hM ?_
  unfold execTraceLostPacket
  simp only [onTrace_view, view_ite, foldl_view, ite_self, Nat.reduceOr, kept_ite, keeps_ite, kept_next, keeps_ok, keeps_err, keeps_failed, keeps_later]

/-- execPmonOvfWrite may change: pmon. -/
theorem execPmonOvfWrite_kept {M : Nat} (hM : 67108864 ||| M = M) (w : Fin 4) (mask : BitVec 32) (s : State) :
    Kept M s (execPmonOvfWrite w mask s) := by
  refine Kept.le hM ?_
  unfold execPmonOvfWrite
  simp only [mmio_view, onPmon_view, view_ite, foldl_view, ite_self, Nat.reduceOr, kept_ite, keeps_ite, kept_next, keeps_ok, keeps_err, keeps_failed, keeps_later]

end Sys2Proof.Machine
end

