-- ==== Sys2Proof/Laws/KeepPorts.lean ====
section
/-! SUPPORT. What the operations of Machine/Ports.lean may change: one lemma for each. -/

namespace Sys2Proof.Machine

/-- onQuad may change: quad. -/
theorem onQuad_view {M : Nat} (hM : 16 ||| M = M) (q : Nat) (g : Quad → Quad) (s : State) :
    (onQuad q g s).view M = s.view M := by
  refine view_le hM ?_
  simp only [onQuad, State.setQuad_view, view_ite, foldl_view, ite_self, Nat.reduceOr]

/-- evalLink may change: port, sump. -/
theorem evalLink_view {M : Nat} (hM : 16777224 ||| M = M) (p : Nat) (s : State) :
    (evalLink p s).view M = s.view M := by
  refine view_le hM ?_
  simp only [evalLink, onPort_view, raise_view, view_ite, foldl_view, ite_self, Nat.reduceOr]

/-- pcsReset may change: port, sump. -/
theorem pcsReset_view {M : Nat} (hM : 16777224 ||| M = M) (p : Nat) (s : State) :
    (pcsReset p s).view M = s.view M := by
  refine view_le hM ?_
  simp only [pcsReset, evalLink_view, onPort_view, view_ite, foldl_view, ite_self, Nat.reduceOr]

/-- execRpBlockLock may change: port, sump. -/
theorem execRpBlockLock_kept {M : Nat} (hM : 16777224 ||| M = M) (p : Fin 64) (ev : LockEv) (s : State) :
    Kept M s (execRpBlockLock p ev s) := by
  refine Kept.le hM ?_
  unfold execRpBlockLock
  simp only [evalLink_view, onPort_view, view_ite, foldl_view, ite_self, Nat.reduceOr, kept_ite, keeps_ite, kept_next, keeps_ok, keeps_err, keeps_failed, keeps_later]

/-- execRpLinkDown may change: port, sump. -/
theorem execRpLinkDown_kept {M : Nat} (hM : 16777224 ||| M = M) (p : Fin 64) (cause : LinkLoss) (s : State) :
    Kept M s (execRpLinkDown p cause s) := by
  refine Kept.le hM ?_
  unfold execRpLinkDown
  simp only [evalLink_view, onPort_view, view_ite, foldl_view, ite_self, Nat.reduceOr, kept_ite, keeps_ite, kept_next, keeps_ok, keeps_err, keeps_failed, keeps_later]

/-- execLinkUpDebounce may change: port. -/
theorem execLinkUpDebounce_kept {M : Nat} (hM : 8 ||| M = M) (p : Fin 64) (s : State) :
    Kept M s (execLinkUpDebounce p s) := by
  refine Kept.le hM ?_
  unfold execLinkUpDebounce
  simp only [onPort_view, view_ite, foldl_view, ite_self, Nat.reduceOr, kept_ite, keeps_ite, kept_next, keeps_ok, keeps_err, keeps_failed, keeps_later]

/-- execAnRestart may change: port. -/
theorem execAnRestart_kept {M : Nat} (hM : 8 ||| M = M) (p : Fin 64) (s : State) :
    Kept M s (execAnRestart p s) := by
  refine Kept.le hM ?_
  unfold execAnRestart
  simp only [onPort_view, view_ite, foldl_view, ite_self, Nat.reduceOr, kept_ite, keeps_ite, kept_next, keeps_ok, keeps_err, keeps_failed, keeps_later]

/-- execAnComplete may change: port, sump. -/
theorem execAnComplete_kept {M : Nat} (hM : 16777224 ||| M = M) (p : Fin 64) (fec : Fin 4) (s : State) :
    Kept M s (execAnComplete p fec s) := by
  refine Kept.le hM ?_
  unfold execAnComplete
  simp only [evalLink_view, onPort_view, view_ite, foldl_view, ite_self, Nat.reduceOr, kept_ite, keeps_ite, kept_next, keeps_ok, keeps_err, keeps_failed, keeps_later]

/-- dropAllQueued may change: port, frames, strn, rsv, msix, host, pmon, trace, out. -/
theorem dropAllQueued_view {M : Nat} (hM : 17391682856 ||| M = M) (q : Nat) (s : State) :
    (dropAllQueued q s).view M = s.view M := by
  refine view_le hM ?_
  unfold dropAllQueued
  repeat' (first | with_reducible rfl | simp only [dropCopy_view, onPort_view, view_ite, foldl_view, ite_self, Nat.reduceOr] | split | refine (foldl_view (fun s a => ?_) _ _).trans ?_ | (rename_i e; rw [fst_view e]) | (rename_i e _; rw [fst_view e]) | (rename_i e _ _; rw [fst_view e]))

/-- startDrain may change: port, quad, frames, strn, rsv, msix, host, pmon, trace, out. -/
theorem startDrain_view {M : Nat} (hM : 17391682872 ||| M = M) (q : Nat) (s : State) :
    (startDrain q s).view M = s.view M := by
  refine view_le hM ?_
  unfold startDrain
  repeat' (first | with_reducible rfl | simp only [dropAllQueued_view, onPort_view, onQuad_view, view_ite, foldl_view, ite_self, Nat.reduceOr] | split | refine (foldl_view (fun s a => ?_) _ _).trans ?_ | (rename_i e; rw [fst_view e]) | (rename_i e _; rw [fst_view e]) | (rename_i e _ _; rw [fst_view e]))

/-- applyRate may change: port, quad, sump. -/
theorem applyRate_view {M : Nat} (hM : 16777240 ||| M = M) (q rate : Nat) (fecs : List Nat) (s : State) :
    (applyRate q rate fecs s).view M = s.view M := by
  refine view_le hM ?_
  unfold applyRate
  repeat' (first | with_reducible rfl | simp only [evalLink_view, onPort_view, onQuad_view, view_ite, foldl_view, ite_self, Nat.reduceOr] | split | refine (foldl_view (fun s a => ?_) _ _).trans ?_ | (rename_i e; rw [fst_view e]) | (rename_i e _; rw [fst_view e]) | (rename_i e _ _; rw [fst_view e]))

/-- execSynthDrainDone may change: port, quad, sump. -/
theorem execSynthDrainDone_kept {M : Nat} (hM : 16777240 ||| M = M) (q : Fin 16) (s : State) :
    Kept M s (execSynthDrainDone q s) := by
  refine Kept.le hM ?_
  unfold execSynthDrainDone
  (try simp only [applyRate_view, onQuad_view, view_ite, foldl_view, ite_self, Nat.reduceOr, kept_ite, keeps_ite, kept_next, keeps_ok, keeps_err, keeps_failed, keeps_later]) <;> (repeat' split) <;> (try simp only [applyRate_view, onQuad_view, view_ite, foldl_view, ite_self, Nat.reduceOr, kept_ite, keeps_ite, kept_next, keeps_ok, keeps_err, keeps_failed, keeps_later]) <;> (repeat' split) <;> (try simp only [applyRate_view, onQuad_view, view_ite, foldl_view, ite_self, Nat.reduceOr, kept_ite, keeps_ite, kept_next, keeps_ok, keeps_err, keeps_failed, keeps_later])

/-- execSynthLock may change: port, quad, frames, strn, rsv, msix, host, sump, pmon, trace, out. -/
theorem execSynthLock_kept {M : Nat} (hM : 17408460088 ||| M = M) (q : Fin 16) (s : State) :
    Kept M s (execSynthLock q s) := by
  refine Kept.le hM ?_
  simp only [execSynthLock, kept_ite, kept_next]
  repeat' (first | with_reducible rfl | simp only [evalLink_view, onQuad_view, startDrain_view, view_ite, foldl_view, ite_self, Nat.reduceOr, kept_ite, kept_next] | split | refine (foldl_view (fun s a => ?_) _ _).trans ?_ | (rename_i e; rw [fst_view e]) | (rename_i e _; rw [fst_view e]) | (rename_i e _ _; rw [fst_view e]))

/-- sendDue may change: port, out. -/
theorem sendDue_view {M : Nat} (hM : 17179869192 ||| M = M) (p : Nat) (s : State) :
    (sendDue p s).view M = s.view M := by
  refine view_le hM ?_
  unfold sendDue
  repeat' (first | with_reducible rfl | simp only [onPort_view, sendPause_view, view_ite, foldl_view, ite_self, Nat.reduceOr] | split | refine (foldl_view (fun s a => ?_) _ _).trans ?_ | (rename_i e; rw [fst_view e]) | (rename_i e _; rw [fst_view e]) | (rename_i e _ _; rw [fst_view e]))

/-- execSettleResume may change: port, out. -/
theorem execSettleResume_kept {M : Nat} (hM : 17179869192 ||| M = M) (p : Fin 64) (s : State) :
    Kept M s (execSettleResume p s) := by
  refine Kept.le hM ?_
  unfold execSettleResume
  simp only [onPort_view, sendDue_view, view_ite, foldl_view, ite_self, Nat.reduceOr, kept_ite, keeps_ite, kept_next, keeps_ok, keeps_err, keeps_failed, keeps_later]

/-- execSynthLockTimeout may change: port, quad, sump. -/
theorem execSynthLockTimeout_kept {M : Nat} (hM : 16777240 ||| M = M) (q : Fin 16) (s : State) :
    Kept M s (execSynthLockTimeout q s) := by
  refine Kept.le hM ?_
  unfold execSynthLockTimeout
  repeat' (first | with_reducible rfl | simp only [evalLink_view, onQuad_view, raise_view, view_ite, foldl_view, ite_self, Nat.reduceOr, kept_ite, kept_next] | split | refine (foldl_view (fun s a => ?_) _ _).trans ?_ | (rename_i e; rw [fst_view e]) | (rename_i e _; rw [fst_view e]) | (rename_i e _ _; rw [fst_view e]))

/-- execRpRecalDue may change: port, quad, frames, strn, rsv, msix, host, sump, pmon, trace, out. -/
theorem execRpRecalDue_kept {M : Nat} (hM : 17408460088 ||| M = M) (q : Fin 16) (s : State) :
    Kept M s (execRpRecalDue q s) := by
  refine Kept.le hM ?_
  unfold execRpRecalDue
  (try simp only [onQuad_view, raise_view, startDrain_view, view_ite, foldl_view, ite_self, Nat.reduceOr, kept_ite, keeps_ite, kept_next, keeps_ok, keeps_err, keeps_failed, keeps_later]) <;> (repeat' split) <;> (try simp only [onQuad_view, raise_view, startDrain_view, view_ite, foldl_view, ite_self, Nat.reduceOr, kept_ite, keeps_ite, kept_next, keeps_ok, keeps_err, keeps_failed, keeps_later]) <;> (repeat' split) <;> (try simp only [onQuad_view, raise_view, startDrain_view, view_ite, foldl_view, ite_self, Nat.reduceOr, kept_ite, keeps_ite, kept_next, keeps_ok, keeps_err, keeps_failed, keeps_later])

/-- execPauseReceive may change: port. -/
theorem execPauseReceive_kept {M : Nat} (hM : 8 ||| M = M) (p : Fin 64) (bytes : List Byte) (s : State) :
    Kept M s (execPauseReceive p bytes s) := by
  refine Kept.le hM ?_
  unfold execPauseReceive
  simp only [countRx_view, onPort_view, view_ite, foldl_view, ite_self, Nat.reduceOr, kept_ite, keeps_ite, kept_next, keeps_ok, keeps_err, keeps_failed, keeps_later]

/-- execPauseExpire may change: port. -/
theorem execPauseExpire_kept {M : Nat} (hM : 8 ||| M = M) (p : Fin 64) (cls : Option (Fin 8)) (s : State) :
    Kept M s (execPauseExpire p cls s) := by
  refine Kept.le hM ?_
  unfold execPauseExpire
  (try simp only [onPort_view, view_ite, foldl_view, ite_self, Nat.reduceOr, kept_ite, keeps_ite, kept_next, keeps_ok, keeps_err, keeps_failed, keeps_later]) <;> (repeat' split) <;> (try simp only [onPort_view, view_ite, foldl_view, ite_self, Nat.reduceOr, kept_ite, keeps_ite, kept_next, keeps_ok, keeps_err, keeps_failed, keeps_later]) <;> (repeat' split) <;> (try simp only [onPort_view, view_ite, foldl_view, ite_self, Nat.reduceOr, kept_ite, keeps_ite, kept_next, keeps_ok, keeps_err, keeps_failed, keeps_later])

/-- execPauseRefresh may change: port, out. -/
theorem execPauseRefresh_kept {M : Nat} (hM : 17179869192 ||| M = M) (p : Fin 64) (s : State) :
    Kept M s (execPauseRefresh p s) := by
  refine Kept.le hM ?_
  unfold execPauseRefresh
  repeat' (first | with_reducible rfl | simp only [flowSignal_view, view_ite, foldl_view, ite_self, Nat.reduceOr, kept_ite, kept_next] | split | refine (foldl_view (fun s a => ?_) _ _).trans ?_ | (rename_i e; rw [fst_view e]) | (rename_i e _; rw [fst_view e]) | (rename_i e _ _; rw [fst_view e]))

/-- execLpiReceive may change: port. -/
theorem execLpiReceive_kept {M : Nat} (hM : 8 ||| M = M) (p : Fin 64) (s : State) :
    Kept M s (execLpiReceive p s) := by
  refine Kept.le hM ?_
  unfold execLpiReceive
  simp only [onPort_view, view_ite, foldl_view, ite_self, Nat.reduceOr, kept_ite, keeps_ite, kept_next, keeps_ok, keeps_err, keeps_failed, keeps_later]

/-- setFecs may change: port, sump. -/
theorem setFecs_view {M : Nat} (hM : 16777224 ||| M = M) (q : Nat) (fecs : List Nat) (s : State) :
    (setFecs q fecs s).view M = s.view M := by
  refine view_le hM ?_
  unfold setFecs
  repeat' (first | with_reducible rfl | simp only [onPort_view, pcsReset_view, view_ite, foldl_view, ite_self, Nat.reduceOr] | split | refine (foldl_view (fun s a => ?_) _ _).trans ?_ | (rename_i e; rw [fst_view e]) | (rename_i e _; rw [fst_view e]) | (rename_i e _ _; rw [fst_view e]))

/-- execPortQuadConfig may change: port, quad, frames, strn, rsv, ph, mbx, msix, host, sump, pmon, trace, out. -/
theorem execPortQuadConfig_kept {M : Nat} (hM : 17410032952 ||| M = M) (rq : Req) (s : State) :
    Kept M s (execPortQuadConfig rq s) := by
  refine Kept.le hM ?_
  unfold execPortQuadConfig
  refine serve_kept rfl _ _ (fun s => ?_) s
  (try simp only [onQuad_view, setFecs_view, startDrain_view, view_ite, foldl_view, ite_self, Nat.reduceOr, kept_ite, keeps_ite, kept_next, keeps_ok, keeps_err, keeps_failed, keeps_later]) <;> (repeat' split) <;> (try simp only [onQuad_view, setFecs_view, startDrain_view, view_ite, foldl_view, ite_self, Nat.reduceOr, kept_ite, keeps_ite, kept_next, keeps_ok, keeps_err, keeps_failed, keeps_later]) <;> (repeat' split) <;> (try simp only [onQuad_view, setFecs_view, startDrain_view, view_ite, foldl_view, ite_self, Nat.reduceOr, kept_ite, keeps_ite, kept_next, keeps_ok, keeps_err, keeps_failed, keeps_later])

/-- execPortEnable may change: port, ph, mbx, msix, sump, pmon, out. -/
theorem execPortEnable_kept {M : Nat} (hM : 17267425288 ||| M = M) (rq : Req) (s : State) :
    Kept M s (execPortEnable rq s) := by
  refine Kept.le hM ?_
  unfold execPortEnable
  refine serve_kept rfl _ _ (fun s => ?_) s
  simp only [evalLink_view, onPort_view, view_ite, foldl_view, ite_self, Nat.reduceOr, kept_ite, keeps_ite, kept_next, keeps_ok, keeps_err, keeps_failed, keeps_later]

/-- execPortSetFlow may change: port, ph, mbx, msix, pmon, out. -/
theorem execPortSetFlow_kept {M : Nat} (hM : 17250648072 ||| M = M) (rq : Req) (s : State) :
    Kept M s (execPortSetFlow rq s) := by
  refine Kept.le hM ?_
  unfold execPortSetFlow
  refine serve_kept rfl _ _ (fun s => ?_) s
  simp only [onPort_view, view_ite, foldl_view, ite_self, Nat.reduceOr, kept_ite, keeps_ite, kept_next, keeps_ok, keeps_err, keeps_failed, keeps_later]

/-- execPortRecal may change: port, quad, frames, strn, rsv, ph, mbx, msix, host, pmon, trace, out. -/
theorem execPortRecal_kept {M : Nat} (hM : 17393255736 ||| M = M) (rq : Req) (s : State) :
    Kept M s (execPortRecal rq s) := by
  refine Kept.le hM ?_
  unfold execPortRecal
  refine serve_kept rfl _ _ (fun s => ?_) s
  (try simp only [startDrain_view, view_ite, foldl_view, ite_self, Nat.reduceOr, kept_ite, keeps_ite, kept_next, keeps_ok, keeps_err, keeps_failed, keeps_later]) <;> (repeat' split) <;> (try simp only [startDrain_view, view_ite, foldl_view, ite_self, Nat.reduceOr, kept_ite, keeps_ite, kept_next, keeps_ok, keeps_err, keeps_failed, keeps_later]) <;> (repeat' split) <;> (try simp only [startDrain_view, view_ite, foldl_view, ite_self, Nat.reduceOr, kept_ite, keeps_ite, kept_next, keeps_ok, keeps_err, keeps_failed, keeps_later])

/-- execPortGetStatus may change: ph, mbx, msix, pmon, out. -/
theorem execPortGetStatus_kept {M : Nat} (hM : 17250648064 ||| M = M) (rq : Req) (s : State) :
    Kept M s (execPortGetStatus rq s) := by
  refine Kept.le hM ?_
  unfold execPortGetStatus
  refine serve_kept rfl _ _ (fun s => ?_) s
  simp only [view_ite, foldl_view, ite_self, Nat.reduceOr, kept_ite, keeps_ite, kept_next, keeps_ok, keeps_err, keeps_failed, keeps_later]

end Sys2Proof.Machine
end

