-- ==== Sys2Proof/Laws/KeepFlitOps.lean ====
section
/-! SUPPORT. What the operations of Machine/FlitOps.lean may change: one lemma for each. -/

namespace Sys2Proof.Machine

/-- sendByp may change: xl. -/
theorem sendByp_view {M : Nat} (hM : 4096 ||| M = M) (k : Nat) (payload : List Byte) (s : State) :
    (sendByp k payload s).view M = s.view M := by
  refine view_le hM ?_
  simp only [sendByp, onXlQ_view, view_ite, foldl_view, ite_self, Nat.reduceOr]

/-- takeT1 may change: xl. -/
theorem takeT1_view {M : Nat} (hM : 4096 ||| M = M) (k te : Nat) (f : Flit) (s : State) :
    (takeT1 k te f s).view M = s.view M := by
  refine view_le hM ?_
  simp only [takeT1, onXl_view, view_ite, foldl_view, ite_self, Nat.reduceOr]

/-- putFlit may change: xl, pmon, out. -/
theorem putFlit_view {M : Nat} (hM : 17246982144 ||| M = M) (k phase : Nat) (f : Flit) (s : State) :
    (putFlit k phase f s).view M = s.view M := by
  refine view_le hM ?_
  simp only [putFlit, count_view, emit_view, onXl_view, takeT1_view, view_ite, foldl_view, ite_self, Nat.reduceOr]

/-- putCtrl may change: xl, pmon, out. -/
theorem putCtrl_view {M : Nat} (hM : 17246982144 ||| M = M) (k phase : Nat) (retry hold : Bool) (s : State) :
    (putCtrl k phase retry hold s).view M = s.view M := by
  refine view_le hM ?_
  unfold putCtrl
  exact (onXl_view rfl k _ _).trans (putFlit_view rfl k phase _ s)

/-- dropLostMsgs may change: port, frames, strn, rsv, xl, msix, host, pmon, trace, out. -/
theorem dropLostMsgs_view {M : Nat} (hM : 17391686952 ||| M = M) (k v h : Nat) (x0 : Nat) (s : State) :
    (dropLostMsgs k v h x0 s).view M = s.view M := by
  refine view_le hM ?_
  induction x0 generalizing s with
  | zero => rfl
  | succ n ih =>
    simp only [dropLostMsgs]
    repeat' (first | with_reducible rfl | simp only [dropCopy_view, onRsv_view, onXlQ_view, view_ite, foldl_view, ite_self, Nat.reduceOr, ih] | split | refine (foldl_view (fun s a => ?_) _ _).trans ?_ | (rename_i e; rw [fst_view e]) | (rename_i e _; rw [fst_view e]) | (rename_i e _ _; rw [fst_view e]))

/-- startMsg may change: frames, rsv. -/
theorem startMsg_view {M : Nat} (hM : 1056 ||| M = M) (k v h te : Nat) (m : Msg) (s : State) :
    (startMsg k v h te m s).view M = s.view M := by
  refine view_le hM ?_
  unfold startMsg
  (try simp only [stampEgress_view, takeFrom_view, view_ite, foldl_view, ite_self, Nat.reduceOr]) <;> (repeat' split) <;> (try simp only [stampEgress_view, takeFrom_view, view_ite, foldl_view, ite_self, Nat.reduceOr]) <;> (repeat' split) <;> (try simp only [stampEgress_view, takeFrom_view, view_ite, foldl_view, ite_self, Nat.reduceOr])

/-- endMsg may change: port, frames, strn, rsv, msix, host, pmon, trace, out. -/
theorem endMsg_view {M : Nat} (hM : 17391682856 ||| M = M) (k v h : Nat) (m : Msg) (s : State) :
    (endMsg k v h m s).view M = s.view M := by
  refine view_le hM ?_
  unfold endMsg
  (try simp only [chargeFor_view, copyEnds_view, onQueue_view, view_ite, foldl_view, ite_self, Nat.reduceOr]) <;> (repeat' split) <;> (try simp only [chargeFor_view, copyEnds_view, onQueue_view, view_ite, foldl_view, ite_self, Nat.reduceOr]) <;> (repeat' split) <;> (try simp only [chargeFor_view, copyEnds_view, onQueue_view, view_ite, foldl_view, ite_self, Nat.reduceOr])

/-- sendData may change: port, frames, strn, rsv, xl, msix, host, pmon, trace, out. -/
theorem sendData_view {M : Nat} (hM : 17391686952 ||| M = M) (k v h phase : Nat) (s : State) :
    (sendData k v h phase s).view M = s.view M := by
  refine view_le hM ?_
  simp only [sendData, endMsg_view, onXl_view, onXlQ_view, putFlit_view, startMsg_view, view_ite, foldl_view, ite_self, Nat.reduceOr]

/-- sendReplay may change: xl, pmon, out. -/
theorem sendReplay_view {M : Nat} (hM : 17246982144 ||| M = M) (k phase : Nat) (p : Nat) (s : State) :
    (sendReplay k phase p s).view M = s.view M := by
  refine view_le hM ?_
  simp only [sendReplay, count_view, onXl_view, putFlit_view, view_ite, foldl_view, ite_self, Nat.reduceOr]

/-- wrrSend may change: port, frames, strn, rsv, xl, msix, host, pmon, trace, out. -/
theorem wrrSend_view {M : Nat} (hM : 17391686952 ||| M = M) (k phase : Nat) (x0 : Nat) (s : State) :
    (wrrSend k phase x0 s).view M = s.view M := by
  refine view_le hM ?_
  induction x0 generalizing s with
  | zero => rfl
  | succ n ih =>
    simp only [wrrSend]
    repeat' (first | with_reducible rfl | simp only [onXl_view, sendData_view, view_ite, foldl_view, ite_self, Nat.reduceOr, ih] | split | refine (foldl_view (fun s a => ?_) _ _).trans ?_ | (rename_i e; rw [fst_view e]) | (rename_i e _; rw [fst_view e]) | (rename_i e _ _; rw [fst_view e]))

/-- readyXl may change: port, frames, strn, rsv, xl, msix, host, pmon, trace, out. -/
theorem readyXl_view {M : Nat} (hM : 17391686952 ||| M = M) (k : Nat) (s : State) :
    (readyXl k s).view M = s.view M := by
  refine view_le hM ?_
  unfold readyXl
  repeat' (first | with_reducible rfl | simp only [dropLostMsgs_view, fillQueue_view, view_ite, foldl_view, ite_self, Nat.reduceOr] | split | refine (foldl_view (fun s a => ?_) _ _).trans ?_ | (rename_i e; rw [fst_view e]) | (rename_i e _; rw [fst_view e]) | (rename_i e _ _; rw [fst_view e]))

/-- flitSlot may change: port, frames, strn, rsv, xl, msix, host, pmon, trace, out. -/
theorem flitSlot_view {M : Nat} (hM : 17391686952 ||| M = M) (k phase : Nat) (s : State) :
    (flitSlot k phase s).view M = s.view M := by
  refine view_le hM ?_
  unfold flitSlot
  (try simp only [onXl_view, putCtrl_view, readyXl_view, sendData_view, sendReplay_view, wrrSend_view, view_ite, foldl_view, ite_self, Nat.reduceOr]) <;> (repeat' split) <;> (try simp only [onXl_view, putCtrl_view, readyXl_view, sendData_view, sendReplay_view, wrrSend_view, view_ite, foldl_view, ite_self, Nat.reduceOr]) <;> (repeat' split) <;> (try simp only [onXl_view, putCtrl_view, readyXl_view, sendData_view, sendReplay_view, wrrSend_view, view_ite, foldl_view, ite_self, Nat.reduceOr])

/-- freeSlots may change: xl. -/
theorem freeSlots_view {M : Nat} (hM : 4096 ||| M = M) (k v h n : Nat) (s : State) :
    (freeSlots k v h n s).view M = s.view M := by
  refine view_le hM ?_
  simp only [freeSlots, onXl_view, onXlQ_view, view_ite, foldl_view, ite_self, Nat.reduceOr]

/-- badFlit may change: xl. -/
theorem badFlit_view {M : Nat} (hM : 4096 ||| M = M) (k : Nat) (s : State) :
    (badFlit k s).view M = s.view M := by
  refine view_le hM ?_
  exact onXl_view rfl k _ s

/-- bufferFlit may change: xl. -/
theorem bufferFlit_view {M : Nat} (hM : 4096 ||| M = M) (k : Nat) (f : Flit) (s : State) :
    (bufferFlit k f s).view M = s.view M := by
  refine view_le hM ?_
  simp only [bufferFlit, freeSlots_view, onXlQ_view, view_ite, foldl_view, ite_self, Nat.reduceOr]

/-- acceptFlit may change: xl. -/
theorem acceptFlit_view {M : Nat} (hM : 4096 ||| M = M) (k : Nat) (f : Flit) (s : State) :
    (acceptFlit k f s).view M = s.view M := by
  refine view_le hM ?_
  simp only [acceptFlit, badFlit_view, bufferFlit_view, freeSlots_view, onXl_view, view_ite, foldl_view, ite_self, Nat.reduceOr]

/-- discardFlit may change: xl. -/
theorem discardFlit_view {M : Nat} (hM : 4096 ||| M = M) (k : Nat) (s : State) :
    (discardFlit k s).view M = s.view M := by
  refine view_le hM ?_
  simp only [discardFlit, onXl_view, view_ite, foldl_view, ite_self, Nat.reduceOr]

end Sys2Proof.Machine
end

