-- ==== Sys2Proof/Laws/KeepFabCtl.lean ====
section
/-! SUPPORT. What the operations of Machine/FabCtl.lean may change: one lemma for each. -/

namespace Sys2Proof.Machine

/-- sendAllBut may change: xl. -/
theorem sendAllBut_view {M : Nat} (hM : 4096 ||| M = M) (k : Option Nat) (payload : List Byte) (s : State) :
    (sendAllBut k payload s).view M = s.view M := by
  refine view_le hM ?_
  unfold sendAllBut
  repeat' (first | with_reducible rfl | simp only [sendByp_view, view_ite, foldl_view, ite_self, Nat.reduceOr] | split | refine (foldl_view (fun s a => ?_) _ _).trans ?_ | (rename_i e; rw [fst_view e]) | (rename_i e _; rw [fst_view e]) | (rename_i e _ _; rw [fst_view e]))

/-- flood may change: xl, fab. -/
theorem flood_view {M : Nat} (hM : 12288 ||| M = M) (ty origin : Nat) (mk : Nat → List Byte) (s : State) :
    (flood ty origin mk s).view M = s.view M := by
  refine view_le hM ?_
  simp only [flood, onFab_view, sendAllBut_view, view_ite, foldl_view, ite_self, Nat.reduceOr]

/-- relay may change: xl, fab. -/
theorem relay_view {M : Nat} (hM : 12288 ||| M = M) (k ty origin q : Nat) (payload : List Byte) (s : State) :
    (relay k ty origin q payload s).view M = s.view M := by
  refine view_le hM ?_
  simp only [relay, onFab_view, sendAllBut_view, view_ite, foldl_view, ite_self, Nat.reduceOr]

/-- floodAdj may change: xl, fab. -/
theorem floodAdj_view {M : Nat} (hM : 12288 ||| M = M) (k : Nat) (s : State) :
    (floodAdj k s).view M = s.view M := by
  refine view_le hM ?_
  simp only [floodAdj, flood_view, onFab_view, view_ite, foldl_view, ite_self, Nat.reduceOr]

/-- floodAdjs may change: xl, fab. -/
theorem floodAdjs_view {M : Nat} (hM : 12288 ||| M = M) (s : State) :
    (floodAdjs s).view M = s.view M := by
  refine view_le hM ?_
  unfold floodAdjs
  repeat' (first | with_reducible rfl | simp only [floodAdj_view, view_ite, foldl_view, ite_self, Nat.reduceOr] | split | refine (foldl_view (fun s a => ?_) _ _).trans ?_ | (rename_i e; rw [fst_view e]) | (rename_i e _; rw [fst_view e]) | (rename_i e _ _; rw [fst_view e]))

/-- applyAssign may change: fab. -/
theorem applyAssign_view {M : Nat} (hM : 8192 ||| M = M) (serial : BitVec 64) (id : Nat) (s : State) :
    (applyAssign serial id s).view M = s.view M := by
  refine view_le hM ?_
  simp only [applyAssign, onFab_view, view_ite, foldl_view, ite_self, Nat.reduceOr]

/-- floodAssign may change: xl, fab. -/
theorem floodAssign_view {M : Nat} (hM : 12288 ||| M = M) (serial : BitVec 64) (id : Nat) (s : State) :
    (floodAssign serial id s).view M = s.view M := by
  refine view_le hM ?_
  simp only [floodAssign, applyAssign_view, flood_view, view_ite, foldl_view, ite_self, Nat.reduceOr]

/-- assignAll may change: xl, fab, sump. -/
theorem assignAll_view {M : Nat} (hM : 16789504 ||| M = M) (at0 : Nat) (s : State) :
    (assignAll at0 s).view M = s.view M := by
  refine view_le hM ?_
  unfold assignAll
  repeat' (first | with_reducible rfl | simp only [floodAssign_view, onFab_view, raise_view, view_ite, foldl_view, ite_self, Nat.reduceOr] | split | refine (foldl_view (fun s a => ?_) _ _).trans ?_ | (rename_i e; rw [fst_view e]) | (rename_i e _; rw [fst_view e]) | (rename_i e _ _; rw [fst_view e]))

/-- evalSpares may change: xl. -/
theorem evalSpares_view {M : Nat} (hM : 4096 ||| M = M) (s : State) :
    (evalSpares s).view M = s.view M := by
  refine view_le hM ?_
  simp only [evalSpares, List.foldl_cons, List.foldl_nil, onXl_view, Nat.reduceOr]

/-- dropMsg may change: port, frames, strn, rsv, msix, host, pmon, trace, out. -/
theorem dropMsg_view {M : Nat} (hM : 17391682856 ||| M = M) (q : Nat) (m : Msg) (s : State) :
    (dropMsg q m s).view M = s.view M := by
  refine view_le hM ?_
  unfold dropMsg
  (try simp only [dropCopy_view, view_ite, foldl_view, ite_self, Nat.reduceOr]) <;> (repeat' split) <;> (try simp only [dropCopy_view, view_ite, foldl_view, ite_self, Nat.reduceOr]) <;> (repeat' split) <;> (try simp only [dropCopy_view, view_ite, foldl_view, ite_self, Nat.reduceOr])

/-- sweepLink may change: port, frames, strn, rsv, xl, fab, msix, host, pmon, trace, out. -/
theorem sweepLink_view {M : Nat} (hM : 17391695144 ||| M = M) (k : Nat) (s : State) :
    (sweepLink k s).view M = s.view M := by
  refine view_le hM ?_
  unfold sweepLink
  repeat' (first | with_reducible rfl | simp only [dropMsg_view, onFab_view, onXlQ_view, view_ite, foldl_view, ite_self, Nat.reduceOr] | split | refine (foldl_view (fun s a => ?_) _ _).trans ?_ | (rename_i e; rw [fst_view e]) | (rename_i e _; rw [fst_view e]) | (rename_i e _ _; rw [fst_view e]))

/-- converge may change: port, frames, strn, rsv, xl, fab, msix, host, pmon, trace, out. -/
theorem converge_view {M : Nat} (hM : 17391695144 ||| M = M) (e : BitVec 32) (s : State) :
    (converge e s).view M = s.view M := by
  refine view_le hM ?_
  unfold converge
  repeat' (first | with_reducible rfl | simp only [evalSpares_view, onFab_view, sweepLink_view, view_ite, foldl_view, ite_self, Nat.reduceOr] | split | refine (foldl_view (fun s a => ?_) _ _).trans ?_ | (rename_i e; rw [fst_view e]) | (rename_i e _; rw [fst_view e]) | (rename_i e _ _; rw [fst_view e]))

/-- originateLsa may change: port, frames, strn, rsv, xl, fab, msix, host, pmon, trace, out. -/
theorem originateLsa_view {M : Nat} (hM : 17391695144 ||| M = M) (s : State) :
    (originateLsa s).view M = s.view M := by
  refine view_le hM ?_
  simp only [originateLsa, converge_view, flood_view, view_ite, foldl_view, ite_self, Nat.reduceOr]

/-- markDetour may change: shtl. -/
theorem markDetour_view {M : Nat} (hM : 16384 ||| M = M) (m : Msg) (s : State) :
    (markDetour m s).view M = s.view M := by
  refine view_le hM ?_
  simp only [markDetour, onShtl_view, view_ite, foldl_view, ite_self, Nat.reduceOr]

/-- resendMsg may change: rsv, xl, fab, shtl. -/
theorem resendMsg_view {M : Nat} (hM : 29696 ||| M = M) (m : Msg) (s : State) :
    (resendMsg m s).view M = s.view M := by
  refine view_le hM ?_
  simp only [resendMsg, handOn_view, markDetour_view, onFab_view, view_ite, foldl_view, ite_self, Nat.reduceOr]

/-- applyResume may change: rsv, weir, xl, fab, shtl, mbx, msix, sump, pmon, out. -/
theorem applyResume_view {M : Nat} (hM : 17266932736 ||| M = M) (s : State) :
    (applyResume s).view M = s.view M := by
  refine view_le hM ?_
  unfold applyResume
  repeat' (first | with_reducible rfl | simp only [handOn_view, onFab_view, raise_view, resendMsg_view, shtlGo_view, view_ite, foldl_view, ite_self, Nat.reduceOr] | split | refine (foldl_view (fun s a => ?_) _ _).trans ?_ | (rename_i e; rw [fst_view e]) | (rename_i e _; rw [fst_view e]) | (rename_i e _ _; rw [fst_view e]))

/-- floodResume may change: rsv, weir, xl, fab, shtl, mbx, msix, sump, pmon, out. -/
theorem floodResume_view {M : Nat} (hM : 17266932736 ||| M = M) (s : State) :
    (floodResume s).view M = s.view M := by
  refine view_le hM ?_
  simp only [floodResume, applyResume_view, flood_view, view_ite, foldl_view, ite_self, Nat.reduceOr]

/-- checkInstalled may change: rsv, weir, xl, fab, shtl, mbx, msix, sump, pmon, out. -/
theorem checkInstalled_view {M : Nat} (hM : 17266932736 ||| M = M) (s : State) :
    (checkInstalled s).view M = s.view M := by
  refine view_le hM ?_
  simp only [checkInstalled, floodResume_view, view_ite, foldl_view, ite_self, Nat.reduceOr]

/-- standAlone may change: fab. -/
theorem standAlone_view {M : Nat} (hM : 8192 ||| M = M) (s : State) :
    (standAlone s).view M = s.view M := by
  refine view_le hM ?_
  simp only [standAlone, onFab_view, view_ite, foldl_view, ite_self, Nat.reduceOr]

/-- startDiscovery may change: fab. -/
theorem startDiscovery_view {M : Nat} (hM : 8192 ||| M = M) (s : State) :
    (startDiscovery s).view M = s.view M := by
  refine view_le hM ?_
  simp only [startDiscovery, onFab_view, view_ite, foldl_view, ite_self, Nat.reduceOr]

/-- linkChanged may change: port, frames, strn, rsv, xl, fab, msix, host, pmon, trace, out. -/
theorem linkChanged_view {M : Nat} (hM : 17391695144 ||| M = M) (s : State) :
    (linkChanged s).view M = s.view M := by
  refine view_le hM ?_
  simp only [linkChanged, originateLsa_view, startDiscovery_view, view_ite, foldl_view, ite_self, Nat.reduceOr]

/-- admitNew may change: port, frames, strn, rsv, xl, fab, msix, host, sump, pmon, trace, out. -/
theorem admitNew_view {M : Nat} (hM : 17408472360 ||| M = M) (s : State) :
    (admitNew s).view M = s.view M := by
  refine view_le hM ?_
  simp only [admitNew, assignAll_view, originateLsa_view, view_ite, foldl_view, ite_self, Nat.reduceOr]

end Sys2Proof.Machine
end

