-- ==== Sys2Proof/Laws/KeepXlLink.lean ====
section
/-! SUPPORT. What the operations of Machine/XlLink.lean may change: one lemma for each. -/

namespace Sys2Proof.Machine

/-- sendTs may change: out. -/
theorem sendTs_view {M : Nat} (hM : 17179869184 ||| M = M) (k phase : Nat) (s : State) :
    (sendTs k phase s).view M = s.view M := by
  refine view_le hM ?_
  unfold sendTs
  rfl

/-- endRestore may change: xl, mbx, msix, pmon, out. -/
theorem endRestore_view {M : Nat} (hM : 17250127872 ||| M = M) (k : Nat) (st : Status) (s : State) :
    (endRestore k st s).view M = s.view M := by
  refine view_le hM ?_
  unfold endRestore
  (try simp only [finish_view, onXl_view, view_ite, foldl_view, ite_self, Nat.reduceOr]) <;> (repeat' split) <;> (try simp only [finish_view, onXl_view, view_ite, foldl_view, ite_self, Nat.reduceOr]) <;> (repeat' split) <;> (try simp only [finish_view, onXl_view, view_ite, foldl_view, ite_self, Nat.reduceOr])

/-- startFull may change: xl, out. -/
theorem startFull_view {M : Nat} (hM : 17179873280 ||| M = M) (k : Nat) (s : State) :
    (startFull k s).view M = s.view M := by
  refine view_le hM ?_
  simp only [startFull, onXl_view, sendTs_view, view_ite, foldl_view, ite_self, Nat.reduceOr]

/-- startFast may change: xl, out. -/
theorem startFast_view {M : Nat} (hM : 17179873280 ||| M = M) (k : Nat) (tx : Bool) (s : State) :
    (startFast k tx s).view M = s.view M := by
  refine view_le hM ?_
  simp only [startFast, onXl_view, sendTs_view, view_ite, foldl_view, ite_self, Nat.reduceOr]

/-- settleFlits may change: port, frames, strn, rsv, xl, fab, msix, host, pmon, trace, out. -/
theorem settleFlits_view {M : Nat} (hM : 17391695144 ||| M = M) (k : Nat) (s : State) :
    (settleFlits k s).view M = s.view M := by
  refine view_le hM ?_
  unfold settleFlits
  repeat' (first | with_reducible rfl | simp only [copyEnds_view, onFab_view, onXl_view, view_ite, foldl_view, ite_self, Nat.reduceOr] | split | refine (foldl_view (fun s a => ?_) _ _).trans ?_ | (rename_i e; rw [fst_view e]) | (rename_i e _; rw [fst_view e]) | (rename_i e _ _; rw [fst_view e]))

/-- leaveLink may change: port, frames, strn, rsv, xl, fab, mbx, msix, host, pmon, trace, out. -/
theorem leaveLink_view {M : Nat} (hM : 17392743720 ||| M = M) (k : Nat) (st : BitVec 3) (s : State) :
    (leaveLink k st s).view M = s.view M := by
  refine view_le hM ?_
  simp only [leaveLink, endRestore_view, onXl_view, settleFlits_view, view_ite, foldl_view, ite_self, Nat.reduceOr]

/-- linkDown may change: port, frames, strn, rsv, xl, fab, mbx, msix, host, sump, pmon, trace, out. -/
theorem linkDown_view {M : Nat} (hM : 17409520936 ||| M = M) (k : Nat) (s : State) :
    (linkDown k s).view M = s.view M := by
  refine view_le hM ?_
  simp only [linkDown, leaveLink_view, linkChanged_view, onXl_view, raise_view, view_ite, foldl_view, ite_self, Nat.reduceOr]

/-- disableLink may change: port, frames, strn, rsv, xl, fab, mbx, msix, host, pmon, trace, out. -/
theorem disableLink_view {M : Nat} (hM : 17392743720 ||| M = M) (k : Nat) (s : State) :
    (disableLink k s).view M = s.view M := by
  refine view_le hM ?_
  simp only [disableLink, leaveLink_view, linkChanged_view, onXl_view, view_ite, foldl_view, ite_self, Nat.reduceOr]

/-- enableLink may change: xl. -/
theorem enableLink_view {M : Nat} (hM : 4096 ||| M = M) (k : Nat) (s : State) :
    (enableLink k s).view M = s.view M := by
  refine view_le hM ?_
  simp only [enableLink, onXl_view, view_ite, foldl_view, ite_self, Nat.reduceOr]

/-- linkUp may change: port, frames, strn, rsv, xl, fab, mbx, msix, host, sump, pmon, trace, out. -/
theorem linkUp_view {M : Nat} (hM : 17409520936 ||| M = M) (k : Nat) (s : State) :
    (linkUp k s).view M = s.view M := by
  refine view_le hM ?_
  simp only [linkUp, endRestore_view, floodAdj_view, linkChanged_view, onXl_view, raise_view, view_ite, foldl_view, ite_self, Nat.reduceOr]

/-- checkTrained may change: port, frames, strn, rsv, xl, fab, mbx, msix, host, sump, pmon, trace, out. -/
theorem checkTrained_view {M : Nat} (hM : 17409520936 ||| M = M) (k : Nat) (s : State) :
    (checkTrained k s).view M = s.view M := by
  refine view_le hM ?_
  simp only [checkTrained, linkUp_view, onXl_view, view_ite, foldl_view, ite_self, Nat.reduceOr]

/-- retryTrains may change: port, frames, strn, rsv, xl, fab, mbx, msix, host, sump, pmon, trace, out. -/
theorem retryTrains_view {M : Nat} (hM : 17409520936 ||| M = M) (k : Nat) (s : State) :
    (retryTrains k s).view M = s.view M := by
  refine view_le hM ?_
  simp only [retryTrains, linkUp_view, onXl_view, view_ite, foldl_view, ite_self, Nat.reduceOr]

/-- recalibrate may change: xl, out. -/
theorem recalibrate_view {M : Nat} (hM : 17179873280 ||| M = M) (k : Nat) (s : State) :
    (recalibrate k s).view M = s.view M := by
  refine view_le hM ?_
  simp only [recalibrate, emit_view, onXl_view, view_ite, foldl_view, ite_self, Nat.reduceOr]

/-- sayDegrade may change: xl, out. -/
theorem sayDegrade_view {M : Nat} (hM : 17179873280 ||| M = M) (k : Nat) (pair : BitVec 2) (s : State) :
    (sayDegrade k pair s).view M = s.view M := by
  refine view_le hM ?_
  simp only [sayDegrade, emit_view, onXl_view, view_ite, foldl_view, ite_self, Nat.reduceOr]

/-- degradeRx may change: xl, sump, out. -/
theorem degradeRx_view {M : Nat} (hM : 17196650496 ||| M = M) (k : Nat) (pair : BitVec 2) (s : State) :
    (degradeRx k pair s).view M = s.view M := by
  refine view_le hM ?_
  simp only [degradeRx, onXl_view, raise_view, sayDegrade_view, view_ite, foldl_view, ite_self, Nat.reduceOr]

/-- failLane may change: port, frames, strn, rsv, xl, fab, mbx, msix, host, sump, pmon, trace, out. -/
theorem failLane_view {M : Nat} (hM : 17409520936 ||| M = M) (k l : Nat) (s : State) :
    (failLane k l s).view M = s.view M := by
  refine view_le hM ?_
  unfold failLane
  (try simp only [degradeRx_view, endRestore_view, linkDown_view, onXl_view, sayDegrade_view, view_ite, foldl_view, ite_self, Nat.reduceOr]) <;> (repeat' split) <;> (try simp only [degradeRx_view, endRestore_view, linkDown_view, onXl_view, sayDegrade_view, view_ite, foldl_view, ite_self, Nat.reduceOr]) <;> (repeat' split) <;> (try simp only [degradeRx_view, endRestore_view, linkDown_view, onXl_view, sayDegrade_view, view_ite, foldl_view, ite_self, Nat.reduceOr])

/-- retry may change: xl, out. -/
theorem retry_view {M : Nat} (hM : 17179873280 ||| M = M) (k : Nat) (s : State) :
    (retry k s).view M = s.view M := by
  refine view_le hM ?_
  simp only [retry, onXl_view, startFast_view, view_ite, foldl_view, ite_self, Nat.reduceOr]

end Sys2Proof.Machine
end

