-- ==== Sys2Proof/Laws/KeepCrossings.lean ====
section
/-! SUPPORT. What the operations of Machine/Crossings.lean may change: one lemma for each. -/

namespace Sys2Proof.Machine

/-- execFabricLinkConfig may change: xl, ph, mbx, msix, pmon, out. -/
theorem execFabricLinkConfig_kept {M : Nat} (hM : 17250652160 ||| M = M) (rq : Req) (s : State) :
    Kept M s (execFabricLinkConfig rq s) := by
  refine Kept.le hM ?_
  unfold execFabricLinkConfig
  refine serve_kept rfl _ _ (fun s => ?_) s
  simp only [onXl_view, view_ite, foldl_view, ite_self, Nat.reduceOr, kept_ite, keeps_ite, kept_next, keeps_ok, keeps_err, keeps_failed, keeps_later]

/-- linkOp may change: port, frames, strn, rsv, xl, fab, mbx, msix, host, pmon, trace, out. -/
theorem linkOp_keeps {M : Nat} (hM : 17392743720 ||| M = M) (k op fn : Nat) (s : State) :
    Reply.Keeps M s (linkOp k op fn s) := by
  refine Reply.Keeps.le hM ?_
  simp only [linkOp, disableLink_view, enableLink_view, onXl_view, recalibrate_view, startFast_view, view_ite, foldl_view, ite_self, Nat.reduceOr, kept_ite, keeps_ite, kept_next, keeps_ok, keeps_err, keeps_failed, keeps_later]

/-- execFabricLinkCtl may change: port, frames, strn, rsv, xl, fab, ph, mbx, msix, host, pmon, trace, out. -/
theorem execFabricLinkCtl_kept {M : Nat} (hM : 17393268008 ||| M = M) (rq : Req) (s : State) :
    Kept M s (execFabricLinkCtl rq s) := by
  refine Kept.le hM ?_
  unfold execFabricLinkCtl
  refine serve_kept rfl _ _ (fun s => ?_) s
  (try simp only [view_ite, foldl_view, ite_self, Nat.reduceOr, kept_ite, keeps_ite, kept_next, keeps_ok, keeps_err, keeps_failed, keeps_later]) <;> (repeat' split) <;> (try simp only [view_ite, foldl_view, ite_self, Nat.reduceOr, kept_ite, keeps_ite, kept_next, keeps_ok, keeps_err, keeps_failed, keeps_later]) <;> (repeat' split) <;> (try simp only [view_ite, foldl_view, ite_self, Nat.reduceOr, kept_ite, keeps_ite, kept_next, keeps_ok, keeps_err, keeps_failed, keeps_later])
  all_goals (first | exact linkOp_keeps rfl .. | skip)

/-- execFabricLinkStatus may change: ph, mbx, msix, pmon, out. -/
theorem execFabricLinkStatus_kept {M : Nat} (hM : 17250648064 ||| M = M) (rq : Req) (s : State) :
    Kept M s (execFabricLinkStatus rq s) := by
  refine Kept.le hM ?_
  unfold execFabricLinkStatus
  refine serve_kept rfl _ _ (fun s => ?_) s
  simp only [view_ite, foldl_view, ite_self, Nat.reduceOr, kept_ite, keeps_ite, kept_next, keeps_ok, keeps_err, keeps_failed, keeps_later]

/-- takeCtrl may change: port, frames, strn, rsv, xl, fab, mbx, msix, host, sump, pmon, trace, out. -/
theorem takeCtrl_view {M : Nat} (hM : 17409520936 ||| M = M) (k : Nat) (b : List Byte) (s : State) :
    (takeCtrl k b s).view M = s.view M := by
  refine view_le hM ?_
  simp only [takeCtrl, onXl_view, retry_view, retryTrains_view, view_ite, foldl_view, ite_self, Nat.reduceOr]

/-- takeFlit may change: port, frames, strn, rsv, xl, fab, mbx, msix, host, sump, pmon, trace, out. -/
theorem takeFlit_view {M : Nat} (hM : 17409520936 ||| M = M) (k : Nat) (b : List Byte) (s : State) :
    (takeFlit k b s).view M = s.view M := by
  refine view_le hM ?_
  simp only [takeFlit, acceptFlit_view, discardFlit_view, onXl_view, takeCtrl_view, view_ite, foldl_view, ite_self, Nat.reduceOr]

/-- execFlitReceive may change: port, frames, strn, rsv, xl, fab, mbx, msix, host, sump, pmon, trace, out. -/
theorem execFlitReceive_kept {M : Nat} (hM : 17409520936 ||| M = M) (k : Fin 8) (bytes : List Byte) (bad : Nat) (s : State) :
    Kept M s (execFlitReceive k bytes bad s) := by
  refine Kept.le hM ?_
  unfold execFlitReceive
  simp only [onXl_view, takeFlit_view, view_ite, foldl_view, ite_self, Nat.reduceOr, kept_ite, keeps_ite, kept_next, keeps_ok, keeps_err, keeps_failed, keeps_later]

/-- execCtrlFlit may change: port, frames, strn, rsv, xl, fab, mbx, msix, host, sump, pmon, trace, out. -/
theorem execCtrlFlit_kept {M : Nat} (hM : 17409520936 ||| M = M) (k : Fin 8) (bytes : List Byte) (s : State) :
    Kept M s (execCtrlFlit k bytes s) := by
  refine Kept.le hM ?_
  unfold execCtrlFlit
  simp only [takeFlit_view, view_ite, foldl_view, ite_self, Nat.reduceOr, kept_ite, keeps_ite, kept_next, keeps_ok, keeps_err, keeps_failed, keeps_later]

/-- execFlitSend may change: port, frames, strn, rsv, xl, msix, host, pmon, trace, out. -/
theorem execFlitSend_kept {M : Nat} (hM : 17391686952 ||| M = M) (k : Fin 8) (phase : Fin 32) (s : State) :
    Kept M s (execFlitSend k phase s) := by
  refine Kept.le hM ?_
  unfold execFlitSend
  simp only [flitSlot_view, view_ite, foldl_view, ite_self, Nat.reduceOr, kept_ite, keeps_ite, kept_next, keeps_ok, keeps_err, keeps_failed, keeps_later]

/-- execCtrlFlitDue may change: xl. -/
theorem execCtrlFlitDue_kept {M : Nat} (hM : 4096 ||| M = M) (k : Fin 8) (s : State) :
    Kept M s (execCtrlFlitDue k s) := by
  refine Kept.le hM ?_
  unfold execCtrlFlitDue
  simp only [onXl_view, view_ite, foldl_view, ite_self, Nat.reduceOr, kept_ite, keeps_ite, kept_next, keeps_ok, keeps_err, keeps_failed, keeps_later]

/-- execRetryResend may change: xl. -/
theorem execRetryResend_kept {M : Nat} (hM : 4096 ||| M = M) (k : Fin 8) (s : State) :
    Kept M s (execRetryResend k s) := by
  refine Kept.le hM ?_
  unfold execRetryResend
  simp only [onXl_view, view_ite, foldl_view, ite_self, Nat.reduceOr, kept_ite, keeps_ite, kept_next, keeps_ok, keeps_err, keeps_failed, keeps_later]

/-- execReplayTimeout may change: xl, out. -/
theorem execReplayTimeout_kept {M : Nat} (hM : 17179873280 ||| M = M) (k : Fin 8) (s : State) :
    Kept M s (execReplayTimeout k s) := by
  refine Kept.le hM ?_
  unfold execReplayTimeout
  simp only [retry_view, view_ite, foldl_view, ite_self, Nat.reduceOr, kept_ite, keeps_ite, kept_next, keeps_ok, keeps_err, keeps_failed, keeps_later]

/-- execXlLaneLock may change: xl, out. -/
theorem execXlLaneLock_kept {M : Nat} (hM : 17179873280 ||| M = M) (k : Fin 8) (lane : Fin 4) (s : State) :
    Kept M s (execXlLaneLock k lane s) := by
  refine Kept.le hM ?_
  unfold execXlLaneLock
  simp only [onXl_view, startFast_view, startFull_view, view_ite, foldl_view, ite_self, Nat.reduceOr, kept_ite, keeps_ite, kept_next, keeps_ok, keeps_err, keeps_failed, keeps_later]

/-- takeTs may change: port, frames, strn, rsv, xl, fab, mbx, msix, host, sump, pmon, trace, out. -/
theorem takeTs_view {M : Nat} (hM : 17409520936 ||| M = M) (k lane : Nat) (b : List Byte) (s : State) :
    (takeTs k lane b s).view M = s.view M := by
  refine view_le hM ?_
  simp only [takeTs, checkTrained_view, leaveLink_view, linkDown_view, onXl_view, sendTs_view, view_ite, foldl_view, ite_self, Nat.reduceOr]

/-- execTsReceive may change: port, frames, strn, rsv, xl, fab, mbx, msix, host, sump, pmon, trace, out. -/
theorem execTsReceive_kept {M : Nat} (hM : 17409520936 ||| M = M) (k : Fin 8) (lane : Fin 4) (bytes : List Byte) (s : State) :
    Kept M s (execTsReceive k lane bytes s) := by
  refine Kept.le hM ?_
  unfold execTsReceive
  simp only [startFast_view, takeTs_view, view_ite, foldl_view, ite_self, Nat.reduceOr, kept_ite, keeps_ite, kept_next, keeps_ok, keeps_err, keeps_failed, keeps_later]

/-- execLaneFail may change: port, frames, strn, rsv, xl, fab, mbx, msix, host, sump, pmon, trace, out. -/
theorem execLaneFail_kept {M : Nat} (hM : 17409520936 ||| M = M) (k : Fin 8) (lane : Fin 4) (s : State) :
    Kept M s (execLaneFail k lane s) := by
  refine Kept.le hM ?_
  unfold execLaneFail
  simp only [failLane_view, view_ite, foldl_view, ite_self, Nat.reduceOr, kept_ite, keeps_ite, kept_next, keeps_ok, keeps_err, keeps_failed, keeps_later]

/-- execDegradeReceive may change: xl, mbx, msix, sump, pmon, out. -/
theorem execDegradeReceive_kept {M : Nat} (hM : 17266905088 ||| M = M) (k : Fin 8) (pair : Fin 2) (s : State) :
    Kept M s (execDegradeReceive k pair s) := by
  refine Kept.le hM ?_
  unfold execDegradeReceive
  simp only [endRestore_view, onXl_view, raise_view, sendTs_view, view_ite, foldl_view, ite_self, Nat.reduceOr, kept_ite, keeps_ite, kept_next, keeps_ok, keeps_err, keeps_failed, keeps_later]

/-- execXlLinkDown may change: port, frames, strn, rsv, xl, fab, mbx, msix, host, sump, pmon, trace, out. -/
theorem execXlLinkDown_kept {M : Nat} (hM : 17409520936 ||| M = M) (k : Fin 8) (s : State) :
    Kept M s (execXlLinkDown k s) := by
  refine Kept.le hM ?_
  unfold execXlLinkDown
  simp only [linkDown_view, view_ite, foldl_view, ite_self, Nat.reduceOr, kept_ite, keeps_ite, kept_next, keeps_ok, keeps_err, keeps_failed, keeps_later]

/-- execFastTrainingTimeout may change: port, frames, strn, rsv, xl, fab, mbx, msix, host, sump, pmon, trace, out. -/
theorem execFastTrainingTimeout_kept {M : Nat} (hM : 17409520936 ||| M = M) (k : Fin 8) (s : State) :
    Kept M s (execFastTrainingTimeout k s) := by
  refine Kept.le hM ?_
  unfold execFastTrainingTimeout
  simp only [linkDown_view, view_ite, foldl_view, ite_self, Nat.reduceOr, kept_ite, keeps_ite, kept_next, keeps_ok, keeps_err, keeps_failed, keeps_later]

/-- execQuiesceReceive may change: xl. -/
theorem execQuiesceReceive_kept {M : Nat} (hM : 4096 ||| M = M) (k : Fin 8) (s : State) :
    Kept M s (execQuiesceReceive k s) := by
  refine Kept.le hM ?_
  unfold execQuiesceReceive
  simp only [onXl_view, view_ite, foldl_view, ite_self, Nat.reduceOr, kept_ite, keeps_ite, kept_next, keeps_ok, keeps_err, keeps_failed, keeps_later]

/-- execQuiesceGraceEnd may change: xl. -/
theorem execQuiesceGraceEnd_kept {M : Nat} (hM : 4096 ||| M = M) (k : Fin 8) (s : State) :
    Kept M s (execQuiesceGraceEnd k s) := by
  refine Kept.le hM ?_
  unfold execQuiesceGraceEnd
  simp only [onXl_view, view_ite, foldl_view, ite_self, Nat.reduceOr, kept_ite, keeps_ite, kept_next, keeps_ok, keeps_err, keeps_failed, keeps_later]

/-- execXlRecalDue may change: xl, sump, out. -/
theorem execXlRecalDue_kept {M : Nat} (hM : 17196650496 ||| M = M) (k : Fin 8) (s : State) :
    Kept M s (execXlRecalDue k s) := by
  refine Kept.le hM ?_
  unfold execXlRecalDue
  simp only [onXl_view, raise_view, recalibrate_view, view_ite, foldl_view, ite_self, Nat.reduceOr, kept_ite, keeps_ite, kept_next, keeps_ok, keeps_err, keeps_failed, keeps_later]

/-- execXlSynthLock may change: xl, out. -/
theorem execXlSynthLock_kept {M : Nat} (hM : 17179873280 ||| M = M) (k : Fin 8) (s : State) :
    Kept M s (execXlSynthLock k s) := by
  refine Kept.le hM ?_
  unfold execXlSynthLock
  simp only [onXl_view, startFast_view, startFull_view, view_ite, foldl_view, ite_self, Nat.reduceOr, kept_ite, keeps_ite, kept_next, keeps_ok, keeps_err, keeps_failed, keeps_later]

/-- execXlSynthTimeout may change: port, frames, strn, rsv, xl, fab, mbx, msix, host, sump, pmon, trace, out. -/
theorem execXlSynthTimeout_kept {M : Nat} (hM : 17409520936 ||| M = M) (k : Fin 8) (s : State) :
    Kept M s (execXlSynthTimeout k s) := by
  refine Kept.le hM ?_
  unfold execXlSynthTimeout
  simp only [linkDown_view, onXl_view, view_ite, foldl_view, ite_self, Nat.reduceOr, kept_ite, keeps_ite, kept_next, keeps_ok, keeps_err, keeps_failed, keeps_later]

end Sys2Proof.Machine
end

