-- ==== Sys2Proof/Laws/KeepDramOps.lean ====
section
/-! SUPPORT. What the operations of Machine/DramOps.lean may change: one lemma for each. -/

namespace Sys2Proof.Machine

/-- onDdr may change: ddr. -/
theorem onDdr_view {M : Nat} (hM : 262144 ||| M = M) (c : Nat) (g : Ddr → Ddr) (s : State) :
    (onDdr c g s).view M = s.view M := by
  refine view_le hM ?_
  simp only [onDdr, State.setDdr_view, view_ite, foldl_view, ite_self, Nat.reduceOr]

/-- dramEvent may change: sump. -/
theorem dramEvent_view {M : Nat} (hM : 16777216 ||| M = M) (c ev cause value : Nat) (s : State) :
    (dramEvent c ev cause value s).view M = s.view M := by
  refine view_le hM ?_
  simp only [dramEvent, raise_view, view_ite, foldl_view, ite_self, Nat.reduceOr]

/-- issueCmd may change: ddr, out. -/
theorem issueCmd_view {M : Nat} (hM : 17180131328 ||| M = M) (c : Nat) (cmd : DramCmd) (place : Nat) (s : State) :
    (issueCmd c cmd place s).view M = s.view M := by
  refine view_le hM ?_
  simp only [issueCmd, emit_view, onDdr_view, view_ite, foldl_view, ite_self, Nat.reduceOr]

/-- issueAccess may change: ddr, out. -/
theorem issueAccess_view {M : Nat} (hM : 17180131328 ||| M = M) (c : Nat) (write : Bool) (off : Nat) (s : State) :
    (issueAccess c write off s).view M = s.view M := by
  refine view_le hM ?_
  simp only [issueAccess, issueCmd_view, view_ite, foldl_view, ite_self, Nat.reduceOr]

/-- flushRequests may change: ddr, mbx, msix, pmon, out. -/
theorem flushRequests_view {M : Nat} (hM : 17250385920 ||| M = M) (c : Nat) (s : State) :
    (flushRequests c s).view M = s.view M := by
  refine view_le hM ?_
  unfold flushRequests
  repeat' (first | with_reducible rfl | simp only [finishOpt_view, onDdr_view, view_ite, foldl_view, ite_self, Nat.reduceOr] | split | refine (foldl_view (fun s a => ?_) _ _).trans ?_ | (rename_i e; rw [fst_view e]) | (rename_i e _; rw [fst_view e]) | (rename_i e _ _; rw [fst_view e]))

/-- freezeDram may change: ddr, mbx, msix, sump, pmon, out. -/
theorem freezeDram_view {M : Nat} (hM : 17267163136 ||| M = M) (c kind client addr synd : Nat) (rank : Bool) (s : State) :
    (freezeDram c kind client addr synd rank s).view M = s.view M := by
  refine view_le hM ?_
  simp only [freezeDram, dramEvent_view, flushRequests_view, issueCmd_view, onDdr_view, view_ite, foldl_view, ite_self, Nat.reduceOr]

/-- correctableErr may change: ddr, sump. -/
theorem correctableErr_view {M : Nat} (hM : 17039360 ||| M = M) (c addr : Nat) (s : State) :
    (correctableErr c addr s).view M = s.view M := by
  refine view_le hM ?_
  simp only [correctableErr, dramEvent_view, onDdr_view, view_ite, foldl_view, ite_self, Nat.reduceOr]

/-- storeDram may change: ddr. -/
theorem storeDram_view {M : Nat} (hM : 262144 ||| M = M) (c addr : Nat) (data : List Byte) (s : State) :
    (storeDram c addr data s).view M = s.view M := by
  refine view_le hM ?_
  simp only [storeDram, onDdr_view, view_ite, foldl_view, ite_self, Nat.reduceOr]

/-- accessDram may change: ddr, mbx, msix, sump, pmon, out. -/
theorem accessDram_view {M : Nat} (hM : 17267163136 ||| M = M) (c : Nat) (q : DdrReq) (s : State) :
    (accessDram c q s).view M = s.view M := by
  refine view_le hM ?_
  unfold accessDram
  (try simp only [correctableErr_view, freezeDram_view, issueAccess_view, onDdr_view, storeDram_view, view_ite, foldl_view, ite_self, Nat.reduceOr]) <;> (repeat' split) <;> (try simp only [correctableErr_view, freezeDram_view, issueAccess_view, onDdr_view, storeDram_view, view_ite, foldl_view, ite_self, Nat.reduceOr]) <;> (repeat' split) <;> (try simp only [correctableErr_view, freezeDram_view, issueAccess_view, onDdr_view, storeDram_view, view_ite, foldl_view, ite_self, Nat.reduceOr])

/-- issueRequest may change: ddr, mbx, msix, sump, pmon, out, free. -/
theorem issueRequest_view {M : Nat} (hM : 51626901504 ||| M = M) (c : Nat) (q : DdrReq) (s : State) :
    (issueRequest c q s).view M = s.view M := by
  refine view_le hM ?_
  simp only [issueRequest, accessDram_view, drawn_view, finishOpt_view, view_ite, foldl_view, ite_self, Nat.reduceOr]

/-- issueQueue may change: ddr, mbx, msix, sump, pmon, out, free. -/
theorem issueQueue_view {M : Nat} (hM : 51626901504 ||| M = M) (c : Nat) (s : State) :
    (issueQueue c s).view M = s.view M := by
  refine view_le hM ?_
  unfold issueQueue
  repeat' (first | with_reducible rfl | simp only [issueRequest_view, onDdr_view, view_ite, foldl_view, ite_self, Nat.reduceOr] | split | refine (foldl_view (fun s a => ?_) _ _).trans ?_ | (rename_i e; rw [fst_view e]) | (rename_i e _; rw [fst_view e]) | (rename_i e _ _; rw [fst_view e]))

/-- beginExit may change: ddr, out. -/
theorem beginExit_view {M : Nat} (hM : 17180131328 ||| M = M) (c : Nat) (s : State) :
    (beginExit c s).view M = s.view M := by
  refine view_le hM ?_
  simp only [beginExit, issueCmd_view, onDdr_view, view_ite, foldl_view, ite_self, Nat.reduceOr]

/-- holdRequest may change: ddr, out. -/
theorem holdRequest_view {M : Nat} (hM : 17180131328 ||| M = M) (c : Nat) (q : DdrReq) (s : State) :
    (holdRequest c q s).view M = s.view M := by
  refine view_le hM ?_
  simp only [holdRequest, beginExit_view, onDdr_view, view_ite, foldl_view, ite_self, Nat.reduceOr]

/-- takeConfig may change: ddr. -/
theorem takeConfig_view {M : Nat} (hM : 262144 ||| M = M) (c : Nat) (s : State) :
    (takeConfig c s).view M = s.view M := by
  refine view_le hM ?_
  simp only [takeConfig, onDdr_view, view_ite, foldl_view, ite_self, Nat.reduceOr]

/-- beginSpeed may change: ddr, out. -/
theorem beginSpeed_view {M : Nat} (hM : 17180131328 ||| M = M) (c : Nat) (s : State) :
    (beginSpeed c s).view M = s.view M := by
  refine view_le hM ?_
  simp only [beginSpeed, issueCmd_view, onDdr_view, view_ite, foldl_view, ite_self, Nat.reduceOr]

/-- resumeDram may change: ddr, mbx, msix, sump, pmon, out, free. -/
theorem resumeDram_view {M : Nat} (hM : 51626901504 ||| M = M) (c : Nat) (s : State) :
    (resumeDram c s).view M = s.view M := by
  refine view_le hM ?_
  simp only [resumeDram, beginSpeed_view, issueQueue_view, onDdr_view, takeConfig_view, view_ite, foldl_view, ite_self, Nat.reduceOr]

/-- askSpeed may change: ddr, out. -/
theorem askSpeed_view {M : Nat} (hM : 17180131328 ||| M = M) (c : Nat) (derate : Bool) (s : State) :
    (askSpeed c derate s).view M = s.view M := by
  refine view_le hM ?_
  simp only [askSpeed, beginSpeed_view, onDdr_view, view_ite, foldl_view, ite_self, Nat.reduceOr]

/-- startRecovery may change: ddr. -/
theorem startRecovery_view {M : Nat} (hM : 262144 ||| M = M) (c : Nat) (auto : Bool) (fn : Option Nat) (s : State) :
    (startRecovery c auto fn s).view M = s.view M := by
  refine view_le hM ?_
  simp only [startRecovery, onDdr_view, view_ite, foldl_view, ite_self, Nat.reduceOr]

/-- endRecovery may change: ddr, mbx, msix, pmon, out. -/
theorem endRecovery_view {M : Nat} (hM : 17250385920 ||| M = M) (c : Nat) (st : Status) (s : State) :
    (endRecovery c st s).view M = s.view M := by
  refine view_le hM ?_
  simp only [endRecovery, finishOpt_view, onDdr_view, view_ite, foldl_view, ite_self, Nat.reduceOr]

/-- loseShadows may change: fwd. -/
theorem loseShadows_view {M : Nat} (hM : 512 ||| M = M) (c : Nat) (s : State) :
    (loseShadows c s).view M = s.view M := by
  refine view_le hM ?_
  unfold loseShadows
  repeat' (first | with_reducible rfl | simp only [onProt_view, view_ite, foldl_view, ite_self, Nat.reduceOr] | split | refine (foldl_view (fun s a => ?_) _ _).trans ?_ | (rename_i e; rw [fst_view e]) | (rename_i e _; rw [fst_view e]) | (rename_i e _ _; rw [fst_view e]))

/-- loseContent may change: glb, pump, strn, fwd, rsv, weir, xl, fab, shtl, rdma, ledg, cist, ddr, mbx, msix, host, sump, pmon, out. -/
theorem loseContent_view {M : Nat} (hM : 17275813761 ||| M = M) (c : Nat) (s : State) :
    (loseContent c s).view M = s.view M := by
  refine view_le hM ?_
  simp only [loseContent, loseShadows_view, loseStaged_view, onDdr_view, view_ite, foldl_view, ite_self, Nat.reduceOr]

/-- failDram may change: ddr. -/
theorem failDram_view {M : Nat} (hM : 262144 ||| M = M) (c : Nat) (s : State) :
    (failDram c s).view M = s.view M := by
  refine view_le hM ?_
  simp only [failDram, onDdr_view, view_ite, foldl_view, ite_self, Nat.reduceOr]

end Sys2Proof.Machine
end

