-- ==== Sys2Proof/Laws/KeepDram.lean ====
section
/-! SUPPORT. What the operations of Machine/Dram.lean may change: one lemma for each. -/

namespace Sys2Proof.Machine

/-- execDramConfig may change: ddr, ph, mbx, msix, pmon, out. -/
theorem execDramConfig_kept {M : Nat} (hM : 17250910208 ||| M = M) (rq : Req) (s : State) :
    Kept M s (execDramConfig rq s) := by
  refine Kept.le hM ?_
  unfold execDramConfig
  refine serve_kept rfl _ _ (fun s => ?_) s
  simp only [onDdr_view, view_ite, foldl_view, ite_self, Nat.reduceOr, kept_ite, keeps_ite, kept_next, keeps_ok, keeps_err, keeps_failed, keeps_later]

/-- execDramStatus may change: ph, mbx, msix, pmon, out. -/
theorem execDramStatus_kept {M : Nat} (hM : 17250648064 ||| M = M) (rq : Req) (s : State) :
    Kept M s (execDramStatus rq s) := by
  refine Kept.le hM ?_
  unfold execDramStatus
  refine serve_kept rfl _ _ (fun s => ?_) s
  simp only [view_ite, foldl_view, ite_self, Nat.reduceOr, kept_ite, keeps_ite, kept_next, keeps_ok, keeps_err, keeps_failed, keeps_later]

/-- execDramCapture may change: ph, mbx, msix, pmon, out. -/
theorem execDramCapture_kept {M : Nat} (hM : 17250648064 ||| M = M) (rq : Req) (s : State) :
    Kept M s (execDramCapture rq s) := by
  refine Kept.le hM ?_
  unfold execDramCapture
  refine serve_kept rfl _ _ (fun s => ?_) s
  simp only [view_ite, foldl_view, ite_self, Nat.reduceOr, kept_ite, keeps_ite, kept_next, keeps_ok, keeps_err, keeps_failed, keeps_later]

/-- execDramRecover may change: ddr, ph, mbx, msix, pmon, out. -/
theorem execDramRecover_kept {M : Nat} (hM : 17250910208 ||| M = M) (rq : Req) (s : State) :
    Kept M s (execDramRecover rq s) := by
  refine Kept.le hM ?_
  unfold execDramRecover
  refine serve_kept rfl _ _ (fun s => ?_) s
  simp only [startRecovery_view, view_ite, foldl_view, ite_self, Nat.reduceOr, kept_ite, keeps_ite, kept_next, keeps_ok, keeps_err, keeps_failed, keeps_later]

/-- countDram may change: pmon. -/
theorem countDram_view {M : Nat} (hM : 67108864 ||| M = M) (client : DramClient) (write : Bool) (addr : Nat) (s : State) :
    (countDram client write addr s).view M = s.view M := by
  refine view_le hM ?_
  simp only [countDram, count_view, view_ite, foldl_view, ite_self, Nat.reduceOr]

/-- execDramRead may change: ddr, ph, mbx, msix, sump, pmon, out, free. -/
theorem execDramRead_kept {M : Nat} (hM : 51627425792 ||| M = M) (rq : Req) (err : DramErr) (s : State) :
    Kept M s (execDramRead rq err s) := by
  refine Kept.le hM ?_
  unfold execDramRead
  refine serve_kept rfl _ _ (fun s => ?_) s
  simp only [countDram_view, holdRequest_view, issueRequest_view, view_ite, foldl_view, ite_self, Nat.reduceOr, kept_ite, keeps_ite, kept_next, keeps_ok, keeps_err, keeps_failed, keeps_later]

/-- execDramRequest may change: ddr, mbx, msix, sump, pmon, out. -/
theorem execDramRequest_kept {M : Nat} (hM : 17267163136 ||| M = M) (c : Fin 2) (client : DramClient) (write : Bool) (addr : BitVec 64) (data : List Byte) (err : DramErr) (s : State) :
    Kept M s (execDramRequest c client write addr data err s) := by
  refine Kept.le hM ?_
  unfold execDramRequest
  simp only [accessDram_view, countDram_view, holdRequest_view, view_ite, foldl_view, ite_self, Nat.reduceOr, kept_ite, keeps_ite, kept_next, keeps_ok, keeps_err, keeps_failed, keeps_later]

/-- execSrIdleExpiry may change: ddr, out. -/
theorem execSrIdleExpiry_kept {M : Nat} (hM : 17180131328 ||| M = M) (c : Fin 2) (s : State) :
    Kept M s (execSrIdleExpiry c s) := by
  refine Kept.le hM ?_
  unfold execSrIdleExpiry
  simp only [issueCmd_view, onDdr_view, view_ite, foldl_view, ite_self, Nat.reduceOr, kept_ite, keeps_ite, kept_next, keeps_ok, keeps_err, keeps_failed, keeps_later]

/-- execSrEntryDone may change: ddr, out. -/
theorem execSrEntryDone_kept {M : Nat} (hM : 17180131328 ||| M = M) (c : Fin 2) (s : State) :
    Kept M s (execSrEntryDone c s) := by
  refine Kept.le hM ?_
  unfold execSrEntryDone
  simp only [beginExit_view, onDdr_view, view_ite, foldl_view, ite_self, Nat.reduceOr, kept_ite, keeps_ite, kept_next, keeps_ok, keeps_err, keeps_failed, keeps_later]

/-- execSrExitDone may change: ddr, mbx, msix, sump, pmon, out, free. -/
theorem execSrExitDone_kept {M : Nat} (hM : 51626901504 ||| M = M) (c : Fin 2) (s : State) :
    Kept M s (execSrExitDone c s) := by
  refine Kept.le hM ?_
  unfold execSrExitDone
  simp only [resumeDram_view, view_ite, foldl_view, ite_self, Nat.reduceOr, kept_ite, keeps_ite, kept_next, keeps_ok, keeps_err, keeps_failed, keeps_later]

/-- execSpeedChangeDone may change: ddr, mbx, msix, sump, pmon, out, free. -/
theorem execSpeedChangeDone_kept {M : Nat} (hM : 51626901504 ||| M = M) (c : Fin 2) (s : State) :
    Kept M s (execSpeedChangeDone c s) := by
  refine Kept.le hM ?_
  unfold execSpeedChangeDone
  simp only [dramEvent_view, issueCmd_view, onDdr_view, resumeDram_view, view_ite, foldl_view, ite_self, Nat.reduceOr, kept_ite, keeps_ite, kept_next, keeps_ok, keeps_err, keeps_failed, keeps_later]

/-- execRefresh may change: ddr, out. -/
theorem execRefresh_kept {M : Nat} (hM : 17180131328 ||| M = M) (c : Fin 2) (s : State) :
    Kept M s (execRefresh c s) := by
  refine Kept.le hM ?_
  unfold execRefresh
  simp only [issueCmd_view, view_ite, foldl_view, ite_self, Nat.reduceOr, kept_ite, keeps_ite, kept_next, keeps_ok, keeps_err, keeps_failed, keeps_later]

/-- execMr4Read may change: ddr, sump, out. -/
theorem execMr4Read_kept {M : Nat} (hM : 17196908544 ||| M = M) (c : Fin 2) (hottest : Int) (aboveRated : Bool) (corrected : Nat) (s : State) :
    Kept M s (execMr4Read c hottest aboveRated corrected s) := by
  refine Kept.le hM ?_
  unfold execMr4Read
  simp only [dramEvent_view, issueCmd_view, onDdr_view, view_ite, foldl_view, ite_self, Nat.reduceOr, kept_ite, keeps_ite, kept_next, keeps_ok, keeps_err, keeps_failed, keeps_later]

/-- execPatrolScrub may change: ddr, mbx, msix, sump, pmon, out. -/
theorem execPatrolScrub_kept {M : Nat} (hM : 17267163136 ||| M = M) (c : Fin 2) (err : DramErr) (s : State) :
    Kept M s (execPatrolScrub c err s) := by
  refine Kept.le hM ?_
  unfold execPatrolScrub
  simp only [accessDram_view, countDram_view, onDdr_view, view_ite, foldl_view, ite_self, Nat.reduceOr, kept_ite, keeps_ite, kept_next, keeps_ok, keeps_err, keeps_failed, keeps_later]

/-- execDriftUpdate may change: ddr, out. -/
theorem execDriftUpdate_kept {M : Nat} (hM : 17180131328 ||| M = M) (c : Fin 2) (s : State) :
    Kept M s (execDriftUpdate c s) := by
  refine Kept.le hM ?_
  unfold execDriftUpdate
  simp only [issueCmd_view, onDdr_view, view_ite, foldl_view, ite_self, Nat.reduceOr, kept_ite, keeps_ite, kept_next, keeps_ok, keeps_err, keeps_failed, keeps_later]

/-- execAutoRecoverExpiry may change: ddr. -/
theorem execAutoRecoverExpiry_kept {M : Nat} (hM : 262144 ||| M = M) (c : Fin 2) (s : State) :
    Kept M s (execAutoRecoverExpiry c s) := by
  refine Kept.le hM ?_
  unfold execAutoRecoverExpiry
  simp only [startRecovery_view, view_ite, foldl_view, ite_self, Nat.reduceOr, kept_ite, keeps_ite, kept_next, keeps_ok, keeps_err, keeps_failed, keeps_later]

/-- execRecoveryDone may change: glb, pump, strn, fwd, rsv, weir, xl, fab, shtl, rdma, ledg, cist, ddr, mbx, msix, host, sump, pmon, out, free. -/
theorem execRecoveryDone_kept {M : Nat} (hM : 51635552129 ||| M = M) (c : Fin 2) (trainedOk : Bool) (s : State) :
    Kept M s (execRecoveryDone c trainedOk s) := by
  refine Kept.le hM ?_
  unfold execRecoveryDone
  simp only [dramEvent_view, endRecovery_view, failDram_view, loseContent_view, onDdr_view, resumeDram_view, view_ite, foldl_view, ite_self, Nat.reduceOr, kept_ite, keeps_ite, kept_next, keeps_ok, keeps_err, keeps_failed, keeps_later]

end Sys2Proof.Machine
end

