-- ==== Sys2Proof/Laws/KeepWitness.lean ====
section
/-! SUPPORT. What the operations of Machine/Witness.lean may change: one lemma for each. -/

namespace Sys2Proof.Machine

/-- missRound may change: xl. -/
theorem missRound_view {M : Nat} (hM : 4096 ||| M = M) (k : Nat) (s : State) :
    (missRound k s).view M = s.view M := by
  refine view_le hM ?_
  simp only [missRound, onXl_view, view_ite, foldl_view, ite_self, Nat.reduceOr]

/-- execWitnessRound may change: xl. -/
theorem execWitnessRound_kept {M : Nat} (hM : 4096 ||| M = M) (k : Fin 8) (z0 : Fin 32) (s : State) :
    Kept M s (execWitnessRound k z0 s) := by
  refine Kept.le hM ?_
  unfold execWitnessRound
  simp only [missRound_view, onXl_view, sendByp_view, view_ite, foldl_view, ite_self, Nat.reduceOr, kept_ite, keeps_ite, kept_next, keeps_ok, keeps_err, keeps_failed, keeps_later]

/-- execWReq may change: xl. -/
theorem execWReq_kept {M : Nat} (hM : 4096 ||| M = M) (k : Fin 8) (bytes : List Byte) (phase : Fin 32) (s : State) :
    Kept M s (execWReq k bytes phase s) := by
  refine Kept.le hM ?_
  unfold execWReq
  simp only [sendByp_view, view_ite, foldl_view, ite_self, Nat.reduceOr, kept_ite, keeps_ite, kept_next, keeps_ok, keeps_err, keeps_failed, keeps_later]

/-- setDissent may change: tide, ledg, cist, sump, pmon, out. -/
theorem setDissent_view {M : Nat} (hM : 17263951874 ||| M = M) (k : Nat) (on : Bool) (theta : Int) (s : State) :
    (setDissent k on theta s).view M = s.view M := by
  refine view_le hM ?_
  simp only [setDissent, appendAll_view, raise_view, view_tide, view_ite, foldl_view, ite_self, Nat.reduceOr]

/-- judgeOffset may change: tide, ledg, cist, sump, pmon, out. -/
theorem judgeOffset_view {M : Nat} (hM : 17263951874 ||| M = M) (k : Nat) (theta : Int) (s : State) :
    (judgeOffset k theta s).view M = s.view M := by
  refine view_le hM ?_
  simp only [judgeOffset, setDissent_view, view_tide, view_ite, foldl_view, ite_self, Nat.reduceOr]

/-- execWResp may change: tide, xl, ledg, cist, sump, pmon, out. -/
theorem execWResp_kept {M : Nat} (hM : 17263955970 ||| M = M) (k : Fin 8) (bytes : List Byte) (phase : Fin 32) (s : State) :
    Kept M s (execWResp k bytes phase s) := by
  refine Kept.le hM ?_
  unfold execWResp
  simp only [judgeOffset_view, missRound_view, onXl_view, view_ite, foldl_view, ite_self, Nat.reduceOr, kept_ite, keeps_ite, kept_next, keeps_ok, keeps_err, keeps_failed, keeps_later]

/-- execWitnessMissed may change: xl. -/
theorem execWitnessMissed_kept {M : Nat} (hM : 4096 ||| M = M) (k : Fin 8) (s : State) :
    Kept M s (execWitnessMissed k s) := by
  refine Kept.le hM ?_
  unfold execWitnessMissed
  simp only [missRound_view, view_ite, foldl_view, ite_self, Nat.reduceOr, kept_ite, keeps_ite, kept_next, keeps_ok, keeps_err, keeps_failed, keeps_later]

end Sys2Proof.Machine
end

