-- ==== Sys2Proof/Laws/KeepFabric.lean ====
section
/-! SUPPORT. What the operations of Machine/Fabric.lean may change: one lemma for each. -/

namespace Sys2Proof.Machine

/-- execFabricConfig may change: fab, ph, mbx, msix, pmon, out. -/
theorem execFabricConfig_kept {M : Nat} (hM : 17250656256 ||| M = M) (rq : Req) (s : State) :
    Kept M s (execFabricConfig rq s) := by
  refine Kept.le hM ?_
  unfold execFabricConfig
  refine serve_kept rfl _ _ (fun s => ?_) s
  simp only [onFab_view, view_ite, foldl_view, ite_self, Nat.reduceOr, kept_ite, keeps_ite, kept_next, keeps_ok, keeps_err, keeps_failed, keeps_later]

/-- execFabricStatus may change: ph, mbx, msix, pmon, out. -/
theorem execFabricStatus_kept {M : Nat} (hM : 17250648064 ||| M = M) (rq : Req) (s : State) :
    Kept M s (execFabricStatus rq s) := by
  refine Kept.le hM ?_
  unfold execFabricStatus
  refine serve_kept rfl _ _ (fun s => ?_) s
  simp only [view_ite, foldl_view, ite_self, Nat.reduceOr, kept_ite, keeps_ite, kept_next, keeps_ok, keeps_err, keeps_failed, keeps_later]

/-- execFabricRouteQuery may change: ph, mbx, msix, pmon, out. -/
theorem execFabricRouteQuery_kept {M : Nat} (hM : 17250648064 ||| M = M) (rq : Req) (s : State) :
    Kept M s (execFabricRouteQuery rq s) := by
  refine Kept.le hM ?_
  unfold execFabricRouteQuery
  refine serve_kept rfl _ _ (fun s => ?_) s
  simp only [view_ite, foldl_view, ite_self, Nat.reduceOr, kept_ite, keeps_ite, kept_next, keeps_ok, keeps_err, keeps_failed, keeps_later]

/-- rediscover may change: xl, fab. -/
theorem rediscover_view {M : Nat} (hM : 12288 ||| M = M) (s : State) :
    (rediscover s).view M = s.view M := by
  refine view_le hM ?_
  simp only [rediscover, floodAdjs_view, onFab_view, standAlone_view, startDiscovery_view, view_ite, foldl_view, ite_self, Nat.reduceOr]

/-- execFabricRediscover may change: xl, fab, ph, mbx, msix, pmon, out. -/
theorem execFabricRediscover_kept {M : Nat} (hM : 17250660352 ||| M = M) (rq : Req) (s : State) :
    Kept M s (execFabricRediscover rq s) := by
  refine Kept.le hM ?_
  unfold execFabricRediscover
  refine serve_kept rfl _ _ (fun s => ?_) s
  simp only [rediscover_view, view_ite, foldl_view, ite_self, Nat.reduceOr, kept_ite, keeps_ite, kept_next, keeps_ok, keeps_err, keeps_failed, keeps_later]

/-- execHailSend may change: xl. -/
theorem execHailSend_kept {M : Nat} (hM : 4096 ||| M = M) (s : State) :
    Kept M s (execHailSend s) := by
  refine Kept.le hM ?_
  unfold execHailSend
  repeat' (first | with_reducible rfl | simp only [sendByp_view, view_ite, foldl_view, ite_self, Nat.reduceOr, kept_ite, kept_next] | split | refine (foldl_view (fun s a => ?_) _ _).trans ?_ | (rename_i e; rw [fst_view e]) | (rename_i e _; rw [fst_view e]) | (rename_i e _ _; rw [fst_view e]))

/-- execHail may change: xl, fab, sump. -/
theorem execHail_kept {M : Nat} (hM : 16789504 ||| M = M) (k : Fin 8) (bytes : List Byte) (s : State) :
    Kept M s (execHail k bytes s) := by
  refine Kept.le hM ?_
  unfold execHail
  simp only [floodAdjs_view, onFab_view, raise_view, view_ite, foldl_view, ite_self, Nat.reduceOr, kept_ite, keeps_ite, kept_next, keeps_ok, keeps_err, keeps_failed, keeps_later]

/-- execRootElect may change: rsv, weir, xl, fab, shtl, mbx, msix, sump, pmon, out. -/
theorem execRootElect_kept {M : Nat} (hM : 17266932736 ||| M = M) (s : State) :
    Kept M s (execRootElect s) := by
  refine Kept.le hM ?_
  unfold execRootElect
  simp only [assignAll_view, checkInstalled_view, onFab_view, raise_view, view_ite, foldl_view, ite_self, Nat.reduceOr, kept_ite, keeps_ite, kept_next, keeps_ok, keeps_err, keeps_failed, keeps_later]

/-- execAdj may change: port, frames, strn, rsv, xl, fab, msix, host, sump, pmon, trace, out. -/
theorem execAdj_kept {M : Nat} (hM : 17408472360 ||| M = M) (k : Fin 8) (bytes : List Byte) (s : State) :
    Kept M s (execAdj k bytes s) := by
  refine Kept.le hM ?_
  unfold execAdj
  simp only [admitNew_view, onFab_view, relay_view, view_ite, foldl_view, ite_self, Nat.reduceOr, kept_ite, keeps_ite, kept_next, keeps_ok, keeps_err, keeps_failed, keeps_later]

/-- execAssign may change: xl, fab. -/
theorem execAssign_kept {M : Nat} (hM : 12288 ||| M = M) (k : Fin 8) (bytes : List Byte) (s : State) :
    Kept M s (execAssign k bytes s) := by
  refine Kept.le hM ?_
  unfold execAssign
  simp only [applyAssign_view, onFab_view, relay_view, view_ite, foldl_view, ite_self, Nat.reduceOr, kept_ite, keeps_ite, kept_next, keeps_ok, keeps_err, keeps_failed, keeps_later]

/-- execLsa may change: port, frames, strn, rsv, xl, fab, msix, host, pmon, trace, out. -/
theorem execLsa_kept {M : Nat} (hM : 17391695144 ||| M = M) (k : Fin 8) (bytes : List Byte) (s : State) :
    Kept M s (execLsa k bytes s) := by
  refine Kept.le hM ?_
  unfold execLsa
  simp only [converge_view, onFab_view, relay_view, view_ite, foldl_view, ite_self, Nat.reduceOr, kept_ite, keeps_ite, kept_next, keeps_ok, keeps_err, keeps_failed, keeps_later]

/-- execInstalledSend may change: rsv, weir, xl, fab, shtl, mbx, msix, sump, pmon, out. -/
theorem execInstalledSend_kept {M : Nat} (hM : 17266932736 ||| M = M) (s : State) :
    Kept M s (execInstalledSend s) := by
  refine Kept.le hM ?_
  unfold execInstalledSend
  simp only [checkInstalled_view, flood_view, onFab_view, view_ite, foldl_view, ite_self, Nat.reduceOr, kept_ite, keeps_ite, kept_next, keeps_ok, keeps_err, keeps_failed, keeps_later]

/-- execInstalled may change: rsv, weir, xl, fab, shtl, mbx, msix, sump, pmon, out. -/
theorem execInstalled_kept {M : Nat} (hM : 17266932736 ||| M = M) (k : Fin 8) (bytes : List Byte) (s : State) :
    Kept M s (execInstalled k bytes s) := by
  refine Kept.le hM ?_
  unfold execInstalled
  simp only [checkInstalled_view, onFab_view, relay_view, view_ite, foldl_view, ite_self, Nat.reduceOr, kept_ite, keeps_ite, kept_next, keeps_ok, keeps_err, keeps_failed, keeps_later]

/-- execConvergeLimit may change: rsv, weir, xl, fab, shtl, mbx, msix, sump, pmon, out. -/
theorem execConvergeLimit_kept {M : Nat} (hM : 17266932736 ||| M = M) (s : State) :
    Kept M s (execConvergeLimit s) := by
  refine Kept.le hM ?_
  unfold execConvergeLimit
  simp only [floodResume_view, view_ite, foldl_view, ite_self, Nat.reduceOr, kept_ite, keeps_ite, kept_next, keeps_ok, keeps_err, keeps_failed, keeps_later]

/-- execResume may change: rsv, weir, xl, fab, shtl, mbx, msix, sump, pmon, out. -/
theorem execResume_kept {M : Nat} (hM : 17266932736 ||| M = M) (k : Fin 8) (bytes : List Byte) (s : State) :
    Kept M s (execResume k bytes s) := by
  refine Kept.le hM ?_
  unfold execResume
  simp only [applyResume_view, onFab_view, relay_view, view_ite, foldl_view, ite_self, Nat.reduceOr, kept_ite, keeps_ite, kept_next, keeps_ok, keeps_err, keeps_failed, keeps_later]

/-- deliverFrame may change: port, frames, nextFrame, strn, rsv, fab, msix, host, pmon, trace, out. -/
theorem deliverFrame_view {M : Nat} (hM : 17391691112 ||| M = M) (m : Msg) (s : State) :
    (deliverFrame m s).view M = s.view M := by
  refine view_le hM ?_
  unfold deliverFrame
  (try simp only [onFab_view, originate_view, view_port, view_ite, foldl_view, ite_self, Nat.reduceOr]) <;> (repeat' split) <;> (try simp only [onFab_view, originate_view, view_port, view_ite, foldl_view, ite_self, Nat.reduceOr]) <;> (repeat' split) <;> (try simp only [onFab_view, originate_view, view_port, view_ite, foldl_view, ite_self, Nat.reduceOr])

/-- handOver may change: port, frames, nextFrame, strn, rsv, fab, msix, host, pmon, trace, out. -/
theorem handOver_view {M : Nat} (hM : 17391691112 ||| M = M) (m : Msg) (s : State) :
    (handOver m s).view M = s.view M := by
  refine view_le hM ?_
  simp only [handOver, deliverFrame_view, view_ite, foldl_view, ite_self, Nat.reduceOr]

/-- deliverRun may change: port, frames, nextFrame, strn, rsv, fab, msix, host, pmon, trace, out. -/
theorem deliverRun_view {M : Nat} (hM : 17391691112 ||| M = M) (key : Nat) (x0 : Nat) (x1 : Msg) (s : State) :
    (deliverRun key x0 x1 s).view M = s.view M := by
  refine view_le hM ?_
  induction x0 generalizing x1 s with
  | zero => rfl
  | succ n ih =>
    simp only [deliverRun]
    repeat' (first | with_reducible rfl | simp only [handOver_view, onFab_view, view_ite, foldl_view, ite_self, Nat.reduceOr, ih] | split | refine (foldl_view (fun s a => ?_) _ _).trans ?_ | (rename_i e; rw [fst_view e]) | (rename_i e _; rw [fst_view e]) | (rename_i e _ _; rw [fst_view e]))

/-- releaseGap may change: port, frames, nextFrame, strn, rsv, fab, msix, host, sump, pmon, trace, out. -/
theorem releaseGap_view {M : Nat} (hM : 17408468328 ||| M = M) (src vc : Nat) (s : State) :
    (releaseGap src vc s).view M = s.view M := by
  refine view_le hM ?_
  unfold releaseGap
  (try simp only [deliverRun_view, onFab_view, raise_view, view_ite, foldl_view, ite_self, Nat.reduceOr]) <;> (repeat' split) <;> (try simp only [deliverRun_view, onFab_view, raise_view, view_ite, foldl_view, ite_self, Nat.reduceOr]) <;> (repeat' split) <;> (try simp only [deliverRun_view, onFab_view, raise_view, view_ite, foldl_view, ite_self, Nat.reduceOr])

/-- deliverNumbered may change: port, frames, nextFrame, strn, rsv, fab, msix, host, sump, pmon, trace, out. -/
theorem deliverNumbered_view {M : Nat} (hM : 17408468328 ||| M = M) (m : Msg) (s : State) :
    (deliverNumbered m s).view M = s.view M := by
  refine view_le hM ?_
  unfold deliverNumbered
  (try simp only [deliverRun_view, onFab_view, releaseGap_view, view_ite, foldl_view, ite_self, Nat.reduceOr]) <;> (repeat' split) <;> (try simp only [deliverRun_view, onFab_view, releaseGap_view, view_ite, foldl_view, ite_self, Nat.reduceOr]) <;> (repeat' split) <;> (try simp only [deliverRun_view, onFab_view, releaseGap_view, view_ite, foldl_view, ite_self, Nat.reduceOr])

/-- deliver may change: port, frames, nextFrame, strn, rsv, fab, msix, host, sump, pmon, trace, out. -/
theorem deliver_view {M : Nat} (hM : 17408468328 ||| M = M) (m : Msg) (s : State) :
    (deliver m s).view M = s.view M := by
  refine view_le hM ?_
  simp only [deliver, deliverNumbered_view, handOver_view, view_ite, foldl_view, ite_self, Nat.reduceOr]

/-- transitOn may change: rsv, xl, fab. -/
theorem transitOn_view {M : Nat} (hM : 13312 ||| M = M) (m : Msg) (s : State) :
    (transitOn m s).view M = s.view M := by
  refine view_le hM ?_
  simp only [transitOn, handOn_view, onFab_view, view_ite, foldl_view, ite_self, Nat.reduceOr]

/-- routeMsg may change: port, frames, nextFrame, strn, rsv, xl, fab, msix, host, sump, pmon, trace, out. -/
theorem routeMsg_view {M : Nat} (hM : 17408472424 ||| M = M) (k : Nat) (m : Msg) (s : State) :
    (routeMsg k m s).view M = s.view M := by
  refine view_le hM ?_
  simp only [routeMsg, deliver_view, handOn_view, transitOn_view, view_ite, foldl_view, ite_self, Nat.reduceOr]

/-- takeReady may change: xl. -/
theorem takeReady_view {M : Nat} (hM : 4096 ||| M = M) (k v h : Nat) (s : State) :
    (takeReady k v h s).view M = s.view M := by
  refine view_le hM ?_
  simp only [takeReady, freeSlots_view, onXlQ_view, view_ite, foldl_view, ite_self, Nat.reduceOr]

/-- execFabricMessage may change: port, frames, nextFrame, strn, rsv, xl, fab, msix, host, sump, pmon, trace, out. -/
theorem execFabricMessage_kept {M : Nat} (hM : 17408472424 ||| M = M) (k : Fin 8) (vc : Fin 5) (half : Fin 2) (s : State) :
    Kept M s (execFabricMessage k vc half s) := by
  refine Kept.le hM ?_
  unfold execFabricMessage
  (try simp only [onFab_view, routeMsg_view, takeReady_view, view_ite, foldl_view, ite_self, Nat.reduceOr, kept_ite, keeps_ite, kept_next, keeps_ok, keeps_err, keeps_failed, keeps_later]) <;> (repeat' split) <;> (try simp only [onFab_view, routeMsg_view, takeReady_view, view_ite, foldl_view, ite_self, Nat.reduceOr, kept_ite, keeps_ite, kept_next, keeps_ok, keeps_err, keeps_failed, keeps_later]) <;> (repeat' split) <;> (try simp only [onFab_view, routeMsg_view, takeReady_view, view_ite, foldl_view, ite_self, Nat.reduceOr, kept_ite, keeps_ite, kept_next, keeps_ok, keeps_err, keeps_failed, keeps_later])

/-- execFabGap may change: port, frames, nextFrame, strn, rsv, fab, msix, host, sump, pmon, trace, out. -/
theorem execFabGap_kept {M : Nat} (hM : 17408468328 ||| M = M) (src : Fin 1024) (vc : Fin 5) (s : State) :
    Kept M s (execFabGap src vc s) := by
  refine Kept.le hM ?_
  unfold execFabGap
  simp only [releaseGap_view, view_ite, foldl_view, ite_self, Nat.reduceOr, kept_ite, keeps_ite, kept_next, keeps_ok, keeps_err, keeps_failed, keeps_later]

end Sys2Proof.Machine
end

