-- ==== Sys2Proof/Laws/KeepGuard.lean ====
section
/-! SUPPORT. What the operations of Machine/Guard.lean may change: one lemma for each. -/

namespace Sys2Proof.Machine

/-- onGuard may change: guard. -/
theorem onGuard_view {M : Nat} (hM : 4 ||| M = M) (f : Guard → Guard) (s : State) :
    (onGuard f s).view M = s.view M := by
  refine view_le hM ?_
  simp only [onGuard, view_guard, view_ite, foldl_view, ite_self, Nat.reduceOr]

/-- setBound may change: guard, ledg, cist, pmon, out. -/
theorem setBound_view {M : Nat} (hM : 17247174660 ||| M = M) (v : Nat) (cause : BoundCause) (s : State) :
    (setBound v cause s).view M = s.view M := by
  refine view_le hM ?_
  simp only [setBound, appendAll_view, onGuard_view, view_ite, foldl_view, ite_self, Nat.reduceOr]

/-- raiseBound may change: guard, ledg, cist, pmon, out. -/
theorem raiseBound_view {M : Nat} (hM : 17247174660 ||| M = M) (s : State) :
    (raiseBound s).view M = s.view M := by
  refine view_le hM ?_
  simp only [raiseBound, setBound_view, view_ite, foldl_view, ite_self, Nat.reduceOr]

/-- setVolt may change: guard, out. -/
theorem setVolt_view {M : Nat} (hM : 17179869188 ||| M = M) (v : Nat) (s : State) :
    (setVolt v s).view M = s.view M := by
  refine view_le hM ?_
  simp only [setVolt, emit_view, onGuard_view, view_ite, foldl_view, ite_self, Nat.reduceOr]

/-- setConflict may change: guard, sump. -/
theorem setConflict_view {M : Nat} (hM : 16777220 ||| M = M) (c : Bool) (s : State) :
    (setConflict c s).view M = s.view M := by
  refine view_le hM ?_
  simp only [setConflict, onGuard_view, raise_view, view_ite, foldl_view, ite_self, Nat.reduceOr]

/-- steer may change: guard, sump, out. -/
theorem steer_view {M : Nat} (hM : 17196646404 ||| M = M) (s : State) :
    (steer s).view M = s.view M := by
  refine view_le hM ?_
  simp only [steer, setConflict_view, setVolt_view, view_guard, view_ite, foldl_view, ite_self, Nat.reduceOr]

/-- raiseAside may change: sump. -/
theorem raiseAside_view {M : Nat} (hM : 16777216 ||| M = M) (before : BitVec 24) (s : State) :
    (raiseAside before s).view M = s.view M := by
  refine view_le hM ?_
  unfold raiseAside
  repeat' (first | with_reducible rfl | simp only [raise_view, view_ite, foldl_view, ite_self, Nat.reduceOr] | split | refine (foldl_view (fun s a => ?_) _ _).trans ?_ | (rename_i e; rw [fst_view e]) | (rename_i e _; rw [fst_view e]) | (rename_i e _ _; rw [fst_view e]))

/-- applyCfg may change: guard, ledg, cist, pmon, out. -/
theorem applyCfg_view {M : Nat} (hM : 17247174660 ||| M = M) (c : GuardCfg) (s : State) :
    (applyCfg c s).view M = s.view M := by
  refine view_le hM ?_
  simp only [applyCfg, onGuard_view, setBound_view, setVolt_view, view_ite, foldl_view, ite_self, Nat.reduceOr]

/-- applyCap may change: guard, sump. -/
theorem applyCap_view {M : Nat} (hM : 16777220 ||| M = M) (w : BitVec 16) (capFirst : Bool) (s : State) :
    (applyCap w capFirst s).view M = s.view M := by
  refine view_le hM ?_
  simp only [applyCap, onGuard_view, setConflict_view, view_ite, foldl_view, ite_self, Nat.reduceOr]

/-- takePending may change: guard, ledg, cist, sump, pmon, out. -/
theorem takePending_view {M : Nat} (hM : 17263951876 ||| M = M) (s : State) :
    (takePending s).view M = s.view M := by
  refine view_le hM ?_
  unfold takePending
  (try simp only [applyCap_view, applyCfg_view, onGuard_view, view_ite, foldl_view, ite_self, Nat.reduceOr]) <;> (repeat' split) <;> (try simp only [applyCap_view, applyCfg_view, onGuard_view, view_ite, foldl_view, ite_self, Nat.reduceOr]) <;> (repeat' split) <;> (try simp only [applyCap_view, applyCfg_view, onGuard_view, view_ite, foldl_view, ite_self, Nat.reduceOr])

/-- execSentinelRead may change: guard, ledg, cist, sump, pmon, out. -/
theorem execSentinelRead_kept {M : Nat} (hM : 17263951876 ||| M = M) (preds : List (BitVec 16)) (s : State) :
    Kept M s (execSentinelRead preds s) := by
  refine Kept.le hM ?_
  unfold execSentinelRead
  simp only [onGuard_view, raiseAside_view, raiseBound_view, setBound_view, steer_view, takePending_view, view_ite, foldl_view, ite_self, Nat.reduceOr, kept_ite, keeps_ite, kept_next, keeps_ok, keeps_err, keeps_failed, keeps_later]

/-- execLatBoundReturn may change: guard, ledg, cist, sump, pmon, out. -/
theorem execLatBoundReturn_kept {M : Nat} (hM : 17263951876 ||| M = M) (s : State) :
    Kept M s (execLatBoundReturn s) := by
  refine Kept.le hM ?_
  unfold execLatBoundReturn
  simp only [setBound_view, setConflict_view, view_ite, foldl_view, ite_self, Nat.reduceOr, kept_ite, keeps_ite, kept_next, keeps_ok, keeps_err, keeps_failed, keeps_later]

/-- execPowerReading may change: guard, sump, out. -/
theorem execPowerReading_kept {M : Nat} (hM : 17196646404 ||| M = M) (watts : Nat) (s : State) :
    Kept M s (execPowerReading watts s) := by
  refine Kept.le hM ?_
  unfold execPowerReading
  simp only [onGuard_view, raise_view, setConflict_view, setVolt_view, view_ite, foldl_view, ite_self, Nat.reduceOr, kept_ite, keeps_ite, kept_next, keeps_ok, keeps_err, keeps_failed, keeps_later]

/-- execGuardPmbus may change: guard, ledg, cist, sump, pmon, out. -/
theorem execGuardPmbus_kept {M : Nat} (hM : 17263951876 ||| M = M) (acked : Bool) (s : State) :
    Kept M s (execGuardPmbus acked s) := by
  refine Kept.le hM ?_
  unfold execGuardPmbus
  simp only [emit_view, onGuard_view, raise_view, setBound_view, view_ite, foldl_view, ite_self, Nat.reduceOr, kept_ite, keeps_ite, kept_next, keeps_ok, keeps_err, keeps_failed, keeps_later]

/-- execPowerGuardConfig may change: guard, ledg, cist, ph, mbx, msix, pmon, out. -/
theorem execPowerGuardConfig_kept {M : Nat} (hM : 17250844676 ||| M = M) (rq : Req) (s : State) :
    Kept M s (execPowerGuardConfig rq s) := by
  refine Kept.le hM ?_
  unfold execPowerGuardConfig
  refine serve_kept rfl _ _ (fun s => ?_) s
  simp only [applyCfg_view, onGuard_view, view_ite, foldl_view, ite_self, Nat.reduceOr, kept_ite, keeps_ite, kept_next, keeps_ok, keeps_err, keeps_failed, keeps_later]

/-- execPowerGuardStatus may change: ph, mbx, msix, pmon, out. -/
theorem execPowerGuardStatus_kept {M : Nat} (hM : 17250648064 ||| M = M) (rq : Req) (s : State) :
    Kept M s (execPowerGuardStatus rq s) := by
  refine Kept.le hM ?_
  unfold execPowerGuardStatus
  refine serve_kept rfl _ _ (fun s => ?_) s
  simp only [view_ite, foldl_view, ite_self, Nat.reduceOr, kept_ite, keeps_ite, kept_next, keeps_ok, keeps_err, keeps_failed, keeps_later]

/-- execPowerSetCap may change: guard, ph, mbx, msix, sump, pmon, out. -/
theorem execPowerSetCap_kept {M : Nat} (hM : 17267425284 ||| M = M) (rq : Req) (s : State) :
    Kept M s (execPowerSetCap rq s) := by
  refine Kept.le hM ?_
  unfold execPowerSetCap
  refine serve_kept rfl _ _ (fun s => ?_) s
  simp only [applyCap_view, onGuard_view, view_ite, foldl_view, ite_self, Nat.reduceOr, kept_ite, keeps_ite, kept_next, keeps_ok, keeps_err, keeps_failed, keeps_later]

end Sys2Proof.Machine
end

