-- ==== Sys2Proof/Laws/KeepRisk.lean ====
section
/-! SUPPORT. What the operations of Machine/Risk.lean may change: one lemma for each. -/

namespace Sys2Proof.Machine

/-- execRiskPartition may change: weir, ph, mbx, msix, pmon, out. -/
theorem execRiskPartition_kept {M : Nat} (hM : 17250650112 ||| M = M) (rq : Req) (s : State) :
    Kept M s (execRiskPartition rq s) := by
  refine Kept.le hM ?_
  unfold execRiskPartition
  refine serve_kept rfl _ _ (fun s => ?_) s
  simp only [onWeirB_view, view_ite, foldl_view, ite_self, Nat.reduceOr, kept_ite, keeps_ite, kept_next, keeps_ok, keeps_err, keeps_failed, keeps_later]

/-- execRiskBerthConfig may change: weir, ph, mbx, msix, pmon, out. -/
theorem execRiskBerthConfig_kept {M : Nat} (hM : 17250650112 ||| M = M) (rq : Req) (s : State) :
    Kept M s (execRiskBerthConfig rq s) := by
  refine Kept.le hM ?_
  unfold execRiskBerthConfig
  refine serve_kept rfl _ _ (fun s => ?_) s
  simp only [onWeirB_view, view_ite, foldl_view, ite_self, Nat.reduceOr, kept_ite, keeps_ite, kept_next, keeps_ok, keeps_err, keeps_failed, keeps_later]

/-- execRiskAccountWrite may change: weir, ph, mbx, msix, pmon, out. -/
theorem execRiskAccountWrite_kept {M : Nat} (hM : 17250650112 ||| M = M) (rq : Req) (s : State) :
    Kept M s (execRiskAccountWrite rq s) := by
  refine Kept.le hM ?_
  unfold execRiskAccountWrite
  refine serve_kept rfl _ _ (fun s => ?_) s
  (try simp only [onWeir_view, view_ite, foldl_view, ite_self, Nat.reduceOr, kept_ite, keeps_ite, kept_next, keeps_ok, keeps_err, keeps_failed, keeps_later]) <;> (repeat' split) <;> (try simp only [onWeir_view, view_ite, foldl_view, ite_self, Nat.reduceOr, kept_ite, keeps_ite, kept_next, keeps_ok, keeps_err, keeps_failed, keeps_later]) <;> (repeat' split) <;> (try simp only [onWeir_view, view_ite, foldl_view, ite_self, Nat.reduceOr, kept_ite, keeps_ite, kept_next, keeps_ok, keeps_err, keeps_failed, keeps_later])

/-- execRiskInstrumentWrite may change: weir, ph, mbx, msix, pmon, out. -/
theorem execRiskInstrumentWrite_kept {M : Nat} (hM : 17250650112 ||| M = M) (rq : Req) (s : State) :
    Kept M s (execRiskInstrumentWrite rq s) := by
  refine Kept.le hM ?_
  unfold execRiskInstrumentWrite
  refine serve_kept rfl _ _ (fun s => ?_) s
  (try simp only [onWeir_view, view_ite, foldl_view, ite_self, Nat.reduceOr, kept_ite, keeps_ite, kept_next, keeps_ok, keeps_err, keeps_failed, keeps_later]) <;> (repeat' split) <;> (try simp only [onWeir_view, view_ite, foldl_view, ite_self, Nat.reduceOr, kept_ite, keeps_ite, kept_next, keeps_ok, keeps_err, keeps_failed, keeps_later]) <;> (repeat' split) <;> (try simp only [onWeir_view, view_ite, foldl_view, ite_self, Nat.reduceOr, kept_ite, keeps_ite, kept_next, keeps_ok, keeps_err, keeps_failed, keeps_later])

/-- execRiskPositionWrite may change: weir, ph, mbx, msix, pmon, out. -/
theorem execRiskPositionWrite_kept {M : Nat} (hM : 17250650112 ||| M = M) (rq : Req) (s : State) :
    Kept M s (execRiskPositionWrite rq s) := by
  refine Kept.le hM ?_
  unfold execRiskPositionWrite
  refine serve_kept rfl _ _ (fun s => ?_) s
  (try simp only [onWeir_view, view_ite, foldl_view, ite_self, Nat.reduceOr, kept_ite, keeps_ite, kept_next, keeps_ok, keeps_err, keeps_failed, keeps_later]) <;> (repeat' split) <;> (try simp only [onWeir_view, view_ite, foldl_view, ite_self, Nat.reduceOr, kept_ite, keeps_ite, kept_next, keeps_ok, keeps_err, keeps_failed, keeps_later]) <;> (repeat' split) <;> (try simp only [onWeir_view, view_ite, foldl_view, ite_self, Nat.reduceOr, kept_ite, keeps_ite, kept_next, keeps_ok, keeps_err, keeps_failed, keeps_later])

/-- execRiskFirmWrite may change: weir, ph, mbx, msix, pmon, out. -/
theorem execRiskFirmWrite_kept {M : Nat} (hM : 17250650112 ||| M = M) (rq : Req) (s : State) :
    Kept M s (execRiskFirmWrite rq s) := by
  refine Kept.le hM ?_
  unfold execRiskFirmWrite
  refine serve_kept rfl _ _ (fun s => ?_) s
  simp only [onWeirB_view, view_ite, foldl_view, ite_self, Nat.reduceOr, kept_ite, keeps_ite, kept_next, keeps_ok, keeps_err, keeps_failed, keeps_later]

/-- execRiskRelease may change: port, frames, strn, fwd, rsv, weir, xl, fab, ledg, cist, ph, mbx, msix, host, pmon, trace, out. -/
theorem execRiskRelease_kept {M : Nat} (hM : 17393467176 ||| M = M) (rq : Req) (s : State) :
    Kept M s (execRiskRelease rq s) := by
  refine Kept.le hM ?_
  unfold execRiskRelease
  refine serve_kept rfl _ _ (fun s => ?_) s
  (try simp only [acceptHeld_view, refreshFull_view, rejectHeld_view, view_ite, foldl_view, ite_self, Nat.reduceOr, kept_ite, keeps_ite, kept_next, keeps_ok, keeps_err, keeps_failed, keeps_later]) <;> (repeat' split) <;> (try simp only [acceptHeld_view, refreshFull_view, rejectHeld_view, view_ite, foldl_view, ite_self, Nat.reduceOr, kept_ite, keeps_ite, kept_next, keeps_ok, keeps_err, keeps_failed, keeps_later]) <;> (repeat' split) <;> (try simp only [acceptHeld_view, refreshFull_view, rejectHeld_view, view_ite, foldl_view, ite_self, Nat.reduceOr, kept_ite, keeps_ite, kept_next, keeps_ok, keeps_err, keeps_failed, keeps_later])

/-- execRiskScenarioStage may change: weir, ph, mbx, msix, pmon, out. -/
theorem execRiskScenarioStage_kept {M : Nat} (hM : 17250650112 ||| M = M) (rq : Req) (s : State) :
    Kept M s (execRiskScenarioStage rq s) := by
  refine Kept.le hM ?_
  unfold execRiskScenarioStage
  refine serve_kept rfl _ _ (fun s => ?_) s
  simp only [onWeirB_view, view_ite, foldl_view, ite_self, Nat.reduceOr, kept_ite, keeps_ite, kept_next, keeps_ok, keeps_err, keeps_failed, keeps_later]

/-- execRiskWindlassRun may change: weir, ph, mbx, msix, pmon, out. -/
theorem execRiskWindlassRun_kept {M : Nat} (hM : 17250650112 ||| M = M) (rq : Req) (s : State) :
    Kept M s (execRiskWindlassRun rq s) := by
  refine Kept.le hM ?_
  unfold execRiskWindlassRun
  refine serve_kept rfl _ _ (fun s => ?_) s
  simp only [onWeir_view, onWeirB_view, startRun_view, view_ite, foldl_view, ite_self, Nat.reduceOr, kept_ite, keeps_ite, kept_next, keeps_ok, keeps_err, keeps_failed, keeps_later]

/-- execWindlassPeriod may change: weir, mbx, msix, pmon, out. -/
theorem execWindlassPeriod_kept {M : Nat} (hM : 17250125824 ||| M = M) (b : Fin 16) (s : State) :
    Kept M s (execWindlassPeriod b s) := by
  refine Kept.le hM ?_
  unfold execWindlassPeriod
  simp only [onWeir_view, startDue_view, view_ite, foldl_view, ite_self, Nat.reduceOr, kept_ite, keeps_ite, kept_next, keeps_ok, keeps_err, keeps_failed, keeps_later]

/-- execOutputTileDone may change: rsv, weir, xl, fab, shtl, mbx, msix, sump, pmon, out. -/
theorem execOutputTileDone_kept {M : Nat} (hM : 17266932736 ||| M = M) (i : Fin 4) (t : Fin 4) (residueOk : Bool) (s : State) :
    Kept M s (execOutputTileDone i t residueOk s) := by
  refine Kept.le hM ?_
  unfold execOutputTileDone
  (try simp only [computeTile_view, failTile_view, onRun_view, shtlGo_view, view_ite, foldl_view, ite_self, Nat.reduceOr, kept_ite, keeps_ite, kept_next, keeps_ok, keeps_err, keeps_failed, keeps_later]) <;> (repeat' split) <;> (try simp only [computeTile_view, failTile_view, onRun_view, shtlGo_view, view_ite, foldl_view, ite_self, Nat.reduceOr, kept_ite, keeps_ite, kept_next, keeps_ok, keeps_err, keeps_failed, keeps_later]) <;> (repeat' split) <;> (try simp only [computeTile_view, failTile_view, onRun_view, shtlGo_view, view_ite, foldl_view, ite_self, Nat.reduceOr, kept_ite, keeps_ite, kept_next, keeps_ok, keeps_err, keeps_failed, keeps_later])

/-- execExposureInstall may change: weir, mbx, msix, pmon, out. -/
theorem execExposureInstall_kept {M : Nat} (hM : 17250125824 ||| M = M) (s : State) :
    Kept M s (execExposureInstall s) := by
  refine Kept.le hM ?_
  unfold execExposureInstall
  (try simp only [endRun_view, install_view, startDue_view, view_ite, foldl_view, ite_self, Nat.reduceOr, kept_ite, keeps_ite, kept_next, keeps_ok, keeps_err, keeps_failed, keeps_later]) <;> (repeat' split) <;> (try simp only [endRun_view, install_view, startDue_view, view_ite, foldl_view, ite_self, Nat.reduceOr, kept_ite, keeps_ite, kept_next, keeps_ok, keeps_err, keeps_failed, keeps_later]) <;> (repeat' split) <;> (try simp only [endRun_view, install_view, startDue_view, view_ite, foldl_view, ite_self, Nat.reduceOr, kept_ite, keeps_ite, kept_next, keeps_ok, keeps_err, keeps_failed, keeps_later])

/-- execWindTileFail may change: rsv, weir, xl, fab, shtl, mbx, msix, sump, pmon, out. -/
theorem execWindTileFail_kept {M : Nat} (hM : 17266932736 ||| M = M) (t : Fin 4) (s : State) :
    Kept M s (execWindTileFail t s) := by
  refine Kept.le hM ?_
  unfold execWindTileFail
  simp only [failTile_view, shtlGo_view, view_ite, foldl_view, ite_self, Nat.reduceOr, kept_ite, keeps_ite, kept_next, keeps_ok, keeps_err, keeps_failed, keeps_later]

/-- poisonWay may change: weir. -/
theorem poisonWay_view {M : Nat} (hM : 2048 ||| M = M) (dir : WeirDir) (way : Nat) (s : State) :
    (poisonWay dir way s).view M = s.view M := by
  refine view_le hM ?_
  simp only [poisonWay, onWeir_view, view_ite, foldl_view, ite_self, Nat.reduceOr]

/-- execDirectoryFlushing may change: weir, sump. -/
theorem execDirectoryFlushing_kept {M : Nat} (hM : 16779264 ||| M = M) (dir : WeirDir) (way : Nat) (err : EccErr) (s : State) :
    Kept M s (execDirectoryFlushing dir way err s) := by
  refine Kept.le hM ?_
  unfold execDirectoryFlushing
  (try simp only [onWeir_view, poisonWay_view, raise_view, view_ite, foldl_view, ite_self, Nat.reduceOr, kept_ite, keeps_ite, kept_next, keeps_ok, keeps_err, keeps_failed, keeps_later]) <;> (repeat' split) <;> (try simp only [onWeir_view, poisonWay_view, raise_view, view_ite, foldl_view, ite_self, Nat.reduceOr, kept_ite, keeps_ite, kept_next, keeps_ok, keeps_err, keeps_failed, keeps_later]) <;> (repeat' split) <;> (try simp only [onWeir_view, poisonWay_view, raise_view, view_ite, foldl_view, ite_self, Nat.reduceOr, kept_ite, keeps_ite, kept_next, keeps_ok, keeps_err, keeps_failed, keeps_later])

/-- execRiskStatus may change: ph, mbx, msix, pmon, out. -/
theorem execRiskStatus_kept {M : Nat} (hM : 17250648064 ||| M = M) (rq : Req) (s : State) :
    Kept M s (execRiskStatus rq s) := by
  refine Kept.le hM ?_
  unfold execRiskStatus
  refine serve_kept rfl _ _ (fun s => ?_) s
  simp only [view_ite, foldl_view, ite_self, Nat.reduceOr, kept_ite, keeps_ite, kept_next, keeps_ok, keeps_err, keeps_failed, keeps_later]

end Sys2Proof.Machine
end

