-- ==== Sys2Proof/Laws/KeepPhOps.lean ====
section
/-! SUPPORT. What the operations of Machine/PhOps.lean may change: one lemma for each. -/

namespace Sys2Proof.Machine

/-- onPh may change: ph. -/
theorem onPh_view {M : Nat} (hM : 524288 ||| M = M) (f : Ph → Ph) (s : State) :
    (onPh f s).view M = s.view M := by
  refine view_le hM ?_
  simp only [onPh, view_ph, view_ite, foldl_view, ite_self, Nat.reduceOr]

/-- writeFlash may change: fuse. -/
theorem writeFlash_view {M : Nat} (hM : 4194304 ||| M = M) (off : Nat) (bs : List Byte) (s : State) :
    (writeFlash off bs s).view M = s.view M := by
  refine view_le hM ?_
  simp only [writeFlash, view_fuse, view_ite, foldl_view, ite_self, Nat.reduceOr]

/-- writeBootControl may change: fuse. -/
theorem writeBootControl_view {M : Nat} (hM : 4194304 ||| M = M) (preferred tried : Nat) (s : State) :
    (writeBootControl preferred tried s).view M = s.view M := by
  refine view_le hM ?_
  simp only [writeBootControl, writeFlash_view, view_ite, foldl_view, ite_self, Nat.reduceOr]

/-- dropRequests may change: mbx. -/
theorem dropRequests_view {M : Nat} (hM : 1048576 ||| M = M) (s : State) :
    (dropRequests s).view M = s.view M := by
  refine view_le hM ?_
  simp only [dropRequests, view_mbx, view_ite, foldl_view, ite_self, Nat.reduceOr]

/-- restartPumphouse may change: ph, mbx, sump, trace. -/
theorem restartPumphouse_view {M : Nat} (hM : 152567808 ||| M = M) (s : State) :
    (restartPumphouse s).view M = s.view M := by
  refine view_le hM ?_
  simp only [restartPumphouse, dropRequests_view, onPh_view, onTrace_view, raise_view, view_ite, foldl_view, ite_self, Nat.reduceOr]

/-- State.setBus may change: ph. -/
theorem State.setBus_view {M : Nat} (hM : 524288 ||| M = M) (s : State) (b : Nat) (v : I2cBus) :
    (State.setBus s b v).view M = s.view M := by
  refine view_le hM ?_
  simp only [State.setBus, onPh_view, view_ite, foldl_view, ite_self, Nat.reduceOr]

/-- endTxn may change: ph, mbx, msix, pmon, out. -/
theorem endTxn_view {M : Nat} (hM : 17250648064 ||| M = M) (b : Nat) (st : Status) (payload : List Byte) (s : State) :
    (endTxn b st payload s).view M = s.view M := by
  refine view_le hM ?_
  unfold endTxn
  (try simp only [State.setBus_view, finishOpt_view, view_ite, foldl_view, ite_self, Nat.reduceOr]) <;> (repeat' split) <;> (try simp only [State.setBus_view, finishOpt_view, view_ite, foldl_view, ite_self, Nat.reduceOr]) <;> (repeat' split) <;> (try simp only [State.setBus_view, finishOpt_view, view_ite, foldl_view, ite_self, Nat.reduceOr])

/-- runTxn may change: ph, mbx, msix, pmon, out. -/
theorem runTxn_view {M : Nat} (hM : 17250648064 ||| M = M) (b : Nat) (env : I2cEnd) (s : State) :
    (runTxn b env s).view M = s.view M := by
  refine view_le hM ?_
  unfold runTxn
  (try simp only [State.setBus_view, emit_view, endTxn_view, onPh_view, view_ite, foldl_view, ite_self, Nat.reduceOr]) <;> (repeat' split) <;> (try simp only [State.setBus_view, emit_view, endTxn_view, onPh_view, view_ite, foldl_view, ite_self, Nat.reduceOr]) <;> (repeat' split) <;> (try simp only [State.setBus_view, emit_view, endTxn_view, onPh_view, view_ite, foldl_view, ite_self, Nat.reduceOr])

end Sys2Proof.Machine
end

