-- ==== Sys2Proof/Laws/KeepPumphouse.lean ====
section
/-! SUPPORT. What the operations of Machine/Pumphouse.lean may change: one lemma for each. -/

namespace Sys2Proof.Machine

/-- execSystemPing may change: ph, mbx, msix, pmon, out. -/
theorem execSystemPing_kept {M : Nat} (hM : 17250648064 ||| M = M) (rq : Req) (s : State) :
    Kept M s (execSystemPing rq s) := by
  refine Kept.le hM ?_
  unfold execSystemPing
  refine serve_kept rfl _ _ (fun s => ?_) s
  simp only [view_ite, foldl_view, ite_self, Nat.reduceOr, kept_ite, keeps_ite, kept_next, keeps_ok, keeps_err, keeps_failed, keeps_later]

/-- execSystemInfo may change: ph, mbx, msix, pmon, out. -/
theorem execSystemInfo_kept {M : Nat} (hM : 17250648064 ||| M = M) (rq : Req) (s : State) :
    Kept M s (execSystemInfo rq s) := by
  refine Kept.le hM ?_
  unfold execSystemInfo
  refine serve_kept rfl _ _ (fun s => ?_) s
  simp only [view_ite, foldl_view, ite_self, Nat.reduceOr, kept_ite, keeps_ite, kept_next, keeps_ok, keeps_err, keeps_failed, keeps_later]

/-- execSystemFwStage may change: ph, mbx, msix, pmon, out. -/
theorem execSystemFwStage_kept {M : Nat} (hM : 17250648064 ||| M = M) (rq : Req) (s : State) :
    Kept M s (execSystemFwStage rq s) := by
  refine Kept.le hM ?_
  unfold execSystemFwStage
  refine serve_kept rfl _ _ (fun s => ?_) s
  simp only [onPh_view, view_ite, foldl_view, ite_self, Nat.reduceOr, kept_ite, keeps_ite, kept_next, keeps_ok, keeps_err, keeps_failed, keeps_later]

/-- commitImage may change: fuse. -/
theorem commitImage_view {M : Nat} (hM : 4194304 ||| M = M) (flashOk : Bool) (s : State) :
    (commitImage flashOk s).view M = s.view M := by
  refine view_le hM ?_
  simp only [commitImage, writeFlash_view, view_fuse, view_ite, foldl_view, ite_self, Nat.reduceOr]

/-- preferNew may change: fuse. -/
theorem preferNew_view {M : Nat} (hM : 4194304 ||| M = M) (lock : Bool) (s : State) :
    (preferNew lock s).view M = s.view M := by
  refine view_le hM ?_
  simp only [preferNew, writeBootControl_view, view_fuse, view_ite, foldl_view, ite_self, Nat.reduceOr]

/-- execSystemFwCommit may change: ph, mbx, msix, fuse, sump, pmon, trace, out. -/
theorem execSystemFwCommit_kept {M : Nat} (hM : 17405837312 ||| M = M) (rq : Req) (flashOk : Bool) (s : State) :
    Kept M s (execSystemFwCommit rq flashOk s) := by
  refine Kept.le hM ?_
  unfold execSystemFwCommit
  have h : (serve (cmdH 0x0104 4) rq (fun s =>
      if !commitOk rq s then .err .badParam
      else if !flashOk then .failed (commitImage false s) .hwFault []
      else .ok (preferNew (rq.u8 0 == 1) (commitImage true s)) []) s).view 17405837312 = s.view 17405837312 := by
    refine (serve_kept (M := 17405837312) rfl _ _ (fun s => ?_) s).agrees _ rfl
    simp only [preferNew_view, commitImage_view, keeps_ite, keeps_ok, keeps_err, keeps_failed, ite_self, Nat.reduceOr]
  rw [kept_next, view_ite, restartPumphouse_view rfl, h, ite_self]

/-- execSystemRestart may change: ph, mbx, msix, sump, pmon, trace, out. -/
theorem execSystemRestart_kept {M : Nat} (hM : 17401643008 ||| M = M) (rq : Req) (s : State) :
    Kept M s (execSystemRestart rq s) := by
  refine Kept.le hM ?_
  unfold execSystemRestart
  have h : (serve (cmdH 0x0105 4) rq (fun s => if rq.u32 0 = 0x52455354 then .ok s [] else .err .badParam) s).view 17401643008
      = s.view 17401643008 := by
    refine (serve_kept (M := 17401643008) rfl _ _ (fun s => ?_) s).agrees _ rfl
    split <;> trivial
  rw [kept_next, view_ite, restartPumphouse_view rfl, h, ite_self]

/-- execSystemI2c may change: ph, mbx, msix, pmon, out. -/
theorem execSystemI2c_kept {M : Nat} (hM : 17250648064 ||| M = M) (rq : Req) (env : I2cEnd) (s : State) :
    Kept M s (execSystemI2c rq env s) := by
  refine Kept.le hM ?_
  unfold execSystemI2c
  refine serve_kept rfl _ _ (fun s => ?_) s
  simp only [State.setBus_view, runTxn_view, view_ite, foldl_view, ite_self, Nat.reduceOr, kept_ite, keeps_ite, kept_next, keeps_ok, keeps_err, keeps_failed, keeps_later]

/-- execUnsupportedOpcode may change: ph, mbx, msix, pmon, out. -/
theorem execUnsupportedOpcode_kept {M : Nat} (hM : 17250648064 ||| M = M) (rq : Req) (code : BitVec 16) (s : State) :
    Kept M s (execUnsupportedOpcode rq code s) := by
  refine Kept.le hM ?_
  unfold execUnsupportedOpcode
  simp only [accept_view, overrun_view, respond_view, view_ite, foldl_view, ite_self, Nat.reduceOr, kept_ite, keeps_ite, kept_next, keeps_ok, keeps_err, keeps_failed, keeps_later]

/-- execMbxOverrun may change: ph, mbx, pmon. -/
theorem execMbxOverrun_kept {M : Nat} (hM : 68681728 ||| M = M) (fn : Fin 17) (s : State) :
    Kept M s (execMbxOverrun fn s) := by
  refine Kept.le hM ?_
  unfold execMbxOverrun
  simp only [overrun_view, view_ite, foldl_view, ite_self, Nat.reduceOr, kept_ite, keeps_ite, kept_next, keeps_ok, keeps_err, keeps_failed, keeps_later]

/-- execMbxEvtConsWrite may change: mbx, pmon. -/
theorem execMbxEvtConsWrite_kept {M : Nat} (hM : 68157440 ||| M = M) (fn : Fin 17) (v : BitVec 16) (s : State) :
    Kept M s (execMbxEvtConsWrite fn v s) := by
  refine Kept.le hM ?_
  unfold execMbxEvtConsWrite
  simp only [State.setMbx_view, mmio_view, view_ite, foldl_view, ite_self, Nat.reduceOr, kept_ite, keeps_ite, kept_next, keeps_ok, keeps_err, keeps_failed, keeps_later]

/-- execMbxEvtLostRead may change: mbx, out. -/
theorem execMbxEvtLostRead_kept {M : Nat} (hM : 17180917760 ||| M = M) (fn : Fin 17) (s : State) :
    Kept M s (execMbxEvtLostRead fn s) := by
  refine Kept.le hM ?_
  unfold execMbxEvtLostRead
  split
  · rw [kept_next]
  · rw [kept_next, emit_view rfl]
    exact State.setMbx_view rfl s fn.val _

/-- execBoot may change: ph. -/
theorem execBoot_kept {M : Nat} (hM : 524288 ||| M = M) (s : State) :
    Kept M s (execBoot s) := by
  refine Kept.le hM ?_
  unfold execBoot
  (try simp only [onPh_view, view_ite, foldl_view, ite_self, Nat.reduceOr, kept_ite, keeps_ite, kept_next, keeps_ok, keeps_err, keeps_failed, keeps_later]) <;> (repeat' split) <;> (try simp only [onPh_view, view_ite, foldl_view, ite_self, Nat.reduceOr, kept_ite, keeps_ite, kept_next, keeps_ok, keeps_err, keeps_failed, keeps_later]) <;> (repeat' split) <;> (try simp only [onPh_view, view_ite, foldl_view, ite_self, Nat.reduceOr, kept_ite, keeps_ite, kept_next, keeps_ok, keeps_err, keeps_failed, keeps_later])

/-- execSlotFallback may change: ph, fuse, sump. -/
theorem execSlotFallback_kept {M : Nat} (hM : 21495808 ||| M = M) (s : State) :
    Kept M s (execSlotFallback s) := by
  refine Kept.le hM ?_
  unfold execSlotFallback
  simp only [onPh_view, raise_view, writeBootControl_view, view_fuse, view_ite, foldl_view, ite_self, Nat.reduceOr, kept_ite, keeps_ite, kept_next, keeps_ok, keeps_err, keeps_failed, keeps_later]

/-- retireRun may change: ph, pmon, trace. -/
theorem retireRun_view {M : Nat} (hM : 201850880 ||| M = M) (run : CoreRun) (s : State) :
    (retireRun run s).view M = s.view M := by
  refine view_le hM ?_
  simp only [retireRun, count_view, onPh_view, onTrace_view, view_ite, foldl_view, ite_self, Nat.reduceOr]

/-- execHeartbeat may change: ph, pmon, trace. -/
theorem execHeartbeat_kept {M : Nat} (hM : 201850880 ||| M = M) (run : CoreRun) (s : State) :
    Kept M s (execHeartbeat run s) := by
  refine Kept.le hM ?_
  unfold execHeartbeat
  simp only [onPh_view, retireRun_view, view_ite, foldl_view, ite_self, Nat.reduceOr, kept_ite, keeps_ite, kept_next, keeps_ok, keeps_err, keeps_failed, keeps_later]

/-- execWatchdog may change: ph, mbx, sump, trace. -/
theorem execWatchdog_kept {M : Nat} (hM : 152567808 ||| M = M) (s : State) :
    Kept M s (execWatchdog s) := by
  refine Kept.le hM ?_
  unfold execWatchdog
  simp only [restartPumphouse_view, view_ite, foldl_view, ite_self, Nat.reduceOr, kept_ite, keeps_ite, kept_next, keeps_ok, keeps_err, keeps_failed, keeps_later]

/-- execPhTrap may change: ph, mbx, sump, trace. -/
theorem execPhTrap_kept {M : Nat} (hM : 152567808 ||| M = M) (cause pc : BitVec 64) (s : State) :
    Kept M s (execPhTrap cause pc s) := by
  refine Kept.le hM ?_
  unfold execPhTrap
  simp only [onPh_view, onTrace_view, raise_view, restartPumphouse_view, view_ite, foldl_view, ite_self, Nat.reduceOr, kept_ite, keeps_ite, kept_next, keeps_ok, keeps_err, keeps_failed, keeps_later]

/-- execPumphouseIdle may change: ph, trace. -/
theorem execPumphouseIdle_kept {M : Nat} (hM : 134742016 ||| M = M) (pc : BitVec 64) (s : State) :
    Kept M s (execPumphouseIdle pc s) := by
  refine Kept.le hM ?_
  unfold execPumphouseIdle
  simp only [onPh_view, onTrace_view, view_ite, foldl_view, ite_self, Nat.reduceOr, kept_ite, keeps_ite, kept_next, keeps_ok, keeps_err, keeps_failed, keeps_later]

/-- execPumphouseWake may change: ph, pmon, trace. -/
theorem execPumphouseWake_kept {M : Nat} (hM : 201850880 ||| M = M) (pc : BitVec 64) (s : State) :
    Kept M s (execPumphouseWake pc s) := by
  refine Kept.le hM ?_
  unfold execPumphouseWake
  simp only [count_view, onPh_view, onTrace_view, view_ite, foldl_view, ite_self, Nat.reduceOr, kept_ite, keeps_ite, kept_next, keeps_ok, keeps_err, keeps_failed, keeps_later]

/-- execArbitrationLost may change: ph, mbx, msix, pmon, out. -/
theorem execArbitrationLost_kept {M : Nat} (hM : 17250648064 ||| M = M) (bus : Fin 2) (s : State) :
    Kept M s (execArbitrationLost bus s) := by
  refine Kept.le hM ?_
  unfold execArbitrationLost
  simp only [State.setBus_view, endTxn_view, view_ite, foldl_view, ite_self, Nat.reduceOr, kept_ite, keeps_ite, kept_next, keeps_ok, keeps_err, keeps_failed, keeps_later]

/-- execArbitrationBackoffEnd may change: ph, mbx, msix, pmon, out. -/
theorem execArbitrationBackoffEnd_kept {M : Nat} (hM : 17250648064 ||| M = M) (bus : Fin 2) (readBack : List Byte) (env : I2cEnd) (s : State) :
    Kept M s (execArbitrationBackoffEnd bus readBack env s) := by
  refine Kept.le hM ?_
  unfold execArbitrationBackoffEnd
  (try simp only [State.setBus_view, endTxn_view, runTxn_view, view_ite, foldl_view, ite_self, Nat.reduceOr, kept_ite, keeps_ite, kept_next, keeps_ok, keeps_err, keeps_failed, keeps_later]) <;> (repeat' split) <;> (try simp only [State.setBus_view, endTxn_view, runTxn_view, view_ite, foldl_view, ite_self, Nat.reduceOr, kept_ite, keeps_ite, kept_next, keeps_ok, keeps_err, keeps_failed, keeps_later]) <;> (repeat' split) <;> (try simp only [State.setBus_view, endTxn_view, runTxn_view, view_ite, foldl_view, ite_self, Nat.reduceOr, kept_ite, keeps_ite, kept_next, keeps_ok, keeps_err, keeps_failed, keeps_later])

/-- execI2cBusStuck may change: ph, mbx, msix, pmon, out. -/
theorem execI2cBusStuck_kept {M : Nat} (hM : 17250648064 ||| M = M) (bus : Fin 2) (s : State) :
    Kept M s (execI2cBusStuck bus s) := by
  refine Kept.le hM ?_
  unfold execI2cBusStuck
  simp only [endTxn_view, onPh_view, view_ite, foldl_view, ite_self, Nat.reduceOr, kept_ite, keeps_ite, kept_next, keeps_ok, keeps_err, keeps_failed, keeps_later]

/-- execI2cNakRetry may change: ph, mbx, msix, pmon, out. -/
theorem execI2cNakRetry_kept {M : Nat} (hM : 17250648064 ||| M = M) (bus : Fin 2) (env : I2cEnd) (s : State) :
    Kept M s (execI2cNakRetry bus env s) := by
  refine Kept.le hM ?_
  unfold execI2cNakRetry
  simp only [runTxn_view, view_ite, foldl_view, ite_self, Nat.reduceOr, kept_ite, keeps_ite, kept_next, keeps_ok, keeps_err, keeps_failed, keeps_later]

end Sys2Proof.Machine
end

