-- ==== Sys2Proof/Laws/KeepSumpOps.lean ====
section
/-! SUPPORT. What the operations of Machine/SumpOps.lean may change: one lemma for each. -/

namespace Sys2Proof.Machine

/-- onSump may change: sump. -/
theorem onSump_view {M : Nat} (hM : 16777216 ||| M = M) (g : Sump → Sump) (s : State) :
    (onSump g s).view M = s.view M := by
  refine view_le hM ?_
  simp only [onSump, view_sump, view_ite, foldl_view, ite_self, Nat.reduceOr]

/-- stompSafe may change: port, frames, weir, pmon. -/
theorem stompSafe_view {M : Nat} (hM : 67110952 ||| M = M) (p f q : Nat) (s : State) :
    (stompSafe p f q s).view M = s.view M := by
  refine view_le hM ?_
  simp only [stompSafe, count_view, onFrame_view, onPort_view, reverseFrame_view, view_ite, foldl_view, ite_self, Nat.reduceOr]

/-- blankPort may change: port, frames, rsv, weir, pmon. -/
theorem blankPort_view {M : Nat} (hM : 67111976 ||| M = M) (delay p : Nat) (s : State) :
    (blankPort delay p s).view M = s.view M := by
  refine view_le hM ?_
  unfold blankPort
  (try simp only [onEgress_view, stompSafe_view, view_ite, foldl_view, ite_self, Nat.reduceOr]) <;> (repeat' split) <;> (try simp only [onEgress_view, stompSafe_view, view_ite, foldl_view, ite_self, Nat.reduceOr]) <;> (repeat' split) <;> (try simp only [onEgress_view, stompSafe_view, view_ite, foldl_view, ite_self, Nat.reduceOr])

/-- enterSafe may change: port, frames, rsv, weir, sump, pmon, free. -/
theorem enterSafe_view {M : Nat} (hM : 34443627560 ||| M = M) (all : Bool) (s : State) :
    (enterSafe all s).view M = s.view M := by
  refine view_le hM ?_
  unfold enterSafe
  repeat' (first | with_reducible rfl | simp only [blankPort_view, drawn_view, onSump_view, view_ite, foldl_view, ite_self, Nat.reduceOr] | split | refine (foldl_view (fun s a => ?_) _ _).trans ?_ | (rename_i e; rw [fst_view e]) | (rename_i e _; rw [fst_view e]) | (rename_i e _ _; rw [fst_view e]))

/-- flushCopy may change: port, frames, strn, rsv, weir, msix, host, sump, pmon, trace, out. -/
theorem flushCopy_view {M : Nat} (hM : 17408462120 ||| M = M) (q f : Nat) (s : State) :
    (flushCopy q f s).view M = s.view M := by
  refine view_le hM ?_
  simp only [flushCopy, leaveQueue_view, onFrame_view, onSump_view, reverseFrame_view, settleFrame_view, view_ite, foldl_view, ite_self, Nat.reduceOr]

/-- flushHalf may change: port, frames, strn, rsv, weir, xl, msix, host, sump, pmon, trace, out. -/
theorem flushHalf_view {M : Nat} (hM : 17408466216 ||| M = M) (k v h : Nat) (s : State) :
    (flushHalf k v h s).view M = s.view M := by
  refine view_le hM ?_
  unfold flushHalf
  repeat' (first | with_reducible rfl | simp only [flushCopy_view, onSump_view, onXlQ_view, view_out, view_ite, foldl_view, ite_self, Nat.reduceOr] | split | refine (foldl_view (fun s a => ?_) _ _).trans ?_ | (rename_i e; rw [fst_view e]) | (rename_i e _; rw [fst_view e]) | (rename_i e _ _; rw [fst_view e]))

/-- flushStopped may change: port, frames, strn, rsv, weir, xl, msix, host, sump, pmon, trace, out. -/
theorem flushStopped_view {M : Nat} (hM : 17408466216 ||| M = M) (s : State) :
    (flushStopped s).view M = s.view M := by
  refine view_le hM ?_
  unfold flushStopped
  repeat' (first | with_reducible rfl | simp only [flushCopy_view, flushHalf_view, view_ite, foldl_view, ite_self, Nat.reduceOr] | split | refine (foldl_view (fun s a => ?_) _ _).trans ?_ | (rename_i e; rw [fst_view e]) | (rename_i e _; rw [fst_view e]) | (rename_i e _ _; rw [fst_view e]))

/-- trapPumphouse may change: ph. -/
theorem trapPumphouse_view {M : Nat} (hM : 524288 ||| M = M) (s : State) :
    (trapPumphouse s).view M = s.view M := by
  refine view_le hM ?_
  simp only [trapPumphouse, onPh_view, view_ite, foldl_view, ite_self, Nat.reduceOr]

/-- react may change: port, frames, rsv, weir, ph, msix, sump, pwr, pmon, out, free. -/
theorem react_view {M : Nat} (hM : 51659672616 ||| M = M) (l : SumpLine) (bits had : Nat) (all : Bool) (s : State) :
    (react l bits had all s).view M = s.view M := by
  refine view_le hM ?_
  simp only [react, enterSafe_view, onSump_view, sendMsix_view, trapPumphouse_view, view_pwr, view_ite, foldl_view, ite_self, Nat.reduceOr]

/-- noteEvent may change: sump, pmon. -/
theorem noteEvent_view {M : Nat} (hM : 83886080 ||| M = M) (l : SumpLine) (s : State) :
    (noteEvent l s).view M = s.view M := by
  refine view_le hM ?_
  simp only [noteEvent, count_view, onSump_view, view_ite, foldl_view, ite_self, Nat.reduceOr]

/-- captureFirst may change: sump. -/
theorem captureFirst_view {M : Nat} (hM : 16777216 ||| M = M) (l : SumpLine) (bits : Nat) (s : State) :
    (captureFirst l bits s).view M = s.view M := by
  refine view_le hM ?_
  simp only [captureFirst, onSump_view, view_ite, foldl_view, ite_self, Nat.reduceOr]

/-- mergeEvent may change: sump. -/
theorem mergeEvent_view {M : Nat} (hM : 16777216 ||| M = M) (bits : Nat) (s : State) :
    (mergeEvent bits s).view M = s.view M := by
  refine view_le hM ?_
  simp only [mergeEvent, onSump_view, view_ite, foldl_view, ite_self, Nat.reduceOr]

/-- latchLine may change: port, frames, rsv, weir, ph, msix, sump, pwr, pmon, out, free. -/
theorem latchLine_view {M : Nat} (hM : 51659672616 ||| M = M) (l : SumpLine) (s : State) :
    (latchLine l s).view M = s.view M := by
  refine view_le hM ?_
  simp only [latchLine, captureFirst_view, mergeEvent_view, noteEvent_view, react_view, view_ite, foldl_view, ite_self, Nat.reduceOr]

/-- latchAll may change: port, frames, rsv, weir, ph, msix, sump, pwr, pmon, out, free. -/
theorem latchAll_view {M : Nat} (hM : 51659672616 ||| M = M) (s : State) :
    (latchAll s).view M = s.view M := by
  refine view_le hM ?_
  unfold latchAll
  repeat' (first | with_reducible rfl | simp only [latchLine_view, onSump_view, view_ite, foldl_view, ite_self, Nat.reduceOr] | split | refine (foldl_view (fun s a => ?_) _ _).trans ?_ | (rename_i e; rw [fst_view e]) | (rename_i e _; rw [fst_view e]) | (rename_i e _ _; rw [fst_view e]))

/-- resetBlock may change: port, frames, strn, rsv, xl, fab, ledg, cist, ddr, ph, mbx, msix, host, sump, pmon, trace, out. -/
theorem resetBlock_view {M : Nat} (hM : 17410503976 ||| M = M) (src unit : Nat) (s : State) :
    (resetBlock src unit s).view M = s.view M := by
  refine view_le hM ?_
  simp only [resetBlock, disableLink_view, enableLink_view, pcsReset_view, relinkBay_view, restartPumphouse_view, startRecovery_view, view_ite, foldl_view, ite_self, Nat.reduceOr]

end Sys2Proof.Machine
end

