-- ==== Sys2Proof/Laws/KeepTest.lean ====
section
/-! SUPPORT. What the operations of Machine/Test.lean may change: one lemma for each. -/

namespace Sys2Proof.Machine

/-- onLane may change: lane. -/
theorem onLane_view {M : Nat} (hM : 268435456 ||| M = M) (l : Nat) (g : Lane → Lane) (s : State) :
    (onLane l g s).view M = s.view M := by
  refine view_le hM ?_
  simp only [onLane, view_lane, view_ite, foldl_view, ite_self, Nat.reduceOr]

/-- countBits may change: lane. -/
theorem countBits_view {M : Nat} (hM : 268435456 ||| M = M) (l : Nat) (s : State) :
    (countBits l s).view M = s.view M := by
  refine view_le hM ?_
  simp only [countBits, onLane_view, view_ite, foldl_view, ite_self, Nat.reduceOr]

/-- countErrors may change: lane. -/
theorem countErrors_view {M : Nat} (hM : 268435456 ||| M = M) (l errors : Nat) (s : State) :
    (countErrors l errors s).view M = s.view M := by
  refine view_le hM ?_
  simp only [countErrors, countBits_view, onLane_view, view_ite, foldl_view, ite_self, Nat.reduceOr]

/-- execTestPgc may change: ph, mbx, msix, pmon, lane, out. -/
theorem execTestPgc_kept {M : Nat} (hM : 17519083520 ||| M = M) (rq : Req) (s : State) :
    Kept M s (execTestPgc rq s) := by
  refine Kept.le hM ?_
  unfold execTestPgc
  refine serve_kept rfl _ _ (fun s => ?_) s
  simp only [countBits_view, onLane_view, view_ite, foldl_view, ite_self, Nat.reduceOr, kept_ite, keeps_ite, kept_next, keeps_ok, keeps_err, keeps_failed, keeps_later]

/-- execTestPgcStatus may change: ph, mbx, msix, pmon, lane, out. -/
theorem execTestPgcStatus_kept {M : Nat} (hM : 17519083520 ||| M = M) (rq : Req) (errors : Nat) (s : State) :
    Kept M s (execTestPgcStatus rq errors s) := by
  refine Kept.le hM ?_
  unfold execTestPgcStatus
  refine serve_kept rfl _ _ (fun s => ?_) s
  simp only [countErrors_view, view_ite, foldl_view, ite_self, Nat.reduceOr, kept_ite, keeps_ite, kept_next, keeps_ok, keeps_err, keeps_failed, keeps_later]

/-- execPgcLock may change: lane. -/
theorem execPgcLock_kept {M : Nat} (hM : 268435456 ||| M = M) (lane : Fin 96) (lost : Bool) (errors : Nat) (s : State) :
    Kept M s (execPgcLock lane lost errors s) := by
  refine Kept.le hM ?_
  unfold execPgcLock
  simp only [countErrors_view, onLane_view, view_ite, foldl_view, ite_self, Nat.reduceOr, kept_ite, keeps_ite, kept_next, keeps_ok, keeps_err, keeps_failed, keeps_later]

/-- execTestMargin may change: ph, mbx, msix, pmon, lane, out. -/
theorem execTestMargin_kept {M : Nat} (hM : 17519083520 ||| M = M) (rq : Req) (s : State) :
    Kept M s (execTestMargin rq s) := by
  refine Kept.le hM ?_
  unfold execTestMargin
  refine serve_kept rfl _ _ (fun s => ?_) s
  simp only [countBits_view, onLane_view, view_ph, view_ite, foldl_view, ite_self, Nat.reduceOr, kept_ite, keeps_ite, kept_next, keeps_ok, keeps_err, keeps_failed, keeps_later]

/-- execMarginDwellEnd may change: mbx, msix, pmon, lane, out. -/
theorem execMarginDwellEnd_kept {M : Nat} (hM : 17518559232 ||| M = M) (lane : Fin 96) (bits errors : BitVec 48) (s : State) :
    Kept M s (execMarginDwellEnd lane bits errors s) := by
  refine Kept.le hM ?_
  unfold execMarginDwellEnd
  (try simp only [finish_view, onLane_view, view_ite, foldl_view, ite_self, Nat.reduceOr, kept_ite, keeps_ite, kept_next, keeps_ok, keeps_err, keeps_failed, keeps_later]) <;> (repeat' split) <;> (try simp only [finish_view, onLane_view, view_ite, foldl_view, ite_self, Nat.reduceOr, kept_ite, keeps_ite, kept_next, keeps_ok, keeps_err, keeps_failed, keeps_later]) <;> (repeat' split) <;> (try simp only [finish_view, onLane_view, view_ite, foldl_view, ite_self, Nat.reduceOr, kept_ite, keeps_ite, kept_next, keeps_ok, keeps_err, keeps_failed, keeps_later])

/-- stopLane may change: mbx, msix, pmon, lane, out. -/
theorem stopLane_view {M : Nat} (hM : 17518559232 ||| M = M) (l : Nat) (s : State) :
    (stopLane l s).view M = s.view M := by
  refine view_le hM ?_
  unfold stopLane
  (try simp only [countBits_view, finish_view, onLane_view, view_ite, foldl_view, ite_self, Nat.reduceOr]) <;> (repeat' split) <;> (try simp only [countBits_view, finish_view, onLane_view, view_ite, foldl_view, ite_self, Nat.reduceOr]) <;> (repeat' split) <;> (try simp only [countBits_view, finish_view, onLane_view, view_ite, foldl_view, ite_self, Nat.reduceOr])

/-- execTapReset may change: tap. -/
theorem execTapReset_kept {M : Nat} (hM : 536870912 ||| M = M) (s : State) :
    Kept M s (execTapReset s) := by
  refine Kept.le hM ?_
  unfold execTapReset
  simp only [view_tap, view_ite, foldl_view, ite_self, Nat.reduceOr, kept_ite, keeps_ite, kept_next, keeps_ok, keeps_err, keeps_failed, keeps_later]

/-- execTapInstructionLoad may change: tap. -/
theorem execTapInstructionLoad_kept {M : Nat} (hM : 536870912 ||| M = M) (ir : JtagIr) (s : State) :
    Kept M s (execTapInstructionLoad ir s) := by
  refine Kept.le hM ?_
  unfold execTapInstructionLoad
  simp only [view_tap, view_ite, foldl_view, ite_self, Nat.reduceOr, kept_ite, keeps_ite, kept_next, keeps_ok, keeps_err, keeps_failed, keeps_later]

end Sys2Proof.Machine
end

