-- ==== Sys2Proof/Laws/KeepTime.lean ====
section
/-! SUPPORT. What the operations of Machine/Time.lean may change: one lemma for each. -/

namespace Sys2Proof.Machine

/-- execTimeGetStatus may change: ph, mbx, msix, pmon, out. -/
theorem execTimeGetStatus_kept {M : Nat} (hM : 17250648064 ||| M = M) (rq : Req) (s : State) :
    Kept M s (execTimeGetStatus rq s) := by
  refine Kept.le hM ?_
  unfold execTimeGetStatus
  refine serve_kept rfl _ _ (fun s => ?_) s
  simp only [view_ite, foldl_view, ite_self, Nat.reduceOr, kept_ite, keeps_ite, kept_next, keeps_ok, keeps_err, keeps_failed, keeps_later]

/-- setSource may change: tide, ledg, cist, sump, pmon, out. -/
theorem setSource_view {M : Nat} (hM : 17263951874 ||| M = M) (rq : Req) (s : State) :
    (setSource rq s).view M = s.view M := by
  refine view_le hM ?_
  unfold setSource
  (try simp only [goFree_view, goHoldover_view, newEpoch_view, view_tide, view_ite, foldl_view, ite_self, Nat.reduceOr]) <;> (repeat' split) <;> (try simp only [goFree_view, goHoldover_view, newEpoch_view, view_tide, view_ite, foldl_view, ite_self, Nat.reduceOr]) <;> (repeat' split) <;> (try simp only [goFree_view, goHoldover_view, newEpoch_view, view_tide, view_ite, foldl_view, ite_self, Nat.reduceOr])

/-- execTimeSetSource may change: tide, ledg, cist, ph, mbx, msix, sump, pmon, out. -/
theorem execTimeSetSource_kept {M : Nat} (hM : 17267621890 ||| M = M) (rq : Req) (s : State) :
    Kept M s (execTimeSetSource rq s) := by
  refine Kept.le hM ?_
  unfold execTimeSetSource
  refine serve_kept rfl _ _ (fun s => ?_) s
  simp only [setSource_view, view_ite, foldl_view, ite_self, Nat.reduceOr, kept_ite, keeps_ite, kept_next, keeps_ok, keeps_err, keeps_failed, keeps_later]

/-- execTimeSetTai may change: tide, ph, mbx, msix, pmon, out. -/
theorem execTimeSetTai_kept {M : Nat} (hM : 17250648066 ||| M = M) (rq : Req) (s : State) :
    Kept M s (execTimeSetTai rq s) := by
  refine Kept.le hM ?_
  unfold execTimeSetTai
  refine serve_kept rfl _ _ (fun s => ?_) s
  (try simp only [view_tide, view_ite, foldl_view, ite_self, Nat.reduceOr, kept_ite, keeps_ite, kept_next, keeps_ok, keeps_err, keeps_failed, keeps_later]) <;> (repeat' split) <;> (try simp only [view_tide, view_ite, foldl_view, ite_self, Nat.reduceOr, kept_ite, keeps_ite, kept_next, keeps_ok, keeps_err, keeps_failed, keeps_later]) <;> (repeat' split) <;> (try simp only [view_tide, view_ite, foldl_view, ite_self, Nat.reduceOr, kept_ite, keeps_ite, kept_next, keeps_ok, keeps_err, keeps_failed, keeps_later])

/-- execTimeSetUtc may change: tide, ledg, cist, ph, mbx, msix, pmon, out. -/
theorem execTimeSetUtc_kept {M : Nat} (hM : 17250844674 ||| M = M) (rq : Req) (s : State) :
    Kept M s (execTimeSetUtc rq s) := by
  refine Kept.le hM ?_
  unfold execTimeSetUtc
  refine serve_kept rfl _ _ (fun s => ?_) s
  simp only [applyUtc_view, view_tide, view_ite, foldl_view, ite_self, Nat.reduceOr, kept_ite, keeps_ite, kept_next, keeps_ok, keeps_err, keeps_failed, keeps_later]

/-- execTimeSetPortDelay may change: tide, ph, mbx, msix, pmon, out. -/
theorem execTimeSetPortDelay_kept {M : Nat} (hM : 17250648066 ||| M = M) (rq : Req) (s : State) :
    Kept M s (execTimeSetPortDelay rq s) := by
  refine Kept.le hM ?_
  unfold execTimeSetPortDelay
  refine serve_kept rfl _ _ (fun s => ?_) s
  simp only [view_tide, view_ite, foldl_view, ite_self, Nat.reduceOr, kept_ite, keeps_ite, kept_next, keeps_ok, keeps_err, keeps_failed, keeps_later]

/-- execTimePtpConfig may change: tide, ph, mbx, msix, pmon, out. -/
theorem execTimePtpConfig_kept {M : Nat} (hM : 17250648066 ||| M = M) (rq : Req) (s : State) :
    Kept M s (execTimePtpConfig rq s) := by
  refine Kept.le hM ?_
  unfold execTimePtpConfig
  refine serve_kept rfl _ _ (fun s => ?_) s
  simp only [State.setPtp_view, view_ite, foldl_view, ite_self, Nat.reduceOr, kept_ite, keeps_ite, kept_next, keeps_ok, keeps_err, keeps_failed, keeps_later]

/-- execTimeSetFailClosed may change: glb, ph, mbx, msix, pmon, out. -/
theorem execTimeSetFailClosed_kept {M : Nat} (hM : 17250648065 ||| M = M) (rq : Req) (s : State) :
    Kept M s (execTimeSetFailClosed rq s) := by
  refine Kept.le hM ?_
  unfold execTimeSetFailClosed
  refine serve_kept rfl _ _ (fun s => ?_) s
  simp only [State.setBerth_view, view_ite, foldl_view, ite_self, Nat.reduceOr, kept_ite, keeps_ite, kept_next, keeps_ok, keeps_err, keeps_failed, keeps_later]

/-- execTimeSetHoldover may change: tide, ph, mbx, msix, pmon, out. -/
theorem execTimeSetHoldover_kept {M : Nat} (hM : 17250648066 ||| M = M) (rq : Req) (s : State) :
    Kept M s (execTimeSetHoldover rq s) := by
  refine Kept.le hM ?_
  unfold execTimeSetHoldover
  refine serve_kept rfl _ _ (fun s => ?_) s
  simp only [view_tide, view_ite, foldl_view, ite_self, Nat.reduceOr, kept_ite, keeps_ite, kept_next, keeps_ok, keeps_err, keeps_failed, keeps_later]

/-- execTimeSetDissent may change: tide, ph, mbx, msix, pmon, out. -/
theorem execTimeSetDissent_kept {M : Nat} (hM : 17250648066 ||| M = M) (rq : Req) (s : State) :
    Kept M s (execTimeSetDissent rq s) := by
  refine Kept.le hM ?_
  unfold execTimeSetDissent
  refine serve_kept rfl _ _ (fun s => ?_) s
  simp only [view_tide, view_ite, foldl_view, ite_self, Nat.reduceOr, kept_ite, keeps_ite, kept_next, keeps_ok, keeps_err, keeps_failed, keeps_later]

/-- execTideNowNsRead may change: tide, out. -/
theorem execTideNowNsRead_kept {M : Nat} (hM : 17179869186 ||| M = M) (fn : Fin 17) (s : State) :
    Kept M s (execTideNowNsRead fn s) := by
  refine Kept.le hM ?_
  unfold execTideNowNsRead
  split
  · rw [kept_next]
  · rw [kept_next, emit_view rfl]
    exact view_tide rfl s _

/-- execInterpHandover may change: tide, sump. -/
theorem execInterpHandover_kept {M : Nat} (hM : 16777218 ||| M = M) (diffPs : Nat) (s : State) :
    Kept M s (execInterpHandover diffPs s) := by
  refine Kept.le hM ?_
  unfold execInterpHandover
  simp only [raise_view, view_tide, view_ite, foldl_view, ite_self, Nat.reduceOr, kept_ite, keeps_ite, kept_next, keeps_ok, keeps_err, keeps_failed, keeps_later]

/-- execPpsInEdge may change: tide, frames, ledg, cist, sump, pmon, out. -/
theorem execPpsInEdge_kept {M : Nat} (hM : 17263951906 ||| M = M) (phase : Fin 32) (s : State) :
    Kept M s (execPpsInEdge phase s) := by
  refine Kept.le hM ?_
  unfold execPpsInEdge
  simp only [disqualify_view, qualify_view, raise_view, servoUpdate_view, view_tide, view_ite, foldl_view, ite_self, Nat.reduceOr, kept_ite, keeps_ite, kept_next, keeps_ok, keeps_err, keeps_failed, keeps_later]

/-- execPpsLoss may change: tide, ledg, cist, sump, pmon, out. -/
theorem execPpsLoss_kept {M : Nat} (hM : 17263951874 ||| M = M) (s : State) :
    Kept M s (execPpsLoss s) := by
  refine Kept.le hM ?_
  unfold execPpsLoss
  simp only [disqualify_view, raise_view, view_ite, foldl_view, ite_self, Nat.reduceOr, kept_ite, keeps_ite, kept_next, keeps_ok, keeps_err, keeps_failed, keeps_later]

/-- execPtpMessage may change: tide, port, frames, ledg, cist, sump, pmon, out, free. -/
theorem execPtpMessage_kept {M : Nat} (hM : 51623690282 ||| M = M) (p : Fin 64) (bytes : List Byte) (phase : Fin 32) (s : State) :
    Kept M s (execPtpMessage p bytes phase s) := by
  refine Kept.le hM ?_
  unfold execPtpMessage
  (try simp only [State.setPort_view, ptpHandle_view, view_ite, foldl_view, ite_self, Nat.reduceOr, kept_ite, keeps_ite, kept_next, keeps_ok, keeps_err, keeps_failed, keeps_later]) <;> (repeat' split) <;> (try simp only [State.setPort_view, ptpHandle_view, view_ite, foldl_view, ite_self, Nat.reduceOr, kept_ite, keeps_ite, kept_next, keeps_ok, keeps_err, keeps_failed, keeps_later]) <;> (repeat' split) <;> (try simp only [State.setPort_view, ptpHandle_view, view_ite, foldl_view, ite_self, Nat.reduceOr, kept_ite, keeps_ite, kept_next, keeps_ok, keeps_err, keeps_failed, keeps_later])

/-- execPtpReceiptTimeout may change: tide, ledg, cist, sump, pmon, out. -/
theorem execPtpReceiptTimeout_kept {M : Nat} (hM : 17263951874 ||| M = M) (i : Fin 4) (s : State) :
    Kept M s (execPtpReceiptTimeout i s) := by
  refine Kept.le hM ?_
  unfold execPtpReceiptTimeout
  simp only [ptpLost_view, view_ite, foldl_view, ite_self, Nat.reduceOr, kept_ite, keeps_ite, kept_next, keeps_ok, keeps_err, keeps_failed, keeps_later]

/-- execPtpSyncInterval may change: tide, out, free. -/
theorem execPtpSyncInterval_kept {M : Nat} (hM : 51539607554 ||| M = M) (i : Fin 4) (announce : Bool) (phase : Fin 32) (s : State) :
    Kept M s (execPtpSyncInterval i announce phase s) := by
  refine Kept.le hM ?_
  unfold execPtpSyncInterval
  simp only [ptpSendAnnounce_view, ptpSendRequest_view, ptpSendSync_view, view_ite, foldl_view, ite_self, Nat.reduceOr, kept_ite, keeps_ite, kept_next, keeps_ok, keeps_err, keeps_failed, keeps_later]

/-- execRefInLoss may change: tide, ledg, cist, sump, pmon, out. -/
theorem execRefInLoss_kept {M : Nat} (hM : 17263951874 ||| M = M) (s : State) :
    Kept M s (execRefInLoss s) := by
  refine Kept.le hM ?_
  unfold execRefInLoss
  simp only [newEpoch_view, raise_view, view_tide, view_ite, foldl_view, ite_self, Nat.reduceOr, kept_ite, keeps_ite, kept_next, keeps_ok, keeps_err, keeps_failed, keeps_later]

/-- execRefInReturn may change: tide, ledg, cist, pmon, out. -/
theorem execRefInReturn_kept {M : Nat} (hM : 17247174658 ||| M = M) (s : State) :
    Kept M s (execRefInReturn s) := by
  refine Kept.le hM ?_
  unfold execRefInReturn
  simp only [newEpoch_view, view_tide, view_ite, foldl_view, ite_self, Nat.reduceOr, kept_ite, keeps_ite, kept_next, keeps_ok, keeps_err, keeps_failed, keeps_later]

/-- execHoldoverLimit may change: tide, ledg, cist, pmon, out. -/
theorem execHoldoverLimit_kept {M : Nat} (hM : 17247174658 ||| M = M) (s : State) :
    Kept M s (execHoldoverLimit s) := by
  refine Kept.le hM ?_
  unfold execHoldoverLimit
  (try simp only [goFree_view, view_tide, view_ite, foldl_view, ite_self, Nat.reduceOr, kept_ite, keeps_ite, kept_next, keeps_ok, keeps_err, keeps_failed, keeps_later]) <;> (repeat' split) <;> (try simp only [goFree_view, view_tide, view_ite, foldl_view, ite_self, Nat.reduceOr, kept_ite, keeps_ite, kept_next, keeps_ok, keeps_err, keeps_failed, keeps_later]) <;> (repeat' split) <;> (try simp only [goFree_view, view_tide, view_ite, foldl_view, ite_self, Nat.reduceOr, kept_ite, keeps_ite, kept_next, keeps_ok, keeps_err, keeps_failed, keeps_later])

/-- execUtcDayEnd may change: tide, ledg, cist, pmon, out. -/
theorem execUtcDayEnd_kept {M : Nat} (hM : 17247174658 ||| M = M) (s : State) :
    Kept M s (execUtcDayEnd s) := by
  refine Kept.le hM ?_
  unfold execUtcDayEnd
  (try simp only [applyUtc_view, view_ite, foldl_view, ite_self, Nat.reduceOr, kept_ite, keeps_ite, kept_next, keeps_ok, keeps_err, keeps_failed, keeps_later]) <;> (repeat' split) <;> (try simp only [applyUtc_view, view_ite, foldl_view, ite_self, Nat.reduceOr, kept_ite, keeps_ite, kept_next, keeps_ok, keeps_err, keeps_failed, keeps_later]) <;> (repeat' split) <;> (try simp only [applyUtc_view, view_ite, foldl_view, ite_self, Nat.reduceOr, kept_ite, keeps_ite, kept_next, keeps_ok, keeps_err, keeps_failed, keeps_later])

/-- execPpsOut may change: out. -/
theorem execPpsOut_kept {M : Nat} (hM : 17179869184 ||| M = M) (s : State) :
    Kept M s (execPpsOut s) := by
  refine Kept.le hM ?_
  unfold execPpsOut
  simp only [emit_view, view_ite, foldl_view, ite_self, Nat.reduceOr, kept_ite, keeps_ite, kept_next, keeps_ok, keeps_err, keeps_failed, keeps_later]

end Sys2Proof.Machine
end

