-- ==== Sys2Proof/Laws/KeepPowerOps.lean ====
section
/-! SUPPORT. What the operations of Machine/PowerOps.lean may change: one lemma for each. -/

namespace Sys2Proof.Machine

/-- onPwr may change: pwr. -/
theorem onPwr_view {M : Nat} (hM : 33554432 ||| M = M) (g : Pwr → Pwr) (s : State) :
    (onPwr g s).view M = s.view M := by
  refine view_le hM ?_
  simp only [onPwr, view_pwr, view_ite, foldl_view, ite_self, Nat.reduceOr]

/-- blockOff may change: port, frames, nextFrame, pump, strn, rsv, weir, xl, fab, shtl, rdma, ledg, ddr, mbx, msix, host, sump, pmon, trace, lane, out. -/
theorem blockOff_view {M : Nat} (hM : 17678335464 ||| M = M) (d : Nat) (s : State) :
    (blockOff d s).view M = s.view M := by
  refine view_le hM ?_
  unfold blockOff
  repeat' (first | with_reducible rfl | simp only [abortOps_view, disableLink_view, engineDown_view, flushRequests_view, issueCmd_view, onDdr_view, onEngine_view, onLedg_view, onPort_view, onStrn_view, onWeir_view, shtlGo_view, stopLane_view, view_ite, foldl_view, ite_self, Nat.reduceOr] | split | refine (foldl_view (fun s a => ?_) _ _).trans ?_ | (rename_i e; rw [fst_view e]) | (rename_i e _; rw [fst_view e]) | (rename_i e _ _; rw [fst_view e]))

/-- guarBack may change: rsv. -/
theorem guarBack_view {M : Nat} (hM : 1024 ||| M = M) (s : State) :
    (guarBack s).view M = s.view M := by
  refine view_le hM ?_
  simp only [guarBack, onRsv_view, view_ite, foldl_view, ite_self, Nat.reduceOr]

/-- blockOn may change: pump, strn, rsv, weir, xl, rdma, ledg, ddr, mbx, msix, sump, pmon, out, free. -/
theorem blockOn_view {M : Nat} (hM : 51627007360 ||| M = M) (d : Nat) (s : State) :
    (blockOn d s).view M = s.view M := by
  refine view_le hM ?_
  simp only [blockOn, enableLink_view, guarBack_view, issueCmd_view, loadEngine_view, onEngine_view, onLedg_view, onRdma_view, onRsv_view, onStrn_view, onWeir_view, onXl_view, resumeDram_view, view_ite, foldl_view, ite_self, Nat.reduceOr]

/-- switchOff may change: port, frames, nextFrame, pump, strn, rsv, weir, xl, fab, shtl, rdma, ledg, ddr, mbx, msix, host, sump, pwr, pmon, trace, lane, out. -/
theorem switchOff_view {M : Nat} (hM : 17711889896 ||| M = M) (d : Nat) (s : State) :
    (switchOff d s).view M = s.view M := by
  refine view_le hM ?_
  unfold switchOff
  repeat' (first | with_reducible rfl | simp only [blockOff_view, onPwr_view, view_ite, foldl_view, ite_self, Nat.reduceOr] | split | refine (foldl_view (fun s a => ?_) _ _).trans ?_ | (rename_i e; rw [fst_view e]) | (rename_i e _; rw [fst_view e]) | (rename_i e _ _; rw [fst_view e]))

/-- switchOn may change: pump, strn, rsv, weir, xl, rdma, ledg, ddr, mbx, msix, sump, pwr, pmon, out, free. -/
theorem switchOn_view {M : Nat} (hM : 51660561792 ||| M = M) (d : Nat) (s : State) :
    (switchOn d s).view M = s.view M := by
  refine view_le hM ?_
  simp only [switchOn, blockOn_view, onPwr_view, view_ite, foldl_view, ite_self, Nat.reduceOr]

/-- bistFails may change: sump. -/
theorem bistFails_view {M : Nat} (hM : 16777216 ||| M = M) (s : State) :
    (bistFails s).view M = s.view M := by
  refine view_le hM ?_
  simp only [bistFails, raise_view, view_ite, foldl_view, ite_self, Nat.reduceOr]

/-- blockFails may change: frames, pump, rsv, weir, xl, fab, shtl, ledg, mbx, msix, sump, pmon, out. -/
theorem blockFails_view {M : Nat} (hM : 17266998432 ||| M = M) (d : Nat) (s : State) :
    (blockFails d s).view M = s.view M := by
  refine view_le hM ?_
  simp only [blockFails, checkGuar_view, dramEvent_view, failEngine_view, failTile_view, onRsv_view, raise_view, shtlGo_view, view_ite, foldl_view, ite_self, Nat.reduceOr]

/-- beginOff may change: rsv, sump. -/
theorem beginOff_view {M : Nat} (hM : 16778240 ||| M = M) (d : Nat) (s : State) :
    (beginOff d s).view M = s.view M := by
  refine view_le hM ?_
  simp only [beginOff, checkGuar_view, onRsv_view, view_ite, foldl_view, ite_self, Nat.reduceOr]

/-- losePtp may change: tide, ledg, cist, sump, pmon, out. -/
theorem losePtp_view {M : Nat} (hM : 17263951874 ||| M = M) (s : State) :
    (losePtp s).view M = s.view M := by
  refine view_le hM ?_
  simp only [losePtp, disqualify_view, raise_view, view_ite, foldl_view, ite_self, Nat.reduceOr]

/-- resetChip may change: glb, tide, guard, port, quad, frames, nextFrame, pump, strn, fwd, rsv, weir, xl, fab, shtl, rdma, ledg, cist, ddr, ph, mbx, msix, fuse, host, sump, pwr, pmon, trace, lane, tap, therm, latch, pcieDown, vfEnable, out, free, pending. -/
theorem resetChip_view {M : Nat} (hM : 137438953471 ||| M = M) (cause : BitVec 3) (s : State) :
    (resetChip cause s).view M = s.view M := by
  refine view_le hM ?_
  unfold resetChip
  rfl

/-- resetAll may change: glb, tide, guard, port, quad, frames, nextFrame, pump, strn, fwd, rsv, weir, xl, fab, shtl, rdma, ledg, cist, ddr, ph, mbx, msix, fuse, host, sump, pwr, pmon, trace, lane, tap, therm, latch, pcieDown, vfEnable, out, free, pending. -/
theorem resetAll_view {M : Nat} (hM : 137438953471 ||| M = M) (s : State) :
    (resetAll s).view M = s.view M := by
  refine view_le hM ?_
  unfold resetAll
  rfl

/-- stopAppending may change: ledg, cist, pmon, out. -/
theorem stopAppending_view {M : Nat} (hM : 17247174656 ||| M = M) (s : State) :
    (stopAppending s).view M = s.view M := by
  refine view_le hM ?_
  unfold stopAppending
  repeat' (first | with_reducible rfl | simp only [onLedg_view, writeSeal_view, view_ite, foldl_view, ite_self, Nat.reduceOr] | split | refine (foldl_view (fun s a => ?_) _ _).trans ?_ | (rename_i e; rw [fst_view e]) | (rename_i e _; rw [fst_view e]) | (rename_i e _ _; rw [fst_view e]))

/-- gaspOff may change: port, frames, nextFrame, pump, strn, rsv, weir, xl, fab, shtl, rdma, ledg, ddr, ph, mbx, msix, host, sump, pwr, pmon, trace, lane, out. -/
theorem gaspOff_view {M : Nat} (hM : 17712414184 ||| M = M) (s : State) :
    (gaspOff s).view M = s.view M := by
  refine view_le hM ?_
  unfold gaspOff
  repeat' (first | with_reducible rfl | simp only [onPh_view, switchOff_view, view_ite, foldl_view, ite_self, Nat.reduceOr] | split | refine (foldl_view (fun s a => ?_) _ _).trans ?_ | (rename_i e; rw [fst_view e]) | (rename_i e _; rw [fst_view e]) | (rename_i e _ _; rw [fst_view e]))

/-- beginGasp may change: cist, pwr, out. -/
theorem beginGasp_view {M : Nat} (hM : 17213554688 ||| M = M) (s : State) :
    (beginGasp s).view M = s.view M := by
  refine view_le hM ?_
  unfold beginGasp
  repeat' (first | with_reducible rfl | simp only [onPwr_view, revokeWindow_view, view_ite, foldl_view, ite_self, Nat.reduceOr] | split | refine (foldl_view (fun s a => ?_) _ _).trans ?_ | (rename_i e; rw [fst_view e]) | (rename_i e _; rw [fst_view e]) | (rename_i e _ _; rw [fst_view e]))

end Sys2Proof.Machine
end

