-- ==== Sys2Proof/Laws/KeepPower.lean ====
section
/-! SUPPORT. What the operations of Machine/Power.lean may change: one lemma for each. -/

namespace Sys2Proof.Machine

/-- startSwitch may change: pwr. -/
theorem startSwitch_view {M : Nat} (hM : 33554432 ||| M = M) (d : Nat) (on : Bool) (fn : Nat) (s : State) :
    (startSwitch d on fn s).view M = s.view M := by
  refine view_le hM ?_
  simp only [startSwitch, onPwr_view, view_ite, foldl_view, ite_self, Nat.reduceOr]

/-- execPowerDomain may change: guard, rsv, ph, mbx, msix, sump, pwr, pmon, out. -/
theorem execPowerDomain_kept {M : Nat} (hM : 17300980740 ||| M = M) (rq : Req) (s : State) :
    Kept M s (execPowerDomain rq s) := by
  refine Kept.le hM ?_
  unfold execPowerDomain
  refine serve_kept rfl _ _ (fun s => ?_) s
  simp only [beginOff_view, onGuard_view, startSwitch_view, view_ite, foldl_view, ite_self, Nat.reduceOr, kept_ite, keeps_ite, kept_next, keeps_ok, keeps_err, keeps_failed, keeps_later]

/-- endSwitch may change: mbx, msix, pwr, pmon, out. -/
theorem endSwitch_view {M : Nat} (hM : 17283678208 ||| M = M) (d : Nat) (fn : Option Nat) (st : Status) (s : State) :
    (endSwitch d fn st s).view M = s.view M := by
  refine view_le hM ?_
  simp only [endSwitch, finishOpt_view, onPwr_view, view_ite, foldl_view, ite_self, Nat.reduceOr]

/-- endBist may change: port, frames, nextFrame, pump, strn, rsv, weir, xl, fab, shtl, rdma, ledg, ddr, mbx, msix, host, sump, pwr, pmon, trace, lane, out, free. -/
theorem endBist_view {M : Nat} (hM : 52071628264 ||| M = M) (d fn : Nat) (ok : Bool) (failMem : BitVec 16) (s : State) :
    (endBist d fn ok failMem s).view M = s.view M := by
  refine view_le hM ?_
  simp only [endBist, bistFails_view, blockFails_view, finish_view, onPwr_view, switchOff_view, switchOn_view, view_ite, foldl_view, ite_self, Nat.reduceOr]

/-- execDomainSwitchDone may change: port, frames, nextFrame, pump, strn, rsv, weir, xl, fab, shtl, rdma, ledg, ddr, mbx, msix, host, sump, pwr, pmon, trace, lane, out, free. -/
theorem execDomainSwitchDone_kept {M : Nat} (hM : 52071628264 ||| M = M) (d : Fin 144) (bistOk : Bool) (failMem : BitVec 16) (s : State) :
    Kept M s (execDomainSwitchDone d bistOk failMem s) := by
  refine Kept.le hM ?_
  unfold execDomainSwitchDone
  (try simp only [bistFails_view, endBist_view, endSwitch_view, switchOff_view, switchOn_view, view_ite, foldl_view, ite_self, Nat.reduceOr, kept_ite, keeps_ite, kept_next, keeps_ok, keeps_err, keeps_failed, keeps_later]) <;> (repeat' split) <;> (try simp only [bistFails_view, endBist_view, endSwitch_view, switchOff_view, switchOn_view, view_ite, foldl_view, ite_self, Nat.reduceOr, kept_ite, keeps_ite, kept_next, keeps_ok, keeps_err, keeps_failed, keeps_later]) <;> (repeat' split) <;> (try simp only [bistFails_view, endBist_view, endSwitch_view, switchOff_view, switchOn_view, view_ite, foldl_view, ite_self, Nat.reduceOr, kept_ite, keeps_ite, kept_next, keeps_ok, keeps_err, keeps_failed, keeps_later])

/-- execBankGroupOffTimeout may change: rsv, mbx, msix, pwr, pmon, out. -/
theorem execBankGroupOffTimeout_kept {M : Nat} (hM : 17283679232 ||| M = M) (g : Fin 32) (s : State) :
    Kept M s (execBankGroupOffTimeout g s) := by
  refine Kept.le hM ?_
  unfold execBankGroupOffTimeout
  (try simp only [endSwitch_view, guarBack_view, onRsv_view, view_ite, foldl_view, ite_self, Nat.reduceOr, kept_ite, keeps_ite, kept_next, keeps_ok, keeps_err, keeps_failed, keeps_later]) <;> (repeat' split) <;> (try simp only [endSwitch_view, guarBack_view, onRsv_view, view_ite, foldl_view, ite_self, Nat.reduceOr, kept_ite, keeps_ite, kept_next, keeps_ok, keeps_err, keeps_failed, keeps_later]) <;> (repeat' split) <;> (try simp only [endSwitch_view, guarBack_view, onRsv_view, view_ite, foldl_view, ite_self, Nat.reduceOr, kept_ite, keeps_ite, kept_next, keeps_ok, keeps_err, keeps_failed, keeps_later])

/-- execTestMbist may change: port, frames, nextFrame, pump, strn, rsv, weir, xl, fab, shtl, rdma, ledg, ddr, ph, mbx, msix, host, sump, pwr, pmon, trace, lane, out. -/
theorem execTestMbist_kept {M : Nat} (hM : 17712414184 ||| M = M) (rq : Req) (s : State) :
    Kept M s (execTestMbist rq s) := by
  refine Kept.le hM ?_
  unfold execTestMbist
  refine serve_kept rfl _ _ (fun s => ?_) s
  simp only [beginOff_view, onPwr_view, switchOff_view, view_ite, foldl_view, ite_self, Nat.reduceOr, kept_ite, keeps_ite, kept_next, keeps_ok, keeps_err, keeps_failed, keeps_later]

/-- execPowerStatus may change: ph, mbx, msix, pmon, out. -/
theorem execPowerStatus_kept {M : Nat} (hM : 17250648064 ||| M = M) (rq : Req) (s : State) :
    Kept M s (execPowerStatus rq s) := by
  refine Kept.le hM ?_
  unfold execPowerStatus
  refine serve_kept rfl _ _ (fun s => ?_) s
  simp only [view_ite, foldl_view, ite_self, Nat.reduceOr, kept_ite, keeps_ite, kept_next, keeps_ok, keeps_err, keeps_failed, keeps_later]

/-- askReset may change: port, frames, rsv, weir, cist, sump, pwr, pmon, out, free. -/
theorem askReset_view {M : Nat} (hM : 51657182248 ||| M = M) (s : State) :
    (askReset s).view M = s.view M := by
  refine view_le hM ?_
  simp only [askReset, beginGasp_view, enterSafe_view, onPwr_view, onSump_view, view_ite, foldl_view, ite_self, Nat.reduceOr]

/-- execPowerChipReset may change: port, frames, rsv, weir, cist, ph, mbx, msix, sump, pwr, pmon, out, free. -/
theorem execPowerChipReset_kept {M : Nat} (hM : 51660852264 ||| M = M) (rq : Req) (s : State) :
    Kept M s (execPowerChipReset rq s) := by
  refine Kept.le hM ?_
  unfold execPowerChipReset
  dsimp only
  generalize (s.pwr.resetPending || s.pwr.lastGasp) = busy
  have h : (serve (cmdH 0x1103 4) rq (fun s =>
      if rq.u32 0 ≠ 0x43484950 then .err .badParam else if busy then .err .busy else .ok s []) s).view 51660852264
      = s.view 51660852264 := by
    refine (serve_kept (M := 51660852264) rfl _ _ (fun s => ?_) s).agrees _ rfl
    simp only [keeps_ite, keeps_ok, keeps_err, ite_self]
  rw [kept_next, view_ite, askReset_view rfl, h, ite_self]

/-- execChipReset may change: glb, tide, guard, port, quad, frames, nextFrame, pump, strn, fwd, rsv, weir, xl, fab, shtl, rdma, ledg, cist, ddr, ph, mbx, msix, fuse, host, sump, pwr, pmon, trace, lane, tap, therm, latch, pcieDown, vfEnable, out, free, pending. -/
theorem execChipReset_kept {M : Nat} (hM : 137438953471 ||| M = M) (s : State) :
    Kept M s (execChipReset s) := by
  refine Kept.le hM ?_
  unfold execChipReset
  simp only [resetChip_view, view_ite, foldl_view, ite_self, Nat.reduceOr, kept_ite, keeps_ite, kept_next, keeps_ok, keeps_err, keeps_failed, keeps_later]

/-- execChipRstDelayExpiry may change: glb, tide, guard, port, quad, frames, nextFrame, pump, strn, fwd, rsv, weir, xl, fab, shtl, rdma, ledg, cist, ddr, ph, mbx, msix, fuse, host, sump, pwr, pmon, trace, lane, tap, therm, latch, pcieDown, vfEnable, out, free, pending. -/
theorem execChipRstDelayExpiry_kept {M : Nat} (hM : 137438953471 ||| M = M) (s : State) :
    Kept M s (execChipRstDelayExpiry s) := by
  refine Kept.le hM ?_
  unfold execChipRstDelayExpiry
  simp only [onSump_view, resetChip_view, view_ite, foldl_view, ite_self, Nat.reduceOr, kept_ite, keeps_ite, kept_next, keeps_ok, keeps_err, keeps_failed, keeps_later]

/-- trainChannel may change: ddr, sump. -/
theorem trainChannel_view {M : Nat} (hM : 17039360 ||| M = M) (c gib : Nat) (speed : Option (Fin 3)) (s : State) :
    (trainChannel c gib speed s).view M = s.view M := by
  refine view_le hM ?_
  unfold trainChannel
  (try simp only [dramEvent_view, onDdr_view, view_ite, foldl_view, ite_self, Nat.reduceOr]) <;> (repeat' split) <;> (try simp only [dramEvent_view, onDdr_view, view_ite, foldl_view, ite_self, Nat.reduceOr]) <;> (repeat' split) <;> (try simp only [dramEvent_view, onDdr_view, view_ite, foldl_view, ite_self, Nat.reduceOr])

/-- readBoard may change: ph, sump. -/
theorem readBoard_view {M : Nat} (hM : 17301504 ||| M = M) (s : State) :
    (readBoard s).view M = s.view M := by
  refine view_le hM ?_
  simp only [readBoard, onPh_view, raise_view, view_ite, foldl_view, ite_self, Nat.reduceOr]

/-- placeRegions may change: ledg, ph. -/
theorem placeRegions_view {M : Nat} (hM : 589824 ||| M = M) (s : State) :
    (placeRegions s).view M = s.view M := by
  refine view_le hM ?_
  simp only [placeRegions, onLedg_view, onPh_view, view_ite, foldl_view, ite_self, Nat.reduceOr]

/-- bootVolt may change: guard, sump, out. -/
theorem bootVolt_view {M : Nat} (hM : 17196646404 ||| M = M) (bad : List (Fin 7)) (s : State) :
    (bootVolt bad s).view M = s.view M := by
  refine view_le hM ?_
  unfold bootVolt
  repeat' (first | with_reducible rfl | simp only [emit_view, onGuard_view, raise_view, view_ite, foldl_view, ite_self, Nat.reduceOr] | split | refine (foldl_view (fun s a => ?_) _ _).trans ?_ | (rename_i e; rw [fst_view e]) | (rename_i e _; rw [fst_view e]) | (rename_i e _ _; rw [fst_view e]))

/-- calibrateAll may change: quad, xl. -/
theorem calibrateAll_view {M : Nat} (hM : 4112 ||| M = M) (s : State) :
    (calibrateAll s).view M = s.view M := by
  refine view_le hM ?_
  unfold calibrateAll
  repeat' (first | with_reducible rfl | simp only [enableLink_view, onQuad_view, onXl_view, view_ite, foldl_view, ite_self, Nat.reduceOr] | split | refine (foldl_view (fun s a => ?_) _ _).trans ?_ | (rename_i e; rw [fst_view e]) | (rename_i e _; rw [fst_view e]) | (rename_i e _ _; rw [fst_view e]))

/-- startGuard may change: guard. -/
theorem startGuard_view {M : Nat} (hM : 4 ||| M = M) (s : State) :
    (startGuard s).view M = s.view M := by
  refine view_le hM ?_
  simp only [startGuard, onGuard_view, view_ite, foldl_view, ite_self, Nat.reduceOr]

/-- coldStart may change: guard, quad, xl, fab, ledg, ddr, ph, sump, out. -/
theorem coldStart_view {M : Nat} (hM : 17197510676 ||| M = M) (train : TrainRes) (s : State) :
    (coldStart train s).view M = s.view M := by
  refine view_le hM ?_
  simp only [coldStart, bootVolt_view, calibrateAll_view, onFab_view, placeRegions_view, readBoard_view, standAlone_view, startGuard_view, trainChannel_view, view_ite, foldl_view, ite_self, Nat.reduceOr]

/-- setReady may change: cist, ph, fuse, pwr. -/
theorem setReady_view {M : Nat} (hM : 38404096 ||| M = M) (s : State) :
    (setReady s).view M = s.view M := by
  refine view_le hM ?_
  unfold setReady
  repeat' (first | with_reducible rfl | simp only [onPh_view, onPwr_view, startProbe_view, view_fuse, view_ite, foldl_view, ite_self, Nat.reduceOr] | split | refine (foldl_view (fun s a => ?_) _ _).trans ?_ | (rename_i e; rw [fst_view e]) | (rename_i e _; rw [fst_view e]) | (rename_i e _ _; rw [fst_view e]))

/-- execStartupComplete may change: guard, quad, xl, fab, ledg, cist, ddr, ph, mbx, msix, fuse, sump, pwr, out. -/
theorem execStartupComplete_kept {M : Nat} (hM : 17238536212 ||| M = M) (train : TrainRes) (s : State) :
    Kept M s (execStartupComplete train s) := by
  refine Kept.le hM ?_
  unfold execStartupComplete
  simp only [coldStart_view, postAll_view, setReady_view, view_ite, foldl_view, ite_self, Nat.reduceOr, kept_ite, keeps_ite, kept_next, keeps_ok, keeps_err, keeps_failed, keeps_later]

/-- execPwrfailNAssert may change: port, frames, rsv, weir, cist, ph, msix, sump, pwr, pmon, out, free. -/
theorem execPwrfailNAssert_kept {M : Nat} (hM : 51659803688 ||| M = M) (s : State) :
    Kept M s (execPwrfailNAssert s) := by
  refine Kept.le hM ?_
  unfold execPwrfailNAssert
  simp only [beginGasp_view, latchLine_view, onPwr_view, view_ite, foldl_view, ite_self, Nat.reduceOr, kept_ite, keeps_ite, kept_next, keeps_ok, keeps_err, keeps_failed, keeps_later]

/-- execAppendingStop may change: port, frames, nextFrame, pump, strn, rsv, weir, xl, fab, shtl, rdma, ledg, cist, ddr, ph, mbx, msix, host, sump, pwr, pmon, trace, lane, out. -/
theorem execAppendingStop_kept {M : Nat} (hM : 17712545256 ||| M = M) (s : State) :
    Kept M s (execAppendingStop s) := by
  refine Kept.le hM ?_
  unfold execAppendingStop
  simp only [gaspOff_view, stopAppending_view, view_ite, foldl_view, ite_self, Nat.reduceOr, kept_ite, keeps_ite, kept_next, keeps_ok, keeps_err, keeps_failed, keeps_later]

/-- execLastGaspEnd may change: glb, tide, guard, port, quad, frames, nextFrame, pump, strn, fwd, rsv, weir, xl, fab, shtl, rdma, ledg, cist, ddr, ph, mbx, msix, fuse, host, sump, pwr, pmon, trace, lane, tap, therm, latch, pcieDown, vfEnable, out, free, pending. -/
theorem execLastGaspEnd_kept {M : Nat} (hM : 137438953471 ||| M = M) (s : State) :
    Kept M s (execLastGaspEnd s) := by
  refine Kept.le hM ?_
  unfold execLastGaspEnd
  simp only [onPwr_view, resetChip_view, view_ite, foldl_view, ite_self, Nat.reduceOr, kept_ite, keeps_ite, kept_next, keeps_ok, keeps_err, keeps_failed, keeps_later]

/-- execPwrfailNRelease may change: glb, tide, guard, port, quad, frames, nextFrame, pump, strn, fwd, rsv, weir, xl, fab, shtl, rdma, ledg, cist, ddr, ph, mbx, msix, fuse, host, sump, pwr, pmon, trace, lane, tap, therm, latch, pcieDown, vfEnable, out, free, pending. -/
theorem execPwrfailNRelease_kept {M : Nat} (hM : 137438953471 ||| M = M) (s : State) :
    Kept M s (execPwrfailNRelease s) := by
  refine Kept.le hM ?_
  unfold execPwrfailNRelease
  simp only [onPh_view, onPwr_view, onSump_view, resetChip_view, view_ite, foldl_view, ite_self, Nat.reduceOr, kept_ite, keeps_ite, kept_next, keeps_ok, keeps_err, keeps_failed, keeps_later]

/-- execPorstN may change: glb, tide, guard, port, quad, frames, nextFrame, pump, strn, fwd, rsv, weir, xl, fab, shtl, rdma, ledg, cist, ddr, ph, mbx, msix, fuse, host, sump, pwr, pmon, trace, lane, tap, therm, latch, pcieDown, vfEnable, out, free, pending. -/
theorem execPorstN_kept {M : Nat} (hM : 137438953471 ||| M = M) (s : State) :
    Kept M s (execPorstN s) := by
  refine Kept.le hM ?_
  unfold execPorstN
  simp only [resetAll_view, view_ite, foldl_view, ite_self, Nat.reduceOr, kept_ite, keeps_ite, kept_next, keeps_ok, keeps_err, keeps_failed, keeps_later]

/-- execPerstN may change: port, frames, nextFrame, strn, rsv, xl, fab, rdma, mbx, msix, host, sump, pmon, trace, pcieDown, vfEnable, out. -/
theorem execPerstN_kept {M : Nat} (hM : 30294455656 ||| M = M) (s : State) :
    Kept M s (execPerstN s) := by
  refine Kept.le hM ?_
  unfold execPerstN
  rw [kept_next]
  have h : ∀ t : State, t.view 30294455656 = s.view 30294455656 →
      ({ t with mbx := [], msix := [], vfEnable := false, pcieDown := false } : State).view 30294455656 = s.view 30294455656 :=
    fun t ht => (view_pcieDown rfl { { { t with mbx := [] } with msix := [] } with vfEnable := false } false).trans
      ((view_vfEnable rfl { { t with mbx := [] } with msix := [] } false).trans
        ((view_msix rfl { t with mbx := [] } []).trans ((view_mbx rfl t []).trans ht)))
  refine h _ ?_
  rw [foldl_view (fun s b => resetRings_view rfl b s), rdmaSettle_view rfl, foldl_view (fun s q => qpError_view rfl q 0 s)]

/-- execSupplyFault may change: sump, pwr. -/
theorem execSupplyFault_kept {M : Nat} (hM : 50331648 ||| M = M) (rail : Fin 7) (high : Bool) (s : State) :
    Kept M s (execSupplyFault rail high s) := by
  refine Kept.le hM ?_
  unfold execSupplyFault
  simp only [onPwr_view, raise_view, view_ite, foldl_view, ite_self, Nat.reduceOr, kept_ite, keeps_ite, kept_next, keeps_ok, keeps_err, keeps_failed, keeps_later]

/-- execPcieLinkDown may change: sump, pcieDown. -/
theorem execPcieLinkDown_kept {M : Nat} (hM : 4311744512 ||| M = M) (fatal : Bool) (s : State) :
    Kept M s (execPcieLinkDown fatal s) := by
  refine Kept.le hM ?_
  unfold execPcieLinkDown
  simp only [raise_view, view_pcieDown, view_ite, foldl_view, ite_self, Nat.reduceOr, kept_ite, keeps_ite, kept_next, keeps_ok, keeps_err, keeps_failed, keeps_later]

end Sys2Proof.Machine
end

