-- ==== Sys2Proof/Laws/KeepSump.lean ====
section
/-! SUPPORT. What the operations of Machine/Sump.lean may change: one lemma for each. -/

namespace Sys2Proof.Machine

/-- execSumpSetReaction may change: ph, mbx, msix, sump, pmon, out. -/
theorem execSumpSetReaction_kept {M : Nat} (hM : 17267425280 ||| M = M) (rq : Req) (s : State) :
    Kept M s (execSumpSetReaction rq s) := by
  refine Kept.le hM ?_
  unfold execSumpSetReaction
  refine serve_kept rfl _ _ (fun s => ?_) s
  simp only [onSump_view, react_view, view_ite, foldl_view, ite_self, Nat.reduceOr, kept_ite, keeps_ite, kept_next, keeps_ok, keeps_err, keeps_failed, keeps_later]

/-- execSumpClear may change: ph, mbx, msix, sump, pmon, out. -/
theorem execSumpClear_kept {M : Nat} (hM : 17267425280 ||| M = M) (rq : Req) (s : State) :
    Kept M s (execSumpClear rq s) := by
  refine Kept.le hM ?_
  unfold execSumpClear
  refine serve_kept rfl _ _ (fun s => ?_) s
  simp only [onSump_view, view_ite, foldl_view, ite_self, Nat.reduceOr, kept_ite, keeps_ite, kept_next, keeps_ok, keeps_err, keeps_failed, keeps_later]

/-- execSumpSafeEnter may change: port, frames, rsv, weir, ph, mbx, msix, sump, pmon, out, free. -/
theorem execSumpSafeEnter_kept {M : Nat} (hM : 51627166760 ||| M = M) (rq : Req) (s : State) :
    Kept M s (execSumpSafeEnter rq s) := by
  refine Kept.le hM ?_
  unfold execSumpSafeEnter
  refine serve_kept rfl _ _ (fun s => ?_) s
  simp only [enterSafe_view, view_ite, foldl_view, ite_self, Nat.reduceOr, kept_ite, keeps_ite, kept_next, keeps_ok, keeps_err, keeps_failed, keeps_later]

/-- leaveSafe may change: port, frames, nextFrame, strn, rsv, weir, xl, fab, rdma, mbx, msix, host, sump, pmon, trace, out. -/
theorem leaveSafe_view {M : Nat} (hM : 17409555816 ||| M = M) (flush : Bool) (s : State) :
    (leaveSafe flush s).view M = s.view M := by
  refine view_le hM ?_
  simp only [leaveSafe, flushStopped_view, onSump_view, resumeRdma_view, view_ite, foldl_view, ite_self, Nat.reduceOr]

/-- execSumpSafeRelease may change: port, frames, nextFrame, strn, rsv, weir, xl, fab, rdma, ph, mbx, msix, host, sump, pmon, trace, out. -/
theorem execSumpSafeRelease_kept {M : Nat} (hM : 17410080104 ||| M = M) (rq : Req) (s : State) :
    Kept M s (execSumpSafeRelease rq s) := by
  refine Kept.le hM ?_
  unfold execSumpSafeRelease
  refine serve_kept rfl _ _ (fun s => ?_) s
  simp only [leaveSafe_view, view_ite, foldl_view, ite_self, Nat.reduceOr, kept_ite, keeps_ite, kept_next, keeps_ok, keeps_err, keeps_failed, keeps_later]

/-- execSumpInject may change: ph, mbx, msix, sump, pmon, out. -/
theorem execSumpInject_kept {M : Nat} (hM : 17267425280 ||| M = M) (rq : Req) (s : State) :
    Kept M s (execSumpInject rq s) := by
  refine Kept.le hM ?_
  unfold execSumpInject
  refine serve_kept rfl _ _ (fun s => ?_) s
  simp only [onSump_view, view_ite, foldl_view, ite_self, Nat.reduceOr, kept_ite, keeps_ite, kept_next, keeps_ok, keeps_err, keeps_failed, keeps_later]

/-- execSumpStatus may change: ph, mbx, msix, pmon, out. -/
theorem execSumpStatus_kept {M : Nat} (hM : 17250648064 ||| M = M) (rq : Req) (s : State) :
    Kept M s (execSumpStatus rq s) := by
  refine Kept.le hM ?_
  unfold execSumpStatus
  refine serve_kept rfl _ _ (fun s => ?_) s
  simp only [view_ite, foldl_view, ite_self, Nat.reduceOr, kept_ite, keeps_ite, kept_next, keeps_ok, keeps_err, keeps_failed, keeps_later]

/-- execSumpConfig may change: ph, mbx, msix, sump, pmon, out. -/
theorem execSumpConfig_kept {M : Nat} (hM : 17267425280 ||| M = M) (rq : Req) (s : State) :
    Kept M s (execSumpConfig rq s) := by
  refine Kept.le hM ?_
  unfold execSumpConfig
  refine serve_kept rfl _ _ (fun s => ?_) s
  simp only [onSump_view, view_ite, foldl_view, ite_self, Nat.reduceOr, kept_ite, keeps_ite, kept_next, keeps_ok, keeps_err, keeps_failed, keeps_later]

/-- execSumpStatusWrite may change: sump, pmon. -/
theorem execSumpStatusWrite_kept {M : Nat} (hM : 83886080 ||| M = M) (hi : Bool) (mask : BitVec 32) (s : State) :
    Kept M s (execSumpStatusWrite hi mask s) := by
  refine Kept.le hM ?_
  unfold execSumpStatusWrite
  simp only [mmio_view, onSump_view, view_ite, foldl_view, ite_self, Nat.reduceOr, kept_ite, keeps_ite, kept_next, keeps_ok, keeps_err, keeps_failed, keeps_later]

/-- execSumpLatch may change: port, frames, rsv, weir, ph, msix, sump, pwr, pmon, out, free. -/
theorem execSumpLatch_kept {M : Nat} (hM : 51659672616 ||| M = M) (s : State) :
    Kept M s (execSumpLatch s) := by
  refine Kept.le hM ?_
  unfold execSumpLatch
  simp only [latchAll_view, view_ite, foldl_view, ite_self, Nat.reduceOr, kept_ite, keeps_ite, kept_next, keeps_ok, keeps_err, keeps_failed, keeps_later]

/-- storeEntry may change: mbx, msix, sump, out. -/
theorem storeEntry_view {M : Nat} (hM : 17199792128 ||| M = M) (e0 : Entry) (s : State) :
    (storeEntry e0 s).view M = s.view M := by
  refine view_le hM ?_
  simp only [storeEntry, onSump_view, postAll_view, view_ite, foldl_view, ite_self, Nat.reduceOr]

/-- execHistoryWrite may change: mbx, msix, sump, out. -/
theorem execHistoryWrite_kept {M : Nat} (hM : 17199792128 ||| M = M) (s : State) :
    Kept M s (execHistoryWrite s) := by
  refine Kept.le hM ?_
  unfold execHistoryWrite
  (try simp only [advance_view, onSump_view, storeEntry_view, view_ite, foldl_view, ite_self, Nat.reduceOr, kept_ite, keeps_ite, kept_next, keeps_ok, keeps_err, keeps_failed, keeps_later]) <;> (repeat' split) <;> (try simp only [advance_view, onSump_view, storeEntry_view, view_ite, foldl_view, ite_self, Nat.reduceOr, kept_ite, keeps_ite, kept_next, keeps_ok, keeps_err, keeps_failed, keeps_later]) <;> (repeat' split) <;> (try simp only [advance_view, onSump_view, storeEntry_view, view_ite, foldl_view, ite_self, Nat.reduceOr, kept_ite, keeps_ite, kept_next, keeps_ok, keeps_err, keeps_failed, keeps_later])

/-- execBlockReset may change: port, frames, strn, rsv, xl, fab, ledg, cist, ddr, ph, mbx, msix, host, sump, pmon, trace, out. -/
theorem execBlockReset_kept {M : Nat} (hM : 17410503976 ||| M = M) (s : State) :
    Kept M s (execBlockReset s) := by
  refine Kept.le hM ?_
  unfold execBlockReset
  (try simp only [onSump_view, resetBlock_view, view_ite, foldl_view, ite_self, Nat.reduceOr, kept_ite, keeps_ite, kept_next, keeps_ok, keeps_err, keeps_failed, keeps_later]) <;> (repeat' split) <;> (try simp only [onSump_view, resetBlock_view, view_ite, foldl_view, ite_self, Nat.reduceOr, kept_ite, keeps_ite, kept_next, keeps_ok, keeps_err, keeps_failed, keeps_later]) <;> (repeat' split) <;> (try simp only [onSump_view, resetBlock_view, view_ite, foldl_view, ite_self, Nat.reduceOr, kept_ite, keeps_ite, kept_next, keeps_ok, keeps_err, keeps_failed, keeps_later])

/-- execKillNAssert may change: port, frames, rsv, weir, ph, msix, sump, pwr, pmon, out, free. -/
theorem execKillNAssert_kept {M : Nat} (hM : 51659672616 ||| M = M) (s : State) :
    Kept M s (execKillNAssert s) := by
  refine Kept.le hM ?_
  unfold execKillNAssert
  simp only [latchLine_view, onSump_view, view_ite, foldl_view, ite_self, Nat.reduceOr, kept_ite, keeps_ite, kept_next, keeps_ok, keeps_err, keeps_failed, keeps_later]

/-- execKillNRelease may change: sump. -/
theorem execKillNRelease_kept {M : Nat} (hM : 16777216 ||| M = M) (s : State) :
    Kept M s (execKillNRelease s) := by
  refine Kept.le hM ?_
  unfold execKillNRelease
  simp only [onSump_view, view_ite, foldl_view, ite_self, Nat.reduceOr, kept_ite, keeps_ite, kept_next, keeps_ok, keeps_err, keeps_failed, keeps_later]

end Sys2Proof.Machine
end

