-- ==== Sys2Proof/Laws/KeepRegisters.lean ====
section
/-! SUPPORT. What the operations of Machine/Registers.lean may change: one lemma for each. -/

namespace Sys2Proof.Machine

/-- offAccess may change: pwr. -/
theorem offAccess_view {M : Nat} (hM : 33554432 ||| M = M) (s : State) :
    (offAccess s).view M = s.view M := by
  refine view_le hM ?_
  exact view_pwr rfl s _

/-- readLow may change: latch, out. -/
theorem readLow_view {M : Nat} (hM : 19327352832 ||| M = M) (fn off : Nat) (c : BitVec 48) (s : State) :
    (readLow fn off c s).view M = s.view M := by
  refine view_le hM ?_
  simp only [readLow, emit_view, readData_view, view_latch, view_ite, foldl_view, ite_self, Nat.reduceOr]

/-- readHigh may change: latch, out. -/
theorem readHigh_view {M : Nat} (hM : 19327352832 ||| M = M) (fn off : Nat) (c : BitVec 48) (s : State) :
    (readHigh fn off c s).view M = s.view M := by
  refine view_le hM ?_
  simp only [readHigh, emit_view, readData_view, view_latch, view_ite, foldl_view, ite_self, Nat.reduceOr]

/-- execCounterLowHalfRead may change: pwr, lane, latch, out. -/
theorem execCounterLowHalfRead_kept {M : Nat} (hM : 19629342720 ||| M = M) (fn : Fin 17) (off : BitVec 32) (s : State) :
    Kept M s (execCounterLowHalfRead fn off s) := by
  refine Kept.le hM ?_
  unfold execCounterLowHalfRead
  (try simp only [emit_view, offAccess_view, readData_view, readHigh_view, readLow_view, view_ite, foldl_view, ite_self, Nat.reduceOr, kept_ite, keeps_ite, kept_next, keeps_ok, keeps_err, keeps_failed, keeps_later]) <;> (repeat' split) <;> (try simp only [emit_view, offAccess_view, readData_view, readHigh_view, readLow_view, view_ite, foldl_view, ite_self, Nat.reduceOr, kept_ite, keeps_ite, kept_next, keeps_ok, keeps_err, keeps_failed, keeps_later]) <;> (repeat' split) <;> (try simp only [emit_view, offAccess_view, readData_view, readHigh_view, readLow_view, view_ite, foldl_view, ite_self, Nat.reduceOr, kept_ite, keeps_ite, kept_next, keeps_ok, keeps_err, keeps_failed, keeps_later])

/-- unmasked may change: msix, out. -/
theorem unmasked_view {M : Nat} (hM : 17181966336 ||| M = M) (fn vec : Nat) (s : State) :
    (unmasked fn vec s).view M = s.view M := by
  refine view_le hM ?_
  simp only [unmasked, emit_view, view_msix, view_ite, foldl_view, ite_self, Nat.reduceOr]

/-- writeMsix may change: msix, out. -/
theorem writeMsix_view {M : Nat} (hM : 17181966336 ||| M = M) (fn i : Nat) (v : BitVec 32) (s : State) :
    (writeMsix fn i v s).view M = s.view M := by
  refine view_le hM ?_
  simp only [writeMsix, unmasked_view, view_msix, view_ite, foldl_view, ite_self, Nat.reduceOr]

/-- writeMbx may change: mbx. -/
theorem writeMbx_view {M : Nat} (hM : 1048576 ||| M = M) (fn d : Nat) (v : BitVec 32) (s : State) :
    (writeMbx fn d v s).view M = s.view M := by
  refine view_le hM ?_
  simp only [writeMbx, State.setMbx_view, overrun_view, view_ite, foldl_view, ite_self, Nat.reduceOr]

/-- writeReg may change: fwd, mbx, msix, vfEnable, out. -/
theorem writeReg_view {M : Nat} (hM : 25772950016 ||| M = M) (fn off : Nat) (v : BitVec 32) (s : State) :
    (writeReg fn off v s).view M = s.view M := by
  refine view_le hM ?_
  simp only [writeReg, writeMbx_view, writeMsix_view, view_fwd, view_vfEnable, view_ite, foldl_view, ite_self, Nat.reduceOr]

/-- execRegisterWrite may change: fwd, mbx, msix, pwr, pmon, vfEnable, out. -/
theorem execRegisterWrite_kept {M : Nat} (hM : 25873613312 ||| M = M) (fn : Fin 17) (off v : BitVec 32) (s : State) :
    Kept M s (execRegisterWrite fn off v s) := by
  refine Kept.le hM ?_
  unfold execRegisterWrite
  simp only [mmio_view, offAccess_view, writeReg_view, view_ite, foldl_view, ite_self, Nat.reduceOr, kept_ite, keeps_ite, kept_next, keeps_ok, keeps_err, keeps_failed, keeps_later]

end Sys2Proof.Machine
end

