-- ==== Sys2Proof/Laws/KeepThermal.lean ====
section
/-! SUPPORT. What the operations of Machine/Thermal.lean may change: one lemma for each. -/

namespace Sys2Proof.Machine

/-- execPowerThermConfig may change: ph, mbx, msix, pmon, therm, out. -/
theorem execPowerThermConfig_kept {M : Nat} (hM : 18324389888 ||| M = M) (rq : Req) (s : State) :
    Kept M s (execPowerThermConfig rq s) := by
  refine Kept.le hM ?_
  unfold execPowerThermConfig
  refine serve_kept rfl _ _ (fun s => ?_) s
  simp only [view_therm, view_ite, foldl_view, ite_self, Nat.reduceOr, kept_ite, keeps_ite, kept_next, keeps_ok, keeps_err, keeps_failed, keeps_later]

/-- warnAside may change: sump. -/
theorem warnAside_view {M : Nat} (hM : 16777216 ||| M = M) (before : BitVec 16) (s : State) :
    (warnAside before s).view M = s.view M := by
  refine view_le hM ?_
  unfold warnAside
  repeat' (first | with_reducible rfl | simp only [raise_view, view_ite, foldl_view, ite_self, Nat.reduceOr] | split | refine (foldl_view (fun s a => ?_) _ _).trans ?_ | (rename_i e; rw [fst_view e]) | (rename_i e _; rw [fst_view e]) | (rename_i e _ _; rw [fst_view e]))

/-- warnLimits may change: sump, therm. -/
theorem warnLimits_view {M : Nat} (hM : 1090519040 ||| M = M) (s : State) :
    (warnLimits s).view M = s.view M := by
  refine view_le hM ?_
  simp only [warnLimits, raise_view, view_therm, view_ite, foldl_view, ite_self, Nat.reduceOr]

/-- tripLimits may change: sump, therm. -/
theorem tripLimits_view {M : Nat} (hM : 1090519040 ||| M = M) (s : State) :
    (tripLimits s).view M = s.view M := by
  refine view_le hM ?_
  simp only [tripLimits, raise_view, view_therm, view_ite, foldl_view, ite_self, Nat.reduceOr]

/-- derateDram may change: ddr, out. -/
theorem derateDram_view {M : Nat} (hM : 17180131328 ||| M = M) (s : State) :
    (derateDram s).view M = s.view M := by
  refine view_le hM ?_
  unfold derateDram
  repeat' (first | with_reducible rfl | simp only [askSpeed_view, view_ite, foldl_view, ite_self, Nat.reduceOr] | split | refine (foldl_view (fun s a => ?_) _ _).trans ?_ | (rename_i e; rw [fst_view e]) | (rename_i e _; rw [fst_view e]) | (rename_i e _ _; rw [fst_view e]))

/-- execSensorReading may change: ddr, sump, therm, out. -/
theorem execSensorReading_kept {M : Nat} (hM : 18270650368 ||| M = M) (temps : List Int) (s : State) :
    Kept M s (execSensorReading temps s) := by
  refine Kept.le hM ?_
  unfold execSensorReading
  simp only [derateDram_view, tripLimits_view, warnAside_view, warnLimits_view, view_therm, view_ite, foldl_view, ite_self, Nat.reduceOr, kept_ite, keeps_ite, kept_next, keeps_ok, keeps_err, keeps_failed, keeps_later]

end Sys2Proof.Machine
end

