-- ==== Sys2Proof/Laws/Footprint.lean ====
section
/-! SUPPORT. Footprints of the commands: which parts of the state each may change. -/

namespace Sys2Proof.Machine

/-- The parts a command may change, as a mask. -/
def footprint : Instr → Nat
  | .systemPing _ => 17250648064
  | .systemInfo _ => 17250648064
  | .systemFwStage _ => 17250648064
  | .systemFwCommit _ _ => 17405837312
  | .systemRestart _ => 17401643008
  | .systemI2c _ _ => 17250648064
  | .unsupportedOpcode _ _ => 17250648064
  | .mbxOverrun _ => 68681728
  | .mbxEvtConsWrite _ _ => 68157440
  | .mbxEvtLostRead _ => 17180917760
  | .tideNowNsRead _ => 17179869186
  | .counterLowHalfRead _ _ => 19629342720
  | .sumpStatusWrite _ _ => 83886080
  | .pmonOvfWrite _ _ => 67108864
  | .registerWrite _ _ _ => 25873613312
  | .berthCreate _ _ => 51619006465
  | .berthDestroy _ => 17410293737
  | .destroyDrainTimeout _ => 17409752425
  | .berthAssignPort _ => 17250648065
  | .berthGangway _ => 17250648065
  | .berthGetKey _ => 17250648064
  | .berthStatus _ => 17250648064
  | .berthSetAuditor _ => 17250648065
  | .berthReset _ => 17410274664
  | .functionLevelReset _ => 17409750376
  | .portQuadConfig _ => 17410032952
  | .portEnable _ => 17267425288
  | .portSetFlow _ => 17250648072
  | .portRecal _ => 17393255736
  | .portGetStatus _ => 17250648064
  | .timeGetStatus _ => 17250648064
  | .timeSetSource _ => 17267621890
  | .timeSetTai _ => 17250648066
  | .timeSetUtc _ => 17250844674
  | .timeSetPortDelay _ => 17250648066
  | .timePtpConfig _ => 17250648066
  | .timeSetFailClosed _ => 17250648065
  | .timeSetHoldover _ => 17250648066
  | .timeSetDissent _ => 17250648066
  | .pumpStage _ => 17250648192
  | .pumpCommit _ => 17250648192
  | .pumpSetProfile _ => 17250648192
  | .pumpSetAction _ => 17250648192
  | .pumpFragConfig _ => 17250648192
  | .pumpStatus _ => 17250648064
  | .pumpEngineCtl _ _ => 17250648192
  | .pumpLockPatch _ => 17254842368
  | .strainerPartition _ => 17250648320
  | .strainerPatternStage _ => 17250648320
  | .strainerPatternCommit _ => 17250844928
  | .strainerBerthConfig _ => 17250648320
  | .strainerRuleInsert _ => 17250648320
  | .strainerRuleDelete _ => 17250648320
  | .strainerRuleWrite _ => 17250648320
  | .strainerLookupCmd _ => 17250648320
  | .strainerMatchNext _ => 17250648352
  | .strainerStatus _ => 17250648064
  | .moveStep => 17250124032
  | .tablesPartition _ => 17250648576
  | .tablesProtect _ => 17250648576
  | .tablesBerthConfig _ => 17250648576
  | .tablesL2Write _ => 17250648576
  | .tablesRouteWrite _ => 17250648576
  | .tablesMcastWrite _ => 17250648576
  | .tablesEcmpWrite _ => 17250648576
  | .tablesLookup _ => 17250648064
  | .tablesStatus _ => 17250648064
  | .queueingFerryWrite _ => 17250649088
  | .queueingQuota _ => 17267426304
  | .queueingQueueConfig _ => 17250649088
  | .queueingShaper _ => 17250649088
  | .queueingPauseThresh _ => 17250649096
  | .queueingStatus _ => 17250648064
  | .queueingRingConfig _ => 17393255720
  | .queueingRingStatus _ => 17250648064
  | .riskPartition _ => 17250650112
  | .riskBerthConfig _ => 17250650112
  | .riskAccountWrite _ => 17250650112
  | .riskInstrumentWrite _ => 17250650112
  | .riskPositionWrite _ => 17250650112
  | .riskRelease _ => 17393467176
  | .riskFirmWrite _ => 17250650112
  | .riskScenarioStage _ => 17250650112
  | .riskWindlassRun _ => 17250650112
  | .riskStatus _ => 17250648064
  | .fabricLinkConfig _ => 17250652160
  | .fabricLinkCtl _ => 17393268008
  | .fabricLinkStatus _ => 17250648064
  | .fabricConfig _ => 17250656256
  | .fabricStatus _ => 17250648064
  | .fabricRouteQuery _ => 17250648064
  | .fabricRediscover _ => 17250660352
  | .collectiveGroupCreate _ => 17250664448
  | .collectiveGroupDestroy _ => 17250664448
  | .collectiveStart _ _ => 17250679808
  | .collectiveAbort _ => 17250679808
  | .collectiveStatus _ => 17250648064
  | .rdmaQuota _ => 17250680832
  | .rdmaMrReg _ => 17250680832
  | .rdmaMrDereg _ => 17250680832
  | .rdmaCqCreate _ => 17250680832
  | .rdmaCqDestroy _ => 17250680832
  | .rdmaQpCreate _ => 17250680832
  | .rdmaQpModify _ => 17410078056
  | .rdmaQpQuery _ => 17250648064
  | .rdmaQpDestroy _ => 17250680832
  | .rdmaStatus _ => 17250648064
  | .ledgerConfig _ => 17250844672
  | .ledgerStaging _ => 17250713600
  | .ledgerSealNow _ => 17250844672
  | .ledgerStatus _ => 17250648064
  | .ledgerDeviceCert _ => 17250648064
  | .cisternStatus _ => 17250648064
  | .cisternConfig _ => 17250779136
  | .cisternSwap _ => 17267621888
  | .cisternRelease _ => 17267621888
  | .cisternIdentity _ => 17250648064
  | .cisternRetireChallenge _ _ => 51610517504
  | .cisternRetire _ _ => 17250779136
  | .cisternRead _ _ => 51610386432
  | .dramConfig _ => 17250910208
  | .dramStatus _ => 17250648064
  | .dramCapture _ => 17250648064
  | .dramRecover _ => 17250910208
  | .dramRead _ _ => 51627425792
  | .sumpSetReaction _ => 17267425280
  | .sumpClear _ => 17267425280
  | .sumpSafeEnter _ => 51627166760
  | .sumpSafeRelease _ => 17410080104
  | .sumpInject _ => 17267425280
  | .sumpStatus _ => 17250648064
  | .sumpConfig _ => 17267425280
  | .powerDomain _ => 17300980740
  | .domainSwitchDone _ _ _ => 52071628264
  | .bankGroupOffTimeout _ => 17283679232
  | .powerStatus _ => 17250648064
  | .powerChipReset _ => 51660852264
  | .powerThermConfig _ => 18324389888
  | .powerGuardConfig _ => 17250844676
  | .powerGuardStatus _ => 17250648064
  | .powerSetCap _ => 17267425284
  | .countersConfig _ => 17250648064
  | .countersSnapshot _ => 17250648064
  | .countersTeleConfig _ => 17250648064
  | .countersTeleRead _ => 17250648064
  | .traceConfig _ => 17384865792
  | .traceRead _ => 17250648064
  | .testPgc _ => 17519083520
  | .testPgcStatus _ _ => 17519083520
  | .testMargin _ => 17519083520
  | .marginDwellEnd _ _ _ => 17518559232
  | .testMbist _ => 17712414184
  | .tapReset => 536870912
  | .tapInstructionLoad _ => 536870912
  | .frameStart _ _ _ => 16842985
  | .holdingBufferDispatch => 160
  | .cellAllocate _ => 17391682856
  | .launchLookup _ _ => 17408460072
  | .confirmCompare _ => 32
  | .oversizeCut _ => 17391683368
  | .ingressFrameEnd _ _ _ => 17391683368
  | .parseCommit _ => 17392930216
  | .fragAgeExpiry _ => 128
  | .strainerLookup _ => 67109152
  | .handleAgeExpiry _ _ => 288
  | .weirVerdict _ => 17392733608
  | .forwardingResult _ => 67109536
  | .stompDecision _ => 17392733480
  | .enqueue _ => 17391728424
  | .egressSelect _ _ => 17391682856
  | .matcherRound => 67109888
  | .egressFrameEnd _ _ => 17392733480
  | .bankGroupFail _ _ => 16778272
  | .settleLimitDrop _ => 17391682856
  | .orderRecord _ => 17247174688
  | .holdTimeout _ => 17391684904
  | .pumpFail _ _ => 17199857824
  | .goldenSelfCheck _ => 17199857824
  | .patchEngineLoad _ => 17267097760
  | .pumpPatchStall => 17199792256
  | .tableBackgroundAccess _ _ _ _ => 83886592
  | .ruleFlushing _ _ _ => 16777472
  | .directoryFlushing _ _ _ => 16779264
  | .l2AgeSweep _ => 512
  | .strnUnitFail _ => 16777472
  | .windlassPeriod _ => 17250125824
  | .outputTileDone _ _ _ => 17266932736
  | .exposureInstall => 17250125824
  | .windTileFail _ => 17266932736
  | .interpHandover _ => 16777218
  | .ppsInEdge _ => 17263951906
  | .ppsLoss => 17263951874
  | .ptpMessage _ _ _ => 51623690282
  | .ptpReceiptTimeout _ => 17263951874
  | .refInLoss => 17263951874
  | .holdoverLimit => 17247174658
  | .utcDayEnd => 17247174658
  | .ppsOut => 17179869184
  | .witnessRound _ _ => 4096
  | .wReq _ _ _ => 4096
  | .wResp _ _ _ => 17263955970
  | .witnessMissed _ => 4096
  | .sentinelRead _ => 17263951876
  | .latBoundReturn => 17263951876
  | .powerReading _ => 17196646404
  | .guardPmbus _ => 17263951876
  | .synthDrainDone _ => 16777240
  | .synthLock _ => 17408460088
  | .settleResume _ => 17179869192
  | .synthLockTimeout _ => 16777240
  | .rpRecalDue _ => 17408460088
  | .rpLinkDown _ _ => 16777224
  | .linkUpDebounce _ => 8
  | .anRestart _ => 8
  | .pauseReceive _ _ => 8
  | .pauseExpire _ _ => 8
  | .pauseRefresh _ => 17179869192
  | .lpiReceive _ => 8
  | .flitReceive _ _ _ => 17409520936
  | .ctrlFlit _ _ => 17409520936
  | .flitSend _ _ => 17391686952
  | .ctrlFlitDue _ => 4096
  | .retryResend _ => 4096
  | .replayTimeout _ => 17179873280
  | .tsReceive _ _ _ => 17409520936
  | .quiesceReceive _ => 4096
  | .quiesceGraceEnd _ => 4096
  | .xlRecalDue _ => 17196650496
  | .xlSynthLock _ => 17179873280
  | .laneFail _ _ => 17409520936
  | .degradeReceive _ _ => 17266905088
  | .xlLinkDown _ => 17409520936
  | .fastTrainingTimeout _ => 17409520936
  | .hailSend => 4096
  | .hail _ _ => 16789504
  | .rootElect => 17266932736
  | .adj _ _ => 17408472360
  | .assign _ _ => 12288
  | .lsa _ _ => 17391695144
  | .installedSend => 17266932736
  | .installed _ _ => 17266932736
  | .convergeLimit => 17266932736
  | .resume _ _ => 17266932736
  | .fabricMessage _ _ _ => 17408472424
  | .fabGap _ _ => 17408468328
  | .colMessage _ _ => 17250155520
  | .earlyArrivalStale _ => 16384
  | .collectiveTimeout _ => 17250155520
  | .workRequestFetched _ _ _ _ => 17409553768
  | .rdmaPacket _ _ _ => 17409553768
  | .rdmaRetransmitTimeout _ => 17409553768
  | .ackCoalesceTimeout _ => 17409553768
  | .rnrTimer _ => 17409553768
  | .rdmaEngineFail _ => 17409553768
  | .rdmaSqDb _ _ => 17409553768
  | .rdmaRqDb _ _ => 17409553768
  | .rdmaCqDb _ _ => 67141632
  | .rxDoorbell _ _ _ => 17274241024
  | .txDoorbell _ _ _ => 17274241024
  | .txDescFetched _ _ _ _ => 17391682920
  | .hostDelivery _ => 17391682856
  | .rxWaitExpiry _ _ => 17391682856
  | .itrTimer _ _ _ => 17190354944
  | .sealDue _ => 17247174656
  | .pageHashDone _ => 65536
  | .sealSigned _ _ => 17275551617
  | .pageWrite => 17275551617
  | .zoneAppendComplete _ _ _ => 17275551617
  | .stagingReadback _ => 17275551617
  | .ledgEngineFail _ => 16842752
  | .bayInsert _ => 131072
  | .probeComplete _ _ => 51556515840
  | .probeLinkTimeout _ => 16908288
  | .bayRemove _ => 17267097600
  | .latchOpen _ => 17267097600
  | .latchClose _ => 131072
  | .switchReissue _ => 17267097600
  | .lifeRead _ _ => 17267097600
  | .asyncEvent _ _ _ => 17267097600
  | .hkPeriod => 17180000256
  | .adminTimeout _ => 17267097600
  | .appendStall _ => 17267097600
  | .retireNonceExpiry _ => 131072
  | .bayLinkLoss _ => 17267097600
  | .dramRequest _ _ _ _ _ _ => 17267163136
  | .srIdleExpiry _ => 17180131328
  | .srEntryDone _ => 17180131328
  | .refresh _ => 17180131328
  | .mr4Read _ _ _ _ => 17196908544
  | .patrolScrub _ _ => 17267163136
  | .driftUpdate _ => 17180131328
  | .speedChangeDone _ => 51626901504
  | .autoRecoverExpiry _ => 262144
  | .recoveryDone _ _ => 51635552129
  | .boot => 524288
  | .startupComplete _ => 17238536212
  | .slotFallback => 21495808
  | .heartbeat _ => 201850880
  | .watchdog => 152567808
  | .phTrap _ _ => 152567808
  | .pumphouseIdle _ => 134742016
  | .pumphouseWake _ => 201850880
  | .arbitrationLost _ => 17250648064
  | .arbitrationBackoffEnd _ _ _ => 17250648064
  | .i2cBusStuck _ => 17250648064
  | .i2cNakRetry _ _ => 17250648064
  | .sumpLatch => 51659672616
  | .historyWrite => 17199792128
  | .blockReset => 17410503976
  | .chipRstDelayExpiry => 137438953471
  | .killNAssert => 51659672616
  | .killNRelease => 16777216
  | .pwrfailNAssert => 51659803688
  | .appendingStop => 17712545256
  | .lastGaspEnd => 137438953471
  | .pwrfailNRelease => 137438953471
  | .porstN => 137438953471
  | .chipReset => 137438953471
  | .perstN => 30294455656
  | .supplyFault _ _ => 50331648
  | .sensorReading _ => 18270650368
  | .telemetryCapture => 67108864
  | .traceLostPacket => 134217728
  | .rpBlockLock _ _ => 16777224
  | .anComplete _ _ => 16777224
  | .xlLaneLock _ _ => 17179873280
  | .xlSynthTimeout _ => 17409520936
  | .srExitDone _ => 51626901504
  | .pcieLinkDown _ => 4311744512
  | .destroySealTimeout _ => 17409752425
  | .pgcLock _ _ _ => 268435456
  | .ptpSyncInterval _ _ _ => 51539607554
  | .refInReturn => 17247174658

/-- Every command answers a next state that agrees with the state before it outside the footprint. -/
theorem exec_kept (i : Instr) (s : State) : Kept (footprint i) s (exec i s) := by
  cases i with
  | systemPing rq => exact execSystemPing_kept (M := 17250648064) (Nat.or_self _) rq s
  | systemInfo rq => exact execSystemInfo_kept (M := 17250648064) (Nat.or_self _) rq s
  | systemFwStage rq => exact execSystemFwStage_kept (M := 17250648064) (Nat.or_self _) rq s
  | systemFwCommit rq flashOk => exact execSystemFwCommit_kept (M := 17405837312) (Nat.or_self _) rq flashOk s
  | systemRestart rq => exact execSystemRestart_kept (M := 17401643008) (Nat.or_self _) rq s
  | systemI2c rq env => exact execSystemI2c_kept (M := 17250648064) (Nat.or_self _) rq env s
  | unsupportedOpcode rq code => exact execUnsupportedOpcode_kept (M := 17250648064) (Nat.or_self _) rq code s
  | mbxOverrun fn => exact execMbxOverrun_kept (M := 68681728) (Nat.or_self _) fn s
  | mbxEvtConsWrite fn v => exact execMbxEvtConsWrite_kept (M := 68157440) (Nat.or_self _) fn v s
  | mbxEvtLostRead fn => exact execMbxEvtLostRead_kept (M := 17180917760) (Nat.or_self _) fn s
  | tideNowNsRead fn => exact execTideNowNsRead_kept (M := 17179869186) (Nat.or_self _) fn s
  | counterLowHalfRead fn off => exact execCounterLowHalfRead_kept (M := 19629342720) (Nat.or_self _) fn off s
  | sumpStatusWrite hi mask => exact execSumpStatusWrite_kept (M := 83886080) (Nat.or_self _) hi mask s
  | pmonOvfWrite w mask => exact execPmonOvfWrite_kept (M := 67108864) (Nat.or_self _) w mask s
  | registerWrite fn off v => exact execRegisterWrite_kept (M := 25873613312) (Nat.or_self _) fn off v s
  | berthCreate rq keyOk => exact execBerthCreate_kept (M := 51619006465) (Nat.or_self _) rq keyOk s
  | berthDestroy rq => exact execBerthDestroy_kept (M := 17410293737) (Nat.or_self _) rq s
  | destroyDrainTimeout b => exact execDestroyDrainTimeout_kept (M := 17409752425) (Nat.or_self _) b s
  | berthAssignPort rq => exact execBerthAssignPort_kept (M := 17250648065) (Nat.or_self _) rq s
  | berthGangway rq => exact execBerthGangway_kept (M := 17250648065) (Nat.or_self _) rq s
  | berthGetKey rq => exact execBerthGetKey_kept (M := 17250648064) (Nat.or_self _) rq s
  | berthStatus rq => exact execBerthStatus_kept (M := 17250648064) (Nat.or_self _) rq s
  | berthSetAuditor rq => exact execBerthSetAuditor_kept (M := 17250648065) (Nat.or_self _) rq s
  | berthReset rq => exact execBerthReset_kept (M := 17410274664) (Nat.or_self _) rq s
  | functionLevelReset b => exact execFunctionLevelReset_kept (M := 17409750376) (Nat.or_self _) b s
  | portQuadConfig rq => exact execPortQuadConfig_kept (M := 17410032952) (Nat.or_self _) rq s
  | portEnable rq => exact execPortEnable_kept (M := 17267425288) (Nat.or_self _) rq s
  | portSetFlow rq => exact execPortSetFlow_kept (M := 17250648072) (Nat.or_self _) rq s
  | portRecal rq => exact execPortRecal_kept (M := 17393255736) (Nat.or_self _) rq s
  | portGetStatus rq => exact execPortGetStatus_kept (M := 17250648064) (Nat.or_self _) rq s
  | timeGetStatus rq => exact execTimeGetStatus_kept (M := 17250648064) (Nat.or_self _) rq s
  | timeSetSource rq => exact execTimeSetSource_kept (M := 17267621890) (Nat.or_self _) rq s
  | timeSetTai rq => exact execTimeSetTai_kept (M := 17250648066) (Nat.or_self _) rq s
  | timeSetUtc rq => exact execTimeSetUtc_kept (M := 17250844674) (Nat.or_self _) rq s
  | timeSetPortDelay rq => exact execTimeSetPortDelay_kept (M := 17250648066) (Nat.or_self _) rq s
  | timePtpConfig rq => exact execTimePtpConfig_kept (M := 17250648066) (Nat.or_self _) rq s
  | timeSetFailClosed rq => exact execTimeSetFailClosed_kept (M := 17250648065) (Nat.or_self _) rq s
  | timeSetHoldover rq => exact execTimeSetHoldover_kept (M := 17250648066) (Nat.or_self _) rq s
  | timeSetDissent rq => exact execTimeSetDissent_kept (M := 17250648066) (Nat.or_self _) rq s
  | pumpStage rq => exact execPumpStage_kept (M := 17250648192) (Nat.or_self _) rq s
  | pumpCommit rq => exact execPumpCommit_kept (M := 17250648192) (Nat.or_self _) rq s
  | pumpSetProfile rq => exact execPumpSetProfile_kept (M := 17250648192) (Nat.or_self _) rq s
  | pumpSetAction rq => exact execPumpSetAction_kept (M := 17250648192) (Nat.or_self _) rq s
  | pumpFragConfig rq => exact execPumpFragConfig_kept (M := 17250648192) (Nat.or_self _) rq s
  | pumpStatus rq => exact execPumpStatus_kept (M := 17250648064) (Nat.or_self _) rq s
  | pumpEngineCtl rq checksOk => exact execPumpEngineCtl_kept (M := 17250648192) (Nat.or_self _) rq checksOk s
  | pumpLockPatch rq => exact execPumpLockPatch_kept (M := 17254842368) (Nat.or_self _) rq s
  | strainerPartition rq => exact execStrainerPartition_kept (M := 17250648320) (Nat.or_self _) rq s
  | strainerPatternStage rq => exact execStrainerPatternStage_kept (M := 17250648320) (Nat.or_self _) rq s
  | strainerPatternCommit rq => exact execStrainerPatternCommit_kept (M := 17250844928) (Nat.or_self _) rq s
  | strainerBerthConfig rq => exact execStrainerBerthConfig_kept (M := 17250648320) (Nat.or_self _) rq s
  | strainerRuleInsert rq => exact execStrainerRuleInsert_kept (M := 17250648320) (Nat.or_self _) rq s
  | strainerRuleDelete rq => exact execStrainerRuleDelete_kept (M := 17250648320) (Nat.or_self _) rq s
  | strainerRuleWrite rq => exact execStrainerRuleWrite_kept (M := 17250648320) (Nat.or_self _) rq s
  | strainerLookupCmd rq => exact execStrainerLookupCmd_kept (M := 17250648320) (Nat.or_self _) rq s
  | strainerMatchNext rq => exact execStrainerMatchNext_kept (M := 17250648352) (Nat.or_self _) rq s
  | strainerStatus rq => exact execStrainerStatus_kept (M := 17250648064) (Nat.or_self _) rq s
  | moveStep => exact execMoveStep_kept (M := 17250124032) (Nat.or_self _) s
  | tablesPartition rq => exact execTablesPartition_kept (M := 17250648576) (Nat.or_self _) rq s
  | tablesProtect rq => exact execTablesProtect_kept (M := 17250648576) (Nat.or_self _) rq s
  | tablesBerthConfig rq => exact execTablesBerthConfig_kept (M := 17250648576) (Nat.or_self _) rq s
  | tablesL2Write rq => exact execTablesL2Write_kept (M := 17250648576) (Nat.or_self _) rq s
  | tablesRouteWrite rq => exact execTablesRouteWrite_kept (M := 17250648576) (Nat.or_self _) rq s
  | tablesMcastWrite rq => exact execTablesMcastWrite_kept (M := 17250648576) (Nat.or_self _) rq s
  | tablesEcmpWrite rq => exact execTablesEcmpWrite_kept (M := 17250648576) (Nat.or_self _) rq s
  | tablesLookup rq => exact execTablesLookup_kept (M := 17250648064) (Nat.or_self _) rq s
  | tablesStatus rq => exact execTablesStatus_kept (M := 17250648064) (Nat.or_self _) rq s
  | queueingFerryWrite rq => exact execQueueingFerryWrite_kept (M := 17250649088) (Nat.or_self _) rq s
  | queueingQuota rq => exact execQueueingQuota_kept (M := 17267426304) (Nat.or_self _) rq s
  | queueingQueueConfig rq => exact execQueueingQueueConfig_kept (M := 17250649088) (Nat.or_self _) rq s
  | queueingShaper rq => exact execQueueingShaper_kept (M := 17250649088) (Nat.or_self _) rq s
  | queueingPauseThresh rq => exact execQueueingPauseThresh_kept (M := 17250649096) (Nat.or_self _) rq s
  | queueingStatus rq => exact execQueueingStatus_kept (M := 17250648064) (Nat.or_self _) rq s
  | queueingRingConfig rq => exact execQueueingRingConfig_kept (M := 17393255720) (Nat.or_self _) rq s
  | queueingRingStatus rq => exact execQueueingRingStatus_kept (M := 17250648064) (Nat.or_self _) rq s
  | riskPartition rq => exact execRiskPartition_kept (M := 17250650112) (Nat.or_self _) rq s
  | riskBerthConfig rq => exact execRiskBerthConfig_kept (M := 17250650112) (Nat.or_self _) rq s
  | riskAccountWrite rq => exact execRiskAccountWrite_kept (M := 17250650112) (Nat.or_self _) rq s
  | riskInstrumentWrite rq => exact execRiskInstrumentWrite_kept (M := 17250650112) (Nat.or_self _) rq s
  | riskPositionWrite rq => exact execRiskPositionWrite_kept (M := 17250650112) (Nat.or_self _) rq s
  | riskRelease rq => exact execRiskRelease_kept (M := 17393467176) (Nat.or_self _) rq s
  | riskFirmWrite rq => exact execRiskFirmWrite_kept (M := 17250650112) (Nat.or_self _) rq s
  | riskScenarioStage rq => exact execRiskScenarioStage_kept (M := 17250650112) (Nat.or_self _) rq s
  | riskWindlassRun rq => exact execRiskWindlassRun_kept (M := 17250650112) (Nat.or_self _) rq s
  | riskStatus rq => exact execRiskStatus_kept (M := 17250648064) (Nat.or_self _) rq s
  | fabricLinkConfig rq => exact execFabricLinkConfig_kept (M := 17250652160) (Nat.or_self _) rq s
  | fabricLinkCtl rq => exact execFabricLinkCtl_kept (M := 17393268008) (Nat.or_self _) rq s
  | fabricLinkStatus rq => exact execFabricLinkStatus_kept (M := 17250648064) (Nat.or_self _) rq s
  | fabricConfig rq => exact execFabricConfig_kept (M := 17250656256) (Nat.or_self _) rq s
  | fabricStatus rq => exact execFabricStatus_kept (M := 17250648064) (Nat.or_self _) rq s
  | fabricRouteQuery rq => exact execFabricRouteQuery_kept (M := 17250648064) (Nat.or_self _) rq s
  | fabricRediscover rq => exact execFabricRediscover_kept (M := 17250660352) (Nat.or_self _) rq s
  | collectiveGroupCreate rq => exact execCollectiveGroupCreate_kept (M := 17250664448) (Nat.or_self _) rq s
  | collectiveGroupDestroy rq => exact execCollectiveGroupDestroy_kept (M := 17250664448) (Nat.or_self _) rq s
  | collectiveStart rq data => exact execCollectiveStart_kept (M := 17250679808) (Nat.or_self _) rq data s
  | collectiveAbort rq => exact execCollectiveAbort_kept (M := 17250679808) (Nat.or_self _) rq s
  | collectiveStatus rq => exact execCollectiveStatus_kept (M := 17250648064) (Nat.or_self _) rq s
  | rdmaQuota rq => exact execRdmaQuota_kept (M := 17250680832) (Nat.or_self _) rq s
  | rdmaMrReg rq => exact execRdmaMrReg_kept (M := 17250680832) (Nat.or_self _) rq s
  | rdmaMrDereg rq => exact execRdmaMrDereg_kept (M := 17250680832) (Nat.or_self _) rq s
  | rdmaCqCreate rq => exact execRdmaCqCreate_kept (M := 17250680832) (Nat.or_self _) rq s
  | rdmaCqDestroy rq => exact execRdmaCqDestroy_kept (M := 17250680832) (Nat.or_self _) rq s
  | rdmaQpCreate rq => exact execRdmaQpCreate_kept (M := 17250680832) (Nat.or_self _) rq s
  | rdmaQpModify rq => exact execRdmaQpModify_kept (M := 17410078056) (Nat.or_self _) rq s
  | rdmaQpQuery rq => exact execRdmaQpQuery_kept (M := 17250648064) (Nat.or_self _) rq s
  | rdmaQpDestroy rq => exact execRdmaQpDestroy_kept (M := 17250680832) (Nat.or_self _) rq s
  | rdmaStatus rq => exact execRdmaStatus_kept (M := 17250648064) (Nat.or_self _) rq s
  | ledgerConfig rq => exact execLedgerConfig_kept (M := 17250844672) (Nat.or_self _) rq s
  | ledgerStaging rq => exact execLedgerStaging_kept (M := 17250713600) (Nat.or_self _) rq s
  | ledgerSealNow rq => exact execLedgerSealNow_kept (M := 17250844672) (Nat.or_self _) rq s
  | ledgerStatus rq => exact execLedgerStatus_kept (M := 17250648064) (Nat.or_self _) rq s
  | ledgerDeviceCert rq => exact execLedgerDeviceCert_kept (M := 17250648064) (Nat.or_self _) rq s
  | cisternStatus rq => exact execCisternStatus_kept (M := 17250648064) (Nat.or_self _) rq s
  | cisternConfig rq => exact execCisternConfig_kept (M := 17250779136) (Nat.or_self _) rq s
  | cisternSwap rq => exact execCisternSwap_kept (M := 17267621888) (Nat.or_self _) rq s
  | cisternRelease rq => exact execCisternRelease_kept (M := 17267621888) (Nat.or_self _) rq s
  | cisternIdentity rq => exact execCisternIdentity_kept (M := 17250648064) (Nat.or_self _) rq s
  | cisternRetireChallenge rq hwFault => exact execCisternRetireChallenge_kept (M := 51610517504) (Nat.or_self _) rq hwFault s
  | cisternRetire rq hwFault => exact execCisternRetire_kept (M := 17250779136) (Nat.or_self _) rq hwFault s
  | cisternRead rq hwFault => exact execCisternRead_kept (M := 51610386432) (Nat.or_self _) rq hwFault s
  | dramConfig rq => exact execDramConfig_kept (M := 17250910208) (Nat.or_self _) rq s
  | dramStatus rq => exact execDramStatus_kept (M := 17250648064) (Nat.or_self _) rq s
  | dramCapture rq => exact execDramCapture_kept (M := 17250648064) (Nat.or_self _) rq s
  | dramRecover rq => exact execDramRecover_kept (M := 17250910208) (Nat.or_self _) rq s
  | dramRead rq err => exact execDramRead_kept (M := 51627425792) (Nat.or_self _) rq err s
  | sumpSetReaction rq => exact execSumpSetReaction_kept (M := 17267425280) (Nat.or_self _) rq s
  | sumpClear rq => exact execSumpClear_kept (M := 17267425280) (Nat.or_self _) rq s
  | sumpSafeEnter rq => exact execSumpSafeEnter_kept (M := 51627166760) (Nat.or_self _) rq s
  | sumpSafeRelease rq => exact execSumpSafeRelease_kept (M := 17410080104) (Nat.or_self _) rq s
  | sumpInject rq => exact execSumpInject_kept (M := 17267425280) (Nat.or_self _) rq s
  | sumpStatus rq => exact execSumpStatus_kept (M := 17250648064) (Nat.or_self _) rq s
  | sumpConfig rq => exact execSumpConfig_kept (M := 17267425280) (Nat.or_self _) rq s
  | powerDomain rq => exact execPowerDomain_kept (M := 17300980740) (Nat.or_self _) rq s
  | domainSwitchDone d bistOk failMem => exact execDomainSwitchDone_kept (M := 52071628264) (Nat.or_self _) d bistOk failMem s
  | bankGroupOffTimeout g => exact execBankGroupOffTimeout_kept (M := 17283679232) (Nat.or_self _) g s
  | powerStatus rq => exact execPowerStatus_kept (M := 17250648064) (Nat.or_self _) rq s
  | powerChipReset rq => exact execPowerChipReset_kept (M := 51660852264) (Nat.or_self _) rq s
  | powerThermConfig rq => exact execPowerThermConfig_kept (M := 18324389888) (Nat.or_self _) rq s
  | powerGuardConfig rq => exact execPowerGuardConfig_kept (M := 17250844676) (Nat.or_self _) rq s
  | powerGuardStatus rq => exact execPowerGuardStatus_kept (M := 17250648064) (Nat.or_self _) rq s
  | powerSetCap rq => exact execPowerSetCap_kept (M := 17267425284) (Nat.or_self _) rq s
  | countersConfig rq => exact execCountersConfig_kept (M := 17250648064) (Nat.or_self _) rq s
  | countersSnapshot rq => exact execCountersSnapshot_kept (M := 17250648064) (Nat.or_self _) rq s
  | countersTeleConfig rq => exact execCountersTeleConfig_kept (M := 17250648064) (Nat.or_self _) rq s
  | countersTeleRead rq => exact execCountersTeleRead_kept (M := 17250648064) (Nat.or_self _) rq s
  | traceConfig rq => exact execTraceConfig_kept (M := 17384865792) (Nat.or_self _) rq s
  | traceRead rq => exact execTraceRead_kept (M := 17250648064) (Nat.or_self _) rq s
  | testPgc rq => exact execTestPgc_kept (M := 17519083520) (Nat.or_self _) rq s
  | testPgcStatus rq errors => exact execTestPgcStatus_kept (M := 17519083520) (Nat.or_self _) rq errors s
  | testMargin rq => exact execTestMargin_kept (M := 17519083520) (Nat.or_self _) rq s
  | marginDwellEnd lane bits errors => exact execMarginDwellEnd_kept (M := 17518559232) (Nat.or_self _) lane bits errors s
  | testMbist rq => exact execTestMbist_kept (M := 17712414184) (Nat.or_self _) rq s
  | tapReset => exact execTapReset_kept (M := 536870912) (Nat.or_self _) s
  | tapInstructionLoad ir => exact execTapInstructionLoad_kept (M := 536870912) (Nat.or_self _) ir s
  | frameStart p bytes phase => exact execFrameStart_kept (M := 16842985) (Nat.or_self _) p bytes phase s
  | holdingBufferDispatch => exact execHoldingBufferDispatch_kept (M := 160) (Nat.or_self _) s
  | cellAllocate f => exact execCellAllocate_kept (M := 17391682856) (Nat.or_self _) f s
  | launchLookup f err => exact execLaunchLookup_kept (M := 17408460072) (Nat.or_self _) f err s
  | confirmCompare f => exact execConfirmCompare_kept (M := 32) (Nat.or_self _) f s
  | oversizeCut f => exact execOversizeCut_kept (M := 17391683368) (Nat.or_self _) f s
  | ingressFrameEnd f fecCorr fecUncorr => exact execIngressFrameEnd_kept (M := 17391683368) (Nat.or_self _) f fecCorr fecUncorr s
  | parseCommit f => exact execParseCommit_kept (M := 17392930216) (Nat.or_self _) f s
  | fragAgeExpiry k => exact execFragAgeExpiry_kept (M := 128) (Nat.or_self _) k s
  | strainerLookup f => exact execStrainerLookup_kept (M := 67109152) (Nat.or_self _) f s
  | handleAgeExpiry b slot => exact execHandleAgeExpiry_kept (M := 288) (Nat.or_self _) b slot s
  | weirVerdict f => exact execWeirVerdict_kept (M := 17392733608) (Nat.or_self _) f s
  | forwardingResult f => exact execForwardingResult_kept (M := 67109536) (Nat.or_self _) f s
  | stompDecision f => exact execStompDecision_kept (M := 17392733480) (Nat.or_self _) f s
  | enqueue f => exact execEnqueue_kept (M := 17391728424) (Nat.or_self _) f s
  | egressSelect p phase => exact execEgressSelect_kept (M := 17391682856) (Nat.or_self _) p phase s
  | matcherRound => exact execMatcherRound_kept (M := 67109888) (Nat.or_self _) s
  | egressFrameEnd p err => exact execEgressFrameEnd_kept (M := 17392733480) (Nat.or_self _) p err s
  | bankGroupFail g cause => exact execBankGroupFail_kept (M := 16778272) (Nat.or_self _) g cause s
  | settleLimitDrop f => exact execSettleLimitDrop_kept (M := 17391682856) (Nat.or_self _) f s
  | orderRecord f => exact execOrderRecord_kept (M := 17247174688) (Nat.or_self _) f s
  | holdTimeout f => exact execHoldTimeout_kept (M := 17391684904) (Nat.or_self _) f s
  | pumpFail e kind => exact execPumpFail_kept (M := 17199857824) (Nat.or_self _) e kind s
  | goldenSelfCheck crcOk => exact execGoldenSelfCheck_kept (M := 17199857824) (Nat.or_self _) crcOk s
  | patchEngineLoad checksOk => exact execPatchEngineLoad_kept (M := 17267097760) (Nat.or_self _) checksOk s
  | pumpPatchStall => exact execPumpPatchStall_kept (M := 17199792256) (Nat.or_self _) s
  | tableBackgroundAccess t m err same => exact execTableBackgroundAccess_kept (M := 83886592) (Nat.or_self _) t m err same s
  | ruleFlushing unit automaton err => exact execRuleFlushing_kept (M := 16777472) (Nat.or_self _) unit automaton err s
  | directoryFlushing dir way err => exact execDirectoryFlushing_kept (M := 16779264) (Nat.or_self _) dir way err s
  | l2AgeSweep b => exact execL2AgeSweep_kept (M := 512) (Nat.or_self _) b s
  | strnUnitFail u => exact execStrnUnitFail_kept (M := 16777472) (Nat.or_self _) u s
  | windlassPeriod b => exact execWindlassPeriod_kept (M := 17250125824) (Nat.or_self _) b s
  | outputTileDone i t residueOk => exact execOutputTileDone_kept (M := 17266932736) (Nat.or_self _) i t residueOk s
  | exposureInstall => exact execExposureInstall_kept (M := 17250125824) (Nat.or_self _) s
  | windTileFail t => exact execWindTileFail_kept (M := 17266932736) (Nat.or_self _) t s
  | interpHandover diffPs => exact execInterpHandover_kept (M := 16777218) (Nat.or_self _) diffPs s
  | ppsInEdge phase => exact execPpsInEdge_kept (M := 17263951906) (Nat.or_self _) phase s
  | ppsLoss => exact execPpsLoss_kept (M := 17263951874) (Nat.or_self _) s
  | ptpMessage p bytes phase => exact execPtpMessage_kept (M := 51623690282) (Nat.or_self _) p bytes phase s
  | ptpReceiptTimeout i => exact execPtpReceiptTimeout_kept (M := 17263951874) (Nat.or_self _) i s
  | refInLoss => exact execRefInLoss_kept (M := 17263951874) (Nat.or_self _) s
  | holdoverLimit => exact execHoldoverLimit_kept (M := 17247174658) (Nat.or_self _) s
  | utcDayEnd => exact execUtcDayEnd_kept (M := 17247174658) (Nat.or_self _) s
  | ppsOut => exact execPpsOut_kept (M := 17179869184) (Nat.or_self _) s
  | witnessRound k phase => exact execWitnessRound_kept (M := 4096) (Nat.or_self _) k phase s
  | wReq k bytes phase => exact execWReq_kept (M := 4096) (Nat.or_self _) k bytes phase s
  | wResp k bytes phase => exact execWResp_kept (M := 17263955970) (Nat.or_self _) k bytes phase s
  | witnessMissed k => exact execWitnessMissed_kept (M := 4096) (Nat.or_self _) k s
  | sentinelRead preds => exact execSentinelRead_kept (M := 17263951876) (Nat.or_self _) preds s
  | latBoundReturn => exact execLatBoundReturn_kept (M := 17263951876) (Nat.or_self _) s
  | powerReading watts => exact execPowerReading_kept (M := 17196646404) (Nat.or_self _) watts s
  | guardPmbus acked => exact execGuardPmbus_kept (M := 17263951876) (Nat.or_self _) acked s
  | synthDrainDone q => exact execSynthDrainDone_kept (M := 16777240) (Nat.or_self _) q s
  | synthLock q => exact execSynthLock_kept (M := 17408460088) (Nat.or_self _) q s
  | settleResume p => exact execSettleResume_kept (M := 17179869192) (Nat.or_self _) p s
  | synthLockTimeout q => exact execSynthLockTimeout_kept (M := 16777240) (Nat.or_self _) q s
  | rpRecalDue q => exact execRpRecalDue_kept (M := 17408460088) (Nat.or_self _) q s
  | rpLinkDown p cause => exact execRpLinkDown_kept (M := 16777224) (Nat.or_self _) p cause s
  | linkUpDebounce p => exact execLinkUpDebounce_kept (M := 8) (Nat.or_self _) p s
  | anRestart p => exact execAnRestart_kept (M := 8) (Nat.or_self _) p s
  | pauseReceive p bytes => exact execPauseReceive_kept (M := 8) (Nat.or_self _) p bytes s
  | pauseExpire p cls => exact execPauseExpire_kept (M := 8) (Nat.or_self _) p cls s
  | pauseRefresh p => exact execPauseRefresh_kept (M := 17179869192) (Nat.or_self _) p s
  | lpiReceive p => exact execLpiReceive_kept (M := 8) (Nat.or_self _) p s
  | flitReceive k bytes bad => exact execFlitReceive_kept (M := 17409520936) (Nat.or_self _) k bytes bad s
  | ctrlFlit k bytes => exact execCtrlFlit_kept (M := 17409520936) (Nat.or_self _) k bytes s
  | flitSend k phase => exact execFlitSend_kept (M := 17391686952) (Nat.or_self _) k phase s
  | ctrlFlitDue k => exact execCtrlFlitDue_kept (M := 4096) (Nat.or_self _) k s
  | retryResend k => exact execRetryResend_kept (M := 4096) (Nat.or_self _) k s
  | replayTimeout k => exact execReplayTimeout_kept (M := 17179873280) (Nat.or_self _) k s
  | tsReceive k lane bytes => exact execTsReceive_kept (M := 17409520936) (Nat.or_self _) k lane bytes s
  | quiesceReceive k => exact execQuiesceReceive_kept (M := 4096) (Nat.or_self _) k s
  | quiesceGraceEnd k => exact execQuiesceGraceEnd_kept (M := 4096) (Nat.or_self _) k s
  | xlRecalDue k => exact execXlRecalDue_kept (M := 17196650496) (Nat.or_self _) k s
  | xlSynthLock k => exact execXlSynthLock_kept (M := 17179873280) (Nat.or_self _) k s
  | laneFail k lane => exact execLaneFail_kept (M := 17409520936) (Nat.or_self _) k lane s
  | degradeReceive k pair => exact execDegradeReceive_kept (M := 17266905088) (Nat.or_self _) k pair s
  | xlLinkDown k => exact execXlLinkDown_kept (M := 17409520936) (Nat.or_self _) k s
  | fastTrainingTimeout k => exact execFastTrainingTimeout_kept (M := 17409520936) (Nat.or_self _) k s
  | hailSend => exact execHailSend_kept (M := 4096) (Nat.or_self _) s
  | hail k bytes => exact execHail_kept (M := 16789504) (Nat.or_self _) k bytes s
  | rootElect => exact execRootElect_kept (M := 17266932736) (Nat.or_self _) s
  | adj k bytes => exact execAdj_kept (M := 17408472360) (Nat.or_self _) k bytes s
  | assign k bytes => exact execAssign_kept (M := 12288) (Nat.or_self _) k bytes s
  | lsa k bytes => exact execLsa_kept (M := 17391695144) (Nat.or_self _) k bytes s
  | installedSend => exact execInstalledSend_kept (M := 17266932736) (Nat.or_self _) s
  | installed k bytes => exact execInstalled_kept (M := 17266932736) (Nat.or_self _) k bytes s
  | convergeLimit => exact execConvergeLimit_kept (M := 17266932736) (Nat.or_self _) s
  | resume k bytes => exact execResume_kept (M := 17266932736) (Nat.or_self _) k bytes s
  | fabricMessage k vc half => exact execFabricMessage_kept (M := 17408472424) (Nat.or_self _) k vc half s
  | fabGap src vc => exact execFabGap_kept (M := 17408468328) (Nat.or_self _) src vc s
  | colMessage k bytes => exact execColMessage_kept (M := 17250155520) (Nat.or_self _) k bytes s
  | earlyArrivalStale i => exact execEarlyArrivalStale_kept (M := 16384) (Nat.or_self _) i s
  | collectiveTimeout slot => exact execCollectiveTimeout_kept (M := 17250155520) (Nat.or_self _) slot s
  | workRequestFetched q recv wqes data => exact execWorkRequestFetched_kept (M := 17409553768) (Nat.or_self _) q recv wqes data s
  | rdmaPacket via bytes data => exact execRdmaPacket_kept (M := 17409553768) (Nat.or_self _) via bytes data s
  | rdmaRetransmitTimeout q => exact execRdmaRetransmitTimeout_kept (M := 17409553768) (Nat.or_self _) q s
  | ackCoalesceTimeout q => exact execAckCoalesceTimeout_kept (M := 17409553768) (Nat.or_self _) q s
  | rnrTimer q => exact execRnrTimer_kept (M := 17409553768) (Nat.or_self _) q s
  | rdmaEngineFail e => exact execRdmaEngineFail_kept (M := 17409553768) (Nat.or_self _) e s
  | rdmaSqDb b v => exact execRdmaSqDb_kept (M := 17409553768) (Nat.or_self _) b v s
  | rdmaRqDb b v => exact execRdmaRqDb_kept (M := 17409553768) (Nat.or_self _) b v s
  | rdmaCqDb b v => exact execRdmaCqDb_kept (M := 67141632) (Nat.or_self _) b v s
  | rxDoorbell b r v => exact execRxDoorbell_kept (M := 17274241024) (Nat.or_self _) b r v s
  | txDoorbell b r v => exact execTxDoorbell_kept (M := 17274241024) (Nat.or_self _) b r v s
  | txDescFetched b r desc data => exact execTxDescFetched_kept (M := 17391682920) (Nat.or_self _) b r desc data s
  | hostDelivery bufs => exact execHostDelivery_kept (M := 17391682856) (Nat.or_self _) bufs s
  | rxWaitExpiry b r => exact execRxWaitExpiry_kept (M := 17391682856) (Nat.or_self _) b r s
  | itrTimer tx b r => exact execItrTimer_kept (M := 17190354944) (Nat.or_self _) tx b r s
  | sealDue b => exact execSealDue_kept (M := 17247174656) (Nat.or_self _) b s
  | pageHashDone b => exact execPageHashDone_kept (M := 65536) (Nat.or_self _) b s
  | sealSigned b selfOk => exact execSealSigned_kept (M := 17275551617) (Nat.or_self _) b selfOk s
  | pageWrite => exact execPageWrite_kept (M := 17275551617) (Nat.or_self _) s
  | zoneAppendComplete n i ok => exact execZoneAppendComplete_kept (M := 17275551617) (Nat.or_self _) n i ok s
  | stagingReadback err => exact execStagingReadback_kept (M := 17275551617) (Nat.or_self _) err s
  | ledgEngineFail e => exact execLedgEngineFail_kept (M := 16842752) (Nat.or_self _) e s
  | bayInsert n => exact execBayInsert_kept (M := 131072) (Nat.or_self _) n s
  | probeComplete n res => exact execProbeComplete_kept (M := 51556515840) (Nat.or_self _) n res s
  | probeLinkTimeout n => exact execProbeLinkTimeout_kept (M := 16908288) (Nat.or_self _) n s
  | bayRemove n => exact execBayRemove_kept (M := 17267097600) (Nat.or_self _) n s
  | latchOpen n => exact execLatchOpen_kept (M := 17267097600) (Nat.or_self _) n s
  | latchClose n => exact execLatchClose_kept (M := 131072) (Nat.or_self _) n s
  | switchReissue n => exact execSwitchReissue_kept (M := 17267097600) (Nat.or_self _) n s
  | lifeRead n ident => exact execLifeRead_kept (M := 17267097600) (Nat.or_self _) n ident s
  | asyncEvent n mediaError ident => exact execAsyncEvent_kept (M := 17267097600) (Nat.or_self _) n mediaError ident s
  | hkPeriod => exact execHkPeriod_kept (M := 17180000256) (Nat.or_self _) s
  | adminTimeout n => exact execAdminTimeout_kept (M := 17267097600) (Nat.or_self _) n s
  | appendStall n => exact execAppendStall_kept (M := 17267097600) (Nat.or_self _) n s
  | retireNonceExpiry n => exact execRetireNonceExpiry_kept (M := 131072) (Nat.or_self _) n s
  | bayLinkLoss n => exact execBayLinkLoss_kept (M := 17267097600) (Nat.or_self _) n s
  | dramRequest c client write addr data err => exact execDramRequest_kept (M := 17267163136) (Nat.or_self _) c client write addr data err s
  | srIdleExpiry c => exact execSrIdleExpiry_kept (M := 17180131328) (Nat.or_self _) c s
  | srEntryDone c => exact execSrEntryDone_kept (M := 17180131328) (Nat.or_self _) c s
  | refresh c => exact execRefresh_kept (M := 17180131328) (Nat.or_self _) c s
  | mr4Read c hottest aboveRated corrected => exact execMr4Read_kept (M := 17196908544) (Nat.or_self _) c hottest aboveRated corrected s
  | patrolScrub c err => exact execPatrolScrub_kept (M := 17267163136) (Nat.or_self _) c err s
  | driftUpdate c => exact execDriftUpdate_kept (M := 17180131328) (Nat.or_self _) c s
  | speedChangeDone c => exact execSpeedChangeDone_kept (M := 51626901504) (Nat.or_self _) c s
  | autoRecoverExpiry c => exact execAutoRecoverExpiry_kept (M := 262144) (Nat.or_self _) c s
  | recoveryDone c trainedOk => exact execRecoveryDone_kept (M := 51635552129) (Nat.or_self _) c trainedOk s
  | boot => exact execBoot_kept (M := 524288) (Nat.or_self _) s
  | startupComplete train => exact execStartupComplete_kept (M := 17238536212) (Nat.or_self _) train s
  | slotFallback => exact execSlotFallback_kept (M := 21495808) (Nat.or_self _) s
  | heartbeat run => exact execHeartbeat_kept (M := 201850880) (Nat.or_self _) run s
  | watchdog => exact execWatchdog_kept (M := 152567808) (Nat.or_self _) s
  | phTrap cause pc => exact execPhTrap_kept (M := 152567808) (Nat.or_self _) cause pc s
  | pumphouseIdle pc => exact execPumphouseIdle_kept (M := 134742016) (Nat.or_self _) pc s
  | pumphouseWake pc => exact execPumphouseWake_kept (M := 201850880) (Nat.or_self _) pc s
  | arbitrationLost bus => exact execArbitrationLost_kept (M := 17250648064) (Nat.or_self _) bus s
  | arbitrationBackoffEnd bus readBack env => exact execArbitrationBackoffEnd_kept (M := 17250648064) (Nat.or_self _) bus readBack env s
  | i2cBusStuck bus => exact execI2cBusStuck_kept (M := 17250648064) (Nat.or_self _) bus s
  | i2cNakRetry bus env => exact execI2cNakRetry_kept (M := 17250648064) (Nat.or_self _) bus env s
  | sumpLatch => exact execSumpLatch_kept (M := 51659672616) (Nat.or_self _) s
  | historyWrite => exact execHistoryWrite_kept (M := 17199792128) (Nat.or_self _) s
  | blockReset => exact execBlockReset_kept (M := 17410503976) (Nat.or_self _) s
  | chipRstDelayExpiry => exact execChipRstDelayExpiry_kept (M := 137438953471) (Nat.or_self _) s
  | killNAssert => exact execKillNAssert_kept (M := 51659672616) (Nat.or_self _) s
  | killNRelease => exact execKillNRelease_kept (M := 16777216) (Nat.or_self _) s
  | pwrfailNAssert => exact execPwrfailNAssert_kept (M := 51659803688) (Nat.or_self _) s
  | appendingStop => exact execAppendingStop_kept (M := 17712545256) (Nat.or_self _) s
  | lastGaspEnd => exact execLastGaspEnd_kept (M := 137438953471) (Nat.or_self _) s
  | pwrfailNRelease => exact execPwrfailNRelease_kept (M := 137438953471) (Nat.or_self _) s
  | porstN => exact execPorstN_kept (M := 137438953471) (Nat.or_self _) s
  | chipReset => exact execChipReset_kept (M := 137438953471) (Nat.or_self _) s
  | perstN => exact execPerstN_kept (M := 30294455656) (Nat.or_self _) s
  | supplyFault rail high => exact execSupplyFault_kept (M := 50331648) (Nat.or_self _) rail high s
  | sensorReading temps => exact execSensorReading_kept (M := 18270650368) (Nat.or_self _) temps s
  | telemetryCapture => exact execTelemetryCapture_kept (M := 67108864) (Nat.or_self _) s
  | traceLostPacket => exact execTraceLostPacket_kept (M := 134217728) (Nat.or_self _) s
  | rpBlockLock p ev => exact execRpBlockLock_kept (M := 16777224) (Nat.or_self _) p ev s
  | anComplete p fec => exact execAnComplete_kept (M := 16777224) (Nat.or_self _) p fec s
  | xlLaneLock k lane => exact execXlLaneLock_kept (M := 17179873280) (Nat.or_self _) k lane s
  | xlSynthTimeout k => exact execXlSynthTimeout_kept (M := 17409520936) (Nat.or_self _) k s
  | srExitDone c => exact execSrExitDone_kept (M := 51626901504) (Nat.or_self _) c s
  | pcieLinkDown fatal => exact execPcieLinkDown_kept (M := 4311744512) (Nat.or_self _) fatal s
  | destroySealTimeout b => exact execDestroySealTimeout_kept (M := 17409752425) (Nat.or_self _) b s
  | pgcLock lane lost errors => exact execPgcLock_kept (M := 268435456) (Nat.or_self _) lane lost errors s
  | ptpSyncInterval i announce phase => exact execPtpSyncInterval_kept (M := 51539607554) (Nat.or_self _) i announce phase s
  | refInReturn => exact execRefInReturn_kept (M := 17247174658) (Nat.or_self _) s

end Sys2Proof.Machine
end

