-- ==== Sys2Proof/Laws/KeepBays.lean ====
section
/-! SUPPORT. What leaves the state of the bays alone: their states, their switches, their pins and their outstanding appends (16_cistern.md R356). -/

namespace Sys2Proof.Machine

/-- What the rules of Table 16.1 speak of in a bay. -/
def Bay.key (x : Bay) : Nat × Option Nat × Bool × List Append := (x.st, x.draining, x.prsnt, x.out)

/-- The same of both bays. -/
def State.bays (s : State) : (Nat × Option Nat × Bool × List Append) × (Nat × Option Nat × Bool × List Append) := ((s.bayAt 0).key, (s.bayAt 1).key)

/-- What leaves the Cistern alone leaves them alone. -/
theorem bays_of_view {s t : State} {M : Nat} (h : t.view M = s.view M) (b : M.testBit 17 = false) : t.bays = s.bays := by
  have e := same_cist h b
  simp only [State.bays, State.bayAt, e]

/-- A choice. -/
theorem bays_ite {c : Prop} [Decidable c] {a b : State} : (if c then a else b).bays = if c then a.bays else b.bays := by
  split <;> rfl

/-- Steps over a list. -/
theorem foldl_bays {α : Type} {g : State → α → State} (h : ∀ s a, (g s a).bays = s.bays) (l : List α) (s : State) :
    (l.foldl g s).bays = s.bays := by
  induction l generalizing s with
  | nil => rfl
  | cons a l ih => rw [List.foldl_cons, ih, h]

/-- The state of a pair. -/
theorem fst_bays {α : Type} {p : State × α} {t : State} {b : α} (e : p = (t, b)) : t.bays = p.1.bays := by
  rw [e]

/-- Writing what no bay holds keeps them. -/
theorem bays_cist {s : State} {x : Cist} (h : x.bay = s.cist.bay) : { s with cist := x }.bays = s.bays := by
  simp only [State.bays, State.bayAt, h]

/-- Changing a bay but for what the rules speak of keeps them. -/
theorem onBay_bays (n : Nat) (g : Bay → Bay) (s : State) (h : ∀ x, (g x).key = x.key) : (onBay n g s).bays = s.bays := by
  simp only [State.bays, State.bayAt, onBay, Tab.look_upd]
  congr 1
  · split <;> rename_i e <;> simp [h, e]
  · split <;> rename_i e <;> simp [h, e]

/-- Changing what no bay holds keeps them. -/
theorem onCist_bays (g : Cist → Cist) (s : State) (h : (g s.cist).bay = s.cist.bay) : (onCist g s).bays = s.bays := bays_cist h

/-- Changing a cartridge keeps them. -/
theorem onCart_bays (n : Nat) (g : Cart → Cart) (s : State) : (onCart n g s).bays = s.bays :=
  onBay_bays n (fun x => { x with cart := x.cart.map g }) s (fun _ => rfl)

/-- An outcome's next state keeps them. -/
structure Keptbays (s : State) (o : Result) : Prop where
  /-- The next state, if there is one. -/
  agrees : ∀ t, o = .next t → t.bays = s.bays

/-- A reply's state keeps them. -/
def Reply.Keepsbays (s : State) : Reply → Prop
  | .ok t _ => t.bays = s.bays
  | .err _ => True
  | .failed t _ _ => t.bays = s.bays
  | .later t => t.bays = s.bays

/-- A next state. -/
theorem keptbays_next {s t : State} : Keptbays s (.next t) = (t.bays = s.bays) :=
  propext ⟨fun h => h.agrees t rfl, fun h => ⟨fun u hu => by cases hu; exact h⟩⟩

/-- An answer of OK. -/
theorem keepsbays_ok {s t : State} {p : List Byte} : Reply.Keepsbays s (.ok t p) = (t.bays = s.bays) := rfl

/-- A status that means no change. -/
theorem keepsbays_err {s : State} {e : Status} : Reply.Keepsbays s (.err e) = True := rfl

/-- A status with an effect. -/
theorem keepsbays_failed {s t : State} {e : Status} {p : List Byte} : Reply.Keepsbays s (.failed t e p) = (t.bays = s.bays) := rfl

/-- An answer that comes later. -/
theorem keepsbays_later {s t : State} : Reply.Keepsbays s (.later t) = (t.bays = s.bays) := rfl

/-- A choice of outcomes. -/
theorem keptbays_ite {s : State} {c : Prop} [Decidable c] {a b : Result} :
    Keptbays s (if c then a else b) = if c then Keptbays s a else Keptbays s b := by
  split <;> rfl

/-- A choice of replies. -/
theorem keepsbays_ite {s : State} {c : Prop} [Decidable c] {a b : Reply} :
    Reply.Keepsbays s (if c then a else b) = if c then Reply.Keepsbays s a else Reply.Keepsbays s b := by
  split <;> rfl

/-- A mailbox command keeps what its own effect keeps. -/
theorem serve_bays (c : CmdSpec) (rq : Req) {body : State → Reply} (h : ∀ s, (body s).Keepsbays s) (s : State) :
    Keptbays s (.next (serve c rq body s)) := by
  have ha : ∀ s, (accept rq c.code s).bays = s.bays := fun s => bays_of_view (accept_view (M := 68157440) rfl rq c.code s) rfl
  have hr : ∀ st fl p s, (respond rq.fn.val st fl p s).bays = s.bays :=
    fun st fl p s => bays_of_view (respond_view (M := 17250123776) rfl _ st fl p s) rfl
  rw [keptbays_next]
  unfold serve
  split
  · rfl
  · split
    · exact bays_of_view (overrun_view (M := 68681728) rfl _ s) rfl
    · refine Eq.trans ?_ (ha s)
      unfold dispatch
      split
      · exact hr _ _ _ _
      · split
        · exact hr _ _ _ _
        · have := h (accept rq c.code s)
          revert this
          cases body (accept rq c.code s) with
          | ok t p => exact fun k => (hr _ _ _ _).trans k
          | err st => exact fun _ => hr _ _ _ _
          | failed t st p => exact fun k => (hr _ _ _ _).trans k
          | later t => exact fun k => k

/-- Writing `glb` keeps them. -/
theorem bays_glb (s : State) (x) : { s with glb := x }.bays = s.bays := rfl

/-- Writing `tide` keeps them. -/
theorem bays_tide (s : State) (x) : { s with tide := x }.bays = s.bays := rfl

/-- Writing `guard` keeps them. -/
theorem bays_guard (s : State) (x) : { s with guard := x }.bays = s.bays := rfl

/-- Writing `port` keeps them. -/
theorem bays_port (s : State) (x) : { s with port := x }.bays = s.bays := rfl

/-- Writing `quad` keeps them. -/
theorem bays_quad (s : State) (x) : { s with quad := x }.bays = s.bays := rfl

/-- Writing `frames` keeps them. -/
theorem bays_frames (s : State) (x) : { s with frames := x }.bays = s.bays := rfl

/-- Writing `nextFrame` keeps them. -/
theorem bays_nextFrame (s : State) (x) : { s with nextFrame := x }.bays = s.bays := rfl

/-- Writing `pump` keeps them. -/
theorem bays_pump (s : State) (x) : { s with pump := x }.bays = s.bays := rfl

/-- Writing `strn` keeps them. -/
theorem bays_strn (s : State) (x) : { s with strn := x }.bays = s.bays := rfl

/-- Writing `fwd` keeps them. -/
theorem bays_fwd (s : State) (x) : { s with fwd := x }.bays = s.bays := rfl

/-- Writing `rsv` keeps them. -/
theorem bays_rsv (s : State) (x) : { s with rsv := x }.bays = s.bays := rfl

/-- Writing `weir` keeps them. -/
theorem bays_weir (s : State) (x) : { s with weir := x }.bays = s.bays := rfl

/-- Writing `xl` keeps them. -/
theorem bays_xl (s : State) (x) : { s with xl := x }.bays = s.bays := rfl

/-- Writing `fab` keeps them. -/
theorem bays_fab (s : State) (x) : { s with fab := x }.bays = s.bays := rfl

/-- Writing `shtl` keeps them. -/
theorem bays_shtl (s : State) (x) : { s with shtl := x }.bays = s.bays := rfl

/-- Writing `rdma` keeps them. -/
theorem bays_rdma (s : State) (x) : { s with rdma := x }.bays = s.bays := rfl

/-- Writing `ledg` keeps them. -/
theorem bays_ledg (s : State) (x) : { s with ledg := x }.bays = s.bays := rfl

/-- Writing `ddr` keeps them. -/
theorem bays_ddr (s : State) (x) : { s with ddr := x }.bays = s.bays := rfl

/-- Writing `ph` keeps them. -/
theorem bays_ph (s : State) (x) : { s with ph := x }.bays = s.bays := rfl

/-- Writing `mbx` keeps them. -/
theorem bays_mbx (s : State) (x) : { s with mbx := x }.bays = s.bays := rfl

/-- Writing `msix` keeps them. -/
theorem bays_msix (s : State) (x) : { s with msix := x }.bays = s.bays := rfl

/-- Writing `fuse` keeps them. -/
theorem bays_fuse (s : State) (x) : { s with fuse := x }.bays = s.bays := rfl

/-- Writing `host` keeps them. -/
theorem bays_host (s : State) (x) : { s with host := x }.bays = s.bays := rfl

/-- Writing `sump` keeps them. -/
theorem bays_sump (s : State) (x) : { s with sump := x }.bays = s.bays := rfl

/-- Writing `pwr` keeps them. -/
theorem bays_pwr (s : State) (x) : { s with pwr := x }.bays = s.bays := rfl

/-- Writing `pmon` keeps them. -/
theorem bays_pmon (s : State) (x) : { s with pmon := x }.bays = s.bays := rfl

/-- Writing `trace` keeps them. -/
theorem bays_trace (s : State) (x) : { s with trace := x }.bays = s.bays := rfl

/-- Writing `lane` keeps them. -/
theorem bays_lane (s : State) (x) : { s with lane := x }.bays = s.bays := rfl

/-- Writing `tap` keeps them. -/
theorem bays_tap (s : State) (x) : { s with tap := x }.bays = s.bays := rfl

/-- Writing `therm` keeps them. -/
theorem bays_therm (s : State) (x) : { s with therm := x }.bays = s.bays := rfl

/-- Writing `latch` keeps them. -/
theorem bays_latch (s : State) (x) : { s with latch := x }.bays = s.bays := rfl

/-- Writing `pcieDown` keeps them. -/
theorem bays_pcieDown (s : State) (x) : { s with pcieDown := x }.bays = s.bays := rfl

/-- Writing `vfEnable` keeps them. -/
theorem bays_vfEnable (s : State) (x) : { s with vfEnable := x }.bays = s.bays := rfl

/-- Writing `out` keeps them. -/
theorem bays_out (s : State) (x) : { s with out := x }.bays = s.bays := rfl

/-- Writing `free` keeps them. -/
theorem bays_free (s : State) (x) : { s with free := x }.bays = s.bays := rfl

/-- Writing `pending` keeps them. -/
theorem bays_pending (s : State) (x) : { s with pending := x }.bays = s.bays := rfl

/-- State.setPort keeps them. -/
theorem State.setPort_bays (s : State) (p : Nat) (v : Port) : (State.setPort s p v).bays = s.bays := by
  exact bays_of_view (State.setPort_view (M := 8) rfl s p v) rfl

/-- State.setBerth keeps them. -/
theorem State.setBerth_bays (s : State) (b : Nat) (v : Berth) : (State.setBerth s b v).bays = s.bays := by
  exact bays_of_view (State.setBerth_view (M := 1) rfl s b v) rfl

/-- emit keeps them. -/
theorem emit_bays (o : Out) (s : State) : (emit o s).bays = s.bays := by
  exact bays_of_view (emit_view (M := 17179869184) rfl o s) rfl

/-- drawn keeps them. -/
theorem drawn_bays (s : State) : (drawn s).bays = s.bays := by
  exact bays_of_view (drawn_view (M := 34359738368) rfl s) rfl

/-- count keeps them. -/
theorem count_bays (ev : Nat) (o : Occ) (n : Nat) (s : State) : (count ev o n s).bays = s.bays := by
  exact bays_of_view (count_view (M := 67108864) rfl ev o n s) rfl

/-- raise keeps them. -/
theorem raise_bays (src ev : Nat) (unit cause value : Nat) (berth : Option Nat) (s : State) : (raise src ev unit cause value berth s).bays = s.bays := by
  exact bays_of_view (raise_view (M := 16777216) rfl src ev unit cause value berth s) rfl

/-- finishOpt keeps them. -/
theorem finishOpt_bays (fn : Option Nat) (code : Nat) (st : Status) (payload : List Byte) (s : State) : (finishOpt fn code st payload s).bays = s.bays := by
  exact bays_of_view (finishOpt_view (M := 17250123776) rfl fn code st payload s) rfl

/-- State.setChain keeps them. -/
theorem State.setChain_bays (s : State) (b : Nat) (c : Chain) : (State.setChain s b c).bays = s.bays := by
  exact bays_of_view (State.setChain_view (M := 65536) rfl s b c) rfl



/-- revokeWindow keeps them. -/
theorem revokeWindow_bays (n : Nat) (s : State) : (revokeWindow n s).bays = s.bays := by
  unfold revokeWindow
  dsimp only
  split
  · rfl
  · split
    · refine (emit_bays _ _).trans ((onBay_bays _ _ _ ?_).trans (bays_cist rfl))
      intro _; rfl
    · refine (onBay_bays _ _ _ ?_).trans (bays_cist rfl)
      intro _; rfl

/-- revokeOpen keeps them. -/
theorem revokeOpen_bays (s : State) : (revokeOpen s).bays = s.bays := by
  unfold revokeOpen
  repeat' (first | with_reducible rfl | simp only [revokeWindow_bays, bays_ite, foldl_bays, ite_self] | split | refine (foldl_bays (fun s a => ?_) _ _).trans ?_ | (rename_i e; rw [fst_bays e]) | (rename_i e _; rw [fst_bays e]) | (rename_i e _ _; rw [fst_bays e]))

/-- closePage keeps them. -/
theorem closePage_bays (b : Nat) (awaitSig : Bool) (s : State) : (closePage b awaitSig s).bays = s.bays := by
  simp only [closePage, State.setChain_bays, revokeOpen_bays, bays_ledg, bays_ite, foldl_bays, ite_self]

/-- putSlot keeps them. -/
theorem putSlot_bays (b : Nat) (rcd : List Byte) (s : State) : (putSlot b rcd s).bays = s.bays := by
  simp only [putSlot, State.setChain_bays, closePage_bays, bays_ite, foldl_bays, ite_self]

/-- putRecord keeps them. -/
theorem putRecord_bays (b : Nat) (ty : Nat) (rcd : Nat → List Byte) (s : State) : (putRecord b ty rcd s).bays = s.bays := by
  simp only [putRecord, State.setChain_bays, count_bays, putSlot_bays, bays_ledg, bays_ite, foldl_bays, ite_self]

/-- putUnclassed keeps them. -/
theorem putUnclassed_bays (b : Nat) (s : State) : (putUnclassed b s).bays = s.bays := by
  simp only [putUnclassed, State.setChain_bays, putRecord_bays, bays_ite, foldl_bays, ite_self]

/-- padForSeal keeps them. -/
theorem padForSeal_bays (b : Nat) (s : State) : (padForSeal b s).bays = s.bays := by
  simp only [padForSeal, putSlot_bays, bays_ite, foldl_bays, ite_self]

/-- writeSeal keeps them. -/
theorem writeSeal_bays (b : Nat) (flags : Nat) (s : State) : (writeSeal b flags s).bays = s.bays := by
  simp only [writeSeal, State.setChain_bays, closePage_bays, count_bays, padForSeal_bays, putUnclassed_bays, bays_ledg, bays_ite, foldl_bays, ite_self]

/-- dueSeal keeps them. -/
theorem dueSeal_bays (b : Nat) (s : State) : (dueSeal b s).bays = s.bays := by
  simp only [dueSeal, State.setChain_bays, writeSeal_bays, bays_ite, foldl_bays, ite_self]

/-- sealOnAppend keeps them. -/
theorem sealOnAppend_bays (b : Nat) (s : State) : (sealOnAppend b s).bays = s.bays := by
  simp only [sealOnAppend, dueSeal_bays, bays_ite, foldl_bays, ite_self]

/-- append keeps them. -/
theorem append_bays (b : Nat) (ty flags info : Nat) (body : List Byte) (s : State) : (append b ty flags info body s).bays = s.bays := by
  simp only [append, State.setChain_bays, putRecord_bays, sealOnAppend_bays, bays_ite, foldl_bays, ite_self]

/-- appendAll keeps them. -/
theorem appendAll_bays (ty flags info : Nat) (body : List Byte) (s : State) : (appendAll ty flags info body s).bays = s.bays := by
  unfold appendAll
  repeat' (first | with_reducible rfl | simp only [append_bays, bays_ite, foldl_bays, ite_self] | split | refine (foldl_bays (fun s a => ?_) _ _).trans ?_ | (rename_i e; rw [fst_bays e]) | (rename_i e _; rw [fst_bays e]) | (rename_i e _ _; rw [fst_bays e]))

/-- drainWaiting keeps them. -/
theorem drainWaiting_bays (x0 : Nat) (x1 : Nat) (s : State) : (drainWaiting x0 x1 s).bays = s.bays := by
  induction x0 generalizing x1 s with
  | zero => rfl
  | succ n ih =>
    simp only [drainWaiting]
    repeat' (first | with_reducible rfl | simp only [State.setChain_bays, putRecord_bays, sealOnAppend_bays, bays_ite, foldl_bays, ite_self, ih] | split | refine (foldl_bays (fun s a => ?_) _ _).trans ?_ | (rename_i e; rw [fst_bays e]) | (rename_i e _; rw [fst_bays e]) | (rename_i e _ _; rw [fst_bays e]))

/-- closeSpan keeps them. -/
theorem closeSpan_bays (b : Nat) (s : State) : (closeSpan b s).bays = s.bays := by
  unfold closeSpan
  (try simp only [State.setChain_bays, append_bays, bays_ite, foldl_bays, ite_self]) <;> (repeat' split) <;> (try simp only [State.setChain_bays, append_bays, bays_ite, foldl_bays, ite_self]) <;> (repeat' split) <;> (try simp only [State.setChain_bays, append_bays, bays_ite, foldl_bays, ite_self])

/-- refreshFull keeps them. -/
theorem refreshFull_bays (b : Nat) (s : State) : (refreshFull b s).bays = s.bays := by
  simp only [refreshFull, State.setChain_bays, closeSpan_bays, drainWaiting_bays, bays_ite, foldl_bays, ite_self]

/-- sealNext keeps them. -/
theorem sealNext_bays (b : Nat) (s : State) : (sealNext b s).bays = s.bays := by
  simp only [sealNext, writeSeal_bays, bays_ite, foldl_bays, ite_self]

/-- spaceFreed keeps them. -/
theorem spaceFreed_bays (b : Nat) (s : State) : (spaceFreed b s).bays = s.bays := by
  simp only [spaceFreed, refreshFull_bays, sealNext_bays, bays_ite, foldl_bays, ite_self]

/-- reserveSlot keeps them. -/
theorem reserveSlot_bays (b : Nat) (s : State) : (reserveSlot b s).1.bays = s.bays := by
  unfold reserveSlot
  (try simp only [State.setChain_bays, refreshFull_bays, bays_ite, foldl_bays, ite_self]) <;> (repeat' split) <;> (try simp only [State.setChain_bays, refreshFull_bays, bays_ite, foldl_bays, ite_self]) <;> (repeat' split) <;> (try simp only [State.setChain_bays, refreshFull_bays, bays_ite, foldl_bays, ite_self])

/-- refuseFull keeps them. -/
theorem refuseFull_bays (b : Nat) (ts : Nat) (s : State) : (refuseFull b ts s).bays = s.bays := by
  exact bays_of_view (refuseFull_view (M := 65536) rfl b ts s) rfl

/-- skipSeq keeps them. -/
theorem skipSeq_bays (b : Nat) (s : State) : (skipSeq b s).bays = s.bays := by
  exact bays_of_view (skipSeq_view (M := 65536) rfl b s) rfl

/-- appendOrder keeps them. -/
theorem appendOrder_bays (b : Nat) (reserved : Bool) (rcd : Nat → List Byte) (s : State) : (appendOrder b reserved rcd s).bays = s.bays := by
  simp only [appendOrder, State.setChain_bays, putRecord_bays, refreshFull_bays, sealOnAppend_bays, skipSeq_bays, bays_ite, foldl_bays, ite_self]

/-- openChain keeps them. -/
theorem openChain_bays (b : Nat) (pub cert : List Byte) (s : State) : (openChain b pub cert s).bays = s.bays := by
  simp only [openChain, State.setChain_bays, putRecord_bays, putSlot_bays, bays_ite, foldl_bays, ite_self]

/-- newEpoch keeps them. -/
theorem newEpoch_bays (f : Tide → Tide) (s : State) : (newEpoch f s).bays = s.bays := by
  simp only [newEpoch, appendAll_bays, bays_tide, bays_ite, foldl_bays, ite_self]

/-- goFree keeps them. -/
theorem goFree_bays (f : Tide → Tide) (s : State) : (goFree f s).bays = s.bays := by
  simp only [goFree, newEpoch_bays, bays_ite, foldl_bays, ite_self]

/-- goHoldover keeps them. -/
theorem goHoldover_bays (f : Tide → Tide) (s : State) : (goHoldover f s).bays = s.bays := by
  simp only [goHoldover, goFree_bays, newEpoch_bays, raise_bays, bays_ite, foldl_bays, ite_self]

/-- disqualify keeps them. -/
theorem disqualify_bays (f : Tide → Tide) (s : State) : (disqualify f s).bays = s.bays := by
  unfold disqualify
  (try simp only [goFree_bays, goHoldover_bays, bays_tide, bays_ite, foldl_bays, ite_self]) <;> (repeat' split) <;> (try simp only [goFree_bays, goHoldover_bays, bays_tide, bays_ite, foldl_bays, ite_self]) <;> (repeat' split) <;> (try simp only [goFree_bays, goHoldover_bays, bays_tide, bays_ite, foldl_bays, ite_self])

/-- qualify keeps them. -/
theorem qualify_bays (s : State) : (qualify s).bays = s.bays := by
  unfold qualify
  (try simp only [newEpoch_bays, bays_tide, bays_ite, foldl_bays, ite_self]) <;> (repeat' split) <;> (try simp only [newEpoch_bays, bays_tide, bays_ite, foldl_bays, ite_self]) <;> (repeat' split) <;> (try simp only [newEpoch_bays, bays_tide, bays_ite, foldl_bays, ite_self])

/-- phaseStep keeps them. -/
theorem phaseStep_bays (off : Int) (s : State) : (phaseStep off s).bays = s.bays := by
  simp only [phaseStep, newEpoch_bays, bays_frames, bays_ite, foldl_bays, ite_self]

/-- servoUpdate keeps them. -/
theorem servoUpdate_bays (offFs : Int) (s : State) : (servoUpdate offFs s).bays = s.bays := by
  unfold servoUpdate
  (try simp only [disqualify_bays, newEpoch_bays, phaseStep_bays, raise_bays, bays_tide, bays_ite, foldl_bays, ite_self]) <;> (repeat' split) <;> (try simp only [disqualify_bays, newEpoch_bays, phaseStep_bays, raise_bays, bays_tide, bays_ite, foldl_bays, ite_self]) <;> (repeat' split) <;> (try simp only [disqualify_bays, newEpoch_bays, phaseStep_bays, raise_bays, bays_tide, bays_ite, foldl_bays, ite_self])

/-- applyUtc keeps them. -/
theorem applyUtc_bays (off : BitVec 16) (s : State) : (applyUtc off s).bays = s.bays := by
  simp only [applyUtc, newEpoch_bays, bays_tide, bays_ite, foldl_bays, ite_self]

/-- State.setPtp keeps them. -/
theorem State.setPtp_bays (s : State) (i : Nat) (v : PtpInst) : (State.setPtp s i v).bays = s.bays := by
  exact bays_of_view (State.setPtp_view (M := 2) rfl s i v) rfl

/-- ptpSynced keeps them. -/
theorem ptpSynced_bays (i : Nat) (t1 t2 : Int) (s : State) : (ptpSynced i t1 t2 s).bays = s.bays := by
  simp only [ptpSynced, State.setPtp_bays, qualify_bays, servoUpdate_bays, bays_ite, foldl_bays, ite_self]

/-- ptpAnnounce keeps them. -/
theorem ptpAnnounce_bays (i : Nat) (m : List Byte) (s : State) : (ptpAnnounce i m s).bays = s.bays := by
  simp only [ptpAnnounce, State.setPtp_bays, applyUtc_bays, bays_tide, bays_ite, foldl_bays, ite_self]

/-- ptpAsReceiver keeps them. -/
theorem ptpAsReceiver_bays (i p : Nat) (m : List Byte) (ts : Nat) (s : State) : (ptpAsReceiver i p m ts s).bays = s.bays := by
  unfold ptpAsReceiver
  (try simp only [State.setPtp_bays, ptpAnnounce_bays, ptpSynced_bays, bays_ite, foldl_bays, ite_self]) <;> (repeat' split) <;> (try simp only [State.setPtp_bays, ptpAnnounce_bays, ptpSynced_bays, bays_ite, foldl_bays, ite_self]) <;> (repeat' split) <;> (try simp only [State.setPtp_bays, ptpAnnounce_bays, ptpSynced_bays, bays_ite, foldl_bays, ite_self])

/-- ptpPeer keeps them. -/
theorem ptpPeer_bays (i p : Nat) (m : List Byte) (ts : Nat) (s : State) : (ptpPeer i p m ts s).bays = s.bays := by
  exact bays_of_view (ptpPeer_view (M := 17179869186) rfl i p m ts s) rfl

/-- ptpAsTransmitter keeps them. -/
theorem ptpAsTransmitter_bays (i p : Nat) (m : List Byte) (ts : Nat) (s : State) : (ptpAsTransmitter i p m ts s).bays = s.bays := by
  exact bays_of_view (ptpAsTransmitter_view (M := 17179869184) rfl i p m ts s) rfl

/-- ptpManagement keeps them. -/
theorem ptpManagement_bays (i p : Nat) (m : List Byte) (s : State) : (ptpManagement i p m s).bays = s.bays := by
  exact bays_of_view (ptpManagement_view (M := 51539607552) rfl i p m s) rfl

/-- ptpHandle keeps them. -/
theorem ptpHandle_bays (i p : Nat) (m : List Byte) (ts : Nat) (s : State) : (ptpHandle i p m ts s).bays = s.bays := by
  unfold ptpHandle
  (try simp only [ptpAsReceiver_bays, ptpAsTransmitter_bays, ptpManagement_bays, ptpPeer_bays, bays_ite, foldl_bays, ite_self]) <;> (repeat' split) <;> (try simp only [ptpAsReceiver_bays, ptpAsTransmitter_bays, ptpManagement_bays, ptpPeer_bays, bays_ite, foldl_bays, ite_self]) <;> (repeat' split) <;> (try simp only [ptpAsReceiver_bays, ptpAsTransmitter_bays, ptpManagement_bays, ptpPeer_bays, bays_ite, foldl_bays, ite_self])

/-- ptpLost keeps them. -/
theorem ptpLost_bays (i : Nat) (s : State) : (ptpLost i s).bays = s.bays := by
  simp only [ptpLost, State.setPtp_bays, disqualify_bays, raise_bays, bays_ite, foldl_bays, ite_self]

/-- onFrame keeps them. -/
theorem onFrame_bays (f : Nat) (g : Frame → Frame) (s : State) : (onFrame f g s).bays = s.bays := by
  exact bays_of_view (onFrame_view (M := 32) rfl f g s) rfl

/-- onXl keeps them. -/
theorem onXl_bays (k : Nat) (g : Xl → Xl) (s : State) : (onXl k g s).bays = s.bays := by
  exact bays_of_view (onXl_view (M := 4096) rfl k g s) rfl

/-- dropFrame keeps them. -/
theorem dropFrame_bays (f : Nat) (s : State) : (dropFrame f s).bays = s.bays := by
  exact bays_of_view (dropFrame_view (M := 32) rfl f s) rfl

/-- finalize keeps them. -/
theorem finalize_bays (f : Nat) (s : State) : (finalize f s).bays = s.bays := by
  exact bays_of_view (finalize_view (M := 17391681824) rfl f s) rfl

/-- rejectHeld keeps them. -/
theorem rejectHeld_bays (f reason : Nat) (s : State) : (rejectHeld f reason s).bays = s.bays := by
  exact bays_of_view (rejectHeld_view (M := 17391684904) rfl f reason s) rfl

/-- acceptHeld keeps them. -/
theorem acceptHeld_bays (f : Nat) (upd : Option Updates) (create : Option Nat) (s : State) : (acceptHeld f upd create s).bays = s.bays := by
  exact bays_of_view (acceptHeld_view (M := 17391697704) rfl f upd create s) rfl

/-- onPump keeps them. -/
theorem onPump_bays (g : Pump → Pump) (s : State) : (onPump g s).bays = s.bays := by
  exact bays_of_view (onPump_view (M := 128) rfl g s) rfl

/-- onEngine keeps them. -/
theorem onEngine_bays (e : Nat) (g : Engine → Engine) (s : State) : (onEngine e g s).bays = s.bays := by
  exact bays_of_view (onEngine_view (M := 128) rfl e g s) rfl

/-- onStrnB keeps them. -/
theorem onStrnB_bays (b : Nat) (g : StrnB → StrnB) (s : State) : (onStrnB b g s).bays = s.bays := by
  exact bays_of_view (onStrnB_view (M := 256) rfl b g s) rfl

/-- settleSet keeps them. -/
theorem settleSet_bays (b : Nat) (s : State) : (settleSet b s).bays = s.bays := by
  exact bays_of_view (settleSet_view (M := 256) rfl b s) rfl

/-- reserveFor keeps them. -/
theorem reserveFor_bays (f : Nat) (s : State) : (reserveFor f s).bays = s.bays := by
  simp only [reserveFor, onFrame_bays, refuseFull_bays, reserveSlot_bays, bays_ite, foldl_bays, ite_self]

/-- countParse keeps them. -/
theorem countParse_bays (f : Nat) (r : Parsed) (s : State) : (countParse f r s).bays = s.bays := by
  exact bays_of_view (countParse_view (M := 67108992) rfl f r s) rfl

/-- commitFrag keeps them. -/
theorem commitFrag_bays (f : Nat) (r : Parsed) (s : State) : (commitFrag f r s).bays = s.bays := by
  exact bays_of_view (commitFrag_view (M := 17392733608) rfl f r s) rfl

/-- commit keeps them. -/
theorem commit_bays (f e : Nat) (r : Parsed) (s : State) : (commit f e r s).bays = s.bays := by
  simp only [commit, commitFrag_bays, countParse_bays, finalize_bays, onEngine_bays, onFrame_bays, reserveFor_bays, bays_ite, foldl_bays, ite_self]

/-- execParseCommit keeps them. -/
theorem execParseCommit_bays (f : Nat) (s : State) : Keptbays s (execParseCommit f s) := by
  unfold execParseCommit
  (try simp only [commit_bays, bays_ite, foldl_bays, ite_self, keptbays_ite, keepsbays_ite, keptbays_next, keepsbays_ok, keepsbays_err, keepsbays_failed, keepsbays_later]) <;> (repeat' split) <;> (try simp only [commit_bays, bays_ite, foldl_bays, ite_self, keptbays_ite, keepsbays_ite, keptbays_next, keepsbays_ok, keepsbays_err, keepsbays_failed, keepsbays_later]) <;> (repeat' split) <;> (try simp only [commit_bays, bays_ite, foldl_bays, ite_self, keptbays_ite, keepsbays_ite, keptbays_next, keepsbays_ok, keepsbays_err, keepsbays_failed, keepsbays_later])

/-- execOrderRecord keeps them. -/
theorem execOrderRecord_bays (f : Nat) (s : State) : Keptbays s (execOrderRecord f s) := by
  unfold execOrderRecord
  simp only [appendOrder_bays, dropFrame_bays, bays_ite, foldl_bays, ite_self, keptbays_ite, keepsbays_ite, keptbays_next, keepsbays_ok, keepsbays_err, keepsbays_failed, keepsbays_later]

/-- loadEngine keeps them. -/
theorem loadEngine_bays (e : Nat) (s : State) : (loadEngine e s).bays = s.bays := by
  exact bays_of_view (loadEngine_view (M := 128) rfl e s) rfl

/-- failEngine keeps them. -/
theorem failEngine_bays (e cause : Nat) (s : State) : (failEngine e cause s).bays = s.bays := by
  exact bays_of_view (failEngine_view (M := 17199857824) rfl e cause s) rfl

/-- readmitPatched keeps them. -/
theorem readmitPatched_bays (e : Nat) (s : State) : (readmitPatched e s).bays = s.bays := by
  exact bays_of_view (readmitPatched_view (M := 17183015040) rfl e s) rfl

/-- execPatchEngineLoad keeps them. -/
theorem execPatchEngineLoad_bays (checksOk : Bool) (s : State) : Keptbays s (execPatchEngineLoad checksOk s) := by
  unfold execPatchEngineLoad
  (try simp only [appendAll_bays, failEngine_bays, loadEngine_bays, onPump_bays, readmitPatched_bays, bays_ite, foldl_bays, ite_self, keptbays_ite, keepsbays_ite, keptbays_next, keepsbays_ok, keepsbays_err, keepsbays_failed, keepsbays_later]) <;> (repeat' split) <;> (try simp only [appendAll_bays, failEngine_bays, loadEngine_bays, onPump_bays, readmitPatched_bays, bays_ite, foldl_bays, ite_self, keptbays_ite, keepsbays_ite, keptbays_next, keepsbays_ok, keepsbays_err, keepsbays_failed, keepsbays_later]) <;> (repeat' split) <;> (try simp only [appendAll_bays, failEngine_bays, loadEngine_bays, onPump_bays, readmitPatched_bays, bays_ite, foldl_bays, ite_self, keptbays_ite, keepsbays_ite, keptbays_next, keepsbays_ok, keepsbays_err, keepsbays_failed, keepsbays_later])

/-- qpError keeps them. -/
theorem qpError_bays (q status : Nat) (s : State) : (qpError q status s).bays = s.bays := by
  exact bays_of_view (qpError_view (M := 17266933760) rfl q status s) rfl

/-- rdmaSettle keeps them. -/
theorem rdmaSettle_bays (s : State) : (rdmaSettle s).bays = s.bays := by
  exact bays_of_view (rdmaSettle_view (M := 17409553768) rfl s) rfl

/-- onRdmaB keeps them. -/
theorem onRdmaB_bays (b : Nat) (g : RdmaB → RdmaB) (s : State) : (onRdmaB b g s).bays = s.bays := by
  exact bays_of_view (onRdmaB_view (M := 32768) rfl b g s) rfl

/-- resetRings keeps them. -/
theorem resetRings_bays (b : Nat) (s : State) : (resetRings b s).bays = s.bays := by
  exact bays_of_view (resetRings_view (M := 17391682856) rfl b s) rfl

/-- execStrainerPatternCommit keeps them. -/
theorem execStrainerPatternCommit_bays (rq : Req) (s : State) : Keptbays s (execStrainerPatternCommit rq s) := by
  unfold execStrainerPatternCommit
  refine serve_bays _ _ (fun s => ?_) s
  simp only [append_bays, onStrnB_bays, settleSet_bays, bays_ite, foldl_bays, ite_self, keptbays_ite, keepsbays_ite, keptbays_next, keepsbays_ok, keepsbays_err, keepsbays_failed, keepsbays_later]

/-- onBerth keeps them. -/
theorem onBerth_bays (b : Nat) (g : Berth → Berth) (s : State) : (onBerth b g s).bays = s.bays := by
  exact bays_of_view (onBerth_view (M := 1) rfl b g s) rfl

/-- genRecords keeps them. -/
theorem genRecords_bays (b : Nat) (s : State) : (genRecords b s).bays = s.bays := by
  unfold genRecords
  repeat' (first | with_reducible rfl | simp only [append_bays, bays_ite, foldl_bays, ite_self] | split | refine (foldl_bays (fun s a => ?_) _ _).trans ?_ | (rename_i e; rw [fst_bays e]) | (rename_i e _; rw [fst_bays e]) | (rename_i e _ _; rw [fst_bays e]))

/-- freshSettings keeps them. -/
theorem freshSettings_bays (b posBase : Nat) (s : State) : (freshSettings b posBase s).bays = s.bays := by
  exact bays_of_view (freshSettings_view (M := 8390656) rfl b posBase s) rfl

/-- makeBerth keeps them. -/
theorem makeBerth_bays (b : Nat) (rq : Req) (place : Nat × Nat × Nat) (s : State) : (makeBerth b rq place s).bays = s.bays := by
  simp only [makeBerth, State.setBerth_bays, drawn_bays, freshSettings_bays, genRecords_bays, onRdmaB_bays, openChain_bays, bays_ite, foldl_bays, ite_self]

/-- execBerthCreate keeps them. -/
theorem execBerthCreate_bays (rq : Req) (keyOk : Bool) (s : State) : Keptbays s (execBerthCreate rq keyOk s) := by
  unfold execBerthCreate
  refine serve_bays _ _ (fun s => ?_) s
  (try simp only [makeBerth_bays, bays_ite, foldl_bays, ite_self, keptbays_ite, keepsbays_ite, keptbays_next, keepsbays_ok, keepsbays_err, keepsbays_failed, keepsbays_later]) <;> (repeat' split) <;> (try simp only [makeBerth_bays, bays_ite, foldl_bays, ite_self, keptbays_ite, keepsbays_ite, keptbays_next, keepsbays_ok, keepsbays_err, keepsbays_failed, keepsbays_later]) <;> (repeat' split) <;> (try simp only [makeBerth_bays, bays_ite, foldl_bays, ite_self, keptbays_ite, keepsbays_ite, keptbays_next, keepsbays_ok, keepsbays_err, keepsbays_failed, keepsbays_later])

/-- resetBerth keeps them. -/
theorem resetBerth_bays (b info : Nat) (s : State) : (resetBerth b info s).bays = s.bays := by
  unfold resetBerth
  repeat' (first | with_reducible rfl | simp only [append_bays, qpError_bays, rdmaSettle_bays, resetRings_bays, bays_ite, foldl_bays, ite_self] | split | refine (foldl_bays (fun s a => ?_) _ _).trans ?_ | (rename_i e; rw [fst_bays e]) | (rename_i e _; rw [fst_bays e]) | (rename_i e _ _; rw [fst_bays e]))

/-- resetMbx keeps them. -/
theorem resetMbx_bays (fn : Nat) (keep : Bool) (s : State) : (resetMbx fn keep s).bays = s.bays := by
  exact bays_of_view (resetMbx_view (M := 1048576) rfl fn keep s) rfl

/-- execBerthReset keeps them. -/
theorem execBerthReset_bays (rq : Req) (s : State) : Keptbays s (execBerthReset rq s) := by
  unfold execBerthReset
  refine serve_bays _ _ (fun s => ?_) s
  simp only [resetBerth_bays, resetMbx_bays, bays_ite, foldl_bays, ite_self, keptbays_ite, keepsbays_ite, keptbays_next, keepsbays_ok, keepsbays_err, keepsbays_failed, keepsbays_later]

/-- execFunctionLevelReset keeps them. -/
theorem execFunctionLevelReset_bays (b : Fin 16) (s : State) : Keptbays s (execFunctionLevelReset b s) := by
  unfold execFunctionLevelReset
  simp only [resetBerth_bays, resetMbx_bays, bays_msix, bays_ite, foldl_bays, ite_self, keptbays_ite, keepsbays_ite, keptbays_next, keepsbays_ok, keepsbays_err, keepsbays_failed, keepsbays_later]

/-- finishMove keeps them. -/
theorem finishMove_bays (b : Nat) (x0 : Nat) (s : State) : (finishMove b x0 s).bays = s.bays := by
  exact bays_of_view (finishMove_view (M := 17250124032) rfl b x0 s) rfl

/-- dropQueued keeps them. -/
theorem dropQueued_bays (b : Nat) (s : State) : (dropQueued b s).bays = s.bays := by
  exact bays_of_view (dropQueued_view (M := 17391682856) rfl b s) rfl

/-- writeRecords keeps them. -/
theorem writeRecords_bays (b : Nat) (s : State) : (writeRecords b s).bays = s.bays := by
  unfold writeRecords
  repeat' (first | with_reducible rfl | simp only [appendOrder_bays, dropFrame_bays, bays_ite, foldl_bays, ite_self] | split | refine (foldl_bays (fun s a => ?_) _ _).trans ?_ | (rename_i e; rw [fst_bays e]) | (rename_i e _; rw [fst_bays e]) | (rename_i e _ _; rw [fst_bays e]))

/-- endDestroy keeps them. -/
theorem endDestroy_bays (b : Nat) (s : State) : (endDestroy b s).bays = s.bays := by
  exact bays_of_view (endDestroy_view (M := 17258643329) rfl b s) rfl

/-- finalSeal keeps them. -/
theorem finalSeal_bays (b : Nat) (s : State) : (finalSeal b s).bays = s.bays := by
  simp only [finalSeal, onBerth_bays, writeSeal_bays, bays_ite, foldl_bays, ite_self]

/-- afterDrain keeps them. -/
theorem afterDrain_bays (b : Nat) (s : State) : (afterDrain b s).bays = s.bays := by
  unfold afterDrain
  repeat' (first | with_reducible rfl | simp only [dropQueued_bays, finalSeal_bays, qpError_bays, rdmaSettle_bays, rejectHeld_bays, writeRecords_bays, bays_ite, foldl_bays, ite_self] | split | refine (foldl_bays (fun s a => ?_) _ _).trans ?_ | (rename_i e; rw [fst_bays e]) | (rename_i e _; rw [fst_bays e]) | (rename_i e _ _; rw [fst_bays e]))

/-- resumeDestroy keeps them. -/
theorem resumeDestroy_bays (b : Nat) (s : State) : (resumeDestroy b s).bays = s.bays := by
  simp only [resumeDestroy, endDestroy_bays, finalSeal_bays, onBerth_bays, bays_ite, foldl_bays, ite_self]

/-- execBerthDestroy keeps them. -/
theorem execBerthDestroy_bays (rq : Req) (s : State) : Keptbays s (execBerthDestroy rq s) := by
  unfold execBerthDestroy
  refine serve_bays _ _ (fun s => ?_) s
  simp only [afterDrain_bays, endDestroy_bays, finishMove_bays, onBerth_bays, resumeDestroy_bays, bays_ite, foldl_bays, ite_self, keptbays_ite, keepsbays_ite, keptbays_next, keepsbays_ok, keepsbays_err, keepsbays_failed, keepsbays_later]

/-- execDestroyDrainTimeout keeps them. -/
theorem execDestroyDrainTimeout_bays (b : Fin 16) (s : State) : Keptbays s (execDestroyDrainTimeout b s) := by
  unfold execDestroyDrainTimeout
  simp only [afterDrain_bays, bays_ite, foldl_bays, ite_self, keptbays_ite, keepsbays_ite, keptbays_next, keepsbays_ok, keepsbays_err, keepsbays_failed, keepsbays_later]

/-- execDestroySealTimeout keeps them. -/
theorem execDestroySealTimeout_bays (b : Fin 16) (s : State) : Keptbays s (execDestroySealTimeout b s) := by
  unfold execDestroySealTimeout
  simp only [afterDrain_bays, finishOpt_bays, onBerth_bays, bays_ite, foldl_bays, ite_self, keptbays_ite, keepsbays_ite, keptbays_next, keepsbays_ok, keepsbays_err, keepsbays_failed, keepsbays_later]



/-- onLedg keeps them. -/
theorem onLedg_bays (g : Ledg → Ledg) (s : State) : (onLedg g s).bays = s.bays := by
  exact bays_of_view (onLedg_view (M := 65536) rfl g s) rfl

/-- onChain keeps them. -/
theorem onChain_bays (b : Nat) (g : Chain → Chain) (s : State) : (onChain b g s).bays = s.bays := by
  exact bays_of_view (onChain_view (M := 65536) rfl b g s) rfl



/-- cistEvent keeps them. -/
theorem cistEvent_bays (ev n cause : Nat) (s : State) : (cistEvent ev n cause s).bays = s.bays := by
  exact bays_of_view (cistEvent_view (M := 16777216) rfl ev n cause s) rfl

/-- checkCap keeps them. -/
theorem checkCap_bays (n : Nat) (s : State) : (checkCap n s).bays = s.bays := by
  unfold checkCap
  dsimp only
  split
  · exact (cistEvent_bays _ _ _ _).trans (onBay_bays n _ s (fun _ => rfl))
  · rfl

/-- openZone keeps them. -/
theorem openZone_bays (n : Nat) (s : State) : (openZone n s).bays = s.bays :=
  (checkCap_bays _ _).trans ((emit_bays _ _).trans (onCart_bays _ _ _))

/-- flushBay keeps them. -/
theorem flushBay_bays (n : Nat) (s : State) : (flushBay n s).bays = s.bays := by
  unfold flushBay
  (try simp only [emit_bays, onCart_bays, openZone_bays, bays_ite, foldl_bays, ite_self]) <;> (repeat' split) <;> (try simp only [emit_bays, onCart_bays, openZone_bays, bays_ite, foldl_bays, ite_self]) <;> (repeat' split) <;> (try simp only [emit_bays, onCart_bays, openZone_bays, bays_ite, foldl_bays, ite_self])

/-- endRelease keeps them. -/
theorem endRelease_bays (n : Nat) (st : Status) (s : State) : (endRelease n st s).bays = s.bays :=
  (finishOpt_bays _ _ _ _ _).trans (onBay_bays n _ s (fun _ => rfl))

/-- endSwap keeps them. -/
theorem endSwap_bays (st : Status) (s : State) : (endSwap st s).bays = s.bays :=
  (finishOpt_bays _ _ _ _ _).trans (bays_cist rfl)

/-- freePage keeps them. -/
theorem freePage_bays (b no : Nat) (s : State) : (freePage b no s).bays = s.bays := by
  simp only [freePage, onChain_bays, onLedg_bays, resumeDestroy_bays, spaceFreed_bays, bays_ite, foldl_bays, ite_self]

/-- execLedgerConfig keeps them. -/
theorem execLedgerConfig_bays (rq : Req) (s : State) : Keptbays s (execLedgerConfig rq s) := by
  unfold execLedgerConfig
  refine serve_bays _ _ (fun s => ?_) s
  simp only [closeSpan_bays, onChain_bays, bays_ite, foldl_bays, ite_self, keptbays_ite, keepsbays_ite, keptbays_next, keepsbays_ok, keepsbays_err, keepsbays_failed, keepsbays_later]

/-- execLedgerSealNow keeps them. -/
theorem execLedgerSealNow_bays (rq : Req) (s : State) : Keptbays s (execLedgerSealNow rq s) := by
  unfold execLedgerSealNow
  refine serve_bays _ _ (fun s => ?_) s
  simp only [dueSeal_bays, onChain_bays, bays_ite, foldl_bays, ite_self, keptbays_ite, keepsbays_ite, keptbays_next, keepsbays_ok, keepsbays_err, keepsbays_failed, keepsbays_later]

/-- execSealDue keeps them. -/
theorem execSealDue_bays (b : Fin 16) (s : State) : Keptbays s (execSealDue b s) := by
  unfold execSealDue
  simp only [dueSeal_bays, onChain_bays, bays_ite, foldl_bays, ite_self, keptbays_ite, keepsbays_ite, keptbays_next, keepsbays_ok, keepsbays_err, keepsbays_failed, keepsbays_later]

/-- answerSeals keeps them. -/
theorem answerSeals_bays (b : Nat) (s : State) : (answerSeals b s).bays = s.bays := by
  exact bays_of_view (answerSeals_view (M := 17250189312) rfl b s) rfl

/-- sealDone keeps them. -/
theorem sealDone_bays (b : Nat) (p : Page) (s : State) : (sealDone b p s).bays = s.bays := by
  simp only [sealDone, answerSeals_bays, onChain_bays, onLedg_bays, resumeDestroy_bays, sealNext_bays, bays_ite, foldl_bays, ite_self]

/-- execSealSigned keeps them. -/
theorem execSealSigned_bays (b : Fin 16) (selfOk : Bool) (s : State) : Keptbays s (execSealSigned b selfOk s) := by
  unfold execSealSigned
  (try simp only [onChain_bays, raise_bays, sealDone_bays, bays_ite, foldl_bays, ite_self, keptbays_ite, keepsbays_ite, keptbays_next, keepsbays_ok, keepsbays_err, keepsbays_failed, keepsbays_later]) <;> (repeat' split) <;> (try simp only [onChain_bays, raise_bays, sealDone_bays, bays_ite, foldl_bays, ite_self, keptbays_ite, keepsbays_ite, keptbays_next, keepsbays_ok, keepsbays_err, keepsbays_failed, keepsbays_later]) <;> (repeat' split) <;> (try simp only [onChain_bays, raise_bays, sealDone_bays, bays_ite, foldl_bays, ite_self, keptbays_ite, keepsbays_ite, keptbays_next, keepsbays_ok, keepsbays_err, keepsbays_failed, keepsbays_later])

/-- stagePage keeps them. -/
theorem stagePage_bays (p : Page) (s : State) : (stagePage p s).bays = s.bays := by
  simp only [stagePage, onChain_bays, onLedg_bays, resumeDestroy_bays, spaceFreed_bays, bays_ite, foldl_bays, ite_self]

/-- losePage keeps them. -/
theorem losePage_bays (p : Page) (s : State) : (losePage p s).bays = s.bays := by
  simp only [losePage, append_bays, freePage_bays, onLedg_bays, raise_bays, bays_ite, foldl_bays, ite_self]

/-- loseStaged keeps them. -/
theorem loseStaged_bays (s : State) : (loseStaged s).bays = s.bays := by
  unfold loseStaged
  repeat' (first | with_reducible rfl | simp only [losePage_bays, bays_ite, foldl_bays, ite_self] | split | refine (foldl_bays (fun s a => ?_) _ _).trans ?_ | (rename_i e; rw [fst_bays e]) | (rename_i e _; rw [fst_bays e]) | (rename_i e _ _; rw [fst_bays e]))

/-- execCisternConfig keeps them. -/
theorem execCisternConfig_bays (rq : Req) (s : State) : Keptbays s (execCisternConfig rq s) := by
  unfold execCisternConfig
  refine serve_bays _ _ (fun s => ?_) s
  dsimp only
  split
  · trivial
  · exact bays_cist rfl

/-- execCisternRetireChallenge keeps them. -/
theorem execCisternRetireChallenge_bays (rq : Req) (hwFault : Bool) (s : State) : Keptbays s (execCisternRetireChallenge rq hwFault s) := by
  unfold execCisternRetireChallenge
  refine serve_bays _ _ (fun s => ?_) s
  dsimp only
  split
  · trivial
  · split
    · trivial
    · split
      · trivial
      · refine (emit_bays _ _).trans ((drawn_bays _).trans (onBay_bays _ _ s ?_))
        intro _; rfl

/-- lifeWarnings keeps them. -/
theorem lifeWarnings_bays (n : Nat) (life : Nat) (s : State) : (lifeWarnings n life s).bays = s.bays := by
  unfold lifeWarnings
  dsimp only
  refine (onBay_bays n _ _ ?_).trans ?_
  · intro _; rfl
  split <;> split <;> simp only [cistEvent_bays]

/-- grantWindow keeps them. -/
theorem grantWindow_bays (us n : Nat) (s : State) : (grantWindow us n s).bays = s.bays := by
  unfold grantWindow
  split
  · exact (emit_bays _ _).trans (onBay_bays n _ s (fun _ => rfl))
  · rfl

/-- execHkPeriod keeps them. -/
theorem execHkPeriod_bays (s : State) : Keptbays s (execHkPeriod s) := by
  have r : (List.foldl (fun s n => revokeWindow n s) s [0, 1]).bays = s.bays := foldl_bays (fun s n => revokeWindow_bays n s) _ _
  unfold execHkPeriod
  dsimp only
  split
  · split
    · exact keptbays_next.mpr r
    · rw [keptbays_next]
      refine (onCist_bays _ _ rfl).trans ?_
      exact (foldl_bays (fun s n => grantWindow_bays _ n s) _ _).trans r
  · refine keptbays_next.mpr (foldl_bays (fun s n => ?_) _ _)
    split
    · rfl
    · exact grantWindow_bays _ n s

/-- execRetireNonceExpiry keeps them. -/
theorem execRetireNonceExpiry_bays (n : Fin 2) (s : State) : Keptbays s (execRetireNonceExpiry n s) := by
  unfold execRetireNonceExpiry
  rw [keptbays_next]
  refine onBay_bays _ _ s ?_
  intro _; rfl

/-- onDdr keeps them. -/
theorem onDdr_bays (c : Nat) (g : Ddr → Ddr) (s : State) : (onDdr c g s).bays = s.bays := by
  exact bays_of_view (onDdr_view (M := 262144) rfl c g s) rfl

/-- dramEvent keeps them. -/
theorem dramEvent_bays (c ev cause value : Nat) (s : State) : (dramEvent c ev cause value s).bays = s.bays := by
  exact bays_of_view (dramEvent_view (M := 16777216) rfl c ev cause value s) rfl

/-- resumeDram keeps them. -/
theorem resumeDram_bays (c : Nat) (s : State) : (resumeDram c s).bays = s.bays := by
  exact bays_of_view (resumeDram_view (M := 51626901504) rfl c s) rfl

/-- endRecovery keeps them. -/
theorem endRecovery_bays (c : Nat) (st : Status) (s : State) : (endRecovery c st s).bays = s.bays := by
  exact bays_of_view (endRecovery_view (M := 17250385920) rfl c st s) rfl

/-- loseShadows keeps them. -/
theorem loseShadows_bays (c : Nat) (s : State) : (loseShadows c s).bays = s.bays := by
  exact bays_of_view (loseShadows_view (M := 512) rfl c s) rfl

/-- loseContent keeps them. -/
theorem loseContent_bays (c : Nat) (s : State) : (loseContent c s).bays = s.bays := by
  simp only [loseContent, loseShadows_bays, loseStaged_bays, onDdr_bays, bays_ite, foldl_bays, ite_self]

/-- failDram keeps them. -/
theorem failDram_bays (c : Nat) (s : State) : (failDram c s).bays = s.bays := by
  exact bays_of_view (failDram_view (M := 262144) rfl c s) rfl

/-- execRecoveryDone keeps them. -/
theorem execRecoveryDone_bays (c : Fin 2) (trainedOk : Bool) (s : State) : Keptbays s (execRecoveryDone c trainedOk s) := by
  unfold execRecoveryDone
  simp only [dramEvent_bays, endRecovery_bays, failDram_bays, loseContent_bays, onDdr_bays, resumeDram_bays, bays_ite, foldl_bays, ite_self, keptbays_ite, keepsbays_ite, keptbays_next, keepsbays_ok, keepsbays_err, keepsbays_failed, keepsbays_later]

/-- missRound keeps them. -/
theorem missRound_bays (k : Nat) (s : State) : (missRound k s).bays = s.bays := by
  exact bays_of_view (missRound_view (M := 4096) rfl k s) rfl

/-- setDissent keeps them. -/
theorem setDissent_bays (k : Nat) (on : Bool) (theta : Int) (s : State) : (setDissent k on theta s).bays = s.bays := by
  simp only [setDissent, appendAll_bays, raise_bays, bays_tide, bays_ite, foldl_bays, ite_self]

/-- judgeOffset keeps them. -/
theorem judgeOffset_bays (k : Nat) (theta : Int) (s : State) : (judgeOffset k theta s).bays = s.bays := by
  simp only [judgeOffset, setDissent_bays, bays_tide, bays_ite, foldl_bays, ite_self]

/-- execWResp keeps them. -/
theorem execWResp_bays (k : Fin 8) (bytes : List Byte) (phase : Fin 32) (s : State) : Keptbays s (execWResp k bytes phase s) := by
  unfold execWResp
  simp only [judgeOffset_bays, missRound_bays, onXl_bays, bays_ite, foldl_bays, ite_self, keptbays_ite, keepsbays_ite, keptbays_next, keepsbays_ok, keepsbays_err, keepsbays_failed, keepsbays_later]

/-- onGuard keeps them. -/
theorem onGuard_bays (f : Guard → Guard) (s : State) : (onGuard f s).bays = s.bays := by
  exact bays_of_view (onGuard_view (M := 4) rfl f s) rfl

/-- setBound keeps them. -/
theorem setBound_bays (v : Nat) (cause : BoundCause) (s : State) : (setBound v cause s).bays = s.bays := by
  simp only [setBound, appendAll_bays, onGuard_bays, bays_ite, foldl_bays, ite_self]

/-- raiseBound keeps them. -/
theorem raiseBound_bays (s : State) : (raiseBound s).bays = s.bays := by
  simp only [raiseBound, setBound_bays, bays_ite, foldl_bays, ite_self]

/-- setVolt keeps them. -/
theorem setVolt_bays (v : Nat) (s : State) : (setVolt v s).bays = s.bays := by
  exact bays_of_view (setVolt_view (M := 17179869188) rfl v s) rfl

/-- setConflict keeps them. -/
theorem setConflict_bays (c : Bool) (s : State) : (setConflict c s).bays = s.bays := by
  exact bays_of_view (setConflict_view (M := 16777220) rfl c s) rfl

/-- steer keeps them. -/
theorem steer_bays (s : State) : (steer s).bays = s.bays := by
  exact bays_of_view (steer_view (M := 17196646404) rfl s) rfl

/-- raiseAside keeps them. -/
theorem raiseAside_bays (before : BitVec 24) (s : State) : (raiseAside before s).bays = s.bays := by
  exact bays_of_view (raiseAside_view (M := 16777216) rfl before s) rfl

/-- applyCfg keeps them. -/
theorem applyCfg_bays (c : GuardCfg) (s : State) : (applyCfg c s).bays = s.bays := by
  simp only [applyCfg, onGuard_bays, setBound_bays, setVolt_bays, bays_ite, foldl_bays, ite_self]

/-- applyCap keeps them. -/
theorem applyCap_bays (w : BitVec 16) (capFirst : Bool) (s : State) : (applyCap w capFirst s).bays = s.bays := by
  exact bays_of_view (applyCap_view (M := 16777220) rfl w capFirst s) rfl

/-- takePending keeps them. -/
theorem takePending_bays (s : State) : (takePending s).bays = s.bays := by
  unfold takePending
  (try simp only [applyCap_bays, applyCfg_bays, onGuard_bays, bays_ite, foldl_bays, ite_self]) <;> (repeat' split) <;> (try simp only [applyCap_bays, applyCfg_bays, onGuard_bays, bays_ite, foldl_bays, ite_self]) <;> (repeat' split) <;> (try simp only [applyCap_bays, applyCfg_bays, onGuard_bays, bays_ite, foldl_bays, ite_self])

/-- execSentinelRead keeps them. -/
theorem execSentinelRead_bays (preds : List (BitVec 16)) (s : State) : Keptbays s (execSentinelRead preds s) := by
  unfold execSentinelRead
  simp only [onGuard_bays, raiseAside_bays, raiseBound_bays, setBound_bays, steer_bays, takePending_bays, bays_ite, foldl_bays, ite_self, keptbays_ite, keepsbays_ite, keptbays_next, keepsbays_ok, keepsbays_err, keepsbays_failed, keepsbays_later]

/-- execLatBoundReturn keeps them. -/
theorem execLatBoundReturn_bays (s : State) : Keptbays s (execLatBoundReturn s) := by
  unfold execLatBoundReturn
  simp only [setBound_bays, setConflict_bays, bays_ite, foldl_bays, ite_self, keptbays_ite, keepsbays_ite, keptbays_next, keepsbays_ok, keepsbays_err, keepsbays_failed, keepsbays_later]

/-- execGuardPmbus keeps them. -/
theorem execGuardPmbus_bays (acked : Bool) (s : State) : Keptbays s (execGuardPmbus acked s) := by
  unfold execGuardPmbus
  simp only [emit_bays, onGuard_bays, raise_bays, setBound_bays, bays_ite, foldl_bays, ite_self, keptbays_ite, keepsbays_ite, keptbays_next, keepsbays_ok, keepsbays_err, keepsbays_failed, keepsbays_later]

/-- execPowerGuardConfig keeps them. -/
theorem execPowerGuardConfig_bays (rq : Req) (s : State) : Keptbays s (execPowerGuardConfig rq s) := by
  unfold execPowerGuardConfig
  refine serve_bays _ _ (fun s => ?_) s
  simp only [applyCfg_bays, onGuard_bays, bays_ite, foldl_bays, ite_self, keptbays_ite, keepsbays_ite, keptbays_next, keepsbays_ok, keepsbays_err, keepsbays_failed, keepsbays_later]

/-- onSump keeps them. -/
theorem onSump_bays (g : Sump → Sump) (s : State) : (onSump g s).bays = s.bays := by
  exact bays_of_view (onSump_view (M := 16777216) rfl g s) rfl

/-- enterSafe keeps them. -/
theorem enterSafe_bays (all : Bool) (s : State) : (enterSafe all s).bays = s.bays := by
  exact bays_of_view (enterSafe_view (M := 34443627560) rfl all s) rfl

/-- latchLine keeps them. -/
theorem latchLine_bays (l : SumpLine) (s : State) : (latchLine l s).bays = s.bays := by
  exact bays_of_view (latchLine_view (M := 51659672616) rfl l s) rfl

/-- execRiskRelease keeps them. -/
theorem execRiskRelease_bays (rq : Req) (s : State) : Keptbays s (execRiskRelease rq s) := by
  unfold execRiskRelease
  refine serve_bays _ _ (fun s => ?_) s
  (try simp only [acceptHeld_bays, refreshFull_bays, rejectHeld_bays, bays_ite, foldl_bays, ite_self, keptbays_ite, keepsbays_ite, keptbays_next, keepsbays_ok, keepsbays_err, keepsbays_failed, keepsbays_later]) <;> (repeat' split) <;> (try simp only [acceptHeld_bays, refreshFull_bays, rejectHeld_bays, bays_ite, foldl_bays, ite_self, keptbays_ite, keepsbays_ite, keptbays_next, keepsbays_ok, keepsbays_err, keepsbays_failed, keepsbays_later]) <;> (repeat' split) <;> (try simp only [acceptHeld_bays, refreshFull_bays, rejectHeld_bays, bays_ite, foldl_bays, ite_self, keptbays_ite, keepsbays_ite, keptbays_next, keepsbays_ok, keepsbays_err, keepsbays_failed, keepsbays_later])

/-- setSource keeps them. -/
theorem setSource_bays (rq : Req) (s : State) : (setSource rq s).bays = s.bays := by
  unfold setSource
  (try simp only [goFree_bays, goHoldover_bays, newEpoch_bays, bays_tide, bays_ite, foldl_bays, ite_self]) <;> (repeat' split) <;> (try simp only [goFree_bays, goHoldover_bays, newEpoch_bays, bays_tide, bays_ite, foldl_bays, ite_self]) <;> (repeat' split) <;> (try simp only [goFree_bays, goHoldover_bays, newEpoch_bays, bays_tide, bays_ite, foldl_bays, ite_self])

/-- execTimeSetSource keeps them. -/
theorem execTimeSetSource_bays (rq : Req) (s : State) : Keptbays s (execTimeSetSource rq s) := by
  unfold execTimeSetSource
  refine serve_bays _ _ (fun s => ?_) s
  simp only [setSource_bays, bays_ite, foldl_bays, ite_self, keptbays_ite, keepsbays_ite, keptbays_next, keepsbays_ok, keepsbays_err, keepsbays_failed, keepsbays_later]

/-- execTimeSetUtc keeps them. -/
theorem execTimeSetUtc_bays (rq : Req) (s : State) : Keptbays s (execTimeSetUtc rq s) := by
  unfold execTimeSetUtc
  refine serve_bays _ _ (fun s => ?_) s
  simp only [applyUtc_bays, bays_tide, bays_ite, foldl_bays, ite_self, keptbays_ite, keepsbays_ite, keptbays_next, keepsbays_ok, keepsbays_err, keepsbays_failed, keepsbays_later]

/-- execPpsInEdge keeps them. -/
theorem execPpsInEdge_bays (phase : Fin 32) (s : State) : Keptbays s (execPpsInEdge phase s) := by
  unfold execPpsInEdge
  simp only [disqualify_bays, qualify_bays, raise_bays, servoUpdate_bays, bays_tide, bays_ite, foldl_bays, ite_self, keptbays_ite, keepsbays_ite, keptbays_next, keepsbays_ok, keepsbays_err, keepsbays_failed, keepsbays_later]

/-- execPpsLoss keeps them. -/
theorem execPpsLoss_bays (s : State) : Keptbays s (execPpsLoss s) := by
  unfold execPpsLoss
  simp only [disqualify_bays, raise_bays, bays_ite, foldl_bays, ite_self, keptbays_ite, keepsbays_ite, keptbays_next, keepsbays_ok, keepsbays_err, keepsbays_failed, keepsbays_later]

/-- execPtpMessage keeps them. -/
theorem execPtpMessage_bays (p : Fin 64) (bytes : List Byte) (phase : Fin 32) (s : State) : Keptbays s (execPtpMessage p bytes phase s) := by
  unfold execPtpMessage
  (try simp only [State.setPort_bays, ptpHandle_bays, bays_ite, foldl_bays, ite_self, keptbays_ite, keepsbays_ite, keptbays_next, keepsbays_ok, keepsbays_err, keepsbays_failed, keepsbays_later]) <;> (repeat' split) <;> (try simp only [State.setPort_bays, ptpHandle_bays, bays_ite, foldl_bays, ite_self, keptbays_ite, keepsbays_ite, keptbays_next, keepsbays_ok, keepsbays_err, keepsbays_failed, keepsbays_later]) <;> (repeat' split) <;> (try simp only [State.setPort_bays, ptpHandle_bays, bays_ite, foldl_bays, ite_self, keptbays_ite, keepsbays_ite, keptbays_next, keepsbays_ok, keepsbays_err, keepsbays_failed, keepsbays_later])

/-- execPtpReceiptTimeout keeps them. -/
theorem execPtpReceiptTimeout_bays (i : Fin 4) (s : State) : Keptbays s (execPtpReceiptTimeout i s) := by
  unfold execPtpReceiptTimeout
  simp only [ptpLost_bays, bays_ite, foldl_bays, ite_self, keptbays_ite, keepsbays_ite, keptbays_next, keepsbays_ok, keepsbays_err, keepsbays_failed, keepsbays_later]

/-- execRefInLoss keeps them. -/
theorem execRefInLoss_bays (s : State) : Keptbays s (execRefInLoss s) := by
  unfold execRefInLoss
  simp only [newEpoch_bays, raise_bays, bays_tide, bays_ite, foldl_bays, ite_self, keptbays_ite, keepsbays_ite, keptbays_next, keepsbays_ok, keepsbays_err, keepsbays_failed, keepsbays_later]

/-- execRefInReturn keeps them. -/
theorem execRefInReturn_bays (s : State) : Keptbays s (execRefInReturn s) := by
  unfold execRefInReturn
  simp only [newEpoch_bays, bays_tide, bays_ite, foldl_bays, ite_self, keptbays_ite, keepsbays_ite, keptbays_next, keepsbays_ok, keepsbays_err, keepsbays_failed, keepsbays_later]

/-- execHoldoverLimit keeps them. -/
theorem execHoldoverLimit_bays (s : State) : Keptbays s (execHoldoverLimit s) := by
  unfold execHoldoverLimit
  (try simp only [goFree_bays, bays_tide, bays_ite, foldl_bays, ite_self, keptbays_ite, keepsbays_ite, keptbays_next, keepsbays_ok, keepsbays_err, keepsbays_failed, keepsbays_later]) <;> (repeat' split) <;> (try simp only [goFree_bays, bays_tide, bays_ite, foldl_bays, ite_self, keptbays_ite, keepsbays_ite, keptbays_next, keepsbays_ok, keepsbays_err, keepsbays_failed, keepsbays_later]) <;> (repeat' split) <;> (try simp only [goFree_bays, bays_tide, bays_ite, foldl_bays, ite_self, keptbays_ite, keepsbays_ite, keptbays_next, keepsbays_ok, keepsbays_err, keepsbays_failed, keepsbays_later])

/-- execUtcDayEnd keeps them. -/
theorem execUtcDayEnd_bays (s : State) : Keptbays s (execUtcDayEnd s) := by
  unfold execUtcDayEnd
  (try simp only [applyUtc_bays, bays_ite, foldl_bays, ite_self, keptbays_ite, keepsbays_ite, keptbays_next, keepsbays_ok, keepsbays_err, keepsbays_failed, keepsbays_later]) <;> (repeat' split) <;> (try simp only [applyUtc_bays, bays_ite, foldl_bays, ite_self, keptbays_ite, keepsbays_ite, keptbays_next, keepsbays_ok, keepsbays_err, keepsbays_failed, keepsbays_later]) <;> (repeat' split) <;> (try simp only [applyUtc_bays, bays_ite, foldl_bays, ite_self, keptbays_ite, keepsbays_ite, keptbays_next, keepsbays_ok, keepsbays_err, keepsbays_failed, keepsbays_later])

/-- onPwr keeps them. -/
theorem onPwr_bays (g : Pwr → Pwr) (s : State) : (onPwr g s).bays = s.bays := by
  exact bays_of_view (onPwr_view (M := 33554432) rfl g s) rfl

/-- losePtp keeps them. -/
theorem losePtp_bays (s : State) : (losePtp s).bays = s.bays := by
  simp only [losePtp, disqualify_bays, raise_bays, bays_ite, foldl_bays, ite_self]

/-- stopAppending keeps them. -/
theorem stopAppending_bays (s : State) : (stopAppending s).bays = s.bays := by
  unfold stopAppending
  repeat' (first | with_reducible rfl | simp only [onLedg_bays, writeSeal_bays, bays_ite, foldl_bays, ite_self] | split | refine (foldl_bays (fun s a => ?_) _ _).trans ?_ | (rename_i e; rw [fst_bays e]) | (rename_i e _; rw [fst_bays e]) | (rename_i e _ _; rw [fst_bays e]))

/-- gaspOff keeps them. -/
theorem gaspOff_bays (s : State) : (gaspOff s).bays = s.bays := by
  exact bays_of_view (gaspOff_view (M := 17712414184) rfl s) rfl

/-- beginGasp keeps them. -/
theorem beginGasp_bays (s : State) : (beginGasp s).bays = s.bays := by
  unfold beginGasp
  repeat' (first | with_reducible rfl | simp only [onPwr_bays, revokeWindow_bays, bays_ite, foldl_bays, ite_self] | split | refine (foldl_bays (fun s a => ?_) _ _).trans ?_ | (rename_i e; rw [fst_bays e]) | (rename_i e _; rw [fst_bays e]) | (rename_i e _ _; rw [fst_bays e]))

/-- askReset keeps them. -/
theorem askReset_bays (s : State) : (askReset s).bays = s.bays := by
  simp only [askReset, beginGasp_bays, enterSafe_bays, onPwr_bays, onSump_bays, bays_ite, foldl_bays, ite_self]

/-- execPowerChipReset keeps them. -/
theorem execPowerChipReset_bays (rq : Req) (s : State) : Keptbays s (execPowerChipReset rq s) := by
  have h : ∀ busy : Bool, (serve (cmdH 0x1103 4) rq (fun s =>
      if rq.u32 0 ≠ 0x43484950 then .err .badParam else if busy then .err .busy else .ok s []) s).bays = s.bays := by
    intro busy
    refine (serve_bays _ _ (fun s => ?_) s).agrees _ rfl
    split
    · trivial
    · split
      · trivial
      · rfl
  unfold execPowerChipReset
  dsimp only
  rw [keptbays_next]
  split
  · exact (askReset_bays _).trans (h _)
  · exact h _

/-- execPwrfailNAssert keeps them. -/
theorem execPwrfailNAssert_bays (s : State) : Keptbays s (execPwrfailNAssert s) := by
  unfold execPwrfailNAssert
  simp only [beginGasp_bays, latchLine_bays, onPwr_bays, bays_ite, foldl_bays, ite_self, keptbays_ite, keepsbays_ite, keptbays_next, keepsbays_ok, keepsbays_err, keepsbays_failed, keepsbays_later]

/-- execAppendingStop keeps them. -/
theorem execAppendingStop_bays (s : State) : Keptbays s (execAppendingStop s) := by
  unfold execAppendingStop
  simp only [gaspOff_bays, stopAppending_bays, bays_ite, foldl_bays, ite_self, keptbays_ite, keepsbays_ite, keptbays_next, keepsbays_ok, keepsbays_err, keepsbays_failed, keepsbays_later]

end Sys2Proof.Machine
end

