-- ==== Sys2Proof/Laws/Bays.lean ====
section
/-! SUPPORT. What changes the state of a bay keeps the bays sound (16_cistern.md R356). -/

namespace Sys2Proof.Machine

/-- Soundness is a matter of what the rules speak of. -/
theorem Bay.sound_of_key {x y : Bay} (h : x.key = y.key) : x.sound = y.sound := by
  simp only [Bay.key, Prod.mk.injEq] at h
  obtain ⟨h1, h2, h3, h4⟩ := h
  simp only [Bay.sound, h1, h2, h3, h4]

/-- What keeps the state of the bays keeps them sound. -/
theorem baysSound_of {s t : State} (h : t.bays = s.bays) (k : BaysSound s) : BaysSound t := by
  simp only [State.bays, Prod.mk.injEq] at h
  obtain ⟨h0, h1⟩ := h
  refine ⟨(Bay.sound_of_key h0).trans k.1, (Bay.sound_of_key h1).trans k.2.1, ?_⟩
  have e0 : (t.bayAt 0).st = (s.bayAt 0).st := congrArg Prod.fst h0
  have e1 : (t.bayAt 1).st = (s.bayAt 1).st := congrArg Prod.fst h1
  rw [e0, e1]
  exact k.2.2

/-- A key of one bay from those of both. -/
theorem key_of_bays {s t : State} (h : t.bays = s.bays) {n : Nat} (hn : n ≤ 1) : (t.bayAt n).key = (s.bayAt n).key := by
  simp only [State.bays, Prod.mk.injEq] at h
  have : n = 0 ∨ n = 1 := by omega
  rcases this with rfl | rfl
  · exact h.1
  · exact h.2

/-- The state of one bay from those of both. -/
theorem st_of_bays {s t : State} (h : t.bays = s.bays) {n : Nat} (hn : n ≤ 1) : (t.bayAt n).st = (s.bayAt n).st :=
  congrArg Prod.fst (key_of_bays h hn)

/-- The bays, seen from one of them. -/
theorem baysSound_iff {s : State} {n : Nat} (hn : n ≤ 1) :
    BaysSound s ↔ (s.bayAt n).sound = true ∧ (s.bayAt (1 - n)).sound = true ∧ ¬ ((s.bayAt n).st = 4 ∧ (s.bayAt (1 - n)).st = 4) := by
  have : n = 0 ∨ n = 1 := by omega
  rcases this with rfl | rfl
  · exact Iff.rfl
  · constructor
    · exact fun h => ⟨h.2.1, h.1, fun e => h.2.2 ⟨e.2, e.1⟩⟩
    · exact fun h => ⟨h.2.1, h.1, fun e => h.2.2 ⟨e.2, e.1⟩⟩

/-- A bay changed. -/
theorem bayAt_onBay (n : Nat) (g : Bay → Bay) (s : State) : (onBay n g s).bayAt n = g (s.bayAt n) := by
  simp only [onBay, State.bayAt, Tab.look_upd, if_true]

/-- The other bay stays. -/
theorem bayAt_onBay_ne {n m : Nat} (h : m ≠ n) (g : Bay → Bay) (s : State) : (onBay n g s).bayAt m = s.bayAt m := by
  simp only [onBay, State.bayAt, Tab.look_upd, if_neg h]

/-- The other bay stays. -/
theorem bayAt_onBay_other {n : Nat} (hn : n ≤ 1) (g : Bay → Bay) (s : State) : (onBay n g s).bayAt (1 - n) = s.bayAt (1 - n) :=
  bayAt_onBay_ne (by omega) g s

/-- A bay changed to a sound one keeps the bays sound, when it is not a second ACTIVE one. -/
theorem baysSound_onBay {s : State} {n : Nat} (hn : n ≤ 1) {g : Bay → Bay} (k : BaysSound s) (h : (g (s.bayAt n)).sound = true)
    (h4 : (g (s.bayAt n)).st = 4 → (s.bayAt (1 - n)).st ≠ 4) : BaysSound (onBay n g s) := by
  rw [baysSound_iff hn] at k ⊢
  rw [bayAt_onBay, bayAt_onBay_other hn]
  exact ⟨h, k.2.1, fun e => h4 e.1 e.2⟩

/-- The STANDBY bay beside one that is not STANDBY. -/
theorem standbyBay_some {s : State} {m : Nat} (h : s.standbyBay = some m) : m ≤ 1 ∧ (s.bayAt m).st = 3 := by
  unfold State.standbyBay at h
  have h1 := List.find?_some h
  have h2 := List.mem_of_find?_eq_some h
  simp only [List.mem_cons, List.not_mem_nil, or_false] at h2
  exact ⟨by omega, by simpa using h1⟩

/-- Flushing keeps them. -/
theorem flush_if_bays (c : Bool) (n : Nat) (s : State) : (if c then flushBay n s else s).bays = s.bays := by
  cases c
  · rfl
  · exact flushBay_bays n s

/-- Unissuing keeps them. -/
theorem unissue_bays (a : Append) (s : State) : (unissue a s).bays = s.bays := bays_of_view (unissue_view (M := 65536) rfl a s) rfl

/-- A switch that completes: the bay takes its state with nothing outstanding, and a STANDBY bay becomes ACTIVE. -/
theorem completeSwitch_spec {s : State} {n : Nat} (hn : n ≤ 1) (h3 : (s.bayAt n).st ≠ 3) :
    ((completeSwitch n s).bayAt n).key = ((s.bayAt n).draining.getD 0, none, (s.bayAt n).prsnt, [])
    ∧ ((completeSwitch n s).bayAt (1 - n)).key
        = (if (s.bayAt (1 - n)).st = 3 then 4 else (s.bayAt (1 - n)).st, (s.bayAt (1 - n)).draining, (s.bayAt (1 - n)).prsnt, (s.bayAt (1 - n)).out) := by
  have hf : ∀ (l : List Append) (u : State), (l.foldl (fun s a => unissue a s) u).bays = u.bays := fun l u => foldl_bays (fun s a => unissue_bays a s) l u
  have key : ∀ (u v : State) (st st' : Status) (d : Nat), v.bays = u.bays →
      ((endSwap st (endRelease n st' (onBay n (fun y => { y with st := d }) v))).bayAt n).key
          = (d, (u.bayAt n).draining, (u.bayAt n).prsnt, (u.bayAt n).out)
      ∧ ((endSwap st (endRelease n st' (onBay n (fun y => { y with st := d }) v))).bayAt (1 - n)).key = (u.bayAt (1 - n)).key := by
    intro u v st st' d e
    have e1 := (endSwap_bays st (endRelease n st' (onBay n (fun y => { y with st := d }) v))).trans (endRelease_bays n st' _)
    have en := key_of_bays e hn
    have eo := key_of_bays e (show 1 - n ≤ 1 by omega)
    refine ⟨(key_of_bays e1 hn).trans ?_, (key_of_bays e1 (by omega)).trans ?_⟩
    · rw [bayAt_onBay]
      simp only [Bay.key, Prod.mk.injEq] at en ⊢
      exact ⟨trivial, en.2⟩
    · rw [bayAt_onBay_other hn]
      exact eo
  unfold completeSwitch
  dsimp only
  cases hs : s.standbyBay with
  | none =>
    have ho : (s.bayAt (1 - n)).st ≠ 3 := by
      intro e
      have := List.find?_eq_none.mp hs (1 - n) (by simp; omega)
      simp [e] at this
    dsimp only
    obtain ⟨k1, k2⟩ := key (onBay n (fun x => { x with out := [], draining := none }) s) _ (if (none : Option Nat).isSome then .ok else .state)
      (if (s.bayAt n).draining.getD 0 = 7 then .ok else .state) ((s.bayAt n).draining.getD 0)
      ((flush_if_bays (s.bayAt n).prsnt n _).trans ((cistEvent_bays 8 n 0 _).trans (hf (s.bayAt n).out _)))
    rw [k1, k2, bayAt_onBay, bayAt_onBay_other hn, if_neg ho]
    exact ⟨rfl, rfl⟩
  | some m =>
    obtain ⟨hm, hm3⟩ := standbyBay_some hs
    have hne : m ≠ n := fun e => h3 (e ▸ hm3)
    have em : m = 1 - n := by omega
    subst em
    dsimp only
    have base := hf (s.bayAt n).out (onBay n (fun x => { x with out := [], draining := none }) s)
    generalize hw : (s.bayAt n).out.foldl (fun s a => unissue a s) (onBay n (fun x => { x with out := [], draining := none }) s) = w at base
    have bn := key_of_bays base hn
    have bo := key_of_bays base (show 1 - n ≤ 1 by omega)
    rw [bayAt_onBay] at bn
    rw [bayAt_onBay_other hn] at bo
    obtain ⟨k1, k2⟩ := key (onBay (1 - n) (fun y => { y with st := 4 }) w) _ (if (some (1 - n)).isSome then .ok else .state)
      (if (s.bayAt n).draining.getD 0 = 7 then .ok else .state) ((s.bayAt n).draining.getD 0)
      ((flush_if_bays (s.bayAt n).prsnt n _).trans (onCist_bays (fun c => { c with swaps := bump c.swaps, reissued := bumpBy c.reissued (s.bayAt n).out.length }) _ rfl))
    rw [k1, k2, bayAt_onBay_ne (by omega), bayAt_onBay, if_pos hm3]
    simp only [Bay.key, Prod.mk.injEq] at bn bo ⊢
    obtain ⟨-, b2, b3, b4⟩ := bn
    obtain ⟨-, o2, o3, o4⟩ := bo
    exact ⟨⟨trivial, b2, b3, b4⟩, trivial, o2, o3, o4⟩

/-- What a sound bay says, clause by clause. -/
theorem sound_iff {x : Bay} : x.sound = true ↔ x.st ≤ 8 ∧ (x.prsnt = true ∨ x.st = 0) ∧ (x.st = 4 ∨ (x.draining = none ∧ x.out = []))
    ∧ (∀ d, x.draining = some d → d ≤ 8 ∧ d ≠ 4) := by
  unfold Bay.sound
  cases h : x.draining with
  | none => simp [and_assoc]
  | some d => simp [and_assoc]

/-- The same of a key. -/
theorem sound_of_parts {x : Bay} {st : Nat} {dr : Option Nat} {pr : Bool} {out : List Append} (h : x.key = (st, dr, pr, out))
    (h1 : st ≤ 8) (h2 : pr = true ∨ st = 0) (h3 : st = 4 ∨ (dr = none ∧ out = [])) (h4 : ∀ d, dr = some d → d ≤ 8 ∧ d ≠ 4) :
    x.sound = true := by
  simp only [Bay.key, Prod.mk.injEq] at h
  obtain ⟨rfl, rfl, rfl, rfl⟩ := h
  exact sound_iff.mpr ⟨h1, h2, h3, h4⟩

/-- A switch that completes keeps the bays sound: the bay that hands over is no longer ACTIVE. -/
theorem completeSwitch_sound {s : State} {n : Nat} (hn : n ≤ 1) (ho : (s.bayAt (1 - n)).sound = true) (h4 : (s.bayAt (1 - n)).st ≠ 4)
    (hs : (s.bayAt n).st ≠ 3) (hd : (s.bayAt n).draining.getD 0 ≤ 8) (hd4 : (s.bayAt n).draining.getD 0 ≠ 4)
    (hp : (s.bayAt n).prsnt = true ∨ (s.bayAt n).draining.getD 0 = 0) : BaysSound (completeSwitch n s) := by
  obtain ⟨k1, k2⟩ := completeSwitch_spec hn hs
  rw [baysSound_iff hn]
  have e1 : ((completeSwitch n s).bayAt n).st = (s.bayAt n).draining.getD 0 := congrArg Prod.fst k1
  refine ⟨sound_of_parts k1 hd hp (Or.inr ⟨rfl, rfl⟩) nofun, ?_, fun e => hd4 (e1 ▸ e.1)⟩
  obtain ⟨o1, o2, o3, o4⟩ := sound_iff.mp ho
  have on : (s.bayAt (1 - n)).draining = none ∧ (s.bayAt (1 - n)).out = [] := o3.resolve_left h4
  refine sound_of_parts k2 ?_ ?_ (Or.inr on) o4
  · split <;> omega
  · split
    · exact Or.inl (o2.resolve_right (by omega))
    · exact o2

/-- A sound bay that hands over is ACTIVE and present. -/
theorem switch_ok {s : State} {n : Nat} (hn : n ≤ 1) (k : BaysSound s) (hd : (s.bayAt n).draining.isSome = true) :
    BaysSound (completeSwitch n s) := by
  obtain ⟨d, hd⟩ := Option.isSome_iff_exists.mp hd
  obtain ⟨k1, k2, k3⟩ := (baysSound_iff hn).mp k
  obtain ⟨-, s2, s3, s4⟩ := sound_iff.mp k1
  have a4 : (s.bayAt n).st = 4 := s3.resolve_right (fun e => by rw [hd] at e; exact absurd e.1 nofun)
  have := s4 d hd
  refine completeSwitch_sound hn k2 (fun e => k3 ⟨a4, e⟩) (by omega) ?_ ?_ (Or.inl (s2.resolve_right (by omega)))
  · rw [hd]; exact this.1
  · rw [hd]; exact this.2

/-- The ACTIVE bay hands over. -/
theorem handOverBay_ok {s : State} {n dest : Nat} (hn : n ≤ 1) (k : BaysSound s) (h4 : (s.bayAt n).st = 4) (ht : dest ≤ 8) (ht4 : dest ≠ 4) :
    BaysSound (handOverBay n dest s) := by
  obtain ⟨k1, k2, k3⟩ := (baysSound_iff hn).mp k
  obtain ⟨s1, s2, s3, s4⟩ := sound_iff.mp k1
  have m : BaysSound (onBay n (fun x => { x with draining := some dest }) s) := by
    refine baysSound_onBay hn k (sound_iff.mpr ⟨s1, s2, Or.inl h4, ?_⟩) (fun _ e => k3 ⟨h4, e⟩)
    intro d e
    cases e
    exact ⟨ht, ht4⟩
  unfold handOverBay
  dsimp only
  split
  · refine switch_ok hn m ?_
    rw [bayAt_onBay]
    rfl
  · exact m

/-- A bay leaves the states in which it is written or could be. -/
theorem retireBay_ok {s : State} {n dest : Nat} (hn : n ≤ 1) (k : BaysSound s) (h0 : (s.bayAt n).st ≠ 0) (ht : dest ≤ 8) (ht4 : dest ≠ 4) :
    BaysSound (retireBay n dest s) := by
  obtain ⟨k1, k2, k3⟩ := (baysSound_iff hn).mp k
  obtain ⟨s1, s2, s3, s4⟩ := sound_iff.mp k1
  unfold retireBay
  dsimp only
  split
  · rename_i h4
    split
    · refine baysSound_onBay hn k (sound_iff.mpr ⟨s1, s2, Or.inl h4, ?_⟩) (fun _ e => k3 ⟨h4, e⟩)
      intro d e
      cases e
      exact ⟨ht, ht4⟩
    · exact handOverBay_ok hn k h4 ht ht4
  · rename_i h4
    exact baysSound_onBay hn k (sound_iff.mpr ⟨ht, Or.inl (s2.resolve_right h0), Or.inr (s3.resolve_left h4), s4⟩) (fun e => absurd e ht4)

/-- A bay fails. -/
theorem faultBay_ok {s : State} {n : Nat} (hn : n ≤ 1) (k : BaysSound s) : BaysSound (faultBay n s) := by
  unfold faultBay
  split
  · exact k
  · rename_i h
    have e := cistEvent_bays 6 n 0 s
    refine retireBay_ok hn (baysSound_of e k) ?_ (by omega) (by omega)
    rw [st_of_bays e hn]
    intro z
    simp [z] at h

/-- A full zone. -/
theorem zoneFull_ok {s : State} {n : Nat} (hn : n ≤ 1) (k : BaysSound s) (h0 : (s.bayAt n).st ≠ 0) : BaysSound (zoneFull n s) := by
  have e := onCart_bays n (fun c => { c with openZone := none, fill := 0 }) s
  unfold zoneFull
  split
  · exact k
  · dsimp only
    split
    · exact baysSound_of e k
    · have e2 := (cistEvent_bays 3 n 0 _).trans e
      refine retireBay_ok hn (baysSound_of e2 k) ?_ (by omega) (by omega)
      rw [st_of_bays e2 hn]
      exact h0

/-- A page is written. -/
theorem pageWritten_ok {s : State} {n : Nat} {a : Append} (hn : n ≤ 1) (k : BaysSound s) (h0 : (s.bayAt n).st ≠ 0) :
    BaysSound (pageWritten n a s) := by
  unfold pageWritten
  dsimp only
  have e := (freePage_bays a.berth a.page _).trans ((onLedg_bays (fun l => { l with pagesOut := bump l.pagesOut }) _).trans
    ((onCist_bays (fun c => { c with pagesWritten := bump c.pagesWritten }) _ rfl).trans (onCart_bays n (fun c => { c with
      pages := Tab.put [] c.pages (zonePages * ((s.cartAt n).openZone.getD 0) + (s.cartAt n).fill) a.bytes, fill := c.fill + 1 }) s)))
  refine zoneFull_ok hn (baysSound_of e k) ?_
  rw [st_of_bays e hn]
  exact h0

/-- What is outstanding at an ACTIVE bay may change. -/
theorem setOut_ok {s : State} {n : Nat} {g : Bay → Bay} (hn : n ≤ 1) (k : BaysSound s) (h4 : (s.bayAt n).st = 4)
    (hg : ∀ x, (g x).st = x.st ∧ (g x).prsnt = x.prsnt ∧ (g x).draining = x.draining) : BaysSound (onBay n g s) := by
  obtain ⟨k1, k2, k3⟩ := (baysSound_iff hn).mp k
  obtain ⟨s1, s2, s3, s4⟩ := sound_iff.mp k1
  obtain ⟨g1, g2, g3⟩ := hg (s.bayAt n)
  exact baysSound_onBay hn k (sound_iff.mpr ⟨g1 ▸ s1, by rw [g1, g2]; exact s2, Or.inl (g1.trans h4), by rw [g3]; exact s4⟩)
    (fun _ e => k3 ⟨h4, e⟩)

/-- A bay with appends outstanding is ACTIVE. -/
theorem active_of_out {s : State} {n : Nat} (hn : n ≤ 1) (k : BaysSound s) (h : (s.bayAt n).out ≠ []) : (s.bayAt n).st = 4 :=
  (sound_iff.mp ((baysSound_iff hn).mp k).1).2.2.1.resolve_right (fun e => h e.2)

/-- An append fails. -/
theorem appendFails_ok {s : State} {n i : Nat} {a : Append} (hn : n ≤ 1) (k : BaysSound s) (h4 : (s.bayAt n).st = 4) :
    BaysSound (appendFails n i a s) := by
  have main : ∀ recent, BaysSound (
      let s1 := onCist (fun c => { c with appendErr := bump c.appendErr }) (onBay n (fun x => { x with fails := recent }) s)
      if a.tried || (s.bayAt n).draining.isSome then unissue a (onBay n (fun x => { x with out := x.out.eraseIdx i }) s1)
      else emit (.nvme n 0x7D (((s.cartAt n).openZone).getD 0) a.bytes) (onBay n (fun x => { x with out := x.out.set i { a with tried := true } }) s1)) := by
    intro recent
    have e1 : (onCist (fun c => { c with appendErr := bump c.appendErr }) (onBay n (fun x => { x with fails := recent }) s)).bays = s.bays :=
      (onCist_bays _ _ rfl).trans (onBay_bays n _ s (fun _ => rfl))
    have k1 := baysSound_of e1 k
    have a1 := (st_of_bays e1 hn).trans h4
    dsimp only
    split
    · exact baysSound_of (unissue_bays a _) (setOut_ok hn k1 a1 (fun _ => ⟨rfl, rfl, rfl⟩))
    · exact baysSound_of (emit_bays _ _) (setOut_ok hn k1 a1 (fun _ => ⟨rfl, rfl, rfl⟩))
  unfold appendFails
  dsimp only
  split
  · exact faultBay_ok hn (main _)
  · exact main _

/-- A bay begins to probe. -/
theorem startProbe_ok {s : State} {n : Nat} (hn : n ≤ 1) (k : BaysSound s) (h4 : (s.bayAt n).st ≠ 4) (hp : (s.bayAt n).prsnt = true) :
    BaysSound (startProbe n s) := by
  obtain ⟨k1, k2, k3⟩ := (baysSound_iff hn).mp k
  obtain ⟨s1, s2, s3, s4⟩ := sound_iff.mp k1
  have s3' := s3.resolve_left h4
  exact baysSound_onBay hn k (sound_iff.mpr ⟨Nat.le_of_ble_eq_true rfl, Or.inl hp, Or.inr s3', s4⟩) (fun e => absurd (show (1 : Nat) = 4 from e) (by decide))

/-- A cartridge is refused. -/
theorem refuseCart_ok {s : State} {n step : Nat} (hn : n ≤ 1) (k : BaysSound s) (h4 : (s.bayAt n).st ≠ 4) (hp : (s.bayAt n).prsnt = true) :
    BaysSound (refuseCart n step s) := by
  obtain ⟨k1, k2, k3⟩ := (baysSound_iff hn).mp k
  obtain ⟨s1, s2, s3, s4⟩ := sound_iff.mp k1
  have s3' := s3.resolve_left h4
  refine baysSound_of ((cistEvent_bays 0 n step _).trans (onCist_bays _ _ rfl)) ?_
  exact baysSound_onBay hn k (sound_iff.mpr ⟨Nat.le_of_ble_eq_true rfl, Or.inl hp, Or.inr s3', s4⟩) (fun e => absurd (show (2 : Nat) = 4 from e) (by decide))

/-- Without an ACTIVE bay no bay is ACTIVE. -/
theorem not_active {s : State} (h : s.anyActive = false) {n : Nat} (hn : n ≤ 1) : (s.bayAt n).st ≠ 4 := by
  simp only [State.anyActive, List.any_cons, List.any_nil, Bool.or_false, Bool.or_eq_false_iff, beq_eq_false_iff_ne] at h
  have : n = 0 ∨ n = 1 := by omega
  rcases this with rfl | rfl
  · exact h.1
  · exact h.2

/-- A cartridge is mounted. -/
theorem mount_ok {s : State} {n : Nat} {res : ProbeRes} (hn : n ≤ 1) (k : BaysSound s) (h4 : (s.bayAt n).st ≠ 4)
    (hp : (s.bayAt n).prsnt = true) : BaysSound (mount n res s) := by
  have e := onCart_bays n (fun c => { c with usedZones := res.usedZones.val, openZone := none, fill := 0 }) s
  have k' := baysSound_of e k
  have en := key_of_bays e hn
  simp only [Bay.key, Prod.mk.injEq] at en
  obtain ⟨k1, k2, k3⟩ := (baysSound_iff hn).mp k'
  obtain ⟨s1, s2, s3, s4⟩ := sound_iff.mp k1
  have s3' := s3.resolve_left (by rw [en.1]; exact h4)
  have m : BaysSound (onBay n (fun x => { x with st := mountState res.usedZones.val s, capWarned := false, warn80 := false, warn95 := false })
      (onCart n (fun c => { c with usedZones := res.usedZones.val, openZone := none, fill := 0 }) s)) := by
    refine baysSound_onBay hn k' (sound_iff.mpr ⟨?_, Or.inl ?_, Or.inr s3', s4⟩) (fun h => ?_)
    · show mountState _ s ≤ 8
      unfold mountState
      split
      · omega
      · split <;> omega
    · exact en.2.2.1.trans hp
    · have ha : s.anyActive = false := by
        replace h : mountState res.usedZones.val s = 4 := h
        unfold mountState at h
        split at h
        · omega
        · split at h
          · omega
          · rename_i z
            simpa using z
      rw [st_of_bays e (by omega)]
      exact not_active ha (by omega)
  unfold mount
  dsimp only
  refine baysSound_of ((checkCap_bays n _).trans (lifeWarnings_bays n _ _)) ?_
  split
  · exact m
  · exact baysSound_of (cistEvent_bays _ _ _ _) m

/-- A cartridge has gone: its bay is EMPTY. -/
theorem vacate_ok {s : State} {n : Nat} (hn : n ≤ 1) (k : BaysSound s) :
    BaysSound (vacate n s) ∧ ((vacate n s).bayAt n).key = (0, none, false, []) := by
  obtain ⟨k1, k2, k3⟩ := (baysSound_iff hn).mp k
  obtain ⟨s1, s2, s3, s4⟩ := sound_iff.mp k1
  have e := revokeWindow_bays n (onBay n (fun x => { x with prsnt := false }) s)
  have en := key_of_bays e hn
  have eo := key_of_bays e (show 1 - n ≤ 1 by omega)
  rw [bayAt_onBay] at en
  rw [bayAt_onBay_other hn] at eo
  simp only [Bay.key, Prod.mk.injEq] at en
  -- what the bay and the other one are before the bay is emptied
  have main : ∀ u : State, (u.bayAt n).prsnt = false → (u.bayAt n).draining = none → (u.bayAt n).out = [] → (u.bayAt (1 - n)).sound = true →
      BaysSound (onBay n (fun x => { x with
        st := 0, linkFull := false, life := 0, warn80 := false, warn95 := false, serial := 0, fails := [], stalls := [], nonce := none,
        capWarned := false }) u)
      ∧ ((onBay n (fun x => { x with
        st := 0, linkFull := false, life := 0, warn80 := false, warn95 := false, serial := 0, fails := [], stalls := [], nonce := none,
        capWarned := false }) u).bayAt n).key = (0, none, false, []) := by
    intro u u1 u2 u3 u4
    refine ⟨?_, ?_⟩
    · rw [baysSound_iff hn, bayAt_onBay, bayAt_onBay_other hn]
      refine ⟨sound_iff.mpr ⟨Nat.zero_le _, Or.inr rfl, Or.inr ⟨u2, u3⟩, ?_⟩, u4, fun h => absurd (show (0 : Nat) = 4 from h.1) (by decide)⟩
      intro d h
      rw [show (_ : Option Nat) = none from u2] at h
      exact absurd h nofun
    · rw [bayAt_onBay]
      simp only [Bay.key, u1, u2, u3]
  unfold vacate
  dsimp only
  split
  · rename_i h4
    have f := key_of_bays (rfl : (onBay n (fun x => { x with draining := some 0 }) (revokeWindow n (onBay n (fun x => { x with prsnt := false }) s))).bays = _) hn
    rw [bayAt_onBay] at f
    have o : ((onBay n (fun x => { x with draining := some 0 }) (revokeWindow n (onBay n (fun x => { x with prsnt := false }) s))).bayAt (1 - n)).key
        = (s.bayAt (1 - n)).key := by
      rw [bayAt_onBay_other hn]
      exact eo
    have st4 : ((onBay n (fun x => { x with draining := some 0 }) (revokeWindow n (onBay n (fun x => { x with prsnt := false }) s))).bayAt n).st ≠ 3 := by
      rw [bayAt_onBay]
      show ((revokeWindow n (onBay n (fun x => { x with prsnt := false }) s)).bayAt n).st ≠ 3
      rw [en.1]
      show (s.bayAt n).st ≠ 3
      omega
    obtain ⟨c1, c2⟩ := completeSwitch_spec hn st4
    have pr : ((onBay n (fun x => { x with draining := some 0 }) (revokeWindow n (onBay n (fun x => { x with prsnt := false }) s))).bayAt n).prsnt = false := by
      rw [bayAt_onBay]
      exact en.2.2.1
    have so := completeSwitch_sound hn (by rw [Bay.sound_of_key o]; exact k2) (fun x => k3 ⟨h4, (congrArg Prod.fst o).symm.trans x⟩) st4
      (by rw [bayAt_onBay]; exact Nat.zero_le _) (by rw [bayAt_onBay]; exact (by decide : (0 : Nat) ≠ 4)) (Or.inr (by rw [bayAt_onBay]; rfl))
    simp only [Bay.key, Prod.mk.injEq] at c1
    exact main _ (c1.2.2.1.trans pr) c1.2.1 c1.2.2.2 ((baysSound_iff hn).mp so).2.1
  · rename_i h4
    have z := s3.resolve_left h4
    exact main _ en.2.2.1 (en.2.1.trans z.1) (en.2.2.2.trans z.2) (by rw [Bay.sound_of_key eo]; exact k2)

/-- A bay whose link is lost. -/
theorem relinkBay_ok {s : State} {n : Nat} (hn : n ≤ 1) (k : BaysSound s) : BaysSound (relinkBay n s) := by
  unfold relinkBay
  split
  · exact k
  · obtain ⟨v1, v2⟩ := vacate_ok hn k
    simp only [Bay.key, Prod.mk.injEq] at v2
    have m : BaysSound (onBay n (fun x => { x with prsnt := true }) (vacate n s)) := by
      obtain ⟨k1, -, -⟩ := (baysSound_iff hn).mp v1
      obtain ⟨s1, s2, s3, s4⟩ := sound_iff.mp k1
      exact baysSound_onBay hn v1 (sound_iff.mpr ⟨s1, Or.inl rfl, s3, s4⟩) (fun e => by rw [show (_ : Nat) = 0 from v2.1] at e; exact absurd e (by decide))
    refine startProbe_ok hn m ?_ ?_
    · rw [bayAt_onBay]
      show ((vacate n s).bayAt n).st ≠ 4
      omega
    · rw [bayAt_onBay]

/-- A switch whose last append has ended. -/
theorem drainCheck_ok {s : State} {n : Nat} (hn : n ≤ 1) (k : BaysSound s) : BaysSound (drainCheck n s) := by
  unfold drainCheck
  split
  · rename_i h
    rw [Bool.and_eq_true] at h
    exact switch_ok hn k h.1
  · exact k

/-- A page is issued to the ACTIVE bay. -/
theorem issuePage_ok {s : State} {n : Nat} {p : Page} {staged : Bool} (k : BaysSound s) (h : s.activeBay = some n) :
    BaysSound (issuePage n p staged s) := by
  unfold State.activeBay at h
  have h1 := List.find?_some h
  have h2 := List.mem_of_find?_eq_some h
  simp only [List.mem_cons, List.not_mem_nil, or_false] at h2
  have hn : n ≤ 1 := by omega
  have h4 : (s.bayAt n).st = 4 := by
    rw [Bool.and_eq_true] at h1
    simpa using h1.1
  unfold issuePage
  generalize p.bytes = pb
  dsimp only
  refine baysSound_of (emit_bays _ _) ?_
  have e : (if (s.cartAt n).openZone.isNone then openZone n s else s).bays = s.bays := by
    split
    · exact openZone_bays n s
    · rfl
  generalize (if (s.cartAt n).openZone.isNone then openZone n s else s) = u at e ⊢
  have e2 := (bays_of_view (markPage_view (M := 65536) rfl p.berth p.no (1 + n) u) rfl).trans e
  generalize markPage p.berth p.no (1 + n) u = w at e2 ⊢
  exact setOut_ok hn (baysSound_of e2 k) ((st_of_bays e2 hn).trans h4) (fun _ => ⟨rfl, rfl, rfl⟩)

/-- LIFE_USED is read of a mounted cartridge. -/
theorem readLife_ok {s : State} {n : Nat} {ident : List Byte} (hn : n ≤ 1) (k : BaysSound s) (h0 : (s.bayAt n).st ≠ 0) :
    BaysSound (readLife n ident s) := by
  have e := (lifeWarnings_bays n (lifeOf ident) _).trans (onCart_bays n (fun c => { c with ident := padTo 1024 ident }) s)
  unfold readLife
  dsimp only
  split
  · refine retireBay_ok hn (baysSound_of e k) ?_ (by omega) (by omega)
    rw [st_of_bays e hn]
    exact h0
  · exact baysSound_of e k

/-- A mounted cartridge is in its bay. -/
theorem mounted_st {x : Bay} (h : x.mounted = true) : x.st ≠ 0 := by
  intro e
  simp [Bay.mounted, e] at h

end Sys2Proof.Machine
end

