-- ==== Sys2Proof/Laws/BayCommands.lean ====
section
/-! SUPPORT. The commands that change the state of a bay keep the bays sound (16_cistern.md R356). -/

namespace Sys2Proof.Machine

/-- The next state of an outcome has sound bays. -/
def BaysAfter (o : Result) : Prop := ∀ t, o = .next t → BaysSound t

/-- A next state with sound bays. -/
theorem baysAfter_next {t : State} (h : BaysSound t) : BaysAfter (.next t) := fun _ e => by cases e; exact h

/-- What keeps the state of the bays keeps them sound. -/
theorem baysAfter_of {s : State} {o : Result} (h : Keptbays s o) (k : BaysSound s) : BaysAfter o := fun t e => baysSound_of (h.agrees t e) k

/-- The state of a reply, if it has one, has sound bays. -/
def Reply.BaysAfter : Reply → Prop
  | .ok t _ => BaysSound t
  | .err _ => True
  | .failed t _ _ => BaysSound t
  | .later t => BaysSound t

/-- A mailbox command keeps the bays sound when its effect does. -/
theorem serve_sound (c : CmdSpec) (rq : Req) {body : State → Reply} (h : ∀ u, BaysSound u → (body u).BaysAfter) {s : State} (k : BaysSound s) :
    BaysSound (serve c rq body s) := by
  have ha : BaysSound (accept rq c.code s) := baysSound_of (bays_of_view (accept_view (M := 68157440) rfl rq c.code s) rfl) k
  have hr : ∀ st fl p u, BaysSound u → BaysSound (respond rq.fn.val st fl p u) :=
    fun st fl p u => baysSound_of (bays_of_view (respond_view (M := 17250123776) rfl _ st fl p u) rfl)
  unfold serve
  split
  · exact k
  · split
    · exact baysSound_of (bays_of_view (overrun_view (M := 68681728) rfl _ s) rfl) k
    · unfold dispatch
      split
      · exact hr _ _ _ _ ha
      · split
        · exact hr _ _ _ _ ha
        · have := h (accept rq c.code s) ha
          revert this
          cases body (accept rq c.code s) with
          | ok t p => exact hr _ _ _ _
          | err st => exact fun _ => hr _ _ _ _ ha
          | failed t st p => exact hr _ _ _ _
          | later t => exact id

/-! ### The Cistern -/

/-- ZONE_APPEND_COMPLETE. -/
theorem execZoneAppendComplete_sound (n : Fin 2) (i : Nat) (ok : Bool) {s : State} (k : BaysSound s) :
    BaysAfter (execZoneAppendComplete n i ok s) := by
  have hn : n.val ≤ 1 := by omega
  unfold execZoneAppendComplete
  split
  · exact baysAfter_next k
  · rename_i a h
    have h4 : (s.bayAt n.val).st = 4 := active_of_out hn k (fun e => by rw [e] at h; exact absurd h nofun)
    split
    · refine baysAfter_next (drainCheck_ok hn (pageWritten_ok hn (setOut_ok hn k h4 (fun _ => ⟨rfl, rfl, rfl⟩)) ?_))
      rw [bayAt_onBay]
      show (s.bayAt n.val).st ≠ 0
      omega
    · exact baysAfter_next (drainCheck_ok hn (appendFails_ok hn k h4))

/-- SWITCH_REISSUE. -/
theorem execSwitchReissue_sound (n : Fin 2) {s : State} (k : BaysSound s) : BaysAfter (execSwitchReissue n s) := by
  unfold execSwitchReissue
  refine baysAfter_next ?_
  split
  · rename_i h
    exact switch_ok (by omega) k h
  · exact k

/-- APPEND_STALL. -/
theorem execAppendStall_sound (n : Fin 2) {s : State} (k : BaysSound s) : BaysAfter (execAppendStall n s) := by
  have hn : n.val ≤ 1 := by omega
  unfold execAppendStall
  dsimp only
  generalize (s.tide.nowFs :: ((s.bayAt n.val).stalls.filter (fun t => s.tide.nowFs < t + 1000000000000000))) = recent
  have e1 : (onCist (fun c => { c with stallCnt := bump c.stallCnt }) (onBay n.val (fun x => { x with stalls := recent }) s)).bays = s.bays :=
    (onCist_bays _ _ rfl).trans (onBay_bays n.val (fun x => { x with stalls := recent }) s (fun _ => rfl))
  generalize onCist (fun c => { c with stallCnt := bump c.stallCnt }) (onBay n.val (fun x => { x with stalls := recent }) s) = u at e1 ⊢
  have e2 : (cistEvent 7 n.val 0 (onBay n.val (fun x => { x with stalls := [] }) u)).bays = s.bays :=
    (cistEvent_bays _ _ _ _).trans ((onBay_bays n.val (fun x => { x with stalls := [] }) u (fun _ => rfl)).trans e1)
  generalize cistEvent 7 n.val 0 (onBay n.val (fun x => { x with stalls := [] }) u) = w at e2 ⊢
  split
  · exact baysAfter_next k
  · split
    · exact baysAfter_next (baysSound_of e1 k)
    · refine baysAfter_next ?_
      split
      · rename_i h
        simp only [Bool.and_eq_true, decide_eq_true_eq] at h
        have ha := List.find?_some (show [0, 1].find? _ = some n.val from h.2)
        rw [Bool.and_eq_true] at ha
        exact handOverBay_ok hn (baysSound_of e2 k) (by simpa using ha.1) (by omega) (by omega)
      · exact baysSound_of e2 k

/-- ADMIN_TIMEOUT. -/
theorem execAdminTimeout_sound (n : Fin 2) {s : State} (k : BaysSound s) : BaysAfter (execAdminTimeout n s) :=
  baysAfter_next (faultBay_ok (by omega) k)

/-- LIFE_READ. -/
theorem execLifeRead_sound (n : Fin 2) (ident : List Byte) {s : State} (k : BaysSound s) : BaysAfter (execLifeRead n ident s) := by
  unfold execLifeRead
  refine baysAfter_next ?_
  split
  · rename_i h
    exact readLife_ok (by omega) k (mounted_st h)
  · exact k

/-- ASYNC_EVENT. -/
theorem execAsyncEvent_sound (n : Fin 2) (mediaError : Bool) (ident : List Byte) {s : State} (k : BaysSound s) :
    BaysAfter (execAsyncEvent n mediaError ident s) := by
  unfold execAsyncEvent
  dsimp only
  split
  · exact baysAfter_next k
  · rename_i h
    have m := readLife_ok (ident := ident) (by omega : n.val ≤ 1) k (mounted_st (by simpa using h))
    refine baysAfter_next ?_
    split
    · exact faultBay_ok (by omega) m
    · exact m

/-- BAY_INSERT. -/
theorem execBayInsert_sound (n : Fin 2) {s : State} (k : BaysSound s) : BaysAfter (execBayInsert n s) := by
  have hn : n.val ≤ 1 := by omega
  unfold execBayInsert
  dsimp only
  split
  · exact baysAfter_next k
  · rename_i h
    obtain ⟨k1, k2, k3⟩ := (baysSound_iff hn).mp k
    obtain ⟨s1, s2, s3, s4⟩ := sound_iff.mp k1
    have z : (s.bayAt n.val).st = 0 := s2.resolve_left h
    have m : BaysSound (onBay n.val (fun x => { x with prsnt := true, latched := true, cart := some {} }) s) :=
      baysSound_onBay hn k (sound_iff.mpr ⟨s1, Or.inl rfl, s3, s4⟩) (fun e => absurd (z.symm.trans e) (by decide))
    refine baysAfter_next ?_
    split
    · refine startProbe_ok hn m ?_ ?_
      · rw [bayAt_onBay]
        show (s.bayAt n.val).st ≠ 4
        omega
      · rw [bayAt_onBay]
    · exact m

/-- A bay that probes has a cartridge. -/
theorem probing_prsnt {s : State} {n : Nat} (hn : n ≤ 1) (k : BaysSound s) (h : (s.bayAt n).st ≠ 0) : (s.bayAt n).prsnt = true :=
  (sound_iff.mp ((baysSound_iff hn).mp k).1).2.1.resolve_right h

/-- PROBE_COMPLETE. -/
theorem execProbeComplete_sound (n : Fin 2) (res : ProbeRes) {s : State} (k : BaysSound s) : BaysAfter (execProbeComplete n res s) := by
  have hn : n.val ≤ 1 := by omega
  unfold execProbeComplete
  split
  · exact baysAfter_next k
  · rename_i h
    dsimp only
    have e := (onBay_bays n.val (fun x => { x with
        linkFull := res.linkFull, serial := BitVec.ofNat 64 (fieldLe (padTo 1024 res.ident) 8 8), life := lifeOf (padTo 1024 res.ident) }) _
      (fun _ => rfl)).trans ((onCart_bays n.val (fun c => { c with ident := padTo 1024 res.ident }) _).trans
        ((drawn_bays _).trans (emit_bays (.nvme n.val 0xC6 Config.deviceSerial.toNat (s.freeRun 16)) s)))
    generalize (onBay n.val (fun x => { x with
        linkFull := res.linkFull, serial := BitVec.ofNat 64 (fieldLe (padTo 1024 res.ident) 8 8), life := lifeOf (padTo 1024 res.ident) }) _) = u at e ⊢
    have ku := baysSound_of e k
    have h1 : (u.bayAt n.val).st = 1 := by
      rw [st_of_bays e hn]
      exact Decidable.not_not.mp h
    have hp := probing_prsnt hn ku (by omega)
    split
    · exact baysAfter_next (refuseCart_ok hn ku (by omega) hp)
    · exact baysAfter_next (mount_ok hn ku (by omega) hp)

/-- PROBE_LINK_TIMEOUT. -/
theorem execProbeLinkTimeout_sound (n : Fin 2) {s : State} (k : BaysSound s) : BaysAfter (execProbeLinkTimeout n s) := by
  unfold execProbeLinkTimeout
  refine baysAfter_next ?_
  split
  · rename_i h
    exact refuseCart_ok (by omega) k (by omega) (probing_prsnt (by omega) k (by omega))
  · exact k

/-- BAY_REMOVE. -/
theorem execBayRemove_sound (n : Fin 2) {s : State} (k : BaysSound s) : BaysAfter (execBayRemove n s) := by
  unfold execBayRemove
  split
  · exact baysAfter_next k
  · exact baysAfter_next (baysSound_of (onBay_bays _ _ _ (fun _ => rfl)) (vacate_ok (by omega) k).1)

/-- BAY_LINK_LOSS. -/
theorem execBayLinkLoss_sound (n : Fin 2) {s : State} (k : BaysSound s) : BaysAfter (execBayLinkLoss n s) :=
  baysAfter_next (relinkBay_ok (by omega) k)

/-- A bay that is not ACTIVE, and has a cartridge, takes a state. -/
theorem setSt_ok {s : State} {n dest : Nat} (hn : n ≤ 1) (k : BaysSound s) (h4 : (s.bayAt n).st ≠ 4) (h0 : (s.bayAt n).st ≠ 0) (ht : dest ≤ 8)
    (ht4 : dest ≠ 4) : BaysSound (onBay n (fun x => { x with st := dest }) s) := by
  obtain ⟨k1, k2, k3⟩ := (baysSound_iff hn).mp k
  obtain ⟨s1, s2, s3, s4⟩ := sound_iff.mp k1
  exact baysSound_onBay hn k (sound_iff.mpr ⟨ht, Or.inl (s2.resolve_right h0), Or.inr (s3.resolve_left h4), s4⟩) (fun e => absurd e ht4)

/-- A bay is flushed, and is RELEASED. -/
theorem releaseBay_ok {s : State} {n : Nat} (hn : n ≤ 1) (k : BaysSound s) (h4 : (s.bayAt n).st ≠ 4) (h0 : (s.bayAt n).st ≠ 0) :
    BaysSound (onBay n (fun x => { x with st := 7 }) (flushBay n (revokeWindow n s))) := by
  have e := (flushBay_bays n (revokeWindow n s)).trans (revokeWindow_bays n s)
  refine setSt_ok hn (baysSound_of e k) ?_ ?_ (by omega) (by omega)
  · rw [st_of_bays e hn]; exact h4
  · rw [st_of_bays e hn]; exact h0

/-- LATCH_OPEN. -/
theorem execLatchOpen_sound (n : Fin 2) {s : State} (k : BaysSound s) : BaysAfter (execLatchOpen n s) := by
  have hn : n.val ≤ 1 := by omega
  have e := onBay_bays n.val (fun x => { x with latched := false }) s (fun _ => rfl)
  have ku := baysSound_of e k
  have es := st_of_bays e hn
  unfold execLatchOpen
  dsimp only
  split
  · exact baysAfter_next (retireBay_ok hn ku (by omega) (by omega) (by omega))
  · split
    · rename_i h
      simp only [Bool.or_eq_true, decide_eq_true_eq] at h
      exact baysAfter_next (releaseBay_ok hn ku (by omega) (by omega))
    · exact baysAfter_next ku

/-- LATCH_CLOSE. -/
theorem execLatchClose_sound (n : Fin 2) {s : State} (k : BaysSound s) : BaysAfter (execLatchClose n s) := by
  have hn : n.val ≤ 1 := by omega
  have e := onBay_bays n.val (fun x => { x with latched := true }) s (fun _ => rfl)
  have ku := baysSound_of e k
  have es := st_of_bays e hn
  unfold execLatchClose
  dsimp only
  refine baysAfter_next ?_
  split
  · exact startProbe_ok hn ku (by omega) (probing_prsnt hn ku (by omega))
  · exact ku

/-- CISTERN_SWAP. -/
theorem execCisternSwap_sound (rq : Req) {s : State} (k : BaysSound s) : BaysAfter (execCisternSwap rq s) := by
  refine baysAfter_next (serve_sound _ _ (fun u ku => ?_) k)
  split
  · rename_i n m h1 h2
    have ha := List.find?_some (show [0, 1].find? _ = some n from h1)
    have hm := List.mem_of_find?_eq_some (show [0, 1].find? _ = some n from h1)
    simp only [List.mem_cons, List.not_mem_nil, or_false] at hm
    rw [Bool.and_eq_true] at ha
    have e := onCist_bays (fun c => { c with swapFn := some rq.fn.val }) u rfl
    refine handOverBay_ok (by omega) (baysSound_of e ku) ?_ (by omega) (by omega)
    rw [st_of_bays e (by omega)]
    simpa using ha.1
  · trivial

/-- CISTERN_RELEASE. -/
theorem execCisternRelease_sound (rq : Req) {s : State} (k : BaysSound s) : BaysAfter (execCisternRelease rq s) := by
  refine baysAfter_next (serve_sound _ _ (fun u ku => ?_) k)
  dsimp only
  split
  · trivial
  · rename_i hn
    have hn : rq.u8 0 ≤ 1 := by omega
    split
    · trivial
    · rename_i h1
      simp only [Bool.or_eq_true, decide_eq_true_eq, not_or, Nat.not_le] at h1
      split
      · exact ku
      · split
        · have e := onBay_bays (rq.u8 0) (fun x => { x with releaseFn := some rq.fn.val }) u (fun _ => rfl)
          refine retireBay_ok hn (baysSound_of e ku) ?_ (by omega) (by omega)
          rw [st_of_bays e hn]
          omega
        · exact releaseBay_ok hn ku (by omega) (by omega)

/-- CISTERN_RETIRE. -/
theorem execCisternRetire_sound (rq : Req) (hwFault : Bool) {s : State} (k : BaysSound s) : BaysAfter (execCisternRetire rq hwFault s) := by
  refine baysAfter_next (serve_sound _ _ (fun u ku => ?_) k)
  dsimp only
  have e1 := (emit_bays (.nvme (rq.u8 0) 0xC1 0 (rq.bytes 4 128)) _).trans (onBay_bays (rq.u8 0) (fun x => { x with nonce := none }) u (fun _ => rfl))
  split
  · trivial
  · rename_i hn
    have hn : rq.u8 0 ≤ 1 := by omega
    split
    · trivial
    · rename_i h1
      simp only [Bool.or_eq_true, decide_eq_true_eq, not_or, Nat.not_le] at h1
      split
      · exact baysSound_of e1 ku
      · split
        · exact baysSound_of e1 ku
        · have e2 := (onBay_bays (rq.u8 0) (fun x => { x with capWarned := false }) _ (fun _ => rfl)).trans
            ((onCart_bays (rq.u8 0) Cart.retired _).trans ((revokeWindow_bays (rq.u8 0) _).trans e1))
          have es := st_of_bays e2 hn
          refine startProbe_ok hn (baysSound_of e2 ku) ?_ (probing_prsnt hn (baysSound_of e2 ku) ?_)
          · rw [es]; omega
          · rw [es]; omega

/-! ### Pages -/

/-- A bay that an option keeps. -/
theorem filter_some {o : Option Nat} {f : Nat → Bool} {n : Nat} (h : o.filter f = some n) : o = some n := by
  cases o with
  | none => exact h
  | some m =>
    simp only [Option.filter] at h
    split at h
    · exact h
    · exact absurd h nofun

/-- PAGE_WRITE. -/
theorem execPageWrite_sound {s : State} (k : BaysSound s) : BaysAfter (execPageWrite s) := by
  unfold execPageWrite
  split
  · exact baysAfter_next k
  · split
    · rename_i h
      split at h
      · exact baysAfter_next (issuePage_ok k (filter_some h))
      · exact absurd h nofun
    · split
      · exact baysAfter_next (baysSound_of (stagePage_bays _ s) k)
      · exact baysAfter_next k

/-- STAGING_READBACK. -/
theorem execStagingReadback_sound (err : EccErr) {s : State} (k : BaysSound s) : BaysAfter (execStagingReadback err s) := by
  unfold execStagingReadback
  split
  · rename_i h
    split
    · exact baysAfter_next k
    · split
      · exact baysAfter_next (baysSound_of (losePage_bays _ s) k)
      · exact baysAfter_next (issuePage_ok k h)
  · exact baysAfter_next k

/-! ### Resets and starting up -/

/-- What a reset leaves of a bay is sound. -/
theorem afterReset_key (c : Cist) (n : Nat) :
    (Tab.look {} c.afterReset n).st = 0 ∧ (Tab.look {} c.afterReset n).draining = none ∧ (Tab.look {} c.afterReset n).out = [] := by
  unfold Cist.afterReset
  generalize c.bay = l
  induction l with
  | nil => exact ⟨rfl, rfl, rfl⟩
  | cons e l ih =>
    simp only [List.map_cons, List.filter_cons]
    split
    · simp only [Tab.look]
      split
      · exact ⟨rfl, rfl, rfl⟩
      · exact ih
    · exact ih

/-- A state whose bays are as a reset leaves them. -/
theorem reset_sound {s t : State} (h : t.cist.bay = s.cist.afterReset) : BaysSound t := by
  have key : ∀ n, (t.bayAt n).sound = true ∧ (t.bayAt n).st = 0 := by
    intro n
    obtain ⟨a, b, c⟩ := afterReset_key s.cist n
    rw [← h] at a b c
    refine ⟨sound_iff.mpr ⟨?_, Or.inr a, Or.inr ⟨b, c⟩, ?_⟩, a⟩
    · exact Nat.le_trans (Nat.le_of_eq a) (Nat.zero_le _)
    · intro d hd
      rw [show (t.bayAt n).draining = none from b] at hd
      exact absurd hd nofun
  exact ⟨(key 0).1, (key 1).1, fun e => absurd ((key 0).2.symm.trans e.1) (by decide)⟩

/-- A chip reset. -/
theorem resetChip_ok (cause : BitVec 3) (s : State) : BaysSound (resetChip cause s) := by
  unfold resetChip
  dsimp only
  refine baysSound_of (losePtp_bays _) (reset_sound (s := s) ?_)
  rfl

/-- PORST_N. -/
theorem resetAll_ok (s : State) : BaysSound (resetAll s) := reset_sound (s := s) rfl

/-- MBX_READY is set. -/
theorem setReady_ok {s : State} (k : BaysSound s) : BaysSound (setReady s) := by
  have one : ∀ (u : State) (n : Nat), n ≤ 1 → BaysSound u → BaysSound (if (u.bayAt n).prsnt && (u.bayAt n).st = 0 then startProbe n u else u) := by
    intro u n hn ku
    split
    · rename_i h
      simp only [Bool.and_eq_true, decide_eq_true_eq] at h
      exact startProbe_ok hn ku (by omega) h.1
    · exact ku
  unfold setReady
  dsimp only
  exact one _ 1 (by omega) (one _ 0 (by omega) (baysSound_of rfl k))

/-- CHIP_RST_DELAY_EXPIRY. -/
theorem execChipRstDelayExpiry_sound {s : State} (k : BaysSound s) : BaysAfter (execChipRstDelayExpiry s) := by
  unfold execChipRstDelayExpiry
  split
  · exact baysAfter_next k
  · split
    · exact baysAfter_next (baysSound_of (s := s) rfl k)
    · exact baysAfter_next (resetChip_ok _ s)

/-- LAST_GASP_END. -/
theorem execLastGaspEnd_sound {s : State} (k : BaysSound s) : BaysAfter (execLastGaspEnd s) := by
  unfold execLastGaspEnd
  split
  · exact baysAfter_next k
  · split
    · exact baysAfter_next (resetChip_ok _ s)
    · exact baysAfter_next (baysSound_of (s := s) rfl k)

/-- PWRFAIL_N_RELEASE. -/
theorem execPwrfailNRelease_sound {s : State} (k : BaysSound s) : BaysAfter (execPwrfailNRelease s) := by
  unfold execPwrfailNRelease
  dsimp only
  split
  · exact baysAfter_next k
  · split
    · exact baysAfter_next (baysSound_of (s := s) rfl k)
    · split
      · exact baysAfter_next (baysSound_of (s := s) rfl k)
      · split
        · exact baysAfter_next (resetChip_ok _ _)
        · exact baysAfter_next (baysSound_of (s := s) rfl k)

/-- STARTUP_COMPLETE. -/
theorem execStartupComplete_sound (train : TrainRes) {s : State} (k : BaysSound s) : BaysAfter (execStartupComplete train s) := by
  have k1 : BaysSound (setReady (if s.guard.running then s else coldStart train s)) := by
    split
    · exact setReady_ok k
    · exact setReady_ok (baysSound_of (bays_of_view (coldStart_view (M := 17197510676) rfl train s) rfl) k)
  unfold execStartupComplete
  split
  · exact baysAfter_next k
  · refine baysAfter_next ?_
    split
    · exact baysSound_of (bays_of_view (postAll_view (M := 17183014912) rfl _ _ _ _) rfl) k1
    · exact k1

/-- PORST_N. -/
theorem execPorstN_sound {s : State} (_ : BaysSound s) : BaysAfter (execPorstN s) := baysAfter_next (resetAll_ok s)

/-- CHIP_RESET. -/
theorem execChipReset_sound {s : State} (_ : BaysSound s) : BaysAfter (execChipReset s) := baysAfter_next (resetChip_ok _ s)

/-- BLOCK_RESET. -/
theorem execBlockReset_sound {s : State} (k : BaysSound s) : BaysAfter (execBlockReset s) := by
  unfold execBlockReset
  split
  · exact baysAfter_next k
  · rename_i src unit rest h
    refine baysAfter_next ?_
    have ku : BaysSound (onSump (fun p => { p with blockRst := rest }) s) := baysSound_of (s := s) rfl k
    generalize onSump (fun p => { p with blockRst := rest }) s = u at ku ⊢
    unfold resetBlock
    split
    · exact baysSound_of (bays_of_view (pcsReset_view (M := 16777224) rfl _ u) rfl) ku
    · split
      · split
        · exact baysSound_of ((bays_of_view (enableLink_view (M := 4096) rfl _ _) rfl).trans (bays_of_view (disableLink_view (M := 17392743720) rfl _ u) rfl)) ku
        · exact ku
      · split
        · exact relinkBay_ok (by omega) ku
        · split
          · exact baysSound_of (bays_of_view (restartPumphouse_view (M := 152567808) rfl u) rfl) ku
          · split
            · exact baysSound_of (bays_of_view (startRecovery_view (M := 262144) rfl _ _ _ u) rfl) ku
            · exact ku

end Sys2Proof.Machine
end

