-- ==== Sys2Proof/Laws/State.lean ====
section
/-! SUPPORT. Reading the state after the shared updates: one lemma for each part that an update leaves alone. -/

namespace Sys2Proof.Machine

@[simp] theorem emit_glb (o : Out) (s : State) : (emit o s).glb = s.glb := rfl
@[simp] theorem emit_tide (o : Out) (s : State) : (emit o s).tide = s.tide := rfl
@[simp] theorem emit_guard (o : Out) (s : State) : (emit o s).guard = s.guard := rfl
@[simp] theorem emit_port (o : Out) (s : State) : (emit o s).port = s.port := rfl
@[simp] theorem emit_quad (o : Out) (s : State) : (emit o s).quad = s.quad := rfl
@[simp] theorem emit_frames (o : Out) (s : State) : (emit o s).frames = s.frames := rfl
@[simp] theorem emit_nextFrame (o : Out) (s : State) : (emit o s).nextFrame = s.nextFrame := rfl
@[simp] theorem emit_pump (o : Out) (s : State) : (emit o s).pump = s.pump := rfl
@[simp] theorem emit_strn (o : Out) (s : State) : (emit o s).strn = s.strn := rfl
@[simp] theorem emit_fwd (o : Out) (s : State) : (emit o s).fwd = s.fwd := rfl
@[simp] theorem emit_rsv (o : Out) (s : State) : (emit o s).rsv = s.rsv := rfl
@[simp] theorem emit_weir (o : Out) (s : State) : (emit o s).weir = s.weir := rfl
@[simp] theorem emit_xl (o : Out) (s : State) : (emit o s).xl = s.xl := rfl
@[simp] theorem emit_fab (o : Out) (s : State) : (emit o s).fab = s.fab := rfl
@[simp] theorem emit_shtl (o : Out) (s : State) : (emit o s).shtl = s.shtl := rfl
@[simp] theorem emit_rdma (o : Out) (s : State) : (emit o s).rdma = s.rdma := rfl
@[simp] theorem emit_ledg (o : Out) (s : State) : (emit o s).ledg = s.ledg := rfl
@[simp] theorem emit_cist (o : Out) (s : State) : (emit o s).cist = s.cist := rfl
@[simp] theorem emit_ddr (o : Out) (s : State) : (emit o s).ddr = s.ddr := rfl
@[simp] theorem emit_ph (o : Out) (s : State) : (emit o s).ph = s.ph := rfl
@[simp] theorem emit_mbx (o : Out) (s : State) : (emit o s).mbx = s.mbx := rfl
@[simp] theorem emit_msix (o : Out) (s : State) : (emit o s).msix = s.msix := rfl
@[simp] theorem emit_fuse (o : Out) (s : State) : (emit o s).fuse = s.fuse := rfl
@[simp] theorem emit_host (o : Out) (s : State) : (emit o s).host = s.host := rfl
@[simp] theorem emit_sump (o : Out) (s : State) : (emit o s).sump = s.sump := rfl
@[simp] theorem emit_pwr (o : Out) (s : State) : (emit o s).pwr = s.pwr := rfl
@[simp] theorem emit_pmon (o : Out) (s : State) : (emit o s).pmon = s.pmon := rfl
@[simp] theorem emit_trace (o : Out) (s : State) : (emit o s).trace = s.trace := rfl
@[simp] theorem emit_lane (o : Out) (s : State) : (emit o s).lane = s.lane := rfl
@[simp] theorem emit_tap (o : Out) (s : State) : (emit o s).tap = s.tap := rfl
@[simp] theorem emit_therm (o : Out) (s : State) : (emit o s).therm = s.therm := rfl
@[simp] theorem emit_latch (o : Out) (s : State) : (emit o s).latch = s.latch := rfl
@[simp] theorem emit_pcieDown (o : Out) (s : State) : (emit o s).pcieDown = s.pcieDown := rfl
@[simp] theorem emit_vfEnable (o : Out) (s : State) : (emit o s).vfEnable = s.vfEnable := rfl
@[simp] theorem emit_free (o : Out) (s : State) : (emit o s).free = s.free := rfl
@[simp] theorem emit_pending (o : Out) (s : State) : (emit o s).pending = s.pending := rfl

@[simp] theorem drawn_glb (s : State) : (drawn s).glb = s.glb := rfl
@[simp] theorem drawn_tide (s : State) : (drawn s).tide = s.tide := rfl
@[simp] theorem drawn_guard (s : State) : (drawn s).guard = s.guard := rfl
@[simp] theorem drawn_port (s : State) : (drawn s).port = s.port := rfl
@[simp] theorem drawn_quad (s : State) : (drawn s).quad = s.quad := rfl
@[simp] theorem drawn_frames (s : State) : (drawn s).frames = s.frames := rfl
@[simp] theorem drawn_nextFrame (s : State) : (drawn s).nextFrame = s.nextFrame := rfl
@[simp] theorem drawn_pump (s : State) : (drawn s).pump = s.pump := rfl
@[simp] theorem drawn_strn (s : State) : (drawn s).strn = s.strn := rfl
@[simp] theorem drawn_fwd (s : State) : (drawn s).fwd = s.fwd := rfl
@[simp] theorem drawn_rsv (s : State) : (drawn s).rsv = s.rsv := rfl
@[simp] theorem drawn_weir (s : State) : (drawn s).weir = s.weir := rfl
@[simp] theorem drawn_xl (s : State) : (drawn s).xl = s.xl := rfl
@[simp] theorem drawn_fab (s : State) : (drawn s).fab = s.fab := rfl
@[simp] theorem drawn_shtl (s : State) : (drawn s).shtl = s.shtl := rfl
@[simp] theorem drawn_rdma (s : State) : (drawn s).rdma = s.rdma := rfl
@[simp] theorem drawn_ledg (s : State) : (drawn s).ledg = s.ledg := rfl
@[simp] theorem drawn_cist (s : State) : (drawn s).cist = s.cist := rfl
@[simp] theorem drawn_ddr (s : State) : (drawn s).ddr = s.ddr := rfl
@[simp] theorem drawn_ph (s : State) : (drawn s).ph = s.ph := rfl
@[simp] theorem drawn_mbx (s : State) : (drawn s).mbx = s.mbx := rfl
@[simp] theorem drawn_msix (s : State) : (drawn s).msix = s.msix := rfl
@[simp] theorem drawn_fuse (s : State) : (drawn s).fuse = s.fuse := rfl
@[simp] theorem drawn_host (s : State) : (drawn s).host = s.host := rfl
@[simp] theorem drawn_sump (s : State) : (drawn s).sump = s.sump := rfl
@[simp] theorem drawn_pwr (s : State) : (drawn s).pwr = s.pwr := rfl
@[simp] theorem drawn_pmon (s : State) : (drawn s).pmon = s.pmon := rfl
@[simp] theorem drawn_trace (s : State) : (drawn s).trace = s.trace := rfl
@[simp] theorem drawn_lane (s : State) : (drawn s).lane = s.lane := rfl
@[simp] theorem drawn_tap (s : State) : (drawn s).tap = s.tap := rfl
@[simp] theorem drawn_therm (s : State) : (drawn s).therm = s.therm := rfl
@[simp] theorem drawn_latch (s : State) : (drawn s).latch = s.latch := rfl
@[simp] theorem drawn_pcieDown (s : State) : (drawn s).pcieDown = s.pcieDown := rfl
@[simp] theorem drawn_vfEnable (s : State) : (drawn s).vfEnable = s.vfEnable := rfl
@[simp] theorem drawn_out (s : State) : (drawn s).out = s.out := rfl
@[simp] theorem drawn_pending (s : State) : (drawn s).pending = s.pending := rfl

@[simp] theorem State.setMbx_glb (s : State) (fn : Nat) (m : Mbx) : (s.setMbx fn m).glb = s.glb := rfl
@[simp] theorem State.setMbx_tide (s : State) (fn : Nat) (m : Mbx) : (s.setMbx fn m).tide = s.tide := rfl
@[simp] theorem State.setMbx_guard (s : State) (fn : Nat) (m : Mbx) : (s.setMbx fn m).guard = s.guard := rfl
@[simp] theorem State.setMbx_port (s : State) (fn : Nat) (m : Mbx) : (s.setMbx fn m).port = s.port := rfl
@[simp] theorem State.setMbx_quad (s : State) (fn : Nat) (m : Mbx) : (s.setMbx fn m).quad = s.quad := rfl
@[simp] theorem State.setMbx_frames (s : State) (fn : Nat) (m : Mbx) : (s.setMbx fn m).frames = s.frames := rfl
@[simp] theorem State.setMbx_nextFrame (s : State) (fn : Nat) (m : Mbx) : (s.setMbx fn m).nextFrame = s.nextFrame := rfl
@[simp] theorem State.setMbx_pump (s : State) (fn : Nat) (m : Mbx) : (s.setMbx fn m).pump = s.pump := rfl
@[simp] theorem State.setMbx_strn (s : State) (fn : Nat) (m : Mbx) : (s.setMbx fn m).strn = s.strn := rfl
@[simp] theorem State.setMbx_fwd (s : State) (fn : Nat) (m : Mbx) : (s.setMbx fn m).fwd = s.fwd := rfl
@[simp] theorem State.setMbx_rsv (s : State) (fn : Nat) (m : Mbx) : (s.setMbx fn m).rsv = s.rsv := rfl
@[simp] theorem State.setMbx_weir (s : State) (fn : Nat) (m : Mbx) : (s.setMbx fn m).weir = s.weir := rfl
@[simp] theorem State.setMbx_xl (s : State) (fn : Nat) (m : Mbx) : (s.setMbx fn m).xl = s.xl := rfl
@[simp] theorem State.setMbx_fab (s : State) (fn : Nat) (m : Mbx) : (s.setMbx fn m).fab = s.fab := rfl
@[simp] theorem State.setMbx_shtl (s : State) (fn : Nat) (m : Mbx) : (s.setMbx fn m).shtl = s.shtl := rfl
@[simp] theorem State.setMbx_rdma (s : State) (fn : Nat) (m : Mbx) : (s.setMbx fn m).rdma = s.rdma := rfl
@[simp] theorem State.setMbx_ledg (s : State) (fn : Nat) (m : Mbx) : (s.setMbx fn m).ledg = s.ledg := rfl
@[simp] theorem State.setMbx_cist (s : State) (fn : Nat) (m : Mbx) : (s.setMbx fn m).cist = s.cist := rfl
@[simp] theorem State.setMbx_ddr (s : State) (fn : Nat) (m : Mbx) : (s.setMbx fn m).ddr = s.ddr := rfl
@[simp] theorem State.setMbx_ph (s : State) (fn : Nat) (m : Mbx) : (s.setMbx fn m).ph = s.ph := rfl
@[simp] theorem State.setMbx_msix (s : State) (fn : Nat) (m : Mbx) : (s.setMbx fn m).msix = s.msix := rfl
@[simp] theorem State.setMbx_fuse (s : State) (fn : Nat) (m : Mbx) : (s.setMbx fn m).fuse = s.fuse := rfl
@[simp] theorem State.setMbx_host (s : State) (fn : Nat) (m : Mbx) : (s.setMbx fn m).host = s.host := rfl
@[simp] theorem State.setMbx_sump (s : State) (fn : Nat) (m : Mbx) : (s.setMbx fn m).sump = s.sump := rfl
@[simp] theorem State.setMbx_pwr (s : State) (fn : Nat) (m : Mbx) : (s.setMbx fn m).pwr = s.pwr := rfl
@[simp] theorem State.setMbx_pmon (s : State) (fn : Nat) (m : Mbx) : (s.setMbx fn m).pmon = s.pmon := rfl
@[simp] theorem State.setMbx_trace (s : State) (fn : Nat) (m : Mbx) : (s.setMbx fn m).trace = s.trace := rfl
@[simp] theorem State.setMbx_lane (s : State) (fn : Nat) (m : Mbx) : (s.setMbx fn m).lane = s.lane := rfl
@[simp] theorem State.setMbx_tap (s : State) (fn : Nat) (m : Mbx) : (s.setMbx fn m).tap = s.tap := rfl
@[simp] theorem State.setMbx_therm (s : State) (fn : Nat) (m : Mbx) : (s.setMbx fn m).therm = s.therm := rfl
@[simp] theorem State.setMbx_latch (s : State) (fn : Nat) (m : Mbx) : (s.setMbx fn m).latch = s.latch := rfl
@[simp] theorem State.setMbx_pcieDown (s : State) (fn : Nat) (m : Mbx) : (s.setMbx fn m).pcieDown = s.pcieDown := rfl
@[simp] theorem State.setMbx_vfEnable (s : State) (fn : Nat) (m : Mbx) : (s.setMbx fn m).vfEnable = s.vfEnable := rfl
@[simp] theorem State.setMbx_out (s : State) (fn : Nat) (m : Mbx) : (s.setMbx fn m).out = s.out := rfl
@[simp] theorem State.setMbx_free (s : State) (fn : Nat) (m : Mbx) : (s.setMbx fn m).free = s.free := rfl
@[simp] theorem State.setMbx_pending (s : State) (fn : Nat) (m : Mbx) : (s.setMbx fn m).pending = s.pending := rfl

@[simp] theorem State.setPort_glb (s : State) (p : Nat) (v : Port) : (s.setPort p v).glb = s.glb := rfl
@[simp] theorem State.setPort_tide (s : State) (p : Nat) (v : Port) : (s.setPort p v).tide = s.tide := rfl
@[simp] theorem State.setPort_guard (s : State) (p : Nat) (v : Port) : (s.setPort p v).guard = s.guard := rfl
@[simp] theorem State.setPort_quad (s : State) (p : Nat) (v : Port) : (s.setPort p v).quad = s.quad := rfl
@[simp] theorem State.setPort_frames (s : State) (p : Nat) (v : Port) : (s.setPort p v).frames = s.frames := rfl
@[simp] theorem State.setPort_nextFrame (s : State) (p : Nat) (v : Port) : (s.setPort p v).nextFrame = s.nextFrame := rfl
@[simp] theorem State.setPort_pump (s : State) (p : Nat) (v : Port) : (s.setPort p v).pump = s.pump := rfl
@[simp] theorem State.setPort_strn (s : State) (p : Nat) (v : Port) : (s.setPort p v).strn = s.strn := rfl
@[simp] theorem State.setPort_fwd (s : State) (p : Nat) (v : Port) : (s.setPort p v).fwd = s.fwd := rfl
@[simp] theorem State.setPort_rsv (s : State) (p : Nat) (v : Port) : (s.setPort p v).rsv = s.rsv := rfl
@[simp] theorem State.setPort_weir (s : State) (p : Nat) (v : Port) : (s.setPort p v).weir = s.weir := rfl
@[simp] theorem State.setPort_xl (s : State) (p : Nat) (v : Port) : (s.setPort p v).xl = s.xl := rfl
@[simp] theorem State.setPort_fab (s : State) (p : Nat) (v : Port) : (s.setPort p v).fab = s.fab := rfl
@[simp] theorem State.setPort_shtl (s : State) (p : Nat) (v : Port) : (s.setPort p v).shtl = s.shtl := rfl
@[simp] theorem State.setPort_rdma (s : State) (p : Nat) (v : Port) : (s.setPort p v).rdma = s.rdma := rfl
@[simp] theorem State.setPort_ledg (s : State) (p : Nat) (v : Port) : (s.setPort p v).ledg = s.ledg := rfl
@[simp] theorem State.setPort_cist (s : State) (p : Nat) (v : Port) : (s.setPort p v).cist = s.cist := rfl
@[simp] theorem State.setPort_ddr (s : State) (p : Nat) (v : Port) : (s.setPort p v).ddr = s.ddr := rfl
@[simp] theorem State.setPort_ph (s : State) (p : Nat) (v : Port) : (s.setPort p v).ph = s.ph := rfl
@[simp] theorem State.setPort_mbx (s : State) (p : Nat) (v : Port) : (s.setPort p v).mbx = s.mbx := rfl
@[simp] theorem State.setPort_msix (s : State) (p : Nat) (v : Port) : (s.setPort p v).msix = s.msix := rfl
@[simp] theorem State.setPort_fuse (s : State) (p : Nat) (v : Port) : (s.setPort p v).fuse = s.fuse := rfl
@[simp] theorem State.setPort_host (s : State) (p : Nat) (v : Port) : (s.setPort p v).host = s.host := rfl
@[simp] theorem State.setPort_sump (s : State) (p : Nat) (v : Port) : (s.setPort p v).sump = s.sump := rfl
@[simp] theorem State.setPort_pwr (s : State) (p : Nat) (v : Port) : (s.setPort p v).pwr = s.pwr := rfl
@[simp] theorem State.setPort_pmon (s : State) (p : Nat) (v : Port) : (s.setPort p v).pmon = s.pmon := rfl
@[simp] theorem State.setPort_trace (s : State) (p : Nat) (v : Port) : (s.setPort p v).trace = s.trace := rfl
@[simp] theorem State.setPort_lane (s : State) (p : Nat) (v : Port) : (s.setPort p v).lane = s.lane := rfl
@[simp] theorem State.setPort_tap (s : State) (p : Nat) (v : Port) : (s.setPort p v).tap = s.tap := rfl
@[simp] theorem State.setPort_therm (s : State) (p : Nat) (v : Port) : (s.setPort p v).therm = s.therm := rfl
@[simp] theorem State.setPort_latch (s : State) (p : Nat) (v : Port) : (s.setPort p v).latch = s.latch := rfl
@[simp] theorem State.setPort_pcieDown (s : State) (p : Nat) (v : Port) : (s.setPort p v).pcieDown = s.pcieDown := rfl
@[simp] theorem State.setPort_vfEnable (s : State) (p : Nat) (v : Port) : (s.setPort p v).vfEnable = s.vfEnable := rfl
@[simp] theorem State.setPort_out (s : State) (p : Nat) (v : Port) : (s.setPort p v).out = s.out := rfl
@[simp] theorem State.setPort_free (s : State) (p : Nat) (v : Port) : (s.setPort p v).free = s.free := rfl
@[simp] theorem State.setPort_pending (s : State) (p : Nat) (v : Port) : (s.setPort p v).pending = s.pending := rfl

@[simp] theorem State.setQuad_glb (s : State) (q : Nat) (v : Quad) : (s.setQuad q v).glb = s.glb := rfl
@[simp] theorem State.setQuad_tide (s : State) (q : Nat) (v : Quad) : (s.setQuad q v).tide = s.tide := rfl
@[simp] theorem State.setQuad_guard (s : State) (q : Nat) (v : Quad) : (s.setQuad q v).guard = s.guard := rfl
@[simp] theorem State.setQuad_port (s : State) (q : Nat) (v : Quad) : (s.setQuad q v).port = s.port := rfl
@[simp] theorem State.setQuad_frames (s : State) (q : Nat) (v : Quad) : (s.setQuad q v).frames = s.frames := rfl
@[simp] theorem State.setQuad_nextFrame (s : State) (q : Nat) (v : Quad) : (s.setQuad q v).nextFrame = s.nextFrame := rfl
@[simp] theorem State.setQuad_pump (s : State) (q : Nat) (v : Quad) : (s.setQuad q v).pump = s.pump := rfl
@[simp] theorem State.setQuad_strn (s : State) (q : Nat) (v : Quad) : (s.setQuad q v).strn = s.strn := rfl
@[simp] theorem State.setQuad_fwd (s : State) (q : Nat) (v : Quad) : (s.setQuad q v).fwd = s.fwd := rfl
@[simp] theorem State.setQuad_rsv (s : State) (q : Nat) (v : Quad) : (s.setQuad q v).rsv = s.rsv := rfl
@[simp] theorem State.setQuad_weir (s : State) (q : Nat) (v : Quad) : (s.setQuad q v).weir = s.weir := rfl
@[simp] theorem State.setQuad_xl (s : State) (q : Nat) (v : Quad) : (s.setQuad q v).xl = s.xl := rfl
@[simp] theorem State.setQuad_fab (s : State) (q : Nat) (v : Quad) : (s.setQuad q v).fab = s.fab := rfl
@[simp] theorem State.setQuad_shtl (s : State) (q : Nat) (v : Quad) : (s.setQuad q v).shtl = s.shtl := rfl
@[simp] theorem State.setQuad_rdma (s : State) (q : Nat) (v : Quad) : (s.setQuad q v).rdma = s.rdma := rfl
@[simp] theorem State.setQuad_ledg (s : State) (q : Nat) (v : Quad) : (s.setQuad q v).ledg = s.ledg := rfl
@[simp] theorem State.setQuad_cist (s : State) (q : Nat) (v : Quad) : (s.setQuad q v).cist = s.cist := rfl
@[simp] theorem State.setQuad_ddr (s : State) (q : Nat) (v : Quad) : (s.setQuad q v).ddr = s.ddr := rfl
@[simp] theorem State.setQuad_ph (s : State) (q : Nat) (v : Quad) : (s.setQuad q v).ph = s.ph := rfl
@[simp] theorem State.setQuad_mbx (s : State) (q : Nat) (v : Quad) : (s.setQuad q v).mbx = s.mbx := rfl
@[simp] theorem State.setQuad_msix (s : State) (q : Nat) (v : Quad) : (s.setQuad q v).msix = s.msix := rfl
@[simp] theorem State.setQuad_fuse (s : State) (q : Nat) (v : Quad) : (s.setQuad q v).fuse = s.fuse := rfl
@[simp] theorem State.setQuad_host (s : State) (q : Nat) (v : Quad) : (s.setQuad q v).host = s.host := rfl
@[simp] theorem State.setQuad_sump (s : State) (q : Nat) (v : Quad) : (s.setQuad q v).sump = s.sump := rfl
@[simp] theorem State.setQuad_pwr (s : State) (q : Nat) (v : Quad) : (s.setQuad q v).pwr = s.pwr := rfl
@[simp] theorem State.setQuad_pmon (s : State) (q : Nat) (v : Quad) : (s.setQuad q v).pmon = s.pmon := rfl
@[simp] theorem State.setQuad_trace (s : State) (q : Nat) (v : Quad) : (s.setQuad q v).trace = s.trace := rfl
@[simp] theorem State.setQuad_lane (s : State) (q : Nat) (v : Quad) : (s.setQuad q v).lane = s.lane := rfl
@[simp] theorem State.setQuad_tap (s : State) (q : Nat) (v : Quad) : (s.setQuad q v).tap = s.tap := rfl
@[simp] theorem State.setQuad_therm (s : State) (q : Nat) (v : Quad) : (s.setQuad q v).therm = s.therm := rfl
@[simp] theorem State.setQuad_latch (s : State) (q : Nat) (v : Quad) : (s.setQuad q v).latch = s.latch := rfl
@[simp] theorem State.setQuad_pcieDown (s : State) (q : Nat) (v : Quad) : (s.setQuad q v).pcieDown = s.pcieDown := rfl
@[simp] theorem State.setQuad_vfEnable (s : State) (q : Nat) (v : Quad) : (s.setQuad q v).vfEnable = s.vfEnable := rfl
@[simp] theorem State.setQuad_out (s : State) (q : Nat) (v : Quad) : (s.setQuad q v).out = s.out := rfl
@[simp] theorem State.setQuad_free (s : State) (q : Nat) (v : Quad) : (s.setQuad q v).free = s.free := rfl
@[simp] theorem State.setQuad_pending (s : State) (q : Nat) (v : Quad) : (s.setQuad q v).pending = s.pending := rfl

@[simp] theorem State.setXl_glb (s : State) (k : Nat) (v : Xl) : (s.setXl k v).glb = s.glb := rfl
@[simp] theorem State.setXl_tide (s : State) (k : Nat) (v : Xl) : (s.setXl k v).tide = s.tide := rfl
@[simp] theorem State.setXl_guard (s : State) (k : Nat) (v : Xl) : (s.setXl k v).guard = s.guard := rfl
@[simp] theorem State.setXl_port (s : State) (k : Nat) (v : Xl) : (s.setXl k v).port = s.port := rfl
@[simp] theorem State.setXl_quad (s : State) (k : Nat) (v : Xl) : (s.setXl k v).quad = s.quad := rfl
@[simp] theorem State.setXl_frames (s : State) (k : Nat) (v : Xl) : (s.setXl k v).frames = s.frames := rfl
@[simp] theorem State.setXl_nextFrame (s : State) (k : Nat) (v : Xl) : (s.setXl k v).nextFrame = s.nextFrame := rfl
@[simp] theorem State.setXl_pump (s : State) (k : Nat) (v : Xl) : (s.setXl k v).pump = s.pump := rfl
@[simp] theorem State.setXl_strn (s : State) (k : Nat) (v : Xl) : (s.setXl k v).strn = s.strn := rfl
@[simp] theorem State.setXl_fwd (s : State) (k : Nat) (v : Xl) : (s.setXl k v).fwd = s.fwd := rfl
@[simp] theorem State.setXl_rsv (s : State) (k : Nat) (v : Xl) : (s.setXl k v).rsv = s.rsv := rfl
@[simp] theorem State.setXl_weir (s : State) (k : Nat) (v : Xl) : (s.setXl k v).weir = s.weir := rfl
@[simp] theorem State.setXl_fab (s : State) (k : Nat) (v : Xl) : (s.setXl k v).fab = s.fab := rfl
@[simp] theorem State.setXl_shtl (s : State) (k : Nat) (v : Xl) : (s.setXl k v).shtl = s.shtl := rfl
@[simp] theorem State.setXl_rdma (s : State) (k : Nat) (v : Xl) : (s.setXl k v).rdma = s.rdma := rfl
@[simp] theorem State.setXl_ledg (s : State) (k : Nat) (v : Xl) : (s.setXl k v).ledg = s.ledg := rfl
@[simp] theorem State.setXl_cist (s : State) (k : Nat) (v : Xl) : (s.setXl k v).cist = s.cist := rfl
@[simp] theorem State.setXl_ddr (s : State) (k : Nat) (v : Xl) : (s.setXl k v).ddr = s.ddr := rfl
@[simp] theorem State.setXl_ph (s : State) (k : Nat) (v : Xl) : (s.setXl k v).ph = s.ph := rfl
@[simp] theorem State.setXl_mbx (s : State) (k : Nat) (v : Xl) : (s.setXl k v).mbx = s.mbx := rfl
@[simp] theorem State.setXl_msix (s : State) (k : Nat) (v : Xl) : (s.setXl k v).msix = s.msix := rfl
@[simp] theorem State.setXl_fuse (s : State) (k : Nat) (v : Xl) : (s.setXl k v).fuse = s.fuse := rfl
@[simp] theorem State.setXl_host (s : State) (k : Nat) (v : Xl) : (s.setXl k v).host = s.host := rfl
@[simp] theorem State.setXl_sump (s : State) (k : Nat) (v : Xl) : (s.setXl k v).sump = s.sump := rfl
@[simp] theorem State.setXl_pwr (s : State) (k : Nat) (v : Xl) : (s.setXl k v).pwr = s.pwr := rfl
@[simp] theorem State.setXl_pmon (s : State) (k : Nat) (v : Xl) : (s.setXl k v).pmon = s.pmon := rfl
@[simp] theorem State.setXl_trace (s : State) (k : Nat) (v : Xl) : (s.setXl k v).trace = s.trace := rfl
@[simp] theorem State.setXl_lane (s : State) (k : Nat) (v : Xl) : (s.setXl k v).lane = s.lane := rfl
@[simp] theorem State.setXl_tap (s : State) (k : Nat) (v : Xl) : (s.setXl k v).tap = s.tap := rfl
@[simp] theorem State.setXl_therm (s : State) (k : Nat) (v : Xl) : (s.setXl k v).therm = s.therm := rfl
@[simp] theorem State.setXl_latch (s : State) (k : Nat) (v : Xl) : (s.setXl k v).latch = s.latch := rfl
@[simp] theorem State.setXl_pcieDown (s : State) (k : Nat) (v : Xl) : (s.setXl k v).pcieDown = s.pcieDown := rfl
@[simp] theorem State.setXl_vfEnable (s : State) (k : Nat) (v : Xl) : (s.setXl k v).vfEnable = s.vfEnable := rfl
@[simp] theorem State.setXl_out (s : State) (k : Nat) (v : Xl) : (s.setXl k v).out = s.out := rfl
@[simp] theorem State.setXl_free (s : State) (k : Nat) (v : Xl) : (s.setXl k v).free = s.free := rfl
@[simp] theorem State.setXl_pending (s : State) (k : Nat) (v : Xl) : (s.setXl k v).pending = s.pending := rfl

@[simp] theorem State.setDdr_glb (s : State) (c : Nat) (v : Ddr) : (s.setDdr c v).glb = s.glb := rfl
@[simp] theorem State.setDdr_tide (s : State) (c : Nat) (v : Ddr) : (s.setDdr c v).tide = s.tide := rfl
@[simp] theorem State.setDdr_guard (s : State) (c : Nat) (v : Ddr) : (s.setDdr c v).guard = s.guard := rfl
@[simp] theorem State.setDdr_port (s : State) (c : Nat) (v : Ddr) : (s.setDdr c v).port = s.port := rfl
@[simp] theorem State.setDdr_quad (s : State) (c : Nat) (v : Ddr) : (s.setDdr c v).quad = s.quad := rfl
@[simp] theorem State.setDdr_frames (s : State) (c : Nat) (v : Ddr) : (s.setDdr c v).frames = s.frames := rfl
@[simp] theorem State.setDdr_nextFrame (s : State) (c : Nat) (v : Ddr) : (s.setDdr c v).nextFrame = s.nextFrame := rfl
@[simp] theorem State.setDdr_pump (s : State) (c : Nat) (v : Ddr) : (s.setDdr c v).pump = s.pump := rfl
@[simp] theorem State.setDdr_strn (s : State) (c : Nat) (v : Ddr) : (s.setDdr c v).strn = s.strn := rfl
@[simp] theorem State.setDdr_fwd (s : State) (c : Nat) (v : Ddr) : (s.setDdr c v).fwd = s.fwd := rfl
@[simp] theorem State.setDdr_rsv (s : State) (c : Nat) (v : Ddr) : (s.setDdr c v).rsv = s.rsv := rfl
@[simp] theorem State.setDdr_weir (s : State) (c : Nat) (v : Ddr) : (s.setDdr c v).weir = s.weir := rfl
@[simp] theorem State.setDdr_xl (s : State) (c : Nat) (v : Ddr) : (s.setDdr c v).xl = s.xl := rfl
@[simp] theorem State.setDdr_fab (s : State) (c : Nat) (v : Ddr) : (s.setDdr c v).fab = s.fab := rfl
@[simp] theorem State.setDdr_shtl (s : State) (c : Nat) (v : Ddr) : (s.setDdr c v).shtl = s.shtl := rfl
@[simp] theorem State.setDdr_rdma (s : State) (c : Nat) (v : Ddr) : (s.setDdr c v).rdma = s.rdma := rfl
@[simp] theorem State.setDdr_ledg (s : State) (c : Nat) (v : Ddr) : (s.setDdr c v).ledg = s.ledg := rfl
@[simp] theorem State.setDdr_cist (s : State) (c : Nat) (v : Ddr) : (s.setDdr c v).cist = s.cist := rfl
@[simp] theorem State.setDdr_ph (s : State) (c : Nat) (v : Ddr) : (s.setDdr c v).ph = s.ph := rfl
@[simp] theorem State.setDdr_mbx (s : State) (c : Nat) (v : Ddr) : (s.setDdr c v).mbx = s.mbx := rfl
@[simp] theorem State.setDdr_msix (s : State) (c : Nat) (v : Ddr) : (s.setDdr c v).msix = s.msix := rfl
@[simp] theorem State.setDdr_fuse (s : State) (c : Nat) (v : Ddr) : (s.setDdr c v).fuse = s.fuse := rfl
@[simp] theorem State.setDdr_host (s : State) (c : Nat) (v : Ddr) : (s.setDdr c v).host = s.host := rfl
@[simp] theorem State.setDdr_sump (s : State) (c : Nat) (v : Ddr) : (s.setDdr c v).sump = s.sump := rfl
@[simp] theorem State.setDdr_pwr (s : State) (c : Nat) (v : Ddr) : (s.setDdr c v).pwr = s.pwr := rfl
@[simp] theorem State.setDdr_pmon (s : State) (c : Nat) (v : Ddr) : (s.setDdr c v).pmon = s.pmon := rfl
@[simp] theorem State.setDdr_trace (s : State) (c : Nat) (v : Ddr) : (s.setDdr c v).trace = s.trace := rfl
@[simp] theorem State.setDdr_lane (s : State) (c : Nat) (v : Ddr) : (s.setDdr c v).lane = s.lane := rfl
@[simp] theorem State.setDdr_tap (s : State) (c : Nat) (v : Ddr) : (s.setDdr c v).tap = s.tap := rfl
@[simp] theorem State.setDdr_therm (s : State) (c : Nat) (v : Ddr) : (s.setDdr c v).therm = s.therm := rfl
@[simp] theorem State.setDdr_latch (s : State) (c : Nat) (v : Ddr) : (s.setDdr c v).latch = s.latch := rfl
@[simp] theorem State.setDdr_pcieDown (s : State) (c : Nat) (v : Ddr) : (s.setDdr c v).pcieDown = s.pcieDown := rfl
@[simp] theorem State.setDdr_vfEnable (s : State) (c : Nat) (v : Ddr) : (s.setDdr c v).vfEnable = s.vfEnable := rfl
@[simp] theorem State.setDdr_out (s : State) (c : Nat) (v : Ddr) : (s.setDdr c v).out = s.out := rfl
@[simp] theorem State.setDdr_free (s : State) (c : Nat) (v : Ddr) : (s.setDdr c v).free = s.free := rfl
@[simp] theorem State.setDdr_pending (s : State) (c : Nat) (v : Ddr) : (s.setDdr c v).pending = s.pending := rfl

@[simp] theorem State.setLane_glb (s : State) (i : Nat) (v : Lane) : (s.setLane i v).glb = s.glb := rfl
@[simp] theorem State.setLane_tide (s : State) (i : Nat) (v : Lane) : (s.setLane i v).tide = s.tide := rfl
@[simp] theorem State.setLane_guard (s : State) (i : Nat) (v : Lane) : (s.setLane i v).guard = s.guard := rfl
@[simp] theorem State.setLane_port (s : State) (i : Nat) (v : Lane) : (s.setLane i v).port = s.port := rfl
@[simp] theorem State.setLane_quad (s : State) (i : Nat) (v : Lane) : (s.setLane i v).quad = s.quad := rfl
@[simp] theorem State.setLane_frames (s : State) (i : Nat) (v : Lane) : (s.setLane i v).frames = s.frames := rfl
@[simp] theorem State.setLane_nextFrame (s : State) (i : Nat) (v : Lane) : (s.setLane i v).nextFrame = s.nextFrame := rfl
@[simp] theorem State.setLane_pump (s : State) (i : Nat) (v : Lane) : (s.setLane i v).pump = s.pump := rfl
@[simp] theorem State.setLane_strn (s : State) (i : Nat) (v : Lane) : (s.setLane i v).strn = s.strn := rfl
@[simp] theorem State.setLane_fwd (s : State) (i : Nat) (v : Lane) : (s.setLane i v).fwd = s.fwd := rfl
@[simp] theorem State.setLane_rsv (s : State) (i : Nat) (v : Lane) : (s.setLane i v).rsv = s.rsv := rfl
@[simp] theorem State.setLane_weir (s : State) (i : Nat) (v : Lane) : (s.setLane i v).weir = s.weir := rfl
@[simp] theorem State.setLane_xl (s : State) (i : Nat) (v : Lane) : (s.setLane i v).xl = s.xl := rfl
@[simp] theorem State.setLane_fab (s : State) (i : Nat) (v : Lane) : (s.setLane i v).fab = s.fab := rfl
@[simp] theorem State.setLane_shtl (s : State) (i : Nat) (v : Lane) : (s.setLane i v).shtl = s.shtl := rfl
@[simp] theorem State.setLane_rdma (s : State) (i : Nat) (v : Lane) : (s.setLane i v).rdma = s.rdma := rfl
@[simp] theorem State.setLane_ledg (s : State) (i : Nat) (v : Lane) : (s.setLane i v).ledg = s.ledg := rfl
@[simp] theorem State.setLane_cist (s : State) (i : Nat) (v : Lane) : (s.setLane i v).cist = s.cist := rfl
@[simp] theorem State.setLane_ddr (s : State) (i : Nat) (v : Lane) : (s.setLane i v).ddr = s.ddr := rfl
@[simp] theorem State.setLane_ph (s : State) (i : Nat) (v : Lane) : (s.setLane i v).ph = s.ph := rfl
@[simp] theorem State.setLane_mbx (s : State) (i : Nat) (v : Lane) : (s.setLane i v).mbx = s.mbx := rfl
@[simp] theorem State.setLane_msix (s : State) (i : Nat) (v : Lane) : (s.setLane i v).msix = s.msix := rfl
@[simp] theorem State.setLane_fuse (s : State) (i : Nat) (v : Lane) : (s.setLane i v).fuse = s.fuse := rfl
@[simp] theorem State.setLane_host (s : State) (i : Nat) (v : Lane) : (s.setLane i v).host = s.host := rfl
@[simp] theorem State.setLane_sump (s : State) (i : Nat) (v : Lane) : (s.setLane i v).sump = s.sump := rfl
@[simp] theorem State.setLane_pwr (s : State) (i : Nat) (v : Lane) : (s.setLane i v).pwr = s.pwr := rfl
@[simp] theorem State.setLane_pmon (s : State) (i : Nat) (v : Lane) : (s.setLane i v).pmon = s.pmon := rfl
@[simp] theorem State.setLane_trace (s : State) (i : Nat) (v : Lane) : (s.setLane i v).trace = s.trace := rfl
@[simp] theorem State.setLane_tap (s : State) (i : Nat) (v : Lane) : (s.setLane i v).tap = s.tap := rfl
@[simp] theorem State.setLane_therm (s : State) (i : Nat) (v : Lane) : (s.setLane i v).therm = s.therm := rfl
@[simp] theorem State.setLane_latch (s : State) (i : Nat) (v : Lane) : (s.setLane i v).latch = s.latch := rfl
@[simp] theorem State.setLane_pcieDown (s : State) (i : Nat) (v : Lane) : (s.setLane i v).pcieDown = s.pcieDown := rfl
@[simp] theorem State.setLane_vfEnable (s : State) (i : Nat) (v : Lane) : (s.setLane i v).vfEnable = s.vfEnable := rfl
@[simp] theorem State.setLane_out (s : State) (i : Nat) (v : Lane) : (s.setLane i v).out = s.out := rfl
@[simp] theorem State.setLane_free (s : State) (i : Nat) (v : Lane) : (s.setLane i v).free = s.free := rfl
@[simp] theorem State.setLane_pending (s : State) (i : Nat) (v : Lane) : (s.setLane i v).pending = s.pending := rfl

@[simp] theorem State.setFrame_glb (s : State) (f : Nat) (v : Frame) : (s.setFrame f v).glb = s.glb := rfl
@[simp] theorem State.setFrame_tide (s : State) (f : Nat) (v : Frame) : (s.setFrame f v).tide = s.tide := rfl
@[simp] theorem State.setFrame_guard (s : State) (f : Nat) (v : Frame) : (s.setFrame f v).guard = s.guard := rfl
@[simp] theorem State.setFrame_port (s : State) (f : Nat) (v : Frame) : (s.setFrame f v).port = s.port := rfl
@[simp] theorem State.setFrame_quad (s : State) (f : Nat) (v : Frame) : (s.setFrame f v).quad = s.quad := rfl
@[simp] theorem State.setFrame_nextFrame (s : State) (f : Nat) (v : Frame) : (s.setFrame f v).nextFrame = s.nextFrame := rfl
@[simp] theorem State.setFrame_pump (s : State) (f : Nat) (v : Frame) : (s.setFrame f v).pump = s.pump := rfl
@[simp] theorem State.setFrame_strn (s : State) (f : Nat) (v : Frame) : (s.setFrame f v).strn = s.strn := rfl
@[simp] theorem State.setFrame_fwd (s : State) (f : Nat) (v : Frame) : (s.setFrame f v).fwd = s.fwd := rfl
@[simp] theorem State.setFrame_rsv (s : State) (f : Nat) (v : Frame) : (s.setFrame f v).rsv = s.rsv := rfl
@[simp] theorem State.setFrame_weir (s : State) (f : Nat) (v : Frame) : (s.setFrame f v).weir = s.weir := rfl
@[simp] theorem State.setFrame_xl (s : State) (f : Nat) (v : Frame) : (s.setFrame f v).xl = s.xl := rfl
@[simp] theorem State.setFrame_fab (s : State) (f : Nat) (v : Frame) : (s.setFrame f v).fab = s.fab := rfl
@[simp] theorem State.setFrame_shtl (s : State) (f : Nat) (v : Frame) : (s.setFrame f v).shtl = s.shtl := rfl
@[simp] theorem State.setFrame_rdma (s : State) (f : Nat) (v : Frame) : (s.setFrame f v).rdma = s.rdma := rfl
@[simp] theorem State.setFrame_ledg (s : State) (f : Nat) (v : Frame) : (s.setFrame f v).ledg = s.ledg := rfl
@[simp] theorem State.setFrame_cist (s : State) (f : Nat) (v : Frame) : (s.setFrame f v).cist = s.cist := rfl
@[simp] theorem State.setFrame_ddr (s : State) (f : Nat) (v : Frame) : (s.setFrame f v).ddr = s.ddr := rfl
@[simp] theorem State.setFrame_ph (s : State) (f : Nat) (v : Frame) : (s.setFrame f v).ph = s.ph := rfl
@[simp] theorem State.setFrame_mbx (s : State) (f : Nat) (v : Frame) : (s.setFrame f v).mbx = s.mbx := rfl
@[simp] theorem State.setFrame_msix (s : State) (f : Nat) (v : Frame) : (s.setFrame f v).msix = s.msix := rfl
@[simp] theorem State.setFrame_fuse (s : State) (f : Nat) (v : Frame) : (s.setFrame f v).fuse = s.fuse := rfl
@[simp] theorem State.setFrame_host (s : State) (f : Nat) (v : Frame) : (s.setFrame f v).host = s.host := rfl
@[simp] theorem State.setFrame_sump (s : State) (f : Nat) (v : Frame) : (s.setFrame f v).sump = s.sump := rfl
@[simp] theorem State.setFrame_pwr (s : State) (f : Nat) (v : Frame) : (s.setFrame f v).pwr = s.pwr := rfl
@[simp] theorem State.setFrame_pmon (s : State) (f : Nat) (v : Frame) : (s.setFrame f v).pmon = s.pmon := rfl
@[simp] theorem State.setFrame_trace (s : State) (f : Nat) (v : Frame) : (s.setFrame f v).trace = s.trace := rfl
@[simp] theorem State.setFrame_lane (s : State) (f : Nat) (v : Frame) : (s.setFrame f v).lane = s.lane := rfl
@[simp] theorem State.setFrame_tap (s : State) (f : Nat) (v : Frame) : (s.setFrame f v).tap = s.tap := rfl
@[simp] theorem State.setFrame_therm (s : State) (f : Nat) (v : Frame) : (s.setFrame f v).therm = s.therm := rfl
@[simp] theorem State.setFrame_latch (s : State) (f : Nat) (v : Frame) : (s.setFrame f v).latch = s.latch := rfl
@[simp] theorem State.setFrame_pcieDown (s : State) (f : Nat) (v : Frame) : (s.setFrame f v).pcieDown = s.pcieDown := rfl
@[simp] theorem State.setFrame_vfEnable (s : State) (f : Nat) (v : Frame) : (s.setFrame f v).vfEnable = s.vfEnable := rfl
@[simp] theorem State.setFrame_out (s : State) (f : Nat) (v : Frame) : (s.setFrame f v).out = s.out := rfl
@[simp] theorem State.setFrame_free (s : State) (f : Nat) (v : Frame) : (s.setFrame f v).free = s.free := rfl
@[simp] theorem State.setFrame_pending (s : State) (f : Nat) (v : Frame) : (s.setFrame f v).pending = s.pending := rfl

@[simp] theorem State.setBerth_tide (s : State) (b : Nat) (v : Berth) : (s.setBerth b v).tide = s.tide := rfl
@[simp] theorem State.setBerth_guard (s : State) (b : Nat) (v : Berth) : (s.setBerth b v).guard = s.guard := rfl
@[simp] theorem State.setBerth_port (s : State) (b : Nat) (v : Berth) : (s.setBerth b v).port = s.port := rfl
@[simp] theorem State.setBerth_quad (s : State) (b : Nat) (v : Berth) : (s.setBerth b v).quad = s.quad := rfl
@[simp] theorem State.setBerth_frames (s : State) (b : Nat) (v : Berth) : (s.setBerth b v).frames = s.frames := rfl
@[simp] theorem State.setBerth_nextFrame (s : State) (b : Nat) (v : Berth) : (s.setBerth b v).nextFrame = s.nextFrame := rfl
@[simp] theorem State.setBerth_pump (s : State) (b : Nat) (v : Berth) : (s.setBerth b v).pump = s.pump := rfl
@[simp] theorem State.setBerth_strn (s : State) (b : Nat) (v : Berth) : (s.setBerth b v).strn = s.strn := rfl
@[simp] theorem State.setBerth_fwd (s : State) (b : Nat) (v : Berth) : (s.setBerth b v).fwd = s.fwd := rfl
@[simp] theorem State.setBerth_rsv (s : State) (b : Nat) (v : Berth) : (s.setBerth b v).rsv = s.rsv := rfl
@[simp] theorem State.setBerth_weir (s : State) (b : Nat) (v : Berth) : (s.setBerth b v).weir = s.weir := rfl
@[simp] theorem State.setBerth_xl (s : State) (b : Nat) (v : Berth) : (s.setBerth b v).xl = s.xl := rfl
@[simp] theorem State.setBerth_fab (s : State) (b : Nat) (v : Berth) : (s.setBerth b v).fab = s.fab := rfl
@[simp] theorem State.setBerth_shtl (s : State) (b : Nat) (v : Berth) : (s.setBerth b v).shtl = s.shtl := rfl
@[simp] theorem State.setBerth_rdma (s : State) (b : Nat) (v : Berth) : (s.setBerth b v).rdma = s.rdma := rfl
@[simp] theorem State.setBerth_ledg (s : State) (b : Nat) (v : Berth) : (s.setBerth b v).ledg = s.ledg := rfl
@[simp] theorem State.setBerth_cist (s : State) (b : Nat) (v : Berth) : (s.setBerth b v).cist = s.cist := rfl
@[simp] theorem State.setBerth_ddr (s : State) (b : Nat) (v : Berth) : (s.setBerth b v).ddr = s.ddr := rfl
@[simp] theorem State.setBerth_ph (s : State) (b : Nat) (v : Berth) : (s.setBerth b v).ph = s.ph := rfl
@[simp] theorem State.setBerth_mbx (s : State) (b : Nat) (v : Berth) : (s.setBerth b v).mbx = s.mbx := rfl
@[simp] theorem State.setBerth_msix (s : State) (b : Nat) (v : Berth) : (s.setBerth b v).msix = s.msix := rfl
@[simp] theorem State.setBerth_fuse (s : State) (b : Nat) (v : Berth) : (s.setBerth b v).fuse = s.fuse := rfl
@[simp] theorem State.setBerth_host (s : State) (b : Nat) (v : Berth) : (s.setBerth b v).host = s.host := rfl
@[simp] theorem State.setBerth_sump (s : State) (b : Nat) (v : Berth) : (s.setBerth b v).sump = s.sump := rfl
@[simp] theorem State.setBerth_pwr (s : State) (b : Nat) (v : Berth) : (s.setBerth b v).pwr = s.pwr := rfl
@[simp] theorem State.setBerth_pmon (s : State) (b : Nat) (v : Berth) : (s.setBerth b v).pmon = s.pmon := rfl
@[simp] theorem State.setBerth_trace (s : State) (b : Nat) (v : Berth) : (s.setBerth b v).trace = s.trace := rfl
@[simp] theorem State.setBerth_lane (s : State) (b : Nat) (v : Berth) : (s.setBerth b v).lane = s.lane := rfl
@[simp] theorem State.setBerth_tap (s : State) (b : Nat) (v : Berth) : (s.setBerth b v).tap = s.tap := rfl
@[simp] theorem State.setBerth_therm (s : State) (b : Nat) (v : Berth) : (s.setBerth b v).therm = s.therm := rfl
@[simp] theorem State.setBerth_latch (s : State) (b : Nat) (v : Berth) : (s.setBerth b v).latch = s.latch := rfl
@[simp] theorem State.setBerth_pcieDown (s : State) (b : Nat) (v : Berth) : (s.setBerth b v).pcieDown = s.pcieDown := rfl
@[simp] theorem State.setBerth_vfEnable (s : State) (b : Nat) (v : Berth) : (s.setBerth b v).vfEnable = s.vfEnable := rfl
@[simp] theorem State.setBerth_out (s : State) (b : Nat) (v : Berth) : (s.setBerth b v).out = s.out := rfl
@[simp] theorem State.setBerth_free (s : State) (b : Nat) (v : Berth) : (s.setBerth b v).free = s.free := rfl
@[simp] theorem State.setBerth_pending (s : State) (b : Nat) (v : Berth) : (s.setBerth b v).pending = s.pending := rfl

@[simp] theorem count_glb (ev : Nat) (o : Occ) (n : Nat) (s : State) : (count ev o n s).glb = s.glb := rfl
@[simp] theorem count_tide (ev : Nat) (o : Occ) (n : Nat) (s : State) : (count ev o n s).tide = s.tide := rfl
@[simp] theorem count_guard (ev : Nat) (o : Occ) (n : Nat) (s : State) : (count ev o n s).guard = s.guard := rfl
@[simp] theorem count_port (ev : Nat) (o : Occ) (n : Nat) (s : State) : (count ev o n s).port = s.port := rfl
@[simp] theorem count_quad (ev : Nat) (o : Occ) (n : Nat) (s : State) : (count ev o n s).quad = s.quad := rfl
@[simp] theorem count_frames (ev : Nat) (o : Occ) (n : Nat) (s : State) : (count ev o n s).frames = s.frames := rfl
@[simp] theorem count_nextFrame (ev : Nat) (o : Occ) (n : Nat) (s : State) : (count ev o n s).nextFrame = s.nextFrame := rfl
@[simp] theorem count_pump (ev : Nat) (o : Occ) (n : Nat) (s : State) : (count ev o n s).pump = s.pump := rfl
@[simp] theorem count_strn (ev : Nat) (o : Occ) (n : Nat) (s : State) : (count ev o n s).strn = s.strn := rfl
@[simp] theorem count_fwd (ev : Nat) (o : Occ) (n : Nat) (s : State) : (count ev o n s).fwd = s.fwd := rfl
@[simp] theorem count_rsv (ev : Nat) (o : Occ) (n : Nat) (s : State) : (count ev o n s).rsv = s.rsv := rfl
@[simp] theorem count_weir (ev : Nat) (o : Occ) (n : Nat) (s : State) : (count ev o n s).weir = s.weir := rfl
@[simp] theorem count_xl (ev : Nat) (o : Occ) (n : Nat) (s : State) : (count ev o n s).xl = s.xl := rfl
@[simp] theorem count_fab (ev : Nat) (o : Occ) (n : Nat) (s : State) : (count ev o n s).fab = s.fab := rfl
@[simp] theorem count_shtl (ev : Nat) (o : Occ) (n : Nat) (s : State) : (count ev o n s).shtl = s.shtl := rfl
@[simp] theorem count_rdma (ev : Nat) (o : Occ) (n : Nat) (s : State) : (count ev o n s).rdma = s.rdma := rfl
@[simp] theorem count_ledg (ev : Nat) (o : Occ) (n : Nat) (s : State) : (count ev o n s).ledg = s.ledg := rfl
@[simp] theorem count_cist (ev : Nat) (o : Occ) (n : Nat) (s : State) : (count ev o n s).cist = s.cist := rfl
@[simp] theorem count_ddr (ev : Nat) (o : Occ) (n : Nat) (s : State) : (count ev o n s).ddr = s.ddr := rfl
@[simp] theorem count_ph (ev : Nat) (o : Occ) (n : Nat) (s : State) : (count ev o n s).ph = s.ph := rfl
@[simp] theorem count_mbx (ev : Nat) (o : Occ) (n : Nat) (s : State) : (count ev o n s).mbx = s.mbx := rfl
@[simp] theorem count_msix (ev : Nat) (o : Occ) (n : Nat) (s : State) : (count ev o n s).msix = s.msix := rfl
@[simp] theorem count_fuse (ev : Nat) (o : Occ) (n : Nat) (s : State) : (count ev o n s).fuse = s.fuse := rfl
@[simp] theorem count_host (ev : Nat) (o : Occ) (n : Nat) (s : State) : (count ev o n s).host = s.host := rfl
@[simp] theorem count_sump (ev : Nat) (o : Occ) (n : Nat) (s : State) : (count ev o n s).sump = s.sump := rfl
@[simp] theorem count_pwr (ev : Nat) (o : Occ) (n : Nat) (s : State) : (count ev o n s).pwr = s.pwr := rfl
@[simp] theorem count_trace (ev : Nat) (o : Occ) (n : Nat) (s : State) : (count ev o n s).trace = s.trace := rfl
@[simp] theorem count_lane (ev : Nat) (o : Occ) (n : Nat) (s : State) : (count ev o n s).lane = s.lane := rfl
@[simp] theorem count_tap (ev : Nat) (o : Occ) (n : Nat) (s : State) : (count ev o n s).tap = s.tap := rfl
@[simp] theorem count_therm (ev : Nat) (o : Occ) (n : Nat) (s : State) : (count ev o n s).therm = s.therm := rfl
@[simp] theorem count_latch (ev : Nat) (o : Occ) (n : Nat) (s : State) : (count ev o n s).latch = s.latch := rfl
@[simp] theorem count_pcieDown (ev : Nat) (o : Occ) (n : Nat) (s : State) : (count ev o n s).pcieDown = s.pcieDown := rfl
@[simp] theorem count_vfEnable (ev : Nat) (o : Occ) (n : Nat) (s : State) : (count ev o n s).vfEnable = s.vfEnable := rfl
@[simp] theorem count_out (ev : Nat) (o : Occ) (n : Nat) (s : State) : (count ev o n s).out = s.out := rfl
@[simp] theorem count_free (ev : Nat) (o : Occ) (n : Nat) (s : State) : (count ev o n s).free = s.free := rfl
@[simp] theorem count_pending (ev : Nat) (o : Occ) (n : Nat) (s : State) : (count ev o n s).pending = s.pending := rfl

@[simp] theorem mmio_glb (fn : Nat) (s : State) : (mmio fn s).glb = s.glb := rfl
@[simp] theorem mmio_tide (fn : Nat) (s : State) : (mmio fn s).tide = s.tide := rfl
@[simp] theorem mmio_guard (fn : Nat) (s : State) : (mmio fn s).guard = s.guard := rfl
@[simp] theorem mmio_port (fn : Nat) (s : State) : (mmio fn s).port = s.port := rfl
@[simp] theorem mmio_quad (fn : Nat) (s : State) : (mmio fn s).quad = s.quad := rfl
@[simp] theorem mmio_frames (fn : Nat) (s : State) : (mmio fn s).frames = s.frames := rfl
@[simp] theorem mmio_nextFrame (fn : Nat) (s : State) : (mmio fn s).nextFrame = s.nextFrame := rfl
@[simp] theorem mmio_pump (fn : Nat) (s : State) : (mmio fn s).pump = s.pump := rfl
@[simp] theorem mmio_strn (fn : Nat) (s : State) : (mmio fn s).strn = s.strn := rfl
@[simp] theorem mmio_fwd (fn : Nat) (s : State) : (mmio fn s).fwd = s.fwd := rfl
@[simp] theorem mmio_rsv (fn : Nat) (s : State) : (mmio fn s).rsv = s.rsv := rfl
@[simp] theorem mmio_weir (fn : Nat) (s : State) : (mmio fn s).weir = s.weir := rfl
@[simp] theorem mmio_xl (fn : Nat) (s : State) : (mmio fn s).xl = s.xl := rfl
@[simp] theorem mmio_fab (fn : Nat) (s : State) : (mmio fn s).fab = s.fab := rfl
@[simp] theorem mmio_shtl (fn : Nat) (s : State) : (mmio fn s).shtl = s.shtl := rfl
@[simp] theorem mmio_rdma (fn : Nat) (s : State) : (mmio fn s).rdma = s.rdma := rfl
@[simp] theorem mmio_ledg (fn : Nat) (s : State) : (mmio fn s).ledg = s.ledg := rfl
@[simp] theorem mmio_cist (fn : Nat) (s : State) : (mmio fn s).cist = s.cist := rfl
@[simp] theorem mmio_ddr (fn : Nat) (s : State) : (mmio fn s).ddr = s.ddr := rfl
@[simp] theorem mmio_ph (fn : Nat) (s : State) : (mmio fn s).ph = s.ph := rfl
@[simp] theorem mmio_mbx (fn : Nat) (s : State) : (mmio fn s).mbx = s.mbx := rfl
@[simp] theorem mmio_msix (fn : Nat) (s : State) : (mmio fn s).msix = s.msix := rfl
@[simp] theorem mmio_fuse (fn : Nat) (s : State) : (mmio fn s).fuse = s.fuse := rfl
@[simp] theorem mmio_host (fn : Nat) (s : State) : (mmio fn s).host = s.host := rfl
@[simp] theorem mmio_sump (fn : Nat) (s : State) : (mmio fn s).sump = s.sump := rfl
@[simp] theorem mmio_pwr (fn : Nat) (s : State) : (mmio fn s).pwr = s.pwr := rfl
@[simp] theorem mmio_trace (fn : Nat) (s : State) : (mmio fn s).trace = s.trace := rfl
@[simp] theorem mmio_lane (fn : Nat) (s : State) : (mmio fn s).lane = s.lane := rfl
@[simp] theorem mmio_tap (fn : Nat) (s : State) : (mmio fn s).tap = s.tap := rfl
@[simp] theorem mmio_therm (fn : Nat) (s : State) : (mmio fn s).therm = s.therm := rfl
@[simp] theorem mmio_latch (fn : Nat) (s : State) : (mmio fn s).latch = s.latch := rfl
@[simp] theorem mmio_pcieDown (fn : Nat) (s : State) : (mmio fn s).pcieDown = s.pcieDown := rfl
@[simp] theorem mmio_vfEnable (fn : Nat) (s : State) : (mmio fn s).vfEnable = s.vfEnable := rfl
@[simp] theorem mmio_out (fn : Nat) (s : State) : (mmio fn s).out = s.out := rfl
@[simp] theorem mmio_free (fn : Nat) (s : State) : (mmio fn s).free = s.free := rfl
@[simp] theorem mmio_pending (fn : Nat) (s : State) : (mmio fn s).pending = s.pending := rfl

@[simp] theorem raise_glb (src ev unit cause value : Nat) (b : Option Nat) (s : State) : (raise src ev unit cause value b s).glb = s.glb := rfl
@[simp] theorem raise_tide (src ev unit cause value : Nat) (b : Option Nat) (s : State) : (raise src ev unit cause value b s).tide = s.tide := rfl
@[simp] theorem raise_guard (src ev unit cause value : Nat) (b : Option Nat) (s : State) : (raise src ev unit cause value b s).guard = s.guard := rfl
@[simp] theorem raise_port (src ev unit cause value : Nat) (b : Option Nat) (s : State) : (raise src ev unit cause value b s).port = s.port := rfl
@[simp] theorem raise_quad (src ev unit cause value : Nat) (b : Option Nat) (s : State) : (raise src ev unit cause value b s).quad = s.quad := rfl
@[simp] theorem raise_frames (src ev unit cause value : Nat) (b : Option Nat) (s : State) : (raise src ev unit cause value b s).frames = s.frames := rfl
@[simp] theorem raise_nextFrame (src ev unit cause value : Nat) (b : Option Nat) (s : State) : (raise src ev unit cause value b s).nextFrame = s.nextFrame := rfl
@[simp] theorem raise_pump (src ev unit cause value : Nat) (b : Option Nat) (s : State) : (raise src ev unit cause value b s).pump = s.pump := rfl
@[simp] theorem raise_strn (src ev unit cause value : Nat) (b : Option Nat) (s : State) : (raise src ev unit cause value b s).strn = s.strn := rfl
@[simp] theorem raise_fwd (src ev unit cause value : Nat) (b : Option Nat) (s : State) : (raise src ev unit cause value b s).fwd = s.fwd := rfl
@[simp] theorem raise_rsv (src ev unit cause value : Nat) (b : Option Nat) (s : State) : (raise src ev unit cause value b s).rsv = s.rsv := rfl
@[simp] theorem raise_weir (src ev unit cause value : Nat) (b : Option Nat) (s : State) : (raise src ev unit cause value b s).weir = s.weir := rfl
@[simp] theorem raise_xl (src ev unit cause value : Nat) (b : Option Nat) (s : State) : (raise src ev unit cause value b s).xl = s.xl := rfl
@[simp] theorem raise_fab (src ev unit cause value : Nat) (b : Option Nat) (s : State) : (raise src ev unit cause value b s).fab = s.fab := rfl
@[simp] theorem raise_shtl (src ev unit cause value : Nat) (b : Option Nat) (s : State) : (raise src ev unit cause value b s).shtl = s.shtl := rfl
@[simp] theorem raise_rdma (src ev unit cause value : Nat) (b : Option Nat) (s : State) : (raise src ev unit cause value b s).rdma = s.rdma := rfl
@[simp] theorem raise_ledg (src ev unit cause value : Nat) (b : Option Nat) (s : State) : (raise src ev unit cause value b s).ledg = s.ledg := rfl
@[simp] theorem raise_cist (src ev unit cause value : Nat) (b : Option Nat) (s : State) : (raise src ev unit cause value b s).cist = s.cist := rfl
@[simp] theorem raise_ddr (src ev unit cause value : Nat) (b : Option Nat) (s : State) : (raise src ev unit cause value b s).ddr = s.ddr := rfl
@[simp] theorem raise_ph (src ev unit cause value : Nat) (b : Option Nat) (s : State) : (raise src ev unit cause value b s).ph = s.ph := rfl
@[simp] theorem raise_mbx (src ev unit cause value : Nat) (b : Option Nat) (s : State) : (raise src ev unit cause value b s).mbx = s.mbx := rfl
@[simp] theorem raise_msix (src ev unit cause value : Nat) (b : Option Nat) (s : State) : (raise src ev unit cause value b s).msix = s.msix := rfl
@[simp] theorem raise_fuse (src ev unit cause value : Nat) (b : Option Nat) (s : State) : (raise src ev unit cause value b s).fuse = s.fuse := rfl
@[simp] theorem raise_host (src ev unit cause value : Nat) (b : Option Nat) (s : State) : (raise src ev unit cause value b s).host = s.host := rfl
@[simp] theorem raise_pwr (src ev unit cause value : Nat) (b : Option Nat) (s : State) : (raise src ev unit cause value b s).pwr = s.pwr := rfl
@[simp] theorem raise_pmon (src ev unit cause value : Nat) (b : Option Nat) (s : State) : (raise src ev unit cause value b s).pmon = s.pmon := rfl
@[simp] theorem raise_trace (src ev unit cause value : Nat) (b : Option Nat) (s : State) : (raise src ev unit cause value b s).trace = s.trace := rfl
@[simp] theorem raise_lane (src ev unit cause value : Nat) (b : Option Nat) (s : State) : (raise src ev unit cause value b s).lane = s.lane := rfl
@[simp] theorem raise_tap (src ev unit cause value : Nat) (b : Option Nat) (s : State) : (raise src ev unit cause value b s).tap = s.tap := rfl
@[simp] theorem raise_therm (src ev unit cause value : Nat) (b : Option Nat) (s : State) : (raise src ev unit cause value b s).therm = s.therm := rfl
@[simp] theorem raise_latch (src ev unit cause value : Nat) (b : Option Nat) (s : State) : (raise src ev unit cause value b s).latch = s.latch := rfl
@[simp] theorem raise_pcieDown (src ev unit cause value : Nat) (b : Option Nat) (s : State) : (raise src ev unit cause value b s).pcieDown = s.pcieDown := rfl
@[simp] theorem raise_vfEnable (src ev unit cause value : Nat) (b : Option Nat) (s : State) : (raise src ev unit cause value b s).vfEnable = s.vfEnable := rfl
@[simp] theorem raise_out (src ev unit cause value : Nat) (b : Option Nat) (s : State) : (raise src ev unit cause value b s).out = s.out := rfl
@[simp] theorem raise_free (src ev unit cause value : Nat) (b : Option Nat) (s : State) : (raise src ev unit cause value b s).free = s.free := rfl
@[simp] theorem raise_pending (src ev unit cause value : Nat) (b : Option Nat) (s : State) : (raise src ev unit cause value b s).pending = s.pending := rfl

@[simp] theorem accept_glb (rq : Req) (code : Nat) (s : State) : (accept rq code s).glb = s.glb := rfl
@[simp] theorem accept_tide (rq : Req) (code : Nat) (s : State) : (accept rq code s).tide = s.tide := rfl
@[simp] theorem accept_guard (rq : Req) (code : Nat) (s : State) : (accept rq code s).guard = s.guard := rfl
@[simp] theorem accept_port (rq : Req) (code : Nat) (s : State) : (accept rq code s).port = s.port := rfl
@[simp] theorem accept_quad (rq : Req) (code : Nat) (s : State) : (accept rq code s).quad = s.quad := rfl
@[simp] theorem accept_frames (rq : Req) (code : Nat) (s : State) : (accept rq code s).frames = s.frames := rfl
@[simp] theorem accept_nextFrame (rq : Req) (code : Nat) (s : State) : (accept rq code s).nextFrame = s.nextFrame := rfl
@[simp] theorem accept_pump (rq : Req) (code : Nat) (s : State) : (accept rq code s).pump = s.pump := rfl
@[simp] theorem accept_strn (rq : Req) (code : Nat) (s : State) : (accept rq code s).strn = s.strn := rfl
@[simp] theorem accept_fwd (rq : Req) (code : Nat) (s : State) : (accept rq code s).fwd = s.fwd := rfl
@[simp] theorem accept_rsv (rq : Req) (code : Nat) (s : State) : (accept rq code s).rsv = s.rsv := rfl
@[simp] theorem accept_weir (rq : Req) (code : Nat) (s : State) : (accept rq code s).weir = s.weir := rfl
@[simp] theorem accept_xl (rq : Req) (code : Nat) (s : State) : (accept rq code s).xl = s.xl := rfl
@[simp] theorem accept_fab (rq : Req) (code : Nat) (s : State) : (accept rq code s).fab = s.fab := rfl
@[simp] theorem accept_shtl (rq : Req) (code : Nat) (s : State) : (accept rq code s).shtl = s.shtl := rfl
@[simp] theorem accept_rdma (rq : Req) (code : Nat) (s : State) : (accept rq code s).rdma = s.rdma := rfl
@[simp] theorem accept_ledg (rq : Req) (code : Nat) (s : State) : (accept rq code s).ledg = s.ledg := rfl
@[simp] theorem accept_cist (rq : Req) (code : Nat) (s : State) : (accept rq code s).cist = s.cist := rfl
@[simp] theorem accept_ddr (rq : Req) (code : Nat) (s : State) : (accept rq code s).ddr = s.ddr := rfl
@[simp] theorem accept_ph (rq : Req) (code : Nat) (s : State) : (accept rq code s).ph = s.ph := rfl
@[simp] theorem accept_msix (rq : Req) (code : Nat) (s : State) : (accept rq code s).msix = s.msix := rfl
@[simp] theorem accept_fuse (rq : Req) (code : Nat) (s : State) : (accept rq code s).fuse = s.fuse := rfl
@[simp] theorem accept_host (rq : Req) (code : Nat) (s : State) : (accept rq code s).host = s.host := rfl
@[simp] theorem accept_sump (rq : Req) (code : Nat) (s : State) : (accept rq code s).sump = s.sump := rfl
@[simp] theorem accept_pwr (rq : Req) (code : Nat) (s : State) : (accept rq code s).pwr = s.pwr := rfl
@[simp] theorem accept_trace (rq : Req) (code : Nat) (s : State) : (accept rq code s).trace = s.trace := rfl
@[simp] theorem accept_lane (rq : Req) (code : Nat) (s : State) : (accept rq code s).lane = s.lane := rfl
@[simp] theorem accept_tap (rq : Req) (code : Nat) (s : State) : (accept rq code s).tap = s.tap := rfl
@[simp] theorem accept_therm (rq : Req) (code : Nat) (s : State) : (accept rq code s).therm = s.therm := rfl
@[simp] theorem accept_latch (rq : Req) (code : Nat) (s : State) : (accept rq code s).latch = s.latch := rfl
@[simp] theorem accept_pcieDown (rq : Req) (code : Nat) (s : State) : (accept rq code s).pcieDown = s.pcieDown := rfl
@[simp] theorem accept_vfEnable (rq : Req) (code : Nat) (s : State) : (accept rq code s).vfEnable = s.vfEnable := rfl
@[simp] theorem accept_out (rq : Req) (code : Nat) (s : State) : (accept rq code s).out = s.out := rfl
@[simp] theorem accept_free (rq : Req) (code : Nat) (s : State) : (accept rq code s).free = s.free := rfl
@[simp] theorem accept_pending (rq : Req) (code : Nat) (s : State) : (accept rq code s).pending = s.pending := rfl

@[simp] theorem respond_glb (fn : Nat) (st : Status) (flags : Nat) (p : List Byte) (s : State) : (respond fn st flags p s).glb = s.glb :=
  same_glb (respond_view (M := 17250123776) rfl fn st flags p s) rfl
@[simp] theorem answer_glb (rq : Req) (p : List Byte) (s : State) : (answer rq p s).glb = s.glb := respond_glb ..
@[simp] theorem respond_tide (fn : Nat) (st : Status) (flags : Nat) (p : List Byte) (s : State) : (respond fn st flags p s).tide = s.tide :=
  same_tide (respond_view (M := 17250123776) rfl fn st flags p s) rfl
@[simp] theorem answer_tide (rq : Req) (p : List Byte) (s : State) : (answer rq p s).tide = s.tide := respond_tide ..
@[simp] theorem respond_guard (fn : Nat) (st : Status) (flags : Nat) (p : List Byte) (s : State) : (respond fn st flags p s).guard = s.guard :=
  same_guard (respond_view (M := 17250123776) rfl fn st flags p s) rfl
@[simp] theorem answer_guard (rq : Req) (p : List Byte) (s : State) : (answer rq p s).guard = s.guard := respond_guard ..
@[simp] theorem respond_port (fn : Nat) (st : Status) (flags : Nat) (p : List Byte) (s : State) : (respond fn st flags p s).port = s.port :=
  same_port (respond_view (M := 17250123776) rfl fn st flags p s) rfl
@[simp] theorem answer_port (rq : Req) (p : List Byte) (s : State) : (answer rq p s).port = s.port := respond_port ..
@[simp] theorem respond_quad (fn : Nat) (st : Status) (flags : Nat) (p : List Byte) (s : State) : (respond fn st flags p s).quad = s.quad :=
  same_quad (respond_view (M := 17250123776) rfl fn st flags p s) rfl
@[simp] theorem answer_quad (rq : Req) (p : List Byte) (s : State) : (answer rq p s).quad = s.quad := respond_quad ..
@[simp] theorem respond_frames (fn : Nat) (st : Status) (flags : Nat) (p : List Byte) (s : State) : (respond fn st flags p s).frames = s.frames :=
  same_frames (respond_view (M := 17250123776) rfl fn st flags p s) rfl
@[simp] theorem answer_frames (rq : Req) (p : List Byte) (s : State) : (answer rq p s).frames = s.frames := respond_frames ..
@[simp] theorem respond_nextFrame (fn : Nat) (st : Status) (flags : Nat) (p : List Byte) (s : State) : (respond fn st flags p s).nextFrame = s.nextFrame :=
  same_nextFrame (respond_view (M := 17250123776) rfl fn st flags p s) rfl
@[simp] theorem answer_nextFrame (rq : Req) (p : List Byte) (s : State) : (answer rq p s).nextFrame = s.nextFrame := respond_nextFrame ..
@[simp] theorem respond_pump (fn : Nat) (st : Status) (flags : Nat) (p : List Byte) (s : State) : (respond fn st flags p s).pump = s.pump :=
  same_pump (respond_view (M := 17250123776) rfl fn st flags p s) rfl
@[simp] theorem answer_pump (rq : Req) (p : List Byte) (s : State) : (answer rq p s).pump = s.pump := respond_pump ..
@[simp] theorem respond_strn (fn : Nat) (st : Status) (flags : Nat) (p : List Byte) (s : State) : (respond fn st flags p s).strn = s.strn :=
  same_strn (respond_view (M := 17250123776) rfl fn st flags p s) rfl
@[simp] theorem answer_strn (rq : Req) (p : List Byte) (s : State) : (answer rq p s).strn = s.strn := respond_strn ..
@[simp] theorem respond_fwd (fn : Nat) (st : Status) (flags : Nat) (p : List Byte) (s : State) : (respond fn st flags p s).fwd = s.fwd :=
  same_fwd (respond_view (M := 17250123776) rfl fn st flags p s) rfl
@[simp] theorem answer_fwd (rq : Req) (p : List Byte) (s : State) : (answer rq p s).fwd = s.fwd := respond_fwd ..
@[simp] theorem respond_rsv (fn : Nat) (st : Status) (flags : Nat) (p : List Byte) (s : State) : (respond fn st flags p s).rsv = s.rsv :=
  same_rsv (respond_view (M := 17250123776) rfl fn st flags p s) rfl
@[simp] theorem answer_rsv (rq : Req) (p : List Byte) (s : State) : (answer rq p s).rsv = s.rsv := respond_rsv ..
@[simp] theorem respond_weir (fn : Nat) (st : Status) (flags : Nat) (p : List Byte) (s : State) : (respond fn st flags p s).weir = s.weir :=
  same_weir (respond_view (M := 17250123776) rfl fn st flags p s) rfl
@[simp] theorem answer_weir (rq : Req) (p : List Byte) (s : State) : (answer rq p s).weir = s.weir := respond_weir ..
@[simp] theorem respond_xl (fn : Nat) (st : Status) (flags : Nat) (p : List Byte) (s : State) : (respond fn st flags p s).xl = s.xl :=
  same_xl (respond_view (M := 17250123776) rfl fn st flags p s) rfl
@[simp] theorem answer_xl (rq : Req) (p : List Byte) (s : State) : (answer rq p s).xl = s.xl := respond_xl ..
@[simp] theorem respond_fab (fn : Nat) (st : Status) (flags : Nat) (p : List Byte) (s : State) : (respond fn st flags p s).fab = s.fab :=
  same_fab (respond_view (M := 17250123776) rfl fn st flags p s) rfl
@[simp] theorem answer_fab (rq : Req) (p : List Byte) (s : State) : (answer rq p s).fab = s.fab := respond_fab ..
@[simp] theorem respond_shtl (fn : Nat) (st : Status) (flags : Nat) (p : List Byte) (s : State) : (respond fn st flags p s).shtl = s.shtl :=
  same_shtl (respond_view (M := 17250123776) rfl fn st flags p s) rfl
@[simp] theorem answer_shtl (rq : Req) (p : List Byte) (s : State) : (answer rq p s).shtl = s.shtl := respond_shtl ..
@[simp] theorem respond_rdma (fn : Nat) (st : Status) (flags : Nat) (p : List Byte) (s : State) : (respond fn st flags p s).rdma = s.rdma :=
  same_rdma (respond_view (M := 17250123776) rfl fn st flags p s) rfl
@[simp] theorem answer_rdma (rq : Req) (p : List Byte) (s : State) : (answer rq p s).rdma = s.rdma := respond_rdma ..
@[simp] theorem respond_ledg (fn : Nat) (st : Status) (flags : Nat) (p : List Byte) (s : State) : (respond fn st flags p s).ledg = s.ledg :=
  same_ledg (respond_view (M := 17250123776) rfl fn st flags p s) rfl
@[simp] theorem answer_ledg (rq : Req) (p : List Byte) (s : State) : (answer rq p s).ledg = s.ledg := respond_ledg ..
@[simp] theorem respond_cist (fn : Nat) (st : Status) (flags : Nat) (p : List Byte) (s : State) : (respond fn st flags p s).cist = s.cist :=
  same_cist (respond_view (M := 17250123776) rfl fn st flags p s) rfl
@[simp] theorem answer_cist (rq : Req) (p : List Byte) (s : State) : (answer rq p s).cist = s.cist := respond_cist ..
@[simp] theorem respond_ddr (fn : Nat) (st : Status) (flags : Nat) (p : List Byte) (s : State) : (respond fn st flags p s).ddr = s.ddr :=
  same_ddr (respond_view (M := 17250123776) rfl fn st flags p s) rfl
@[simp] theorem answer_ddr (rq : Req) (p : List Byte) (s : State) : (answer rq p s).ddr = s.ddr := respond_ddr ..
@[simp] theorem respond_ph (fn : Nat) (st : Status) (flags : Nat) (p : List Byte) (s : State) : (respond fn st flags p s).ph = s.ph :=
  same_ph (respond_view (M := 17250123776) rfl fn st flags p s) rfl
@[simp] theorem answer_ph (rq : Req) (p : List Byte) (s : State) : (answer rq p s).ph = s.ph := respond_ph ..
@[simp] theorem respond_fuse (fn : Nat) (st : Status) (flags : Nat) (p : List Byte) (s : State) : (respond fn st flags p s).fuse = s.fuse :=
  same_fuse (respond_view (M := 17250123776) rfl fn st flags p s) rfl
@[simp] theorem answer_fuse (rq : Req) (p : List Byte) (s : State) : (answer rq p s).fuse = s.fuse := respond_fuse ..
@[simp] theorem respond_host (fn : Nat) (st : Status) (flags : Nat) (p : List Byte) (s : State) : (respond fn st flags p s).host = s.host :=
  same_host (respond_view (M := 17250123776) rfl fn st flags p s) rfl
@[simp] theorem answer_host (rq : Req) (p : List Byte) (s : State) : (answer rq p s).host = s.host := respond_host ..
@[simp] theorem respond_sump (fn : Nat) (st : Status) (flags : Nat) (p : List Byte) (s : State) : (respond fn st flags p s).sump = s.sump :=
  same_sump (respond_view (M := 17250123776) rfl fn st flags p s) rfl
@[simp] theorem answer_sump (rq : Req) (p : List Byte) (s : State) : (answer rq p s).sump = s.sump := respond_sump ..
@[simp] theorem respond_pwr (fn : Nat) (st : Status) (flags : Nat) (p : List Byte) (s : State) : (respond fn st flags p s).pwr = s.pwr :=
  same_pwr (respond_view (M := 17250123776) rfl fn st flags p s) rfl
@[simp] theorem answer_pwr (rq : Req) (p : List Byte) (s : State) : (answer rq p s).pwr = s.pwr := respond_pwr ..
@[simp] theorem respond_trace (fn : Nat) (st : Status) (flags : Nat) (p : List Byte) (s : State) : (respond fn st flags p s).trace = s.trace :=
  same_trace (respond_view (M := 17250123776) rfl fn st flags p s) rfl
@[simp] theorem answer_trace (rq : Req) (p : List Byte) (s : State) : (answer rq p s).trace = s.trace := respond_trace ..
@[simp] theorem respond_lane (fn : Nat) (st : Status) (flags : Nat) (p : List Byte) (s : State) : (respond fn st flags p s).lane = s.lane :=
  same_lane (respond_view (M := 17250123776) rfl fn st flags p s) rfl
@[simp] theorem answer_lane (rq : Req) (p : List Byte) (s : State) : (answer rq p s).lane = s.lane := respond_lane ..
@[simp] theorem respond_tap (fn : Nat) (st : Status) (flags : Nat) (p : List Byte) (s : State) : (respond fn st flags p s).tap = s.tap :=
  same_tap (respond_view (M := 17250123776) rfl fn st flags p s) rfl
@[simp] theorem answer_tap (rq : Req) (p : List Byte) (s : State) : (answer rq p s).tap = s.tap := respond_tap ..
@[simp] theorem respond_therm (fn : Nat) (st : Status) (flags : Nat) (p : List Byte) (s : State) : (respond fn st flags p s).therm = s.therm :=
  same_therm (respond_view (M := 17250123776) rfl fn st flags p s) rfl
@[simp] theorem answer_therm (rq : Req) (p : List Byte) (s : State) : (answer rq p s).therm = s.therm := respond_therm ..
@[simp] theorem respond_latch (fn : Nat) (st : Status) (flags : Nat) (p : List Byte) (s : State) : (respond fn st flags p s).latch = s.latch :=
  same_latch (respond_view (M := 17250123776) rfl fn st flags p s) rfl
@[simp] theorem answer_latch (rq : Req) (p : List Byte) (s : State) : (answer rq p s).latch = s.latch := respond_latch ..
@[simp] theorem respond_pcieDown (fn : Nat) (st : Status) (flags : Nat) (p : List Byte) (s : State) : (respond fn st flags p s).pcieDown = s.pcieDown :=
  same_pcieDown (respond_view (M := 17250123776) rfl fn st flags p s) rfl
@[simp] theorem answer_pcieDown (rq : Req) (p : List Byte) (s : State) : (answer rq p s).pcieDown = s.pcieDown := respond_pcieDown ..
@[simp] theorem respond_vfEnable (fn : Nat) (st : Status) (flags : Nat) (p : List Byte) (s : State) : (respond fn st flags p s).vfEnable = s.vfEnable :=
  same_vfEnable (respond_view (M := 17250123776) rfl fn st flags p s) rfl
@[simp] theorem answer_vfEnable (rq : Req) (p : List Byte) (s : State) : (answer rq p s).vfEnable = s.vfEnable := respond_vfEnable ..
@[simp] theorem respond_free (fn : Nat) (st : Status) (flags : Nat) (p : List Byte) (s : State) : (respond fn st flags p s).free = s.free :=
  same_free (respond_view (M := 17250123776) rfl fn st flags p s) rfl
@[simp] theorem answer_free (rq : Req) (p : List Byte) (s : State) : (answer rq p s).free = s.free := respond_free ..
@[simp] theorem respond_pending (fn : Nat) (st : Status) (flags : Nat) (p : List Byte) (s : State) : (respond fn st flags p s).pending = s.pending :=
  same_pending (respond_view (M := 17250123776) rfl fn st flags p s) rfl
@[simp] theorem answer_pending (rq : Req) (p : List Byte) (s : State) : (answer rq p s).pending = s.pending := respond_pending ..

end Sys2Proof.Machine
end

