-- ==== Sys2Proof/Laws/Protocol.lean ====
section
/-! SUPPORT. The mailbox protocol, and what a step leaves alone. -/

namespace Sys2Proof.Machine

/-- Place of a part in the record. -/
def Part.place : Part → Nat
  | .glb => 0
  | .tide => 1
  | .guard => 2
  | .port => 3
  | .quad => 4
  | .frames => 5
  | .nextFrame => 6
  | .pump => 7
  | .strn => 8
  | .fwd => 9
  | .rsv => 10
  | .weir => 11
  | .xl => 12
  | .fab => 13
  | .shtl => 14
  | .rdma => 15
  | .ledg => 16
  | .cist => 17
  | .ddr => 18
  | .ph => 19
  | .mbx => 20
  | .msix => 21
  | .fuse => 22
  | .host => 23
  | .sump => 24
  | .pwr => 25
  | .pmon => 26
  | .trace => 27
  | .lane => 28
  | .tap => 29
  | .therm => 30
  | .latch => 31
  | .pcieDown => 32
  | .vfEnable => 33
  | .out => 34
  | .free => 35
  | .pending => 36

/-- Views that agree outside a mask leave every part outside it alone. -/
theorem same_of_view {s t : State} {M : Nat} (h : t.view M = s.view M) (p : Part) (b : M.testBit p.place = false) : p.Same s t := by
  cases p
  · exact same_glb h b
  · exact same_tide h b
  · exact same_guard h b
  · exact same_port h b
  · exact same_quad h b
  · exact same_frames h b
  · exact same_nextFrame h b
  · exact same_pump h b
  · exact same_strn h b
  · exact same_fwd h b
  · exact same_rsv h b
  · exact same_weir h b
  · exact same_xl h b
  · exact same_fab h b
  · exact same_shtl h b
  · exact same_rdma h b
  · exact same_ledg h b
  · exact same_cist h b
  · exact same_ddr h b
  · exact same_ph h b
  · exact same_mbx h b
  · exact same_msix h b
  · exact same_fuse h b
  · exact same_host h b
  · exact same_sump h b
  · exact same_pwr h b
  · exact same_pmon h b
  · exact same_trace h b
  · exact same_lane h b
  · exact same_tap h b
  · exact same_therm h b
  · exact same_latch h b
  · exact same_pcieDown h b
  · exact same_vfEnable h b
  · exact same_out h b
  · exact same_free h b
  · exact same_pending h b

/-- The parts of a mask are the only ones that change between states whose views agree outside it. -/
theorem changesOnly_of_view {s t : State} {M : Nat} {ps : List Part} (h : t.view M = s.view M)
    (b : ∀ p : Part, p ∈ ps ∨ M.testBit p.place = false) : ChangesOnly ps s t :=
  fun p hp => same_of_view h p ((b p).resolve_left hp)

/-- A request that runs takes its command's effect on the state with the request held, and is answered as the effect says. -/
theorem serve_of_served {c : CmdSpec} {rq : Req} {s : State} (h : Served c rq s = true) (body : State → Reply) :
    serve c rq body s = settle rq.fn.val (accept rq c.code s) (body (accept rq c.code s)) := by
  simp only [Served, Bool.and_eq_true, Bool.not_eq_true', Option.isNone_iff_eq_none] at h
  obtain ⟨⟨⟨h1, h2⟩, h3⟩, h4⟩ := h
  unfold serve dispatch
  simp [h1, h2, h3, h4]

/-- A command whose reply is OK completes. -/
theorem completes_of {i : Instr} {c : CmdSpec} {rq : Req} {premise : State → Prop} {payload : State → List Byte} {effect : State → State}
    {body : State → Reply} (hx : ∀ s, exec i s = .next (serve c rq body s)) (hb : ∀ u, premise u → body u = .ok (effect u) (payload u)) :
    Completes i c rq premise payload effect := by
  intro s hs hp
  rw [hx, serve_of_served hs, hb _ hp]
  rfl

/-- A command whose reply comes later waits. -/
theorem waits_of {i : Instr} {c : CmdSpec} {rq : Req} {premise : State → Prop} {effect : State → State} {body : State → Reply}
    (hx : ∀ s, exec i s = .next (serve c rq body s)) (hb : ∀ u, premise u → body u = .later (effect u)) : Waits i c rq premise effect := by
  intro s hs hp
  rw [hx, serve_of_served hs, hb _ hp]
  rfl

/-- A command whose reply is a status that means no change is turned away. -/
theorem turnsAway_of {i : Instr} {c : CmdSpec} {rq : Req} {premise : State → Prop} {st : Status} {body : State → Reply}
    (hx : ∀ s, exec i s = .next (serve c rq body s)) (hb : ∀ u, premise u → body u = .err st) : TurnsAway i c rq premise st := by
  intro s hs hp
  rw [hx, serve_of_served hs, hb _ hp]
  rfl

end Sys2Proof.Machine
end

