-- ==== Sys2Proof/Laws/GuardSound.lean ====
section
/-! SUPPORT. What changes the guard keeps it sound (03_self_timed_core.md). -/

namespace Sys2Proof.Machine

/-- A guard sound but for LAT_BOUND takes LAT_BOUND. -/
theorem setBound_guard (v : Nat) (c : BoundCause) (s : State) :
    (setBound v c s).guard = { s.guard with latBound := BitVec.ofNat 10 (min v 1023) } := by
  unfold setBound
  dsimp only
  split
  · rename_i e; rw [e]
  · exact same_guard (appendAll_view (M := 17247174656) rfl _ _ _ _ _) rfl

/-- LAT_BOUND as written. -/
theorem bound_toNat (v : Nat) : (BitVec.ofNat 10 (min v 1023)).toNat = min v 1023 := by
  rw [BitVec.toNat_ofNat]; omega

/-- A raised LAT_BOUND keeps the guard sound. -/
theorem setBound_sound {v : Nat} {c : BoundCause} {s : State} (k : s.guard.Sound)
    (h : s.guard.enabled = true → s.guard.target.toNat ≤ v) : (setBound v c s).guard.Sound := by
  rw [setBound_guard]
  refine ⟨k.cfg, k.pend, k.cap, k.high, k.floor, k.runs, fun e => ?_⟩
  have h1 := h e
  have h2 := k.cfg.target.2
  show s.guard.target.toNat ≤ (BitVec.ofNat 10 (min v 1023)).toNat
  rw [bound_toNat]
  exact Nat.le_min.mpr ⟨h1, Nat.le_trans h2 (by decide)⟩

/-- Rounding up to the next 0.05 ns never falls. -/
theorem le_roundUp5 (p : Nat) : p ≤ roundUp5 p := by unfold roundUp5; omega

/-- raiseBound keeps the guard sound. -/
theorem raiseBound_sound {s : State} (k : s.guard.Sound) : (raiseBound s).guard.Sound := by
  unfold raiseBound
  refine setBound_sound k (fun e => ?_)
  have h := k.bound e
  have r := le_roundUp5 s.guard.pred.toNat
  split <;> split <;> omega

/-- What setVolt leaves of the guard: its configuration, and VDD_CORE as it was or as written. -/
theorem setVolt_guard (v : Nat) (s : State) : ∃ (b : BitVec 8) (f : Bool) (u d : BitVec 48),
    (setVolt v s).guard = { s.guard with vcode := b, inFlight := f, upCount := u, downCount := d }
    ∧ (b = s.guard.vcode ∨ (b = BitVec.ofNat 8 v ∧ s.guard.voutBad = false)) := by
  unfold setVolt
  dsimp only
  split
  · exact ⟨s.guard.vcode, s.guard.inFlight, s.guard.upCount, s.guard.downCount, rfl, .inl rfl⟩
  · rename_i h
    refine ⟨BitVec.ofNat 8 v, true, _, _, rfl, .inr ⟨rfl, ?_⟩⟩
    revert h
    cases s.guard.voutBad <;> simp

/-- Writing VDD_CORE within its range keeps the guard sound. -/
theorem setVolt_sound {v : Nat} {s : State} (k : s.guard.Sound)
    (h : s.guard.voutBad = false → 8 ≤ v ∧ v ≤ 40) : (setVolt v s).guard.Sound := by
  obtain ⟨b, f, u, d, e, hb⟩ := setVolt_guard v s
  rw [e]
  refine ⟨k.cfg, k.pend, k.cap, ?_, fun r n => ?_, k.runs, k.bound⟩
  · rcases hb with rfl | ⟨rfl, hv⟩
    · exact k.high
    · have := h hv
      show (BitVec.ofNat 8 v).toNat ≤ 40
      rw [BitVec.toNat_ofNat]; omega
  · rcases hb with rfl | ⟨rfl, hv⟩
    · exact k.floor r n
    · have := h hv
      show 8 ≤ (BitVec.ofNat 8 v).toNat
      rw [BitVec.toNat_ofNat]; omega

/-- setConflict keeps the guard sound. -/
theorem setConflict_sound {c : Bool} {s : State} (k : s.guard.Sound) : (setConflict c s).guard.Sound := by
  unfold setConflict
  split
  · exact k
  · exact ⟨k.cfg, k.pend, k.cap, k.high, k.floor, k.runs, k.bound⟩

/-- The guard's own request changes nothing the rules speak of. -/
theorem ask_guard (g : Guard) : ∃ r d u, g.ask = { g with request := r, downRun := d, sinceUp := u }
    ∧ (r = g.ceil.toNat ∨ g.vcode.toNat ≤ r ∨ vcoreFloor ≤ r) := by
  unfold Guard.ask
  dsimp only
  generalize (if g.pred.toNat + g.hyst.toNat ≤ g.target.toNat then min 100 (g.downRun + 1) else 0) = run
  split
  · exact ⟨_, _, _, rfl, .inl rfl⟩
  · split
    · exact ⟨_, _, _, rfl, .inr (.inl (Nat.le_max_left ..))⟩
    · split
      · split
        · exact ⟨_, _, _, rfl, .inr (.inl (Nat.le_max_left ..))⟩
        · exact ⟨_, _, _, rfl, .inr (.inl (Nat.le_max_left ..))⟩
      · split
        · exact ⟨_, _, _, rfl, .inr (.inr (Nat.le_max_left ..))⟩
        · exact ⟨_, _, _, rfl, .inr (.inl (Nat.le_refl _))⟩

/-- A voltage within VCAP's reach stays within the range. -/
theorem capped_range {g : Guard} (k : g.Sound) {v : Nat} (h : 8 ≤ v ∧ v ≤ 40) : 8 ≤ g.capped v ∧ g.capped v ≤ 40 := by
  unfold Guard.capped
  split
  · rename_i c e
    have := k.cap c e
    split <;> omega
  · exact h

/-- steer keeps a running guard sound. -/
theorem steer_sound {s : State} (k : s.guard.Sound) (r : s.guard.running = true) : (steer s).guard.Sound := by
  obtain ⟨q, d, u, e, hq⟩ := ask_guard s.guard
  have k1 : s.guard.ask.Sound := by rw [e]; exact ⟨k.cfg, k.pend, k.cap, k.high, k.floor, k.runs, k.bound⟩
  unfold steer
  dsimp only
  refine setVolt_sound (setConflict_sound (s := { s with guard := s.guard.ask }) k1) (fun hb => ?_)
  have hb' : s.guard.voutBad = false := by
    rw [show ∀ c, (setConflict c { s with guard := s.guard.ask }).guard.voutBad = s.guard.voutBad from ?_] at hb
    · exact hb
    · intro c
      unfold setConflict
      split
      · show s.guard.ask.voutBad = _
        rw [e]
      · show s.guard.ask.voutBad = _
        rw [e]
  refine capped_range k1 ?_
  have hv := k.floor r hb'
  have hc := k.cfg.ceil
  simp only at hc
  rw [e]
  simp only [vcoreFloor] at hq ⊢
  split <;> omega

/-- A read of the sentinels changes nothing the rules speak of. -/
theorem sample_sound {g : Guard} (k : g.Sound) (ps : List Nat) : (g.sample ps).Sound :=
  ⟨k.cfg, k.pend, k.cap, k.high, k.floor, k.runs, k.bound⟩

/-- A bound of both choices. -/
theorem le_pick {a x y : Nat} {c : Prop} [Decidable c] (h : c → a ≤ x) (k : a ≤ y) : a ≤ if c then x else y := by
  split
  · exact h ‹_›
  · exact k

/-- applyCfg keeps the guard sound when the configuration is within its ranges. -/
theorem applyCfg_sound {c : GuardCfg} {s : State} (k : s.guard.Sound) (hc : CfgSound c) : (applyCfg c s).guard.Sound := by
  unfold applyCfg
  dsimp only
  generalize hs1 : onGuard _ s = s1
  have e1 : s1.guard = { s.guard with
      cfgEnable := c.enable, enabled := s.guard.running && c.enable, stepMv := c.stepMv, target := c.target, hyst := c.hyst, ceil := c.ceil,
      fixed := c.fixed, downRun := 0 } := by rw [← hs1]; rfl
  clear hs1
  have base : ∀ w : Nat, (s.guard.running = true → c.enable = true → c.target.toNat ≤ w) → ∀ q, (setBound w q s1).guard.Sound := by
    intro w hw q
    rw [setBound_guard, e1]
    refine ⟨⟨hc.target, hc.hyst, hc.ceil, hc.fixed⟩, k.pend, k.cap, k.high, k.floor, fun e => ?_, fun e => ?_⟩
    · exact (Bool.and_eq_true_iff.mp e).1
    · have h := Bool.and_eq_true_iff.mp e
      have h2 := hc.target.2
      have := hw h.1 h.2
      show c.target.toNat ≤ (BitVec.ofNat 10 (min w 1023)).toNat
      rw [bound_toNat]
      omega
  have hg : ∀ (w : Nat) q, (setBound w q s1).guard.voutBad = s.guard.voutBad := by
    intro w q
    rw [setBound_guard, e1]
  have r5 := le_roundUp5 s.guard.pred.toNat
  cases hr : s.guard.running with
  | false =>
    simp only [Bool.not_false, if_true]
    rw [e1]
    refine ⟨⟨hc.target, hc.hyst, hc.ceil, hc.fixed⟩, k.pend, k.cap, k.high, fun r => absurd (hr.symm.trans r) Bool.false_ne_true, fun e => ?_,
      fun e => ?_⟩ <;> exact absurd (hr.symm.trans (Bool.and_eq_true_iff.mp e).1) Bool.false_ne_true
  | true =>
    simp only [Bool.not_true, Bool.false_eq_true, if_false]
    cases he : c.enable with
    | false =>
      simp only [Bool.not_false, if_true]
      exact setVolt_sound (base _ (fun _ h => absurd (he.symm.trans h) Bool.false_ne_true) _) (fun _ => hc.fixed)
    | true =>
      simp only [Bool.not_true, Bool.false_eq_true, if_false]
      split
      · exact base _ (fun _ _ => Nat.le_max_left ..) _
      · refine setVolt_sound (base _ (fun _ _ => ?_) _) (fun hb => ?_)
        · have hl : ∀ (q : Prop) [Decidable q], c.target.toNat ≤ (if q then max s.guard.latBound.toNat c.target.toNat else c.target.toNat) := by
            exact fun q _ => le_pick (fun _ => Nat.le_max_right ..) (Nat.le_refl _)
          refine le_pick (fun h => ?_) (hl _)
          exact Nat.le_trans (hl _) (Nat.le_trans (Nat.le_of_lt (of_decide_eq_true (Bool.and_eq_true_iff.mp h).1)) r5)
        · have hb' : s.guard.voutBad = false := (hg _ _).symm.trans hb
          have := k.floor hr hb'
          have h4 := k.high
          have h5 := hc.ceil
          simp only [vcoreFloor]
          omega

/-- applyCap keeps the guard sound. -/
theorem applyCap_sound {w : BitVec 16} {m : Bool} {s : State} (k : s.guard.Sound) : (applyCap w m s).guard.Sound := by
  have k1 : (onGuard (fun g => { g with
      capW := w, capFirst := m, vcap := if w = 0 then none else g.vcap, belowFloor := g.belowFloor && w != 0 }) s).guard.Sound := by
    refine ⟨k.cfg, k.pend, fun v h => ?_, k.high, k.floor, k.runs, k.bound⟩
    simp only [onGuard] at h
    split at h
    · exact absurd h (by simp)
    · exact k.cap v h
  unfold applyCap
  dsimp only
  by_cases hw : w = 0
  · rw [if_pos hw]
    exact setConflict_sound k1
  · rw [if_neg hw]
    exact k1

/-- What waited is within its ranges, and taking it keeps the guard sound. -/
theorem takePending_sound {s : State} (k : s.guard.Sound) : (takePending s).guard.Sound := by
  have k1 : (onGuard (fun g => { g with pendCfg := none, pendCap := none }) s).guard.Sound :=
    ⟨k.cfg, fun c h => absurd h (by simp [onGuard]), k.cap, k.high, k.floor, k.runs, k.bound⟩
  have k2 : (match s.guard.pendCfg with
      | some c => applyCfg c (onGuard (fun g => { g with pendCfg := none, pendCap := none }) s)
      | none => onGuard (fun g => { g with pendCfg := none, pendCap := none }) s).guard.Sound := by
    cases h : s.guard.pendCfg with
    | none => exact k1
    | some c => exact applyCfg_sound k1 (k.pend c h)
  unfold takePending
  dsimp only
  cases s.guard.pendCap with
  | none => exact k2
  | some w => exact applyCap_sound k2

/-- Fields that stay through applyCfg. -/
theorem applyCfg_running (c : GuardCfg) (s : State) : (applyCfg c s).guard.running = s.guard.running := by
  have hs : ∀ v u, (setVolt v u).guard.running = u.guard.running := by
    intro v u
    obtain ⟨_, _, _, _, e, -⟩ := setVolt_guard v u
    rw [e]
  unfold applyCfg
  dsimp only
  split
  · rfl
  · split
    · rw [hs, setBound_guard]; rfl
    · split
      · rw [setBound_guard]; rfl
      · rw [hs, setBound_guard]; rfl

/-- The guard runs on through what waited. -/
theorem takePending_running (s : State) : (takePending s).guard.running = s.guard.running := by
  have h2 : (match s.guard.pendCfg with
      | some c => applyCfg c (onGuard (fun g => { g with pendCfg := none, pendCap := none }) s)
      | none => onGuard (fun g => { g with pendCfg := none, pendCap := none }) s).guard.running = s.guard.running := by
    cases s.guard.pendCfg with
    | none => rfl
    | some c => exact applyCfg_running _ _
  have h3 : ∀ c u, (setConflict c u).guard.running = u.guard.running := by
    intro c u
    unfold setConflict
    split <;> rfl
  unfold takePending
  dsimp only
  cases s.guard.pendCap with
  | none => exact h2
  | some w =>
    refine Eq.trans ?_ h2
    unfold applyCap
    dsimp only
    split
    · rw [h3]; rfl
    · rfl

/-- An outcome's next state has a sound guard. -/
def GuardAfter (o : Result) : Prop := ∀ t, o = .next t → t.guard.Sound

/-- A next state. -/
theorem guardAfter_next {t : State} (h : t.guard.Sound) : GuardAfter (.next t) := fun _ e => by cases e; exact h

/-- What leaves the guard alone keeps it sound. -/
theorem guardSound_of_view {s t : State} {M : Nat} (h : t.view M = s.view M) (b : M.testBit 2 = false) (k : s.guard.Sound) : t.guard.Sound := by
  rw [same_guard h b]; exact k

/-- SENTINEL_READ. -/
theorem execSentinelRead_guard (preds : List (BitVec 16)) {s : State} (k : s.guard.Sound) : GuardAfter (execSentinelRead preds s) := by
  unfold execSentinelRead
  cases hr : s.guard.running with
  | false => exact guardAfter_next k
  | true =>
    simp only [Bool.not_true, Bool.false_eq_true, if_false]
    have e2 : ∀ b u, (raiseAside b u).guard = u.guard := fun b u => same_guard (raiseAside_view (M := 16777216) rfl b u) rfl
    generalize hs1 : takePending s = s1
    have k1 : s1.guard.Sound := hs1 ▸ takePending_sound k
    have r1 : s1.guard.running = true := by rw [← hs1, takePending_running, hr]
    generalize hs2 : raiseAside s1.guard.setAside (onGuard (fun g => g.sample ((preds.take 24).map BitVec.toNat)) s1) = s2
    have k2 : s2.guard.Sound := by rw [← hs2, e2]; exact sample_sound k1 _
    have r2 : s2.guard.running = true := by rw [← hs2, e2]; exact r1
    generalize hs3 : (if s2.guard.seen || !s2.guard.enabled then s2
      else setBound s2.guard.target.toNat .ret (onGuard (fun g => { g with seen := true }) s2)) = s3
    have k3 : s3.guard.Sound := by
      rw [← hs3]
      split
      · exact k2
      · exact setBound_sound (s := onGuard (fun g => { g with seen := true }) s2)
          ⟨k2.cfg, k2.pend, k2.cap, k2.high, k2.floor, k2.runs, k2.bound⟩ (fun _ => Nat.le_refl _)
    have r3 : s3.guard.running = true := by
      rw [← hs3]
      split
      · exact r2
      · rw [setBound_guard]; exact r2
    have k4 : (if s3.guard.enabled && !s3.guard.frozen then steer s3 else s3).guard.Sound := by
      split
      · exact steer_sound k3 r3
      · exact k3
    have k5 := raiseBound_sound k4
    exact guardAfter_next ⟨k5.cfg, k5.pend, k5.cap, k5.high, k5.floor, k5.runs, k5.bound⟩

/-- LAT_BOUND_RETURN. -/
theorem execLatBoundReturn_guard {s : State} (k : s.guard.Sound) : GuardAfter (execLatBoundReturn s) := by
  unfold execLatBoundReturn
  dsimp only
  split
  · refine guardAfter_next ?_
    have k1 : (setBound s.guard.target.toNat .ret s).guard.Sound := setBound_sound k (fun _ => Nat.le_refl _)
    split
    · exact setConflict_sound k1
    · exact k1
  · exact guardAfter_next k

/-- Reading the power keeps the guard sound. -/
theorem readPower_sound {g : Guard} (k : g.Sound) (w : Nat) (b : Bool) : { g.readPower w with belowFloor := b }.Sound := by
  unfold Guard.readPower
  dsimp only
  split
  · refine ⟨k.cfg, k.pend, fun v h => ?_, k.high, k.floor, k.runs, k.bound⟩
    simp only [Option.some.injEq] at h
    subst h
    have h4 := k.high
    simp only [vcoreFloor]
    cases hc : g.vcap with
    | none => simp only [Option.getD_none]; omega
    | some c =>
      have := k.cap c hc
      simp only [Option.getD_some]; omega
  · split
    · refine ⟨k.cfg, k.pend, fun v h => ?_, k.high, k.floor, k.runs, k.bound⟩
      cases hc : g.vcap with
      | none => rw [hc] at h; exact absurd h (by simp)
      | some c =>
        have := k.cap c hc
        rw [hc] at h
        simp only [Option.map_some, Option.some.injEq] at h
        omega
    · exact ⟨k.cfg, k.pend, k.cap, k.high, k.floor, k.runs, k.bound⟩

/-- POWER_READING. -/
theorem execPowerReading_guard (watts : Nat) {s : State} (k : s.guard.Sound) : GuardAfter (execPowerReading watts s) := by
  unfold execPowerReading
  dsimp only
  split
  · exact guardAfter_next k
  · rename_i hrun
    have hr : s.guard.running = true := by
      simp only [Bool.or_eq_true, Bool.not_eq_true', decide_eq_true_eq, not_or, Bool.not_eq_false] at hrun
      exact hrun.1
    refine guardAfter_next ?_
    generalize (decide (s.guard.capW.toNat < watts) && s.guard.aboveCap (vcoreFloor + 1)) = fl
    have k1 : (onGuard (fun g => { g.readPower watts with belowFloor := fl }) s).guard.Sound := readPower_sound k watts fl
    have k2 : (if fl != s.guard.belowFloor then raise 1 0 0 (bitNat fl) 0 none (onGuard (fun g => { g.readPower watts with belowFloor := fl }) s)
        else onGuard (fun g => { g.readPower watts with belowFloor := fl }) s).guard.Sound := by split <;> exact k1
    have r2 : (if fl != s.guard.belowFloor then raise 1 0 0 (bitNat fl) 0 none (onGuard (fun g => { g.readPower watts with belowFloor := fl }) s)
        else onGuard (fun g => { g.readPower watts with belowFloor := fl }) s).guard.running = true := by
      have : (onGuard (fun g => { g.readPower watts with belowFloor := fl }) s).guard.running = true := by
        show (s.guard.readPower watts).running = true
        unfold Guard.readPower
        dsimp only
        split
        · exact hr
        · split <;> exact hr
      split <;> exact this
    revert k2 r2
    generalize (if fl != s.guard.belowFloor then raise 1 0 0 (bitNat fl) 0 none (onGuard (fun g => { g.readPower watts with belowFloor := fl }) s)
        else onGuard (fun g => { g.readPower watts with belowFloor := fl }) s) = s2
    intro k2 r2
    have k3 : (if s.guard.capFirst then s2 else setConflict (s.guard.enabled && s2.guard.aboveCap s2.guard.vcode.toNat) s2).guard.Sound := by
      split
      · exact k2
      · exact setConflict_sound k2
    have r3 : (if s.guard.capFirst then s2 else setConflict (s.guard.enabled && s2.guard.aboveCap s2.guard.vcode.toNat) s2).guard.running = true := by
      split
      · exact r2
      · unfold setConflict
        split <;> exact r2
    split
    · exact setVolt_sound k3 (fun hb => capped_range k3 ⟨k3.floor r3 hb, k3.high⟩)
    · exact k3

/-- GUARD_PMBUS. -/
theorem execGuardPmbus_guard (acked : Bool) {s : State} (k : s.guard.Sound) : GuardAfter (execGuardPmbus acked s) := by
  unfold execGuardPmbus
  dsimp only
  split
  · exact guardAfter_next k
  · split
    · exact guardAfter_next ⟨k.cfg, k.pend, k.cap, k.high, k.floor, k.runs, k.bound⟩
    · refine guardAfter_next ?_
      have g1 : ∃ f, (if s.guard.frozen then s else raise 1 2 0 0 0 none (onGuard (fun g => { g with frozen := true }) s)).guard
          = { s.guard with frozen := f } := by
        split
        · exact ⟨s.guard.frozen, rfl⟩
        · exact ⟨true, rfl⟩
      obtain ⟨f, g1⟩ := g1
      revert g1
      generalize (if s.guard.frozen then s else raise 1 2 0 0 0 none (onGuard (fun g => { g with frozen := true }) s)) = s1
      intro g1
      have k1 : s1.guard.Sound := by rw [g1]; exact ⟨k.cfg, k.pend, k.cap, k.high, k.floor, k.runs, k.bound⟩
      have k2 : (if s.guard.latBound.toNat < s.guard.pred.toNat && s.guard.seen then setBound (roundUp5 s.guard.pred.toNat) .pmbus s1
          else s1).guard.Sound := by
        split
        · rename_i h
          refine setBound_sound k1 (fun e => ?_)
          rw [g1] at e ⊢
          have h1 := k.bound e
          have h2 := le_roundUp5 s.guard.pred.toNat
          simp only [Bool.and_eq_true, decide_eq_true_eq] at h
          have h3 := h.1
          show s.guard.target.toNat ≤ _
          omega
        · exact k1
      split
      · exact ⟨k2.cfg, k2.pend, k2.cap, k2.high, k2.floor, k2.runs, k2.bound⟩
      · exact k2

/-- A reply's state has a sound guard. -/
def Reply.GuardOk : Reply → Prop
  | .ok t _ => t.guard.Sound
  | .err _ => True
  | .failed t _ _ => t.guard.Sound
  | .later t => t.guard.Sound

/-- A mailbox command keeps the guard sound when its own effect does. -/
theorem serve_guard (c : CmdSpec) (rq : Req) {body : State → Reply} {s : State} (k : s.guard.Sound)
    (h : ∀ u, u.guard.Sound → (body u).GuardOk) : GuardAfter (.next (serve c rq body s)) := by
  have ha : (accept rq c.code s).guard = s.guard := accept_guard rq c.code s
  have hr : ∀ st fl p s, (respond rq.fn.val st fl p s).guard = s.guard := fun st fl p s => respond_guard _ st fl p s
  refine guardAfter_next ?_
  unfold serve
  split
  · exact k
  · split
    · exact guardSound_of_view (overrun_view (M := 68681728) rfl _ s) rfl k
    · have ka : (accept rq c.code s).guard.Sound := by rw [ha]; exact k
      unfold dispatch
      split
      · rw [hr]; exact ka
      · split
        · rw [hr]; exact ka
        · have := h _ ka
          revert this
          cases body (accept rq c.code s) with
          | ok t p => intro q; dsimp only [settle]; rw [hr]; exact q
          | err st => intro _; dsimp only [settle]; rw [hr]; exact ka
          | failed t st p => intro q; dsimp only [settle]; rw [hr]; exact q
          | later t => exact fun q => q

/-- POWER_GUARD_CONFIG. -/
theorem execPowerGuardConfig_guard (rq : Req) {s : State} (k : s.guard.Sound) : GuardAfter (execPowerGuardConfig rq s) := by
  unfold execPowerGuardConfig
  refine serve_guard _ _ k (fun u ku => ?_)
  dsimp only
  split
  · trivial
  · rename_i hp
    simp only [Bool.or_eq_true, decide_eq_true_eq, bne_iff_ne, not_or, Nat.not_lt, ne_eq] at hp
    have hc : CfgSound ⟨rq.u8 0 == 1, BitVec.ofNat 8 (rq.u8 1), BitVec.ofNat 16 (rq.u16 2), BitVec.ofNat 16 (rq.u16 4),
        BitVec.ofNat 8 (rq.u8 6), BitVec.ofNat 8 (rq.u8 7)⟩ := by
      refine ⟨?_, ?_, ?_, ?_⟩ <;> (dsimp only; rw [BitVec.toNat_ofNat, Nat.mod_eq_of_lt (by omega)]; omega)
    split
    · exact ⟨ku.cfg, fun c h => by simp only [onGuard, Option.some.injEq] at h; exact h ▸ hc, ku.cap, ku.high, ku.floor, ku.runs, ku.bound⟩
    · exact applyCfg_sound ku hc

/-- POWER_SET_CAP. -/
theorem execPowerSetCap_guard (rq : Req) {s : State} (k : s.guard.Sound) : GuardAfter (execPowerSetCap rq s) := by
  unfold execPowerSetCap
  refine serve_guard _ _ k (fun u ku => ?_)
  dsimp only
  split
  · trivial
  · split
    · exact ⟨ku.cfg, ku.pend, ku.cap, ku.high, ku.floor, ku.runs, ku.bound⟩
    · exact applyCap_sound ku

/-- POWER_DOMAIN. -/
theorem execPowerDomain_guard (rq : Req) {s : State} (k : s.guard.Sound) : GuardAfter (execPowerDomain rq s) := by
  unfold execPowerDomain
  refine serve_guard _ _ k (fun u ku => ?_)
  dsimp only
  split
  · trivial
  · split
    · trivial
    · split
      · trivial
      · split
        · exact ku
        · split
          · exact ⟨ku.cfg, ku.pend, ku.cap, ku.high, ku.floor, ku.runs, ku.bound⟩
          · split
            · trivial
            · refine guardSound_of_view (beginOff_view (M := 16778240) rfl _ _) rfl ?_
              exact ku

/-- The values of Table 03.3 are within their ranges. -/
theorem defaultCfg_sound : CfgSound { target := 450, hyst := 15, ceil := 40, fixed := 30 } :=
  ⟨by decide, by decide, by decide, by decide⟩

/-- A guard that does not run, at the values of Table 03.3. -/
theorem stopped_sound {v : BitVec 8} (h : v.toNat ≤ 40) : Guard.Sound { vcode := v } :=
  ⟨defaultCfg_sound, fun c e => (nomatch e), fun c e => (nomatch e), h, fun r => (nomatch r), fun e => (nomatch e),
    fun e => (nomatch e)⟩

/-- The guard at start-up (R92). -/
theorem coldStart_sound (train : TrainRes) {s : State} (k : s.guard.Sound) : (coldStart train s).guard.Sound := by
  have h1 : ∀ u, (standAlone u).guard = u.guard := fun u => same_guard (standAlone_view (M := 8192) rfl u) rfl
  have h2 : ∀ u, (calibrateAll u).guard = u.guard := fun u => same_guard (calibrateAll_view (M := 4112) rfl u) rfl
  have h3 : ∀ u, (placeRegions u).guard = u.guard := fun u => same_guard (placeRegions_view (M := 589824) rfl u) rfl
  have h4 : ∀ a b c u, (trainChannel a b c u).guard = u.guard := fun a b c u => same_guard (trainChannel_view (M := 17039360) rfl a b c u) rfl
  have h5 : (readBoard s).guard = s.guard := same_guard (readBoard_view (M := 17301504) rfl s) rfl
  have h6 : ∀ (l : List (Fin 7)) u, (l.foldl (fun s _ => raise 30 4 0 0 0 none s) u).guard = u.guard := by
    intro l
    induction l with
    | nil => exact fun _ => rfl
    | cons a l ih => exact fun u => ih _
  have hb : (bootVolt train.badModes (readBoard s)).guard.vcode.toNat ≤ 40
      ∧ ((bootVolt train.badModes (readBoard s)).guard.voutBad = false → 8 ≤ (bootVolt train.badModes (readBoard s)).guard.vcode.toNat) := by
    unfold bootVolt
    dsimp only
    split
    · rename_i c
      rw [h6]
      simp only [onGuard, h5]
      exact ⟨k.high, fun e => absurd (c.symm.trans e) (by decide)⟩
    · exact ⟨(by decide : (30 : BitVec 8).toNat ≤ 40), fun _ => (by decide : 8 ≤ (30 : BitVec 8).toNat)⟩
  unfold coldStart
  dsimp only
  unfold startGuard onGuard onFab
  refine ⟨defaultCfg_sound, fun c e => (nomatch e), fun c e => (nomatch e), ?_, fun _ e => ?_, fun _ => rfl,
    fun _ => (by decide : (450 : BitVec 16).toNat ≤ (480 : BitVec 10).toNat)⟩
  · simp only [h1, h2, h3, h4]
    exact hb.1
  · revert e
    simp only [h1, h2, h3, h4]
    exact hb.2

/-- STARTUP_COMPLETE. -/
theorem execStartupComplete_guard (train : TrainRes) {s : State} (k : s.guard.Sound) : GuardAfter (execStartupComplete train s) := by
  have h1 : ∀ u, (setReady u).guard = u.guard := fun u => same_guard (setReady_view (M := 38404096) rfl u) rfl
  have k1 : (setReady (if s.guard.running then s else coldStart train s)).guard.Sound := by
    rw [h1]
    split
    · exact k
    · exact coldStart_sound train k
  unfold execStartupComplete
  split
  · exact guardAfter_next k
  · refine guardAfter_next ?_
    split
    · exact guardSound_of_view (postAll_view (M := 17183014912) rfl _ _ _ _) rfl k1
    · exact k1

/-- A chip reset leaves a guard that does not run. -/
theorem resetChip_guard (c : BitVec 3) {s : State} (k : s.guard.Sound) : (resetChip c s).guard.Sound :=
  guardSound_of_view (losePtp_view (M := 17263951874) rfl _) rfl (stopped_sound k.high)

/-- CHIP_RST_DELAY_EXPIRY. -/
theorem execChipRstDelayExpiry_guard {s : State} (k : s.guard.Sound) : GuardAfter (execChipRstDelayExpiry s) := by
  unfold execChipRstDelayExpiry
  split
  · exact guardAfter_next k
  · split
    · exact guardAfter_next k
    · exact guardAfter_next (resetChip_guard _ k)

/-- LAST_GASP_END. -/
theorem execLastGaspEnd_guard {s : State} (k : s.guard.Sound) : GuardAfter (execLastGaspEnd s) := by
  unfold execLastGaspEnd
  split
  · exact guardAfter_next k
  · split
    · exact guardAfter_next (resetChip_guard _ k)
    · exact guardAfter_next k

/-- PWRFAIL_N_RELEASE. -/
theorem execPwrfailNRelease_guard {s : State} (k : s.guard.Sound) : GuardAfter (execPwrfailNRelease s) := by
  unfold execPwrfailNRelease
  dsimp only
  split
  · exact guardAfter_next k
  · split
    · exact guardAfter_next k
    · split
      · exact guardAfter_next k
      · split
        · exact guardAfter_next (resetChip_guard _ (s := onPwr (fun p => { p with pwrfail := false }) s) k)
        · exact guardAfter_next k

/-- CHIP_RESET. -/
theorem execChipReset_guard {s : State} (k : s.guard.Sound) : GuardAfter (execChipReset s) := guardAfter_next (resetChip_guard _ k)

/-- PORST_N. -/
theorem execPorstN_guard {s : State} (_ : s.guard.Sound) : GuardAfter (execPorstN s) :=
  guardAfter_next (stopped_sound (v := 0) (by decide))

end Sys2Proof.Machine
end

