-- ==== Sys2Proof/Laws/KeepRams.lean ====
section
/-! SUPPORT. What leaves the content of the DRAM channels and their poison lists alone (17_dram.md R389). -/

namespace Sys2Proof.Machine

/-- The content of a channel and its poison list. -/
def Ddr.key (d : Ddr) : Tab Byte × List Nat := (d.mem, d.poison)

/-- The same of every channel. -/
def State.rams (s : State) : Nat → Tab Byte × List Nat := fun c => (s.ddrAt c).key

/-- What leaves the channels alone leaves them alone. -/
theorem rams_of_view {s t : State} {M : Nat} (h : t.view M = s.view M) (b : M.testBit 18 = false) : t.rams = s.rams := by
  have e := same_ddr h b
  funext c
  simp only [State.rams, State.ddrAt, e]

/-- A choice. -/
theorem rams_ite {c : Prop} [Decidable c] {a b : State} : (if c then a else b).rams = if c then a.rams else b.rams := by
  split <;> rfl

/-- Steps over a list. -/
theorem foldl_rams {α : Type} {g : State → α → State} (h : ∀ s a, (g s a).rams = s.rams) (l : List α) (s : State) :
    (l.foldl g s).rams = s.rams := by
  induction l generalizing s with
  | nil => rfl
  | cons a l ih => rw [List.foldl_cons, ih, h]

/-- The state of a pair. -/
theorem fst_rams {α : Type} {p : State × α} {t : State} {b : α} (e : p = (t, b)) : t.rams = p.1.rams := by
  rw [e]

/-- Changing a channel but for these keeps them. -/
theorem onDdr_rams (n : Nat) (g : Ddr → Ddr) (s : State) (h : ∀ x, (g x).key = x.key) : (onDdr n g s).rams = s.rams := by
  funext c
  simp only [State.rams, State.ddrAt, onDdr, State.setDdr, Tab.look_put]
  split
  · rename_i e; rw [h, e]
  · rfl

/-- An outcome's next state keeps them. -/
structure Keptrams (s : State) (o : Result) : Prop where
  /-- The next state, if there is one. -/
  agrees : ∀ t, o = .next t → t.rams = s.rams

/-- A reply's state keeps them. -/
def Reply.Keepsrams (s : State) : Reply → Prop
  | .ok t _ => t.rams = s.rams
  | .err _ => True
  | .failed t _ _ => t.rams = s.rams
  | .later t => t.rams = s.rams

/-- A next state. -/
theorem keptrams_next {s t : State} : Keptrams s (.next t) = (t.rams = s.rams) :=
  propext ⟨fun h => h.agrees t rfl, fun h => ⟨fun u hu => by cases hu; exact h⟩⟩

/-- An answer of OK. -/
theorem keepsrams_ok {s t : State} {p : List Byte} : Reply.Keepsrams s (.ok t p) = (t.rams = s.rams) := rfl

/-- A status that means no change. -/
theorem keepsrams_err {s : State} {e : Status} : Reply.Keepsrams s (.err e) = True := rfl

/-- A status with an effect. -/
theorem keepsrams_failed {s t : State} {e : Status} {p : List Byte} : Reply.Keepsrams s (.failed t e p) = (t.rams = s.rams) := rfl

/-- An answer that comes later. -/
theorem keepsrams_later {s t : State} : Reply.Keepsrams s (.later t) = (t.rams = s.rams) := rfl

/-- A choice of outcomes. -/
theorem keptrams_ite {s : State} {c : Prop} [Decidable c] {a b : Result} :
    Keptrams s (if c then a else b) = if c then Keptrams s a else Keptrams s b := by
  split <;> rfl

/-- A choice of replies. -/
theorem keepsrams_ite {s : State} {c : Prop} [Decidable c] {a b : Reply} :
    Reply.Keepsrams s (if c then a else b) = if c then Reply.Keepsrams s a else Reply.Keepsrams s b := by
  split <;> rfl

/-- A mailbox command keeps what its own effect keeps. -/
theorem serve_rams (c : CmdSpec) (rq : Req) {body : State → Reply} (h : ∀ s, (body s).Keepsrams s) (s : State) :
    Keptrams s (.next (serve c rq body s)) := by
  have ha : ∀ s, (accept rq c.code s).rams = s.rams := fun s => rams_of_view (accept_view (M := 68157440) rfl rq c.code s) rfl
  have hr : ∀ st fl p s, (respond rq.fn.val st fl p s).rams = s.rams :=
    fun st fl p s => rams_of_view (respond_view (M := 17250123776) rfl _ st fl p s) rfl
  rw [keptrams_next]
  unfold serve
  split
  · rfl
  · split
    · exact rams_of_view (overrun_view (M := 68681728) rfl _ s) rfl
    · refine Eq.trans ?_ (ha s)
      unfold dispatch
      split
      · exact hr _ _ _ _
      · split
        · exact hr _ _ _ _
        · have := h (accept rq c.code s)
          revert this
          cases body (accept rq c.code s) with
          | ok t p => exact fun k => (hr _ _ _ _).trans k
          | err st => exact fun _ => hr _ _ _ _
          | failed t st p => exact fun k => (hr _ _ _ _).trans k
          | later t => exact fun k => k

/-- Writing `glb` keeps them. -/
theorem rams_glb (s : State) (x) : { s with glb := x }.rams = s.rams := rfl

/-- Writing `tide` keeps them. -/
theorem rams_tide (s : State) (x) : { s with tide := x }.rams = s.rams := rfl

/-- Writing `guard` keeps them. -/
theorem rams_guard (s : State) (x) : { s with guard := x }.rams = s.rams := rfl

/-- Writing `port` keeps them. -/
theorem rams_port (s : State) (x) : { s with port := x }.rams = s.rams := rfl

/-- Writing `quad` keeps them. -/
theorem rams_quad (s : State) (x) : { s with quad := x }.rams = s.rams := rfl

/-- Writing `frames` keeps them. -/
theorem rams_frames (s : State) (x) : { s with frames := x }.rams = s.rams := rfl

/-- Writing `nextFrame` keeps them. -/
theorem rams_nextFrame (s : State) (x) : { s with nextFrame := x }.rams = s.rams := rfl

/-- Writing `pump` keeps them. -/
theorem rams_pump (s : State) (x) : { s with pump := x }.rams = s.rams := rfl

/-- Writing `strn` keeps them. -/
theorem rams_strn (s : State) (x) : { s with strn := x }.rams = s.rams := rfl

/-- Writing `fwd` keeps them. -/
theorem rams_fwd (s : State) (x) : { s with fwd := x }.rams = s.rams := rfl

/-- Writing `rsv` keeps them. -/
theorem rams_rsv (s : State) (x) : { s with rsv := x }.rams = s.rams := rfl

/-- Writing `weir` keeps them. -/
theorem rams_weir (s : State) (x) : { s with weir := x }.rams = s.rams := rfl

/-- Writing `xl` keeps them. -/
theorem rams_xl (s : State) (x) : { s with xl := x }.rams = s.rams := rfl

/-- Writing `fab` keeps them. -/
theorem rams_fab (s : State) (x) : { s with fab := x }.rams = s.rams := rfl

/-- Writing `shtl` keeps them. -/
theorem rams_shtl (s : State) (x) : { s with shtl := x }.rams = s.rams := rfl

/-- Writing `rdma` keeps them. -/
theorem rams_rdma (s : State) (x) : { s with rdma := x }.rams = s.rams := rfl

/-- Writing `ledg` keeps them. -/
theorem rams_ledg (s : State) (x) : { s with ledg := x }.rams = s.rams := rfl

/-- Writing `cist` keeps them. -/
theorem rams_cist (s : State) (x) : { s with cist := x }.rams = s.rams := rfl

/-- Writing `ph` keeps them. -/
theorem rams_ph (s : State) (x) : { s with ph := x }.rams = s.rams := rfl

/-- Writing `mbx` keeps them. -/
theorem rams_mbx (s : State) (x) : { s with mbx := x }.rams = s.rams := rfl

/-- Writing `msix` keeps them. -/
theorem rams_msix (s : State) (x) : { s with msix := x }.rams = s.rams := rfl

/-- Writing `fuse` keeps them. -/
theorem rams_fuse (s : State) (x) : { s with fuse := x }.rams = s.rams := rfl

/-- Writing `host` keeps them. -/
theorem rams_host (s : State) (x) : { s with host := x }.rams = s.rams := rfl

/-- Writing `sump` keeps them. -/
theorem rams_sump (s : State) (x) : { s with sump := x }.rams = s.rams := rfl

/-- Writing `pwr` keeps them. -/
theorem rams_pwr (s : State) (x) : { s with pwr := x }.rams = s.rams := rfl

/-- Writing `pmon` keeps them. -/
theorem rams_pmon (s : State) (x) : { s with pmon := x }.rams = s.rams := rfl

/-- Writing `trace` keeps them. -/
theorem rams_trace (s : State) (x) : { s with trace := x }.rams = s.rams := rfl

/-- Writing `lane` keeps them. -/
theorem rams_lane (s : State) (x) : { s with lane := x }.rams = s.rams := rfl

/-- Writing `tap` keeps them. -/
theorem rams_tap (s : State) (x) : { s with tap := x }.rams = s.rams := rfl

/-- Writing `therm` keeps them. -/
theorem rams_therm (s : State) (x) : { s with therm := x }.rams = s.rams := rfl

/-- Writing `latch` keeps them. -/
theorem rams_latch (s : State) (x) : { s with latch := x }.rams = s.rams := rfl

/-- Writing `pcieDown` keeps them. -/
theorem rams_pcieDown (s : State) (x) : { s with pcieDown := x }.rams = s.rams := rfl

/-- Writing `vfEnable` keeps them. -/
theorem rams_vfEnable (s : State) (x) : { s with vfEnable := x }.rams = s.rams := rfl

/-- Writing `out` keeps them. -/
theorem rams_out (s : State) (x) : { s with out := x }.rams = s.rams := rfl

/-- Writing `free` keeps them. -/
theorem rams_free (s : State) (x) : { s with free := x }.rams = s.rams := rfl

/-- Writing `pending` keeps them. -/
theorem rams_pending (s : State) (x) : { s with pending := x }.rams = s.rams := rfl



/-- emit keeps them. -/
theorem emit_rams (o : Out) (s : State) : (emit o s).rams = s.rams := by
  exact rams_of_view (emit_view (M := 17179869184) rfl o s) rfl

/-- drawn keeps them. -/
theorem drawn_rams (s : State) : (drawn s).rams = s.rams := by
  exact rams_of_view (drawn_view (M := 34359738368) rfl s) rfl

/-- postAll keeps them. -/
theorem postAll_rams (fns : List Nat) (code : Nat) (detail : List Byte) (s : State) : (postAll fns code detail s).rams = s.rams := by
  exact rams_of_view (postAll_view (M := 17183014912) rfl fns code detail s) rfl

/-- finish keeps them. -/
theorem finish_rams (fn code : Nat) (st : Status) (payload : List Byte) (s : State) : (finish fn code st payload s).rams = s.rams := by
  exact rams_of_view (finish_view (M := 17250123776) rfl fn code st payload s) rfl

/-- finishOpt keeps them. -/
theorem finishOpt_rams (fn : Option Nat) (code : Nat) (st : Status) (payload : List Byte) (s : State) : (finishOpt fn code st payload s).rams = s.rams := by
  exact rams_of_view (finishOpt_view (M := 17250123776) rfl fn code st payload s) rfl

/-- onPort keeps them. -/
theorem onPort_rams (p : Nat) (g : Port → Port) (s : State) : (onPort p g s).rams = s.rams := by
  exact rams_of_view (onPort_view (M := 8) rfl p g s) rfl

/-- onRsv keeps them. -/
theorem onRsv_rams (g : Rsv → Rsv) (s : State) : (onRsv g s).rams = s.rams := by
  exact rams_of_view (onRsv_view (M := 1024) rfl g s) rfl

/-- onWeir keeps them. -/
theorem onWeir_rams (g : Weir → Weir) (s : State) : (onWeir g s).rams = s.rams := by
  exact rams_of_view (onWeir_view (M := 2048) rfl g s) rfl

/-- onFab keeps them. -/
theorem onFab_rams (g : Fab → Fab) (s : State) : (onFab g s).rams = s.rams := by
  exact rams_of_view (onFab_view (M := 8192) rfl g s) rfl

/-- onXl keeps them. -/
theorem onXl_rams (k : Nat) (g : Xl → Xl) (s : State) : (onXl k g s).rams = s.rams := by
  exact rams_of_view (onXl_view (M := 4096) rfl k g s) rfl

/-- onEngine keeps them. -/
theorem onEngine_rams (e : Nat) (g : Engine → Engine) (s : State) : (onEngine e g s).rams = s.rams := by
  exact rams_of_view (onEngine_view (M := 128) rfl e g s) rfl

/-- onStrn keeps them. -/
theorem onStrn_rams (g : Strn → Strn) (s : State) : (onStrn g s).rams = s.rams := by
  exact rams_of_view (onStrn_view (M := 256) rfl g s) rfl

/-- loadEngine keeps them. -/
theorem loadEngine_rams (e : Nat) (s : State) : (loadEngine e s).rams = s.rams := by
  exact rams_of_view (loadEngine_view (M := 128) rfl e s) rfl

/-- onRdma keeps them. -/
theorem onRdma_rams (g : Rdma → Rdma) (s : State) : (onRdma g s).rams = s.rams := by
  exact rams_of_view (onRdma_view (M := 32768) rfl g s) rfl

/-- engineDown keeps them. -/
theorem engineDown_rams (e : Nat) (s : State) : (engineDown e s).rams = s.rams := by
  exact rams_of_view (engineDown_view (M := 17409553768) rfl e s) rfl

/-- shtlGo keeps them. -/
theorem shtlGo_rams (s : State) : (shtlGo s).rams = s.rams := by
  exact rams_of_view (shtlGo_view (M := 17250155520) rfl s) rfl

/-- abortOps keeps them. -/
theorem abortOps_rams (p : Group → Bool) (s : State) : (abortOps p s).rams = s.rams := by
  exact rams_of_view (abortOps_view (M := 17250155520) rfl p s) rfl

/-- onLedg keeps them. -/
theorem onLedg_rams (g : Ledg → Ledg) (s : State) : (onLedg g s).rams = s.rams := by
  exact rams_of_view (onLedg_view (M := 65536) rfl g s) rfl

/-- relinkBay keeps them. -/
theorem relinkBay_rams (n : Nat) (s : State) : (relinkBay n s).rams = s.rams := by
  exact rams_of_view (relinkBay_view (M := 17267097600) rfl n s) rfl

/-- pcsReset keeps them. -/
theorem pcsReset_rams (p : Nat) (s : State) : (pcsReset p s).rams = s.rams := by
  exact rams_of_view (pcsReset_view (M := 16777224) rfl p s) rfl

/-- standAlone keeps them. -/
theorem standAlone_rams (s : State) : (standAlone s).rams = s.rams := by
  exact rams_of_view (standAlone_view (M := 8192) rfl s) rfl

/-- disableLink keeps them. -/
theorem disableLink_rams (k : Nat) (s : State) : (disableLink k s).rams = s.rams := by
  exact rams_of_view (disableLink_view (M := 17392743720) rfl k s) rfl

/-- enableLink keeps them. -/
theorem enableLink_rams (k : Nat) (s : State) : (enableLink k s).rams = s.rams := by
  exact rams_of_view (enableLink_view (M := 4096) rfl k s) rfl



/-- dramEvent keeps them. -/
theorem dramEvent_rams (c ev cause value : Nat) (s : State) : (dramEvent c ev cause value s).rams = s.rams := by
  exact rams_of_view (dramEvent_view (M := 16777216) rfl c ev cause value s) rfl

/-- issueCmd keeps them. -/
theorem issueCmd_rams (c : Nat) (cmd : DramCmd) (place : Nat) (s : State) : (issueCmd c cmd place s).rams = s.rams := by
  unfold issueCmd
  dsimp only
  refine (emit_rams _ _).trans (onDdr_rams c _ s ?_)
  intro _; rfl

/-- issueAccess keeps them. -/
theorem issueAccess_rams (c : Nat) (write : Bool) (off : Nat) (s : State) : (issueAccess c write off s).rams = s.rams := by
  simp only [issueAccess, issueCmd_rams, rams_ite, foldl_rams, ite_self]

/-- flushRequests keeps them. -/
theorem flushRequests_rams (c : Nat) (s : State) : (flushRequests c s).rams = s.rams := by
  unfold flushRequests
  refine (foldl_rams (fun s q => finishOpt_rams _ _ _ _ s) _ _).trans (onDdr_rams c _ s ?_)
  intro _; rfl

/-- freezeDram keeps them. -/
theorem freezeDram_rams (c kind client addr synd : Nat) (rank : Bool) (s : State) : (freezeDram c kind client addr synd rank s).rams = s.rams := by
  unfold freezeDram
  dsimp only
  refine (flushRequests_rams _ _).trans ((dramEvent_rams _ _ _ _ _).trans ((onDdr_rams c _ _ ?_).trans ((issueCmd_rams _ _ _ _).trans (issueCmd_rams _ _ _ _))))
  intro _; rfl

/-- correctableErr keeps them. -/
theorem correctableErr_rams (c addr : Nat) (s : State) : (correctableErr c addr s).rams = s.rams := by
  unfold correctableErr
  dsimp only
  rw [rams_ite, dramEvent_rams, ite_self]
  refine onDdr_rams c _ s ?_
  intro _; rfl

/-- beginExit keeps them. -/
theorem beginExit_rams (c : Nat) (s : State) : (beginExit c s).rams = s.rams := by
  refine (issueCmd_rams _ _ _ _).trans (onDdr_rams c _ s ?_)
  intro _; rfl

/-- holdRequest keeps them. -/
theorem holdRequest_rams (c : Nat) (q : DdrReq) (s : State) : (holdRequest c q s).rams = s.rams := by
  unfold holdRequest
  dsimp only
  rw [rams_ite, beginExit_rams, ite_self]
  refine onDdr_rams c _ s ?_
  intro _; rfl

/-- takeConfig keeps them. -/
theorem takeConfig_rams (c : Nat) (s : State) : (takeConfig c s).rams = s.rams := by
  refine onDdr_rams c _ s ?_
  intro d
  cases d.pendCfg <;> rfl

/-- beginSpeed keeps them. -/
theorem beginSpeed_rams (c : Nat) (s : State) : (beginSpeed c s).rams = s.rams := by
  refine (issueCmd_rams _ _ _ _).trans ((issueCmd_rams _ _ _ _).trans (onDdr_rams c _ s ?_))
  intro _; rfl

/-- askSpeed keeps them. -/
theorem askSpeed_rams (c : Nat) (derate : Bool) (s : State) : (askSpeed c derate s).rams = s.rams := by
  have h : ∀ v, (onDdr c (fun d => { d with derateDue := v }) s).rams = s.rams := fun v => onDdr_rams c _ s (fun _ => rfl)
  unfold askSpeed
  dsimp only
  split
  · rfl
  · split
    · split
      · rfl
      · exact beginSpeed_rams c s
    · exact h _

/-- startRecovery keeps them. -/
theorem startRecovery_rams (c : Nat) (auto : Bool) (fn : Option Nat) (s : State) : (startRecovery c auto fn s).rams = s.rams := by
  refine onDdr_rams c _ s ?_
  intro _; rfl

/-- endRecovery keeps them. -/
theorem endRecovery_rams (c : Nat) (st : Status) (s : State) : (endRecovery c st s).rams = s.rams := by
  refine (finishOpt_rams _ _ _ _ _).trans (onDdr_rams c _ s ?_)
  intro _; rfl

/-- failDram keeps them. -/
theorem failDram_rams (c : Nat) (s : State) : (failDram c s).rams = s.rams := by
  refine onDdr_rams c _ s ?_
  intro _; rfl

/-- execDramConfig keeps them. -/
theorem execDramConfig_rams (rq : Req) (s : State) : Keptrams s (execDramConfig rq s) := by
  unfold execDramConfig
  refine serve_rams _ _ (fun s => ?_) s
  dsimp only
  split
  · trivial
  · split
    · trivial
    · split
      · exact onDdr_rams _ _ s (by intro _; rfl)
      · exact onDdr_rams _ _ s (by intro _; rfl)

/-- execDramRecover keeps them. -/
theorem execDramRecover_rams (rq : Req) (s : State) : Keptrams s (execDramRecover rq s) := by
  unfold execDramRecover
  refine serve_rams _ _ (fun s => ?_) s
  simp only [startRecovery_rams, rams_ite, foldl_rams, ite_self, keptrams_ite, keepsrams_ite, keptrams_next, keepsrams_ok, keepsrams_err, keepsrams_failed, keepsrams_later]

/-- countDram keeps them. -/
theorem countDram_rams (client : DramClient) (write : Bool) (addr : Nat) (s : State) : (countDram client write addr s).rams = s.rams := by
  exact rams_of_view (countDram_view (M := 67108864) rfl client write addr s) rfl

/-- execSrIdleExpiry keeps them. -/
theorem execSrIdleExpiry_rams (c : Fin 2) (s : State) : Keptrams s (execSrIdleExpiry c s) := by
  unfold execSrIdleExpiry
  dsimp only
  split
  · exact keptrams_next.mpr rfl
  · refine keptrams_next.mpr ((issueCmd_rams _ _ _ _).trans ((issueCmd_rams _ _ _ _).trans (onDdr_rams c.val _ s ?_)))
    intro _; rfl

/-- execSrEntryDone keeps them. -/
theorem execSrEntryDone_rams (c : Fin 2) (s : State) : Keptrams s (execSrEntryDone c s) := by
  unfold execSrEntryDone
  dsimp only
  have h1 : (onDdr c.val (fun d => { d with srEntering := false, srEntries := bump (s.ddrAt c.val).srEntries }) s).rams = s.rams :=
    onDdr_rams c.val _ s (fun _ => rfl)
  split
  · exact keptrams_next.mpr rfl
  · split
    · refine keptrams_next.mpr ((onDdr_rams c.val _ _ ?_).trans h1)
      intro _; rfl
    · split
      · exact keptrams_next.mpr h1
      · rw [keptrams_next, rams_ite, beginExit_rams, ite_self]
        refine (onDdr_rams c.val _ _ ?_).trans h1
        intro _; rfl

/-- execRefresh keeps them. -/
theorem execRefresh_rams (c : Fin 2) (s : State) : Keptrams s (execRefresh c s) := by
  unfold execRefresh
  simp only [issueCmd_rams, rams_ite, foldl_rams, ite_self, keptrams_ite, keepsrams_ite, keptrams_next, keepsrams_ok, keepsrams_err, keepsrams_failed, keepsrams_later]

/-- execMr4Read keeps them. -/
theorem execMr4Read_rams (c : Fin 2) (hottest : Int) (aboveRated : Bool) (corrected : Nat) (s : State) : Keptrams s (execMr4Read c hottest aboveRated corrected s) := by
  unfold execMr4Read
  dsimp only
  split
  · exact keptrams_next.mpr rfl
  · rw [keptrams_next, rams_ite, dramEvent_rams, ite_self]
    refine (issueCmd_rams _ _ _ _).trans (onDdr_rams c.val _ s ?_)
    intro _; rfl

/-- execDriftUpdate keeps them. -/
theorem execDriftUpdate_rams (c : Fin 2) (s : State) : Keptrams s (execDriftUpdate c s) := by
  unfold execDriftUpdate
  dsimp only
  split
  · exact keptrams_next.mpr (issueCmd_rams _ _ _ _)
  · split
    · refine keptrams_next.mpr (onDdr_rams c.val _ s ?_)
      intro _; rfl
    · exact keptrams_next.mpr rfl

/-- execAutoRecoverExpiry keeps them. -/
theorem execAutoRecoverExpiry_rams (c : Fin 2) (s : State) : Keptrams s (execAutoRecoverExpiry c s) := by
  unfold execAutoRecoverExpiry
  simp only [startRecovery_rams, rams_ite, foldl_rams, ite_self, keptrams_ite, keepsrams_ite, keptrams_next, keepsrams_ok, keepsrams_err, keepsrams_failed, keepsrams_later]

/-- onPh keeps them. -/
theorem onPh_rams (f : Ph → Ph) (s : State) : (onPh f s).rams = s.rams := by
  exact rams_of_view (onPh_view (M := 524288) rfl f s) rfl

/-- restartPumphouse keeps them. -/
theorem restartPumphouse_rams (s : State) : (restartPumphouse s).rams = s.rams := by
  exact rams_of_view (restartPumphouse_view (M := 152567808) rfl s) rfl

/-- onSump keeps them. -/
theorem onSump_rams (g : Sump → Sump) (s : State) : (onSump g s).rams = s.rams := by
  exact rams_of_view (onSump_view (M := 16777216) rfl g s) rfl

/-- resetBlock keeps them. -/
theorem resetBlock_rams (src unit : Nat) (s : State) : (resetBlock src unit s).rams = s.rams := by
  simp only [resetBlock, disableLink_rams, enableLink_rams, pcsReset_rams, relinkBay_rams, restartPumphouse_rams, startRecovery_rams, rams_ite, foldl_rams, ite_self]

/-- stopLane keeps them. -/
theorem stopLane_rams (l : Nat) (s : State) : (stopLane l s).rams = s.rams := by
  exact rams_of_view (stopLane_view (M := 17518559232) rfl l s) rfl

/-- onPwr keeps them. -/
theorem onPwr_rams (g : Pwr → Pwr) (s : State) : (onPwr g s).rams = s.rams := by
  exact rams_of_view (onPwr_view (M := 33554432) rfl g s) rfl

/-- blockOff keeps them. -/
theorem blockOff_rams (d : Nat) (s : State) : (blockOff d s).rams = s.rams := by
  have h : ∀ c, (flushRequests c (issueCmd c .sre 0 (issueCmd c .preAll 0
      (onDdr c (fun x => { x with st := 7, srEntering := false, srExiting := false }) s)))).rams = s.rams := by
    intro c
    refine (flushRequests_rams _ _).trans ((issueCmd_rams _ _ _ _).trans ((issueCmd_rams _ _ _ _).trans (onDdr_rams c _ s ?_)))
    intro _; rfl
  have f : ∀ u : State, ((List.range 4).foldl (fun s i => stopLane (64 + 4 * (d - 64) + i) s) u).rams = u.rams :=
    fun u => foldl_rams (fun s i => stopLane_rams _ s) _ u
  unfold blockOff
  dsimp only
  repeat' split
  · exact (stopLane_rams _ _).trans (onPort_rams _ _ _)
  · exact (f _).trans (disableLink_rams _ _)
  · exact onEngine_rams _ _ _
  · rfl
  · exact onStrn_rams _ _
  · exact onWeir_rams _ _
  · rfl
  · exact h _
  · exact onLedg_rams _ _
  · exact engineDown_rams _ _
  · exact (shtlGo_rams _).trans (abortOps_rams _ _)
  · rfl

/-- guarBack keeps them. -/
theorem guarBack_rams (s : State) : (guarBack s).rams = s.rams := by
  exact rams_of_view (guarBack_view (M := 1024) rfl s) rfl

/-- switchOff keeps them. -/
theorem switchOff_rams (d : Nat) (s : State) : (switchOff d s).rams = s.rams := by
  unfold switchOff
  repeat' (first | with_reducible rfl | simp only [blockOff_rams, onPwr_rams, rams_ite, foldl_rams, ite_self] | split | refine (foldl_rams (fun s a => ?_) _ _).trans ?_ | (rename_i e; rw [fst_rams e]) | (rename_i e _; rw [fst_rams e]) | (rename_i e _ _; rw [fst_rams e]))

/-- bistFails keeps them. -/
theorem bistFails_rams (s : State) : (bistFails s).rams = s.rams := by
  exact rams_of_view (bistFails_view (M := 16777216) rfl s) rfl

/-- blockFails keeps them. -/
theorem blockFails_rams (d : Nat) (s : State) : (blockFails d s).rams = s.rams := by
  exact rams_of_view (blockFails_view (M := 17266998432) rfl d s) rfl

/-- beginOff keeps them. -/
theorem beginOff_rams (d : Nat) (s : State) : (beginOff d s).rams = s.rams := by
  exact rams_of_view (beginOff_view (M := 16778240) rfl d s) rfl

/-- stopAppending keeps them. -/
theorem stopAppending_rams (s : State) : (stopAppending s).rams = s.rams := by
  exact rams_of_view (stopAppending_view (M := 17247174656) rfl s) rfl

/-- gaspOff keeps them. -/
theorem gaspOff_rams (s : State) : (gaspOff s).rams = s.rams := by
  unfold gaspOff
  repeat' (first | with_reducible rfl | simp only [onPh_rams, switchOff_rams, rams_ite, foldl_rams, ite_self] | split | refine (foldl_rams (fun s a => ?_) _ _).trans ?_ | (rename_i e; rw [fst_rams e]) | (rename_i e _; rw [fst_rams e]) | (rename_i e _ _; rw [fst_rams e]))

/-- endSwitch keeps them. -/
theorem endSwitch_rams (d : Nat) (fn : Option Nat) (st : Status) (s : State) : (endSwitch d fn st s).rams = s.rams := by
  exact rams_of_view (endSwitch_view (M := 17283678208) rfl d fn st s) rfl

/-- execTestMbist keeps them. -/
theorem execTestMbist_rams (rq : Req) (s : State) : Keptrams s (execTestMbist rq s) := by
  unfold execTestMbist
  refine serve_rams _ _ (fun s => ?_) s
  simp only [beginOff_rams, onPwr_rams, switchOff_rams, rams_ite, foldl_rams, ite_self, keptrams_ite, keepsrams_ite, keptrams_next, keepsrams_ok, keepsrams_err, keepsrams_failed, keepsrams_later]

/-- trainChannel keeps them. -/
theorem trainChannel_rams (c gib : Nat) (speed : Option (Fin 3)) (s : State) : (trainChannel c gib speed s).rams = s.rams := by
  unfold trainChannel
  split
  · rfl
  · split
    · exact onDdr_rams c _ s (by intro _; rfl)
    · exact (dramEvent_rams _ _ _ _ _).trans (onDdr_rams c _ s (by intro _; rfl))

/-- readBoard keeps them. -/
theorem readBoard_rams (s : State) : (readBoard s).rams = s.rams := by
  exact rams_of_view (readBoard_view (M := 17301504) rfl s) rfl

/-- placeRegions keeps them. -/
theorem placeRegions_rams (s : State) : (placeRegions s).rams = s.rams := by
  exact rams_of_view (placeRegions_view (M := 589824) rfl s) rfl

/-- bootVolt keeps them. -/
theorem bootVolt_rams (bad : List (Fin 7)) (s : State) : (bootVolt bad s).rams = s.rams := by
  exact rams_of_view (bootVolt_view (M := 17196646404) rfl bad s) rfl

/-- calibrateAll keeps them. -/
theorem calibrateAll_rams (s : State) : (calibrateAll s).rams = s.rams := by
  exact rams_of_view (calibrateAll_view (M := 4112) rfl s) rfl

/-- startGuard keeps them. -/
theorem startGuard_rams (s : State) : (startGuard s).rams = s.rams := by
  exact rams_of_view (startGuard_view (M := 4) rfl s) rfl

/-- coldStart keeps them. -/
theorem coldStart_rams (train : TrainRes) (s : State) : (coldStart train s).rams = s.rams := by
  simp only [coldStart, bootVolt_rams, calibrateAll_rams, onFab_rams, placeRegions_rams, readBoard_rams, standAlone_rams, startGuard_rams, trainChannel_rams, rams_ite, foldl_rams, ite_self]

/-- setReady keeps them. -/
theorem setReady_rams (s : State) : (setReady s).rams = s.rams := by
  exact rams_of_view (setReady_view (M := 38404096) rfl s) rfl

/-- execStartupComplete keeps them. -/
theorem execStartupComplete_rams (train : TrainRes) (s : State) : Keptrams s (execStartupComplete train s) := by
  unfold execStartupComplete
  simp only [coldStart_rams, postAll_rams, setReady_rams, rams_ite, foldl_rams, ite_self, keptrams_ite, keepsrams_ite, keptrams_next, keepsrams_ok, keepsrams_err, keepsrams_failed, keepsrams_later]

/-- execAppendingStop keeps them. -/
theorem execAppendingStop_rams (s : State) : Keptrams s (execAppendingStop s) := by
  unfold execAppendingStop
  simp only [gaspOff_rams, stopAppending_rams, rams_ite, foldl_rams, ite_self, keptrams_ite, keepsrams_ite, keptrams_next, keepsrams_ok, keepsrams_err, keepsrams_failed, keepsrams_later]

/-- execBlockReset keeps them. -/
theorem execBlockReset_rams (s : State) : Keptrams s (execBlockReset s) := by
  unfold execBlockReset
  (try simp only [onSump_rams, resetBlock_rams, rams_ite, foldl_rams, ite_self, keptrams_ite, keepsrams_ite, keptrams_next, keepsrams_ok, keepsrams_err, keepsrams_failed, keepsrams_later]) <;> (repeat' split) <;> (try simp only [onSump_rams, resetBlock_rams, rams_ite, foldl_rams, ite_self, keptrams_ite, keepsrams_ite, keptrams_next, keepsrams_ok, keepsrams_err, keepsrams_failed, keepsrams_later]) <;> (repeat' split) <;> (try simp only [onSump_rams, resetBlock_rams, rams_ite, foldl_rams, ite_self, keptrams_ite, keepsrams_ite, keptrams_next, keepsrams_ok, keepsrams_err, keepsrams_failed, keepsrams_later])

/-- warnAside keeps them. -/
theorem warnAside_rams (before : BitVec 16) (s : State) : (warnAside before s).rams = s.rams := by
  exact rams_of_view (warnAside_view (M := 16777216) rfl before s) rfl

/-- warnLimits keeps them. -/
theorem warnLimits_rams (s : State) : (warnLimits s).rams = s.rams := by
  exact rams_of_view (warnLimits_view (M := 1090519040) rfl s) rfl

/-- tripLimits keeps them. -/
theorem tripLimits_rams (s : State) : (tripLimits s).rams = s.rams := by
  exact rams_of_view (tripLimits_view (M := 1090519040) rfl s) rfl

/-- derateDram keeps them. -/
theorem derateDram_rams (s : State) : (derateDram s).rams = s.rams := by
  unfold derateDram
  repeat' (first | with_reducible rfl | simp only [askSpeed_rams, rams_ite, foldl_rams, ite_self] | split | refine (foldl_rams (fun s a => ?_) _ _).trans ?_ | (rename_i e; rw [fst_rams e]) | (rename_i e _; rw [fst_rams e]) | (rename_i e _ _; rw [fst_rams e]))

/-- execSensorReading keeps them. -/
theorem execSensorReading_rams (temps : List Int) (s : State) : Keptrams s (execSensorReading temps s) := by
  unfold execSensorReading
  simp only [derateDram_rams, tripLimits_rams, warnAside_rams, warnLimits_rams, rams_therm, rams_ite, foldl_rams, ite_self, keptrams_ite, keepsrams_ite, keptrams_next, keepsrams_ok, keepsrams_err, keepsrams_failed, keepsrams_later]

end Sys2Proof.Machine
end

