-- ==== Sys2Proof/Laws/KeepTick.lean ====
section
/-! SUPPORT. What the operations of Machine/Tick.lean may change: one lemma for each. -/

namespace Sys2Proof.Machine

/-- tick may change: tide, pmon, trace. -/
theorem tick_view {M : Nat} (hM : 201326594 ||| M = M) (s : State) :
    (tick s).view M = s.view M := by
  refine view_le hM ?_
  simp only [tick, count_view, onTrace_view, view_tide, view_ite, foldl_view, ite_self, Nat.reduceOr]

end Sys2Proof.Machine
end

