-- ==== Sys2Proof/Laws/KeepStep.lean ====
section
/-! SUPPORT. What the operations of Machine/Step.lean may change: one lemma for each. -/

namespace Sys2Proof.Machine

/-- State.withFetchWord may change: pending. -/
theorem State.withFetchWord_view {M : Nat} (hM : 68719476736 ||| M = M) (s : State) (nbits w : Nat) :
    (State.withFetchWord s nbits w).view M = s.view M := by
  refine view_le hM ?_
  unfold State.withFetchWord
  (try simp only [view_pending, view_ite, foldl_view, ite_self, Nat.reduceOr]) <;> (repeat' split) <;> (try simp only [view_pending, view_ite, foldl_view, ite_self, Nat.reduceOr]) <;> (repeat' split) <;> (try simp only [view_pending, view_ite, foldl_view, ite_self, Nat.reduceOr])

end Sys2Proof.Machine
end

