-- ==== Sys2Proof/Laws/Machine.lean ====
section
/-! SUPPORT. What holds of a step as a whole: the parts a command leaves alone, how a request is received, how a mailbox is answered, and what a
chip reset keeps. -/

namespace Sys2Proof.Machine

/-! ### Parts -/

/-- Every part. -/
def Part.all : List Part :=
  [.glb, .tide, .guard, .port, .quad, .frames, .nextFrame, .pump, .strn, .fwd, .rsv, .weir, .xl, .fab, .shtl, .rdma, .ledg, .cist, .ddr, .ph, .mbx,
   .msix, .fuse, .host, .sump, .pwr, .pmon, .trace, .lane, .tap, .therm, .latch, .pcieDown, .vfEnable, .out, .free, .pending]

/-- It is every part. -/
theorem Part.mem_all (p : Part) : p ∈ Part.all := by cases p <;> simp [Part.all]

/-- A list of parts covers a mask. -/
def covers (ps : List Part) (M : Nat) : Bool := Part.all.all (fun p => ps.contains p || !M.testBit p.place)

/-- What it says of each part. -/
theorem of_covers {ps : List Part} {M : Nat} (h : covers ps M = true) (p : Part) : p ∈ ps ∨ M.testBit p.place = false := by
  have := List.all_eq_true.mp h p (Part.mem_all p)
  simpa using this

/-- States whose views agree outside a mask differ only in the parts that cover it. -/
theorem changesOnly_of_covers {s t : State} {M : Nat} {ps : List Part} (h : t.view M = s.view M) (b : covers ps M = true) : ChangesOnly ps s t :=
  changesOnly_of_view h (of_covers b)

/-- A command's next state differs only in parts that cover its footprint. -/
theorem changesOnly_exec {i : Instr} {s t : State} {ps : List Part} (hx : exec i s = .next t) (b : covers ps (footprint i) = true) :
    ChangesOnly ps s t :=
  changesOnly_of_covers ((exec_kept i s).agrees t hx) b

/-! ### The mailboxes -/

/-- A count changes no mailbox. -/
theorem mbxAt_count (e : Nat) (o : Occ) (n : Nat) (s : State) (g : Nat) : (count e o n s).mbxAt g = s.mbxAt g := by
  rw [State.mbxAt, same_mbx (count_view (M := 67108864) rfl e o n s) rfl]; rfl

/-- An access counted changes no mailbox. -/
theorem mbxAt_mmio (fn : Nat) (s : State) (g : Nat) : (mmio fn s).mbxAt g = s.mbxAt g := by
  rw [State.mbxAt, same_mbx (mmio_view (M := 67108864) rfl fn s) rfl]; rfl

/-- A message changes no mailbox. -/
theorem mbxAt_sendMsix (a b : Nat) (s : State) (g : Nat) : (sendMsix a b s).mbxAt g = s.mbxAt g := by
  rw [State.mbxAt, same_mbx (sendMsix_view (M := 17181966336) rfl a b s) rfl]; rfl

/-- An event posted leaves the response area and its bits alone. -/
theorem Mbx.post_response (m : Mbx) (code st : Nat) (d : List Byte) :
    (m.post code st d).busy = m.busy ∧ (m.post code st d).respValid = m.respValid ∧ (m.post code st d).resp = m.resp := by
  unfold Mbx.post
  dsimp only
  split
  · exact ⟨rfl, rfl, rfl⟩
  · have h : ∀ x : Mbx, x.busy = m.busy ∧ x.respValid = m.respValid ∧ x.resp = m.resp →
        (if x.ringFull then { x with evtLost := x.evtLost + 1, lostSince := x.lostSince + 1 } else x.push code st d).busy = m.busy
        ∧ (if x.ringFull then { x with evtLost := x.evtLost + 1, lostSince := x.lostSince + 1 } else x.push code st d).respValid = m.respValid
        ∧ (if x.ringFull then { x with evtLost := x.evtLost + 1, lostSince := x.lostSince + 1 } else x.push code st d).resp = m.resp := by
      intro x hx
      split <;> exact hx
    refine h _ ?_
    split <;> exact ⟨rfl, rfl, rfl⟩

/-- The mailboxes after an event is posted. -/
theorem mbxAt_postEvent (fn code : Nat) (d : List Byte) (s : State) (g : Nat) : ∃ b, (postEvent fn code d s).mbxAt g
    = if g = fn then { (s.mbxAt fn).post code s.stamp d with msgSent := b } else s.mbxAt g := by
  unfold postEvent
  dsimp only
  split
  · exact ⟨((s.mbxAt fn).post code s.stamp d).msgSent, mbxAt_setMbx ..⟩
  · exact ⟨true, (mbxAt_sendMsix ..).trans (mbxAt_setMbx ..)⟩

/-- The mailbox that is answered, before MBX_DONE. -/
def answered (fn : Nat) (st : Status) (fl : Nat) (p : List Byte) (s : State) : Mbx :=
  { s.mbxAt fn with resp := respBytes (s.mbxAt fn).reqOp.toNat (statusCode st) fl (s.mbxAt fn).reqSeq p, respValid := true, busy := false }

/-- The detail of MBX_DONE. -/
def doneDetail (fn : Nat) (st : Status) (s : State) : List Byte := leBytes 4 (s.mbxAt fn).reqSeq.toNat ++ [BitVec.ofNat 8 (statusCode st)]

/-- The mailboxes after an answer. -/
theorem mbxAt_respond (fn : Nat) (st : Status) (fl : Nat) (p : List Byte) (s : State) (g : Nat) :
    ∃ b, (respond fn st fl p s).mbxAt g = if g = fn then
        (if (s.mbxAt fn).reqNotify then { (answered fn st fl p s).post 0x0101 s.stamp (doneDetail fn st s) with msgSent := b } else answered fn st fl p s)
      else s.mbxAt g := by
  unfold respond
  dsimp only
  have stm : ∀ (o : Occ) (u : State), (count 0x0091 o 1 u).stamp = u.stamp := fun o u => by
    unfold State.stamp; rw [same_tide (count_view (M := 67108864) rfl _ _ _ _) rfl]
  by_cases hn : (s.mbxAt fn).reqNotify = true
  · rw [if_pos hn]
    obtain ⟨b, e⟩ := mbxAt_postEvent fn 0x0101 (doneDetail fn st s) (count 0x0091 { fnOcc fn with cls := some (statusCode st) } 1
      (s.setMbx fn (answered fn st fl p s))) g
    refine ⟨b, e.trans ?_⟩
    rw [if_pos hn, mbxAt_count, mbxAt_count, mbxAt_setMbx, mbxAt_setMbx, stm, if_pos rfl]
    by_cases hg : g = fn
    · rw [if_pos hg, if_pos hg]; rfl
    · rw [if_neg hg, if_neg hg, if_neg hg]
  · refine ⟨false, ?_⟩
    rw [if_neg hn, if_neg hn, mbxAt_count, mbxAt_setMbx]
    rfl

/-- The mailboxes after a doorbell is taken. -/
theorem mbxAt_accept (rq : Req) (code : Nat) (s : State) (g : Nat) : (accept rq code s).mbxAt g
    = if g = rq.fn.val then { s.mbxAt rq.fn.val with
        busy := true, respValid := false, reqOp := BitVec.ofNat 16 code, reqSeq := rq.seq, reqNotify := rq.flags.getLsbD 0,
        reqArea := Tab.putAll 0 (s.mbxAt rq.fn.val).reqArea 0 ((leBytes 2 code ++ [rq.flags, 0] ++ leBytes 4 rq.seq.toNat
          ++ leBytes 4 rq.length.toNat ++ zeros 4) ++ rq.payload) }
      else s.mbxAt g :=
  (mbxAt_count _ _ _ _ g).trans ((mbxAt_mmio _ _ g).trans (mbxAt_setMbx _ _ _ g))

/-! ### How a request is received -/

/-- The four ways a request ends before its command runs. -/
theorem serve_order (c : CmdSpec) (rq : Req) (body : State → Reply) (s : State) :
    (s.takesDoorbell rq.fn.val = false → serve c rq body s = s)
    ∧ (s.takesDoorbell rq.fn.val = true → (s.mbxAt rq.fn.val).busy = true → serve c rq body s = overrun rq.fn.val s)
    ∧ (s.takesDoorbell rq.fn.val = true → (s.mbxAt rq.fn.val).busy = false → c.isPing rq = true →
      serve c rq body s = respond rq.fn.val .ok 1 (pingPayload rq.fn.val (accept rq c.code s)) (accept rq c.code s))
    ∧ (∀ st, s.takesDoorbell rq.fn.val = true → (s.mbxAt rq.fn.val).busy = false → c.isPing rq = false →
      c.reject rq (accept rq c.code s) = some st → serve c rq body s = respond rq.fn.val st 0 [] (accept rq c.code s)) := by
  refine ⟨fun a => ?_, fun a b => ?_, fun a b e => ?_, fun st a b e f => ?_⟩
  · simp [serve, a]
  · simp [serve, a, b]
  · simp [serve, dispatch, a, b, e]
  · simp [serve, dispatch, a, b, e, f]

/-- Bytes of a number. -/
theorem length_leBytes (n v : Nat) : (leBytes n v).length = n := by
  induction n generalizing v with
  | zero => rfl
  | succ n ih => simp [leBytes, ih]

/-- A run of a table. -/
theorem Tab.length_run {α : Type} (d : α) (t : Tab α) (k n : Nat) : (Tab.run d t k n).length = n := by
  induction n generalizing k with
  | zero => rfl
  | succ n ih => simp [Tab.run, ih]

/-- The ping payload has 16 bytes (18_pumphouse.md Table 18.7). -/
theorem length_pingPayload (fn : Nat) (s : State) : (pingPayload fn s).length = 16 := by
  have : (roleBytes (s.role fn)).length = 2 := by cases s.role fn <;> rfl
  simp only [pingPayload, List.length_append, State.flashRun, Tab.length_run, length_leBytes, this, List.length_cons, List.length_nil]

/-- A byte of a request. -/
theorem Req.u8_lt (rq : Req) (i : Nat) : rq.u8 i < 256 := (rq.payload.getD i 0).isLt

/-- A number that bytes spell. -/
theorem leNat_lt (l : List Byte) : leNat l < 256 ^ l.length := by
  induction l with
  | nil => decide
  | cons b l ih =>
    have := b.isLt
    simp only [leNat, List.length_cons, Nat.pow_succ]
    omega

/-- A slice has its length. -/
theorem length_sliceBytes (bs : List Byte) (off n : Nat) : (sliceBytes bs off n).length = n := by
  simp only [sliceBytes, zeros, List.length_append, List.length_take, List.length_drop, List.length_replicate]
  omega

/-- A field of two bytes. -/
theorem Req.u16_lt (rq : Req) (i : Nat) : rq.u16 i < 65536 := by
  have := leNat_lt (sliceBytes rq.payload i 2)
  rw [length_sliceBytes] at this
  exact this

/-! ### The chip reset -/

/-- A chip reset before a PTP-steered servo loses its source. -/
def preReset (cause : BitVec 3) (s : State) : State := onTrace (fun t => t.idleIn 2 s.stamp) { State.reset with
    tide := s.tide.afterChip, sump := s.sump.afterChip, trace := s.trace, pwr := s.pwr.afterChip cause,
    guard := { vcode := s.guard.vcode }, ph := { restarts := s.ph.restarts }, fuse := s.fuse, cist := { bay := s.cist.afterReset },
    tap := s.tap, therm := s.therm.afterChip, out := s.out, free := s.free, pending := s.pending }

/-- A chip reset is that with the loss. -/
theorem resetChip_eq (c : BitVec 3) (s : State) : resetChip c s = losePtp (preReset c s) := rfl

/-- Its view but for what the loss changes. -/
theorem resetChip_preView (c : BitVec 3) (s : State) : (resetChip c s).view 17263951874 = (preReset c s).view 17263951874 := losePtp_view rfl _

end Sys2Proof.Machine
end

