-- ==== Sys2Proof/Laws/Rams.lean ====
section
/-! SUPPORT. What changes the content of a DRAM channel keeps it in canonical form, and its poison list within 16 entries (17_dram.md R389). -/

namespace Sys2Proof.Machine

/-- Soundness is a matter of these two. -/
theorem dramSound_of {s t : State} (h : t.rams = s.rams) (k : DramSound s) : DramSound t := by
  intro c
  have e : (t.ddrAt c).key = (s.ddrAt c).key := congrFun h c
  simp only [Ddr.key, Prod.mk.injEq] at e
  rw [Ddr.Sound, e.1, e.2]
  exact k c

/-- An outcome's next state has sound channels. -/
def DramAfter (o : Result) : Prop := ∀ t, o = .next t → DramSound t

/-- A next state. -/
theorem dramAfter_next {t : State} (h : DramSound t) : DramAfter (.next t) := fun _ e => by cases e; exact h

/-- An outcome that keeps the channels. -/
theorem dramAfter_of {s : State} {o : Result} (h : Keptrams s o) (k : DramSound s) : DramAfter o :=
  fun t e => dramSound_of (h.agrees t e) k

/-- A channel changed to a sound one. -/
theorem onDdr_sound {n : Nat} {g : Ddr → Ddr} {s : State} (h : ∀ d : Ddr, d.Sound → (g d).Sound) (k : DramSound s) : DramSound (onDdr n g s) := by
  intro c
  unfold onDdr State.setDdr State.ddrAt
  rw [Tab.look_put]
  split
  · exact h _ (k n)
  · exact k c

/-- A list after a filter is no longer than before. -/
theorem length_filter {α : Type} (p : α → Bool) (l : List α) {n : Nat} (h : l.length ≤ n) : (l.filter p).length ≤ n :=
  Nat.le_trans (List.length_filter_le p l) h

/-- A store keeps the channels sound. -/
theorem storeDram_sound {c addr : Nat} {data : List Byte} {s : State} (k : DramSound s) : DramSound (storeDram c addr data s) := by
  refine onDdr_sound (fun d h => ⟨Tab.wf_putAll 0 data d.mem _ h.1, ?_⟩) k
  dsimp only
  split
  · exact length_filter _ _ h.2
  · exact h.2

/-- Losing the content keeps the channels sound. -/
theorem loseContent_sound {c : Nat} {s : State} (k : DramSound s) : DramSound (loseContent c s) := by
  have h : DramSound (loseShadows c (onDdr c (fun d => { d with mem := [] }) s)) :=
    dramSound_of (rams_of_view (loseShadows_view (M := 512) rfl c _) rfl) (onDdr_sound (fun d h => ⟨rfl, h.2⟩) k)
  unfold loseContent
  dsimp only
  split
  · exact dramSound_of (rams_of_view (loseStaged_view (M := 17275551617) rfl _) rfl) h
  · exact h

/-- An access keeps the channels sound. -/
theorem accessDram_sound {c : Nat} {q : DdrReq} {s : State} (k : DramSound s) : DramSound (accessDram c q s) := by
  have k1 : DramSound (issueAccess c q.write (q.addr.toNat - dramBase c) s) := dramSound_of (issueAccess_rams _ _ _ _) k
  have st : ∀ u, DramSound u → DramSound (if q.write then storeDram c q.addr.toNat q.data u else u) := by
    intro u ku
    split
    · exact storeDram_sound ku
    · exact ku
  unfold accessDram
  dsimp only
  split
  · exact st _ k1
  · exact st _ (dramSound_of (correctableErr_rams _ _ _) k1)
  · split
    · exact st _ k1
    · exact dramSound_of (freezeDram_rams _ _ _ _ _ _ _) k1
  · exact dramSound_of (freezeDram_rams _ _ _ _ _ _ _) k1
  · split
    · refine dramSound_of (freezeDram_rams _ _ _ _ _ _ _) (dramSound_of (onDdr_rams c _ _ ?_) k1)
      intro _; rfl
    · exact k1

/-- A request keeps the channels sound. -/
theorem issueRequest_sound {c : Nat} {q : DdrReq} {s : State} (k : DramSound s) : DramSound (issueRequest c q s) := by
  unfold issueRequest
  dsimp only
  split
  · exact dramSound_of (finishOpt_rams _ _ _ _ _) k
  · split
    · exact dramSound_of (finishOpt_rams _ _ _ _ _) (accessDram_sound k)
    · exact dramSound_of ((finishOpt_rams _ _ _ _ _).trans (drawn_rams _)) (accessDram_sound k)

/-- Steps over a list keep the channels sound. -/
theorem foldl_sound {α : Type} {g : State → α → State} (h : ∀ s a, DramSound s → DramSound (g s a)) (l : List α) {s : State} (k : DramSound s) :
    DramSound (l.foldl g s) := by
  induction l generalizing s with
  | nil => exact k
  | cons a l ih => exact ih (h s a k)

/-- The requests that waited keep the channels sound. -/
theorem issueQueue_sound {c : Nat} {s : State} (k : DramSound s) : DramSound (issueQueue c s) := by
  refine foldl_sound (fun _ _ h => issueRequest_sound h) _ (onDdr_sound (fun d h => ?_) k)
  exact h

/-- A channel that comes up keeps the channels sound. -/
theorem resumeDram_sound {c : Nat} {s : State} (k : DramSound s) : DramSound (resumeDram c s) := by
  have k1 : DramSound (takeConfig c (onDdr c (fun d => { d with st := 2, srExiting := false, srEntering := false }) s)) :=
    dramSound_of (takeConfig_rams _ _) (onDdr_sound (fun d h => h) k)
  unfold resumeDram
  dsimp only
  split
  · exact dramSound_of (beginSpeed_rams _ _) k1
  · exact issueQueue_sound (onDdr_sound (fun d h => h) k1)

/-- Either of two. -/
theorem dramSound_ite {c : Prop} [Decidable c] {a b : State} (ha : DramSound a) (hb : DramSound b) : DramSound (if c then a else b) := by
  split
  · exact ha
  · exact hb

/-- A block that comes up keeps the channels sound. -/
theorem blockOn_sound {d : Nat} {s : State} (k : DramSound s) : DramSound (blockOn d s) := by
  have r : DramSound (resumeDram (d - 136) (issueCmd (d - 136) .mrr 0 (issueCmd (d - 136) .srx 0 s))) :=
    resumeDram_sound (dramSound_of ((issueCmd_rams _ _ _ _).trans (issueCmd_rams _ _ _ _)) k)
  have h : ∀ t : State, t.rams = s.rams → DramSound t := fun t e => dramSound_of e k
  unfold blockOn
  dsimp only
  refine dramSound_ite k (dramSound_ite (h _ ((onXl_rams _ _ _).trans (enableLink_rams _ _))) (dramSound_ite
    (h _ ((onEngine_rams _ _ _).trans (loadEngine_rams _ _))) (dramSound_ite (h _ ((guarBack_rams _).trans (onRsv_rams _ _)))
    (dramSound_ite k (dramSound_ite (dramSound_ite (h _ (onStrn_rams _ _)) k) (dramSound_ite (dramSound_ite (h _ (onWeir_rams _ _)) k)
    (dramSound_ite (dramSound_ite r k) (dramSound_ite (dramSound_ite (h _ (onLedg_rams _ _)) k)
    (dramSound_ite (dramSound_ite (h _ (onRdma_rams _ _)) k) k)))))))))

/-- A domain that comes up keeps the channels sound. -/
theorem switchOn_sound {d : Nat} {s : State} (k : DramSound s) : DramSound (switchOn d s) :=
  blockOn_sound (dramSound_of (onPwr_rams _ _) k)

/-- A test that ends keeps the channels sound. -/
theorem endBist_sound {d fn : Nat} {ok : Bool} {m : BitVec 16} {s : State} (k : DramSound s) : DramSound (endBist d fn ok m s) := by
  have k2 : DramSound (if (onPwr (fun p => { p with bist := p.bist.filter (fun e => e.1 != d) }) s).domainOn d
      then switchOff d (onPwr (fun p => { p with bist := p.bist.filter (fun e => e.1 != d) }) s)
      else onPwr (fun p => { p with bist := p.bist.filter (fun e => e.1 != d) }) s) := by
    split
    · exact dramSound_of ((switchOff_rams _ _).trans (onPwr_rams _ _)) k
    · exact dramSound_of (onPwr_rams _ _) k
  unfold endBist
  dsimp only
  split
  · exact dramSound_of (finish_rams _ _ _ _ _) (switchOn_sound k2)
  · exact dramSound_of ((finish_rams _ _ _ _ _).trans ((blockFails_rams _ _).trans (bistFails_rams _))) k2

/-- DOMAIN_SWITCH_DONE. -/
theorem execDomainSwitchDone_dram (d : Fin 144) (bistOk : Bool) (failMem : BitVec 16) {s : State} (k : DramSound s) :
    DramAfter (execDomainSwitchDone d bistOk failMem s) := by
  unfold execDomainSwitchDone
  split
  · refine dramAfter_next ?_
    split
    · exact dramSound_of ((endSwitch_rams _ _ _ _).trans (switchOff_rams _ _)) k
    · exact k
  · refine dramAfter_next ?_
    split
    · exact dramSound_of (endSwitch_rams _ _ _ _) (switchOn_sound k)
    · exact dramSound_of ((endSwitch_rams _ _ _ _).trans (bistFails_rams _)) k
  · refine dramAfter_next ?_
    split
    · exact endBist_sound k
    · exact k
  · exact dramAfter_next k

/-- A reply's state has sound channels. -/
def Reply.DramOk : Reply → Prop
  | .ok t _ => DramSound t
  | .err _ => True
  | .failed t _ _ => DramSound t
  | .later t => DramSound t

/-- A mailbox command keeps the channels sound when its own effect does. -/
theorem serve_dram (c : CmdSpec) (rq : Req) {body : State → Reply} {s : State} (k : DramSound s) (h : ∀ u, DramSound u → (body u).DramOk) :
    DramAfter (.next (serve c rq body s)) := by
  have hr : ∀ st fl p u, DramSound u → DramSound (respond rq.fn.val st fl p u) :=
    fun st fl p u => dramSound_of (rams_of_view (respond_view (M := 17250123776) rfl _ st fl p u) rfl)
  refine dramAfter_next ?_
  unfold serve
  split
  · exact k
  · split
    · exact dramSound_of (rams_of_view (overrun_view (M := 68681728) rfl _ s) rfl) k
    · have ka : DramSound (accept rq c.code s) := dramSound_of (rams_of_view (accept_view (M := 68157440) rfl rq c.code s) rfl) k
      unfold dispatch
      split
      · exact hr _ _ _ _ ka
      · split
        · exact hr _ _ _ _ ka
        · have := h _ ka
          revert this
          cases body (accept rq c.code s) with
          | ok t p => exact fun q => hr _ _ _ _ q
          | err st => exact fun _ => hr _ _ _ _ ka
          | failed t st p => exact fun q => hr _ _ _ _ q
          | later t => exact fun q => q

/-- DRAM_READ. -/
theorem execDramRead_dram (rq : Req) (err : DramErr) {s : State} (k : DramSound s) : DramAfter (execDramRead rq err s) := by
  unfold execDramRead
  refine serve_dram _ _ k (fun u ku => ?_)
  dsimp only
  have kc : DramSound (countDram .read false (rq.u64 4) u) := dramSound_of (countDram_rams _ _ _ _) ku
  repeat' split
  all_goals first | trivial | exact issueRequest_sound kc | exact dramSound_of (holdRequest_rams _ _ _) kc

/-- DRAM_REQUEST. -/
theorem execDramRequest_dram (c : Fin 2) (client : DramClient) (write : Bool) (addr : BitVec 64) (data : List Byte) (err : DramErr)
    {s : State} (k : DramSound s) : DramAfter (execDramRequest c client write addr data err s) := by
  have kc : DramSound (countDram client write addr.toNat s) := dramSound_of (countDram_rams _ _ _ _) k
  unfold execDramRequest
  dsimp only
  split
  · exact dramAfter_next k
  · split
    · exact dramAfter_next k
    · refine dramAfter_next ?_
      split
      · exact accessDram_sound kc
      · exact dramSound_of (holdRequest_rams _ _ _) kc

/-- SR_EXIT_DONE. -/
theorem execSrExitDone_dram (c : Fin 2) {s : State} (k : DramSound s) : DramAfter (execSrExitDone c s) := by
  unfold execSrExitDone
  refine dramAfter_next ?_
  split
  · exact resumeDram_sound k
  · exact k

/-- SPEED_CHANGE_DONE. -/
theorem execSpeedChangeDone_dram (c : Fin 2) {s : State} (k : DramSound s) : DramAfter (execSpeedChangeDone c s) := by
  unfold execSpeedChangeDone
  dsimp only
  split
  · exact dramAfter_next k
  · refine dramAfter_next (resumeDram_sound ?_)
    generalize hs1 : onDdr c.val _ s = s1
    have k1 : DramSound s1 := by
      rw [← hs1]
      exact onDdr_sound (fun d h => h) k
    have k2 : DramSound (dramEvent c.val 2 (bitNat (!(s.ddrAt c.val).derated)) 0 (issueCmd c.val .srx 0 s1)) :=
      dramSound_of ((dramEvent_rams _ _ _ _ _).trans (issueCmd_rams _ _ _ _)) k1
    split
    · exact dramSound_of (issueCmd_rams _ _ _ _) (onDdr_sound (fun d h => h) k2)
    · exact k2

/-- PATROL_SCRUB. -/
theorem execPatrolScrub_dram (c : Fin 2) (err : DramErr) {s : State} (k : DramSound s) : DramAfter (execPatrolScrub c err s) := by
  unfold execPatrolScrub
  dsimp only
  split
  · exact dramAfter_next k
  · generalize hs1 : onDdr c.val _ s = s1
    have k1 : DramSound s1 := by
      rw [← hs1]
      refine onDdr_sound (fun d h => ?_) k
      exact ⟨h.1, h.2⟩
    have k2 : ∀ u, u.rams = s1.rams → DramSound u := fun u e => dramSound_of e k1
    have k3 : DramSound (countDram .patrol false (dramBase c.val + (s.ddrAt c.val).patrolAt) s1) := k2 _ (countDram_rams _ _ _ _)
    generalize countDram .patrol false (dramBase c.val + (s.ddrAt c.val).patrolAt) s1 = u at k3 ⊢
    exact dramAfter_next (accessDram_sound k3)

/-- RECOVERY_DONE. -/
theorem execRecoveryDone_dram (c : Fin 2) (trainedOk : Bool) {s : State} (k : DramSound s) : DramAfter (execRecoveryDone c trainedOk s) := by
  unfold execRecoveryDone
  dsimp only
  split
  · exact dramAfter_next k
  · split
    · exact dramAfter_next (dramSound_of ((endRecovery_rams _ _ _).trans (dramEvent_rams _ _ _ _ _))
        (onDdr_sound (fun d h => h) (dramSound_of (failDram_rams _ _) k)))
    · split
      · exact dramAfter_next (dramSound_of ((endRecovery_rams _ _ _).trans (failDram_rams _ _)) k)
      · rename_i h16
        have k1 : DramSound (onDdr c.val (fun d => { d with poison := (s.ddrAt c.val).poisonAfter }) s) :=
          onDdr_sound (fun d h => ⟨h.1, Nat.le_of_not_lt h16⟩) k
        refine dramAfter_next (dramSound_of (endRecovery_rams _ _ _) (resumeDram_sound ?_))
        split
        · exact k1
        · exact loseContent_sound k1

/-- A machine whose channels are as at reset. -/
theorem emptyDram_sound {s : State} (h : s.ddr = []) : DramSound s := by
  intro c
  unfold State.ddrAt
  rw [h]
  exact ⟨rfl, Nat.zero_le _⟩

/-- A chip reset. -/
theorem resetChip_dram (c : BitVec 3) (s : State) : DramSound (resetChip c s) :=
  dramSound_of (rams_of_view (losePtp_view (M := 17263951874) rfl _) rfl) (emptyDram_sound rfl)

/-- CHIP_RST_DELAY_EXPIRY. -/
theorem execChipRstDelayExpiry_dram {s : State} (k : DramSound s) : DramAfter (execChipRstDelayExpiry s) := by
  unfold execChipRstDelayExpiry
  split
  · exact dramAfter_next k
  · split
    · exact dramAfter_next k
    · exact dramAfter_next (resetChip_dram _ s)

/-- LAST_GASP_END. -/
theorem execLastGaspEnd_dram {s : State} (k : DramSound s) : DramAfter (execLastGaspEnd s) := by
  unfold execLastGaspEnd
  split
  · exact dramAfter_next k
  · split
    · exact dramAfter_next (resetChip_dram _ s)
    · exact dramAfter_next k

/-- PWRFAIL_N_RELEASE. -/
theorem execPwrfailNRelease_dram {s : State} (k : DramSound s) : DramAfter (execPwrfailNRelease s) := by
  unfold execPwrfailNRelease
  dsimp only
  split
  · exact dramAfter_next k
  · split
    · exact dramAfter_next k
    · split
      · exact dramAfter_next k
      · split
        · exact dramAfter_next (resetChip_dram _ _)
        · exact dramAfter_next k

/-- CHIP_RESET. -/
theorem execChipReset_dram {s : State} (_ : DramSound s) : DramAfter (execChipReset s) := dramAfter_next (resetChip_dram _ s)

/-- PORST_N. -/
theorem execPorstN_dram {s : State} (_ : DramSound s) : DramAfter (execPorstN s) := dramAfter_next (emptyDram_sound rfl)

end Sys2Proof.Machine
end

