-- ==== Sys2Proof/Machine/Flags.lean ====
section
/-! DEFINITION. The status words the registers show, each composed from the state that its fields name. -/

namespace Sys2Proof.Machine

/-- MBX_STATUS of a function (18_pumphouse.md Table 18.3). -/
def mbxStatusWord (s : State) (fn : Nat) : Nat :=
  let m := s.mbxAt fn
  wordOf [(bitNat s.ph.ready, 0), (bitNat m.busy, 1), (bitNat m.respValid, 2), (bitNat m.overrun, 3), (bitNat s.ph.recovery, 4),
    (bitNat s.ph.boardBad, 5), (s.ph.slot.toNat, 6), (s.ph.restarts.toNat, 8)]

/-- GLB_ID (00_scope.md Table 00.6). -/
def glbId : Nat := 0x44100201

end Sys2Proof.Machine
end

