-- ==== Sys2Proof/Machine/Pins.lean ====
section
/-! DEFINITION. The levels of the output pins, each a function of the state (24_pins_electrical.md R497, Table 24.3). -/

namespace Sys2Proof.Machine

/-- SAFE_OUT_N is asserted in the safe state, while PORST_N is asserted and while any chip reset runs (20_sump.md R440,
24_pins_electrical.md R497). -/
def State.safeOut (s : State) : Bool := s.sump.safe || s.pwr.porst || s.pwr.resetRun

/-- ERR_N is asserted while the running reaction holds ERR_PIN (20_sump.md R442). -/
def State.errOut (s : State) : Bool := s.sump.err

/-- THERM_N is asserted above the thresholds of Table 24.10 and with too few sensors (24_pins_electrical.md R506, R510). -/
def State.thermOut (s : State) : Bool := s.therm.thermN

end Sys2Proof.Machine
end

