-- ==== Sys2Proof/Tests/Slice0.lean ====
section
/-! SUPPORT. Tests: ill-formed commands that are refused, single steps with results that the manual gives, and for every statement that has
hypotheses a witness that meets them. -/

namespace Sys2Proof.Tests

open Sys2Proof Sys2Proof.Machine

/-- n zero bytes of a payload. -/
def z (n : Nat) : List Nat := List.replicate n 0

/-- A 16-bit field, little-endian. -/
def w2 (n : Nat) : List Nat := [n % 256, n / 256]

/-- A 32-bit field, little-endian. -/
def w4 (n : Nat) : List Nat := [n % 256, n / 256 % 256, n / 65536 % 256, n / 16777216]

/-- A request of the harbour. -/
def rq (p : List Nat) (l : Nat := p.length) : Req := { fn := 0, flags := 0, seq := 0, length := BitVec.ofNat 32 l, payload := p.map (BitVec.ofNat 8) }

/-- The same request from berth 0. -/
def rqb (p : List Nat) : Req := { rq p with fn := 1 }

/-- The machine at reset, MBX_READY. -/
def up : State := { State.reset with ph := { State.reset.ph with ready := true } }

/-- With both DRAM channels as given. -/
def dup (d : Ddr) : State := { up with ph := { up.ph with region := some 0 }, ddr := [(0, d), (1, d)] }

/-- With lanes 0 and 95 as given. -/
def lup (x : Lane) : State := { up with lane := [(0, x), (95, x)] }

/-- With berths 0 and 15 active, port 0 owned by berth 0, and ports 0 and 63 UP. -/
def bup : State := { up with
  glb := { up.glb with berth := [(0, { state := 1, vfEnabled := true }), (15, { state := 1, vfEnabled := true })],
                       owner := [(0, { whole := some 0 })] },
  port := [(0, { link := 3, enabled := true }), (63, { link := 3, enabled := true })] }

/-- With one frame in the machine. -/
def fup (x : Frame) : State := { bup with frames := [(0, x)], nextFrame := 1 }

/-- With one judged order on hold ground: its account, instrument and counter are installed, and the strainer says HOLD. -/
def hup : State :=
  let w := { bup with
    weir := { bup.weir with berth := [(0, { acctSize := 1, instrSize := 1, holdMax := 0 })] },
    glb := { bup.glb with berth := [(0, { state := 1, vfEnabled := true, weirCtrs := 4 })] } }
  { w with
    weir := { w.weir with
      acct := [((w.acctWays 0 0).headD 0, { valid := true })],
      instr := [((w.instrWays 0 0).headD 0, { valid := true })],
      pos := [(0, { valid := true })] },
    frames := [(0, { committed := true, strn := some 0x40000,
                     parse := { order := true, regs := [0, 1], weir := [(1, 0), (2, 0), (3, 0), (4, 0), (5, 0), (6, 1)] } })] }

/-- With Crossings 0 and 7 as given. -/
def xup (x : Xl) : State := { up with xl := [(0, x), (7, x)] }

/-- A flit with its CRC. -/
def goodFlit (head : List Byte) : List Byte := head ++ leBytes 4 (crc32c head).toNat

/-- An Ethernet, IPv4 and UDP header for RoCEv2, and a BTH of zeros. -/
def roceHead : List Byte :=
  zeros 12 ++ [8, 0, 0x45] ++ zeros 8 ++ [17] ++ zeros 10 ++ [0, 0, 0x12, 0xB7, 0, 24, 0, 0] ++ zeros 12

/-- A digest has 32 bytes. -/
theorem sha256_length (bs : List Byte) : (sha256 bs).length = 32 := by
  simp [sha256, beBytes, leBytes]

/-- A commit of a staged image with its digest. -/
theorem commit_witness (d : List Byte) (h : d.length = 32) (e : imageDigest [] = d) : ∃ (rq : Req) (s : State), Served (cmdH 0x0502 40) rq s = true ∧ ((fun u : State => (u.fuse.patchLock = false ∨ u.pump.lockUsed = false) ∧ u.pump.staged = true ∧ imageDigest u.pump.staging = rq.bytes 0 32 ∧ rq.u16 32 ≠ 0 ∧ rq.u8 34 ≠ u.pump.gen.toNat ∧ nanoReservedUsed u.pump.staging = false ∧ u.pump.patchLeft = []) (accept rq (CmdSpec.code (cmdH 0x0502 40)) s)) := by
  match d, h with
  | [a0, a1, a2, a3, a4, a5, a6, a7, a8, a9, a10, a11, a12, a13, a14, a15, a16, a17, a18, a19, a20, a21, a22, a23, a24, a25, a26, a27, a28, a29, a30, a31], _ => exact ⟨{ rq (z 40) with payload := [a0, a1, a2, a3, a4, a5, a6, a7, a8, a9, a10, a11, a12, a13, a14, a15, a16, a17, a18, a19, a20, a21, a22, a23, a24, a25, a26, a27, a28, a29, a30, a31, 1, 0, 1, 0, 0, 0, 0, 0] }, { up with pump := { up.pump with staged := true } }, rfl, .inl rfl, rfl, e, (by decide : (1 : Nat) ≠ 0), (by decide : (1 : Nat) ≠ 0), (by decide +kernel : nanoReservedUsed [] = false), rfl⟩

/-- With bay 1 as given. -/
def cup (x : Bay) : State := { up with cist := { up.cist with bay := [(1, x)] } }

/-- With a risk partition for berth 0. -/
def wup : State := { up with
  weir := { up.weir with berth := [(0, { acctSize := 1, instrSize := 1 })] },
  glb := { up.glb with berth := [(0, { state := 1, weirCtrs := 4 })] } }

/-- With berths 0 and 15 of the Weir as given. -/
def kup (w : WeirB) : State := { up with weir := { up.weir with berth := [(0, w), (15, w)] } }

/-- With a staged firmware image of one byte. -/
def fwup (r : Bool) : State := { up with ph := { up.ph with staging := [(12, 1)], recovery := r } }

/-- The staged image of one byte passes, where the fused key and the signature are right. -/
theorem commit_ok (r : Bool) (h : sha256 (zeros 32) = Config.fwKeyHash ∧ ∀ k m g, Config.edVerify k m g = true) :
    commitOk (rq (z 4)) (fwup r) = true := by
  have e : sliceBytes (fwup r).stagedHeader 20 32 = zeros 32 := by cases r <;> decide +kernel
  simp only [commitOk, imageOk, e, h.1, h.2, beq_self_eq_true, Bool.and_true]
  cases r <;> decide +kernel

/-! ### Ill-formed commands -/

/-- A request carries the bytes that its LENGTH names (18_pumphouse.md Table 18.4). -/
theorem test_wf_request : Instr.wf (.systemPing (rq [1] 0)) = false := by decide

/-- An opcode of the catalogue is no unsupported one (25_interface_index.md Table 25.4). -/
theorem test_wf_opcode : Instr.wf (.unsupportedOpcode (rq []) 0x0101) = false := by decide

/-- A frame has at least one byte, and at most 16,384. -/
theorem test_wf_frame : Instr.wf (.frameStart 0 [] 0) = false ∧ Instr.wf (.frameStart 0 (zeros 16385) 0) = false := by decide +kernel

/-- A PTP message has an Ethernet header. -/
theorem test_wf_ptp : Instr.wf (.ptpMessage 0 (zeros 13) 0) = false := by decide

/-- A witness message has 64 bytes. -/
theorem test_wf_witness : Instr.wf (.wReq 0 (zeros 63) 0) = false ∧ Instr.wf (.wResp 0 (zeros 65) 0) = false := by decide

/-- A reading takes all 24 sentinels. -/
theorem test_wf_sentinels : Instr.wf (.sentinelRead (List.replicate 23 450)) = false := by decide

/-- A control frame has at least 64 bytes. -/
theorem test_wf_pause : Instr.wf (.pauseReceive 0 (zeros 63)) = false := by decide

/-- A flit has 72 bytes. -/
theorem test_wf_flit : Instr.wf (.flitReceive 0 (zeros 71) 0) = false ∧ Instr.wf (.ctrlFlit 0 (zeros 73)) = false := by decide

/-- A work queue entry has 64 bytes, a receive entry 32. -/
theorem test_wf_entry : Instr.wf (.workRequestFetched 0 false [zeros 33] []) = false := by decide

/-- A transmit descriptor has 32 bytes. -/
theorem test_wf_descriptor : Instr.wf (.txDescFetched 0 0 (zeros 31) none) = false := by decide

/-- A probe report has a whole identity page, and so has a reading of it. -/
theorem test_wf_identity :
    Instr.wf (.probeComplete 0 { linkFull := true, geometryOk := true, cacheOff := true, ident := [], side := [], authSerial := [],
                                 authSig := [], usedZones := 0 }) = false
    ∧ Instr.wf (.lifeRead 0 (zeros 1023)) = false ∧ Instr.wf (.asyncEvent 0 false (zeros 1025)) = false := by decide +kernel

/-- A DRAM access has at most a block of 64 bytes. -/
theorem test_wf_block : Instr.wf (.dramRequest 0 .staging true 0 (zeros 65) .ok) = false := by decide

/-- The store buffer of the Pumphouse has 8 entries. -/
theorem test_wf_stores :
    Instr.wf (.heartbeat { retired := [], discarded := 0, stalls := 0, buffered := List.replicate 9 (0, 0) }) = false := by decide

/-- There are 16 temperature sensors of 12 bits. -/
theorem test_wf_temps : Instr.wf (.sensorReading (List.replicate 15 0)) = false ∧ Instr.wf (.sensorReading (List.replicate 16 2048)) = false := by
  decide

/-! ### Single steps -/

/-- The digest of "abc" (FIPS 180-4). -/
theorem test_sha256 : (sha256 [0x61, 0x62, 0x63]).take 4 = [0xBA, 0x78, 0x16, 0xBF] := by decide +kernel

/-- The check value of CRC-32C (RFC 3720). -/
theorem test_crc32c : crc32c [0x31, 0x32, 0x33, 0x34, 0x35, 0x36, 0x37, 0x38, 0x39] = 0xE3069283 := by decide +kernel

/-- A field of the state that a command leaves. -/
def after {α : Type} (i : Instr) (s : State) (f : State → α) : Option α :=
  match exec i s with
  | .next t => some (f t)
  | _ => none

/-- The capped cold night at its start: VDD_CORE 0.775 V, LAT_BOUND 4.50 ns, a cap of 120 W in cap-first mode (03_self_timed_core.md). -/
def night : State := { up with
  guard := { up.guard with running := true, enabled := true, seen := true, vcode := 15, latBound := 450, capW := 120, capFirst := true } }

/-- 128 W: VCAP becomes 0.770 V (03_self_timed_core.md, the worked example). -/
theorem test_night_cap : after (.powerReading 128) night (fun t => t.guard.vcap) = some (some 14) := by decide +kernel

/-- P = 4.56 ns under a cap of 0.760 V: LAT_BOUND becomes 4.60 ns (03_self_timed_core.md, the worked example). -/
theorem test_night_bound :
    after (.sentinelRead (List.replicate 24 456)) { night with guard := { night.guard with vcode := 12, vcap := some 12 } }
      (fun t => t.guard.latBound) = some 460 := by decide +kernel

/-- Loss of PPS in LOCKED with REF_IN present: HOLDOVER, the source REF_IN, the next epoch (02_tide_gauge.md, the worked example). -/
theorem test_hut_holdover :
    after .ppsLoss { up with tide := { up.tide with phase := 1, freq := 3, refPresent := true, qualified := true, st := .locked, source := 2, epoch := 0x112 } }
      (fun t => (t.tide.st, t.tide.source, t.tide.epoch)) = some (.holdover, 3, 0x113) := by decide +kernel

/-- An empty queue idles but for the clock; a command at the front runs. -/
theorem test_step_front : (match step { up with pending := [.killNAssert] } with
    | .next t => t.sump.safe && t.pending == []
    | _ => false) = true := by decide +kernel

/-- SAFE_OUT_N is asserted while a chip reset runs and while PORST_N is (24_pins_electrical.md R497). -/
theorem test_safe_out : after .chipReset up State.safeOut = some true ∧ after .porstN up State.safeOut = some true ∧ up.safeOut = false := by
  decide +kernel

/-! ### Witnesses -/

/-- States and operands that meet the hypotheses of each clause of CountersAndTraceTakeEffect. -/
theorem witness_CountersAndTraceTakeEffect :
    (∃ (rq : Req), ∃ e, ∃ (s : State), Served (cmdH 0x1201 40) rq s = true ∧ ((fun _ => rq.u8 0 ≤ 127 ∧ eventSpec
        (pcCfgOf rq).event.toNat = some e ∧ (pcCfgOf rq).okFor e = true) (accept rq (CmdSpec.code (cmdH 0x1201 40)) s)))
    ∧ (∃ (rq : Req), ∃ (s : State), Served (cmdH 0x1202 4) rq s = true ∧ ((fun _ => rq.u8 0 = 0) (accept rq (CmdSpec.code
        (cmdH 0x1202 4)) s)))
    ∧ (∃ (rq : Req), ∃ (s : State), Served (cmdH 0x1202 4) rq s = true ∧ ((fun _ => rq.u8 0 = 1) (accept rq (CmdSpec.code
        (cmdH 0x1202 4)) s)))
    ∧ (∃ (rq : Req), ∃ (s : State), Served (cmdH 0x1203 4) rq s = true ∧ ((fun u => rq.u32 0 ≤ 60000 ∧ (rq.u32 0 = 0
        ∨ u.ph.region.isSome = true)) (accept rq (CmdSpec.code (cmdH 0x1203 4)) s)))
    ∧ (∃ (rq : Req), ∃ b, ∃ (s : State), Served (cmdH 0x1204 4) rq s = true ∧ ((fun u => rq.u8 0 ≤ 63 ∧ u.pmon.samples[rq.u8 0]? = some b
        ∧ u.teleBlocked = false) (accept rq (CmdSpec.code (cmdH 0x1204 4)) s)))
    ∧ (∃ (rq : Req), ∃ (s : State), Served (cmdH 0x1204 4) rq s = true ∧ ((fun u => rq.u8 0 < u.pmon.samples.length ∧ rq.u8 0 ≤ 63
        ∧ u.teleBlocked = true) (accept rq (CmdSpec.code (cmdH 0x1204 4)) s)))
    ∧ (∃ (rq : Req), ∃ (s : State), Served (cmdH 0x1205 8) rq s = true ∧ ((fun _ => rq.u8 1 ≤ 20) (accept rq (CmdSpec.code
        (cmdH 0x1205 8)) s)))
    ∧ (∃ (rq : Req), ∃ (s : State), Served (cmdH 0x1206 4) rq s = true ∧ ((fun _ => rq.u16 0 ≤ 2047 ∧ 1 ≤ rq.u16 2 ∧ rq.u16 2 ≤ 127)
        (accept rq (CmdSpec.code (cmdH 0x1206 4)) s)))
    ∧ (∃ (s : State), (s.trace.lostNow ≠ 0) ∧ (s.trace.fifo.length < 16)) :=
  ⟨⟨rq ([0, 1] ++ w2 0x10 ++ z 36), _, up, by decide, by decide, rfl, by decide⟩,
   ⟨(rq (z 4)), up, by decide⟩,
   ⟨rq [1,0,0,0], up, by decide⟩,
   ⟨(rq (z 4)), up, by decide⟩,
   ⟨rq (z 4), [], { up with pmon := { up.pmon with samples := [[]] }, ph := { up.ph with ready := true, region := some 0 } }, by decide⟩,
   ⟨rq (z 4), { up with pmon := { up.pmon with samples := [[]] } }, by decide⟩,
   ⟨(rq (z 8)), up, by decide⟩,
   ⟨rq [0xFF,7,127,0], up, by decide⟩,
   ⟨{ up with trace := { up.trace with lostNow := 1 } }, by decide⟩⟩

/-- States and operands that meet the hypotheses of each clause of SumpCommandsTakeEffect. -/
theorem witness_SumpCommandsTakeEffect :
    (∃ (rq : Req), ∃ (s : State), Served (cmdH 0x1001 4) rq s = true ∧ ((fun _ => rq.u8 0 ≤ 33 ∧ (rq.u8 0 = 4 ∨ rq.u8 0 = 5 → bitOf
        (rq.u8 1) 5 = true)) (accept rq (CmdSpec.code (cmdH 0x1001 4)) s)))
    ∧ (∃ (rq : Req), ∃ (s : State), Served (cmdH 0x1002 12) rq s = true ∧ ((fun _ => rq.u64 0 ≠ 0 ∧ rq.u8 8 = 0) (accept rq (CmdSpec.code
        (cmdH 0x1002 12)) s)))
    ∧ (∃ (rq : Req), ∃ (s : State), Served (cmdH 0x1002 12) rq s = true ∧ ((fun _ => rq.u8 8 = 1) (accept rq (CmdSpec.code
        (cmdH 0x1002 12)) s)))
    ∧ (∃ (rq : Req), ∃ (s : State), Served (cmdH 0x1003 4) rq s = true ∧ ((fun _ => rq.u8 0 ≤ 1) (accept rq (CmdSpec.code
        (cmdH 0x1003 4)) s)))
    ∧ (∃ (rq : Req), ∃ (s : State), Served (cmdH 0x1004 4) rq s = true ∧ ((fun u => rq.u8 0 ≤ 1 ∧ u.safeHeld = false ∧ u.sump.safe = true)
        (accept rq (CmdSpec.code (cmdH 0x1004 4)) s)))
    ∧ (∃ (rq : Req), ∃ (s : State), Served (cmdH 0x1004 4) rq s = true ∧ ((fun u => rq.u8 0 ≤ 1 ∧ u.safeHeld = false ∧ u.sump.safe = false)
        (accept rq (CmdSpec.code (cmdH 0x1004 4)) s)))
    ∧ (∃ (rq : Req), ∃ (s : State), Served (cmdH 0x1004 4) rq s = true ∧ ((fun u => rq.u8 0 ≤ 1 ∧ u.safeHeld = true) (accept rq
        (CmdSpec.code (cmdH 0x1004 4)) s)))
    ∧ (∃ (s : State), (s.rdma.qp = [] ∧ s.rdma.loop = []))
    ∧ (∃ (rq : Req), ∃ (s : State), Served (cmdH 0x1005 16) rq s = true ∧ ((fun _ => rq.u8 0 ≤ 33 ∧ sumpFirstCode (rq.u8 0) ≤ rq.u16 2
        ∧ rq.u16 2 < sumpFirstCode (rq.u8 0) + sumpEventCount (rq.u8 0)) (accept rq (CmdSpec.code (cmdH 0x1005 16)) s)))
    ∧ (∃ (rq : Req), ∃ (s : State), Served { cmdH 0x1006 0 with len := fun _ => 0 } rq s = true)
    ∧ (∃ (rq : Req), ∃ (s : State), Served (cmdH 0x1007 4) rq s = true ∧ ((fun _ => 1 ≤ rq.u16 0 ∧ rq.u16 0 ≤ 5000) (accept rq
        (CmdSpec.code (cmdH 0x1007 4)) s)))
    ∧ (∃ (s : State), (s.pcieDown = false) ∧ (s.domainOn 142 = true)) :=
  ⟨⟨(rq (z 4)), up, by decide⟩,
   ⟨rq (z 7 ++ [128] ++ z 4), up, by decide⟩,
   ⟨rq (z 8 ++ [1] ++ z 3), up, by decide⟩,
   ⟨(rq (z 4)), up, by decide⟩,
   ⟨rq (z 4), { up with sump := { up.sump with safe := true } }, by decide⟩,
   ⟨(rq (z 4)), { up with sump := { up.sump with safe := false } }, by decide⟩,
   ⟨rq (z 4), { up with sump := { up.sump with kill := true } }, by decide⟩,
   ⟨up, by decide⟩,
   ⟨rq ([5,0] ++ w2 0x1080 ++ z 12), up, by decide⟩,
   ⟨(rq (z 0)), up, by decide⟩,
   ⟨rq (w2 5000 ++ z 2), up, by decide⟩,
   ⟨up, by decide⟩⟩

/-- States and operands that meet the hypotheses of each clause of SumpEventsTakeEffect. -/
theorem witness_SumpEventsTakeEffect :
    (∃ (s : State), ∃ (l : SumpLine), (s.sump.lines = [l]) ∧ (l.src < 64))
    ∧ (∃ (l : SumpLine), ∃ (s : State), (s.sump.actsOf l.src ≠ 0) ∧ (s.sump.armed = true))
    ∧ (∃ (l : SumpLine), ∃ (s : State), (s.sump.actsOf l.src ≠ 0) ∧ (s.sump.armed = false))
    ∧ (∃ (l : SumpLine), ∃ (s : State), (bitOf (s.sump.actsOf l.src) 5 = true))
    ∧ (∃ (l : SumpLine), ∃ (s : State), (bitOf (s.sump.actsOf l.src) 4 = true))
    ∧ (∃ (s : State), ∃ (e : Entry), (s.sump.writing = some e))
    ∧ (∃ (s : State), ∃ (src : Nat), ∃ (unit : Nat), ∃ (rest : List (Nat × Nat)), (s.sump.blockRst = (src, unit) :: rest))
    ∧ (∃ (s : State), (s.sump.kill = false)) :=
  ⟨⟨{ up with sump := { up.sump with lines := [{ src := 33 }] } }, { src := 33 }, by decide⟩,
   ⟨{}, { up with sump := { up.sump with armed := true } }, by decide⟩,
   ⟨{ src := 5 }, { up with sump := { up.sump with armed := false } }, by decide⟩,
   ⟨{ src := 5 }, up, by decide⟩,
   ⟨{ src := 5 }, { up with sump := { up.sump with react := [(5, 0x30)] } }, by decide⟩,
   ⟨{ up with sump := { up.sump with writing := some {} } }, {}, by decide⟩,
   ⟨{ up with sump := { up.sump with blockRst := [(0, 0)] } }, 0, 0, [], by decide⟩,
   ⟨{ up with sump := { up.sump with kill := false } }, by decide⟩⟩

/-- States and operands that meet the hypotheses of each clause of SystemCommandsTakeEffect. -/
theorem witness_SystemCommandsTakeEffect :
    (∃ (rq : Req), ∃ (s : State), (s.takesDoorbell rq.fn.val = true) ∧ ((s.mbxAt rq.fn.val).busy = false) ∧ (rq.length = 0))
    ∧ (∃ (rq : Req), ∃ (s : State), Served (cmdHBA 0x0102 0) rq s = true)
    ∧ (∃ (rq : Req), ∃ (s : State), Served (cmdHCount 0x0103 8 4) rq s = true ∧ ((fun _ => 1 ≤ rq.u16 4 ∧ rq.u16 4 ≤ 4072
        ∧ rq.u32 0 + rq.u16 4 ≤ 393344) (accept rq (CmdSpec.code (cmdHCount 0x0103 8 4)) s)))
    ∧ ((sha256 (zeros 32) = Config.fwKeyHash ∧ ∀ k m g, Config.edVerify k m g = true) → ∃ (rq : Req), ∃ (s : State), Served
        (cmdH 0x0104 4) rq s = true ∧ (commitOk rq s = true) ∧ (s.ph.recovery = false))
    ∧ ((sha256 (zeros 32) = Config.fwKeyHash ∧ ∀ k m g, Config.edVerify k m g = true) → ∃ (rq : Req), ∃ (s : State), Served
        (cmdH 0x0104 4) rq s = true ∧ (commitOk rq s = true) ∧ (s.ph.recovery = true))
    ∧ ((sha256 (zeros 32) = Config.fwKeyHash ∧ ∀ k m g, Config.edVerify k m g = true) → ∃ (rq : Req), ∃ (s : State), Served
        (cmdH 0x0104 4) rq s = true ∧ (commitOk rq s = true))
    ∧ (∃ (rq : Req), ∃ (s : State), Served (cmdH 0x0105 4) rq s = true ∧ (rq.u32 0 = 0x52455354))
    ∧ (∃ (rq : Req), ∃ (s : State), Served (cmdH 0x0106 40) rq s = true ∧ ((fun u => rq.u8 0 ≤ 1 ∧ rq.u8 1 ≤ 127 ∧ rq.u8 2 ≤ 32
        ∧ rq.u8 3 ≤ 32 ∧ (rq.u8 2 ≠ 0 ∨ rq.u8 3 ≠ 0) ∧ rq.u8 4 ≤ 1 ∧ ¬ (rq.u8 0 = 0 ∧ rq.u8 1 = u.ph.desc.vcoreAddr.toNat) ∧ ¬ (rq.u8 0 = 1
        ∧ (rq.u8 1 = 0x58 ∨ rq.u8 1 = 0x59))) (accept rq (CmdSpec.code (cmdH 0x0106 40)) s)))
    ∧ (∃ (rq : Req), ∃ (code : BitVec 16), ∃ (s : State), (definedCode code.toNat = false) ∧ (s.takesDoorbell rq.fn.val = true) ∧
        ((s.mbxAt rq.fn.val).busy = false)) :=
  ⟨⟨(rq (z 0)), { up with mbx := [(0, { busy := false })] }, by decide⟩,
   ⟨(rq (z 0)), up, by decide⟩,
   ⟨rq (w4 393343 ++ w2 1 ++ z 2 ++ z 1), up, by decide⟩,
   fun h => ⟨rq (z 4), fwup false, by decide, commit_ok false h, by decide⟩,
   fun h => ⟨rq (z 4), fwup true, by decide, commit_ok true h, by decide⟩,
   fun h => ⟨rq (z 4), fwup false, by decide, commit_ok false h⟩,
   ⟨rq (w4 0x52455354), up, by decide⟩,
   ⟨rq ([1,127,32,32,1] ++ z 35), up, by decide⟩,
   ⟨rq [], (0x0007 : BitVec 16), up, by decide⟩⟩

/-- States and operands that meet the hypotheses of each clause of MailboxRegistersTakeEffect. -/
theorem witness_MailboxRegistersTakeEffect :
    (∃ (fn : Fin 17), ∃ (s : State), (s.takesDoorbell fn.val = true) ∧ ((s.mbxAt fn.val).busy = true))
    ∧ (∃ (fn : Fin 17), ∃ v, ∃ (s : State), (s.mmioLive fn.val = true) ∧ (v - (s.mbxAt fn.val).evtCons ≤ (s.mbxAt fn.val).evtProd -
        (s.mbxAt fn.val).evtCons))
    ∧ (∃ (fn : Fin 17), ∃ v, ∃ (s : State), (¬ v - (s.mbxAt fn.val).evtCons ≤ (s.mbxAt fn.val).evtProd - (s.mbxAt fn.val).evtCons))
    ∧ (∃ (fn : Fin 17), ∃ (s : State), (s.mmioLive fn.val = true)) :=
  ⟨⟨0, { up with mbx := [(0, { busy := true })] }, by decide⟩,
   ⟨0, 1, { up with mbx := [(0, { evtProd := 1 })] }, by decide⟩,
   ⟨16, 1, up, by decide⟩,
   ⟨0, up, by decide⟩⟩

/-- States and operands that meet the hypotheses of each clause of PumphouseEventsTakeEffect. -/
theorem witness_PumphouseEventsTakeEffect :
    (∃ (s : State), ∃ n, (s.ph.running = false) ∧ (s.ph.ready = false) ∧ (bootSlot s = some n))
    ∧ (∃ (s : State), (s.ph.running = false) ∧ (s.ph.ready = false) ∧ (bootSlot s = none))
    ∧ (∃ (s : State), (s.fuse.fresh = true) ∧ (s.ph.ready = false) ∧ (s.ph.running = true) ∧ (s.ph.slot.toNat = s.preferred))
    ∧ (∃ (s : State), (s.ph.running = true) ∧ (s.ph.idle = true))
    ∧ (∃ (s : State), (s.ph.running = true) ∧ (s.ph.idle = false))
    ∧ (∃ (s : State), (s.ph.idle = false))
    ∧ (∃ (s : State), (s.ph.idle = true)) :=
  ⟨⟨State.reset, 0, by decide⟩,
   ⟨{ State.reset with fuse := { State.reset.fuse with authentic := 0 } }, by decide⟩,
   ⟨{ up with fuse := { up.fuse with fresh := true }, ph := { up.ph with ready := false, running := true } }, by decide⟩,
   ⟨{ up with ph := { up.ph with running := true, idle := true, ready := true } }, by decide⟩,
   ⟨{ up with ph := { up.ph with running := true, idle := false, ready := true } }, by decide⟩,
   ⟨{ up with ph := { up.ph with idle := false, ready := true } }, by decide⟩,
   ⟨{ up with ph := { up.ph with idle := true, ready := true } }, by decide⟩⟩

/-- States and operands that meet the hypotheses of each clause of BoardBusesTakeEffect. -/
theorem witness_BoardBusesTakeEffect :
    (∃ (b : Fin 2), ∃ (s : State), (¬ ((s.busAt b.val).txn.isSome = true ∧ 3 ≤ (s.busAt b.val).retries)))
    ∧ (∃ (b : Fin 2), ∃ (s : State), ((s.busAt b.val).txn.isSome = true) ∧ (3 ≤ (s.busAt b.val).retries))
    ∧ (∃ (b : Fin 2), ∃ rb, ∃ (s : State), ∃ t, ((s.busAt b.val).txn = some t) ∧ ((s.busAt b.val).backoff = true) ∧
        (readBackOwn t rb = true))
    ∧ (∃ (b : Fin 2), ∃ rb, ∃ (s : State), ∃ t, ((s.busAt b.val).txn = some t) ∧ ((s.busAt b.val).backoff = true) ∧
        (readBackOwn t rb = false))
    ∧ (∃ (b : Fin 2), ∃ (s : State), ((s.busAt b.val).nakRetried = true))
    ∧ (∃ (b : Nat), ∃ (t : I2cTxn), ∃ (s : State), ((s.busAt b).txn = some t) ∧ (t.pec = false)) :=
  ⟨⟨1, { up with ph := { up.ph with bus := [(1, { txn := some {}, retries := 2 })] } }, by decide⟩,
   ⟨1, { up with ph := { up.ph with bus := [(1, { txn := some {}, retries := 3 })] } }, by decide⟩,
   ⟨0, [5], { up with ph := { up.ph with bus := [(0, { txn := some { wdata := [0, 5] }, backoff := true })] } }, { wdata := [0, 5] },
      by decide⟩,
   ⟨0, [], { up with ph := { up.ph with bus := [(0, { txn := some {}, backoff := true })], ready := true } }, {}, by decide⟩,
   ⟨0, { up with ph := { up.ph with bus := [(0, { nakRetried := true })], ready := true } }, by decide⟩,
   ⟨0, {}, { up with ph := { up.ph with bus := [(0, { txn := some {} })], ready := true } }, by decide⟩⟩

/-- States and operands that meet the hypotheses of each clause of GuardCommandsTakeEffect. -/
theorem witness_GuardCommandsTakeEffect :
    (∃ (rq : Req), ∃ (s : State), Served (cmdH 0x1120 12) rq s = true ∧ ((fun _ => rq.u8 0 ≤ 1 ∧ rq.u8 1 % 5 = 0 ∧ 5 ≤ rq.u8 1
        ∧ rq.u8 1 ≤ 25 ∧ rq.u16 2 % 5 = 0 ∧ 290 ≤ rq.u16 2 ∧ rq.u16 2 ≤ 1000 ∧ 10 ≤ rq.u16 4 ∧ rq.u16 4 ≤ 100 ∧ 8 ≤ rq.u8 6 ∧ rq.u8 6 ≤ 40
        ∧ 8 ≤ rq.u8 7 ∧ rq.u8 7 ≤ 40) (accept rq (CmdSpec.code (cmdH 0x1120 12)) s)))
    ∧ (∃ (s : State), (s.guard.running = false))
    ∧ (∃ (rq : Req), ∃ (s : State), Served (cmdHBA 0x1121 0) rq s = true ∧ ((fun _ => rq.length = 0) (accept rq (CmdSpec.code
        (cmdHBA 0x1121 0)) s)))
    ∧ (∃ (rq : Req), ∃ (s : State), Served (cmdH 0x1123 4) rq s = true ∧ ((fun u => (rq.u16 0 = 0 ∨ 30 ≤ rq.u16 0 ∧ rq.u16 0 ≤ 250)
        ∧ rq.u8 2 ≤ 1 ∧ u.guard.inFlight = true) (accept rq (CmdSpec.code (cmdH 0x1123 4)) s)))
    ∧ (∃ (rq : Req), ∃ (s : State), Served (cmdH 0x1123 4) rq s = true ∧ ((fun u => 30 ≤ rq.u16 0 ∧ rq.u16 0 ≤ 250 ∧ rq.u8 2 ≤ 1
        ∧ u.guard.inFlight = false) (accept rq (CmdSpec.code (cmdH 0x1123 4)) s)))
    ∧ (∃ (rq : Req), ∃ (s : State), Served (cmdH 0x1123 4) rq s = true ∧ ((fun u => rq.u16 0 = 0 ∧ rq.u8 2 ≤ 1 ∧ u.guard.inFlight = false
        ∧ u.guard.conflict = false) (accept rq (CmdSpec.code (cmdH 0x1123 4)) s))) :=
  ⟨⟨rq ([1,25] ++ w2 1000 ++ w2 100 ++ [40,40] ++ z 4), up, by decide⟩,
   ⟨{ up with guard := { up.guard with running := false } }, by decide⟩,
   ⟨(rq (z 0)), up, by decide⟩,
   ⟨rq (z 4), { up with guard := { up.guard with inFlight := true } }, by decide⟩,
   ⟨rq [30,0,1,0], up, by decide⟩,
   ⟨(rq (z 4)), { up with guard := { up.guard with inFlight := false, conflict := false } }, by decide⟩⟩

/-- States and operands that meet the hypotheses of each clause of GuardEventsTakeEffect. -/
theorem witness_GuardEventsTakeEffect :
    (∃ (s : State), (s.guard.running = true))
    ∧ (∃ (s : State), (s.guard.enabled = true) ∧ (s.guard.seen = true) ∧ (s.guard.short = false) ∧
        (s.guard.pred.toNat ≤ s.guard.target.toNat) ∧ (s.guard.target.toNat < s.guard.latBound.toNat))
    ∧ (∃ (s : State), (s.guard.running = true) ∧ (s.guard.capW ≠ 0))
    ∧ (∃ (g : Guard), ∃ (c : Nat), (g.vcap = some c))
    ∧ (∃ (s : State), (s.guard.inFlight = true)) :=
  ⟨⟨{ up with guard := { up.guard with running := true } }, by decide⟩,
   ⟨{ up with guard := { up.guard with enabled := true, seen := true, pred := 450 } }, by decide⟩,
   ⟨{ up with guard := { up.guard with running := true, capW := 30 } }, by decide⟩,
   ⟨{ vcap := some 0 }, 0, by decide⟩,
   ⟨{ up with guard := { up.guard with inFlight := true } }, by decide⟩⟩

/-- States and operands that meet the hypotheses of each clause of PowerCommandsTakeEffect. -/
theorem witness_PowerCommandsTakeEffect :
    (∃ (rq : Req), ∃ (s : State), Served { cmdHB 0x1101 4 with own := ownPcs } rq s = true ∧ ((fun u => rq.u8 0 ≤ 143 ∧ rq.u8 1 ≤ 1 ∧ ¬
        (u.bondMember (rq.u8 0) = true ∧ rq.u8 0 < 64) ∧ u.isSwitching (rq.u8 0) = false ∧ u.domainOn (rq.u8 0) = (rq.u8 1 == 1))
        (accept rq (CmdSpec.code { cmdHB 0x1101 4 with own := ownPcs }) s)))
    ∧ (∃ (rq : Req), ∃ (s : State), Served { cmdHB 0x1101 4 with own := ownPcs } rq s = true ∧ ((fun u => rq.u8 0 ≤ 143 ∧ rq.u8 1 = 1 ∧ ¬
        (u.bondMember (rq.u8 0) = true ∧ rq.u8 0 < 64) ∧ u.isSwitching (rq.u8 0) = false ∧ u.domainOn (rq.u8 0) = false) (accept rq
        (CmdSpec.code { cmdHB 0x1101 4 with own := ownPcs }) s)))
    ∧ (∃ (rq : Req), ∃ (s : State), Served { cmdHB 0x1101 4 with own := ownPcs } rq s = true ∧ ((fun u => rq.u8 0 ≤ 143 ∧ rq.u8 1 = 0 ∧ ¬
        (u.bondMember (rq.u8 0) = true ∧ rq.u8 0 < 64) ∧ u.isSwitching (rq.u8 0) = false ∧ u.domainOn (rq.u8 0) = true ∧ u.mayOff
        (rq.u8 0) = true) (accept rq (CmdSpec.code { cmdHB 0x1101 4 with own := ownPcs }) s)))
    ∧ (∃ (rq : Req), ∃ (s : State), Served { cmdHB 0x1101 4 with own := ownPcs } rq s = true ∧ ((fun u => rq.u8 0 ≤ 143 ∧ rq.u8 1 = 0 ∧ ¬
        (u.bondMember (rq.u8 0) = true ∧ rq.u8 0 < 64) ∧ u.isSwitching (rq.u8 0) = false ∧ u.domainOn (rq.u8 0) = true ∧ u.mayOff
        (rq.u8 0) = false) (accept rq (CmdSpec.code { cmdHB 0x1101 4 with own := ownPcs }) s)))
    ∧ (∃ (rq : Req), ∃ (s : State), Served (cmdH 0x1102 0) rq s = true ∧ ((fun _ => rq.length = 0) (accept rq (CmdSpec.code
        (cmdH 0x1102 0)) s)))
    ∧ (∃ (rq : Req), ∃ (s : State), Served (cmdH 0x1103 4) rq s = true ∧ (rq.u32 0 = 0x43484950) ∧ (s.pwr.resetPending = false) ∧
        (s.pwr.lastGasp = false))
    ∧ (∃ (rq : Req), ∃ (s : State), Served (cmdH 0x1103 4) rq s = true ∧ (rq.u32 0 = 0x43484950) ∧ (s.pwr.resetPending = true
        ∨ s.pwr.lastGasp = true))
    ∧ (∃ (rq : Req), ∃ (s : State), Served (cmdH 0x1304 4) rq s = true ∧ ((fun u => rq.u8 0 ≤ 143 ∧ ¬ (u.bondMember (rq.u8 0) = true
        ∧ rq.u8 0 < 64) ∧ u.isSwitching (rq.u8 0) = false ∧ u.domainOn (rq.u8 0) = true ∧ u.mayOff (rq.u8 0) = true) (accept rq
        (CmdSpec.code (cmdH 0x1304 4)) s))) :=
  ⟨⟨rq [143,1,0,0], up, by decide⟩,
   ⟨rq [143,1,0,0], { up with pwr := { up.pwr with on := 0x4000#144 <<< 128 } }, by decide⟩,
   ⟨(rq (z 4)), up, by decide⟩,
   ⟨rq [142,0,0,0], up, by decide⟩,
   ⟨(rq (z 0)), up, by decide⟩,
   ⟨rq (w4 0x43484950), up, by decide⟩,
   ⟨rq (w4 0x43484950), { up with pwr := { up.pwr with lastGasp := true } }, by decide⟩,
   ⟨(rq (z 4)), up, by decide⟩⟩

/-- States and operands that meet the hypotheses of each clause of DomainSwitchesTakeEffect. -/
theorem witness_DomainSwitchesTakeEffect :
    (∃ (d : Fin 144), ∃ (s : State), ∃ fn, (s.pwr.switching.find? (fun e => e.1 == d.val) = some (d.val, false, fn)) ∧
        (s.quiesced d.val = true))
    ∧ (∃ (d : Fin 144), ∃ (s : State), ∃ fn, (s.pwr.switching.find? (fun e => e.1 == d.val) = some (d.val, true, fn)))
    ∧ (∃ (d : Fin 144), ∃ (s : State), ∃ fn, (s.pwr.switching.find? (fun e => e.1 == d.val) = none) ∧ (s.pwr.bist.find?
        (fun e => e.1 == d.val) = some (d.val, fn)) ∧ (s.quiesced d.val = true))
    ∧ (∃ (g : Fin 32), ∃ (s : State), ∃ fn, (s.pwr.switching.find? (fun e => e.1 == 88 + g.val) = some (88 + g.val, false, fn)) ∧
        (s.quiesced (88 + g.val) = false))
    ∧ (∃ d, (120 ≤ d) ∧ (d < 128)) :=
  ⟨⟨143, { up with pwr := { up.pwr with switching := [(143, false, none)] } }, none, by decide⟩,
   ⟨143, { up with pwr := { up.pwr with switching := [(143, true, none)] } }, none, by decide⟩,
   ⟨143, { up with pwr := { up.pwr with bist := [(143, 0)] } }, 0, by decide⟩,
   ⟨0, { up with pwr := { up.pwr with switching := [(88, false, none)] }, rsv := { up.rsv with used := [(0, 1)] } }, none, by decide⟩,
   ⟨127, by decide⟩⟩

/-- States and operands that meet the hypotheses of each clause of ResetsTakeEffect. -/
theorem witness_ResetsTakeEffect :
    (∃ (s : State), (s.sump.chipRstRun = true) ∧ (¬ (s.pwr.pwrfail = true ∧ s.pwr.lastGasp = true)))
    ∧ (∃ (s : State), (s.sump.chipRstRun = true) ∧ (s.pwr.pwrfail = true) ∧ (s.pwr.lastGasp = true))
    ∧ (∃ (s : State), (s.ph.running = true) ∧ (s.ph.ready = false) ∧ (s.pwr.restartUp = false) ∧ (s.guard.running = false) ∧
        (s.ph.restartEvent = false))
    ∧ (∃ (s : State), (s.ph.running = true) ∧ (s.ph.ready = false) ∧ (s.pwr.restartUp = false) ∧ (s.guard.running = true) ∧
        (s.ph.restartEvent = true))
    ∧ (∃ (s : State), (s.pcieDown = false)) :=
  ⟨⟨{ up with sump := { up.sump with chipRstRun := true } }, by decide⟩,
   ⟨{ up with sump := { up.sump with chipRstRun := true }, pwr := { up.pwr with pwrfail := true, lastGasp := true } }, by decide⟩,
   ⟨{ up with ph := { up.ph with running := true, ready := false, restartEvent := false }, pwr := { up.pwr with restartUp := false }, guard := { up.guard with running := false } },
      by decide⟩,
   ⟨{ up with ph := { up.ph with running := true, ready := false, restartEvent := true }, pwr := { up.pwr with restartUp := false }, guard := { up.guard with running := true } },
      by decide⟩,
   ⟨up, by decide⟩⟩

/-- States and operands that meet the hypotheses of each clause of LastGaspTakesEffect. -/
theorem witness_LastGaspTakesEffect :
    (∃ (s : State), (s.pwr.pwrfail = false) ∧ (s.ph.ready = true) ∧ (bitOf (s.sump.actsOf 4) 5 = true))
    ∧ (∃ (s : State), (s.pwr.pwrfail = false) ∧ (s.ph.ready = false) ∧ (s.ph.restartEvent = false))
    ∧ (∃ (s : State), (s.ledg.stopped = false) ∧ (s.pwr.lastGasp = true))
    ∧ (∃ (s : State), (s.ledg.stopped = false) ∧ (s.pwr.lastGasp = false) ∧ (s.sump.chipRstRun = true))
    ∧ (∃ (s : State), (s.pwr.lastGasp = true) ∧ (s.ledg.stopped = true) ∧ (s.pagesWait = false) ∧ (s.pwr.resetPending = false))
    ∧ (∃ (s : State), (s.pwr.lastGasp = true) ∧ (s.ledg.stopped = true) ∧ (s.pagesWait = false) ∧ (s.pwr.resetPending = true))
    ∧ (∃ (s : State), (s.pwr.pwrfail = true) ∧ (s.pwr.restartUp = true))
    ∧ (∃ (s : State), (s.pwr.pwrfail = true) ∧ (s.pwr.restartUp = false) ∧ (s.pwr.lastGasp = true))
    ∧ (∃ (s : State), (s.pwr.pwrfail = true) ∧ (s.pwr.restartUp = false) ∧ (s.pwr.lastGasp = false) ∧ (s.ledg.stopped = true)) :=
  ⟨⟨{ up with pwr := { up.pwr with pwrfail := false }, ph := { up.ph with ready := true } }, by decide⟩,
   ⟨{ up with pwr := { up.pwr with pwrfail := false }, ph := { up.ph with ready := false, restartEvent := false } }, by decide⟩,
   ⟨{ up with ledg := { up.ledg with stopped := false }, pwr := { up.pwr with lastGasp := true } }, by decide⟩,
   ⟨{ up with ledg := { up.ledg with stopped := false }, pwr := { up.pwr with lastGasp := false }, sump := { up.sump with chipRstRun := true } },
      by decide⟩,
   ⟨{ up with pwr := { up.pwr with lastGasp := true, resetPending := false }, ledg := { up.ledg with stopped := true } }, by decide⟩,
   ⟨{ up with pwr := { up.pwr with lastGasp := true, resetPending := true }, ledg := { up.ledg with stopped := true } }, by decide⟩,
   ⟨{ up with pwr := { up.pwr with pwrfail := true, restartUp := true } }, by decide⟩,
   ⟨{ up with pwr := { up.pwr with pwrfail := true, restartUp := false, lastGasp := true } }, by decide⟩,
   ⟨{ up with pwr := { up.pwr with pwrfail := true, restartUp := false, lastGasp := false }, ledg := { up.ledg with stopped := true } },
      by decide⟩⟩

/-- States and operands that meet the hypotheses of each clause of DramCommandsTakeEffect. -/
theorem witness_DramCommandsTakeEffect :
    (∃ (rq : Req), ∃ (s : State), Served (cmdH 0x0F01 16) rq s = true ∧ ((fun u => rq.u8 0 ≤ 1 ∧ rq.u32 4 ≤ 1000000 ∧ rq.u16 8 ≤ 1000
        ∧ rq.u16 10 ≤ 1000 ∧ u.noDram (rq.u8 0) = false ∧ ((u.ddrAt (rq.u8 0)).st = 3 ∨ (u.ddrAt (rq.u8 0)).st = 4)) (accept rq
        (CmdSpec.code (cmdH 0x0F01 16)) s)))
    ∧ (∃ (rq : Req), ∃ (s : State), Served (cmdH 0x0F01 16) rq s = true ∧ ((fun u => rq.u8 0 ≤ 1 ∧ rq.u32 4 ≤ 1000000 ∧ rq.u16 8 ≤ 1000
        ∧ rq.u16 10 ≤ 1000 ∧ u.noDram (rq.u8 0) = false ∧ (u.ddrAt (rq.u8 0)).st ≠ 3 ∧ (u.ddrAt (rq.u8 0)).st ≠ 4) (accept rq (CmdSpec.code
        (cmdH 0x0F01 16)) s)))
    ∧ (∃ (rq : Req), ∃ (s : State), Served (cmdH 0x0F02 4) rq s = true ∧ ((fun u => rq.u8 0 ≤ 1 ∧ u.noDram (rq.u8 0) = false) (accept rq
        (CmdSpec.code (cmdH 0x0F02 4)) s)))
    ∧ (∃ (rq : Req), ∃ (s : State), Served (cmdH 0x0F03 4) rq s = true ∧ ((fun u => rq.u8 0 ≤ 1 ∧ u.noDram (rq.u8 0) = false ∧ (u.ddrAt
        (rq.u8 0)).froze = true) (accept rq (CmdSpec.code (cmdH 0x0F03 4)) s)))
    ∧ (∃ (rq : Req), ∃ (s : State), Served (cmdH 0x0F04 4) rq s = true ∧ ((fun u => rq.u8 0 ≤ 1 ∧ u.noDram (rq.u8 0) = false ∧ (u.ddrAt
        (rq.u8 0)).st = 5 ∧ (u.ddrAt (rq.u8 0)).recovering = false) (accept rq (CmdSpec.code (cmdH 0x0F04 4)) s)))
    ∧ (∃ (rq : Req), ∃ (s : State), Served (cmdH 0x0F05 12) rq s = true ∧ ((fun u => rq.u8 0 ≤ 1 ∧ rq.u64 4 % 64 = 0 ∧ u.noDram
        (rq.u8 0) = false ∧ dramChannel (rq.u64 4) = rq.u8 0 ∧ u.dramRangeOk (rq.u64 4) 64 = true ∧ (u.ddrAt (rq.u8 0)).serving = true)
        (accept rq (CmdSpec.code (cmdH 0x0F05 12)) s)))
    ∧ (∃ (rq : Req), ∃ (s : State), Served (cmdH 0x0F05 12) rq s = true ∧ ((fun u => rq.u8 0 ≤ 1 ∧ rq.u64 4 % 64 = 0 ∧ u.noDram
        (rq.u8 0) = false ∧ dramChannel (rq.u64 4) = rq.u8 0 ∧ u.dramRangeOk (rq.u64 4) 64 = true ∧ ((u.ddrAt (rq.u8 0)).st = 3 ∨ (u.ddrAt
        (rq.u8 0)).st = 4)) (accept rq (CmdSpec.code (cmdH 0x0F05 12)) s)))
    ∧ (∃ (rq : Req), ∃ (s : State), Served (cmdH 0x0F05 12) rq s = true ∧ ((fun u => rq.u8 0 ≤ 1 ∧ rq.u64 4 % 64 = 0 ∧ u.noDram
        (rq.u8 0) = false ∧ dramChannel (rq.u64 4) = rq.u8 0 ∧ u.dramRangeOk (rq.u64 4) 64 = true ∧ ((u.ddrAt (rq.u8 0)).st = 5 ∨ (u.ddrAt
        (rq.u8 0)).st = 6)) (accept rq (CmdSpec.code (cmdH 0x0F05 12)) s))) :=
  ⟨⟨rq ([1] ++ z 3 ++ w4 1000000 ++ w2 1000 ++ w2 1000 ++ z 4), dup { st := 4, capGib := 16 }, by decide⟩,
   ⟨rq ([1] ++ z 3 ++ w4 1000000 ++ w2 1000 ++ w2 1000 ++ z 4), dup { st := 2, capGib := 16 }, by decide⟩,
   ⟨rq [1,0,0,0], dup { st := 2, capGib := 16 }, by decide⟩,
   ⟨rq [1,0,0,0], dup { st := 2, capGib := 16, froze := true }, by decide⟩,
   ⟨rq [1,0,0,0], dup { st := 5, capGib := 16 }, by decide⟩,
   ⟨rq (z 4 ++ w4 0x3FEFFFC0 ++ z 4), dup { st := 2, capGib := 1 }, by decide⟩,
   ⟨rq (z 12), dup { st := 3, capGib := 1 }, by decide⟩,
   ⟨rq (z 12), dup { st := 6, capGib := 1 }, by decide⟩⟩

/-- States and operands that meet the hypotheses of each clause of DramAccessesTakeEffect. -/
theorem witness_DramAccessesTakeEffect :
    (∃ (c : Fin 2), ∃ (addr : BitVec 64), ∃ (data : List (BitVec 8)), ∃ (s : State), (dramChannel addr.toNat = c.val) ∧
        (addr.toNat % 64 + data.length ≤ 64) ∧ (s.dramRangeOk addr.toNat (max 1 data.length) = true) ∧ ((s.ddrAt c.val).serving = true))
    ∧ (∃ (c : Fin 2), ∃ (addr : BitVec 64), ∃ (data : List (BitVec 8)), ∃ (s : State), (dramChannel addr.toNat = c.val) ∧
        (addr.toNat % 64 + data.length ≤ 64) ∧ (s.dramRangeOk addr.toNat (max 1 data.length) = true) ∧ ((s.ddrAt c.val).serving = false) ∧
        (2 ≤ (s.ddrAt c.val).st) ∧ ((s.ddrAt c.val).st < 5)) :=
  ⟨⟨0, 0x3FEFFFC0, List.replicate 64 0, dup { st := 2, capGib := 1 }, by decide⟩,
   ⟨0, 63, [0], dup { st := 3, capGib := 1 }, by decide⟩⟩

/-- States and operands that meet the hypotheses of each clause of DramEventsTakeEffect. -/
theorem witness_DramEventsTakeEffect :
    (∃ (c : Fin 2), ∃ (s : State), ((s.ddrAt c.val).serving = true) ∧ ((s.ddrAt c.val).srIdle ≠ 0))
    ∧ (∃ (c : Fin 2), ∃ (s : State), ((s.ddrAt c.val).srEntering = true) ∧ ((s.ddrAt c.val).st = 2) ∧ ((s.ddrAt c.val).queue = []))
    ∧ (∃ (c : Fin 2), ∃ (s : State), ((s.ddrAt c.val).srEntering = true) ∧ ((s.ddrAt c.val).st = 2) ∧ ((s.ddrAt c.val).queue ≠ []))
    ∧ (∃ (c : Fin 2), ∃ (s : State), ((s.ddrAt c.val).srEntering = true) ∧ ((s.ddrAt c.val).st = 5))
    ∧ (∃ (c : Fin 2), ∃ (s : State), ((s.ddrAt c.val).st = 3) ∧ ((s.ddrAt c.val).srExiting = true))
    ∧ (∃ (c : Fin 2), ∃ (s : State), ((s.ddrAt c.val).st = 4) ∧ ((s.ddrAt c.val).driftDue = false))
    ∧ (∃ (c : Fin 2), ∃ (s : State), ((s.ddrAt c.val).serving = true))
    ∧ (∃ (c : Fin 2), ∃ (s : State), ((s.ddrAt c.val).serving = true) ∧ ((s.ddrAt c.val).patrolGap ≠ 0))
    ∧ (∃ (c : Fin 2), ∃ (s : State), ((s.ddrAt c.val).st = 5) ∧ ((s.ddrAt c.val).recovering = false) ∧ ((s.ddrAt c.val).autoRecover ≠ 0))
    ∧ (∃ (c : Fin 2), ∃ (s : State), ((s.ddrAt c.val).recovering = true) ∧ ((s.ddrAt c.val).poisonAfter.length ≤ 16) ∧
        ((s.ddrAt c.val).contentKept = true))
    ∧ (∃ (c : Fin 2), ∃ (s : State), ((s.ddrAt c.val).recovering = true)) :=
  ⟨⟨1, dup { st := 2 }, by decide⟩,
   ⟨0, { up with ddr := [(0, { srEntering := true, st := 2 })] }, by decide⟩,
   ⟨1, dup { st := 2, srEntering := true, queue := [{}] }, by decide⟩,
   ⟨0, { up with ddr := [(0, { srEntering := true, st := 5 })] }, by decide⟩,
   ⟨0, { up with ddr := [(0, { st := 3, srExiting := true })] }, by decide⟩,
   ⟨0, { up with ddr := [(0, { st := 4, driftDue := false })] }, by decide⟩,
   ⟨1, dup { st := 2 }, by decide⟩,
   ⟨1, dup { st := 2 }, by decide⟩,
   ⟨1, dup { st := 5, autoRecover := 1 }, by decide⟩,
   ⟨0, { up with ddr := [(0, { recovering := true, contentKept := true })] }, by decide⟩,
   ⟨0, { up with ddr := [(0, { recovering := true })] }, by decide⟩⟩

/-- States and operands that meet the hypotheses of each clause of TestBlockTakesEffect. -/
theorem witness_TestBlockTakesEffect :
    (∃ (rq : Req), ∃ (s : State), Served (cmdH 0x1301 20) rq s = true ∧ ((fun _ => rq.u8 0 ≤ 95 ∧ rq.u8 1 = 0) (accept rq (CmdSpec.code
        (cmdH 0x1301 20)) s)))
    ∧ (∃ (rq : Req), ∃ (s : State), Served (cmdH 0x1301 20) rq s = true ∧ ((fun u => rq.u8 0 ≤ 95 ∧ rq.u8 1 = 1 ∧ pgcOk rq = true
        ∧ u.laneSettles (rq.u8 0) = false ∧ u.laneIdle (rq.u8 0) = true ∧ u.domainOn (laneDomain (rq.u8 0)) = true) (accept rq
        (CmdSpec.code (cmdH 0x1301 20)) s)))
    ∧ (∃ (x : Lane), (x.active = false))
    ∧ (∃ (rq : Req), ∃ (s : State), Served (cmdH 0x1301 20) rq s = true ∧ ((fun _ => rq.u8 0 ≤ 95 ∧ rq.u8 1 = 2) (accept rq (CmdSpec.code
        (cmdH 0x1301 20)) s)))
    ∧ (∃ (rq : Req), ∃ (s : State), Served (cmdH 0x1302 4) rq s = true ∧ ((fun _ => rq.u8 0 ≤ 95) (accept rq (CmdSpec.code
        (cmdH 0x1302 4)) s)))
    ∧ (∃ (l : Fin 96), ∃ (s : State), ((s.laneAt l.val).active = true) ∧ ((s.laneAt l.val).flags.getLsbD 1 = true) ∧
        ((s.laneAt l.val).locked = false))
    ∧ (∃ (l : Fin 96), ∃ (s : State), ((s.laneAt l.val).locked = true))
    ∧ (∃ (rq : Req), ∃ (s : State), Served (cmdH 0x1303 8) rq s = true ∧ ((fun u => rq.u8 0 ≤ 95 ∧ -32 ≤ rq.int 1 1 ∧ rq.int 1 1 ≤ 31
        ∧ -100 ≤ rq.int 2 1 ∧ rq.int 2 1 ≤ 100 ∧ 1 ≤ rq.u16 4 ∧ rq.u16 4 ≤ 60000 ∧ u.laneSettles (rq.u8 0) = false ∧ (u.laneAt
        (rq.u8 0)).marginFn = none ∧ (u.laneAt (rq.u8 0)).locked = true) (accept rq (CmdSpec.code (cmdH 0x1303 8)) s)))
    ∧ (∃ (l : Fin 96), ∃ (s : State), ∃ fn, ((s.laneAt l.val).marginFn = some fn)) :=
  ⟨⟨(rq (z 20)), up, by decide⟩,
   ⟨rq ([95,1,4,2,3] ++ z 15), up, by decide⟩,
   ⟨{}, by decide⟩,
   ⟨rq ([95,2] ++ z 18), up, by decide⟩,
   ⟨(rq (z 4)), up, by decide⟩,
   ⟨95, lup { active := true, flags := 2 }, by decide⟩,
   ⟨0, { up with lane := [(0, { locked := true })] }, by decide⟩,
   ⟨rq ([95,31,100,0] ++ w2 60000 ++ z 2), lup { active := true, locked := true }, by decide⟩,
   ⟨0, { up with lane := [(0, { marginFn := some 0 })] }, 0, by decide⟩⟩

/-- States and operands that meet the hypotheses of each clause of ThermalTakesEffect. -/
theorem witness_ThermalTakesEffect :
    (∃ (rq : Req), ∃ (s : State), Served (cmdH 0x1104 4) rq s = true ∧ ((fun _ => 60 ≤ rq.int 0 1 ∧ rq.int 0 1 ≤ 125) (accept rq
        (CmdSpec.code (cmdH 0x1104 4)) s)))
    ∧ (∃ (t : Therm), ∃ (ts : List Int), ((t.read ts).used ≠ [])) :=
  ⟨⟨rq [125,0,0,0], up, by decide⟩,
   ⟨{}, [], by decide⟩⟩

/-- States and operands that meet the hypotheses of each clause of RegistersTakeEffect. -/
theorem witness_RegistersTakeEffect :
    (∃ (fn : Fin 17), ∃ (off : BitVec 32), ∃ (s : State), ∃ (src : Nat), ∃ (sp : SlotSpan), ∃ (c : BitVec 48), (s.mmioLive fn.val = true)
        ∧ (off.toNat % 8 ≠ 4) ∧ (counterSource s fn.val off.toNat = some src) ∧ (spanAt s src = some sp) ∧ (sp.read
        (src - sp.base) = some c) ∧ (((sp.domain (src - sp.base)).map s.domainOn).getD true = true))
    ∧ (∃ (fn : Fin 17), ∃ (off : BitVec 32), ∃ (s : State), ∃ (src : Nat), ∃ (sp : SlotSpan), ∃ (c : BitVec 48), ∃ (h : BitVec 16),
        (s.mmioLive fn.val = true) ∧ (off.toNat % 8 = 4) ∧ (counterSource s fn.val (off.toNat - 4) = some src) ∧ (spanAt s src = some sp) ∧
        (sp.read (src - sp.base) = some c) ∧ (((sp.domain (src - sp.base)).map s.domainOn).getD true = true) ∧ (Tab.look none s.latch
        (latchKey fn.val (off.toNat - 4)) = some h))
    ∧ (∃ (off : BitVec 32), ∃ (s : State), (s.mmioLive 0 = true) ∧ (0x101000 ≤ off.toNat) ∧ (off.toNat < 0x102000) ∧ (off.toNat % 4 = 0) ∧
        ((s.mbxAt 0).busy = false))
    ∧ (∃ (off : BitVec 32), ∃ (s : State), (s.mmioLive 0 = true) ∧ (0x101000 ≤ off.toNat) ∧ (off.toNat < 0x102000) ∧ (off.toNat % 4 = 0) ∧
        ((s.mbxAt 0).busy = true))
    ∧ (∃ (s : State), (s.mmioLive 0 = true))
    ∧ (∃ (off : BitVec 32), ∃ (s : State), ∃ d, (s.mmioLive 0 = true) ∧ (regDomain off.toNat = some d) ∧ (s.domainOn d = false)) :=
  ⟨⟨0, 0x3401030, up, 0x3401030, _, _, by decide, by decide, by decide, rfl, rfl, by decide⟩,
   ⟨0, 0x3401034, { up with latch := [(0x3401030, some 0)] }, 0x3401030, _, _, 0, by decide, by decide, by decide, rfl, rfl, by decide,
      by decide⟩,
   ⟨0x101FFC, up, by decide⟩,
   ⟨0x101FFC, { up with mbx := [(0, { busy := true })] }, by decide⟩,
   ⟨up, by decide⟩,
   ⟨0x3E017FC, { up with pwr := { up.pwr with on := 1#144 <<< 142 } }, 71, by decide⟩⟩

/-- States and operands that meet the hypotheses of each clause of TimeCommandsTakeEffect. -/
theorem witness_TimeCommandsTakeEffect :
    (∃ (rq : Req), ∃ (s : State), Served (cmdHBA 0x0401 0) rq s = true ∧ ((fun _ => rq.length = 0) (accept rq (CmdSpec.code
        (cmdHBA 0x0401 0)) s)))
    ∧ (∃ (rq : Req), ∃ (s : State), Served (cmdH 0x0402 16) rq s = true ∧ ((fun _ => sourceParamsOk rq = true) (accept rq (CmdSpec.code
        (cmdH 0x0402 16)) s)))
    ∧ (∃ (rq : Req), ∃ (s : State), (rq.u8 0 = 0) ∧ (s.tide.st ≠ .free))
    ∧ (∃ (s : State), (s.tide.st = .free) ∧ (s.tide.source = 0))
    ∧ (∃ (rq : Req), ∃ (s : State), Served (cmdH 0x0403 8) rq s = true ∧ ((fun u => u.tide.st = .free ∨ u.tide.st = .acquire) (accept rq
        (CmdSpec.code (cmdH 0x0403 8)) s)))
    ∧ (∃ (rq : Req), ∃ (s : State), Served (cmdH 0x0403 8) rq s = true ∧ ((fun u => u.tide.st = .locked ∨ u.tide.st = .holdover) (accept rq
        (CmdSpec.code (cmdH 0x0403 8)) s)))
    ∧ (∃ (rq : Req), ∃ (s : State), Served (cmdH 0x0404 8) rq s = true ∧ ((fun u => utcParamsOk rq u.tide = true ∧ rq.u32 4 = 0) (accept rq
        (CmdSpec.code (cmdH 0x0404 8)) s)))
    ∧ (∃ (rq : Req), ∃ (s : State), Served (cmdH 0x0404 8) rq s = true ∧ ((fun u => utcParamsOk rq u.tide = true ∧ rq.u32 4 ≠ 0) (accept rq
        (CmdSpec.code (cmdH 0x0404 8)) s)))
    ∧ (∃ (rq : Req), ∃ (s : State), Served (cmdH 0x0405 12) rq s = true ∧ ((fun _ => rq.u8 0 ≤ 63 ∧ (rq.int 4 4).natAbs ≤ 100000 ∧
        (rq.int 8 4).natAbs ≤ 100000) (accept rq (CmdSpec.code (cmdH 0x0405 12)) s)))
    ∧ (∃ (rq : Req), ∃ (s : State), Served (cmdH 0x0406 20) rq s = true ∧ ((fun u => ptpParamsOk rq u.tide = true ∧ u.tide.ptp.any
        (fun e => e.1 != rq.u8 0 && e.2.configured && e.2.ports.toNat &&& rq.u64 8 != 0) = false) (accept rq (CmdSpec.code
        (cmdH 0x0406 20)) s)))
    ∧ (∃ (rq : Req), ∃ (s : State), Served (cmdOwn 0x0407 8 0) rq s = true ∧ ((fun _ => rq.u8 0 ≤ 15 ∧ rq.u8 1 ≤ 1 ∧ 4000 ≤ rq.u32 4
        ∧ rq.u32 4 ≤ 1000000000) (accept rq (CmdSpec.code (cmdOwn 0x0407 8 0)) s)))
    ∧ (∃ (rq : Req), ∃ (s : State), Served (cmdH 0x0408 16) rq s = true ∧ ((fun _ => rq.u32 0 ≤ 1000000 ∧ rq.u32 4 ≤ 10000
        ∧ 100 ≤ rq.u32 12 ∧ rq.u32 12 ≤ 1000000000) (accept rq (CmdSpec.code (cmdH 0x0408 16)) s)))
    ∧ (∃ (rq : Req), ∃ (s : State), Served (cmdH 0x0409 8) rq s = true ∧ ((fun _ => 1 ≤ rq.u16 0 ∧ rq.u16 0 ≤ 1000 ∧ rq.u8 2 ≤ 7)
        (accept rq (CmdSpec.code (cmdH 0x0409 8)) s))) :=
  ⟨⟨(rq (z 0)), up, by decide⟩,
   ⟨rq ([2,3,25,3] ++ w4 1000000000 ++ w4 100000 ++ w2 10000 ++ w2 1024), up, by decide⟩,
   ⟨rq [0], { up with tide := { up.tide with st := .holdover } }, by decide⟩,
   ⟨{ up with tide := { up.tide with st := .free, source := 0 } }, by decide⟩,
   ⟨(rq (z 8)), { up with tide := { up.tide with st := .acquire } }, by decide⟩,
   ⟨(rq (z 8)), { up with tide := { up.tide with st := .holdover } }, by decide⟩,
   ⟨(rq (z 8)), up, by decide⟩,
   ⟨rq (z 2 ++ [2,0] ++ w4 0xFFFFFFFF), up, by decide⟩,
   ⟨(rq (z 12)), up, by decide⟩,
   ⟨(rq (z 20)), up, by decide⟩,
   ⟨rq ([15,1,0,0] ++ w4 1000000000), up, by decide⟩,
   ⟨rq (w4 1000000 ++ w4 10000 ++ z 4 ++ w4 1000000000), up, by decide⟩,
   ⟨rq (w2 1000 ++ [7] ++ z 5), up, by decide⟩⟩

/-- States and operands that meet the hypotheses of each clause of TimeEventsTakeEffect. -/
theorem witness_TimeEventsTakeEffect :
    (∃ (s : State), (s.tide.st = .free ∨ s.tide.st = .holdover))
    ∧ (∃ (s : State), (s.tide.st = .locked) ∧ (s.tide.holdLimit ≠ 0))
    ∧ (∃ (fn : Fin 17), ∃ (s : State), (s.mmioLive fn.val = true))
    ∧ (∃ d, ∃ (s : State), (s.tide.failA = false) ∧ (s.tide.failB = false) ∧ (d ≤ 50))
    ∧ (∃ d, ∃ (s : State), (s.tide.failA = false) ∧ (s.tide.failB = false) ∧ (50 < d))
    ∧ (∃ (ph : Fin 32), ∃ (s : State), (s.tide.phase = 1) ∧ (s.tide.st = .locked) ∧ (s.tide.ppsWindow.toNat * 1000000 <
        ((s.instant ph.val : Int) - (ppsSecond s (s.instant ph.val) * fsPerSec : Nat)).natAbs) ∧ (s.tide.ppsBad < 2))
    ∧ (∃ (s : State), (s.tide.phase = 1) ∧ (s.tide.st ≠ .locked) ∧ (s.tide.qualified = true))
    ∧ (∃ (s : State), (s.tide.phase = 1) ∧ (s.tide.st ≠ .locked) ∧ (s.tide.qualified = false))
    ∧ (∃ (s : State), (s.tide.phase = 1) ∧ (s.tide.qualified = true))
    ∧ (∃ (p : Fin 64), ∃ bytes, ∃ (s : State), ∃ tr, ∃ m, ∃ i, (ptpPayload bytes = some (tr, m)) ∧ (s.tide.instOf p.val = some i) ∧
        (ptpSupported m = true) ∧ (tr = (s.ptpAt i).transport.toNat) ∧ (byteAt m 4 = (s.ptpAt i).domain.toNat))
    ∧ (∃ (p : Fin 64), ∃ bytes, ∃ (s : State), ∃ tr, ∃ m, ∃ i, (ptpPayload bytes = some (tr, m)) ∧ (s.tide.instOf p.val = some i) ∧
        (ptpSupported m = false))
    ∧ (∃ (i : Fin 4), ∃ (s : State), ((s.ptpAt i.val).parent.isSome = true) ∧ (¬ (s.tide.phase = 2 ∧ s.tide.ptpInst.toNat = i.val)))
    ∧ (∃ (i : Fin 4), ∃ (s : State), ((s.ptpAt i.val).configured = true) ∧ ((s.ptpAt i.val).ctype = 1))
    ∧ (∃ (i : Fin 4), ∃ (s : State), ((s.ptpAt i.val).configured = true) ∧ ((s.ptpAt i.val).ctype = 1) ∧ ((s.ptpAt i.val).p2p = false))
    ∧ (∃ (i : Fin 4), ∃ (s : State), ((s.ptpAt i.val).configured = true) ∧ ((s.ptpAt i.val).ctype = 0))
    ∧ (∃ (s : State), (s.tide.refPresent = true) ∧ (s.tide.freq ≠ 3))
    ∧ (∃ (s : State), (s.tide.refPresent = true) ∧ (s.tide.freq = 3) ∧ (s.tide.st = .holdover))
    ∧ (∃ (s : State), (s.tide.refPresent = false) ∧ (s.tide.st = .free) ∧ (s.tide.holdStart = none))
    ∧ (∃ (s : State), (s.tide.refPresent = false) ∧ (s.tide.st = .holdover) ∧ (s.tide.freq = 3) ∧ (s.tide.holdStart.isSome = true))
    ∧ (∃ (s : State), (s.tide.st = .holdover))
    ∧ (∃ (s : State), (s.tide.st = .acquire))
    ∧ (∃ (s : State), ∃ off, ∃ day, (s.tide.pendUtc = some (off, day)))
    ∧ (∃ (s : State), (s.ph.ready = true)) :=
  ⟨⟨{ up with tide := { up.tide with st := .holdover } }, by decide⟩,
   ⟨{ up with tide := { up.tide with st := .locked } }, by decide⟩,
   ⟨0, up, by decide⟩,
   ⟨0, { up with tide := { up.tide with failA := false, failB := false } }, by decide⟩,
   ⟨51, up, by decide⟩,
   ⟨31, { up with tide := { up.tide with phase := 1, st := .locked, nowFs := 500000000000000 } }, by decide⟩,
   ⟨{ up with tide := { up.tide with phase := 1, qualified := true } }, by decide⟩,
   ⟨{ up with tide := { up.tide with phase := 1, qualified := false } }, by decide⟩,
   ⟨{ up with tide := { up.tide with phase := 1, qualified := true } }, by decide⟩,
   ⟨63, zeros 12 ++ [0x88, 0xF7, 0, 2] ++ zeros 40,
      { up with tide := { up.tide with ptp := [(0, { configured := true, ports := 1#64 <<< 63 })] } }, 0, [0, 2] ++ zeros 40, 0, by decide⟩,
   ⟨63, zeros 12 ++ [0x88, 0xF7, 0, 1] ++ zeros 40,
      { up with tide := { up.tide with ptp := [(0, { configured := true, ports := 1#64 <<< 63 })] } }, 0, [0, 1] ++ zeros 40, 0, by decide⟩,
   ⟨3, { up with tide := { up.tide with ptp := [(3, { parent := some [] })] } }, by decide⟩,
   ⟨0, { up with tide := { up.tide with ptp := [(0, { configured := true, ctype := 1 })] } }, by decide⟩,
   ⟨0, { up with tide := { up.tide with ptp := [(0, { configured := true, ctype := 1, p2p := false })] } }, by decide⟩,
   ⟨0, { up with tide := { up.tide with ptp := [(0, { configured := true, ctype := 0 })] } }, by decide⟩,
   ⟨{ up with tide := { up.tide with refPresent := true } }, by decide⟩,
   ⟨{ up with tide := { up.tide with refPresent := true, freq := 3, st := .holdover } }, by decide⟩,
   ⟨{ up with tide := { up.tide with refPresent := false, st := .free, holdStart := none } }, by decide⟩,
   ⟨{ up with tide := { up.tide with refPresent := false, st := .holdover, freq := 3, holdStart := some 0 } }, by decide⟩,
   ⟨{ up with tide := { up.tide with st := .holdover } }, by decide⟩,
   ⟨{ up with tide := { up.tide with st := .acquire } }, by decide⟩,
   ⟨{ up with tide := { up.tide with pendUtc := some (0, 0) } }, 0, 0, by decide⟩,
   ⟨{ up with ph := { up.ph with ready := true } }, by decide⟩⟩

/-- States and operands that meet the hypotheses of each clause of BerthCommandsTakeEffect. -/
theorem witness_BerthCommandsTakeEffect :
    (∃ (rq : Req), ∃ p, ∃ (s : State), Served (cmdH 0x0201 16) rq s = true ∧ ((fun u => rq.u8 0 < 16 ∧ rq.u8 1 ≤ 1 ∧ createQps rq ≤ 4096
        ∧ createMrs rq % 16 = 0 ∧ createMrs rq ≤ 65536 ∧ rq.u32 8 ≤ 1048576 ∧ u.berthExists (rq.u8 0) = false
        ∧ u.glb.auditVf.toNat ≠ rq.u8 0 ∧ u.placeBerth (rq.u8 0) rq = some p) (accept rq (CmdSpec.code (cmdH 0x0201 16)) s)))
    ∧ (∃ (rq : Req), ∃ (s : State), Served (cmdH 0x0201 16) rq s = true ∧ ((fun u => rq.u8 0 < 16 ∧ rq.u8 1 ≤ 1 ∧ createQps rq ≤ 4096
        ∧ createMrs rq % 16 = 0 ∧ createMrs rq ≤ 65536 ∧ rq.u32 8 ≤ 1048576 ∧ u.berthExists (rq.u8 0) = true) (accept rq (CmdSpec.code
        (cmdH 0x0201 16)) s)))
    ∧ (∃ (rq : Req), ∃ (s : State), Served (cmdH 0x0203 8) rq s = true ∧ ((fun u => rq.u8 0 ≤ 63 ∧ rq.u8 1 ≤ 15 ∧ rq.u8 2 = 0
        ∧ u.bondMember (rq.u8 0) = false ∧ (u.portAt (rq.u8 0)).link = 0 ∧ u.berthActive (rq.u8 1) = true ∧ (u.ownerAt
        (rq.u8 0)).whole = none ∧ (u.ownerAt (rq.u8 0)).shares = []) (accept rq (CmdSpec.code (cmdH 0x0203 8)) s)))
    ∧ (∃ (rq : Req), ∃ (s : State), Served (cmdH 0x0203 8) rq s = true ∧ ((fun u => rq.u8 0 ≤ 63 ∧ rq.u8 1 ≤ 15 ∧ rq.u8 2 = 2
        ∧ u.bondMember (rq.u8 0) = false ∧ (u.portAt (rq.u8 0)).link = 0) (accept rq (CmdSpec.code (cmdH 0x0203 8)) s)))
    ∧ (∃ (rq : Req), ∃ (s : State), Served (cmdH 0x0203 8) rq s = true ∧ ((fun u => rq.u8 0 ≤ 63 ∧ rq.u8 1 ≤ 15 ∧ rq.u8 2 ≤ 2 ∧
        (u.bondMember (rq.u8 0) = true ∨ (u.portAt (rq.u8 0)).link ≠ 0)) (accept rq (CmdSpec.code (cmdH 0x0203 8)) s)))
    ∧ (∃ (rq : Req), ∃ v, ∃ (s : State), Served (cmdH 0x0204 8) rq s = true ∧ ((fun u => rq.u8 1 = 0 ∧ rq.u8 0 ≤ 63 ∧ rq.u8 2 ≤ 15
        ∧ rq.u8 3 ≤ 15 ∧ rq.u8 2 ≠ rq.u8 3 ∧ rq.u8 4 = 0 ∧ rq.u8 5 ≤ 63 ∧ u.berthActive (rq.u8 2) = true ∧ u.berthActive (rq.u8 3) = true
        ∧ u.bondMember (rq.u8 5) = false ∧ dropGangway (rq.u8 0) u = some v) (accept rq (CmdSpec.code (cmdH 0x0204 8)) s)))
    ∧ (∃ (rq : Req), ∃ v, ∃ (s : State), Served (cmdH 0x0204 8) rq s = true ∧ ((fun u => rq.u8 1 = 1 ∧ rq.u8 0 ≤ 63 ∧ dropGangway
        (rq.u8 0) u = some v) (accept rq (CmdSpec.code (cmdH 0x0204 8)) s)))
    ∧ (∃ (rq : Req), ∃ (s : State), Served (cmdH 0x0204 8) rq s = true ∧ ((fun u => rq.u8 1 = 1 ∧ rq.u8 0 ≤ 63 ∧ dropGangway
        (rq.u8 0) u = none) (accept rq (CmdSpec.code (cmdH 0x0204 8)) s)))
    ∧ (∃ (rq : Req), ∃ (s : State), Served (cmdHBA 0x0205 4) rq s = true ∧ ((fun u => rq.u8 0 < 16 ∧ u.berthExists (rq.u8 0) = true)
        (accept rq (CmdSpec.code (cmdHBA 0x0205 4)) s)))
    ∧ (∃ (rq : Req), ∃ (s : State), Served (cmdOwn 0x0206 4 0) rq s = true ∧ ((fun _ => rq.u8 0 < 16) (accept rq (CmdSpec.code
        (cmdOwn 0x0206 4 0)) s)))
    ∧ (∃ (rq : Req), ∃ (s : State), Served (cmdH 0x0207 4) rq s = true ∧ ((fun u => rq.u8 0 ≤ 16 ∧ (rq.u8 0 < 16 → u.berthExists
        (rq.u8 0) = false)) (accept rq (CmdSpec.code (cmdH 0x0207 4)) s)))
    ∧ (∃ (rq : Req), ∃ (s : State), Served (cmdH 0x0207 4) rq s = true ∧ ((fun u => rq.u8 0 < 16 ∧ u.berthExists (rq.u8 0) = true)
        (accept rq (CmdSpec.code (cmdH 0x0207 4)) s)))
    ∧ (∃ (rq : Req), ∃ (s : State), Served (cmdOwn 0x0208 4 0) rq s = true ∧ ((fun u => rq.u8 0 < 16 ∧ u.berthExists (rq.u8 0) = true)
        (accept rq (CmdSpec.code (cmdOwn 0x0208 4 0)) s)))
    ∧ (∃ (rq : Req), ∃ (s : State), Served (cmdH 0x0202 4) rq s = true ∧ ((fun u => rq.u8 0 < 16 ∧ (u.berthAt (rq.u8 0)).state = 1 ∧
        (u.berthAt (rq.u8 0)).destroyFn = none ∧ u.moveOf (rq.u8 0) = none ∧ u.hasFrames (rq.u8 0) = true) (accept rq (CmdSpec.code
        (cmdH 0x0202 4)) s)))
    ∧ (∃ (rq : Req), ∃ (s : State), Served (cmdH 0x0202 4) rq s = true ∧ ((fun u => rq.u8 0 < 16 ∧ (u.berthAt (rq.u8 0)).state = 1 ∧
        (u.berthAt (rq.u8 0)).destroyFn = none ∧ u.moveOf (rq.u8 0) = none ∧ u.hasFrames (rq.u8 0) = false) (accept rq (CmdSpec.code
        (cmdH 0x0202 4)) s))) :=
  ⟨⟨(rq (z 16)), 0, up, by decide⟩,
   ⟨rq ([15,1] ++ w2 0xFFFF ++ w4 65536 ++ w4 1048576 ++ z 4), bup, by decide⟩,
   ⟨rq ([1,15,0,0] ++ z 4), bup, by decide⟩,
   ⟨rq ([2,15,2,0] ++ z 4), bup, by decide⟩,
   ⟨rq ([63,0,2,0] ++ z 4), bup, by decide⟩,
   ⟨rq ([63,0,0,15,0,63] ++ z 2), _, bup, by decide, by decide, by decide, by decide, by decide, by decide, by decide, by decide,
      by decide, by decide, by decide, rfl⟩,
   ⟨rq ([63,1] ++ z 6), _, bup, by decide, by decide, by decide, rfl⟩,
   ⟨rq ([0,1] ++ z 6),
      { bup with glb := { bup.glb with gangway := [(0, { valid := true, src := 15, dst := 0, target := 63 })], owner := [(63, { whole := some 0 })] }, rsv := { bup.rsv with berth := [(15, { fsize := 1 })], ferry := [(0, { egPort := 63 })] } },
      by decide⟩,
   ⟨rq [15,0,0,0], bup, by decide⟩,
   ⟨(rq (z 4)), up, by decide⟩,
   ⟨(rq (z 4)), up, by decide⟩,
   ⟨rq [15,0,0,0], bup, by decide⟩,
   ⟨rq [15,0,0,0], bup, by decide⟩,
   ⟨rq [0,0,0,0], fup {}, by decide⟩,
   ⟨(rq (z 4)), { up with glb := { up.glb with berth := [(0, { state := 1, destroyFn := none })] } }, by decide⟩⟩

/-- States and operands that meet the hypotheses of each clause of BerthEventsTakeEffect. -/
theorem witness_BerthEventsTakeEffect :
    (∃ (b : Fin 16), ∃ (s : State), ((s.berthAt b.val).state = 2) ∧ ((s.berthAt b.val).destroyStep = 2))
    ∧ (∃ b, ∃ (s : State), ((s.chainAt b).signing = true ∨ s.sealRoom b = false))
    ∧ (∃ b, ∃ (s : State), ((s.chainAt b).signing = false) ∧ (s.sealRoom b = true))
    ∧ (∃ (b : Fin 16), ∃ (s : State), ∃ fn, ((s.berthAt b.val).state = 2) ∧ ((s.berthAt b.val).destroyFn = some fn) ∧
        ((s.berthAt b.val).destroyStep ≠ 2)) :=
  ⟨⟨0, { up with glb := { up.glb with berth := [(0, { state := 2, destroyStep := 2 })] } }, by decide⟩,
   ⟨0, { up with ledg := { up.ledg with chain := [(0, { signing := true })] } }, by decide⟩,
   ⟨0, { up with ledg := { up.ledg with chain := [(0, { signing := false })] } }, by decide⟩,
   ⟨0, { up with glb := { up.glb with berth := [(0, { state := 2, destroyFn := some 0 })] } }, 0, by decide⟩⟩

/-- States and operands that meet the hypotheses of each clause of RingsTakeEffect. -/
theorem witness_RingsTakeEffect :
    (∃ (rq : Req), ∃ (s : State), Served (cmdOwn 0x0807 32 0) rq s = true ∧ ((fun u => rq.u8 0 < 16 ∧ ringSizeOk (rq.u32 4) = true
        ∧ rq.u32 4 ≠ 0 ∧ rq.u64 8 % 4096 = 0 ∧ rq.u16 24 ≤ 1000 ∧ rq.u16 26 ≤ 256 ∧ rq.bit 1 7 = false ∧ 256 ≤ rq.u32 16
        ∧ rq.u32 16 ≤ 16384 ∧ rq.u32 16 % 256 = 0 ∧ rq.u32 20 ≤ 1000 ∧ (u.rxAt (rq.u8 0) (rq.u8 1 % 4)).size = 0 ∧ (u.rxAt (rq.u8 0)
        (rq.u8 1 % 4)).frame = none) (accept rq (CmdSpec.code (cmdOwn 0x0807 32 0)) s)))
    ∧ (∃ (rq : Req), ∃ (s : State), Served (cmdOwn 0x0807 32 0) rq s = true ∧ ((fun u => rq.u8 0 < 16 ∧ ringSizeOk (rq.u32 4) = true
        ∧ rq.u32 4 ≠ 0 ∧ rq.u64 8 % 4096 = 0 ∧ rq.u16 24 ≤ 1000 ∧ rq.u16 26 ≤ 256 ∧ rq.bit 1 7 = true ∧ rq.u8 2 ≤ 1 ∧ (u.txAt (rq.u8 0)
        (rq.u8 1 % 4)).pendCfg = none ∧ (isHarbour u rq = true ∨ (rq.u8 2 == 1) = (u.txAt (rq.u8 0) (rq.u8 1 % 4)).txOk) ∧ (u.txAt
        (rq.u8 0) (rq.u8 1 % 4)).size = 0 ∧ (u.txAt (rq.u8 0) (rq.u8 1 % 4)).gathering = false) (accept rq (CmdSpec.code
        (cmdOwn 0x0807 32 0)) s)))
    ∧ (∃ (rq : Req), ∃ (s : State), Served (cmdOwn 0x0807 32 0) rq s = true ∧ ((fun u => rq.u8 0 < 16 ∧ ringSizeOk (rq.u32 4) = true
        ∧ rq.u64 8 % 4096 = 0 ∧ rq.u16 24 ≤ 1000 ∧ rq.u16 26 ≤ 256 ∧ rq.bit 1 7 = true ∧ rq.u8 2 ≤ 1 ∧ (u.txAt (rq.u8 0)
        (rq.u8 1 % 4)).pendCfg = none ∧ isHarbour u rq = false ∧ (rq.u8 2 == 1) ≠ (u.txAt (rq.u8 0) (rq.u8 1 % 4)).txOk) (accept rq
        (CmdSpec.code (cmdOwn 0x0807 32 0)) s)))
    ∧ (∃ (rq : Req), ∃ (s : State), Served (cmdOwn 0x0807 32 0) rq s = true ∧ ((fun u => rq.u8 0 < 16 ∧ ringSizeOk (rq.u32 4) = true
        ∧ rq.u32 4 ≠ 0 ∧ rq.u64 8 % 4096 = 0 ∧ rq.u16 24 ≤ 1000 ∧ rq.u16 26 ≤ 256 ∧ rq.bit 1 7 = false ∧ 256 ≤ rq.u32 16
        ∧ rq.u32 16 ≤ 16384 ∧ rq.u32 16 % 256 = 0 ∧ rq.u32 20 ≤ 1000 ∧ (u.rxAt (rq.u8 0) (rq.u8 1 % 4)).size ≠ 0 ∧ rq.u32 4 ≠ (u.rxAt
        (rq.u8 0) (rq.u8 1 % 4)).size) (accept rq (CmdSpec.code (cmdOwn 0x0807 32 0)) s)))
    ∧ (∃ (rq : Req), ∃ (s : State), Served (cmdOwn 0x0808 4 0) rq s = true ∧ ((fun _ => rq.u8 0 < 16 ∧ rq.bit 1 7 = false) (accept rq
        (CmdSpec.code (cmdOwn 0x0808 4 0)) s)))
    ∧ (∃ (rq : Req), ∃ (s : State), Served (cmdOwn 0x0808 4 0) rq s = true ∧ ((fun _ => rq.u8 0 < 16 ∧ rq.bit 1 7 = true) (accept rq
        (CmdSpec.code (cmdOwn 0x0808 4 0)) s)))
    ∧ (∃ (b : Fin 16), ∃ (r : Fin 4), ∃ (v : BitVec 32), ∃ (s : State), (s.vfLive b.val = true) ∧ ((s.rxAt b.val r.val).size ≠ 0) ∧
        ((BitVec.ofNat 16 v.toNat - (s.rxAt b.val r.val).firstOpen).toNat ≤ (s.rxAt b.val r.val).size))
    ∧ (∃ (b : Fin 16), ∃ (r : Fin 4), ∃ (v : BitVec 32), ∃ (s : State), (s.vfLive b.val = true) ∧ (((s.rxAt b.val r.val).size = 0 ∨
        (s.rxAt b.val r.val).size < (BitVec.ofNat 16 v.toNat - (s.rxAt b.val r.val).firstOpen).toNat)))
    ∧ (∃ (b : Fin 16), ∃ (r : Fin 4), ∃ (v : BitVec 32), ∃ (s : State), (s.vfLive b.val = true) ∧ ((s.txAt b.val r.val).size ≠ 0) ∧
        ((BitVec.ofNat 16 v.toNat - (s.txAt b.val r.val).firstOpen).toNat ≤ (s.txAt b.val r.val).size))
    ∧ (∃ (b : Fin 16), ∃ (r : Fin 4), ∃ (v : BitVec 32), ∃ (s : State), (s.vfLive b.val = true) ∧ (((s.txAt b.val r.val).size = 0 ∨
        (s.txAt b.val r.val).size < (BitVec.ofNat 16 v.toNat - (s.txAt b.val r.val).firstOpen).toNat)))
    ∧ (∃ (b : Fin 16), ∃ (r : Fin 4), ∃ desc, ∃ data, ∃ (s : State), ((s.txAt b.val r.val).size ≠ 0) ∧ ((s.txAt b.val r.val).prod ≠
        (s.txAt b.val r.val).next) ∧ ((txDescOf desc data).skipped = false) ∧ (bitOf (byteAt desc 10) 0 = true) ∧
        ((txDescOf desc data).eop = false) ∧ ((s.txAt b.val r.val).gathering = false))
    ∧ (∃ (b : Fin 16), ∃ (r : Fin 4), ∃ desc, ∃ data, ∃ (s : State), ((s.txAt b.val r.val).size ≠ 0) ∧ ((s.txAt b.val r.val).prod ≠
        (s.txAt b.val r.val).next) ∧ ((txDescOf desc data).skipped = false) ∧ (bitOf (byteAt desc 10) 0 = false) ∧
        ((txDescOf desc data).eop = false) ∧ ((s.txAt b.val r.val).gathering = true))
    ∧ (∃ (b : Fin 16), ∃ (r : Fin 4), ∃ desc, ∃ data, ∃ (s : State), ((s.txAt b.val r.val).size ≠ 0) ∧ ((s.txAt b.val r.val).prod ≠
        (s.txAt b.val r.val).next) ∧ ((txDescOf desc data).skipped = false) ∧ (bitOf (byteAt desc 10) 0 = false) ∧
        ((s.txAt b.val r.val).gathering = false))
    ∧ (∃ (s : State), ∃ b, ∃ r, ∃ (bufs : List (BitVec 64)), (rotateFind 16 (readyHost s).rsv.hostNext (fun b =>
        ((readyHost s).nextRing b).isSome) = some b) ∧ ((readyHost s).nextRing b = some r) ∧ (bufs ≠ []) ∧
        (((readyHost s).rxAt b r).frame = none))
    ∧ (∃ (b : Fin 16), ∃ (r : Fin 4), ∃ (s : State), ((s.rxAt b.val r.val).waiting = true))
    ∧ (∃ (b : Fin 16), ∃ (r : Fin 4), ∃ (s : State), ((s.rxAt b.val r.val).armed = true) ∧ (0 < (s.rxAt b.val r.val).unsig) ∧
        ((s.rxAt b.val r.val).itrUs ≠ 0))
    ∧ (∃ (b : Fin 16), ∃ (r : Fin 4), ∃ (s : State), ((s.txAt b.val r.val).armed = true) ∧ (0 < (s.txAt b.val r.val).unsig) ∧
        ((s.txAt b.val r.val).itrUs ≠ 0)) :=
  ⟨⟨rq ([15,3] ++ z 2 ++ w4 32768 ++ z 8 ++ w4 16384 ++ w4 1000 ++ w2 1000 ++ w2 256 ++ z 4), up, by decide⟩,
   ⟨rq ([15,0x83,1,0] ++ w4 64 ++ z 16 ++ w2 1000 ++ w2 256 ++ z 4), up, by decide⟩,
   ⟨rqb ([0,0x83,1,0] ++ w4 64 ++ z 16 ++ w2 1000 ++ w2 256 ++ z 4), bup, by decide⟩,
   ⟨rq ([15,3] ++ z 2 ++ w4 128 ++ z 8 ++ w4 256 ++ z 12), { up with host := { up.host with rx := [(63, { size := 64 })] } }, by decide⟩,
   ⟨(rq (z 4)), up, by decide⟩,
   ⟨rq [15,0x83,0,0], up, by decide⟩,
   ⟨15, 3, 64, { bup with host := { bup.host with rx := [(63, { size := 64 })] } }, by decide⟩,
   ⟨15, 3, 65, { bup with host := { bup.host with rx := [(63, { size := 64 })] } }, by decide⟩,
   ⟨15, 3, 64, { bup with host := { bup.host with tx := [(63, { size := 64 })] } }, by decide⟩,
   ⟨15, 3, 65, { bup with host := { bup.host with tx := [(63, { size := 64 })] } }, by decide⟩,
   ⟨15, 3, (zeros 8 ++ [1, 0, 1] ++ zeros 21), (some [0]), { bup with host := { bup.host with tx := [(63, { size := 64, prod := 1 })] } },
      by decide⟩,
   ⟨15, 3, (zeros 8 ++ [1, 0, 0] ++ zeros 21), (some [0]),
      { bup with host := { bup.host with tx := [(63, { size := 64, prod := 1, gathering := true })] } }, by decide⟩,
   ⟨15, 3, (zeros 8 ++ [1, 0, 2] ++ zeros 21), (some [0]), { bup with host := { bup.host with tx := [(63, { size := 64, prod := 1 })] } },
      by decide⟩,
   ⟨{ bup with host := { bup.host with rx := [(0, { size := 64, prod := 1 })] }, rsv := { bup.rsv with queue := [(592, { entries := [0] })] }, frames := [(0, { ended := true })] }, 0, 0, [0],
      by decide +kernel⟩,
   ⟨15, 3, { bup with host := { bup.host with rx := [(63, { waiting := true })] } }, by decide⟩,
   ⟨15, 3, { bup with host := { bup.host with rx := [(63, { armed := true, unsig := 1, itrUs := 1 })] } }, by decide⟩,
   ⟨15, 3, { bup with host := { bup.host with tx := [(63, { armed := true, unsig := 1, itrUs := 1 })] } }, by decide⟩⟩

/-- States and operands that meet the hypotheses of each clause of FrameArrivalTakesEffect. -/
theorem witness_FrameArrivalTakesEffect :
    (∃ (p : Fin 64), ∃ bytes, ∃ (s : State), ∃ b, ∃ e, (bytes ≠ []) ∧ (s.receives p.val = true) ∧ (fieldBe bytes 12 2 ≠ 0x8808) ∧
        (s.frameBerth p.val (outerVlan bytes) = some b) ∧ (s.chooseEngine = some e))
    ∧ (∃ (s : State), (s.chooseEngine = none) ∧ (s.pump.holding.length < 32))
    ∧ (∃ (p : Fin 64), ∃ bytes, ∃ (s : State), (bytes ≠ []) ∧ (s.receives p.val = true) ∧ (fieldBe bytes 12 2 ≠ 0x8808) ∧
        (s.frameBerth p.val (outerVlan bytes) = none))
    ∧ (∃ (s : State), ∃ f, ∃ rest, ∃ e, (s.pump.holding = f :: rest) ∧ (s.chooseEngine = some e))
    ∧ (∃ f, ∃ (s : State), ∃ u, (s.hasFrame f = true) ∧ ((s.frameAt f).ended = false) ∧ ((s.frameAt f).cells.length < cellsOf
        (s.frameAt f).len) ∧ ((s.frameAt f).closed = false) ∧ ((s.frameAt f).copyLost = false) ∧ (takeCells f
        ((s.frameAt f).cells.length + 1) 40 s = (u, true)))
    ∧ (∃ f, ∃ (s : State), (s.hasFrame f = true) ∧ ((s.frameAt f).isRiver = true) ∧ ((s.frameAt f).lookedUp = false) ∧
        ((s.frameAt f).routed = false) ∧ ((s.frameAt f).closed = false) ∧ ((s.frameAt f).copyLost = false) ∧ (s.launchSet
        (s.frameAt f).berth (s.frameAt f).inPort ((s.frameAt f).bytes.take 6) = []) ∧ (s.launchBroken (s.frameAt f).berth
        (s.frameAt f).inPort ((s.frameAt f).bytes.take 6) = false))
    ∧ (∃ f, ∃ (s : State), ∃ i, ∃ rest, (s.hasFrame f = true) ∧ ((s.frameAt f).isRiver = true) ∧ ((s.frameAt f).lookedUp = false) ∧
        ((s.frameAt f).routed = false) ∧ ((s.frameAt f).closed = false) ∧ (s.launchSet (s.frameAt f).berth (s.frameAt f).inPort
        ((s.frameAt f).bytes.take 6) = i :: rest) ∧ (s.mayLaunch f (Tab.look {} s.rsv.ferry i).egPort.toNat (Tab.look
        {} s.rsv.ferry i).tc.toNat = true))
    ∧ (∃ f, ∃ (s : State), (s.hasFrame f = true) ∧ ((s.frameAt f).lset.isSome = true) ∧ ((s.frameAt f).confirmed = none))
    ∧ (∃ f, ∃ (s : State), (s.hasFrame f = true) ∧ ((s.frameAt f).isRiver = true) ∧ ((s.frameAt f).ended = false) ∧ (9216 <
        (s.frameAt f).len))
    ∧ (∃ f, ∃ (s : State), (s.hasFrame f = true) ∧ ((s.frameAt f).isRiver = true) ∧ ((s.frameAt f).ended = false) ∧
        ((s.frameAt f).len ≤ 9216)) :=
  ⟨⟨0, zeros 64, bup, 0, 0, by decide⟩,
   ⟨{ up with pump := { up.pump with engine := (List.range 16).map (fun e => (e, { inRotation := false })) } }, by decide⟩,
   ⟨63, zeros 64, bup, by decide⟩,
   ⟨{ up with pump := { up.pump with holding := [0] } }, 0, [], 0, by decide⟩,
   ⟨0, fup { bytes := [0] }, _, by decide, by decide, by decide, by decide, by decide, rfl⟩,
   ⟨0, fup { bytes := zeros 6 }, by decide⟩,
   ⟨0,
      { (fup { bytes := zeros 14 }) with rsv := { (fup { bytes := zeros 14 }).rsv with berth := [(0, { fsize := 1 })], ferry := [(0, { valid := true, dmac := zeros 6, egPort := 63 })] } }, 0, [],
      by decide⟩,
   ⟨0, { up with frames := [(0, { lset := some (0, 0), confirmed := none })] }, by decide⟩,
   ⟨0, fup { bytes := zeros 9217 }, by decide +kernel⟩,
   ⟨0, fup { bytes := zeros 64 }, by decide⟩⟩

/-- States and operands that meet the hypotheses of each clause of FrameJudgingTakesEffect. -/
theorem witness_FrameJudgingTakesEffect :
    (∃ f, ∃ (s : State), ∃ e, ∃ r, ((s.frameAt f).engine = some e) ∧ (s.hasFrame f = true) ∧ ((s.frameAt f).committed = false) ∧
        (s.parseFrame f e = some r))
    ∧ (∃ f, ∃ (s : State), ((s.frameAt f).parse.order = false))
    ∧ (∃ f, ∃ (s : State), ∃ u, ∃ res, (s.hasFrame f = true) ∧ ((s.frameAt f).committed = true) ∧ ((s.frameAt f).parse.cls = 0) ∧
        ((s.frameAt f).judged = false) ∧ ((s.frameAt f).strn = none) ∧ (strnLookup (s.frameAt f).berth (ruleKey (s.frameAt f).parse
        (((settleSet (s.frameAt f).berth s).strnB (s.frameAt f).berth).groups ((s.frameAt f).rate == 2) (s.frameAt f).bytes)
        (s.frameAt f).inPort) (some f) (settleSet (s.frameAt f).berth s) = (u, res)))
    ∧ (∃ (b : Nat), ∃ (key : List Byte), ∃ (s : State), (s.matchesFrom b 0 key = []))
    ∧ (∃ (b : Nat), ∃ (key : List Byte), ∃ (s : State), ∃ i, (s.matchesFrom b 0 key = [i]))
    ∧ (∃ (b : Fin 16), ∃ (slot : Fin 64), ∃ (s : State), ((s.ctxAt (64 * b.val + slot.val)).live = true))
    ∧ (∃ (k : Fin 4096), ∃ (s : State), ((Tab.look {} s.pump.frag k.val).src ≠ []))
    ∧ (∃ f, ∃ (s : State), ∃ res, ∃ j, (s.hasFrame f = true) ∧ ((s.frameAt f).committed = true) ∧ ((s.frameAt f).parse.cls = 0) ∧
        ((s.frameAt f).judged = false) ∧ ((s.frameAt f).strn = some res) ∧ ((s.frameAt f).parse.order = true) ∧ (judge s
        (s.frameAt f).berth (s.frameAt f).parse.toOrder
        { full := (s.frameAt f).slot == 2, timeFail := (s.frameAt f).tfcFail, strainer := res.toNat } = j) ∧ ((j.verdict ≠ 3 ∨ (s.weirB
        (s.frameAt f).berth).held.length < (s.weirB (s.frameAt f).berth).holdMax.toNat)))
    ∧ (∃ f, ∃ (s : State), ∃ res, ∃ j, (s.hasFrame f = true) ∧ ((s.frameAt f).committed = true) ∧ ((s.frameAt f).parse.cls = 0) ∧
        ((s.frameAt f).judged = false) ∧ ((s.frameAt f).strn = some res) ∧ ((s.frameAt f).parse.order = true) ∧ (judge s
        (s.frameAt f).berth (s.frameAt f).parse.toOrder
        { full := (s.frameAt f).slot == 2, timeFail := (s.frameAt f).tfcFail, strainer := res.toNat } = j) ∧ (j.verdict = 3) ∧ ((s.weirB
        (s.frameAt f).berth).holdMax.toNat ≤ (s.weirB (s.frameAt f).berth).held.length))
    ∧ (∃ f, ∃ (s : State), ∃ res, (s.hasFrame f = true) ∧ ((s.frameAt f).committed = true) ∧ ((s.frameAt f).parse.cls = 0) ∧
        ((s.frameAt f).judged = false) ∧ ((s.frameAt f).strn = some res) ∧ ((s.frameAt f).parse.order = false))
    ∧ (∃ f, ∃ (s : State), (s.hasFrame f = true) ∧ ((s.frameAt f).committed = true) ∧ ((s.frameAt f).fwd = none) ∧
        ((s.frameAt f).isRiver = true) ∧ (s.isRdma (s.frameAt f).berth (s.frameAt f).inPort (s.frameAt f).bytes = true))
    ∧ (∃ f, ∃ (s : State), ∃ u, ∃ o, (s.hasFrame f = true) ∧ ((s.frameAt f).committed = true) ∧ ((s.frameAt f).fwd = none) ∧
        ((s.frameAt f).isRiver = true) ∧ (s.isRdma (s.frameAt f).berth (s.frameAt f).inPort (s.frameAt f).bytes = false) ∧ (forward
        (s.frameAt f).berth (s.frameAt f).parse (s.frameAt f).bytes s = (u, o))) :=
  ⟨⟨0, fup { bytes := zeros 64, engine := some 0 }, 0, _, by decide, by decide, by decide, rfl⟩,
   ⟨0, up, by decide⟩,
   ⟨0, fup { bytes := zeros 64, committed := true }, _, _, by decide, by decide, by decide, by decide, by decide, rfl⟩,
   ⟨0, [], up, by decide⟩,
   ⟨0, [], { up with strn := { up.strn with berth := [(0, { rsize := 1 })], rule := [(0, { ruleId := 1 })] } }, 0, by decide⟩,
   ⟨0, 0, { up with strn := { up.strn with ctx := [(0, { live := true })] } }, by decide⟩,
   ⟨4095, { up with pump := { up.pump with frag := [(4095, { src := [0] })] } }, by decide⟩,
   ⟨0, fup { bytes := zeros 64, committed := true, strn := some 0, parse := { order := true } }, _, _, by decide, by decide, by decide,
      by decide, rfl, by decide, rfl, by decide⟩,
   ⟨0, hup, _, _, by decide, by decide, by decide, by decide, rfl, by decide, rfl, by decide +kernel, by decide⟩,
   ⟨0, { up with frames := [(0, { committed := true, judged := false, strn := some 0 })] }, 0, by decide⟩,
   ⟨0,
      { (fup { committed := true, bytes := zeros 12 ++ [8, 0, 0x45] ++ zeros 8 ++ [17] ++ zeros 10 ++ [0, 0, 0x12, 0xB7] ++ zeros 4 }) with rdma := { (fup { committed := true, bytes := zeros 12 ++ [8, 0, 0x45] ++ zeros 8 ++ [17] ++ zeros 10 ++ [0, 0, 0x12, 0xB7] ++ zeros 4 }).rdma with qp := [(0, { used := true, lip := zeros 16 })] } },
      by decide⟩,
   ⟨0, fup { bytes := zeros 64, committed := true }, _, _, by decide, by decide, by decide, by decide, by decide, rfl⟩⟩

/-- States and operands that meet the hypotheses of each clause of FrameDepartureTakesEffect. -/
theorem witness_FrameDepartureTakesEffect :
    (∃ f, ∃ (s : State), (s.hasFrame f = true) ∧ ((s.frameAt f).onWire = true) ∧ ((s.frameAt f).decided = false) ∧
        ((s.frameAt f).confirmed = some true) ∧ ((s.frameAt f).failed = false) ∧ ((s.frameAt f).judged = true) ∧
        ((s.frameAt f).verdict = 1) ∧ (s.sump.safe = false) ∧ ((s.frameAt f).safeStomp = false))
    ∧ (∃ (x : Frame), (x.safeStomp = false) ∧ (x.confirmed = some false))
    ∧ (∃ (x : Frame), (x.safeStomp = false) ∧ (x.confirmed = some true) ∧ (x.failed = false) ∧ (x.judged = false))
    ∧ (∃ (x : Frame), (x.safeStomp = false) ∧ (x.confirmed = some true) ∧ (x.failed = false) ∧ (x.judged = true) ∧ (x.verdict = 2))
    ∧ (∃ (x : Frame), (x.safeStomp = false) ∧ (x.confirmed = some true) ∧ (x.failed = false) ∧ (x.judged = true) ∧ (x.verdict = 3))
    ∧ (∃ f, ∃ (s : State), (s.hasFrame f = true) ∧ ((s.frameAt f).awaitsQueue = true) ∧ ((s.frameAt f).lset = none) ∧
        ((s.frameAt f).copyLost = false) ∧ ((s.frameAt f).unparsed = false) ∧ ((s.frameAt f).committed = true) ∧
        ((s.frameAt f).parse.cls = 0) ∧ ((s.frameAt f).judged = true) ∧ ((s.frameAt f).fwd.isSome = true) ∧ ((s.frameAt f).verdict = 1) ∧
        ((s.frameAt f).canSend = true))
    ∧ (∃ f, ∃ (s : State), (s.hasFrame f = true) ∧ ((s.frameAt f).awaitsQueue = true) ∧ ((s.frameAt f).lset = none) ∧
        ((s.frameAt f).copyLost = false) ∧ ((s.frameAt f).unparsed = false) ∧ ((s.frameAt f).committed = true) ∧
        ((s.frameAt f).parse.cls = 0) ∧ ((s.frameAt f).judged = true) ∧ ((s.frameAt f).fwd.isSome = true) ∧ ((s.frameAt f).verdict = 2) ∧
        (s.isRdma (s.frameAt f).berth (s.frameAt f).inPort (s.frameAt f).bytes = false))
    ∧ (∃ q, ∃ (s : State), ((s.queueAt q).qmax.toNat ≤ s.queueDepth q))
    ∧ (∃ q, ∃ (s : State), (s.queueDepth q < (s.queueAt q).qmax.toNat))
    ∧ (∃ (p : Fin 64), ∃ (s : State), ∃ u, ∃ src, ((s.egressAt p.val).busy = none) ∧ (s.mayStart p.val = true) ∧
        (((s.portAt p.val).link = 3 ∨ (s.portAt p.val).resumed = false ∨ (s.quadAt (p.val / 4)).synth ≠ 0)) ∧ ((s.quadAt
        (p.val / 4)).synth ≠ 1) ∧ (selectSource p.val (readyPort p.val s) = (u, some src)))
    ∧ (∃ (p : Fin 64), ∃ (s : State), ((s.egressAt p.val).busy = none) ∧ ((s.portAt p.val).link ≠ 3) ∧ ((s.portAt p.val).resumed = true) ∧
        ((s.quadAt (p.val / 4)).synth = 0))
    ∧ (∃ p, ∃ (s : State), ∃ f, ((s.ferryReady p) = some f))
    ∧ (∃ (s : State), ((∀ n, s.requests n = [])))
    ∧ (∃ (p : Fin 64), ∃ (s : State), ∃ f, ∃ q, ((s.egressAt p.val).busy = some (f, q)))
    ∧ (∃ (p : Fin 64), ∃ (s : State), ∃ f, ∃ q, ((s.egressAt p.val).busy = some (f, q)) ∧ (q ≠ ferrySource))
    ∧ (∃ (g : Fin 32), ∃ (s : State), (s.rsv.banks.getLsbD g.val = true))
    ∧ (∃ f, ∃ (s : State), ∃ q, ((s.frameAt f).queued = [q]) ∧ (q < 512) ∧ (s.settling (q / 8) = true))
    ∧ (∃ f, ∃ (s : State), (s.hasFrame f = true) ∧ ((s.frameAt f).fate = true) ∧ ((s.frameAt f).isOrder = true))
    ∧ (∃ f, ∃ (s : State), (s.hasFrame f = true) ∧ ((s.frameAt f).holdId.isSome = true)) :=
  ⟨⟨0, fup { onWire := true, confirmed := some true, judged := true, verdict := 1 }, by decide⟩,
   ⟨{ confirmed := some false }, by decide⟩,
   ⟨{ confirmed := some true }, by decide⟩,
   ⟨{ confirmed := some true, judged := true, verdict := 2 }, by decide⟩,
   ⟨{ confirmed := some true, judged := true, verdict := 3 }, by decide⟩,
   ⟨0, fup { bytes := zeros 64, ended := true, committed := true, judged := true, verdict := 1, fwd := some 0 }, by decide⟩,
   ⟨0, fup { bytes := zeros 64, ended := true, committed := true, judged := true, verdict := 2, fwd := some 0 }, by decide⟩,
   ⟨511, { up with rsv := { up.rsv with queue := [(511, { qmax := 0 })] } }, by decide⟩,
   ⟨0, up, by decide⟩,
   ⟨0,
      { (fup { bytes := zeros 64, ended := true }) with rsv := { (fup { bytes := zeros 64, ended := true }).rsv with queue := [(7, { entries := [0] })] } }, _, _,
      by decide, by decide, by decide, by decide, rfl⟩,
   ⟨0,
      { up with rsv := { up.rsv with egress := [(0, { busy := none })] }, port := [(0, { resumed := true })], quad := [(0, { synth := 0 })] },
      by decide⟩,
   ⟨63, { up with rsv := { up.rsv with egress := [(63, { fifo := [0] })] } }, 0, by decide⟩,
   ⟨up, fun n => by simp [State.requests, State.nextRead, State.egressAt, up, State.reset, Tab.look]⟩,
   ⟨63, { up with rsv := { up.rsv with egress := [(63, { busy := some (0, 0) })] } }, 0, 0, by decide⟩,
   ⟨63, { up with rsv := { up.rsv with egress := [(63, { busy := some (0, 511) })] } }, 0, 511, by decide⟩,
   ⟨0, up, by decide⟩,
   ⟨0, { (fup { queued := [511] }) with quad := [(15, { synth := 1 })] }, 511, by decide⟩,
   ⟨0, fup { fate := true, committed := true, parse := { order := true } }, by decide⟩,
   ⟨0, { up with frames := [(0, { holdId := some 0 })] }, by decide⟩⟩

/-- States and operands that meet the hypotheses of each clause of QueueingCommandsTakeEffect. -/
theorem witness_QueueingCommandsTakeEffect :
    (∃ (rq : Req), ∃ (s : State), Served (cmdOwn 0x0801 24 0) rq s = true ∧ ((fun u => rq.u8 0 < 16 ∧ rq.u8 1 = 0 ∧ u.inFerryRange
        (rq.u8 0) (rq.u16 2) = true ∧ ferryFieldsOk rq = true ∧ u.hasPort (rq.u8 0) (rq.u8 4) = true ∧ u.mayUsePort (rq.u8 0) (rq.u8 5)
        (rq.u8 6) = true ∧ u.launchSet (rq.u8 0) (rq.u8 4) (rq.bytes 8 6) = []) (accept rq (CmdSpec.code (cmdOwn 0x0801 24 0)) s)))
    ∧ (∃ (rq : Req), ∃ (s : State), Served (cmdOwn 0x0801 24 0) rq s = true ∧ ((fun u => rq.u8 0 < 16 ∧ rq.u8 1 = 1 ∧ u.inFerryRange
        (rq.u8 0) (rq.u16 2) = true) (accept rq (CmdSpec.code (cmdOwn 0x0801 24 0)) s)))
    ∧ (∃ (rq : Req), ∃ (s : State), Served (cmdOwn 0x0801 24 0) rq s = true ∧ ((fun u => rq.u8 0 < 16 ∧ rq.u8 1 = 0 ∧ u.inFerryRange
        (rq.u8 0) (rq.u16 2) = true ∧ ferryFieldsOk rq = true ∧ u.mayUsePort (rq.u8 0) (rq.u8 5) (rq.u8 6) = false) (accept rq
        (CmdSpec.code (cmdOwn 0x0801 24 0)) s)))
    ∧ (∃ (rq : Req), ∃ (s : State), Served (cmdH 0x0802 16) rq s = true ∧ ((fun u => rq.u8 0 < 16 ∧ rq.u16 2 ≤ 8191
        ∧ rq.u16 2 + rq.u16 4 ≤ 8192 ∧ rq.u32 8 ≤ 253952 ∧ rq.u32 12 ≤ 262144 ∧ (∀ o, o < 16 → o ≠ rq.u8 0 → overlaps (rq.u16 2) (rq.u16 4)
        (u.rsvB o).fbase (u.rsvB o).fsize = false) ∧ (((List.range 16).filter (· ≠ rq.u8 0)).map (fun o => (u.rsvB o).guar)).foldl (· + ·)
        (rq.u32 8) ≤ 253952) (accept rq (CmdSpec.code (cmdH 0x0802 16)) s)))
    ∧ (∃ (rq : Req), ∃ (s : State), Served { cmdHB 0x0803 12 with own := ownQueue } rq s = true ∧ ((fun u => rq.u16 0 < 656 ∧ rq.u8 2 ≤ 1
        ∧ rq.u8 3 ≤ 1 ∧ 64 ≤ rq.u32 4 ∧ rq.u32 4 ≤ 1048576 ∧ rq.u32 8 ≤ 262144 ∧ (isHarbour u rq = true ∨ (rq.u8 3 == 1) = (u.queueAt
        (rq.u16 0)).isSafeStop (rq.u16 0)) ∧ (512 ≤ rq.u16 0 ∨ (u.egressAt (rq.u16 0 / 8)).busy = none)) (accept rq (CmdSpec.code
        { cmdHB 0x0803 12 with own := ownQueue }) s)))
    ∧ (∃ (rq : Req), ∃ (s : State), Served { cmdHB 0x0803 12 with own := ownQueue } rq s = true ∧ ((fun u => rq.u16 0 < 512 ∧ rq.u8 2 ≤ 1
        ∧ rq.u8 3 ≤ 1 ∧ 64 ≤ rq.u32 4 ∧ rq.u32 4 ≤ 1048576 ∧ rq.u32 8 ≤ 262144 ∧ (isHarbour u rq = true ∨ (rq.u8 3 == 1) = (u.queueAt
        (rq.u16 0)).isSafeStop (rq.u16 0)) ∧ (u.egressAt (rq.u16 0 / 8)).busy.isSome = true) (accept rq (CmdSpec.code
        { cmdHB 0x0803 12 with own := ownQueue }) s)))
    ∧ (∃ (rq : Req), ∃ (s : State), Served { cmdHB 0x0803 12 with own := ownQueue } rq s = true ∧ ((fun u => rq.u16 0 < 656 ∧ rq.u8 2 ≤ 1
        ∧ rq.u8 3 ≤ 1 ∧ 64 ≤ rq.u32 4 ∧ rq.u32 4 ≤ 1048576 ∧ rq.u32 8 ≤ 262144 ∧ isHarbour u rq = false ∧ (rq.u8 3 == 1) ≠ (u.queueAt
        (rq.u16 0)).isSafeStop (rq.u16 0)) (accept rq (CmdSpec.code { cmdHB 0x0803 12 with own := ownQueue }) s)))
    ∧ (∃ (rq : Req), ∃ (s : State), Served { cmdHB 0x0804 16 with own := ownQueue } rq s = true ∧ ((fun u => rq.u16 0 < 512 ∧ rq.u8 2 ≤ 1
        ∧ rq.u8 3 ≤ 1 ∧ rq.u32 4 ≤ u.targetSpeed (rq.u16 0) ∧ 64 ≤ rq.u32 8 ∧ rq.u32 8 ≤ 1048576 ∧ rq.u8 12 ≤ 32 ∧ (u.egressAt
        (rq.u16 0 / 8)).busy = none) (accept rq (CmdSpec.code { cmdHB 0x0804 16 with own := ownQueue }) s)))
    ∧ (∃ (x : Shaper), (x.everOn = false))
    ∧ (∃ (rq : Req), ∃ (s : State), Served (cmdH 0x0805 12) rq s = true ∧ ((fun _ => rq.u8 0 ≤ 63 ∧ rq.u8 1 ≤ 7 ∧ rq.u32 4 ≠ 0
        ∧ rq.u32 4 ≤ 262144 ∧ rq.u32 8 < rq.u32 4) (accept rq (CmdSpec.code (cmdH 0x0805 12)) s)))
    ∧ (∃ (rq : Req), ∃ (s : State), Served (cmdHBA 0x0806 0) rq s = true) :=
  ⟨⟨rq ([0,0] ++ w2 1 ++ [0,63,7,6] ++ z 6 ++ w2 0xFFFF ++ z 2 ++ [1] ++ z 5),
      { bup with glb := { bup.glb with owner := [(0, { whole := some 0 }), (63, { whole := some 0 })] }, rsv := { bup.rsv with berth := [(0, { fsize := 2 })] } },
      by decide⟩,
   ⟨rq ([0,1] ++ w2 1 ++ z 20), { bup with rsv := { bup.rsv with berth := [(0, { fsize := 2 })] } }, by decide⟩,
   ⟨rq ([0,0] ++ w2 1 ++ [0,63,7,6] ++ z 6 ++ w2 4094 ++ z 8), { bup with rsv := { bup.rsv with berth := [(0, { fsize := 2 })] } },
      by decide⟩,
   ⟨(rq (z 16)), up, by decide⟩,
   ⟨rq (w2 655 ++ [1,1] ++ w4 1048576 ++ w4 262144), up, by decide⟩,
   ⟨rq (w2 511 ++ [1,1] ++ w4 64 ++ w4 262144), { up with rsv := { up.rsv with egress := [(63, { busy := some (0, 0) })] } }, by decide⟩,
   ⟨rqb (w2 0 ++ [1,0] ++ w4 64 ++ w4 262144), bup, by decide⟩,
   ⟨rq (w2 511 ++ [1,1] ++ w4 0 ++ w4 1048576 ++ [32,0,0,0]), up, by decide⟩,
   ⟨{}, by decide⟩,
   ⟨rq ([63,7] ++ z 2 ++ w4 262144 ++ w4 262143), up, by decide⟩,
   ⟨(rq (z 0)), up, by decide⟩⟩

/-- States and operands that meet the hypotheses of each clause of PumpCommandsTakeEffect. -/
theorem witness_PumpCommandsTakeEffect :
    (∃ (rq : Req), ∃ (s : State), Served (cmdH 0x0503 8) rq s = true ∧ ((fun u => rq.u8 0 < 16 ∧ rq.u8 1 ≤ 1 ∧ rq.u16 2 ≤ 16383
        ∧ u.berthExists (rq.u8 0) = true) (accept rq (CmdSpec.code (cmdH 0x0503 8)) s)))
    ∧ (∃ (rq : Req), ∃ (s : State), Served (cmdH 0x0503 8) rq s = true ∧ ((fun u => rq.u8 0 < 16 ∧ rq.u8 1 ≤ 1 ∧ rq.u16 2 ≤ 16383
        ∧ u.berthExists (rq.u8 0) = false) (accept rq (CmdSpec.code (cmdH 0x0503 8)) s)))
    ∧ (∃ (rq : Req), ∃ (s : State), Served (cmdOwn 0x0504 8 0) rq s = true ∧ ((fun u => rq.u8 0 < 16 ∧ 1 ≤ rq.u8 1 ∧ rq.u8 1 ≤ 8
        ∧ rq.u8 2 ≤ 2 ∧ u.berthExists (rq.u8 0) = true) (accept rq (CmdSpec.code (cmdOwn 0x0504 8 0)) s)))
    ∧ (∃ (rq : Req), ∃ (s : State), Served (cmdOwn 0x0504 8 0) rq s = true ∧ ((fun u => rq.u8 0 < 16 ∧ 1 ≤ rq.u8 1 ∧ rq.u8 1 ≤ 8
        ∧ rq.u8 2 = 3 ∧ u.berthExists (rq.u8 0) = true ∧ rq.u16 4 ≤ 63 ∧ u.mayMirror (rq.u8 0) (rq.u16 4) = false) (accept rq (CmdSpec.code
        (cmdOwn 0x0504 8 0)) s)))
    ∧ (∃ (rq : Req), ∃ (s : State), Served (cmdH 0x0505 4) rq s = true ∧ ((fun _ => rq.u32 0 ≤ 1000000) (accept rq (CmdSpec.code
        (cmdH 0x0505 4)) s)))
    ∧ (∃ (rq : Req), ∃ (s : State), Served (cmdHBA 0x0506 0) rq s = true)
    ∧ (∃ (rq : Req), ∃ (s : State), Served (cmdH 0x0508 4) rq s = true ∧ ((fun u => rq.u32 0 = 0x50415443 ∧ u.fuse.patchLock = false)
        (accept rq (CmdSpec.code (cmdH 0x0508 4)) s)))
    ∧ (∃ (rq : Req), ∃ (s : State), Served (cmdH 0x0508 4) rq s = true ∧ ((fun _ => rq.u32 0 ≠ 0x50415443) (accept rq (CmdSpec.code
        (cmdH 0x0508 4)) s)))
    ∧ (∃ (rq : Req), ∃ (s : State), Served { cmdH 0x0501 8 with len := fun p => 8 + fieldLe p 4 2 } rq s = true ∧ ((fun u => rq.u16 4 ≠ 0
        ∧ rq.u16 4 ≤ 4072 ∧ rq.u32 0 + rq.u16 4 ≤ 74000 ∧ u.pump.patchLeft = []) (accept rq (CmdSpec.code
        { cmdH 0x0501 8 with len := fun p => 8 + fieldLe p 4 2 }) s)))
    ∧ (∃ (rq : Req), ∃ (s : State), Served (cmdH 0x0502 40) rq s = true ∧ ((fun u => (u.fuse.patchLock = false ∨ u.pump.lockUsed = false)
        ∧ u.pump.staged = true ∧ imageDigest u.pump.staging = rq.bytes 0 32 ∧ rq.u16 32 ≠ 0 ∧ rq.u8 34 ≠ u.pump.gen.toNat
        ∧ nanoReservedUsed u.pump.staging = false ∧ u.pump.patchLeft = []) (accept rq (CmdSpec.code (cmdH 0x0502 40)) s)))
    ∧ (∃ (rq : Req), ∃ (s : State), Served (cmdH 0x0502 40) rq s = true ∧ ((fun u => u.fuse.patchLock = true ∧ u.pump.lockUsed = true)
        (accept rq (CmdSpec.code (cmdH 0x0502 40)) s)))
    ∧ (∃ (rq : Req), ∃ (s : State), Served (cmdH 0x0507 4) rq s = true ∧ ((fun u => rq.u8 0 ≤ 15 ∧ rq.u8 1 = 0 ∧ u.pump.patchLeft.contains
        (rq.u8 0) = false ∧ (u.engineAt (rq.u8 0)).inRotation = true ∧ 1 < ((List.range 16).filter (fun i =>
        (u.engineAt i).inRotation)).length) (accept rq (CmdSpec.code (cmdH 0x0507 4)) s)))
    ∧ (∃ (rq : Req), ∃ (s : State), Served (cmdH 0x0507 4) rq s = true ∧ ((fun u => rq.u8 0 ≤ 15 ∧ rq.u8 1 = 0 ∧ u.pump.patchLeft.contains
        (rq.u8 0) = false ∧ ((List.range 16).filter (fun i => (u.engineAt i).inRotation)).length ≤ 1) (accept rq (CmdSpec.code
        (cmdH 0x0507 4)) s)))
    ∧ (∃ (rq : Req), ∃ (s : State), Served (cmdH 0x0507 4) rq s = true ∧ ((fun u => rq.u8 0 ≤ 15 ∧ rq.u8 1 = 1 ∧ u.pump.patchLeft.contains
        (rq.u8 0) = false ∧ (u.engineAt (rq.u8 0)).inRotation = false ∧ (u.engineAt (rq.u8 0)).ctx = []) (accept rq (CmdSpec.code
        (cmdH 0x0507 4)) s))) :=
  ⟨⟨rq ([15,1] ++ w2 16383 ++ z 4), bup, by decide⟩,
   ⟨(rq (z 8)), up, by decide⟩,
   ⟨rq ([15,8,2] ++ z 5), bup, by decide⟩,
   ⟨rq ([0,8,3,0] ++ w2 63 ++ z 2), bup, by decide⟩,
   ⟨(rq (z 4)), up, by decide⟩,
   ⟨(rq (z 0)), up, by decide⟩,
   ⟨rq (w4 0x50415443), up, by decide⟩,
   ⟨(rq (z 4)), up, by decide⟩,
   ⟨rq (w4 73999 ++ w2 1 ++ z 2 ++ [7]), up, by decide⟩,
   commit_witness (imageDigest []) (sha256_length _) rfl,
   ⟨(rq (z 40)), { up with fuse := { up.fuse with patchLock := true }, pump := { up.pump with lockUsed := true } }, by decide⟩,
   ⟨(rq (z 4)), { up with pump := { up.pump with engine := [(0, { inRotation := true })] } }, by decide⟩,
   ⟨rq [0,0,0,0], { up with pump := { up.pump with engine := (List.range 15).map (fun e => (e + 1, { inRotation := false })) } },
      by decide⟩,
   ⟨rq [15,1,0,0], { up with pump := { up.pump with engine := [(15, { inRotation := false })] } }, by decide⟩⟩

/-- States and operands that meet the hypotheses of each clause of PumpEventsTakeEffect. -/
theorem witness_PumpEventsTakeEffect :
    (∃ (e : Fin 16), ∃ (s : State), ((s.engineAt e.val).failed = false) ∧ ((s.engineAt e.val).ctx = []) ∧ (s.pump.patchLeft = []))
    ∧ (∃ (e : Fin 16), ∃ (s : State), ((s.engineAt e.val).failed = false))
    ∧ (∃ (s : State), ∃ e, (s.goldenEngine = some e))
    ∧ (∃ (s : State), ∃ e, ∃ rest, (s.pump.patchLeft = e :: rest) ∧ (s.pump.patchLoaded = false) ∧ ((s.engineAt e).ctx = []))
    ∧ (∃ e, ∃ (s : State), (s.configWritten (microInfo e s.pump.gen.toNat) = false))
    ∧ (∃ e, ∃ (s : State), ∃ rest, (s.configWritten (microInfo e s.pump.gen.toNat) = true) ∧ (s.pump.patchLeft = e :: rest))
    ∧ (∃ (s : State), ∃ e, ∃ rest, (s.pump.patchLeft = e :: rest) ∧ (s.pump.patchLoaded = true) ∧ (s.configWritten
        (microInfo e s.pump.gen.toNat) = false)) :=
  ⟨⟨0, { up with pump := { up.pump with engine := [(0, { failed := false })] } }, by decide⟩,
   ⟨0, { up with pump := { up.pump with engine := [(0, { failed := false })] } }, by decide⟩,
   ⟨{ up with pump := { up.pump with engine := [(15, { digest := [0] })] } }, 15, by decide⟩,
   ⟨{ up with pump := { up.pump with patchLeft := [15] } }, 15, [], by decide⟩,
   ⟨0, { up with ledg := { up.ledg with chain := [(15, { active := true, waiting := [[4] ++ zeros 11 ++ [1] ++ zeros 51] })] } },
      by decide⟩,
   ⟨15, { up with pump := { up.pump with patchLeft := [15] } }, [], by decide⟩,
   ⟨{ up with ledg := { up.ledg with chain := [(15, { active := true, waiting := [[4] ++ zeros 11 ++ [1] ++ zeros 51] })] }, pump := { up.pump with patchLeft := [0], patchLoaded := true } }, 0, [],
      by decide⟩⟩

/-- States and operands that meet the hypotheses of each clause of StrainerCommandsTakeEffect. -/
theorem witness_StrainerCommandsTakeEffect :
    (∃ (rq : Req), ∃ (s : State), Served (cmdH 0x0601 12) rq s = true ∧ ((fun u => rq.u8 0 < 16 ∧ rq.u16 2 ≤ 16383
        ∧ rq.u16 2 + rq.u16 4 ≤ 16384 ∧ rq.u16 6 ≤ 8192 ∧ rq.u16 8 ≤ 256 ∧ (∀ o, o < 16 → o ≠ rq.u8 0 → overlaps (rq.u16 2) (rq.u16 4)
        (u.strnB o).rbase (u.strnB o).rsize = false) ∧ (((List.range 16).filter (· ≠ rq.u8 0)).map (fun o => (u.strnB o).pquota)).foldl
        (· + ·) 0 + rq.u16 6 ≤ 8192 ∧ (((List.range 16).filter (· ≠ rq.u8 0)).map (fun o => (u.strnB o).squota)).foldl
        (· + ·) 0 + rq.u16 8 ≤ 256 ∧ u.moveOf (rq.u8 0) = none ∧ u.ctxLive (rq.u8 0) = false) (accept rq (CmdSpec.code
        (cmdH 0x0601 12)) s)))
    ∧ (∃ (rq : Req), ∃ (u : State), (rq.u16 2 ≠ (u.strnB (rq.u8 0)).rbase))
    ∧ (∃ (rq : Req), ∃ (s : State), Served (cmdOwn 0x0604 8 0) rq s = true ∧ ((fun _ => rq.u8 0 < 16 ∧ rq.u16 2 ≤ 256 ∧ rq.u8 4 ≤ 2
        ∧ rq.u16 6 ≤ 10000) (accept rq (CmdSpec.code (cmdOwn 0x0604 8 0)) s)))
    ∧ (∃ (rq : Req), ∃ (s : State), Served { cmdOwn 0x0602 8 0 with len := fun p => 8 + fieldLe p 2 2 } rq s = true ∧
        ((fun _ => rq.u8 0 < 16 ∧ rq.u16 2 ≠ 0 ∧ rq.u16 2 ≤ 4072 ∧ rq.u32 4 = 0) (accept rq (CmdSpec.code
        { cmdOwn 0x0602 8 0 with len := fun p => 8 + fieldLe p 2 2 }) s)))
    ∧ (∃ (rq : Req), ∃ (s : State), Served (cmdOwn 0x0603 36 0) rq s = true ∧ ((fun u => rq.u8 0 < 16 ∧ (u.strnB (rq.u8 0)).stagedLen ≠ 0
        ∧ sha256 (u.strnB (rq.u8 0)).staged = rq.bytes 4 32 ∧ Config.setPatterns (u.strnB (rq.u8 0)).staged ≤ (u.strnB (rq.u8 0)).pquota
        ∧ Config.setBlocks (u.strnB (rq.u8 0)).staged ≤ (u.strnB (rq.u8 0)).squota ∧ u.setWaits (rq.u8 0) = false) (accept rq (CmdSpec.code
        (cmdOwn 0x0603 36 0)) s)))
    ∧ (∃ (rq : Req), ∃ (s : State), Served (cmdOwn 0x0603 36 0) rq s = true ∧ ((fun u => rq.u8 0 < 16 ∧ (u.strnB (rq.u8 0)).stagedLen ≠ 0
        ∧ sha256 (u.strnB (rq.u8 0)).staged ≠ rq.bytes 4 32) (accept rq (CmdSpec.code (cmdOwn 0x0603 36 0)) s)))
    ∧ (∃ (rq : Req), ∃ (s : State), Served (cmdOwn 0x0605 92 0) rq s = true ∧ ((fun u => rq.u8 0 < 16 ∧ rq.u16 2 = (u.strnB
        (rq.u8 0)).rbase + (u.strnB (rq.u8 0)).rcount ∧ u.ruleLegal (rq.u8 0) (ruleOf rq) none = true ∧ u.moveOf (rq.u8 0) = none ∧
        (u.strnB (rq.u8 0)).rcount < (u.strnB (rq.u8 0)).rsize) (accept rq (CmdSpec.code (cmdOwn 0x0605 92 0)) s)))
    ∧ (∃ (rq : Req), ∃ (s : State), Served (cmdOwn 0x0605 92 0) rq s = true ∧ ((fun u => rq.u8 0 < 16 ∧ (u.strnB
        (rq.u8 0)).rbase ≤ rq.u16 2 ∧ rq.u16 2 < (u.strnB (rq.u8 0)).rbase + (u.strnB (rq.u8 0)).rcount ∧ u.ruleLegal (rq.u8 0)
        (ruleOf rq) none = true ∧ u.moveOf (rq.u8 0) = none ∧ (u.strnB (rq.u8 0)).rcount < (u.strnB (rq.u8 0)).rsize) (accept rq
        (CmdSpec.code (cmdOwn 0x0605 92 0)) s)))
    ∧ (∃ (rq : Req), ∃ (s : State), Served (cmdOwn 0x0605 92 0) rq s = true ∧ ((fun u => rq.u8 0 < 16 ∧ rq.u16 2 = (u.strnB
        (rq.u8 0)).rbase + (u.strnB (rq.u8 0)).rcount ∧ u.ruleLegal (rq.u8 0) (ruleOf rq) none = true ∧ u.moveOf (rq.u8 0) = none ∧
        (u.strnB (rq.u8 0)).rsize ≤ (u.strnB (rq.u8 0)).rcount) (accept rq (CmdSpec.code (cmdOwn 0x0605 92 0)) s)))
    ∧ (∃ (rq : Req), ∃ (s : State), Served (cmdOwn 0x0606 4 0) rq s = true ∧ ((fun u => rq.u8 0 < 16 ∧ u.usedIndex (rq.u8 0)
        (rq.u16 2) = true ∧ u.moveOf (rq.u8 0) = none ∧ rq.u16 2 + 1 = (u.strnB (rq.u8 0)).rbase + (u.strnB (rq.u8 0)).rcount) (accept rq
        (CmdSpec.code (cmdOwn 0x0606 4 0)) s)))
    ∧ (∃ (rq : Req), ∃ (s : State), Served (cmdOwn 0x0606 4 0) rq s = true ∧ ((fun u => rq.u8 0 < 16 ∧ u.usedIndex (rq.u8 0)
        (rq.u16 2) = true ∧ u.moveOf (rq.u8 0) = none ∧ rq.u16 2 + 1 ≠ (u.strnB (rq.u8 0)).rbase + (u.strnB (rq.u8 0)).rcount) (accept rq
        (CmdSpec.code (cmdOwn 0x0606 4 0)) s)))
    ∧ (∃ (rq : Req), ∃ (s : State), Served (cmdOwn 0x0607 92 0) rq s = true ∧ ((fun u => rq.u8 0 < 16 ∧ u.usedIndex (rq.u8 0)
        (rq.u16 2) = true ∧ u.ruleLegal (rq.u8 0) (ruleOf rq) (some (rq.u16 2)) = true ∧ u.moveOf (rq.u8 0) = none) (accept rq
        (CmdSpec.code (cmdOwn 0x0607 92 0)) s)))
    ∧ (∃ (rq : Req), ∃ (s : State), Served (cmdOwn 0x0608 48 0) rq s = true ∧ ((fun _ => rq.u8 0 < 16) (accept rq (CmdSpec.code
        (cmdOwn 0x0608 48 0)) s)))
    ∧ (∃ (rq : Req), ∃ b, ∃ k, ∃ j, ∃ (s : State), Served (cmdHB 0x0609 4) rq s = true ∧ ((fun u => u.handleCtx rq = some (b, k) ∧
        (u.matchesFrom b ((u.ctxAt k).pos + 1).toNat (u.ctxAt k).key).head? = some j) (accept rq (CmdSpec.code (cmdHB 0x0609 4)) s)))
    ∧ (∃ (rq : Req), ∃ b, ∃ k, ∃ (s : State), Served (cmdHB 0x0609 4) rq s = true ∧ ((fun u => u.handleCtx rq = some (b, k) ∧
        (u.matchesFrom b ((u.ctxAt k).pos + 1).toNat (u.ctxAt k).key).head? = none) (accept rq (CmdSpec.code (cmdHB 0x0609 4)) s)))
    ∧ (∃ (rq : Req), ∃ (s : State), Served (cmdHB 0x0609 4) rq s = true ∧ ((fun u => u.handleCtx rq = none) (accept rq (CmdSpec.code
        (cmdHB 0x0609 4)) s)))
    ∧ (∃ (rq : Req), ∃ (s : State), Served (cmdHBA 0x060A 0) rq s = true) :=
  ⟨⟨(rq (z 12)), up, by decide⟩,
   ⟨rq [0,0,1,0], up, by decide⟩,
   ⟨(rq (z 8)), up, by decide⟩,
   ⟨rq [15,0,1,0,0,0,0,0,7], up, by decide⟩,
   ⟨{ rq (z 36) with payload := zeros 4 ++ sha256 [0] },
      { up with strn := { up.strn with berth := [(0, { stagedLen := 1, pquota := Config.setPatterns [0], squota := Config.setBlocks [0] })] } },
      by decide +kernel, by decide +kernel, by decide, by decide +kernel, Nat.le_refl _, Nat.le_refl _, by decide⟩,
   ⟨rq (z 36), { up with strn := { up.strn with berth := [(0, { stagedLen := 1 })] } }, by decide +kernel⟩,
   ⟨rq (z 86 ++ w2 1 ++ w4 2), { up with strn := { up.strn with berth := [(0, { rsize := 1 })] } }, by decide⟩,
   ⟨rq (z 86 ++ w2 1 ++ w4 2), { up with strn := { up.strn with berth := [(0, { rsize := 2, rcount := 1 })] } }, by decide⟩,
   ⟨rq (z 86 ++ w2 1 ++ w4 2), up, by decide⟩,
   ⟨rq (z 4), { up with strn := { up.strn with berth := [(0, { rsize := 1, rcount := 1 })] } }, by decide⟩,
   ⟨rq (z 4), { up with strn := { up.strn with berth := [(0, { rsize := 2, rcount := 2 })] } }, by decide⟩,
   ⟨rq (z 86 ++ w2 1 ++ w4 2), { up with strn := { up.strn with berth := [(0, { rsize := 1, rcount := 1 })] } }, by decide⟩,
   ⟨(rq (z 48)), up, by decide⟩,
   ⟨rq [1,0,0,0], 0, 0, 0,
      { up with strn := { up.strn with berth := [(0, { rsize := 1, rcount := 1 })], rule := [(0, { ruleId := 1 })], ctx := [(0, { live := true, pos := -1 })] } },
      by decide⟩,
   ⟨rq [1,0,0,0], 0, 0, { up with strn := { up.strn with ctx := [(0, { live := true })] } }, by decide⟩,
   ⟨(rq (z 4)), up, by decide⟩,
   ⟨(rq (z 0)), up, by decide⟩⟩

/-- States and operands that meet the hypotheses of each clause of StrainerEventsTakeEffect. -/
theorem witness_StrainerEventsTakeEffect :
    (∃ (s : State), ∃ b, ∃ (m : Move), (((List.range 16).map (fun i => (s.strn.moveNext + i) % 16)).find? (fun b =>
        (s.moveOf b).isSome) = some b) ∧ (s.moveOf b = some m) ∧ (m.del = false))
    ∧ (∃ (s : State), ∃ b, ∃ (m : Move), (((List.range 16).map (fun i => (s.strn.moveNext + i) % 16)).find? (fun b =>
        (s.moveOf b).isSome) = some b) ∧ (s.moveOf b = some m) ∧ (m.del = true))
    ∧ (∃ (m : Move), (m.index < m.cur))
    ∧ (∃ src dst k : Nat, src ≠ dst ∧ k ≠ src ∧ k ≠ dst)
    ∧ (∃ (s : State), ∃ b, (s.ruleOwner s.strn.flushAt = some b) ∧ ((s.ruleAt s.strn.flushAt).ruleId ≠ 0))
    ∧ (∃ (u : Fin 4), ∃ (s : State), (s.strn.units.getLsbD u.val = true)) :=
  ⟨⟨{ up with strn := { up.strn with move := [(15, some {})] } }, 15, {}, by decide⟩,
   ⟨{ up with strn := { up.strn with move := [(15, some { del := true })] } }, 15, { del := true }, by decide⟩,
   ⟨{ cur := 1 }, by decide⟩,
   ⟨0, 1, 2, by decide⟩,
   ⟨{ up with strn := { up.strn with berth := [(15, { rsize := 1, rcount := 1 })], rule := [(0, { ruleId := 1 })] } }, 15, by decide⟩,
   ⟨0, up, by decide⟩⟩

/-- States and operands that meet the hypotheses of each clause of TablesTakeEffect. -/
theorem witness_TablesTakeEffect :
    (∃ (rq : Req), ∃ (s : State), Served (cmdH 0x0701 12) rq s = true ∧ ((fun u => rq.u8 0 < 16 ∧ rq.u8 1 ≤ 6 ∧ isTrie (rq.u8 1) = false
        ∧ rq.u32 4 + rq.u32 8 ≤ tableSize (rq.u8 1) ∧ rq.u32 4 % tableStep (rq.u8 1) = 0 ∧ rq.u32 8 % tableStep (rq.u8 1) = 0 ∧
        (∀ o, o < 16 → o ≠ rq.u8 0 → overlaps (rq.u32 4) (rq.u32 8) ((u.fwdB o).baseOf (rq.u8 1)) ((u.fwdB o).sizeOf (rq.u8 1)) = false)
        ∧ u.tableUsed (rq.u8 0) (rq.u8 1) = 0) (accept rq (CmdSpec.code (cmdH 0x0701 12)) s)))
    ∧ (∃ (rq : Req), ∃ (s : State), Served (cmdH 0x0701 12) rq s = true ∧ ((fun u => rq.u8 0 < 16 ∧ rq.u8 1 ≤ 6 ∧ isTrie (rq.u8 1) = false
        ∧ rq.u32 4 + rq.u32 8 ≤ tableSize (rq.u8 1) ∧ rq.u32 4 % tableStep (rq.u8 1) = 0 ∧ rq.u32 8 % tableStep (rq.u8 1) = 0 ∧
        (∀ o, o < 16 → o ≠ rq.u8 0 → overlaps (rq.u32 4) (rq.u32 8) ((u.fwdB o).baseOf (rq.u8 1)) ((u.fwdB o).sizeOf (rq.u8 1)) = false)
        ∧ 0 < u.tableUsed (rq.u8 0) (rq.u8 1) ∧ rq.u32 8 < (u.fwdB (rq.u8 0)).sizeOf (rq.u8 1)) (accept rq (CmdSpec.code
        (cmdH 0x0701 12)) s)))
    ∧ (∃ (rq : Req), ∃ (s : State), Served (cmdOwn 0x0703 16 0) rq s = true ∧ ((fun _ => rq.u8 0 < 16 ∧ rq.u8 1 ≤ 2 ∧ rq.u8 2 ≤ 1 ∧
        (rq.u8 3 = 0 ∨ rq.u8 3 = 2) ∧ (rq.u8 4 = 0 ∨ rq.u8 4 = 2) ∧ rq.u8 5 ≤ 1 ∧ rq.u16 6 ≠ 0 ∧ rq.u16 6 ≤ 4094 ∧ rq.u16 8 ≤ 16383
        ∧ rq.u32 12 ≤ 1000000) (accept rq (CmdSpec.code (cmdOwn 0x0703 16 0)) s)))
    ∧ (∃ (rq : Req), ∃ w, ∃ (s : State), Served (cmdOwn 0x0704 16 0) rq s = true ∧ ((fun u => rq.u8 0 < 16 ∧ rq.u8 1 = 0 ∧ rq.u16 2 ≠ 0
        ∧ rq.u16 2 ≤ 4094 ∧ beNat (rq.bytes 4 6) ≠ 0 ∧ resultOk (rq.u32 12) = true ∧ u.mayResult (rq.u8 0) (rq.u32 12) = true ∧ (u.findL2
        (rq.u8 0) (rq.u16 2) (rq.bytes 4 6)).or ((u.hashWays 0 (rq.u8 0) (rq.u16 2) (rq.bytes 4 6)).find? (fun w => !(Tab.look
        {} u.fwd.l2 w).valid)) = some w) (accept rq (CmdSpec.code (cmdOwn 0x0704 16 0)) s)))
    ∧ (∃ (rq : Req), ∃ (s : State), Served (cmdOwn 0x0704 16 0) rq s = true ∧ ((fun u => rq.u8 0 < 16 ∧ rq.u8 1 = 0 ∧ rq.u16 2 ≠ 0
        ∧ rq.u16 2 ≤ 4094 ∧ beNat (rq.bytes 4 6) ≠ 0 ∧ resultOk (rq.u32 12) = true ∧ u.mayResult (rq.u8 0) (rq.u32 12) = false) (accept rq
        (CmdSpec.code (cmdOwn 0x0704 16 0)) s)))
    ∧ (∃ (rq : Req), ∃ w, ∃ (s : State), Served (cmdOwn 0x0704 16 0) rq s = true ∧ ((fun u => rq.u8 0 < 16 ∧ rq.u8 1 = 1 ∧ rq.u16 2 ≠ 0
        ∧ rq.u16 2 ≤ 4094 ∧ beNat (rq.bytes 4 6) ≠ 0 ∧ u.findL2 (rq.u8 0) (rq.u16 2) (rq.bytes 4 6) = some w) (accept rq (CmdSpec.code
        (cmdOwn 0x0704 16 0)) s)))
    ∧ (∃ (rq : Req), ∃ w, ∃ (s : State), Served (cmdOwn 0x0705 24 0) rq s = true ∧ ((fun u => rq.u8 0 < 16 ∧ rq.u8 1 = 0 ∧ rq.u8 2 = 4
        ∧ prefixOk false (rq.u8 3) (beNat (rq.bytes 4 4)) = true ∧ resultOk (rq.u32 20) = true ∧ u.mayResult (rq.u8 0) (rq.u32 20) = true ∧
        ((u.fwd.routes.filter (fun x => !x.isFor (rq.u8 0) false (rq.u8 3) (beNat (rq.bytes 4 4)))).filter
        (fun x => x.berth == rq.u8 0 && x.v6 == false)).length < (u.fwdB (rq.u8 0)).sizeOf (famTable false) ∧ u.addNodes (rq.u8 0) false
        (beNat (rq.bytes 4 4)) ((List.range (prefixLevel false (rq.u8 3) - 1)).map (· + 2)) u.fwd = some w) (accept rq (CmdSpec.code
        (cmdOwn 0x0705 24 0)) s)))
    ∧ (∃ (rq : Req), ∃ (s : State), Served (cmdOwn 0x0705 24 0) rq s = true ∧ ((fun _ => rq.u8 0 < 16 ∧ rq.u8 1 = 1 ∧ rq.u8 2 = 4
        ∧ prefixOk false (rq.u8 3) (beNat (rq.bytes 4 4)) = true) (accept rq (CmdSpec.code (cmdOwn 0x0705 24 0)) s)))
    ∧ (∃ (rq : Req), ∃ (s : State), Served (cmdOwn 0x0706 16 0) rq s = true ∧ ((fun u => rq.u8 0 < 16 ∧ (u.fwdB (rq.u8 0)).holds 4
        (rq.u16 2) = true ∧ (setBits 64 (rq.u64 8)).any (fun p => !(List.range 8).any (u.mayUsePort (rq.u8 0) p)) = false) (accept rq
        (CmdSpec.code (cmdOwn 0x0706 16 0)) s)))
    ∧ (∃ (rq : Req), ∃ (s : State), Served (cmdOwn 0x0706 16 0) rq s = true ∧ ((fun u => rq.u8 0 < 16 ∧ (u.fwdB (rq.u8 0)).holds 4
        (rq.u16 2) = true ∧ (setBits 64 (rq.u64 8)).any (fun p => !(List.range 8).any (u.mayUsePort (rq.u8 0) p)) = true) (accept rq
        (CmdSpec.code (cmdOwn 0x0706 16 0)) s)))
    ∧ (∃ (rq : Req), ∃ base, ∃ (s : State), Served { cmdOwn 0x0707 4 0 with len := fun p => 4 + 4 * byteAt p 1 } rq s = true ∧
        ((fun u => rq.u8 0 < 16 ∧ rq.u8 1 ≠ 0 ∧ rq.u8 1 ≤ 64 ∧ (u.fwdB (rq.u8 0)).holds 5 (rq.u16 2) = true ∧ (∀ i, i < rq.u8 1 → resultOk
        (rq.u32 (4 + 4 * i)) = true ∧ (resKind (rq.u32 (4 + 4 * i)) = 1 ∨ resKind (rq.u32 (4 + 4 * i)) = 5) ∧ u.mayResult (rq.u8 0) (rq.u32
        (4 + 4 * i)) = true) ∧ u.freshSlots (rq.u8 0) (rq.u8 1) = some base) (accept rq (CmdSpec.code
        { cmdOwn 0x0707 4 0 with len := fun p => 4 + 4 * byteAt p 1 }) s)))
    ∧ (∃ (rq : Req), ∃ (s : State), Served (cmdOwn 0x0708 20 0) rq s = true ∧ ((fun _ => rq.u8 0 < 16 ∧ rq.u8 1 = 1) (accept rq
        (CmdSpec.code (cmdOwn 0x0708 20 0)) s)))
    ∧ (∃ (rq : Req), ∃ (s : State), Served (cmdOwn 0x0708 20 0) rq s = true ∧ ((fun _ => rq.u8 0 < 16 ∧ rq.u8 1 = 0 ∧ rq.u16 2 ≠ 0
        ∧ rq.u16 2 ≤ 4094) (accept rq (CmdSpec.code (cmdOwn 0x0708 20 0)) s)))
    ∧ (∃ (rq : Req), ∃ (s : State), Served (cmdHBA 0x0709 0) rq s = true)
    ∧ (∃ (rq : Req), ∃ (s : State), Served (cmdH 0x0702 16) rq s = true ∧ ((fun _ => rq.u8 0 ≤ 6 ∧ rq.u8 1 = 0 ∧ rq.u8 2 ≤ 1) (accept rq
        (CmdSpec.code (cmdH 0x0702 16)) s)))
    ∧ (∃ (rq : Req), ∃ (s : State), Served (cmdH 0x0702 16) rq s = true ∧ ((fun u => rq.u8 0 ≤ 6 ∧ rq.u8 1 = 1 ∧ rq.u8 2 ≤ 1
        ∧ u.ph.region.isSome = true ∧ rq.u64 8 % 4096 = 0 ∧ u.dramRangeOk (rq.u64 8) 1 = true ∧ (u.ddrAt (dramChannel (rq.u64 8))).st ≠ 5)
        (accept rq (CmdSpec.code (cmdH 0x0702 16)) s)))
    ∧ (∃ (b : Fin 16), ∃ (s : State), ((s.fwdB b.val).l2Age ≠ 0))
    ∧ (∃ (t : Fin 7), ∃ (m : Fin 6), ∃ (s : State), (isTrie t.val = false) ∧ (memWords t.val m.val ≠ 0) ∧ ((s.protAt t.val).storm = false)
        ∧ ((s.protAt t.val).sounding = false) ∧ ((s.protAt t.val).paused = false))
    ∧ (∃ (t : Nat), ∃ (s : State), ((s.protAt t).sounding = false)) :=
  ⟨⟨(rq (z 12)), up, by decide⟩,
   ⟨rq ([0,4,0,0] ++ w4 0 ++ w4 1), { up with fwd := { up.fwd with berth := [(0, { size := [(4, 2)] })], mcast := [(0, {})] } }, by decide⟩,
   ⟨rq ([15,2,1,2,2,1] ++ w2 4094 ++ w2 16383 ++ z 2 ++ w4 1000000), up, by decide⟩,
   ⟨rq ([0,0] ++ w2 4094 ++ [1] ++ z 11), 0, { up with fwd := { up.fwd with berth := [(0, { size := [(0, 1)] })] } }, by decide +kernel⟩,
   ⟨rq ([0,0] ++ w2 4094 ++ [1] ++ z 7 ++ w4 5), up, by decide⟩,
   ⟨rq ([0,1] ++ w2 4094 ++ [1] ++ z 11), 0,
      { up with fwd := { up.fwd with berth := [(0, { size := [(0, 1)] })], l2 := [(0, { valid := true, fid := 4094, mac := [1] ++ zeros 5 })] } },
      by decide +kernel⟩,
   ⟨rq ([0,0,4,0] ++ z 20), { State.reset.fwd with berth := [(0, { size := [(1, 1)] })] },
      { up with fwd := { up.fwd with berth := [(0, { size := [(1, 1)] })] } }, by decide⟩,
   ⟨rq ([15,1,4,32] ++ [255,255,255,255] ++ z 16), up, by decide⟩,
   ⟨rq (z 8 ++ [1] ++ z 7), { bup with fwd := { bup.fwd with berth := [(0, { size := [(4, 1)] })] } }, by decide⟩,
   ⟨rq (z 15 ++ [128]), { bup with fwd := { bup.fwd with berth := [(0, { size := [(4, 1)] })] } }, by decide⟩,
   ⟨rq ([0,1,0,0] ++ w4 1), 0, { bup with fwd := { bup.fwd with berth := [(0, { size := [(5, 1), (6, 1)] })] } }, by decide⟩,
   ⟨rq ([15,1] ++ z 18), up, by decide⟩,
   ⟨rq ([15,0] ++ w2 4094 ++ z 16), up, by decide⟩,
   ⟨(rq (z 0)), up, by decide⟩,
   ⟨(rq (z 16)), up, by decide⟩,
   ⟨rq ([6,1,1,0] ++ z 12), dup { st := 2, capGib := 1 }, by decide⟩,
   ⟨0, up, by decide⟩,
   ⟨0, 0, { up with fwd := { up.fwd with prot := [(0, { storm := false, sounding := false, paused := false })] } }, by decide⟩,
   ⟨0, up, by decide⟩⟩

/-- States and operands that meet the hypotheses of each clause of PortCommandsTakeEffect. -/
theorem witness_PortCommandsTakeEffect :
    (∃ (rq : Req), ∃ (s : State), Served (cmdH 0x0301 16) rq s = true ∧ ((fun u => rq.u8 0 ≤ 15 ∧ rq.u8 1 ≤ 2 ∧ rq.u8 2 ≤ 1
        ∧ rq.u8 3 ≤ rq.u8 2 ∧ (quadFecs rq).all (fecOk (rq.u8 1)) = true ∧ rq.u32 8 ≤ 100000 ∧ rq.u8 12 ≤ 1 ∧ (u.quadAt
        (rq.u8 0)).synth = 0 ∧ rq.u8 1 ≠ (u.quadAt (rq.u8 0)).rate.toNat) (accept rq (CmdSpec.code (cmdH 0x0301 16)) s)))
    ∧ (∃ (rq : Req), ∃ (s : State), Served (cmdH 0x0301 16) rq s = true ∧ ((fun u => rq.u8 0 ≤ 15 ∧ rq.u8 1 ≤ 2 ∧ rq.u8 2 ≤ 1
        ∧ rq.u8 3 ≤ rq.u8 2 ∧ (quadFecs rq).all (fecOk (rq.u8 1)) = true ∧ rq.u32 8 ≤ 100000 ∧ rq.u8 12 ≤ 1 ∧ (u.quadAt
        (rq.u8 0)).synth = 0 ∧ rq.u8 1 = (u.quadAt (rq.u8 0)).rate.toNat) (accept rq (CmdSpec.code (cmdH 0x0301 16)) s)))
    ∧ (∃ (rq : Req), ∃ (s : State), Served (cmdH 0x0301 16) rq s = true ∧ ((fun u => rq.u8 0 ≤ 15 ∧ rq.u8 1 ≤ 2 ∧ rq.u8 2 ≤ 1
        ∧ rq.u8 3 ≤ rq.u8 2 ∧ (quadFecs rq).all (fecOk (rq.u8 1)) = true ∧ rq.u32 8 ≤ 100000 ∧ rq.u8 12 ≤ 1 ∧ ((u.quadAt
        (rq.u8 0)).synth = 1 ∨ (u.quadAt (rq.u8 0)).synth = 2)) (accept rq (CmdSpec.code (cmdH 0x0301 16)) s)))
    ∧ (∃ q, ∃ (s : State), ((s.quadAt q).settleLimit ≠ 0))
    ∧ (∃ (rq : Req), ∃ (s : State), Served (cmdH 0x0302 8) rq s = true ∧ ((fun u => rq.u8 0 ≤ 63 ∧ rq.u8 1 = 1 ∧ rq.u32 4 ≤ 1000000
        ∧ u.bondMember (rq.u8 0) = false ∧ u.domainOn (rq.u8 0) = true ∧ u.pgcOnPort (rq.u8 0) = false ∧ (u.portAt
        (rq.u8 0)).enabled = false) (accept rq (CmdSpec.code (cmdH 0x0302 8)) s)))
    ∧ (∃ (rq : Req), ∃ (s : State), Served (cmdH 0x0302 8) rq s = true ∧ ((fun u => rq.u8 0 ≤ 63 ∧ rq.u8 1 = 0 ∧ rq.u32 4 ≤ 1000000
        ∧ u.bondMember (rq.u8 0) = false ∧ u.domainOn (rq.u8 0) = true) (accept rq (CmdSpec.code (cmdH 0x0302 8)) s)))
    ∧ (∃ (rq : Req), ∃ (s : State), Served (cmdH 0x0302 8) rq s = true ∧ ((fun u => rq.u8 0 ≤ 63 ∧ rq.u8 1 = 1 ∧ rq.u32 4 ≤ 1000000
        ∧ u.pgcOnPort (rq.u8 0) = true) (accept rq (CmdSpec.code (cmdH 0x0302 8)) s)))
    ∧ (∃ (rq : Req), ∃ (s : State), Served (cmdH 0x0303 8) rq s = true ∧ ((fun u => rq.u8 0 ≤ 63 ∧ rq.u8 1 ≤ 2 ∧ rq.u16 4 ≠ 0
        ∧ u.bondMember (rq.u8 0) = false ∧ (u.portAt (rq.u8 0)).flowMode.toNat ≠ rq.u8 1) (accept rq (CmdSpec.code (cmdH 0x0303 8)) s)))
    ∧ (∃ (rq : Req), ∃ (s : State), Served (cmdH 0x0304 4) rq s = true ∧ ((fun u => rq.u8 0 ≤ 15 ∧ ((u.quadAt (rq.u8 0)).synth = 0 ∨
        (u.quadAt (rq.u8 0)).synth = 3)) (accept rq (CmdSpec.code (cmdH 0x0304 4)) s)))
    ∧ (∃ (rq : Req), ∃ (s : State), Served
        { cmdHB 0x0305 4 with own := fun s b rq => 63 < rq.u8 0 || (s.ownerAt (rq.u8 0)).whole == some b } rq s = true ∧
        ((fun u => rq.u8 0 ≤ 63 ∧ u.bondMember (rq.u8 0) = false) (accept rq (CmdSpec.code
        { cmdHB 0x0305 4 with own := fun s b rq => 63 < rq.u8 0 || (s.ownerAt (rq.u8 0)).whole == some b }) s))) :=
  ⟨⟨(rq (z 16)), { up with quad := [(0, { synth := 0 })] }, by decide⟩,
   ⟨rq ([15,1,1,1] ++ [0,1,2,0] ++ w4 100000 ++ [1,0,0,0]), up, by decide⟩,
   ⟨(rq (z 16)), { up with quad := [(0, { synth := 2 })] }, by decide⟩,
   ⟨0, up, by decide⟩,
   ⟨rq ([63,1,0,0] ++ w4 1000000), up, by decide⟩,
   ⟨(rq (z 8)), up, by decide⟩,
   ⟨rq ([63,1,0,0] ++ w4 1000000), { up with lane := [(63, { active := true })] }, by decide⟩,
   ⟨rq ([63,2,0,0] ++ w2 65535 ++ z 2), up, by decide⟩,
   ⟨(rq (z 4)), { up with quad := [(0, { synth := 3 })] }, by decide⟩,
   ⟨(rq (z 4)), up, by decide⟩⟩

/-- States and operands that meet the hypotheses of each clause of PortEventsTakeEffect. -/
theorem witness_PortEventsTakeEffect :
    (∃ (p : Fin 64), ∃ (s : State), (s.bondMember p.val = false))
    ∧ (∃ (p : Fin 64), ∃ (s : State), (s.portUp p.val = true) ∧ (s.bondMember p.val = false) ∧ ((s.portAt p.val).enabled = true) ∧
        ((s.portAt p.val).link = 3))
    ∧ (∃ (p : Fin 64), ∃ (s : State), (s.linkClean p.val = true) ∧ ((s.portAt p.val).link ≠ 3))
    ∧ (∃ (p : Fin 64), ∃ (s : State), ((s.portAt p.val).enabled = true) ∧ (s.bondMember p.val = false) ∧ ((s.quadAt (p.val / 4)).an = true)
        ∧ ((s.portAt p.val).anDone = false))
    ∧ (∃ (p : Fin 64), ∃ (fec : Fin 4), ∃ (s : State), ((s.portAt p.val).enabled = true) ∧ (s.bondMember p.val = false) ∧ ((s.quadAt
        (p.val / 4)).an = true) ∧ (fecOk (s.quadAt (p.val / 4)).rate.toNat fec.val = true))
    ∧ (∃ (q : Fin 16), ∃ (s : State), ((s.quadAt q.val).synth = 1) ∧ ((s.quadAt q.val).pend = none) ∧ ((quadPorts q.val).any (fun p =>
        (s.egressAt p).busy.isSome || (s.portUp p && (s.egressAt p).fifo != [])) = false))
    ∧ (∃ (q : Fin 16), ∃ (s : State), ∃ rate, ∃ fecs, ((s.quadAt q.val).synth = 1) ∧ ((s.quadAt q.val).pend = some (rate, fecs)) ∧
        ((quadPorts q.val).any (fun p => (s.egressAt p).busy.isSome || (s.portUp p && (s.egressAt p).fifo != [])) = false))
    ∧ (∃ (q : Fin 16), ∃ (s : State), ((s.quadAt q.val).synth = 2) ∧ ((s.quadAt q.val).recalDue = false))
    ∧ (∃ (p : Fin 64), ∃ (s : State), ((s.quadAt (p.val / 4)).synth = 0) ∧ ((s.portAt p.val).resumed = false) ∧
        ((s.portAt p.val).localFault = false) ∧ ((s.portAt p.val).remoteFault = false) ∧ ((onPort p.val (fun v =>
        { v with resumed := true }) s).mayStart p.val = false))
    ∧ (∃ (q : Fin 16), ∃ (s : State), ((s.quadAt q.val).synth = 2) ∧ ((s.quadAt q.val).retries < 3))
    ∧ (∃ (q : Fin 16), ∃ (s : State), ((s.quadAt q.val).synth = 2) ∧ (3 ≤ (s.quadAt q.val).retries))
    ∧ (∃ (q : Fin 16), ∃ (s : State), ((s.quadAt q.val).recalAuto = true) ∧ ((s.quadAt q.val).synth = 0) ∧ (50 ≤ (s.tjDeg -
        (s.quadAt q.val).calTj).natAbs))
    ∧ (∃ (q : Fin 16), ∃ (s : State), ((s.quadAt q.val).recalAuto = false) ∧ ((s.quadAt q.val).dueRaised = false) ∧ (50 ≤ (s.tjDeg -
        (s.quadAt q.val).calTj).natAbs) ∧ ((s.tjDeg - (s.quadAt q.val).calTj).natAbs < 80))
    ∧ (∃ (p : Fin 64), ∃ bytes, ∃ (s : State), (s.receives p.val = true) ∧ (fieldBe bytes 12 2 = 0x8808) ∧ (fcsGood bytes = true) ∧
        (fieldBe bytes 14 2 = 1) ∧ ((s.portAt p.val).flowMode = 1))
    ∧ (∃ (p : Fin 64), ∃ (s : State), (s.receives p.val = true)) :=
  ⟨⟨0, up, by decide⟩,
   ⟨0, { up with port := [(0, { enabled := true, link := 3 })] }, by decide⟩,
   ⟨63, { up with port := [(63, { enabled := true, blockLock := true, link := 1 })] }, by decide⟩,
   ⟨0, { up with port := [(0, { enabled := true, anDone := false })], quad := [(0, { an := true })] }, by decide⟩,
   ⟨0, 0, { up with port := [(0, { enabled := true })], quad := [(0, { an := true })] }, by decide⟩,
   ⟨0, { up with quad := [(0, { synth := 1, pend := none })] }, by decide⟩,
   ⟨15, { up with quad := [(15, { synth := 1, pend := some (0, []) })] }, 0, [], by decide⟩,
   ⟨0, { up with quad := [(0, { synth := 2, recalDue := false })] }, by decide⟩,
   ⟨0, { up with quad := [(0, { synth := 0 })], port := [(0, { resumed := false, localFault := false, remoteFault := false })] },
      by decide⟩,
   ⟨0, { up with quad := [(0, { synth := 2 })] }, by decide⟩,
   ⟨15, { up with quad := [(15, { synth := 2, retries := 3 })] }, by decide⟩,
   ⟨15, { up with quad := [(15, { recalAuto := true })], therm := { up.therm with tj := 200 } }, by decide⟩,
   ⟨15, { up with therm := { up.therm with tj := 319 } }, by decide⟩,
   ⟨63, (fun b => b ++ fcsOf b) (zeros 12 ++ [0x88, 8, 0, 1] ++ zeros 44),
      { bup with port := [(63, { link := 3, enabled := true, flowMode := 1 })] }, by decide +kernel⟩,
   ⟨63, bup, by decide⟩⟩

/-- States and operands that meet the hypotheses of each clause of CrossingFlitsTakeEffect. -/
theorem witness_CrossingFlitsTakeEffect :
    (∃ (rq : Req), ∃ (s : State), Served (cmdH 0x0A01 8) rq s = true ∧ ((fun _ => rq.u8 0 ≤ 7 ∧ rq.u8 1 ≤ 1 ∧ rq.u16 2 ≠ 0
        ∧ rq.u16 2 ≤ 10000 ∧ (∀ i, i < 4 → 1 ≤ rq.u8 (4 + i) ∧ rq.u8 (4 + i) ≤ 63)) (accept rq (CmdSpec.code (cmdH 0x0A01 8)) s)))
    ∧ (∃ (rq : Req), ∃ (s : State), Served (cmdH 0x0A02 4) rq s = true ∧ ((fun u => rq.u8 0 ≤ 7 ∧ rq.u8 1 = 1 ∧ (u.xlAt
        (rq.u8 0)).state = 0 ∧ (u.xlAt (rq.u8 0)).enabled = false ∧ u.pgcOnXl (rq.u8 0) = false ∧ u.domainOn (64 + rq.u8 0) = true)
        (accept rq (CmdSpec.code (cmdH 0x0A02 4)) s)))
    ∧ (∃ (rq : Req), ∃ (s : State), Served (cmdH 0x0A02 4) rq s = true ∧ ((fun u => rq.u8 0 ≤ 7 ∧ rq.u8 1 = 0 ∧ (u.xlAt
        (rq.u8 0)).state ≠ 2 ∧ (u.xlAt (rq.u8 0)).state ≠ 4 ∧ (u.xlAt (rq.u8 0)).state ≠ 5) (accept rq (CmdSpec.code (cmdH 0x0A02 4)) s)))
    ∧ (∃ (rq : Req), ∃ (s : State), Served (cmdH 0x0A02 4) rq s = true ∧ ((fun u => rq.u8 0 ≤ 7 ∧ rq.u8 1 = 2 ∧ (u.xlAt
        (rq.u8 0)).state = 3) (accept rq (CmdSpec.code (cmdH 0x0A02 4)) s)))
    ∧ (∃ (rq : Req), ∃ (s : State), Served (cmdH 0x0A02 4) rq s = true ∧ ((fun u => rq.u8 0 ≤ 7 ∧ rq.u8 1 = 3 ∧ (u.xlAt
        (rq.u8 0)).state = 3 ∧ (u.xlAt (rq.u8 0)).rxLanes ≠ 0) (accept rq (CmdSpec.code (cmdH 0x0A02 4)) s)))
    ∧ (∃ (rq : Req), ∃ (s : State), Served (cmdH 0x0A02 4) rq s = true ∧ ((fun u => rq.u8 0 ≤ 7 ∧ rq.u8 1 ≤ 4 ∧ ((u.xlAt
        (rq.u8 0)).state = 2 ∨ (u.xlAt (rq.u8 0)).state = 4 ∨ (u.xlAt (rq.u8 0)).state = 5)) (accept rq (CmdSpec.code (cmdH 0x0A02 4)) s)))
    ∧ (∃ (rq : Req), ∃ (s : State), Served (cmdH 0x0A03 4) rq s = true ∧ ((fun _ => rq.u8 0 ≤ 7) (accept rq (CmdSpec.code
        (cmdH 0x0A03 4)) s)))
    ∧ (∃ k, ∃ bytes, ∃ (s : State), ((s.xlAt k).carries = true) ∧ (flitGood bytes = false))
    ∧ (∃ k, ∃ bytes, ∃ (s : State), ((s.xlAt k).carries = true) ∧ (flitGood bytes = true) ∧ ((readFlit bytes).ftype ≠ 1) ∧
        ((readFlit bytes).seq = ((onXl k (Xl.takeAck (readFlit bytes).ack) s).xlAt k).rxExpect))
    ∧ (∃ (k : Fin 8), ∃ (s : State), ((s.xlAt k.val).txDone = true) ∧ ((s.xlAt k.val).carries = true))
    ∧ (∃ (k : Fin 8), ∃ (s : State), ((s.xlAt k.val).carries = true) ∧ ((s.xlAt k.val).ackNow ≠ (s.xlAt k.val).ackSent))
    ∧ (∃ (k : Fin 8), ∃ (s : State), ((s.xlAt k.val).carries = true) ∧ ((s.xlAt k.val).discarding = true))
    ∧ (∃ (k : Fin 8), ∃ (s : State), ((s.xlAt k.val).carries = true) ∧ ((s.xlAt k.val).txDone = true) ∧ ((s.xlAt k.val).replay ≠ []) ∧
        ((s.xlAt k.val).peerHold = false) ∧ ((s.xlAt k.val).peerGrace = false)) :=
  ⟨⟨rq ([7,1] ++ w2 10000 ++ [63,1,63,1]), up, by decide⟩,
   ⟨rq [7,1,0,0], xup {}, by decide⟩,
   ⟨(rq (z 4)), up, by decide⟩,
   ⟨rq [7,2,0,0], xup { state := 3 }, by decide⟩,
   ⟨rq [7,3,0,0], xup { state := 3, rxLanes := 1 }, by decide⟩,
   ⟨(rq (z 4)), { up with xl := [(0, { state := 5 })] }, by decide⟩,
   ⟨(rq (z 4)), up, by decide⟩,
   ⟨7, zeros 72, xup { state := 3 }, by decide +kernel⟩,
   ⟨7, goodFlit (zeros 68), xup { state := 3 }, by decide +kernel⟩,
   ⟨7, xup { state := 3, txDone := true }, by decide⟩,
   ⟨7, xup { state := 3, rxExpect := 1 }, by decide⟩,
   ⟨7, xup { state := 3, discarding := true }, by decide⟩,
   ⟨7, xup { state := 3, txDone := true, replay := [{}] }, by decide⟩⟩

/-- States and operands that meet the hypotheses of each clause of CrossingLinksTakeEffect. -/
theorem witness_CrossingLinksTakeEffect :
    (∃ (k : Fin 8), ∃ (s : State), ((s.xlAt k.val).enabled = true) ∧ ((s.xlAt k.val).state = 1) ∧ ((s.xlAt k.val).synth = 0))
    ∧ (∃ (k : Fin 8), ∃ bytes, ∃ (s : State), ((s.xlAt k.val).state = 2) ∧ (bitOf (byteAt bytes 1) 4 = false))
    ∧ (∃ (k : Fin 8), ∃ bytes, ∃ (s : State), ((s.xlAt k.val).state = 3) ∧ (bitOf (byteAt bytes 1) 4 = true) ∧ (byteAt bytes 1 / 4 % 4 ≠ 2))
    ∧ (∃ (k : Fin 8), ∃ (l : Fin 4), ∃ (s : State), ((s.xlAt k.val).carries = true) ∧ ((s.xlAt k.val).peerGrace = false) ∧
        ((s.xlAt k.val).rxFailed.getLsbD l.val = false))
    ∧ (∃ k, ∃ l, ∃ (s : State), (pairFor ((s.xlAt k).rxFailed ||| BitVec.ofNat 4 (2 ^ l)) = none))
    ∧ (∃ (k : Fin 8), ∃ (s : State), ((s.xlAt k.val).state = 3) ∧ ((s.xlAt k.val).restore = none))
    ∧ (∃ (k : Fin 8), ∃ (s : State), ((s.xlAt k.val).peerGrace = false))
    ∧ (∃ (k : Fin 8), ∃ (s : State), ((s.xlAt k.val).state = 4))
    ∧ (∃ (k : Fin 8), ∃ (s : State), ((s.xlAt k.val).carries = true))
    ∧ (∃ (k : Fin 8), ∃ (s : State), ((s.xlAt k.val).recalManual = false) ∧ (50 ≤ (s.tjDeg - (s.xlAt k.val).calTj).natAbs))
    ∧ (∃ (k : Fin 8), ∃ (s : State), ((s.xlAt k.val).recalManual = true) ∧ ((s.xlAt k.val).dueRaised = false) ∧ (50 ≤ (s.tjDeg -
        (s.xlAt k.val).calTj).natAbs) ∧ ((s.tjDeg - (s.xlAt k.val).calTj).natAbs < 80))
    ∧ (∃ (k : Fin 8), ∃ (s : State), ((s.xlAt k.val).synth = 2) ∧ ((s.xlAt k.val).state = 5))
    ∧ (∃ (k : Fin 8), ∃ (s : State), ((s.xlAt k.val).synth = 2) ∧ ((s.xlAt k.val).synthRetries < 3))
    ∧ (∃ (k : Fin 8), ∃ (s : State), ((s.xlAt k.val).synth = 2) ∧ (3 ≤ (s.xlAt k.val).synthRetries)) :=
  ⟨⟨0, { up with xl := [(0, { enabled := true, state := 1, synth := 0 })] }, by decide⟩,
   ⟨0, [], { up with xl := [(0, { state := 2 })] }, by decide⟩,
   ⟨7, [0, 16], xup { state := 3 }, by decide⟩,
   ⟨7, 3, xup { state := 3 }, by decide⟩,
   ⟨7, 2, xup { rxFailed := 1 }, by decide⟩,
   ⟨0, { up with xl := [(0, { state := 3, restore := none })] }, by decide⟩,
   ⟨0, { up with xl := [(0, { peerGrace := false })] }, by decide⟩,
   ⟨0, { up with xl := [(0, { state := 4 })] }, by decide⟩,
   ⟨7, xup { state := 3 }, by decide⟩,
   ⟨7, { (xup {}) with therm := { (xup {}).therm with tj := 200 } }, by decide⟩,
   ⟨7, { (xup { recalManual := true }) with therm := { (xup { recalManual := true }).therm with tj := 319 } }, by decide⟩,
   ⟨0, { up with xl := [(0, { synth := 2, state := 5 })] }, by decide⟩,
   ⟨0, { up with xl := [(0, { synth := 2 })] }, by decide⟩,
   ⟨7, xup { synth := 2, synthRetries := 3 }, by decide⟩⟩

/-- States and operands that meet the hypotheses of each clause of FabricTakesEffect. -/
theorem witness_FabricTakesEffect :
    (∃ (rq : Req), ∃ (s : State), Served (cmdH 0x0A04 16) rq s = true ∧ ((fun u => cfgOk rq = true ∧ u.fab.st ≠ 3) (accept rq
        (CmdSpec.code (cmdH 0x0A04 16)) s)))
    ∧ (∃ (rq : Req), ∃ (s : State), Served (cmdH 0x0A04 16) rq s = true ∧ ((fun u => cfgOk rq = true ∧ u.fab.st = 3) (accept rq
        (CmdSpec.code (cmdH 0x0A04 16)) s)))
    ∧ (∃ (rq : Req), ∃ (s : State), Served { cmdHF 0x0A05 0 with auditor := true } rq s = true)
    ∧ (∃ (rq : Req), ∃ (s : State), Served (cmdH 0x0A06 4) rq s = true ∧ ((fun u => rq.u16 0 ≤ 1023 ∧ 1 ≤ rq.u8 2 ∧ rq.u8 2 ≤ 4 ∧
        (rq.u8 2 = 4 → rq.u8 3 ≤ 63) ∧ u.fab.assigned = true) (accept rq (CmdSpec.code (cmdH 0x0A06 4)) s)))
    ∧ (∃ (rq : Req), ∃ (s : State), Served (cmdH 0x0A07 4) rq s = true ∧ ((fun u => rq.u32 0 = 0x4841494C ∧ u.fab.st ≠ 3) (accept rq
        (CmdSpec.code (cmdH 0x0A07 4)) s)))
    ∧ (∃ (s : State), (s.fab.discovering = true))
    ∧ (∃ (k : Fin 8), ∃ bytes, ∃ (s : State), (s.fab.discovering = true) ∧ ((s.xlAt k.val).carries = true) ∧ (betterRoot (BitVec.ofNat 8
        (byteAt bytes 3)) (BitVec.ofNat 64 (fieldLe bytes 4 8)) s.fab.bestPrio s.fab.bestSerial = true) ∧ ((BitVec.ofNat 8
        (byteAt bytes 3) ≠ 0 ∨ s.fab.bestPrio ≠ 0)))
    ∧ (∃ (k : Fin 8), ∃ bytes, ∃ (s : State), (s.fab.discovering = true) ∧ ((s.xlAt k.val).carries = true) ∧ (betterRoot (BitVec.ofNat 8
        (byteAt bytes 3)) (BitVec.ofNat 64 (fieldLe bytes 4 8)) s.fab.bestPrio s.fab.bestSerial = false) ∧ ((BitVec.ofNat 8
        (byteAt bytes 3) ≠ 0 ∨ s.fab.bestPrio ≠ 0)))
    ∧ (∃ (s : State), (s.fab.discovering = true) ∧ (s.fab.st ≠ 0) ∧ (s.fab.root = false) ∧ (s.fab.bestSerial = ownSerial) ∧
        (s.fab.assigned = false) ∧ (s.fab.st ≠ 3))
    ∧ (∃ bytes, ∃ (s : State), (s.fab.discovering = true) ∧ (s.floodSeen 0x11 (fieldLe bytes 4 8) (fieldLe bytes 20 4) = true))
    ∧ (∃ bytes, ∃ (s : State), (s.fab.discovering = true) ∧ (s.floodSeen 0x11 (fieldLe bytes 4 8) (fieldLe bytes 20 4) = false))
    ∧ (∃ bytes, ∃ (s : State), (s.fab.discovering = true) ∧ (s.floodSeen 0x12 s.fab.bestSerial.toNat (fieldLe bytes 16 4) = false))
    ∧ (∃ bytes, ∃ (s : State), (s.fab.discovering = true) ∧ (s.floodSeen 0x13 (fieldLe bytes 2 2 % 1024) (fieldLe bytes 4 4) = false) ∧
        (s.fab.assigned = true) ∧ (epochAfter (BitVec.ofNat 32 (fieldLe bytes 8 4)) s.fab.epoch = true))
    ∧ (∃ (s : State), (s.fab.st = 3) ∧ (s.fab.selfInstalled = false))
    ∧ (∃ bytes, ∃ (s : State), (s.fab.discovering = true) ∧ (s.floodSeen 0x14 (fieldLe bytes 2 2 % 1024) (fieldLe bytes 4 4) = false) ∧
        (BitVec.ofNat 32 (fieldLe bytes 8 4) = s.fab.epoch))
    ∧ (∃ (s : State), (s.fab.root = true) ∧ (s.fab.st = 3))
    ∧ (∃ bytes, ∃ (s : State), (s.fab.discovering = true) ∧ (s.floodSeen 0x15 (fieldLe bytes 2 2 % 1024) (fieldLe bytes 4 4) = false) ∧
        (BitVec.ofNat 32 (fieldLe bytes 8 4) = s.fab.epoch))
    ∧ (∃ (k : Fin 8), ∃ (vc : Fin 5), ∃ (h : Fin 2), ∃ (s : State), ∃ fs, ∃ rest, (((s.xlAt k.val).qAt vc.val h.val).ready = fs :: rest) ∧
        (s.badHeader (readMsg vc.val h.val (fs.map Flit.payload).flatten) fs.length (fieldLe (fs.map Flit.payload).flatten 12 2) = true))
    ∧ (∃ (k : Fin 8), ∃ (vc : Fin 5), ∃ (h : Fin 2), ∃ (s : State), ∃ fs, ∃ rest, (((s.xlAt k.val).qAt vc.val h.val).ready = fs :: rest) ∧
        (s.badHeader (readMsg vc.val h.val (fs.map Flit.payload).flatten) fs.length (fieldLe (fs.map Flit.payload).flatten 12 2) = false) ∧
        ((readMsg vc.val h.val (fs.map Flit.payload).flatten).kind ≠ 3))
    ∧ (∃ (m : Msg), ∃ (s : State), (arrives (Tab.look 0 s.fab.rxId (8 * m.src + m.vc)) m.msgId = none))
    ∧ (∃ (src : Fin 1024), ∃ (vc : Fin 5), ∃ (s : State), (s.fab.lowest (8 * src.val + vc.val) = none))
    ∧ (∃ (src : Fin 1024), ∃ (vc : Fin 5), ∃ (s : State), ∃ h, (s.fab.lowest (8 * src.val + vc.val) = some h)) :=
  ⟨⟨rq ([255,1,15,7,7,1,16,8,8,7,0,0] ++ w2 4096 ++ w2 1000), up, by decide⟩,
   ⟨rq ([255,1,15,7,7,1,16,8,8,7,0,0] ++ w2 4096 ++ w2 1000), { up with fab := { up.fab with st := 3 } }, by decide⟩,
   ⟨(rq (z 0)), up, by decide⟩,
   ⟨rq (w2 1023 ++ [4,63]), { up with fab := { up.fab with assigned := true } }, by decide⟩,
   ⟨rq (w4 0x4841494C), up, by decide⟩,
   ⟨{ up with fab := { up.fab with discovering := true } }, by decide⟩,
   ⟨7, [0, 0, 0, 1] ++ zeros 20, { (xup { state := 3 }) with fab := { (xup { state := 3 }).fab with discovering := true } }, by decide⟩,
   ⟨7, List.replicate 24 255, { (xup { state := 3 }) with fab := { (xup { state := 3 }).fab with discovering := true } }, by decide⟩,
   ⟨{ up with fab := { up.fab with discovering := true, st := 1, bestSerial := ownSerial } }, rfl, (by decide :
      (1 : BitVec 2) ≠ 0), rfl, rfl, rfl, (by decide : (1 : BitVec 2) ≠ 3)⟩,
   ⟨zeros 24, { up with fab := { up.fab with discovering := true, seen := [(0x11, 0, 0)] } }, by decide⟩,
   ⟨[], { up with fab := { up.fab with discovering := true } }, by decide⟩,
   ⟨[], { up with fab := { up.fab with discovering := true } }, by decide⟩,
   ⟨zeros 8 ++ [1, 0, 0, 0], { up with fab := { up.fab with discovering := true, assigned := true } }, by decide⟩,
   ⟨{ up with fab := { up.fab with st := 3, selfInstalled := false } }, by decide⟩,
   ⟨[], { up with fab := { up.fab with discovering := true } }, by decide⟩,
   ⟨{ up with fab := { up.fab with root := true, st := 3 } }, by decide⟩,
   ⟨[], { up with fab := { up.fab with discovering := true } }, by decide⟩,
   ⟨7, 4, 1, xup { q := [(9, { ready := [[{}]] })] }, [{}], [], by decide⟩,
   ⟨7, 4, 1,
      { (xup { q := [(9, { ready := [[{ payload := zeros 6 ++ [4] ++ zeros 57 }]] })] }) with fab := { (xup { q := [(9, { ready := [[{ payload := zeros 6 ++ [4] ++ zeros 57 }]] })] }).fab with devices := [(0, 0)] } }, [{ payload := zeros 6 ++ [4] ++ zeros 57 }], [],
      by decide +kernel⟩,
   ⟨{}, up, by decide⟩,
   ⟨0, 0, up, by decide⟩,
   ⟨0, 0, { up with fab := { up.fab with store := [{}] } }, {}, by decide⟩⟩

/-- States and operands that meet the hypotheses of each clause of CollectivesTakeEffect. -/
theorem witness_CollectivesTakeEffect :
    (∃ (rq : Req), ∃ lo, ∃ hi, ∃ (s : State), Served { cmdHF 0x0B01 20 with own := namesSelf 0 } rq s = true ∧ ((fun u => rq.u8 0 < 16
        ∧ rq.u32 4 ≠ 0xFFFFFFFF ∧ 10 ≤ rq.u32 16 ∧ rq.u32 16 ≤ 1000000 ∧ u.fab.assigned = true ∧ u.berthExists (rq.u8 0) = true ∧
        (u.groupAt (rq.u32 4)).valid = false ∧ groupBox rq u = some (lo, hi) ∧ u.shtl.group.length < 64) (accept rq (CmdSpec.code
        { cmdHF 0x0B01 20 with own := namesSelf 0 }) s)))
    ∧ (∃ (rq : Req), ∃ (s : State), Served { cmdHF 0x0B02 8 with own := namesSelf 0 } rq s = true ∧ ((fun u => groupErr rq u = none
        ∧ u.groupBusy (rq.u32 4) = false) (accept rq (CmdSpec.code { cmdHF 0x0B02 8 with own := namesSelf 0 }) s)))
    ∧ (∃ (rq : Req), ∃ (s : State), Served { cmdHF 0x0B02 8 with own := namesSelf 0 } rq s = true ∧ ((fun u => groupErr rq u = none
        ∧ u.groupBusy (rq.u32 4) = true) (accept rq (CmdSpec.code { cmdHF 0x0B02 8 with own := namesSelf 0 }) s)))
    ∧ (∃ (rq : Req), ∃ k, ∃ (s : State), Served { cmdHF 0x0B03 40 with own := namesSelf 0 } rq s = true ∧ ((fun u => groupErr rq u = none ∧
        (opOf rq).argsOk rq (u.groupAt (rq.u32 4)) = true ∧ (opOf rq).inputs (u.groupAt (rq.u32 4)) u.fab.id = 0 ∧ u.coversBuf (u.groupAt
        (rq.u32 4)).berth (rq.u32 32) (rq.u64 16) 0 = true ∧ u.coversBuf (u.groupAt (rq.u32 4)).berth (rq.u32 32) (rq.u64 24)
        ((opOf rq).outputs (u.groupAt (rq.u32 4)) * (opOf rq).esize) = true ∧ u.domainOn 143 = true ∧ u.freeOp = some k) (accept rq
        (CmdSpec.code { cmdHF 0x0B03 40 with own := namesSelf 0 }) s)))
    ∧ (∃ (rq : Req), ∃ (s : State), Served { cmdHF 0x0B03 40 with own := namesSelf 0 } rq s = true ∧ ((fun u => groupErr rq u = none ∧
        (opOf rq).argsOk rq (u.groupAt (rq.u32 4)) = false) (accept rq (CmdSpec.code { cmdHF 0x0B03 40 with own := namesSelf 0 }) s)))
    ∧ (∃ (rq : Req), ∃ k, ∃ (s : State), Served { cmdHF 0x0B04 12 with own := namesSelf 0 } rq s = true ∧ ((fun u => groupErr rq u = none
        ∧ Tab.find (fun _ (op : ColOp) => op.tag.toNat == rq.u32 4 && op.seq.toNat == rq.u32 8) u.shtl.slots = some k) (accept rq
        (CmdSpec.code { cmdHF 0x0B04 12 with own := namesSelf 0 }) s)))
    ∧ (∃ (rq : Req), ∃ (s : State), Served (cmdOwn 0x0B05 8 0) rq s = true ∧ ((fun u => groupErr rq u = none) (accept rq (CmdSpec.code
        (cmdOwn 0x0B05 8 0)) s)))
    ∧ (∃ bytes, ∃ (s : State), ∃ u, (24 ≤ bytes.length) ∧ (s.domainOn 143 = true) ∧ (s.opPast (colHdr bytes) = false) ∧ (u = shtlGo
        { s with shtl := { s.shtl with early := s.shtl.early ++ [{ dst := s.fab.id, kind := 3, vc := 3, body := bytes }] } }) ∧
        (u.shtl.earlyBytes ≤ 262144))
    ∧ (∃ (i : Nat), ∃ (s : State), ∃ (m : Msg), (s.shtl.early[i]? = some m) ∧ (s.opPending (colHdr m.body) = false))
    ∧ (∃ (k : Fin 8), ∃ (s : State), ∃ a, (s.opSlots.contains k.val = true) ∧ ((s.opAt k.val).begun = true) ∧ (s.opAxis
        (s.opAt k.val) = some a)) :=
  ⟨⟨rq ([0,2,0,0] ++ w4 0xFFFFFFFE ++ z 8 ++ w4 1000000), (0, 0, 0), (0, 0, 0),
      { bup with fab := { bup.fab with assigned := true, nx := 1, ny := 1, nz := 1 } }, by decide⟩,
   ⟨rq (z 8), { up with shtl := { up.shtl with group := [(0, { valid := true })] } }, by decide⟩,
   ⟨rq (z 8), { up with shtl := { up.shtl with group := [(0, { valid := true })], slots := [(0, {})] } }, by decide⟩,
   ⟨rq ([0,4] ++ z 38), 0, { up with shtl := { up.shtl with group := [(0, { valid := true })] } }, by decide⟩,
   ⟨rq ([0,5] ++ z 38), { up with shtl := { up.shtl with group := [(0, { valid := true })] } }, by decide⟩,
   ⟨rq (z 12), 0, { up with shtl := { up.shtl with group := [(0, { valid := true })], slots := [(0, {})] } }, by decide⟩,
   ⟨rq (z 8), { up with shtl := { up.shtl with group := [(0, { valid := true })] } }, by decide⟩,
   ⟨zeros 24, up, _, by decide, by decide, by decide, rfl, by decide +kernel⟩,
   ⟨0, { up with shtl := { up.shtl with early := [{}] } }, {}, by decide⟩,
   ⟨7, { up with shtl := { up.shtl with group := [(0, { valid := true, hi := (1, 0, 0) })], slots := [(7, { begun := true })] } }, 0,
      by decide⟩⟩

/-- States and operands that meet the hypotheses of each clause of RdmaCommandsTakeEffect. -/
theorem witness_RdmaCommandsTakeEffect :
    (∃ (rq : Req), ∃ (new : RdmaB), ∃ (s : State), Served (cmdH 0x0C01 12) rq s = true ∧ ((fun u => rq.u8 0 < 16 ∧ new =
        { qpBase := rq.u16 2, qps := rq.u16 4, mrBase := 16 * rq.u16 8, mrs := 16 * rq.u16 10 } ∧ new.qps ≤ 4096
        ∧ new.qpBase + new.qps ≤ 4096 ∧ new.mrBase + new.mrs ≤ 65536 ∧ u.berthExists (rq.u8 0) = true ∧ (∀ e ∈ u.rdma.qp, e.2.used = true
        → e.2.berth = rq.u8 0 → new.qpBase ≤ e.1 ∧ e.1 < new.qpBase + new.qps) ∧ (∀ t ∈ u.qpBlocks
        (rq.u8 0), overlaps new.qpBase new.qps t.1 t.2 = false) ∧ (∀ t ∈ u.mrBlocks
        (rq.u8 0), overlaps new.mrBase new.mrs t.1 t.2 = false)) (accept rq (CmdSpec.code (cmdH 0x0C01 12)) s)))
    ∧ (∃ (rq : Req), ∃ (s : State), Served (cmdH 0x0C01 12) rq s = true ∧ ((fun u => rq.u8 0 < 16 ∧ rq.u16 4 ≤ 4096
        ∧ rq.u16 2 + rq.u16 4 ≤ 4096 ∧ 16 * rq.u16 8 + 16 * rq.u16 10 ≤ 65536 ∧ u.berthExists (rq.u8 0) = true ∧
        ∃ e ∈ u.rdma.qp, e.2.used = true ∧ e.2.berth = rq.u8 0 ∧ (e.1 < rq.u16 2 ∨ rq.u16 2 + rq.u16 4 ≤ e.1)) (accept rq (CmdSpec.code
        (cmdH 0x0C01 12)) s)))
    ∧ (∃ (rq : Req), ∃ i, ∃ (s : State), Served (cmdOwn 0x0C02 32 0) rq s = true ∧ ((fun u => rq.u8 0 < 16 ∧ 1 ≤ rq.u64 16
        ∧ rq.u64 16 ≤ 2 ^ 40 ∧ rq.u32 24 < (u.rdmaB (rq.u8 0)).mrs ∧ i = (u.rdmaB (rq.u8 0)).mrBase + rq.u32 24) (accept rq (CmdSpec.code
        (cmdOwn 0x0C02 32 0)) s)))
    ∧ (∃ (rq : Req), ∃ (s : State), Served (cmdOwn 0x0C02 32 0) rq s = true ∧ ((fun _ => rq.u64 16 = 0 ∨ 2 ^ 40 < rq.u64 16) (accept rq
        (CmdSpec.code (cmdOwn 0x0C02 32 0)) s)))
    ∧ (∃ (rq : Req), ∃ i, ∃ (s : State), Served (cmdOwn 0x0C03 8 0) rq s = true ∧ ((fun u => rq.u8 0 < 16 ∧ i = rq.u32 4 / 256 ∧ (u.rdmaB
        (rq.u8 0)).mrBase ≤ i ∧ i < (u.rdmaB (rq.u8 0)).mrBase + (u.rdmaB (rq.u8 0)).mrs ∧ (u.mrAt i).valid = true ∧
        (u.mrAt i).key8.toNat = rq.u32 4 % 256) (accept rq (CmdSpec.code (cmdOwn 0x0C03 8 0)) s)))
    ∧ (∃ (rq : Req), ∃ c, ∃ (s : State), Served (cmdOwn 0x0C04 16 0) rq s = true ∧ ((fun u => u.rdmaIndex rq = some c ∧ isPow2In 16 65536
        (rq.u32 4) = true ∧ rq.u64 8 % 4096 = 0 ∧ (u.cqAt c).used = false) (accept rq (CmdSpec.code (cmdOwn 0x0C04 16 0)) s)))
    ∧ (∃ (rq : Req), ∃ c, ∃ (s : State), Served (cmdOwn 0x0C04 16 0) rq s = true ∧ ((fun u => u.rdmaIndex rq = some c ∧ isPow2In 16 65536
        (rq.u32 4) = true ∧ rq.u64 8 % 4096 = 0 ∧ (u.cqAt c).used = true) (accept rq (CmdSpec.code (cmdOwn 0x0C04 16 0)) s)))
    ∧ (∃ (rq : Req), ∃ c, ∃ (s : State), Served (cmdOwn 0x0C05 4 0) rq s = true ∧ ((fun u => u.rdmaIndex rq = some c ∧
        (u.cqAt c).used = true ∧ ∀ e ∈ u.rdma.qp, e.2.used = true → e.2.sqCq ≠ c ∧ e.2.rqCq ≠ c) (accept rq (CmdSpec.code
        (cmdOwn 0x0C05 4 0)) s)))
    ∧ (∃ (rq : Req), ∃ c, ∃ (s : State), Served (cmdOwn 0x0C05 4 0) rq s = true ∧ ((fun u => u.rdmaIndex rq = some c ∧
        ∃ e ∈ u.rdma.qp, e.2.used = true ∧ (e.2.sqCq = c ∨ e.2.rqCq = c)) (accept rq (CmdSpec.code (cmdOwn 0x0C05 4 0)) s)))
    ∧ (∃ (rq : Req), ∃ q, ∃ (s : State), Served (cmdOwn 0x0C06 32 0) rq s = true ∧ ((fun u => u.rdmaIndex rq = some q ∧ rq.u8 1 ≤ 2
        ∧ depthOk (rq.u16 10) = true ∧ depthOk (rq.u16 12) = true ∧ rq.u8 14 ≤ 1 ∧ rq.u64 16 % 4096 = 0 ∧ rq.u64 24 % 4096 = 0 ∧ rq.u16 6 <
        (u.rdmaB (rq.u8 0)).qps ∧ rq.u16 8 < (u.rdmaB (rq.u8 0)).qps ∧ (rq.u8 14 = 1 → isHarbour u rq = true) ∧ (u.qpAt q).used = false ∧
        (u.cqAt ((u.rdmaB (rq.u8 0)).qpBase + rq.u16 6)).used = true ∧ (u.cqAt ((u.rdmaB (rq.u8 0)).qpBase + rq.u16 8)).used = true)
        (accept rq (CmdSpec.code (cmdOwn 0x0C06 32 0)) s)))
    ∧ (∃ (rq : Req), ∃ q, ∃ (s : State), Served (cmdOwn 0x0C06 32 0) rq s = true ∧ ((fun u => u.rdmaIndex rq = some q ∧ rq.u8 1 ≤ 2
        ∧ depthOk (rq.u16 10) = true ∧ depthOk (rq.u16 12) = true ∧ rq.u8 14 = 1 ∧ rq.u64 16 % 4096 = 0 ∧ rq.u64 24 % 4096 = 0 ∧ rq.u16 6 <
        (u.rdmaB (rq.u8 0)).qps ∧ rq.u16 8 < (u.rdmaB (rq.u8 0)).qps ∧ isHarbour u rq = false) (accept rq (CmdSpec.code
        (cmdOwn 0x0C06 32 0)) s)))
    ∧ (∃ (rq : Req), ∃ q, ∃ (s : State), Served (cmdOwn 0x0C07 76 0) rq s = true ∧ ((fun u => u.rdmaIndex rq = some q ∧ rq.u8 4 ≤ 4
        ∧ modifyOk rq (u.qpAt q).path.toNat (rq.u8 4) = true ∧ (u.qpAt q).used = true ∧ (rq.u8 4 = 0 ∨ rq.u8 4 = 4 ∨
        ((u.qpAt q).state.toNat + 1 = rq.u8 4 ∧ u.rdmaEngine q = true)) ∧ (rq.u8 4 = 2 → u.pathOk rq (u.qpAt q) = true)) (accept rq
        (CmdSpec.code (cmdOwn 0x0C07 76 0)) s)))
    ∧ (∃ (rq : Req), ∃ q, ∃ (s : State), Served (cmdOwn 0x0C07 76 0) rq s = true ∧ ((fun u => u.rdmaIndex rq = some q ∧ modifyOk rq
        (u.qpAt q).path.toNat (rq.u8 4) = true ∧ 1 ≤ rq.u8 4 ∧ rq.u8 4 ≤ 3 ∧ (u.qpAt q).state.toNat + 1 ≠ rq.u8 4) (accept rq (CmdSpec.code
        (cmdOwn 0x0C07 76 0)) s)))
    ∧ (∃ (rq : Req), ∃ q, ∃ (s : State), Served (cmdOwn 0x0C07 76 0) rq s = true ∧ ((fun u => u.rdmaIndex rq = some q ∧ rq.u8 4 = 2
        ∧ modifyOk rq (u.qpAt q).path.toNat 2 = true ∧ (u.qpAt q).used = true ∧ (u.qpAt q).state = 1 ∧ u.rdmaEngine q = true ∧ u.pathOk rq
        (u.qpAt q) = false) (accept rq (CmdSpec.code (cmdOwn 0x0C07 76 0)) s)))
    ∧ (∃ (rq : Req), ∃ q, ∃ (s : State), Served (cmdOwn 0x0C08 4 0) rq s = true ∧ ((fun u => u.rdmaIndex rq = some q ∧
        (u.qpAt q).used = true) (accept rq (CmdSpec.code (cmdOwn 0x0C08 4 0)) s)))
    ∧ (∃ (rq : Req), ∃ q, ∃ (s : State), Served (cmdOwn 0x0C09 4 0) rq s = true ∧ ((fun u => u.rdmaIndex rq = some q ∧
        (u.qpAt q).used = true ∧ ((u.qpAt q).state = 0 ∨ (u.qpAt q).state = 4)) (accept rq (CmdSpec.code (cmdOwn 0x0C09 4 0)) s)))
    ∧ (∃ (rq : Req), ∃ q, ∃ (s : State), Served (cmdOwn 0x0C09 4 0) rq s = true ∧ ((fun u => u.rdmaIndex rq = some q ∧ (u.qpAt q).state ≠ 0
        ∧ (u.qpAt q).state ≠ 4) (accept rq (CmdSpec.code (cmdOwn 0x0C09 4 0)) s)))
    ∧ (∃ (rq : Req), ∃ (s : State), Served (cmdHBA 0x0C0A 0) rq s = true) :=
  ⟨⟨rq ([0,0] ++ w2 1 ++ w2 4095 ++ z 2 ++ w2 0 ++ w2 4096), { qpBase := 1, qps := 4095, mrBase := 0, mrs := 65536 }, bup, by decide⟩,
   ⟨rq (z 12), { bup with rdma := { bup.rdma with qp := [(0, { used := true })] } }, by decide⟩,
   ⟨rq (z 16 ++ [0,0,0,0,0,1,0,0] ++ z 8), 0, { up with rdma := { up.rdma with berth := [(0, { mrs := 1 })] } }, by decide⟩,
   ⟨(rq (z 32)), up, by decide⟩,
   ⟨rq (z 8), 0, { up with rdma := { up.rdma with berth := [(0, { mrs := 1 })], mr := [(0, { valid := true })] } }, by decide⟩,
   ⟨rq (z 4 ++ w4 65536 ++ z 8), 0, { up with rdma := { up.rdma with berth := [(0, { qps := 1 })] } }, by decide⟩,
   ⟨rq (z 4 ++ w4 65536 ++ z 8), 0, { up with rdma := { up.rdma with berth := [(0, { qps := 1 })], cq := [(0, { used := true })] } },
      by decide⟩,
   ⟨rq (z 4), 0, { up with rdma := { up.rdma with berth := [(0, { qps := 1 })], cq := [(0, { used := true })] } }, by decide⟩,
   ⟨rq (z 4), 0, { up with rdma := { up.rdma with berth := [(0, { qps := 1 })], qp := [(0, { used := true })] } }, by decide⟩,
   ⟨rq ([0,2] ++ z 8 ++ w2 4096 ++ w2 16 ++ [1] ++ z 17), 0,
      { up with rdma := { up.rdma with berth := [(0, { qps := 1 })], cq := [(0, { used := true })] } }, by decide⟩,
   ⟨rqb ([0,2] ++ z 8 ++ w2 4096 ++ w2 16 ++ [1] ++ z 17), 0,
      { bup with rdma := { bup.rdma with berth := [(0, { qps := 1 })], cq := [(0, { used := true })] } }, by decide⟩,
   ⟨rq (z 76), 0, { up with rdma := { up.rdma with berth := [(0, { qps := 1 })], qp := [(0, { used := true })] } }, by decide⟩,
   ⟨rq (z 4 ++ [2] ++ z 71), 0, { up with rdma := { up.rdma with berth := [(0, { qps := 1 })], qp := [(0, { used := true })] } },
      by decide⟩,
   ⟨rq (z 4 ++ [2] ++ z 71), 0,
      { up with rdma := { up.rdma with berth := [(0, { qps := 1 })], qp := [(0, { used := true, state := 1 })] } }, by decide⟩,
   ⟨rq (z 4), 0, { up with rdma := { up.rdma with berth := [(0, { qps := 1 })], qp := [(0, { used := true })] } }, by decide⟩,
   ⟨rq (z 4), 0, { up with rdma := { up.rdma with berth := [(0, { qps := 1 })], qp := [(0, { used := true, state := 4 })] } }, by decide⟩,
   ⟨rq (z 4), 0, { up with rdma := { up.rdma with berth := [(0, { qps := 1 })], qp := [(0, { used := true, state := 3 })] } }, by decide⟩,
   ⟨(rq (z 0)), up, by decide⟩⟩

/-- States and operands that meet the hypotheses of each clause of RdmaEnginesTakeEffect. -/
theorem witness_RdmaEnginesTakeEffect :
    (∃ (b : Fin 16), ∃ (v : BitVec 32), ∃ (s : State), ∃ q, (s.vfLive b.val = true) ∧ (s.dbIndex b.val v.toNat = some q))
    ∧ (∃ (b : Fin 16), ∃ (v : BitVec 32), ∃ (s : State), ∃ (c : Nat), (s.vfLive b.val = true) ∧ (s.dbIndex b.val v.toNat = some c) ∧
        ((s.cqAt c).used = true))
    ∧ (∃ (b : Fin 16), ∃ (s : State), (s.vfLive b.val = false))
    ∧ (∃ (q : Fin 4096), ∃ (s : State), ((s.qpAt q.val).used = true) ∧ ((s.qpAt q.val).state ≠ 0))
    ∧ (∃ q, ∃ (s : State), ((s.qpAt q).state = 4))
    ∧ (∃ bytes, ∃ h, (roceOf bytes = some h) ∧ (h.icrcOk = false))
    ∧ (∃ bytes, ∃ h, (roceOf bytes = some h) ∧ (h.icrcOk = true))
    ∧ (∃ bytes, ∃ (s : State), ∃ (x : Qp), (x = s.qpAt ((parseRdma bytes false).qpn - qpnBase)) ∧ (x.used = true) ∧
        ((s.berthAt x.berth).fabricOk = false))
    ∧ (∃ bytes, ∃ (s : State), ∃ (x : Qp), (x = s.qpAt ((parseRdma bytes false).qpn - qpnBase)) ∧ (x.used = false ∨
        (s.berthAt x.berth).fabricOk = true))
    ∧ (∃ (p : RdmaPkt), (p.pkey ≠ 0xFFFF))
    ∧ (∃ (p : RdmaPkt), (p.pkey = 0xFFFF) ∧ (p.qpn < 0x1000))
    ∧ (∃ (p : RdmaPkt), ∃ (ok : Qp → Bool), ∃ (s : State), (p.pkey = 0xFFFF) ∧ (0x1000 ≤ p.qpn) ∧ (p.qpn < 0x2000) ∧ ((s.qpAt
        (p.qpn - 0x1000)).used = true) ∧ (ok (s.qpAt (p.qpn - 0x1000)) = true))
    ∧ (∃ (q : Fin 4096), ∃ (s : State), ((s.qpAt q.val).state = 3) ∧ (s.timersHeld (s.qpAt q.val) = false) ∧
        ((s.qpAt q.val).rnrWait = false) ∧ ((s.qpAt q.val).sqPsn ≠ (s.qpAt q.val).unaPsn))
    ∧ (∃ q, ∃ (s : State), ((s.qpAt q).retryCnt ≤ (s.qpAt q).retries))
    ∧ (∃ q, ∃ (s : State), ((s.qpAt q).retries < (s.qpAt q).retryCnt))
    ∧ (∃ (q : Fin 4096), ∃ (s : State), ((s.qpAt q.val).ackDue = true) ∧ (s.timersHeld (s.qpAt q.val) = false))
    ∧ (∃ (q : Fin 4096), ∃ (s : State), ((s.qpAt q.val).rnrWait = true) ∧ (s.timersHeld (s.qpAt q.val) = false))
    ∧ (∃ (q : Fin 4096), ∃ (s : State), (s.sump.safe = true) ∧ ((s.qpAt q.val).path = 0))
    ∧ (∃ q, ∃ (s : State), (0 < (s.qpAt q).echoHold))
    ∧ (∃ q, ∃ (s : State), ((s.qpAt q).echoHold = 0))
    ∧ (∃ (c : Nat), ∃ (s : State), ((s.cqAt c).used = true) ∧ ((s.cqAt c).err = false) ∧ ((s.cqAt c).full = true))
    ∧ (∃ (c : Nat), ∃ (s : State), ((s.cqAt c).err = true))
    ∧ (∃ (e : Fin 2), ∃ (s : State), (s.rdma.engines.getLsbD e.val = true))
    ∧ (∃ q, ∃ (s : State), ((s.qpAt q).used = true) ∧ ((s.qpAt q).state ≠ 4)) :=
  ⟨⟨0, (0 : BitVec 32), { bup with rdma := { bup.rdma with berth := [(0, { qps := 1 })] } }, 0, by decide⟩,
   ⟨0, (0 : BitVec 32), { bup with rdma := { bup.rdma with berth := [(0, { qps := 1 })], cq := [(0, { used := true })] } }, 0, by decide⟩,
   ⟨0, up, by decide⟩,
   ⟨4095, { up with rdma := { up.rdma with qp := [(4095, { used := true, state := 1 })] } }, by decide⟩,
   ⟨0, { up with rdma := { up.rdma with qp := [(0, { state := 4 })] } }, by decide⟩,
   ⟨roceHead ++ zeros 4, _, rfl, by decide +kernel⟩,
   ⟨roceHead ++ icrcOf false (sliceBytes roceHead 14 20) (sliceBytes roceHead 34 8) (sliceBytes roceHead 42 12), _, rfl, by decide +kernel⟩,
   ⟨[0, 0, 0, 0, 0, 0, 0x10, 0], { up with rdma := { up.rdma with qp := [(0, { used := true })] } }, { used := true }, by decide⟩,
   ⟨[], { up with glb := { up.glb with berth := [(0, { fabricOk := true })] } }, {}, by decide⟩,
   ⟨{ pkey := 0 }, by decide⟩,
   ⟨{}, by decide⟩,
   ⟨{ qpn := 0x1FFF }, (fun _ => true), { up with rdma := { up.rdma with qp := [(4095, { used := true })] } }, by decide⟩,
   ⟨4095, { up with rdma := { up.rdma with qp := [(4095, { used := true, state := 3, sqPsn := 1 })] } }, by decide⟩,
   ⟨0, { up with rdma := { up.rdma with qp := [(0, { retryCnt := 0 })] } }, by decide⟩,
   ⟨0, up, by decide⟩,
   ⟨0, { up with rdma := { up.rdma with qp := [(0, { ackDue := true })] } }, by decide⟩,
   ⟨0, { up with rdma := { up.rdma with qp := [(0, { rnrWait := true })] } }, by decide⟩,
   ⟨0, { up with sump := { up.sump with safe := true }, rdma := { up.rdma with qp := [(0, { path := 0 })] } }, by decide⟩,
   ⟨0, { up with rdma := { up.rdma with qp := [(0, { echoHold := 1 })] } }, by decide⟩,
   ⟨0, { up with rdma := { up.rdma with qp := [(0, { echoHold := 0 })] } }, by decide⟩,
   ⟨0, { up with rdma := { up.rdma with cq := [(0, { used := true, err := false, full := true })] } }, by decide⟩,
   ⟨0, { up with rdma := { up.rdma with cq := [(0, { err := true })] } }, by decide⟩,
   ⟨0, up, by decide⟩,
   ⟨0, { up with rdma := { up.rdma with qp := [(0, { used := true })] } }, by decide⟩⟩

/-- States and operands that meet the hypotheses of each clause of LedgerTakesEffect. -/
theorem witness_LedgerTakesEffect :
    (∃ (rq : Req), ∃ (s : State), Served (cmdOwn 0x0D01 8 0) rq s = true ∧ ((fun u => rq.u8 0 < 16 ∧ rq.u8 1 ≤ 1 ∧ rq.u8 2 ≤ 1
        ∧ rq.u32 4 ≤ 1000000 ∧ (isHarbour u rq = true ∨ (rq.u8 2 = 1 ↔ (u.chainAt (rq.u8 0)).gapOk = true)) ∧ (rq.u8 1 = 1 → rq.u8 2 = 1)
        ∧ u.berthExists (rq.u8 0) = true ∧ ((u.chainAt (rq.u8 0)).gapPolicy = true ↔ rq.u8 1 = 1)) (accept rq (CmdSpec.code
        (cmdOwn 0x0D01 8 0)) s)))
    ∧ (∃ (rq : Req), ∃ (s : State), Served (cmdOwn 0x0D01 8 0) rq s = true ∧ ((fun u => rq.u8 0 < 16 ∧ rq.u8 1 ≤ 1 ∧ rq.u8 2 ≤ 1
        ∧ rq.u32 4 ≤ 1000000 ∧ isHarbour u rq = true ∧ (rq.u8 1 = 1 → rq.u8 2 = 1) ∧ u.berthExists (rq.u8 0) = true ∧ ¬ ((u.chainAt
        (rq.u8 0)).gapPolicy = true ↔ rq.u8 1 = 1)) (accept rq (CmdSpec.code (cmdOwn 0x0D01 8 0)) s)))
    ∧ (∃ (rq : Req), ∃ (s : State), Served (cmdOwn 0x0D01 8 0) rq s = true ∧ ((fun u => rq.u8 0 < 16 ∧ rq.u8 1 ≤ 1 ∧ rq.u8 2 ≤ 1
        ∧ rq.u32 4 ≤ 1000000 ∧ isHarbour u rq = false ∧ ¬ (rq.u8 2 = 1 ↔ (u.chainAt (rq.u8 0)).gapOk = true)) (accept rq (CmdSpec.code
        (cmdOwn 0x0D01 8 0)) s)))
    ∧ (∃ (rq : Req), ∃ (s : State), Served (cmdH 0x0D02 16) rq s = true ∧ ((fun u => rq.u64 0 % 2 ^ 30 = 0 ∧ rq.u64 0 < 0x1000000000
        ∧ 1 ≤ rq.u8 8 ∧ rq.u8 8 ≤ 16 ∧ u.ph.region ≠ none ∧ u.ledg.ring = [] ∧ u.ringFits (rq.u64 0) (rq.u8 8) = true ∧ 1 ≤ (u.ddrAt
        (dramChannel (rq.u64 0))).st ∧ (u.ddrAt (dramChannel (rq.u64 0))).st ≤ 4) (accept rq (CmdSpec.code (cmdH 0x0D02 16)) s)))
    ∧ (∃ (rq : Req), ∃ (s : State), Served (cmdH 0x0D02 16) rq s = true ∧ ((fun u => rq.u64 0 % 2 ^ 30 = 0 ∧ rq.u64 0 < 0x1000000000
        ∧ 1 ≤ rq.u8 8 ∧ rq.u8 8 ≤ 16 ∧ u.ledg.ring ≠ []) (accept rq (CmdSpec.code (cmdH 0x0D02 16)) s)))
    ∧ (∃ (rq : Req), ∃ (s : State), Served (cmdOwn 0x0D03 4 0) rq s = true ∧ ((fun u => rq.u8 0 < 16 ∧ u.berthExists (rq.u8 0) = true ∧
        (u.berthAt (rq.u8 0)).state ≠ 2 ∧ (u.chainAt (rq.u8 0)).active = true) (accept rq (CmdSpec.code (cmdOwn 0x0D03 4 0)) s)))
    ∧ (∃ (rq : Req), ∃ (s : State), Served (cmdOwn 0x0D03 4 0) rq s = true ∧ ((fun u => rq.u8 0 < 16 ∧ (u.berthExists (rq.u8 0) = false ∨
        (u.berthAt (rq.u8 0)).state = 2)) (accept rq (CmdSpec.code (cmdOwn 0x0D03 4 0)) s)))
    ∧ (∃ (rq : Req), ∃ (s : State), Served { cmdOwn 0x0D04 4 0 with auditor := true } rq s = true ∧ ((fun _ => rq.u8 0 < 16) (accept rq
        (CmdSpec.code { cmdOwn 0x0D04 4 0 with auditor := true }) s)))
    ∧ (∃ (rq : Req), ∃ (s : State), Served (cmdHBA 0x0D05 0) rq s = true)
    ∧ (∃ b, ∃ (s : State), ((s.chainAt b).page.slots.length < 62))
    ∧ (∃ (b : Fin 16), ∃ (s : State), ((s.chainAt b.val).active = true) ∧ ((s.chainAt b.val).interval ≠ 0) ∧ (s.ledg.stopped = false) ∧
        ((s.chainAt b.val).appended = true))
    ∧ (∃ (b : Fin 16), ∃ (s : State), ((s.chainAt b.val).active = true) ∧ ((s.chainAt b.val).interval ≠ 0) ∧ (s.ledg.stopped = false) ∧
        ((s.chainAt b.val).appended = false))
    ∧ (∃ b, ∃ (s : State), ((s.chainAt b).signing = true ∨ s.sealRoom b = false))
    ∧ (∃ b, ∃ (s : State), ((s.chainAt b).signing = false) ∧ (s.sealRoom b = true))
    ∧ (∃ (b : Fin 16), ∃ (s : State), ∃ p, ∃ h, ((s.chainAt b.val).closed.find? Page.hashable = some p) ∧ (s.engineUp = true) ∧
        (h = sha256 p.bytes))
    ∧ (∃ (b : Fin 16), ∃ (s : State), ∃ p, ((s.chainAt b.val).closed.find? Page.awaitSig = some p) ∧ (p.prevHash ≠ none) ∧
        (s.engineUp = true) ∧ ((s.chainAt b.val).signHold = false))
    ∧ (∃ (e : Fin 2), ∃ (s : State), (s.ledg.engines.getLsbD e.val = true))
    ∧ (∃ (s : State), ∃ p, ∃ n, (firstOf s.bufferedPages = some p) ∧ (s.stagedPages = [] ∨ p.powerFail = true) ∧ (s.activeBay = some n) ∧
        (s.bayRoom n = true))
    ∧ (∃ (s : State), ∃ p, ∃ q, (firstOf s.bufferedPages = some p) ∧ (s.activeBay = none) ∧ (firstOf (s.bufferedPages.filter
        (fun p => 0 < s.ringRoom p.berth && !s.ledg.stopped)) = some q))
    ∧ (∃ (s : State), ∃ p, ∃ n, (firstOf s.stagedPages = some p) ∧ (s.activeBay = some n) ∧ (s.stagingUp = true) ∧ (s.bayRoom n = true) ∧
        (s.bufferedPages.any Page.powerFail = false)) :=
  ⟨⟨rq ([15,0,0,0] ++ w4 1000000), bup, by decide⟩,
   ⟨rq ([15,1,1,0] ++ w4 1000000), bup, by decide⟩,
   ⟨rqb ([0,0,1,0] ++ w4 1000000), bup, by decide⟩,
   ⟨rq (z 8 ++ [1] ++ z 7), dup { st := 4, capGib := 16 }, by decide⟩,
   ⟨rq (z 8 ++ [16] ++ z 7), { up with ledg := { up.ledg with ring := [{}] } }, by decide⟩,
   ⟨rq [15,0,0,0], { bup with ledg := { bup.ledg with chain := [(15, { active := true })] } }, by decide⟩,
   ⟨(rq (z 4)), { up with glb := { up.glb with berth := [(0, { state := 2 })] } }, by decide⟩,
   ⟨(rq (z 4)), up, by decide⟩,
   ⟨(rq (z 0)), up, by decide⟩,
   ⟨0, up, by decide⟩,
   ⟨0, { up with ledg := { up.ledg with stopped := false, chain := [(0, { active := true, appended := true })] } }, by decide⟩,
   ⟨0, { up with ledg := { up.ledg with stopped := false, chain := [(0, { active := true, appended := false })] } }, by decide⟩,
   ⟨0, { up with ledg := { up.ledg with chain := [(0, { signing := true })] } }, by decide⟩,
   ⟨0, { up with ledg := { up.ledg with chain := [(0, { signing := false })] } }, by decide⟩,
   ⟨15, { up with ledg := { up.ledg with chain := [(15, { closed := [{ prevHash := some [] }] })] } }, { prevHash := some [] }, _,
      by decide, by decide, rfl⟩,
   ⟨15, { up with ledg := { up.ledg with chain := [(15, { closed := [{ awaitSig := true, prevHash := some [] }] })] } },
      { awaitSig := true, prevHash := some [] }, by decide⟩,
   ⟨0, up, by decide⟩,
   ⟨{ up with ledg := { up.ledg with chain := [(15, { closed := [{ hash := some [] }] })] }, cist := { up.cist with bay := [(1, { st := 4 })] } },
      { hash := some [] }, 1, by decide⟩,
   ⟨{ (dup { st := 2 }) with ledg := { (dup { st := 2 }).ledg with chain := [(15, { closed := [{ hash := some [] }] })] } },
      { hash := some [] }, { hash := some [] }, by decide⟩,
   ⟨{ (dup { st := 2 }) with ledg := { (dup { st := 2 }).ledg with ring := [{ place := 4 }] }, cist := { (dup { st := 2 }).cist with bay := [(1, { st := 4 })] } },
      { place := 4 }, 1, by decide⟩⟩

/-- States and operands that meet the hypotheses of each clause of WitnessTakesEffect. -/
theorem witness_WitnessTakesEffect :
    (∃ (k : Fin 8), ∃ (s : State), ((s.xlAt k.val).isUp = true))
    ∧ (∃ (k : Fin 8), ∃ (s : State), ((s.xlAt k.val).isUp = false))
    ∧ (∃ (k : Fin 8), ∃ (s : State), ((s.xlAt k.val).carries = true))
    ∧ (∃ (k : Fin 8), ∃ bytes, ∃ (ph : Fin 32), ∃ (s : State), ∃ (x : Xl), ∃ (t4 : Nat), ∃ (θ : Int), ((s.xlAt k.val).carries = true) ∧
        ((s.xlAt k.val).witOpen = true) ∧ (x = s.xlAt k.val) ∧ (byteAt bytes 1 = x.round.toNat) ∧ (x.witEpoch = s.tide.epoch) ∧
        (x.witBroken = false) ∧ (t4 = s.xlStamp k.val false ph.val) ∧ (θ = peerOffset x.witT1 (stampAt bytes 8) (stampAt bytes 20) t4
        (Tab.look 0 s.tide.asym k.val)))
    ∧ (∃ (k : Fin 8), ∃ bytes, ∃ (s : State), ((s.xlAt k.val).carries = true) ∧ ((s.xlAt k.val).witOpen = true) ∧ (byteAt bytes 1 ≠
        (s.xlAt k.val).round.toNat ∨ (s.xlAt k.val).witEpoch ≠ s.tide.epoch ∨ (s.xlAt k.val).witBroken = true))
    ∧ (∃ (k : Fin 8), ∃ (s : State), ((s.xlAt k.val).witOpen = true))
    ∧ (∃ (k : Fin 8), ∃ (s : State), ((s.xlAt k.val).witOpen = false))
    ∧ (∃ k, ∃ (θ : Int), ∃ (s : State), (s.tide.dissentLimit.toNat * 1000 < θ.natAbs) ∧ (s.tide.dissent.getLsbD k = false) ∧
        (Tab.look 0 s.tide.overRun k = 2))
    ∧ (∃ k, ∃ (θ : Int), ∃ (s : State), (θ.natAbs ≤ s.tide.dissentLimit.toNat * 1000) ∧ (s.tide.dissent.getLsbD k = true) ∧
        (Tab.look 0 s.tide.withinRun k = 2))
    ∧ (∃ k, ∃ (θ : Int), ∃ (s : State), (s.tide.dissentLimit.toNat * 1000 < θ.natAbs) ∧ (Tab.look 0 s.tide.overRun k < 2)) :=
  ⟨⟨7, xup { state := 3 }, by decide⟩,
   ⟨7, xup { state := 4 }, by decide⟩,
   ⟨7, xup { state := 5 }, by decide⟩,
   ⟨7, zeros 64, 31, xup { state := 3, witOpen := true }, _, _, _, by decide, by decide, rfl, by decide, by decide, by decide, rfl, rfl⟩,
   ⟨7, [0, 1], xup { state := 3, witOpen := true }, by decide⟩,
   ⟨0, { up with xl := [(0, { witOpen := true })] }, by decide⟩,
   ⟨0, { up with xl := [(0, { witOpen := false })] }, by decide⟩,
   ⟨7, 1000000000, { up with tide := { up.tide with overRun := [(7, 2)] } }, by decide⟩,
   ⟨7, 0, { up with tide := { up.tide with dissent := 0x80, withinRun := [(7, 2)] } }, by decide⟩,
   ⟨7, 1000000000, { up with tide := { up.tide with overRun := [(7, 1)] } }, by decide⟩⟩

/-- States and operands that meet the hypotheses of each clause of CisternCommandsTakeEffect. -/
theorem witness_CisternCommandsTakeEffect :
    (∃ (rq : Req), ∃ (s : State), Served (cmdHBA 0x0E01 0) rq s = true)
    ∧ (∃ (rq : Req), ∃ (s : State), Served (cmdH 0x0E02 4) rq s = true ∧ ((fun _ => rq.u8 0 ≤ 5 ∧ (rq.u8 1 = 0 ∨ (50 ≤ rq.u8 1
        ∧ rq.u8 1 ≤ 99))) (accept rq (CmdSpec.code (cmdH 0x0E02 4)) s)))
    ∧ (∃ (rq : Req), ∃ n, ∃ m, ∃ (s : State), Served (cmdH 0x0E03 0) rq s = true ∧ ((fun u => u.activeBay = some n ∧ u.standbyBay = some m)
        (accept rq (CmdSpec.code (cmdH 0x0E03 0)) s)))
    ∧ (∃ (rq : Req), ∃ (s : State), Served (cmdH 0x0E03 0) rq s = true ∧ ((fun u => u.activeBay = none ∨ u.standbyBay = none) (accept rq
        (CmdSpec.code (cmdH 0x0E03 0)) s)))
    ∧ (∃ (rq : Req), ∃ (s : State), Served (cmdH 0x0E04 4) rq s = true ∧ ((fun u => rq.u8 0 ≤ 1 ∧ (u.bayAt (rq.u8 0)).st ≤ 2) (accept rq
        (CmdSpec.code (cmdH 0x0E04 4)) s)))
    ∧ (∃ (rq : Req), ∃ (s : State), Served (cmdH 0x0E04 4) rq s = true ∧ ((fun u => rq.u8 0 ≤ 1 ∧ (u.bayAt (rq.u8 0)).st = 7) (accept rq
        (CmdSpec.code (cmdH 0x0E04 4)) s)))
    ∧ (∃ (rq : Req), ∃ (s : State), Served (cmdH 0x0E04 4) rq s = true ∧ ((fun u => rq.u8 0 ≤ 1 ∧ (u.bayAt (rq.u8 0)).st = 4) (accept rq
        (CmdSpec.code (cmdH 0x0E04 4)) s)))
    ∧ (∃ (rq : Req), ∃ (s : State), Served (cmdH 0x0E04 4) rq s = true ∧ ((fun u => rq.u8 0 ≤ 1 ∧ ((u.bayAt (rq.u8 0)).st = 3 ∨ (u.bayAt
        (rq.u8 0)).st = 5 ∨ (u.bayAt (rq.u8 0)).st = 6)) (accept rq (CmdSpec.code (cmdH 0x0E04 4)) s)))
    ∧ (∃ (rq : Req), ∃ (s : State), Served (cmdHA 0x0E05 4) rq s = true ∧ ((fun u => rq.u8 0 ≤ 1 ∧ (u.bayAt (rq.u8 0)).st ≠ 0 ∧ (u.cartAt
        (rq.u8 0)).ident ≠ []) (accept rq (CmdSpec.code (cmdHA 0x0E05 4)) s)))
    ∧ (∃ (rq : Req), ∃ (s : State), Served (cmdHA 0x0E06 4) rq s = true ∧ ((fun u => rq.u8 0 ≤ 1 ∧ 3 ≤ (u.bayAt (rq.u8 0)).st) (accept rq
        (CmdSpec.code (cmdHA 0x0E06 4)) s)))
    ∧ ((∀ k m g, Config.edVerify k m g = true) → ∃ (rq : Req), ∃ (s : State), Served (cmdHA 0x0E07 132) rq s = true ∧
        ((fun u => rq.u8 0 ≤ 1 ∧ ((u.bayAt (rq.u8 0)).st = 3 ∨ (u.bayAt (rq.u8 0)).st = 5 ∨ (u.bayAt (rq.u8 0)).st = 6 ∨ (u.bayAt
        (rq.u8 0)).st = 7) ∧ retireValid (u.bayAt (rq.u8 0)).nonce (u.cartAt (rq.u8 0)).ident (rq.bytes 4 128) = true) (accept rq
        (CmdSpec.code (cmdHA 0x0E07 132)) s)))
    ∧ (∃ (rq : Req), ∃ (s : State), Served (cmdHA 0x0E07 132) rq s = true ∧ ((fun u => rq.u8 0 ≤ 1 ∧ (u.bayAt (rq.u8 0)).st = 4) (accept rq
        (CmdSpec.code (cmdHA 0x0E07 132)) s)))
    ∧ (∃ (rq : Req), ∃ (s : State), Served (cmdHA 0x0E08 12) rq s = true ∧ ((fun u => rq.u8 0 ≤ 1 ∧ rq.u8 1 = 1 ∧ rq.u64 4 < 0x100000000
        ∧ 3 ≤ (u.bayAt (rq.u8 0)).st) (accept rq (CmdSpec.code (cmdHA 0x0E08 12)) s))) :=
  ⟨⟨(rq (z 0)), up, by decide⟩,
   ⟨(rq (z 4)), up, by decide⟩,
   ⟨rq [], 0, 1, { up with cist := { up.cist with bay := [(0, { st := 4 }), (1, { st := 3 })] } }, by decide⟩,
   ⟨(rq (z 0)), up, by decide⟩,
   ⟨(rq (z 4)), up, by decide⟩,
   ⟨(rq (z 4)), { up with cist := { up.cist with bay := [(0, { st := 7 })] } }, by decide⟩,
   ⟨(rq (z 4)), { up with cist := { up.cist with bay := [(0, { st := 4 })] } }, by decide⟩,
   ⟨(rq (z 4)), { up with cist := { up.cist with bay := [(0, { st := 6 })] } }, by decide⟩,
   ⟨rq [1,0,0,0], cup { st := 1, cart := some { ident := [1] } }, by decide⟩,
   ⟨rq [1,0,0,0], cup { st := 3 }, by decide⟩,
   fun h => ⟨rq ([1] ++ z 131), cup { st := 7, nonce := some (zeros 32) }, by decide +kernel, by decide +kernel, by decide +kernel,
      by simp only [retireValid, h, Bool.and_true]; decide +kernel⟩,
   ⟨rq ([1] ++ z 131), cup { st := 4 }, by decide +kernel⟩,
   ⟨rq ([1,1,0,0] ++ [255,255,255,255,0,0,0,0]), cup { st := 3 }, by decide⟩⟩

/-- States and operands that meet the hypotheses of each clause of CisternEventsTakeEffect. -/
theorem witness_CisternEventsTakeEffect :
    (∃ (n : Fin 2), ∃ (i : Nat), ∃ (s : State), ∃ a, ((s.bayAt n.val).out[i]? = some a))
    ∧ (∃ (n : Fin 2), ∃ (s : State), ((s.bayAt n.val).draining ≠ none))
    ∧ (∃ (n : Fin 2), ∃ (s : State), ((s.bayAt n.val).draining = none))
    ∧ (∃ (n : Fin 2), ∃ (s : State), ∃ recent, ∃ u, ((s.bayAt n.val).out ≠ []) ∧ (recent = s.tide.nowFs :: ((s.bayAt n.val).stalls.filter
        (fun t => s.tide.nowFs < t + 1000000000000000))) ∧ (u = onCist (fun c => { c with stallCnt := bump c.stallCnt }) (onBay n.val
        (fun x => { x with stalls := recent }) s)) ∧ (recent.length < 64))
    ∧ (∃ (n : Fin 2), ∃ (s : State), ∃ recent, ∃ u, ((s.bayAt n.val).out ≠ []) ∧ (recent = s.tide.nowFs :: ((s.bayAt n.val).stalls.filter
        (fun t => s.tide.nowFs < t + 1000000000000000))) ∧ (u = onCist (fun c => { c with stallCnt := bump c.stallCnt }) (onBay n.val
        (fun x => { x with stalls := recent }) s)) ∧ (64 ≤ recent.length))
    ∧ (∃ (n : Fin 2), ∃ (s : State), ((s.bayAt n.val).st ≠ 0) ∧ ((s.bayAt n.val).st ≠ 2) ∧ ((s.bayAt n.val).st ≠ 8))
    ∧ (∃ (n : Fin 2), ∃ (s : State), ((s.bayAt n.val).mounted = true))
    ∧ (∃ (s : State), ∃ us, ∃ u, (s.pagesWait = true) ∧ (us = 1000 * s.cist.hkShare.toNat) ∧ (u = revokeWindow 1 (revokeWindow 0 s)) ∧
        (us ≠ 0) ∧ ((s.bayAt 0).mounted = true ∨ (s.bayAt 1).mounted = true))
    ∧ (∃ (s : State), ∃ u, (s.pagesWait = false) ∧ ((s.bayAt 0).window = none) ∧ ((s.bayAt 1).window = none) ∧
        (u = grantWindow 0xFFFFFFFF 0 s) ∧ ((u.bayAt 1).window = none))
    ∧ (∃ (n : Fin 2), ∃ (s : State), ∃ u, ((s.bayAt n.val).prsnt = false) ∧ (u = onBay n.val (fun x =>
        { x with prsnt := true, latched := true, cart := some {} }) s))
    ∧ (∃ (n : Fin 2), ∃ (res : ProbeRes), ∃ (s : State), ∃ u, ((s.bayAt n.val).st = 1) ∧ (u = onBay n.val (fun x =>
        { x with linkFull := res.linkFull, serial := BitVec.ofNat 64 (fieldLe (padTo 1024 res.ident) 8 8), life := lifeOf (padTo 1024 res.ident) })
        (onCart n.val (fun c => { c with ident := padTo 1024 res.ident }) (drawn (emit (.nvme n.val 0xC6 Config.deviceSerial.toNat
        (s.freeRun 16)) s)))))
    ∧ (∃ used, (8192 ≤ used))
    ∧ (∃ used, ∃ (s : State), (used < 8192) ∧ (s.anyActive = true))
    ∧ (∃ used, ∃ (s : State), (used < 8192) ∧ (s.anyActive = false))
    ∧ (∃ (n : Fin 2), ∃ (s : State), ((s.bayAt n.val).st = 1))
    ∧ (∃ (n : Fin 2), ∃ (s : State), ((s.bayAt n.val).prsnt = true))
    ∧ (∃ (n : Fin 2), ∃ (s : State), ((s.bayAt n.val).prsnt = false))
    ∧ (∃ (n : Fin 2), ∃ (s : State), ((s.bayAt n.val).prsnt = true) ∧ ((s.bayAt n.val).st ≠ 0))
    ∧ (∃ (n : Fin 2), ∃ (s : State), ∃ u, (u = onBay n.val (fun x => { x with latched := false }) s) ∧ ((s.bayAt n.val).st = 4))
    ∧ (∃ (n : Fin 2), ∃ (s : State), ∃ u, (u = onBay n.val (fun x => { x with latched := false }) s) ∧ ((s.bayAt n.val).st = 3 ∨
        (s.bayAt n.val).st = 5 ∨ (s.bayAt n.val).st = 6))
    ∧ (∃ (n : Fin 2), ∃ (s : State), ∃ u, (u = onBay n.val (fun x => { x with latched := false }) s) ∧ ((s.bayAt n.val).st ≤ 2 ∨ 7 ≤
        (s.bayAt n.val).st))
    ∧ (∃ (n : Fin 2), ∃ (s : State), ∃ u, (u = onBay n.val (fun x => { x with latched := true }) s) ∧ ((s.bayAt n.val).st = 7))
    ∧ (∃ (n : Fin 2), ∃ (s : State), ∃ u, (u = onBay n.val (fun x => { x with latched := true }) s) ∧ ((s.bayAt n.val).st ≠ 7)) :=
  ⟨⟨1, 0, cup { out := [{}] }, {}, by decide⟩,
   ⟨1, cup { draining := some 3 }, by decide⟩,
   ⟨0, { up with cist := { up.cist with bay := [(0, { draining := none })] } }, by decide⟩,
   ⟨1, cup { out := [{}], stalls := List.replicate 62 0 }, _, _, by decide, rfl, rfl, by decide⟩,
   ⟨1, cup { out := [{}], stalls := List.replicate 63 0 }, _, _, by decide, rfl, rfl, by decide⟩,
   ⟨1, cup { st := 3 }, by decide⟩,
   ⟨1, cup { st := 6 }, by decide⟩,
   ⟨{ cup { st := 3 } with ledg := { up.ledg with ring := [{}] } }, _, _, by decide, rfl, rfl, by decide, by decide⟩,
   ⟨up, _, by decide, by decide, by decide, rfl, by decide⟩,
   ⟨1, up, _, by decide, rfl⟩,
   ⟨1,
      { linkFull := true, geometryOk := true, cacheOff := true, ident := [], side := [], authSerial := [], authSig := [], usedZones := 8192 }, cup
      { st := 1 }, _, by decide, rfl⟩,
   ⟨8192, by decide⟩,
   ⟨8191, cup { st := 4 }, by decide⟩,
   ⟨0, up, by decide⟩,
   ⟨0, { up with cist := { up.cist with bay := [(0, { st := 1 })] } }, by decide⟩,
   ⟨0, { up with cist := { up.cist with bay := [(0, { prsnt := true })] } }, by decide⟩,
   ⟨0, { up with cist := { up.cist with bay := [(0, { prsnt := false })] } }, by decide⟩,
   ⟨1, cup { prsnt := true, st := 3 }, by decide⟩,
   ⟨1, cup { st := 4 }, _, rfl, by decide⟩,
   ⟨1, cup { st := 6 }, _, rfl, by decide⟩,
   ⟨0, up, up, by decide⟩,
   ⟨1, cup { st := 7 }, _, rfl, by decide⟩,
   ⟨1, cup { st := 3 }, _, rfl, by decide⟩⟩

/-- States and operands that meet the hypotheses of each clause of RiskCommandsTakeEffect. -/
theorem witness_RiskCommandsTakeEffect :
    (∃ (rq : Req), ∃ others, ∃ (s : State), Served (cmdH 0x0901 16) rq s = true ∧ ((fun u => rq.u8 0 < 16 ∧ rq.u8 4 + rq.u8 5 ≤ 256
        ∧ rq.u16 6 + rq.u16 8 ≤ 512 ∧ others = (List.range 16).filter (· ≠ rq.u8 0) ∧ (∀ o ∈ others, overlaps (rq.u8 4) (rq.u8 5)
        (u.weirB o).acctBase (u.weirB o).acctSize = false ∧ overlaps (rq.u16 6) (rq.u16 8) (u.weirB o).instrBase
        (u.weirB o).instrSize = false) ∧ (others.map (fun o => (u.weirB o).agg)).foldl (· + ·) 0 + fieldLe rq.payload 10 3 ≤ 262144 ∧
        (others.map (fun o => (u.weirB o).scen)).foldl (· + ·) 0 + fieldLe rq.payload 13 3 ≤ 524288 ∧ u.berthExists (rq.u8 0) = true
        ∧ u.acctsUsed (rq.u8 0) = 0 ∧ u.instrsUsed (rq.u8 0) = 0) (accept rq (CmdSpec.code (cmdH 0x0901 16)) s)))
    ∧ (∃ (rq : Req), ∃ (s : State), Served (cmdOwn 0x0902 20 0) rq s = true ∧ ((fun _ => rq.u8 0 < 16 ∧ rq.u8 1 ≤ 1 ∧ rq.u8 2 ≤ 63
        ∧ rq.u8 3 ≤ 1 ∧ rq.u8 4 ≤ 1 ∧ rq.u8 5 ≤ 1 ∧ rq.u8 6 ≤ 2 ∧ rq.u32 8 ≤ 1000000 ∧ rq.u16 12 ≤ 1024 ∧ rq.u32 16 ≤ 1000000) (accept rq
        (CmdSpec.code (cmdOwn 0x0902 20 0)) s)))
    ∧ (∃ (rq : Req), ∃ w, ∃ (s : State), Served (cmdOwn 0x0903 24 0) rq s = true ∧ ((fun u => rq.u8 0 < 16 ∧ rq.u8 1 = 0 ∧ placeWay
        (u.findAcct (rq.u8 0) (rq.u32 4)) (u.acctWays (rq.u8 0) (rq.u32 4)) (fun w => (Tab.look {} u.weir.acct w).valid) = some w)
        (accept rq (CmdSpec.code (cmdOwn 0x0903 24 0)) s)))
    ∧ (∃ (rq : Req), ∃ (s : State), Served (cmdOwn 0x0903 24 0) rq s = true ∧ ((fun u => rq.u8 0 < 16 ∧ rq.u8 1 = 0 ∧ placeWay (u.findAcct
        (rq.u8 0) (rq.u32 4)) (u.acctWays (rq.u8 0) (rq.u32 4)) (fun w => (Tab.look {} u.weir.acct w).valid) = none) (accept rq
        (CmdSpec.code (cmdOwn 0x0903 24 0)) s)))
    ∧ (∃ (rq : Req), ∃ w, ∃ (s : State), Served (cmdOwn 0x0903 24 0) rq s = true ∧ ((fun u => rq.u8 0 < 16 ∧ rq.u8 1 = 1 ∧ u.findAcct
        (rq.u8 0) (rq.u32 4) = some w) (accept rq (CmdSpec.code (cmdOwn 0x0903 24 0)) s)))
    ∧ (∃ (rq : Req), ∃ w, ∃ e, ∃ (s : State), Served (cmdOwn 0x0903 24 0) rq s = true ∧ ((fun u => rq.u8 0 < 16 ∧ rq.u8 1 = 2 ∧ u.findAcct
        (rq.u8 0) (rq.u32 4) = some w ∧ e = Tab.look {} u.weir.acct w ∧ e.poison = false) (accept rq (CmdSpec.code
        (cmdOwn 0x0903 24 0)) s)))
    ∧ (∃ (rq : Req), ∃ w, ∃ (s : State), Served (cmdOwn 0x0904 48 0) rq s = true ∧ ((fun u => rq.u8 0 < 16 ∧ rq.u8 1 = 0 ∧ rq.u16 2 ≠ 0 ∧
        (u.weirB (rq.u8 0)).columnOk (rq.u16 36) = true ∧ placeWay (u.findInstr (rq.u8 0) (rq.u32 4)) (u.instrWays (rq.u8 0) (rq.u32 4))
        (fun w => (Tab.look {} u.weir.instr w).valid) = some w) (accept rq (CmdSpec.code (cmdOwn 0x0904 48 0)) s)))
    ∧ (∃ (rq : Req), ∃ w, ∃ (s : State), Served (cmdOwn 0x0904 48 0) rq s = true ∧ ((fun u => rq.u8 0 < 16 ∧ rq.u8 1 = 1 ∧ u.findInstr
        (rq.u8 0) (rq.u32 4) = some w) (accept rq (CmdSpec.code (cmdOwn 0x0904 48 0)) s)))
    ∧ (∃ (rq : Req), ∃ w, ∃ (s : State), Served (cmdOwn 0x0905 28 0) rq s = true ∧ ((fun u => rq.u8 0 < 16 ∧ rq.u8 1 = 0 ∧ (u.findPos
        (rq.u8 0) (rq.u32 4) (rq.u32 8)).or (u.freePos (rq.u8 0) (rq.u32 4) (rq.u32 8)) = some w) (accept rq (CmdSpec.code
        (cmdOwn 0x0905 28 0)) s)))
    ∧ (∃ (rq : Req), ∃ w, ∃ e, ∃ (s : State), Served (cmdOwn 0x0905 28 0) rq s = true ∧ ((fun u => rq.u8 0 < 16 ∧ rq.u8 1 = 2 ∧ u.findPos
        (rq.u8 0) (rq.u32 4) (rq.u32 8) = some w ∧ e = Tab.look {} u.weir.pos w ∧ e.poison = false) (accept rq (CmdSpec.code
        (cmdOwn 0x0905 28 0)) s)))
    ∧ (∃ (rq : Req), ∃ w, ∃ e, ∃ (s : State), Served (cmdOwn 0x0905 28 0) rq s = true ∧ ((fun u => rq.u8 0 < 16 ∧ rq.u8 1 = 1 ∧ u.findPos
        (rq.u8 0) (rq.u32 4) (rq.u32 8) = some w ∧ e = Tab.look {} u.weir.pos w ∧ e.poison = false ∧ e.position = 0) (accept rq
        (CmdSpec.code (cmdOwn 0x0905 28 0)) s)))
    ∧ (∃ (rq : Req), ∃ w, ∃ (s : State), Served (cmdOwn 0x0905 28 0) rq s = true ∧ ((fun u => rq.u8 0 < 16 ∧ rq.u8 1 = 1 ∧ u.findPos
        (rq.u8 0) (rq.u32 4) (rq.u32 8) = some w ∧ (Tab.look {} u.weir.pos w).position ≠ 0) (accept rq (CmdSpec.code
        (cmdOwn 0x0905 28 0)) s)))
    ∧ (∃ (rq : Req), ∃ (s : State), Served (cmdOwn 0x0907 16 0) rq s = true ∧ ((fun _ => rq.u8 0 < 16) (accept rq (CmdSpec.code
        (cmdOwn 0x0907 16 0)) s)))
    ∧ (∃ (rq : Req), ∃ h, ∃ (j : State → Judgement), ∃ (s : State), Served (cmdOwn 0x0906 4 0) rq s = true ∧ ((fun u => rq.u8 0 < 16
        ∧ rq.u8 1 ≤ 2 ∧ (rq.u8 1 = 2 → (u.weirB (rq.u8 0)).exemptOk = true) ∧ (u.weirB (rq.u8 0)).held.find?
        (fun h => h.1 == rq.u16 2) = some h ∧ j = fun u => releaseVerdict h.2 (rq.u8 1) (refreshFull (rq.u8 0) u)) (accept rq (CmdSpec.code
        (cmdOwn 0x0906 4 0)) s)))
    ∧ (∃ f, ∃ (s : State), (s.ledgerShut (s.frameAt f).berth = true))
    ∧ (∃ (rq : Req), ∃ (s : State), Served (cmdOwn 0x0906 4 0) rq s = true ∧ ((fun u => rq.u8 0 < 16 ∧ rq.u8 1 ≤ 1 ∧ (u.weirB
        (rq.u8 0)).held.find? (fun h => h.1 == rq.u16 2) = none) (accept rq (CmdSpec.code (cmdOwn 0x0906 4 0)) s)))
    ∧ (∃ (rq : Req), ∃ (s : State), Served { cmdOwn 0x0908 8 0 with len := fun p => 8 + fieldLe p 2 2 } rq s = true ∧
        ((fun u => rq.u8 0 < 16 ∧ 1 ≤ rq.u16 2 ∧ rq.u16 2 ≤ 4072 ∧ rq.u32 4 + rq.u16 2 ≤ 4 * (u.weirB (rq.u8 0)).scen) (accept rq
        (CmdSpec.code { cmdOwn 0x0908 8 0 with len := fun p => 8 + fieldLe p 2 2 }) s)))
    ∧ (∃ (rq : Req), ∃ w, ∃ (s : State), Served { cmdOwn 0x090A 4 0 with auditor := true } rq s = true ∧ ((fun u => rq.u8 0 < 16
        ∧ w = u.weirB (rq.u8 0)) (accept rq (CmdSpec.code { cmdOwn 0x090A 4 0 with auditor := true }) s))) :=
  ⟨⟨rq ([15,0,0,0,128,128] ++ w2 256 ++ w2 256 ++ [0,0,4,0,0,8]), _, bup, by decide, by decide, by decide, by decide, rfl, by decide,
      by decide, by decide, by decide, by decide, by decide⟩,
   ⟨(rq (z 20)), up, by decide⟩,
   ⟨rq (z 24), (wup.acctWays 0 0).headD 0, wup, by decide +kernel⟩,
   ⟨(rq (z 24)), up, by decide⟩,
   ⟨rq ([0,1] ++ z 22), (hup.acctWays 0 0).headD 0, hup, by decide +kernel⟩,
   ⟨rq ([0,2] ++ z 22), (hup.acctWays 0 0).headD 0, { valid := true }, hup, by decide +kernel⟩,
   ⟨rq ([0,0,1,0] ++ z 32 ++ w2 0xFFFF ++ z 10), (wup.instrWays 0 0).headD 0, wup, by decide +kernel⟩,
   ⟨rq ([0,1] ++ z 46), (hup.instrWays 0 0).headD 0, hup, by decide +kernel⟩,
   ⟨rq (z 28), 0, wup, by decide +kernel⟩,
   ⟨rq ([0,2] ++ z 26), 0, { valid := true }, hup, by decide +kernel⟩,
   ⟨rq ([0,1] ++ z 26), 0, { valid := true }, hup, by decide +kernel⟩,
   ⟨rq ([0,1] ++ z 26), 0, { hup with weir := { hup.weir with pos := [(0, { valid := true, position := 1 })] } }, by decide +kernel⟩,
   ⟨(rq (z 16)), up, by decide⟩,
   ⟨rq (z 4), _, _, kup { held := [(0, 0)] }, by decide, by decide, by decide, by decide, rfl, rfl⟩,
   ⟨0, { (fup {}) with ledg := { (fup {}).ledg with chain := [(0, { active := true, full := true })] } }, by decide⟩,
   ⟨(rq (z 4)), up, by decide⟩,
   ⟨rq ([0,0,1,0] ++ w4 3 ++ [9]), kup { scen := 1 }, by decide⟩,
   ⟨(rq (z 4)), {}, up, by decide⟩⟩

/-- States and operands that meet the hypotheses of each clause of WindlassTakesEffect. -/
theorem witness_WindlassTakesEffect :
    (∃ (rq : Req), ∃ (s : State), Served (cmdOwn 0x0909 20 0) rq s = true ∧ ((fun u => rq.u8 0 < 16 ∧ rq.u8 1 = 0
        ∧ windArgsOk rq u = true ∧ rq.u16 4 * rq.u16 8 ≤ (u.weirB (rq.u8 0)).agg ∧ rq.u16 8 * rq.u8 6 ≤ (u.weirB (rq.u8 0)).scen)
        (accept rq (CmdSpec.code (cmdOwn 0x0909 20 0)) s)))
    ∧ (∃ (rq : Req), ∃ (s : State), Served (cmdOwn 0x0909 20 0) rq s = true ∧ ((fun u => rq.u8 0 < 16 ∧ rq.u8 1 = 0
        ∧ windArgsOk rq u = true ∧ ((u.weirB (rq.u8 0)).agg < rq.u16 4 * rq.u16 8 ∨ (u.weirB (rq.u8 0)).scen < rq.u16 8 * rq.u8 6))
        (accept rq (CmdSpec.code (cmdOwn 0x0909 20 0)) s)))
    ∧ (∃ (rq : Req), ∃ (s : State), Served (cmdOwn 0x0909 20 0) rq s = true ∧ ((fun _ => rq.u8 0 < 16 ∧ rq.u8 1 = 2) (accept rq
        (CmdSpec.code (cmdOwn 0x0909 20 0)) s)))
    ∧ (∃ (rq : Req), ∃ (s : State), Served (cmdOwn 0x0909 20 0) rq s = true ∧ ((fun u => rq.u8 0 < 16 ∧ rq.u8 1 = 1 ∧ (u.weirB
        (rq.u8 0)).configured = true ∧ u.runOf (rq.u8 0) = false ∧ (u.weirB (rq.u8 0)).tiles ≠ 0 ∧ u.weir.tiles ≠ 0 ∧ u.weir.run = none)
        (accept rq (CmdSpec.code (cmdOwn 0x0909 20 0)) s)))
    ∧ (∃ (rq : Req), ∃ r, ∃ (s : State), Served (cmdOwn 0x0909 20 0) rq s = true ∧ ((fun u => rq.u8 0 < 16 ∧ rq.u8 1 = 1 ∧ (u.weirB
        (rq.u8 0)).configured = true ∧ u.runOf (rq.u8 0) = false ∧ (u.weirB (rq.u8 0)).tiles ≠ 0 ∧ u.weir.tiles ≠ 0 ∧ u.weir.run = some r)
        (accept rq (CmdSpec.code (cmdOwn 0x0909 20 0)) s)))
    ∧ (∃ (rq : Req), ∃ (s : State), Served (cmdOwn 0x0909 20 0) rq s = true ∧ ((fun u => rq.u8 0 < 16 ∧ rq.u8 1 = 1 ∧ (u.weirB
        (rq.u8 0)).configured = true ∧ u.runOf (rq.u8 0) = true) (accept rq (CmdSpec.code (cmdOwn 0x0909 20 0)) s)))
    ∧ (∃ (b : Fin 16), ∃ (s : State), ((s.weirB b.val).configured = true) ∧ ((s.weirB b.val).period ≠ 0) ∧ ((s.weirB b.val).tiles ≠ 0) ∧
        (s.runOf b.val = true))
    ∧ (∃ (b : Fin 16), ∃ (s : State), ((s.weirB b.val).configured = true) ∧ ((s.weirB b.val).period ≠ 0) ∧ ((s.weirB b.val).tiles ≠ 0) ∧
        (s.runOf b.val = false))
    ∧ (∃ (i : Fin 4), ∃ (t : Fin 4), ∃ (s : State), ∃ r, (s.weir.run = some r) ∧ (i.val < r.outTiles) ∧ (r.done.contains i.val = false) ∧
        (s.weir.tiles.getLsbD t.val = true))
    ∧ (∃ (s : State), ∃ r, (s.weir.run = some r) ∧ (r.reduced = true))
    ∧ (∃ (s : State), ∃ r, (s.weir.run = some r) ∧ (r.reduced = false))
    ∧ (∃ (t : Fin 4), ∃ (s : State), (s.weir.tiles.getLsbD t.val = true))
    ∧ (∃ (t : Fin 4), ∃ (s : State), (s.weir.tiles.getLsbD t.val = false))
    ∧ (∃ way, ∃ (s : State), ∃ u, (u = { s with weir := { s.weir with flushAt := way + 1 } }))
    ∧ (∃ way, ∃ (s : State), ((Tab.look {} s.weir.acct way).valid = true)) :=
  ⟨⟨rq ([0,0,4,1] ++ w2 256 ++ [64,0] ++ w2 8192 ++ z 2 ++ w4 1000000 ++ w4 0xFFFFFFFF), kup { agg := 2097152, scen := 524288 }, by decide⟩,
   ⟨rq ([0,0,4,1] ++ w2 256 ++ [64,0] ++ w2 8192 ++ z 2 ++ w4 1000000 ++ w4 0xFFFFFFFF), kup { agg := 2097151, scen := 524288 }, by decide⟩,
   ⟨rq ([15,2] ++ z 18), up, by decide⟩,
   ⟨rq ([15,1] ++ z 18), kup { configured := true, tiles := 1 }, by decide⟩,
   ⟨rq ([0,1] ++ z 18), { berth := 15 },
      { (kup { configured := true, tiles := 1 }) with weir := { (kup { configured := true, tiles := 1 }).weir with run := some { berth := 15 } } },
      by decide⟩,
   ⟨rq ([0,1] ++ z 18),
      { (kup { configured := true, tiles := 1 }) with weir := { (kup { configured := true, tiles := 1 }).weir with dueRuns := [(0, none)] } },
      by decide⟩,
   ⟨15,
      { (kup { configured := true, tiles := 1, period := 1 }) with weir := { (kup { configured := true, tiles := 1, period := 1 }).weir with dueRuns := [(15, none)] } },
      by decide⟩,
   ⟨15, kup { configured := true, tiles := 1, period := 1 }, by decide⟩,
   ⟨3, 3, { up with weir := { up.weir with run := some { m := 256 } } }, { m := 256 }, by decide⟩,
   ⟨{ up with weir := { up.weir with run := some { reduced := true } } }, { reduced := true }, by decide⟩,
   ⟨{ up with weir := { up.weir with run := some {} } }, {}, by decide⟩,
   ⟨0, up, by decide⟩,
   ⟨3, { up with weir := { up.weir with tiles := 7 } }, by decide⟩,
   ⟨0, up, _, rfl⟩,
   ⟨0, { up with weir := { up.weir with acct := [(0, { valid := true })] } }, by decide⟩⟩

/-- States and operands that meet the hypotheses of each clause of AtMostOneBayIsActive. -/
theorem witness_AtMostOneBayIsActive :
    ∃ (s : State), ∃ t, (BaysSound s) ∧ (step s = .next t) :=
  ⟨{ up with cist := { up.cist with bay := [(0, { st := 4, prsnt := true, latched := true, cart := some {} })] }, pending := [.latchOpen 0] }, _,
      ⟨rfl, rfl, by decide⟩, rfl⟩

/-- States and operands that meet the hypotheses of each clause of TheGuardKeepsItsLimits. -/
theorem witness_TheGuardKeepsItsLimits :
    ∃ (s : State), ∃ t, (s.guard.Sound) ∧ (step s = .next t) :=
  ⟨{ up with guard := { up.guard with running := true, enabled := true, vcode := 8, latBound := 450, vcap := some 8 }, pending := [.latBoundReturn] }, _,
      ⟨⟨by decide, by decide, by decide, by decide⟩, (fun _ h => by cases h), (fun _ h => by cases h; decide), by decide, (fun _ _ =>
      by decide), (fun _ => rfl), (fun _ => by decide)⟩, rfl⟩

/-- States and operands that meet the hypotheses of each clause of DramContentStaysSound. -/
theorem witness_DramContentStaysSound :
    ∃ (s : State), ∃ t, (DramSound s) ∧ (step s = .next t) :=
  ⟨{ dup { st := 2, capGib := 1, mem := [(5, 1)], poison := List.replicate 16 0 } with pending := [.driftUpdate 1] }, _, (fun c =>
      by rcases c with _ | _ | c; exacts [⟨rfl, by decide⟩, ⟨rfl, by decide⟩, ⟨rfl, Nat.zero_le _⟩]), rfl⟩

/-- States and operands that meet the hypotheses of each clause of AStepRunsTheFrontCommand. -/
theorem witness_AStepRunsTheFrontCommand :
    ∃ c, ∃ rest, ∃ (s : State), (s.pending = c :: rest) :=
  ⟨.tapReset, [], { up with pending := [.tapReset] }, by decide⟩

/-- States and operands that meet the hypotheses of each clause of AnEmptyQueueIsOneClockCycle. -/
theorem witness_AnEmptyQueueIsOneClockCycle :
    ∃ (s : State), (s.pending = []) :=
  ⟨up, by decide⟩

/-- States and operands that meet the hypotheses of each clause of RequestsAreCheckedInOrder. -/
theorem witness_RequestsAreCheckedInOrder :
    (∃ i, ∃ c, ∃ (rq : Req), ∃ (s : State), (commandOf i = some (c, rq)) ∧ (s.takesDoorbell rq.fn.val = false))
    ∧ (∃ i, ∃ c, ∃ (rq : Req), ∃ (s : State), (commandOf i = some (c, rq)) ∧ (s.takesDoorbell rq.fn.val = true) ∧
        ((s.mbxAt rq.fn.val).busy = true))
    ∧ (∃ i, ∃ c, ∃ (rq : Req), ∃ (s : State), (commandOf i = some (c, rq)) ∧ (s.takesDoorbell rq.fn.val = true) ∧
        ((s.mbxAt rq.fn.val).busy = false) ∧ (rq.length = 0) ∧ (c.len [] ≠ 0 ∨ c.code = 0x0101))
    ∧ (∃ (i : Instr) (c : CmdSpec) (rq : Req) (s : State), commandOf i = some (c, rq) ∧ s.takesDoorbell rq.fn.val = true ∧
        (s.mbxAt rq.fn.val).busy = false ∧ ¬ (rq.length = 0 ∧ (c.len [] ≠ 0 ∨ c.code = 0x0101)) ∧ s.ph.recovery = true
        ∧ recoveryRuns c.code = false)
    ∧ (∃ (i : Instr) (c : CmdSpec) (rq : Req) (s : State), commandOf i = some (c, rq) ∧ s.takesDoorbell rq.fn.val = true ∧
        (s.mbxAt rq.fn.val).busy = false ∧ ¬ (rq.length = 0 ∧ (c.len [] ≠ 0 ∨ c.code = 0x0101)) ∧ s.ph.recovery = false ∧ c.permits rq
        (accept rq c.code s) (s.role rq.fn.val) = false)
    ∧ (∃ (i : Instr) (c : CmdSpec) (rq : Req) (s : State), commandOf i = some (c, rq) ∧ s.takesDoorbell rq.fn.val = true ∧
        (s.mbxAt rq.fn.val).busy = false ∧ ¬ (rq.length = 0 ∧ (c.len [] ≠ 0 ∨ c.code = 0x0101)) ∧ s.ph.recovery = false ∧ c.permits rq
        (accept rq c.code s) (s.role rq.fn.val) = true ∧ rq.length.toNat ≠ c.len rq.payload) :=
  ⟨⟨.systemPing (rq []), _, rq [], State.reset, rfl, by decide⟩,
   ⟨.systemPing (rq []), _, rq [], { up with mbx := [(0, { busy := true })] }, rfl, by decide, by decide⟩,
   ⟨.sumpConfig (rq []), _, rq [], up, rfl, by decide, by decide, by decide, by decide⟩,
   ⟨.sumpConfig (rq (z 4)), _, rq (z 4), { up with ph := { up.ph with recovery := true } }, rfl, by decide, by decide, by decide,
      by decide, by decide⟩,
   ⟨.sumpConfig (rqb (z 4)), _, rqb (z 4), bup, rfl, by decide, by decide, by decide, by decide, by decide⟩,
   ⟨.sumpConfig (rq (z 5)), _, rq (z 5), up, rfl, by decide, by decide, by decide, by decide, by decide, by decide⟩⟩

/-- States and operands that meet the hypotheses of each clause of TheMailboxProtocol. -/
theorem witness_TheMailboxProtocol :
    (∃ (rq : Req), ∃ (g : Nat), (g ≠ rq.fn.val))
    ∧ (∃ (fn : Nat), ∃ (g : Nat), (g ≠ fn))
    ∧ (∃ (fn : Nat), ∃ (s : State), ((s.mbxAt fn).reqNotify = false))
    ∧ (∃ (fn : Nat), ∃ (s : State), ((s.mbxAt fn).reqNotify = true) ∧ ((s.mbxAt fn).lostSince = 0) ∧ ((s.mbxAt fn).evtProd -
        (s.mbxAt fn).evtCons < 64)) :=
  ⟨⟨rq [], 16, by decide⟩,
   ⟨0, 1, by decide⟩,
   ⟨0, { up with mbx := [(0, { reqNotify := false })] }, by decide⟩,
   ⟨0, { up with mbx := [(0, { reqNotify := true, lostSince := 0 })] }, by decide⟩⟩

/-- States and operands that meet the hypotheses of each clause of WaitingGuardSettingsTakeEffectAtTheNextRead. -/
theorem witness_WaitingGuardSettingsTakeEffectAtTheNextRead :
    (∃ (rq : Req), ∃ (s : State), Served (cmdH 0x1120 12) rq s = true ∧ ((fun u => u.guard.inFlight = true ∧ CfgSound
        ⟨rq.u8 0 == 1, BitVec.ofNat 8 (rq.u8 1), BitVec.ofNat 16 (rq.u16 2), BitVec.ofNat 16 (rq.u16 4), BitVec.ofNat 8
        (rq.u8 6), BitVec.ofNat 8 (rq.u8 7)⟩ ∧ rq.u8 0 ≤ 1 ∧ rq.u8 1 % 5 = 0 ∧ 5 ≤ rq.u8 1 ∧ rq.u8 1 ≤ 25 ∧ rq.u16 2 % 5 = 0) (accept rq
        (CmdSpec.code (cmdH 0x1120 12)) s)))
    ∧ (∃ (rq : Req), ∃ (s : State), Served (cmdH 0x1123 4) rq s = true ∧ ((fun u => u.guard.inFlight = true ∧ (rq.u16 0 = 0 ∨ 30 ≤ rq.u16 0
        ∧ rq.u16 0 ≤ 250) ∧ rq.u8 2 ≤ 1) (accept rq (CmdSpec.code (cmdH 0x1123 4)) s)))
    ∧ (∃ c, ∃ (w : BitVec 16 × Bool), ∃ (s : State), (s.guard.running = true) ∧ (s.guard.pendCfg = some c) ∧ (s.guard.pendCap = some w))
    ∧ (∃ c, ∃ (s : State), (s.guard.running = true) ∧ (s.guard.pendCfg = some c) ∧ (s.guard.pendCap = none))
    ∧ (∃ (w : BitVec 16 × Bool), ∃ (s : State), (s.guard.running = true) ∧ (s.guard.pendCfg = none) ∧ (s.guard.pendCap = some w)) :=
  ⟨⟨rq ([1,25] ++ w2 1000 ++ w2 100 ++ [40,40] ++ z 4), { up with guard := { up.guard with inFlight := true } }, by decide, by decide,
      ⟨by decide, by decide, by decide, by decide⟩, by decide⟩,
   ⟨(rq (z 4)), { up with guard := { up.guard with inFlight := true } }, by decide⟩,
   ⟨{}, (0, false), { up with guard := { up.guard with running := true, pendCfg := some {}, pendCap := some (0, false) } }, by decide⟩,
   ⟨{}, { up with guard := { up.guard with running := true, pendCfg := some {}, pendCap := none } }, by decide⟩,
   ⟨(0, false), { up with guard := { up.guard with running := true, pendCfg := none, pendCap := some (0, false) } }, by decide⟩⟩

/-- States and operands that meet the hypotheses of each clause of ResetsStopTheTestBlockAndEmptyTheStrainer. -/
theorem witness_ResetsStopTheTestBlockAndEmptyTheStrainer :
    ∃ (i : Instr), (i = .porstN ∨ i = .chipReset) :=
  ⟨.chipReset, by decide⟩

end Sys2Proof.Tests
end

section
/-! The settings that wait for a VOUT_COMMAND in flight: held by the command that brings them, taken first by the next read of the
sentinels (03_self_timed_core.md R89). -/

namespace Sys2Proof.Machine

/-! ### What waits -/

/-- The settings that wait: a configuration, and a cap with its mode (R89). -/
def Guard.waiting (g : Guard) : Option GuardCfg × Option (BitVec 16 × Bool) := (g.pendCfg, g.pendCap)

/-- The state with no setting waiting. -/
def State.noneWaiting (s : State) : State := { s with guard := { s.guard with pendCfg := none, pendCap := none } }

@[simp] theorem noneWaiting_waiting (s : State) : s.noneWaiting.guard.waiting = (none, none) := rfl

@[simp] theorem setBound_waiting (v : Nat) (c : BoundCause) (s : State) : (setBound v c s).guard.waiting = s.guard.waiting := by
  rw [setBound_guard]; rfl

@[simp] theorem setVolt_waiting (v : Nat) (s : State) : (setVolt v s).guard.waiting = s.guard.waiting := by
  obtain ⟨_, _, _, _, e, -⟩ := setVolt_guard v s
  rw [e]; rfl

@[simp] theorem setConflict_waiting (c : Bool) (s : State) : (setConflict c s).guard.waiting = s.guard.waiting := by
  unfold setConflict
  split <;> rfl

/-- A configuration taken leaves what waits alone: in each of the guard's cases (not running, disabled, newly enabled, enabled on) it moves
only the bound and the voltage besides its own settings. -/
@[simp] theorem applyCfg_waiting (c : GuardCfg) (s : State) : (applyCfg c s).guard.waiting = s.guard.waiting := by
  unfold applyCfg
  dsimp only
  split
  · rfl
  · split
    · rw [setVolt_waiting, setBound_waiting]; rfl
    · split
      · rw [setBound_waiting]; rfl
      · rw [setVolt_waiting, setBound_waiting]; rfl

/-- A cap taken leaves what waits alone. -/
@[simp] theorem applyCap_waiting (w : BitVec 16) (m : Bool) (s : State) : (applyCap w m s).guard.waiting = s.guard.waiting := by
  unfold applyCap
  dsimp only
  split
  · rw [setConflict_waiting]; rfl
  · rfl

/-! ### Taking what waits -/

/-- Takes a configuration that may wait. -/
def takeWaitingCfg (c : Option GuardCfg) (s : State) : State :=
  match c with
  | some c => applyCfg c s
  | none => s

/-- Takes a cap and its mode that may wait. -/
def takeWaitingCap (w : Option (BitVec 16 × Bool)) (s : State) : State :=
  match w with
  | some w => applyCap w.1 w.2 s
  | none => s

@[simp] theorem takeWaitingCfg_waiting (c : Option GuardCfg) (s : State) : (takeWaitingCfg c s).guard.waiting = s.guard.waiting := by
  cases c with
  | some c => exact applyCfg_waiting c s
  | none => rfl

@[simp] theorem takeWaitingCap_waiting (w : Option (BitVec 16 × Bool)) (s : State) : (takeWaitingCap w s).guard.waiting = s.guard.waiting := by
  cases w with
  | some w => exact applyCap_waiting w.1 w.2 s
  | none => rfl

/-- What waits is set aside, then the configuration is taken, then the cap. -/
theorem takePending_eq (s : State) : takePending s = takeWaitingCap s.guard.pendCap (takeWaitingCfg s.guard.pendCfg s.noneWaiting) := rfl

/-- Nothing waits once it is taken. -/
theorem takePending_waiting (s : State) : (takePending s).guard.waiting = (none, none) := by
  rw [takePending_eq, takeWaitingCap_waiting, takeWaitingCfg_waiting, noneWaiting_waiting]

/-- With nothing waiting there is nothing to take. -/
theorem takePending_of_noneWaiting {s : State} (h : s.guard.waiting = (none, none)) : takePending s = s := by
  obtain ⟨hc, hw⟩ := Prod.mk.inj h
  rw [takePending_eq, hc, hw]
  show s.noneWaiting = s
  rw [State.noneWaiting, ← hc, ← hw]

/-- What waited is taken once. -/
theorem takePending_takePending (s : State) : takePending (takePending s) = takePending s :=
  takePending_of_noneWaiting (takePending_waiting s)

/-- A read of the sentinels takes what waits before anything else: it reads as if the settings had been in force already (R89). -/
theorem sentinelRead_takePending (preds : List (BitVec 16)) {s : State} (hr : s.guard.running = true) :
    exec (.sentinelRead preds) s = exec (.sentinelRead preds) (takePending s) := by
  have hx : ∀ u, exec (.sentinelRead preds) u = execSentinelRead preds u := fun _ => rfl
  rw [hx, hx]
  unfold execSentinelRead
  rw [takePending_takePending, takePending_running, hr]
  simp only [Bool.not_true, Bool.false_eq_true, if_false]

/-! ### A setting sent while a VOUT_COMMAND is in flight -/

/-- The configuration that the operands of power.guard_config name (Table 03.6). -/
def guardCfgOf (rq : Req) : GuardCfg :=
  ⟨rq.u8 0 == 1, BitVec.ofNat 8 (rq.u8 1), BitVec.ofNat 16 (rq.u16 2), BitVec.ofNat 16 (rq.u16 4), BitVec.ofNat 8 (rq.u8 6),
    BitVec.ofNat 8 (rq.u8 7)⟩

/-- No operand of power.guard_config is cut when it becomes a setting, so the configuration's ranges are the operands' own (Table 03.6). -/
theorem guardCfgOf_sound_iff (rq : Req) : CfgSound (guardCfgOf rq) ↔
    (290 ≤ rq.u16 2 ∧ rq.u16 2 ≤ 1000) ∧ (10 ≤ rq.u16 4 ∧ rq.u16 4 ≤ 100) ∧ (8 ≤ rq.u8 6 ∧ rq.u8 6 ≤ 40) ∧ (8 ≤ rq.u8 7 ∧ rq.u8 7 ≤ 40) := by
  have h16 : ∀ i, (BitVec.ofNat 16 (rq.u16 i)).toNat = rq.u16 i := fun i => Nat.mod_eq_of_lt (Req.u16_lt rq i)
  have h8 : ∀ i, (BitVec.ofNat 8 (rq.u8 i)).toNat = rq.u8 i := fun i => Nat.mod_eq_of_lt (Req.u8_lt rq i)
  rw [← h16 2, ← h16 4, ← h8 6, ← h8 7]
  exact ⟨fun ⟨t, y, c, f⟩ => ⟨t, y, c, f⟩, fun ⟨t, y, c, f⟩ => ⟨t, y, c, f⟩⟩

/-- power.guard_config, sent while a VOUT_COMMAND is in flight, leaves its configuration waiting and changes nothing else. -/
theorem powerGuardConfig_waits (rq : Req) : Completes (.powerGuardConfig rq) (cmdH 0x1120 12) rq
    (fun u => u.guard.inFlight = true ∧ CfgSound (guardCfgOf rq) ∧ rq.u8 0 ≤ 1 ∧ rq.u8 1 % 5 = 0 ∧ 5 ≤ rq.u8 1 ∧ rq.u8 1 ≤ 25 ∧ rq.u16 2 % 5 = 0)
    (fun _ => []) (fun u => { u with guard := { u.guard with pendCfg := some (guardCfgOf rq) } }) := by
  refine completes_of (fun _ => rfl) (fun u h => ?_)
  obtain ⟨hfly, hcfg, hen, hmul, hlo, hhi, htgt⟩ := h
  obtain ⟨ht, hy, hc, hf⟩ := (guardCfgOf_sound_iff rq).mp hcfg
  dsimp only
  rw [if_neg ?inRange, if_pos hfly]
  case inRange =>
    simp only [Bool.or_eq_true, decide_eq_true_eq, bne_iff_ne]
    omega
  rfl

/-- power.set_cap, sent while a VOUT_COMMAND is in flight, leaves its cap and mode waiting and changes nothing else. -/
theorem powerSetCap_waits (rq : Req) : Completes (.powerSetCap rq) (cmdH 0x1123 4) rq
    (fun u => u.guard.inFlight = true ∧ (rq.u16 0 = 0 ∨ 30 ≤ rq.u16 0 ∧ rq.u16 0 ≤ 250) ∧ rq.u8 2 ≤ 1) (fun _ => [])
    (fun u => { u with guard := { u.guard with pendCap := some (BitVec.ofNat 16 (rq.u16 0), rq.u8 2 == 1) } }) := by
  refine completes_of (fun _ => rfl) (fun u h => ?_)
  obtain ⟨hfly, hcap, hmode⟩ := h
  dsimp only
  rw [if_neg ?inRange, if_pos hfly]
  case inRange =>
    simp only [Bool.or_eq_true, Bool.and_eq_true, decide_eq_true_eq, bne_iff_ne]
    omega
  rfl

end Sys2Proof.Machine

namespace Sys2Proof

open Machine

/-- Settles O59: the two commands hold their setting (R89), and the next read equals itself after taking what waits, because taking leaves
nothing waiting. -/
theorem waitingGuardSettingsTakeEffectAtTheNextRead : Obligations.WaitingGuardSettingsTakeEffectAtTheNextRead := by
  unfold Obligations.WaitingGuardSettingsTakeEffectAtTheNextRead
  refine ⟨powerGuardConfig_waits, powerSetCap_waits, fun preds c w s hr hc hw => ?_, fun preds c s hr hc hw => ?_,
    fun preds w s hr hc hw => ?_⟩
  · rw [sentinelRead_takePending preds hr, takePending_eq, hc, hw]; rfl
  · rw [sentinelRead_takePending preds hr, takePending_eq, hc, hw]; rfl
  · rw [sentinelRead_takePending preds hr, takePending_eq, hc, hw]; rfl

end Sys2Proof
end

section
/-! At most one bay of the Cistern is ACTIVE (16_cistern.md R356): the invariant over every command, and over the clock cycle. -/

namespace Sys2Proof.Machine

/-- A command whose footprint leaves out the Cistern keeps the state of the bays. -/
theorem exec_bays_of_footprint {i : Instr} (h : (footprint i).testBit Part.cist.place = false) (s : State) : Keptbays s (exec i s) :=
  ⟨fun t e => bays_of_view ((exec_kept i s).agrees t e) h⟩

/-- A clock cycle keeps the state of the bays. -/
theorem tick_bays (s : State) : (tick s).bays = s.bays := bays_of_view (tick_view (M := 201326594) (Nat.or_self _) s) rfl

/-- Every command keeps the bays sound. Three groups of commands: those that may change a bay's state, its switch or its outstanding appends,
among them the resets and MBX_READY (R361, R364, R372); those that write only other fields of the Cistern; and those whose footprint leaves it
out. -/
theorem exec_baysSound (i : Instr) {s : State} (k : BaysSound s) : BaysAfter (exec i s) := by
  cases i with
  -- These may move a bay between the states of Table 16.1, or change what is outstanding at it.
  | cisternSwap rq => exact execCisternSwap_sound rq k
  | cisternRelease rq => exact execCisternRelease_sound rq k
  | cisternRetire rq hwFault => exact execCisternRetire_sound rq hwFault k
  | pageWrite => exact execPageWrite_sound k
  | zoneAppendComplete n i ok => exact execZoneAppendComplete_sound n i ok k
  | stagingReadback err => exact execStagingReadback_sound err k
  | bayInsert n => exact execBayInsert_sound n k
  | probeComplete n res => exact execProbeComplete_sound n res k
  | probeLinkTimeout n => exact execProbeLinkTimeout_sound n k
  | bayRemove n => exact execBayRemove_sound n k
  | latchOpen n => exact execLatchOpen_sound n k
  | latchClose n => exact execLatchClose_sound n k
  | switchReissue n => exact execSwitchReissue_sound n k
  | lifeRead n ident => exact execLifeRead_sound n ident k
  | asyncEvent n mediaError ident => exact execAsyncEvent_sound n mediaError ident k
  | adminTimeout n => exact execAdminTimeout_sound n k
  | appendStall n => exact execAppendStall_sound n k
  | bayLinkLoss n => exact execBayLinkLoss_sound n k
  | startupComplete train => exact execStartupComplete_sound train k
  | blockReset => exact execBlockReset_sound k
  | chipRstDelayExpiry => exact execChipRstDelayExpiry_sound k
  | lastGaspEnd => exact execLastGaspEnd_sound k
  | pwrfailNRelease => exact execPwrfailNRelease_sound k
  | porstN => exact execPorstN_sound k
  | chipReset => exact execChipReset_sound k
  -- These may write the Cistern, but nothing of a bay that Table 16.1 speaks of (State.bays).
  | berthCreate rq keyOk => exact baysAfter_of (execBerthCreate_bays rq keyOk s) k
  | berthDestroy rq => exact baysAfter_of (execBerthDestroy_bays rq s) k
  | destroyDrainTimeout b => exact baysAfter_of (execDestroyDrainTimeout_bays b s) k
  | berthReset rq => exact baysAfter_of (execBerthReset_bays rq s) k
  | functionLevelReset b => exact baysAfter_of (execFunctionLevelReset_bays b s) k
  | timeSetSource rq => exact baysAfter_of (execTimeSetSource_bays rq s) k
  | timeSetUtc rq => exact baysAfter_of (execTimeSetUtc_bays rq s) k
  | strainerPatternCommit rq => exact baysAfter_of (execStrainerPatternCommit_bays rq s) k
  | riskRelease rq => exact baysAfter_of (execRiskRelease_bays rq s) k
  | ledgerConfig rq => exact baysAfter_of (execLedgerConfig_bays rq s) k
  | ledgerSealNow rq => exact baysAfter_of (execLedgerSealNow_bays rq s) k
  | cisternConfig rq => exact baysAfter_of (execCisternConfig_bays rq s) k
  | cisternRetireChallenge rq hwFault => exact baysAfter_of (execCisternRetireChallenge_bays rq hwFault s) k
  | powerChipReset rq => exact baysAfter_of (execPowerChipReset_bays rq s) k
  | powerGuardConfig rq => exact baysAfter_of (execPowerGuardConfig_bays rq s) k
  | parseCommit f => exact baysAfter_of (execParseCommit_bays f s) k
  | orderRecord f => exact baysAfter_of (execOrderRecord_bays f s) k
  | patchEngineLoad checksOk => exact baysAfter_of (execPatchEngineLoad_bays checksOk s) k
  | ppsInEdge phase => exact baysAfter_of (execPpsInEdge_bays phase s) k
  | ppsLoss => exact baysAfter_of (execPpsLoss_bays s) k
  | ptpMessage p bytes phase => exact baysAfter_of (execPtpMessage_bays p bytes phase s) k
  | ptpReceiptTimeout i => exact baysAfter_of (execPtpReceiptTimeout_bays i s) k
  | refInLoss => exact baysAfter_of (execRefInLoss_bays s) k
  | holdoverLimit => exact baysAfter_of (execHoldoverLimit_bays s) k
  | utcDayEnd => exact baysAfter_of (execUtcDayEnd_bays s) k
  | wResp link bytes phase => exact baysAfter_of (execWResp_bays link bytes phase s) k
  | sentinelRead preds => exact baysAfter_of (execSentinelRead_bays preds s) k
  | latBoundReturn => exact baysAfter_of (execLatBoundReturn_bays s) k
  | guardPmbus acked => exact baysAfter_of (execGuardPmbus_bays acked s) k
  | sealDue b => exact baysAfter_of (execSealDue_bays b s) k
  | sealSigned b selfOk => exact baysAfter_of (execSealSigned_bays b selfOk s) k
  | hkPeriod => exact baysAfter_of (execHkPeriod_bays s) k
  | retireNonceExpiry n => exact baysAfter_of (execRetireNonceExpiry_bays n s) k
  | recoveryDone c trainedOk => exact baysAfter_of (execRecoveryDone_bays c trainedOk s) k
  | pwrfailNAssert => exact baysAfter_of (execPwrfailNAssert_bays s) k
  | appendingStop => exact baysAfter_of (execAppendingStop_bays s) k
  | destroySealTimeout b => exact baysAfter_of (execDestroySealTimeout_bays b s) k
  | refInReturn => exact baysAfter_of (execRefInReturn_bays s) k
  -- The rest leave the Cistern alone.
  | _ => exact baysAfter_of (exec_bays_of_footprint (by simp only [footprint]; rfl) s) k

/-- Every step keeps the bays sound: a clock cycle leaves them alone, and a command starts from the bays as they were before it was taken from
the queue. -/
theorem step_baysSound {s : State} (k : BaysSound s) : BaysAfter (step s) := by
  unfold step
  split
  · exact baysAfter_next (baysSound_of (tick_bays s) k)
  · exact exec_baysSound _ (baysSound_of (bays_pending s _) k)

end Sys2Proof.Machine

namespace Sys2Proof

open Machine

/-- Settles O48: every step from sound bays ends in sound bays, by the commands' footprints and, for those that write the bays, their own
lemmas (R356). -/
theorem atMostOneBayIsActive : Obligations.AtMostOneBayIsActive := by
  unfold Obligations.AtMostOneBayIsActive
  exact fun s t k h => step_baysSound k t h

end Sys2Proof
end

section
/-! What a reset leaves of the test block, the fuses and the strainer (23_test.md R491, 06_strainer.md R159). -/

namespace Sys2Proof.Machine

/-! ### A chip reset: what the loss of a PTP source, its last step, leaves alone -/

theorem resetChip_lane (c : BitVec 3) (s : State) : (resetChip c s).lane = [] := same_lane (resetChip_preView c s) rfl

theorem resetChip_strn (c : BitVec 3) (s : State) : (resetChip c s).strn = {} := same_strn (resetChip_preView c s) rfl

theorem resetChip_fuse (c : BitVec 3) (s : State) : (resetChip c s).fuse = s.fuse :=
  (same_fuse (resetChip_preView c s) rfl).trans rfl

/-- Both resets empty the lanes' generators and the strainer, and keep the fuses. -/
theorem reset_lane_strn_fuse {i : Instr} (h : i = .porstN ∨ i = .chipReset) (s : State) :
    ∃ t, exec i s = .next t ∧ t.lane = [] ∧ t.strn = {} ∧ t.fuse = s.fuse := by
  rcases h with rfl | rfl
  · exact ⟨resetAll s, rfl, rfl, rfl, rfl⟩
  · exact ⟨_, rfl, resetChip_lane _ s, resetChip_strn _ s, resetChip_fuse _ s⟩

/-! ### What the emptied parts read as -/

/-- Every lane of a test block that holds none reads as the reset one: stopped, not looped back, its counters 0 (R491). -/
theorem laneAt_of_nil {t : State} (h : t.lane = []) (l : Nat) : t.laneAt l = {} := by
  rw [State.laneAt, h]
  rfl

/-- Every berth's share of a strainer at reset is the empty one (R159). -/
theorem strnB_of_reset {t : State} (h : t.strn = {}) (b : Nat) : t.strnB b = {} := by
  rw [State.strnB, h]
  rfl

end Sys2Proof.Machine

namespace Sys2Proof

open Machine

/-- Settles O60: both resets leave no lane, the strainer at reset and the fuses as they were, and each field is then read from the
reset values (R159, R491). -/
theorem resetsStopTheTestBlockAndEmptyTheStrainer : Obligations.ResetsStopTheTestBlockAndEmptyTheStrainer := by
  unfold Obligations.ResetsStopTheTestBlockAndEmptyTheStrainer
  intro i s hi
  obtain ⟨t, hexec, hlane, hstrn, hfuse⟩ := reset_lane_strn_fuse hi s
  refine ⟨t, hexec, fun l => ?lanes, congrArg Fuse.testLock hfuse, ?strainer⟩
  case lanes =>
    rw [laneAt_of_nil hlane l]
    exact ⟨rfl, rfl, rfl, rfl, rfl⟩
  case strainer =>
    have hshare := strnB_of_reset hstrn
    simp only [hshare, hstrn, Tab.look, implies_true, and_self]

end Sys2Proof
end

section
/-! The latency guard's limits (03_self_timed_core.md R75, R78 to R80, R83): the invariant over every command, and over the clock cycle. -/

namespace Sys2Proof.Machine

/-- A command whose footprint leaves out the guard keeps it sound. -/
theorem exec_guard_of_footprint {i : Instr} (h : (footprint i).testBit Part.guard.place = false) {s : State} (k : s.guard.Sound) :
    GuardAfter (exec i s) :=
  fun t e => guardSound_of_view ((exec_kept i s).agrees t e) h k

/-- Every command keeps the guard sound: the guard's own events and commands, the two others that write it (R78's step suppression and
start-up, R92), the resets, and the rest, whose footprint leaves it out. -/
theorem exec_guardSound (i : Instr) {s : State} (k : s.guard.Sound) : GuardAfter (exec i s) := by
  cases i with
  | sentinelRead preds => exact execSentinelRead_guard preds k
  | latBoundReturn => exact execLatBoundReturn_guard k
  | powerReading watts => exact execPowerReading_guard _ k
  | guardPmbus acked => exact execGuardPmbus_guard acked k
  | powerGuardConfig rq => exact execPowerGuardConfig_guard rq k
  | powerSetCap rq => exact execPowerSetCap_guard rq k
  | powerDomain rq => exact execPowerDomain_guard rq k
  | startupComplete train => exact execStartupComplete_guard train k
  | chipRstDelayExpiry => exact execChipRstDelayExpiry_guard k
  | lastGaspEnd => exact execLastGaspEnd_guard k
  | pwrfailNRelease => exact execPwrfailNRelease_guard k
  | porstN => exact execPorstN_guard k
  | chipReset => exact execChipReset_guard k
  | _ => exact exec_guard_of_footprint (by simp only [footprint]; rfl) k

/-- Every step keeps the guard sound: a clock cycle leaves it alone, and taking a command from the queue does too. -/
theorem step_guardSound {s : State} (k : s.guard.Sound) : GuardAfter (step s) := by
  unfold step
  split
  · exact guardAfter_next (guardSound_of_view (tick_view (M := 201326594) (Nat.or_self _) s) rfl k)
  · exact exec_guardSound _ k

end Sys2Proof.Machine

namespace Sys2Proof

open Machine

/-- Settles O50: every step from a sound guard ends in one (R75, R78 to R80, R83). -/
theorem theGuardKeepsItsLimits : Obligations.TheGuardKeepsItsLimits := by
  unfold Obligations.TheGuardKeepsItsLimits
  exact fun s t k h => step_guardSound k t h

/-- Settles O51: the reset state's guard is the one that does not run, at the values of Table 03.3 (R92). -/
theorem theGuardIsSoundAtReset : Obligations.TheGuardIsSoundAtReset := by
  unfold Obligations.TheGuardIsSoundAtReset
  exact ⟨stopped_sound (v := 0) (by decide), rfl, rfl, rfl, rfl, rfl, rfl, rfl, rfl, rfl⟩

end Sys2Proof
end

section
/-! The content of the DRAM channels (17_dram.md R389): the invariant over every command, and over the clock cycle. -/

namespace Sys2Proof.Machine

/-- A command whose footprint leaves out the channels keeps their content and their poison lists. -/
theorem exec_rams_of_footprint {i : Instr} (h : (footprint i).testBit Part.ddr.place = false) (s : State) : Keptrams s (exec i s) :=
  ⟨fun t e => rams_of_view ((exec_kept i s).agrees t e) h⟩

/-- Every command keeps the channels sound. Three groups of commands: those that may store, poison or lose content, the resets among them;
those that write only other fields of a channel; and those whose footprint leaves the channels out. -/
theorem exec_dramSound (i : Instr) {s : State} (k : DramSound s) : DramAfter (exec i s) := by
  cases i with
  -- These may change what a channel holds, or which blocks of it are poisoned.
  | dramRead rq err => exact execDramRead_dram rq err k
  | dramRequest c client write addr data err => exact execDramRequest_dram c client write addr data err k
  | patrolScrub c err => exact execPatrolScrub_dram c err k
  | srExitDone c => exact execSrExitDone_dram c k
  | speedChangeDone c => exact execSpeedChangeDone_dram c k
  | recoveryDone c trainedOk => exact execRecoveryDone_dram c trainedOk k
  | domainSwitchDone d bistOk failMem => exact execDomainSwitchDone_dram d bistOk failMem k
  | chipRstDelayExpiry => exact execChipRstDelayExpiry_dram k
  | lastGaspEnd => exact execLastGaspEnd_dram k
  | pwrfailNRelease => exact execPwrfailNRelease_dram k
  | porstN => exact execPorstN_dram k
  | chipReset => exact execChipReset_dram k
  -- These write a channel, but neither its content nor its poison list (State.rams).
  | dramConfig rq => exact dramAfter_of (execDramConfig_rams rq s) k
  | dramRecover rq => exact dramAfter_of (execDramRecover_rams rq s) k
  | srIdleExpiry c => exact dramAfter_of (execSrIdleExpiry_rams c s) k
  | srEntryDone c => exact dramAfter_of (execSrEntryDone_rams c s) k
  | refresh c => exact dramAfter_of (execRefresh_rams c s) k
  | mr4Read c hottest aboveRated corrected => exact dramAfter_of (execMr4Read_rams c hottest aboveRated corrected s) k
  | driftUpdate c => exact dramAfter_of (execDriftUpdate_rams c s) k
  | autoRecoverExpiry c => exact dramAfter_of (execAutoRecoverExpiry_rams c s) k
  | testMbist rq => exact dramAfter_of (execTestMbist_rams rq s) k
  | startupComplete train => exact dramAfter_of (execStartupComplete_rams train s) k
  | appendingStop => exact dramAfter_of (execAppendingStop_rams s) k
  | blockReset => exact dramAfter_of (execBlockReset_rams s) k
  | sensorReading temps => exact dramAfter_of (execSensorReading_rams temps s) k
  -- The rest leave the channels alone.
  | _ => exact dramAfter_of (exec_rams_of_footprint (by simp only [footprint]; rfl) s) k

/-- A clock cycle keeps what the channels hold. -/
theorem tick_rams (s : State) : (tick s).rams = s.rams := rams_of_view (tick_view (M := 201326594) (Nat.or_self _) s) rfl

/-- Every step keeps the channels sound: a clock cycle leaves them alone, and a command starts from the channels as they were before it was
taken from the queue. -/
theorem step_dramSound {s : State} (k : DramSound s) : DramAfter (step s) := by
  unfold step
  split
  · exact dramAfter_next (dramSound_of (tick_rams s) k)
  · exact exec_dramSound _ (dramSound_of (rams_pending s _) k)

end Sys2Proof.Machine

namespace Sys2Proof

open Machine

/-- Settles O52: every step from sound channels ends in sound channels (R389). -/
theorem dramContentStaysSound : Obligations.DramContentStaysSound := by
  unfold Obligations.DramContentStaysSound
  exact fun s t k h => step_dramSound k t h

/-- Settles O53: at reset no channel is listed, so each reads as the empty one (R390). -/
theorem dramContentIsSoundAtReset : Obligations.DramContentIsSoundAtReset := by
  unfold Obligations.DramContentIsSoundAtReset
  exact ⟨emptyDram_sound rfl, fun _ => ⟨rfl, rfl⟩⟩

end Sys2Proof
end

section
/-! The step as a whole: the queue, the clock cycle, what each command may change, and how a request is received and answered (18_pumphouse.md
R397 to R399). -/

namespace Sys2Proof.Machine

/-! ### The clock cycle (02_tide_gauge.md R45, R55) -/

/-- A value clamped by the slew's step lies within it. -/
theorem clampInt_slewStep (x : Int) : -40 ≤ clampInt (-slewStepFs) slewStepFs x ∧ clampInt (-slewStepFs) slewStepFs x ≤ 40 := by
  unfold clampInt slewStepFs
  omega

/-- Removing a step of the slew never passes 0. -/
theorem natAbs_sub_clampInt_le (x : Int) : (x - clampInt (-slewStepFs) slewStepFs x).natAbs ≤ x.natAbs := by
  unfold clampInt slewStepFs
  omega

/-- With nothing to slew there is no step. -/
theorem clampInt_slewStep_zero : clampInt (-slewStepFs) slewStepFs 0 = 0 := by decide

/-- What a cycle does to the tide gauge; the count and the trace leave it alone. -/
theorem tick_tide (s : State) : (tick s).tide = { s.tide with
    nowFs := s.tide.nowFs + (800000 + clampInt (-slewStepFs) slewStepFs s.tide.slewFs
      + clampInt (-slewStepFs) slewStepFs (Config.trimFs s.tide.nowFs)).toNat,
    slewFs := s.tide.slewFs - clampInt (-slewStepFs) slewStepFs s.tide.slewFs } :=
  (same_tide (count_view (M := 67108864) rfl _ _ _ _) rfl).trans (same_tide (onTrace_view (M := 134217728) rfl _ _) rfl)

/-- A cycle changes the time, the counts and the trace. -/
theorem tick_changesOnly (s : State) : ChangesOnly [.tide, .pmon, .trace] s (tick s) :=
  changesOnly_of_covers (tick_view (M := 201326594) (Nat.or_self _) s) rfl

/-! ### A command changes only its parts -/

/-- A guarded outcome is a next state when both of its sides are. -/
theorem next_ite {c : Prop} [Decidable c] {a b : Result} (ha : ∃ t, a = .next t) (hb : ∃ t, b = .next t) :
    ∃ t, (if c then a else b) = .next t := by
  split
  · exact ha
  · exact hb

theorem execCounterLowHalfRead_next (fn : Fin 17) (off : BitVec 32) (s : State) : ∃ u, execCounterLowHalfRead fn off s = .next u := by
  unfold execCounterLowHalfRead
  split
  · exact ⟨_, rfl⟩
  · dsimp only
    split
    · exact ⟨_, rfl⟩
    · split
      · exact ⟨_, rfl⟩
      · split
        · exact ⟨_, rfl⟩
        · exact next_ite ⟨_, rfl⟩ ⟨_, rfl⟩

theorem execMoveStep_next (s : State) : ∃ u, execMoveStep s = .next u := by
  unfold execMoveStep
  split
  · exact ⟨_, rfl⟩
  · split <;> exact ⟨_, rfl⟩

theorem execDomainSwitchDone_next (d : Fin 144) (bistOk : Bool) (failMem : BitVec 16) (s : State) :
    ∃ u, execDomainSwitchDone d bistOk failMem s = .next u := by
  unfold execDomainSwitchDone
  split <;> exact ⟨_, rfl⟩

theorem execBankGroupOffTimeout_next (g : Fin 32) (s : State) : ∃ u, execBankGroupOffTimeout g s = .next u := by
  unfold execBankGroupOffTimeout
  dsimp only
  split
  · exact next_ite ⟨_, rfl⟩ ⟨_, rfl⟩
  · exact ⟨_, rfl⟩

theorem execMarginDwellEnd_next (lane : Fin 96) (bits errors : BitVec 48) (s : State) :
    ∃ u, execMarginDwellEnd lane bits errors s = .next u := by
  unfold execMarginDwellEnd
  dsimp only
  split <;> exact ⟨_, rfl⟩

theorem execFrameStart_next (p : Fin 64) (bytes : List Byte) (phase : Fin 32) (s : State) :
    ∃ u, execFrameStart p bytes phase s = .next u := by
  unfold execFrameStart
  split
  · exact ⟨_, rfl⟩
  · split <;> exact ⟨_, rfl⟩

theorem execHoldingBufferDispatch_next (s : State) : ∃ u, execHoldingBufferDispatch s = .next u := by
  unfold execHoldingBufferDispatch
  split <;> exact ⟨_, rfl⟩

theorem execParseCommit_next (f : Nat) (s : State) : ∃ u, execParseCommit f s = .next u := by
  unfold execParseCommit
  dsimp only
  split
  · split
    · exact ⟨_, rfl⟩
    · split <;> exact ⟨_, rfl⟩
  · exact ⟨_, rfl⟩

theorem execHandleAgeExpiry_next (b : Fin 16) (slot : Fin 64) (s : State) : ∃ u, execHandleAgeExpiry b slot s = .next u := by
  unfold execHandleAgeExpiry
  refine next_ite ⟨_, rfl⟩ ?_
  split <;> exact ⟨_, rfl⟩

theorem execWeirVerdict_next (f : Nat) (s : State) : ∃ u, execWeirVerdict f s = .next u := by
  unfold execWeirVerdict
  refine next_ite ⟨_, rfl⟩ ?_
  split
  · exact ⟨_, rfl⟩
  · exact next_ite ⟨_, rfl⟩ ⟨_, rfl⟩

theorem execEgressSelect_next (p : Fin 64) (phase : Fin 32) (s : State) : ∃ u, execEgressSelect p phase s = .next u := by
  unfold execEgressSelect
  dsimp only
  refine next_ite ⟨_, rfl⟩ (next_ite ⟨_, rfl⟩ (next_ite ⟨_, rfl⟩ (next_ite ⟨_, rfl⟩ ?_)))
  split <;> exact ⟨_, rfl⟩

theorem execEgressFrameEnd_next (p : Fin 64) (err : EccErr) (s : State) : ∃ u, execEgressFrameEnd p err s = .next u := by
  unfold execEgressFrameEnd
  split <;> exact ⟨_, rfl⟩

theorem execGoldenSelfCheck_next (crcOk : Bool) (s : State) : ∃ u, execGoldenSelfCheck crcOk s = .next u := by
  unfold execGoldenSelfCheck
  split <;> exact ⟨_, rfl⟩

theorem execPatchEngineLoad_next (checksOk : Bool) (s : State) : ∃ u, execPatchEngineLoad checksOk s = .next u := by
  unfold execPatchEngineLoad
  split
  · exact ⟨_, rfl⟩
  · exact next_ite ⟨_, rfl⟩ (next_ite ⟨_, rfl⟩ (next_ite ⟨_, rfl⟩ ⟨_, rfl⟩))

theorem execPumpPatchStall_next (s : State) : ∃ u, execPumpPatchStall s = .next u := by
  unfold execPumpPatchStall
  split
  · exact ⟨_, rfl⟩
  · exact next_ite ⟨_, rfl⟩ ⟨_, rfl⟩

theorem execRuleFlushing_next (unit : Fin 4) (automaton : Bool) (err : EccErr) (s : State) :
    ∃ u, execRuleFlushing unit automaton err s = .next u := by
  unfold execRuleFlushing
  split <;> exact ⟨_, rfl⟩

theorem execDirectoryFlushing_next (dir : WeirDir) (way : Nat) (err : EccErr) (s : State) :
    ∃ u, execDirectoryFlushing dir way err s = .next u := by
  unfold execDirectoryFlushing
  split <;> exact ⟨_, rfl⟩

theorem execOutputTileDone_next (i : Fin 4) (t : Fin 4) (residueOk : Bool) (s : State) :
    ∃ u, execOutputTileDone i t residueOk s = .next u := by
  unfold execOutputTileDone
  split
  · exact ⟨_, rfl⟩
  · exact next_ite ⟨_, rfl⟩ (next_ite ⟨_, rfl⟩ ⟨_, rfl⟩)

theorem execExposureInstall_next (s : State) : ∃ u, execExposureInstall s = .next u := by
  unfold execExposureInstall
  split
  · exact ⟨_, rfl⟩
  · exact next_ite ⟨_, rfl⟩ ⟨_, rfl⟩

theorem execPtpMessage_next (p : Fin 64) (bytes : List Byte) (phase : Fin 32) (s : State) :
    ∃ u, execPtpMessage p bytes phase s = .next u := by
  unfold execPtpMessage
  split
  · exact next_ite ⟨_, rfl⟩ (next_ite ⟨_, rfl⟩ ⟨_, rfl⟩)
  · exact ⟨_, rfl⟩

theorem execHoldoverLimit_next (s : State) : ∃ u, execHoldoverLimit s = .next u := by
  unfold execHoldoverLimit
  split <;> exact ⟨_, rfl⟩

theorem execUtcDayEnd_next (s : State) : ∃ u, execUtcDayEnd s = .next u := by
  unfold execUtcDayEnd
  split <;> exact ⟨_, rfl⟩

theorem execSynthDrainDone_next (q : Fin 16) (s : State) : ∃ u, execSynthDrainDone q s = .next u := by
  unfold execSynthDrainDone
  refine next_ite ⟨_, rfl⟩ ?_
  split <;> exact ⟨_, rfl⟩

theorem execPauseExpire_next (p : Fin 64) (cls : Option (Fin 8)) (s : State) : ∃ u, execPauseExpire p cls s = .next u := by
  unfold execPauseExpire
  split <;> exact ⟨_, rfl⟩

theorem execFabricMessage_next (k : Fin 8) (vc : Fin 5) (half : Fin 2) (s : State) : ∃ u, execFabricMessage k vc half s = .next u := by
  unfold execFabricMessage
  split
  · exact ⟨_, rfl⟩
  · exact next_ite ⟨_, rfl⟩ (next_ite ⟨_, rfl⟩ ⟨_, rfl⟩)

theorem execEarlyArrivalStale_next (i : Nat) (s : State) : ∃ u, execEarlyArrivalStale i s = .next u := by
  unfold execEarlyArrivalStale
  split
  · exact ⟨_, rfl⟩
  · exact next_ite ⟨_, rfl⟩ ⟨_, rfl⟩

theorem execCollectiveTimeout_next (slot : Fin 8) (s : State) : ∃ u, execCollectiveTimeout slot s = .next u := by
  unfold execCollectiveTimeout
  refine next_ite ⟨_, rfl⟩ ?_
  split <;> exact ⟨_, rfl⟩

theorem execRdmaPacket_next (via : PktVia) (bytes : List Byte) (data : List Byte) (s : State) :
    ∃ u, execRdmaPacket via bytes data s = .next u := by
  unfold execRdmaPacket
  split <;> exact ⟨_, rfl⟩

theorem execRdmaSqDb_next (b : Fin 16) (v : BitVec 32) (s : State) : ∃ u, execRdmaSqDb b v s = .next u := by
  unfold execRdmaSqDb
  split
  · exact ⟨_, rfl⟩
  · split <;> exact ⟨_, rfl⟩

theorem execRdmaRqDb_next (b : Fin 16) (v : BitVec 32) (s : State) : ∃ u, execRdmaRqDb b v s = .next u := by
  unfold execRdmaRqDb
  split
  · exact ⟨_, rfl⟩
  · split <;> exact ⟨_, rfl⟩

theorem execRdmaCqDb_next (b : Fin 16) (v : BitVec 32) (s : State) : ∃ u, execRdmaCqDb b v s = .next u := by
  unfold execRdmaCqDb
  split
  · exact ⟨_, rfl⟩
  · split
    · exact next_ite ⟨_, rfl⟩ ⟨_, rfl⟩
    · exact ⟨_, rfl⟩

theorem execHostDelivery_next (bufs : List (BitVec 64)) (s : State) : ∃ u, execHostDelivery bufs s = .next u := by
  unfold execHostDelivery
  dsimp only
  split
  · exact ⟨_, rfl⟩
  · exact next_ite ⟨_, rfl⟩ ⟨_, rfl⟩

theorem execPageHashDone_next (b : Fin 16) (s : State) : ∃ u, execPageHashDone b s = .next u := by
  unfold execPageHashDone
  split
  · exact ⟨_, rfl⟩
  · exact next_ite ⟨_, rfl⟩ ⟨_, rfl⟩

theorem execSealSigned_next (b : Fin 16) (selfOk : Bool) (s : State) : ∃ u, execSealSigned b selfOk s = .next u := by
  unfold execSealSigned
  split
  · dsimp only
    split
    · exact ⟨_, rfl⟩
    · exact next_ite ⟨_, rfl⟩ ⟨_, rfl⟩
  · dsimp only
    split
    · exact ⟨_, rfl⟩
    · exact next_ite ⟨_, rfl⟩ (next_ite ⟨_, rfl⟩ ⟨_, rfl⟩)

theorem execPageWrite_next (s : State) : ∃ u, execPageWrite s = .next u := by
  unfold execPageWrite
  split
  · exact ⟨_, rfl⟩
  · split
    · exact ⟨_, rfl⟩
    · split <;> exact ⟨_, rfl⟩

theorem execZoneAppendComplete_next (n : Fin 2) (i : Nat) (ok : Bool) (s : State) : ∃ u, execZoneAppendComplete n i ok s = .next u := by
  unfold execZoneAppendComplete
  split
  · exact ⟨_, rfl⟩
  · exact next_ite ⟨_, rfl⟩ ⟨_, rfl⟩

theorem execStagingReadback_next (err : EccErr) (s : State) : ∃ u, execStagingReadback err s = .next u := by
  unfold execStagingReadback
  split
  · exact next_ite ⟨_, rfl⟩ (next_ite ⟨_, rfl⟩ ⟨_, rfl⟩)
  · exact ⟨_, rfl⟩

theorem execProbeComplete_next (n : Fin 2) (res : ProbeRes) (s : State) : ∃ u, execProbeComplete n res s = .next u := by
  unfold execProbeComplete
  split
  · exact ⟨_, rfl⟩
  · dsimp only
    split <;> exact ⟨_, rfl⟩

theorem execBoot_next (s : State) : ∃ u, execBoot s = .next u := by
  unfold execBoot
  split
  · exact ⟨_, rfl⟩
  · split <;> exact ⟨_, rfl⟩

theorem execArbitrationBackoffEnd_next (bus : Fin 2) (readBack : List Byte) (env : I2cEnd) (s : State) :
    ∃ u, execArbitrationBackoffEnd bus readBack env s = .next u := by
  unfold execArbitrationBackoffEnd
  dsimp only
  split
  · exact next_ite ⟨_, rfl⟩ (next_ite ⟨_, rfl⟩ ⟨_, rfl⟩)
  · exact ⟨_, rfl⟩

theorem execHistoryWrite_next (s : State) : ∃ u, execHistoryWrite s = .next u := by
  unfold execHistoryWrite
  split <;> exact ⟨_, rfl⟩

theorem execBlockReset_next (s : State) : ∃ u, execBlockReset s = .next u := by
  unfold execBlockReset
  split <;> exact ⟨_, rfl⟩

/-- Every command answers a next state. The cases are grouped by the guards of the meaning, in order; those with a match have their own lemma;
a command not named answers by one expression on every operand. -/
theorem exec_next (i : Instr) (s : State) : ∃ t, exec i s = .next t := by
  cases i with
  | mbxOverrun | mbxEvtConsWrite | mbxEvtLostRead | tideNowNsRead | sumpStatusWrite | destroyDrainTimeout | cellAllocate | confirmCompare
  | oversizeCut | fragAgeExpiry | strainerLookup | stompDecision | enqueue | bankGroupFail | orderRecord | holdTimeout | pumpFail
  | l2AgeSweep | strnUnitFail | ppsLoss | ptpReceiptTimeout | ppsOut | witnessRound | wReq | witnessMissed | sentinelRead | latBoundReturn
  | powerReading | synthLock | settleResume | rpLinkDown | linkUpDebounce | anRestart | lpiReceive | flitSend | ctrlFlitDue | retryResend
  | replayTimeout | quiesceReceive | xlRecalDue | laneFail | degradeReceive | xlLinkDown | fastTrainingTimeout | hailSend | rootElect | adj
  | assign | installedSend | convergeLimit | colMessage | rdmaRetransmitTimeout | ackCoalesceTimeout | rnrTimer | rdmaEngineFail
  | txDescFetched | rxWaitExpiry | itrTimer | ledgEngineFail | bayInsert | bayRemove | asyncEvent | srIdleExpiry | mr4Read | patrolScrub
  | speedChangeDone | startupComplete | slotFallback | heartbeat | pumphouseIdle | pumphouseWake | arbitrationLost | i2cNakRetry
  | killNAssert | traceLostPacket | rpBlockLock | anComplete | destroySealTimeout | windTileFail =>
    exact next_ite ⟨_, rfl⟩ ⟨_, rfl⟩
  | unsupportedOpcode | ingressFrameEnd | forwardingResult | windlassPeriod | interpHandover | wResp | guardPmbus | synthLockTimeout
  | rpRecalDue | hail | installed | resume | workRequestFetched | rxDoorbell | txDoorbell | sealDue | latchOpen | appendStall | dramRequest
  | driftUpdate | chipRstDelayExpiry | pwrfailNAssert | lastGaspEnd | telemetryCapture | xlSynthTimeout | pcieLinkDown | ptpSyncInterval
  | refInReturn | tableBackgroundAccess =>
    exact next_ite ⟨_, rfl⟩ (next_ite ⟨_, rfl⟩ ⟨_, rfl⟩)
  | registerWrite | launchLookup | tsReceive | xlSynthLock | lsa | srEntryDone | recoveryDone | appendingStop | xlLaneLock =>
    exact next_ite ⟨_, rfl⟩ (next_ite ⟨_, rfl⟩ (next_ite ⟨_, rfl⟩ ⟨_, rfl⟩))
  | refInLoss | pauseReceive | pwrfailNRelease =>
    exact next_ite ⟨_, rfl⟩ (next_ite ⟨_, rfl⟩ (next_ite ⟨_, rfl⟩ (next_ite ⟨_, rfl⟩ ⟨_, rfl⟩)))
  | hkPeriod =>
    exact next_ite (next_ite ⟨_, rfl⟩ ⟨_, rfl⟩) ⟨_, rfl⟩
  | pgcLock =>
    exact next_ite (next_ite ⟨_, rfl⟩ ⟨_, rfl⟩) (next_ite ⟨_, rfl⟩ ⟨_, rfl⟩)
  | ppsInEdge =>
    exact next_ite ⟨_, rfl⟩ (next_ite (next_ite ⟨_, rfl⟩ ⟨_, rfl⟩) ⟨_, rfl⟩)
  | counterLowHalfRead fn off => exact execCounterLowHalfRead_next fn off s
  | moveStep => exact execMoveStep_next s
  | domainSwitchDone d bistOk failMem => exact execDomainSwitchDone_next d bistOk failMem s
  | bankGroupOffTimeout g => exact execBankGroupOffTimeout_next g s
  | marginDwellEnd lane bits errors => exact execMarginDwellEnd_next lane bits errors s
  | frameStart p bytes phase => exact execFrameStart_next p bytes phase s
  | holdingBufferDispatch => exact execHoldingBufferDispatch_next s
  | parseCommit f => exact execParseCommit_next f s
  | handleAgeExpiry b slot => exact execHandleAgeExpiry_next b slot s
  | weirVerdict f => exact execWeirVerdict_next f s
  | egressSelect p phase => exact execEgressSelect_next p phase s
  | egressFrameEnd p err => exact execEgressFrameEnd_next p err s
  | goldenSelfCheck crcOk => exact execGoldenSelfCheck_next crcOk s
  | patchEngineLoad checksOk => exact execPatchEngineLoad_next checksOk s
  | pumpPatchStall => exact execPumpPatchStall_next s
  | ruleFlushing unit automaton err => exact execRuleFlushing_next unit automaton err s
  | directoryFlushing dir way err => exact execDirectoryFlushing_next dir way err s
  | outputTileDone ix t residueOk => exact execOutputTileDone_next ix t residueOk s
  | exposureInstall => exact execExposureInstall_next s
  | ptpMessage p bytes phase => exact execPtpMessage_next p bytes phase s
  | holdoverLimit => exact execHoldoverLimit_next s
  | utcDayEnd => exact execUtcDayEnd_next s
  | synthDrainDone q => exact execSynthDrainDone_next q s
  | pauseExpire p cls => exact execPauseExpire_next p cls s
  | fabricMessage k vc half => exact execFabricMessage_next k vc half s
  | earlyArrivalStale ix => exact execEarlyArrivalStale_next ix s
  | collectiveTimeout slot => exact execCollectiveTimeout_next slot s
  | rdmaPacket via bytes data => exact execRdmaPacket_next via bytes data s
  | rdmaSqDb b v => exact execRdmaSqDb_next b v s
  | rdmaRqDb b v => exact execRdmaRqDb_next b v s
  | rdmaCqDb b v => exact execRdmaCqDb_next b v s
  | hostDelivery bufs => exact execHostDelivery_next bufs s
  | pageHashDone b => exact execPageHashDone_next b s
  | sealSigned b selfOk => exact execSealSigned_next b selfOk s
  | pageWrite => exact execPageWrite_next s
  | zoneAppendComplete n ix ok => exact execZoneAppendComplete_next n ix ok s
  | stagingReadback err => exact execStagingReadback_next err s
  | probeComplete n res => exact execProbeComplete_next n res s
  | boot => exact execBoot_next s
  | arbitrationBackoffEnd bus readBack env => exact execArbitrationBackoffEnd_next bus readBack env s
  | historyWrite => exact execHistoryWrite_next s
  | blockReset => exact execBlockReset_next s
  | _ => exact ⟨_, rfl⟩

/-- What every reset keeps: the fuses, the test access port and the queue of commands (R445, 23_test.md R486). -/
def KeptByReset (s t : State) : Prop := t.fuse = s.fuse ∧ t.tap = s.tap ∧ t.pending = s.pending

theorem resetChip_keeps (c : BitVec 3) (s : State) : KeptByReset s (resetChip c s) :=
  ⟨(same_fuse (resetChip_preView c s) rfl).trans rfl, (same_tap (resetChip_preView c s) rfl).trans rfl,
    (same_pending (resetChip_preView c s) rfl).trans rfl⟩

/-- The commands that may reset the chip. -/
def isReset : Instr → Bool
  | .chipRstDelayExpiry | .lastGaspEnd | .pwrfailNRelease | .porstN | .chipReset => true
  | _ => false

/-- Each of them ends in a chip reset, in PORST_N's reset, or in a state that only notes that one is due. -/
theorem exec_isReset_keeps {i : Instr} (h : isReset i = true) {s t : State} (hx : exec i s = .next t) : KeptByReset s t := by
  cases i with
  | chipRstDelayExpiry =>
    change execChipRstDelayExpiry s = _ at hx
    unfold execChipRstDelayExpiry at hx
    split at hx
    · cases hx; exact ⟨rfl, rfl, rfl⟩
    · split at hx
      · cases hx; exact ⟨rfl, rfl, rfl⟩
      · cases hx; exact resetChip_keeps _ s
  | lastGaspEnd =>
    change execLastGaspEnd s = _ at hx
    unfold execLastGaspEnd at hx
    split at hx
    · cases hx; exact ⟨rfl, rfl, rfl⟩
    · split at hx
      · cases hx; exact resetChip_keeps _ s
      · cases hx; exact ⟨rfl, rfl, rfl⟩
  | pwrfailNRelease =>
    change execPwrfailNRelease s = _ at hx
    unfold execPwrfailNRelease at hx
    split at hx
    · cases hx; exact ⟨rfl, rfl, rfl⟩
    · dsimp only at hx
      split at hx
      · cases hx; exact ⟨rfl, rfl, rfl⟩
      · split at hx
        · cases hx; exact ⟨rfl, rfl, rfl⟩
        · split at hx
          · cases hx; exact resetChip_keeps 3 _
          · cases hx; exact ⟨rfl, rfl, rfl⟩
  | porstN => cases hx; exact ⟨rfl, rfl, rfl⟩
  | chipReset => cases hx; exact resetChip_keeps _ s
  | _ => cases h

/-- The parts listed for any other command cover its footprint, and leave out the queue. -/
theorem mayChange_covers {i : Instr} (h : isReset i = false) :
    covers (mayChange i) (footprint i) = true ∧ (footprint i).testBit Part.pending.place = false := by
  cases i with
  | chipRstDelayExpiry | lastGaspEnd | pwrfailNRelease | porstN | chipReset => cases h
  | _ =>
    conv in mayChange _ => whnf
    conv in (occs := *) footprint _ => whnf
    decide

/-- Those listed for a reset are all but what it keeps. -/
theorem mem_mayChange_of_isReset {i : Instr} (h : isReset i = true) (p : Part) :
    p ∈ mayChange i ∨ p = .fuse ∨ p = .tap ∨ p = .pending := by
  cases i with
  | chipRstDelayExpiry | lastGaspEnd | pwrfailNRelease | porstN | chipReset => cases p <;> decide
  | _ => cases h

theorem changesOnly_mayChange {i : Instr} {s t : State} (hx : exec i s = .next t) : t.pending = s.pending ∧ ChangesOnly (mayChange i) s t := by
  cases h : isReset i with
  | true =>
    obtain ⟨hf, ht, hp⟩ := exec_isReset_keeps h hx
    refine ⟨hp, fun p hnot => ?_⟩
    rcases (mem_mayChange_of_isReset h p).resolve_left hnot with rfl | rfl | rfl
    · exact hf
    · exact ht
    · exact hp
  | false =>
    obtain ⟨hc, hp⟩ := mayChange_covers h
    exact ⟨same_pending ((exec_kept i s).agrees t hx) hp, changesOnly_exec hx hc⟩

/-! ### The mailbox commands -/

/-- A mailbox command is what serving it gives; the three whose reset or restart follows the answer (R409, R412, R453) are that too for a request
that does not run. -/
theorem exec_of_commandOf {i : Instr} {c : CmdSpec} {rq : Req} (h : commandOf i = some (c, rq)) {s : State} (hr : runs c rq s = false) :
    ∃ body, exec i s = .next (serve c rq body s) := by
  cases i with
  | systemFwCommit rq' flashOk =>
    cases h
    exact ⟨_, congrArg Host.Outcome.next (if_neg (by simp [hr]))⟩
  | systemRestart rq' =>
    cases h
    exact ⟨_, congrArg Host.Outcome.next (if_neg (by simp [hr]))⟩
  | powerChipReset rq' =>
    cases h
    exact ⟨_, congrArg Host.Outcome.next (if_neg (by simp [hr]))⟩
  | _ => cases h <;> exact ⟨_, rfl⟩

/-- What makes a request a ping (R399). -/
theorem isPing_iff {c : CmdSpec} {rq : Req} : c.isPing rq = true ↔ rq.length = 0 ∧ (c.len [] ≠ 0 ∨ c.code = 0x0101) := by
  simp [CmdSpec.isPing, CmdSpec.params]

/-- Which payloads have the wrong length (R398 step 4). -/
theorem lenOk_eq_false_iff {c : CmdSpec} {rq : Req} :
    c.lenOk rq = false ↔ rq.length.toNat ≠ c.len rq.payload ∨ 4080 < rq.length.toNat ∨ rq.payload.length ≠ rq.length.toNat := by
  simp only [CmdSpec.lenOk, Bool.and_eq_false_iff, beq_eq_false_iff_ne, decide_eq_false_iff_not, Nat.not_le, or_assoc]

/-- The checks on role and length, in the order of R398. -/
theorem reject_eq_some {c : CmdSpec} {rq : Req} {u : State} {st : Status}
    (h : if u.ph.recovery = true ∧ recoveryRuns c.code = false then st = .state
      else if c.permits rq u (u.role rq.fn.val) = false then st = .noPerm
      else (rq.length.toNat ≠ c.len rq.payload ∨ 4080 < rq.length.toNat ∨ rq.payload.length ≠ rq.length.toNat) ∧ st = .badLen) :
    c.reject rq u = some st := by
  unfold CmdSpec.reject
  rw [← lenOk_eq_false_iff] at h
  simp only [Bool.and_eq_true, Bool.not_eq_true']
  split at h
  · rw [if_pos ‹_›, h]
  · rw [if_neg ‹_›]
    split at h
    · rw [if_pos ‹_›, h]
    · obtain ⟨hlen, rfl⟩ := h
      rw [if_neg ‹_›, if_pos hlen]

/-- Answering a request as it was received changes only the protocol's own parts. -/
theorem respond_accept_changesOnly (fn : Nat) (st : Status) (fl : Nat) (p : List Byte) (rq : Req) (code : Nat) (s : State) :
    ChangesOnly protocolParts s (respond fn st fl p (accept rq code s)) :=
  changesOnly_of_covers (M := 17250123776) ((respond_view rfl fn st fl p _).trans (accept_view rfl rq code s)) rfl

/-! ### What is held and what is answered -/

/-- Without NOTIFY an answer is written and posts nothing. -/
theorem mbxAt_respond_quiet {fn : Nat} {s : State} (h : (s.mbxAt fn).reqNotify = false) (st : Status) (fl : Nat) (p : List Byte) :
    (respond fn st fl p s).mbxAt fn = answered fn st fl p s := by
  obtain ⟨b, e⟩ := mbxAt_respond fn st fl p s fn
  rw [e, if_pos rfl, h, if_neg Bool.false_ne_true]

/-- With NOTIFY an answer is written and posts MBX_DONE. -/
theorem mbxAt_respond_notify {fn : Nat} {s : State} (h : (s.mbxAt fn).reqNotify = true) (st : Status) (fl : Nat) (p : List Byte) :
    ∃ b, (respond fn st fl p s).mbxAt fn = { (answered fn st fl p s).post 0x0101 s.stamp (doneDetail fn st s) with msgSent := b } := by
  obtain ⟨b, e⟩ := mbxAt_respond fn st fl p s fn
  exact ⟨b, by rw [e, if_pos rfl, h, if_pos rfl]⟩

/-- In both cases the request is answered. -/
theorem mbxAt_respond_response (fn : Nat) (st : Status) (fl : Nat) (p : List Byte) (s : State) :
    ((respond fn st fl p s).mbxAt fn).busy = false ∧ ((respond fn st fl p s).mbxAt fn).respValid = true
    ∧ ((respond fn st fl p s).mbxAt fn).resp = respBytes (s.mbxAt fn).reqOp.toNat (statusCode st) fl (s.mbxAt fn).reqSeq p := by
  cases h : (s.mbxAt fn).reqNotify with
  | false =>
    rw [mbxAt_respond_quiet h]
    exact ⟨rfl, rfl, rfl⟩
  | true =>
    obtain ⟨b, e⟩ := mbxAt_respond_notify h st fl p
    obtain ⟨hbusy, hvalid, hresp⟩ := Mbx.post_response (answered fn st fl p s) 0x0101 s.stamp (doneDetail fn st s)
    rw [e]
    exact ⟨hbusy, hvalid, hresp⟩

/-- The entry that was pushed. -/
theorem Mbx.look_push (m : Mbx) (code st : Nat) (d : List Byte) : Tab.look {} (m.push code st d).ring (m.evtProd.toNat % 64)
    = { code := BitVec.ofNat 16 code, eseq := m.eseq, stamp := st, detail := d } := by
  simp only [Mbx.push, Tab.look_put_self]

/-- Posting to a ring that has room and has lost nothing appends one entry. -/
theorem Mbx.post_room {m : Mbx} (hlost : m.lostSince = 0) (hroom : m.evtProd - m.evtCons < 64) (code st : Nat) (d : List Byte) :
    m.post code st d = m.push code st d := by
  have hfull : m.ringFull = false := by
    unfold Mbx.ringFull
    rw [beq_eq_false_iff_ne]
    exact Nat.ne_of_lt (BitVec.lt_def.mp hroom)
  simp only [Mbx.post, hfull, hlost, beq_self_eq_true, if_true, Bool.false_eq_true, if_false]

end Sys2Proof.Machine

namespace Sys2Proof

open Machine

/-- Settles O57: the four ways a request ends before its command runs (serve_order), for every mailbox command. -/
theorem requestsAreCheckedInOrder : Obligations.RequestsAreCheckedInOrder := by
  unfold Obligations.RequestsAreCheckedInOrder
  intro i c rq hcmd s
  have hserve : runs c rq s = false → ∃ body, exec i s = .next (serve c rq body s) := exec_of_commandOf hcmd
  refine ⟨fun hno => ?_, fun hbell hbusy => ?_, fun hbell hidle hlen hcode => ?_, fun st hbell hidle hping hchecks => ?_⟩
  · obtain ⟨body, e⟩ := hserve (by simp [runs, hno])
    rw [e, (serve_order c rq body s).1 hno]
  · obtain ⟨body, e⟩ := hserve (by simp [runs, hbusy])
    rw [e, (serve_order c rq body s).2.1 hbell hbusy]
  · have hping := isPing_iff.mpr ⟨hlen, hcode⟩
    obtain ⟨body, e⟩ := hserve (by simp [runs, hping])
    refine ⟨?_, length_pingPayload _ _, respond_accept_changesOnly _ _ _ _ _ _ _⟩
    rw [e, (serve_order c rq body s).2.2.1 hbell hidle hping]
  · have hrej := reject_eq_some (u := accept rq c.code s) hchecks
    have hping' : c.isPing rq = false := Bool.eq_false_iff.mpr (fun h => hping (isPing_iff.mp h))
    obtain ⟨body, e⟩ := hserve (by simp [runs, hrej])
    refine ⟨?_, respond_accept_changesOnly _ _ _ _ _ _ _⟩
    rw [e, (serve_order c rq body s).2.2.2 st hbell hidle hping' hrej]

/-- Settles O58: the mailboxes after a doorbell is taken (mbxAt_accept) and after an answer (mbxAt_respond), MBX_DONE being pushed where the ring
has room (R397, R401). -/
theorem theMailboxProtocol : Obligations.TheMailboxProtocol := by
  unfold Obligations.TheMailboxProtocol
  refine ⟨fun rq code s => ?taken, fun fn st fl p s => ?answered, fun fn st fl p s hn => ?quiet, fun fn st fl p s hn hlost hroom => ?notified⟩
  case taken =>
    have hown := mbxAt_accept rq code s rq.fn.val
    rw [if_pos rfl] at hown
    rw [hown]
    refine ⟨rfl, rfl, rfl, rfl, rfl, rfl, fun g hg => ?_, changesOnly_of_covers (accept_view (M := 68157440) rfl rq code s) rfl⟩
    rw [mbxAt_accept, if_neg hg]
  case answered =>
    obtain ⟨hbusy, hvalid, hresp⟩ := mbxAt_respond_response fn st fl p s
    refine ⟨hbusy, hvalid, hresp, fun g hg => ?_, changesOnly_of_covers (respond_view (M := 17250123776) rfl fn st fl p s) rfl⟩
    obtain ⟨b, e⟩ := mbxAt_respond fn st fl p s g
    rw [e, if_neg hg]
  case quiet =>
    rw [mbxAt_respond_quiet hn]
    rfl
  case notified =>
    obtain ⟨b, e⟩ := mbxAt_respond_notify hn st fl p
    rw [e, Mbx.post_room (m := answered fn st fl p s) hlost hroom]
    exact ⟨rfl, Mbx.look_push (answered fn st fl p s) 0x0101 s.stamp (doneDetail fn st s)⟩

/-- Settles O56: every command answers (exec_next), and what it may change is covered by its footprint, or by what a reset keeps. -/
theorem everyCommandChangesOnlyItsParts : Obligations.EveryCommandChangesOnlyItsParts := by
  unfold Obligations.EveryCommandChangesOnlyItsParts
  intro i s
  obtain ⟨t, hx⟩ := exec_next i s
  exact ⟨t, hx, changesOnly_mayChange hx⟩

/-- Settles O54: it is the step's own case of a queue that is not empty. -/
theorem aStepRunsTheFrontCommand : Obligations.AStepRunsTheFrontCommand := by
  unfold Obligations.AStepRunsTheFrontCommand
  intro c rest s h
  rw [step, h]

/-- Settles O55: on an empty queue the step is one cycle, whose advance is within two clamped steps of 0.8 ns. -/
theorem anEmptyQueueIsOneClockCycle : Obligations.AnEmptyQueueIsOneClockCycle := by
  unfold Obligations.AnEmptyQueueIsOneClockCycle
  intro s h
  have hslew := clampInt_slewStep s.tide.slewFs
  have htrim := clampInt_slewStep (Config.trimFs s.tide.nowFs)
  refine ⟨tick s, ?_, ?_, ?_, ?_, ?_, ?_, ?_, tick_changesOnly s⟩
  · rw [step, h]
  · exact (same_pending (tick_view (M := 201326594) (Nat.or_self _) s) rfl).trans h
  all_goals rw [tick_tide]
  · show s.tide.nowFs + 799920 ≤ s.tide.nowFs + Int.toNat _
    omega
  · show s.tide.nowFs + Int.toNat _ ≤ s.tide.nowFs + 800080
    omega
  · intro h0
    show s.tide.slewFs - clampInt (-slewStepFs) slewStepFs s.tide.slewFs = 0
    rw [h0, clampInt_slewStep_zero, sub_zero]
  · exact natAbs_sub_clampInt_le _

/-- Settles O49: at reset both bays are the empty one (R356, R372). -/
theorem baysAreSoundAtReset : Obligations.BaysAreSoundAtReset := by
  unfold Obligations.BaysAreSoundAtReset
  have hbay : ∀ n, State.reset.bayAt n = {} := fun _ => rfl
  refine ⟨⟨by decide, by decide, by decide⟩, fun n => ?_⟩
  rw [hbay]
  decide

end Sys2Proof
end

section
/-! Programmable counters, telemetry and trace (22_counters_trace.md). -/

namespace Sys2Proof.Machine

/-- A packet that finds room in the trace FIFO enters it (R471). -/
theorem Trace.push_of_room {t : Trace} (h : t.fifo.length < 16) (ty info stamp : Nat) (payload : List Byte) :
    t.push ty info stamp payload = { t with fifo := t.fifo ++ [packetBytes ty info t.tseq stamp payload], tseq := t.tseq + 1 } :=
  if_neg (Nat.not_le.mpr h)

end Sys2Proof.Machine

namespace Sys2Proof

open Machine

/-- Settles O1: each command by its own guards (R467 to R475, R477, R478), each event by the state it finds. -/
theorem countersAndTraceTakeEffect : Obligations.CountersAndTraceTakeEffect := by
  unfold Obligations.CountersAndTraceTakeEffect
  refine ⟨fun rq e => completes_of (fun _ => rfl) fun u ⟨hi, he, hok⟩ => ?config, fun rq => completes_of (fun _ => rfl) fun u h0 => ?snapshot,
    fun rq => completes_of (fun _ => rfl) fun u h1 => ?snapshotClear, fun rq => completes_of (fun _ => rfl) fun u ⟨hp, hr⟩ => ?teleConfig,
    fun rq b => completes_of (fun _ => rfl) fun u ⟨hi, hb, hfree⟩ => ?teleRead,
    fun rq => turnsAway_of (fun _ => rfl) fun u ⟨hlen, hi, hblocked⟩ => ?teleFrozen, fun s => ?capture,
    fun rq => completes_of (fun _ => rfl) fun u hshift => ?traceConfig, fun rq => completes_of (fun _ => rfl) fun u ⟨hslot, hlo, hhi⟩ => ?traceRead,
    fun s hlost hroom => ?lostPacket, fun _ _ _ => rfl⟩
  case config =>
    simp [he, hok, Nat.not_lt.mpr hi, onPmon]
  case snapshot => simp [h0, onPmon]
  case snapshotClear => simp [h1, onPmon]
  case teleConfig =>
    rcases hr with h0 | hregion
    · simp [h0, onPmon]
    · simp [Nat.not_lt.mpr hp, hregion, onPmon, ← Option.not_isSome]
  case teleRead => simp [Nat.not_lt.mpr hi, hb, hfree]
  case teleFrozen => simp [Nat.not_lt.mpr hi, List.getElem?_eq_getElem hlen, hblocked]
  case capture =>
    show execTelemetryCapture s = _
    unfold execTelemetryCapture
    split_ifs <;> rfl
  case traceConfig =>
    simp [Nat.not_lt.mpr hshift]
    rfl
  case traceRead =>
    simp [Nat.not_lt.mpr hslot, Nat.not_lt.mpr hhi, Nat.ne_of_gt hlo]
  case lostPacket =>
    show execTraceLostPacket s = _
    unfold execTraceLostPacket
    simp only [hlost, Nat.not_le.mpr hroom, Trace.push_of_room hroom, onTrace, decide_false, Bool.or_self, Bool.false_eq_true, if_false]

end Sys2Proof
end

section
/-! The sump's commands and its status write (20_sump.md). -/

namespace Sys2Proof.Machine

/-- Bit 5 is within the seven bits of a reaction byte (Table 20.3). -/
theorem bitOf_five_mod (n : Nat) : bitOf (n % 128) 5 = bitOf n 5 := by
  unfold bitOf
  rw [Nat.shiftRight_eq_div_pow, Nat.shiftRight_eq_div_pow]
  congr 1
  omega

/-- Entering the safe state changes of the sump its state, its scope and the count of entries: what a port transmits is not its own (R438). -/
theorem enterSafe_sump (all : Bool) (s : State) : (enterSafe all s).sump = { s.sump with
    safe := true, scopeAll := s.sump.scopeAll || all, safeEntries := if s.sump.safe then s.sump.safeEntries else bump s.sump.safeEntries } := by
  unfold enterSafe
  split
  case isTrue h =>
    simp only [Bool.and_eq_true, Bool.or_eq_true, Bool.not_eq_true'] at h
    obtain ⟨hsafe, hscope⟩ := h
    rw [if_pos hsafe, show (s.sump.scopeAll || all) = s.sump.scopeAll by cases all <;> simp_all, ← hsafe]
  case isFalse h =>
    rw [drawn_sump, same_sump (M := 67111976) (foldl_view (fun s p => blankPort_view rfl _ p s) _ _) rfl]
    rfl

/-- With no CQ found full there is none to settle. -/
theorem settleCqs_of_none {s : State} (h : s.overrunQps = []) (n : Nat) : settleCqs n s = s := by
  cases n with
  | zero => rfl
  | succ n => simp only [settleCqs, h]

/-- With no loop packet there is none to carry. -/
theorem runLocal_of_nil {s : State} (h : s.rdma.loop = []) (n : Nat) : runLocal n s = s := by
  cases n with
  | zero => rfl
  | succ n => simp only [runLocal, h]

/-- Without queue pairs and without loop packets nothing is retransmitted when the safe state ends (R327). -/
theorem resumeRdma_idle {s : State} (hqp : s.rdma.qp = []) (hloop : s.rdma.loop = []) : resumeRdma s = s := by
  have hnone : s.overrunQps = [] := by simp only [State.overrunQps, hqp, List.filter_nil, List.map_nil]
  unfold resumeRdma rdmaSettle
  rw [hqp, List.filter_nil, List.foldl_nil, runLocal_of_nil hloop, settleCqs_of_none hnone]

end Sys2Proof.Machine

namespace Sys2Proof

open Machine

/-- Settles O2: each command by its own guards (R435, R441, R443, R446), and the safe state by what entering it changes (R438). -/
theorem sumpCommandsTakeEffect : Obligations.SumpCommandsTakeEffect := by
  unfold Obligations.SumpCommandsTakeEffect
  refine ⟨fun rq => completes_of (fun _ => rfl) fun u ⟨hsrc, hsafe⟩ => ?setReaction,
    fun rq => completes_of (fun _ => rfl) fun u ⟨hmask, h0⟩ => ?clear, fun rq => completes_of (fun _ => rfl) fun u h1 => ?clearRearm,
    fun rq => completes_of (fun _ => rfl) fun u h => ?safeEnter, enterSafe_sump,
    fun rq => completes_of (fun _ => rfl) fun u ⟨h, hfree, hsafe⟩ => ?release,
    fun rq => completes_of (fun _ => rfl) fun u ⟨h, hfree, hsafe⟩ => ?released,
    fun rq => turnsAway_of (fun _ => rfl) fun u ⟨h, hheld⟩ => ?held, fun s ⟨hqp, hloop⟩ => ?left,
    fun rq => completes_of (fun _ => rfl) fun u ⟨hsrc, hlo, hhi⟩ => ?inject, fun rq => completes_of (fun _ => rfl) fun _ _ => rfl,
    fun rq => completes_of (fun _ => rfl) fun u ⟨hlo, hhi⟩ => ?config, fun hi mask s hlink hon => ?statusWrite⟩
  case setReaction =>
    simpa [Nat.not_lt.mpr hsrc, bitOf_five_mod, onSump] using hsafe
  case clear => simp [hmask, h0, onSump]
  case clearRearm => simp [h1, onSump, Sump.rearm]
  case safeEnter => simp [Nat.not_lt.mpr h]
  case release => simp [Nat.not_lt.mpr h, hfree, hsafe]
  case released => simp [Nat.not_lt.mpr h, hfree, hsafe]
  case held => simp [Nat.not_lt.mpr h, hheld]
  case left =>
    have h := resumeRdma_idle (s := onSump (fun p => { p with safe := false, scopeAll := false }) s) hqp hloop
    exact congrArg (fun t : State => t.sump.safe) h
  case inject => simp [Nat.not_lt.mpr hsrc, Nat.not_lt.mpr hlo, Nat.not_le.mpr hhi, onSump]
  case config => simp [Nat.not_lt.mpr hhi, Nat.ne_of_gt hlo, onSump]
  case statusWrite =>
    show execSumpStatusWrite hi mask s = _
    unfold execSumpStatusWrite
    rw [hlink, hon]
    cases hi <;> simp [onSump]

end Sys2Proof
end

section
/-! The system commands, the mailbox registers, the Pumphouse's own events and the board-management buses (18_pumphouse.md). -/

namespace Sys2Proof.Machine

/-- A request that is served is no ping, is of the right length, and is taken by an idle mailbox: it runs. -/
theorem runs_of_served {c : CmdSpec} {rq : Req} {s : State} (h : Served c rq s = true) : runs c rq s = true := h

/-- What holds of every entry of a table and of the default holds of each reading. -/
theorem Tab.look_of_forall {α : Type} {p : α → Prop} {d : α} (hd : p d) {t : Tab α} (h : ∀ e ∈ t, p e.2) (k : Nat) : p (Tab.look d t k) := by
  induction t with
  | nil => exact hd
  | cons e t ih =>
    obtain ⟨j, v⟩ := e
    rw [Tab.look]
    split
    · exact h (j, v) List.mem_cons_self
    · exact ih fun e he => h e (List.mem_cons_of_mem _ he)

/-- With every running request dropped no mailbox is BUSY (R409). -/
theorem dropRequests_busy (s : State) (fn : Nat) : ((dropRequests s).mbxAt fn).busy = false := by
  refine Tab.look_of_forall (p := fun m : Mbx => m.busy = false) rfl (fun e he => ?_) fn
  obtain ⟨x, -, rfl⟩ := List.mem_map.mp (List.mem_filter.mp he).1
  rfl

/-- What a restart leaves of the Pumphouse (R409). -/
theorem restartPumphouse_ph (s : State) : (restartPumphouse s).ph = { s.ph with
    ready := false, running := false, restarts := s.ph.restarts + 1, restartEvent := true, storeBuf := [], idle := true, idleCause := 1 } := rfl

/-- A restart raises PH_WDOG. -/
theorem restartPumphouse_lines (s : State) : (restartPumphouse s).sump.lines = s.sump.lines
    ++ [{ src := 30, code := 0x0180, unit := 0, cause := 0, value := 0, berth := none, kind := 0 }] := rfl

/-- Writing BOOT_CONTROL leaves the Pumphouse's own state. -/
theorem writeBootControl_ph (p n : Nat) (s : State) : (writeBootControl p n s).ph = s.ph :=
  same_ph (writeBootControl_view (M := 4194304) rfl p n s) rfl

/-- Writing BOOT_CONTROL leaves the sump. -/
theorem writeBootControl_sump (p n : Nat) (s : State) : (writeBootControl p n s).sump = s.sump :=
  same_sump (writeBootControl_view (M := 4194304) rfl p n s) rfl

end Sys2Proof.Machine

namespace Sys2Proof

open Machine

/-- Settles O4: each command by its own guards (R394, R395, R399, R405, R409, R412). -/
theorem systemCommandsTakeEffect : Obligations.SystemCommandsTakeEffect := by
  unfold Obligations.SystemCommandsTakeEffect
  refine ⟨fun rq s hbell hidle hlen => ?ping, fun rq => completes_of (fun _ => rfl) fun _ _ => rfl,
    fun rq => completes_of (fun _ => rfl) fun u ⟨hlo, hhi, hend⟩ => ?stage, fun rq s hs hok hrec => ?commit, fun rq s hs hok hrec => ?commitRecovery,
    fun rq s hs hok => ?commitFails, fun rq s hs hmagic => ?restart,
    fun rq env => waits_of (fun _ => rfl) fun u ⟨hbus, haddr, hw, hr, hany, hpec, hcore, hcharge⟩ => ?i2c,
    fun rq code s hcode hbell hidle => ?unsupported⟩
  case ping =>
    have hping : (cmdHBA 0x0101 0).isPing rq = true := isPing_iff.mpr ⟨hlen, .inr rfl⟩
    exact congrArg Host.Outcome.next ((serve_order (cmdHBA 0x0101 0) rq _ s).2.2.1 hbell hidle hping)
  case stage => simp [Nat.ne_of_gt hlo, Nat.not_lt.mpr hhi, Nat.not_lt.mpr hend, onPh]
  case commit =>
    show execSystemFwCommit rq true s = _
    have hok' : commitOk rq (accept rq (cmdH 0x0104 4).code s) = true := hok
    simp only [execSystemFwCommit, hrec, serve_of_served hs, hok', Bool.false_and, Bool.not_true, Bool.false_eq_true, if_false]
    rfl
  case commitRecovery =>
    show execSystemFwCommit rq true s = _
    have hok' : commitOk rq (accept rq (cmdH 0x0104 4).code s) = true := hok
    simp only [execSystemFwCommit, hrec, hok, runs_of_served hs, serve_of_served hs, hok', Bool.and_true, Bool.not_true, Bool.false_eq_true,
      if_false, if_true]
    rfl
  case commitFails =>
    show execSystemFwCommit rq false s = _
    have hok' : commitOk rq (accept rq (cmdH 0x0104 4).code s) = true := hok
    simp only [execSystemFwCommit, serve_of_served hs, hok', Bool.and_false, Bool.not_true, Bool.not_false, Bool.false_eq_true, if_false, if_true]
    rfl
  case restart =>
    show execSystemRestart rq s = _
    simp only [execSystemRestart, runs_of_served hs, serve_of_served hs, hmagic, Bool.true_and, decide_true, if_true]
    rfl
  case i2c =>
    simp [Nat.not_lt.mpr hbus, Nat.not_lt.mpr haddr, Nat.not_lt.mpr hw, Nat.not_lt.mpr hr, Nat.not_lt.mpr hpec]
    rw [if_neg (by omega), if_neg (by tauto)]
  case unsupported =>
    show execUnsupportedOpcode rq code s = _
    simp [execUnsupportedOpcode, hcode, hbell, hidle]

/-- Settles O5: the mailbox of the access as it is written, and what its count and its message leave alone (R397, R401). -/
theorem mailboxRegistersTakeEffect : Obligations.MailboxRegistersTakeEffect := by
  unfold Obligations.MailboxRegistersTakeEffect
  refine ⟨fun fn s hbell hbusy => ⟨overrun fn.val s, ?overrun, ?mailbox, rfl, changesOnly_of_covers (overrun_view (M := 68681728) rfl _ s) rfl⟩,
    fun fn v s hlive hin => ⟨_, if_pos (by simp [hlive, hin]), ?cons, ?consParts⟩, fun fn v s hout => ?ignored,
    fun fn s hlive => ⟨_, if_neg (by simp [hlive]), ?zero, rfl, ?lostParts⟩⟩
  case overrun =>
    show execMbxOverrun fn s = _
    simp [execMbxOverrun, hbell, hbusy]
  case mailbox =>
    show (mmio fn.val (s.setMbx fn.val _)).mbxAt fn.val = _
    rw [mbxAt_mmio, mbxAt_setMbx, if_pos rfl]
  case cons => rw [mbxAt_mmio, mbxAt_setMbx, if_pos rfl]
  case consParts => exact changesOnly_of_covers ((mmio_view (M := 68157440) rfl _ _).trans (State.setMbx_view rfl s _ _)) rfl
  case ignored =>
    show execMbxEvtConsWrite fn v s = _
    simp [execMbxEvtConsWrite, hout]
  case zero => exact (mbxAt_setMbx s fn.val _ fn.val).trans (if_pos rfl)
  case lostParts => exact changesOnly_of_covers ((emit_view (M := 17180917760) rfl _ _).trans (State.setMbx_view rfl s _ _)) rfl

/-- Settles O6: the state each event finds decides what it does (R394, R395, R402, R403, R409, R410, R474). -/
theorem pumphouseEventsTakeEffect : Obligations.PumphouseEventsTakeEffect := by
  unfold Obligations.PumphouseEventsTakeEffect
  refine ⟨fun s n hstop hready hslot => ?boot, fun s hstop hready hslot => ?recovery, fun s hfresh hready hrun hpref => ?fallback,
    fun run s hrun hidle => ?beat, fun run s hrun hidle => ?work, fun s => ?watchdog, fun cause pc s => ?trap, fun pc s hidle => ?idle,
    fun pc s hidle => ?wake⟩
  case boot =>
    show execBoot s = _
    simp [execBoot, hstop, hready, hslot, onPh]
  case recovery =>
    show execBoot s = _
    simp [execBoot, hstop, hready, hslot, onPh]
  case fallback =>
    have hx : exec .slotFallback s = _ := if_pos (by simp [hfresh, hready, hrun, hpref])
    refine ⟨_, hx, ?_, ?_, ?_, ?_⟩
    · simp only [raise, onPh]
    · simp only [raise, onPh, writeBootControl_ph]
    · simp [raise, onPh, writeBootControl_sump, sumpFirstCode]
    · exact changesOnly_exec hx rfl
  case beat =>
    show execHeartbeat run s = _
    simp [execHeartbeat, hrun, hidle, onPh]
  case work =>
    refine ⟨retireRun run (onPh (fun p => { p with heartbeat := p.heartbeat + 1 }) s), ?_, ?_, ?_, ?_⟩
    · show execHeartbeat run s = _
      simp [execHeartbeat, hrun, hidle]
    · simp only [retireRun, onPh, onTrace, count_ph]
    · simp only [retireRun, onPh, onTrace, count_trace]
      rfl
    · exact changesOnly_of_covers (M := 201850880) ((retireRun_view rfl run _).trans (onPh_view rfl _ s)) rfl
  case watchdog => 
    refine ⟨restartPumphouse s, rfl, rfl, dropRequests_busy s, rfl, changesOnly_of_covers (restartPumphouse_view (M := 152567808) rfl s) rfl⟩
  case trap =>
    refine ⟨_, rfl, ?_, ?_, changesOnly_of_covers (M := 152567808) ((exec_kept (.phTrap cause pc) s).agrees _ rfl) rfl⟩
    · simp only [restartPumphouse_ph, raise_ph, onPh, onTrace]
      split <;> rfl
    · rw [restartPumphouse_lines]
      by_cases hon : s.trace.phOn = true <;> simp [raise, onPh, onTrace, hon, sumpFirstCode]
  case idle =>
    show execPumphouseIdle pc s = _
    simp [execPumphouseIdle, hidle, onPh, onTrace]
  case wake =>
    refine ⟨_, if_neg (by simp [hidle]), ?_, ?_, ?_⟩
    · simp only [onPh, onTrace, count_ph]
    · simp only [onPh, onTrace, count_ph, count_trace]
    · refine changesOnly_of_covers (M := 201850880) ((onTrace_view rfl _ _).trans ((count_view rfl _ _ _ _).trans (onPh_view rfl _ s))) rfl

/-- Settles O7: each event by the state of its bus (R405, R406). -/
theorem boardBusesTakeEffect : Obligations.BoardBusesTakeEffect := by
  unfold Obligations.BoardBusesTakeEffect
  refine ⟨fun b s h => ?lost, fun b s htxn hlast => ?lostLast, fun b rb env s t htxn hback hown => ?own, fun b rb env s t htxn hback hown => ?retry,
    fun _ _ => rfl, fun b env s h => ?nak, fun b t rdata s htxn hpec => ?acked⟩
  case lost =>
    show execArbitrationLost b s = _
    unfold execArbitrationLost
    dsimp only
    rw [if_neg (by simpa using h)]
  case lostLast =>
    show execArbitrationLost b s = _
    simp [execArbitrationLost, htxn, hlast]
  case own =>
    show execArbitrationBackoffEnd b rb env s = _
    simp [execArbitrationBackoffEnd, htxn, hback, hown]
  case retry =>
    show execArbitrationBackoffEnd b rb env s = _
    simp [execArbitrationBackoffEnd, htxn, hback, hown]
  case nak =>
    show execI2cNakRetry b env s = _
    simp [execI2cNakRetry, h]
  case acked => simp [runTxn, htxn, hpec]

end Sys2Proof
end

section
/-! The latency guard's commands and its own events (03_self_timed_core.md). -/

namespace Sys2Proof.Machine

/-- A command's next state differs only in parts that cover the number its footprint is. -/
theorem changesOnly_exec_of {i : Instr} {s t : State} {ps : List Part} (M : Nat) (hx : exec i s = .next t) (hM : footprint i = M)
    (b : covers ps M = true) : ChangesOnly ps s t :=
  changesOnly_of_covers (hM ▸ (exec_kept i s).agrees t hx) b

/-- With the guard stopped a configuration is only noted (R86). -/
theorem applyCfg_stopped (c : GuardCfg) {s : State} (h : s.guard.running = false) : applyCfg c s = { s with guard := { s.guard with
    cfgEnable := c.enable, enabled := false, stepMv := c.stepMv, target := c.target, hyst := c.hyst, ceil := c.ceil, fixed := c.fixed,
    downRun := 0 } } := by
  simp [applyCfg, h, onGuard]

/-- Without a conflict, taking no cap only drops VCAP and BELOW_FLOOR (R83). -/
theorem applyCap_zero (capFirst : Bool) {s : State} (h : s.guard.conflict = false) : applyCap 0#16 capFirst s
    = { s with guard := { s.guard with capW := 0, capFirst := capFirst, vcap := none, belowFloor := false } } := by
  simp [applyCap, setConflict, onGuard, h]

/-- A cap that is one leaves VCAP and BELOW_FLOOR as they are (R83). -/
theorem applyCap_of_ne {w : BitVec 16} (h : w ≠ 0#16) (capFirst : Bool) (s : State) : applyCap w capFirst s
    = { s with guard := { s.guard with capW := w, capFirst := capFirst } } := by
  simp [applyCap, onGuard, h]

/-! ### What a read of the sentinels is made of, and what the power cap stands at -/

/-- What a read of the sentinels leaves: P, the sentinels set aside, and the runs of their deviations (R76, R77). -/
def Guard.readings (g : Guard) : BitVec 10 × BitVec 24 × Tab Nat := (g.pred, g.setAside, g.devRun)

/-- VCAP and BELOW_FLOOR (R83). -/
def Guard.capState (g : Guard) : Option Nat × Bool := (g.vcap, g.belowFloor)

@[simp] theorem setBound_readings (v : Nat) (c : BoundCause) (s : State) : (setBound v c s).guard.readings = s.guard.readings := by
  rw [setBound_guard]; rfl

@[simp] theorem setVolt_readings (v : Nat) (s : State) : (setVolt v s).guard.readings = s.guard.readings := by
  obtain ⟨_, _, _, _, e, -⟩ := setVolt_guard v s
  rw [e]; rfl

@[simp] theorem setVolt_capState (v : Nat) (s : State) : (setVolt v s).guard.capState = s.guard.capState := by
  obtain ⟨_, _, _, _, e, -⟩ := setVolt_guard v s
  rw [e]; rfl

/-- CONFLICT is the only field of the guard that setConflict moves. -/
theorem setConflict_guard (c : Bool) (s : State) : (setConflict c s).guard = { s.guard with conflict := c } := by
  unfold setConflict
  split
  case isTrue h => rw [h]
  case isFalse => rfl

@[simp] theorem applyCfg_readings (c : GuardCfg) (s : State) : (applyCfg c s).guard.readings = s.guard.readings := by
  unfold applyCfg
  dsimp only
  split
  · rfl
  · split
    · rw [setVolt_readings, setBound_readings]; rfl
    · split
      · rw [setBound_readings]; rfl
      · rw [setVolt_readings, setBound_readings]; rfl

@[simp] theorem applyCap_readings (w : BitVec 16) (m : Bool) (s : State) : (applyCap w m s).guard.readings = s.guard.readings := by
  unfold applyCap
  dsimp only
  split
  · rw [setConflict_guard]; rfl
  · rfl

/-- Settings taken before a read leave what is read alone. -/
theorem takePending_readings (s : State) : (takePending s).guard.readings = s.guard.readings := by
  have hcap : ∀ w u, (takeWaitingCap w u).guard.readings = u.guard.readings := fun w u => by
    cases w with
    | some w => exact applyCap_readings w.1 w.2 u
    | none => rfl
  have hcfg : ∀ c u, (takeWaitingCfg c u).guard.readings = u.guard.readings := fun c u => by
    cases c with
    | some c => exact applyCfg_readings c u
    | none => rfl
  rw [takePending_eq, hcap, hcfg]
  rfl

/-- The reading depends on the earlier readings alone. -/
theorem sample_readings_congr {g h : Guard} (e : g.readings = h.readings) (ps : List Nat) : (g.sample ps).readings = (h.sample ps).readings := by
  obtain ⟨-, e⟩ := Prod.mk.inj e
  obtain ⟨haside, hrun⟩ := Prod.mk.inj e
  simp only [Guard.readings, Guard.sample, Guard.inUse, haside, hrun]

/-- Naming the sentinels newly set aside changes only the sump. -/
theorem raiseAside_guard (before : BitVec 24) (s : State) : (raiseAside before s).guard = s.guard :=
  same_guard (raiseAside_view (M := 16777216) rfl before s) rfl

@[simp] theorem steer_readings (s : State) : (steer s).guard.readings = s.guard.readings := by
  obtain ⟨r, d, u, e, -⟩ := ask_guard s.guard
  unfold steer
  rw [setVolt_readings, setConflict_guard]
  show s.guard.ask.readings = _
  rw [e]
  rfl

/-- The bound a read leaves is no lower than P (R80). -/
theorem pred_le_raiseBound (s : State) : (raiseBound s).guard.pred.toNat ≤ (raiseBound s).guard.latBound.toNat := by
  have hp : s.guard.pred.toNat < 1024 := s.guard.pred.isLt
  have hround : s.guard.pred.toNat ≤ roundUp5 s.guard.pred.toNat := by unfold roundUp5; omega
  unfold raiseBound
  rw [setBound_guard]
  generalize (if s.guard.short = true then max s.guard.latBound.toNat 480 else s.guard.latBound.toNat) = low
  have hwant : s.guard.pred.toNat ≤ if low < s.guard.pred.toNat then roundUp5 s.guard.pred.toNat else low := by
    split
    · exact hround
    · omega
  simp only [BitVec.toNat_ofNat]
  omega

@[simp] theorem raiseBound_readings (s : State) : (raiseBound s).guard.readings = s.guard.readings := setBound_readings _ _ s

/-! ### The stages of a read of the sentinels -/

/-- The predictions are sampled, and each sentinel newly set aside is named (R76, R77). -/
def takeSample (ps : List Nat) (s : State) : State := raiseAside s.guard.setAside (onGuard (fun g => g.sample ps) s)

/-- The first read with the guard enabled puts the bound at the target (R80). -/
def noteFirstRead (s : State) : State :=
  if s.guard.seen || !s.guard.enabled then s else setBound s.guard.target.toNat .ret (onGuard (fun g => { g with seen := true }) s)

/-- The guard steers while it is enabled and not frozen (R78, R90). -/
def steerUnlessFrozen (s : State) : State := if s.guard.enabled && !s.guard.frozen then steer s else s

/-- The spacing of down steps and the time in conflict move on by one read (R78, R93). -/
def countRead (s : State) : State :=
  onGuard (fun g => { g with suppress := g.suppress - 1, conflictUs := if g.conflict then bump g.conflictUs else g.conflictUs }) s

/-- A read of the sentinels is its stages in order. -/
theorem sentinelRead_eq (preds : List (BitVec 16)) {s : State} (hrun : s.guard.running = true) : exec (.sentinelRead preds) s
    = .next (countRead (raiseBound (steerUnlessFrozen (noteFirstRead (takeSample ((preds.take 24).map BitVec.toNat) (takePending s)))))) :=
  if_neg (by simp [hrun])

@[simp] theorem noteFirstRead_readings (s : State) : (noteFirstRead s).guard.readings = s.guard.readings := by
  unfold noteFirstRead
  split
  · rfl
  · exact setBound_readings _ _ _

@[simp] theorem steerUnlessFrozen_readings (s : State) : (steerUnlessFrozen s).guard.readings = s.guard.readings := by
  unfold steerUnlessFrozen
  split
  · exact steer_readings s
  · rfl

@[simp] theorem countRead_readings (s : State) : (countRead s).guard.readings = s.guard.readings := rfl

/-- Counting a read moves neither P nor the bound. -/
theorem pred_le_countRead {s : State} (h : s.guard.pred.toNat ≤ s.guard.latBound.toNat) :
    (countRead s).guard.pred.toNat ≤ (countRead s).guard.latBound.toNat := h

@[simp] theorem takeSample_readings (ps : List Nat) (s : State) : (takeSample ps s).guard.readings = (s.guard.sample ps).readings :=
  congrArg Guard.readings (raiseAside_guard _ _)

/-! ### The stages of a power reading -/

/-- VCAP and BELOW_FLOOR follow a reading, and a change of BELOW_FLOOR is raised (R82, R83). -/
def takePower (watts : Nat) (s : State) : State :=
  let floor := s.guard.capW.toNat < watts && s.guard.aboveCap (vcoreFloor + 1)
  let s1 := onGuard (fun g => { g.readPower watts with belowFloor := floor }) s
  if floor != s.guard.belowFloor then raise 1 0 0 (bitNat floor) 0 none s1 else s1

/-- The conflict with the cap follows VCAP, but in cap-first mode it waits for the bound (R82). -/
def followConflict (en capFirst : Bool) (s : State) : State :=
  if capFirst then s else setConflict (en && s.guard.aboveCap s.guard.vcode.toNat) s

/-- VDD_CORE follows VCAP while the guard is enabled (R82). -/
def followCap (en : Bool) (s : State) : State := if en then setVolt (s.guard.capped s.guard.vcode.toNat) s else s

/-- A power reading is its stages in order. -/
theorem powerReading_eq (watts : Nat) {s : State} (hrun : s.guard.running = true) (hcap : s.guard.capW ≠ 0#16) : exec (.powerReading watts) s
    = .next (followCap s.guard.enabled (followConflict s.guard.enabled s.guard.capFirst (takePower watts s))) :=
  if_neg (by simp [hrun, hcap])

@[simp] theorem followCap_capState (en : Bool) (s : State) : (followCap en s).guard.capState = s.guard.capState := by
  unfold followCap
  split
  · exact setVolt_capState _ s
  · rfl

@[simp] theorem followConflict_capState (en capFirst : Bool) (s : State) : (followConflict en capFirst s).guard.capState = s.guard.capState := by
  unfold followConflict
  split
  · rfl
  · rw [setConflict_guard]
    rfl

theorem takePower_capState (watts : Nat) (s : State) : (takePower watts s).guard.capState
    = ((s.guard.readPower watts).vcap, decide (s.guard.capW.toNat < watts) && s.guard.aboveCap (vcoreFloor + 1)) := by
  unfold takePower
  dsimp only
  split <;> rfl

/-- A move of the bound raises nothing. -/
theorem setBound_sump (v : Nat) (c : BoundCause) (s : State) : (setBound v c s).sump = s.sump :=
  same_sump (setBound_view (M := 17247174660) rfl v c s) rfl

/-! ### The stages of a VOUT_COMMAND that is not acknowledged -/

/-- The request freezes, and GUARD_PMBUS is raised for it once (R90). -/
def freezeRequest (s : State) : State :=
  if s.guard.frozen then s else raise 1 2 0 0 0 none (onGuard (fun g => { g with frozen := true }) s)

/-- LAT_BOUND rises to P where the guard as it was has it below (R90). -/
def liftBound (g : Guard) (s : State) : State :=
  if g.latBound.toNat < g.pred.toNat && g.seen then setBound (roundUp5 g.pred.toNat) .pmbus s else s

/-- The VOUT_COMMAND of the guard as it was is sent again, at most three times and not during last gasp (R90, 21_power_reset.md R458). -/
def resend (g : Guard) (gasp : Bool) (s : State) : State :=
  if g.retries < 3 && !gasp then emit (.vout g.vcode.toNat) (onGuard (fun g => { g with retries := g.retries + 1 }) s) else s

/-- A VOUT_COMMAND not acknowledged is its stages in order. -/
theorem guardPmbus_eq {s : State} (hfly : s.guard.inFlight = true) :
    exec (.guardPmbus false) s = .next (resend s.guard s.pwr.lastGasp (liftBound s.guard (freezeRequest s))) :=
  if_neg (by simp [hfly])

theorem freezeRequest_frozen (s : State) : (freezeRequest s).guard.frozen = true := by
  unfold freezeRequest
  split
  · assumption
  · rfl

theorem freezeRequest_vcode (s : State) : (freezeRequest s).guard.vcode = s.guard.vcode := by
  unfold freezeRequest
  split <;> rfl

theorem liftBound_frozen (g : Guard) (s : State) : (liftBound g s).guard.frozen = s.guard.frozen := by
  unfold liftBound
  split
  · rw [setBound_guard]
  · rfl

theorem liftBound_vcode (g : Guard) (s : State) : (liftBound g s).guard.vcode = s.guard.vcode := by
  unfold liftBound
  split
  · rw [setBound_guard]
  · rfl

theorem liftBound_sump (g : Guard) (s : State) : (liftBound g s).sump = s.sump := by
  unfold liftBound
  split
  · rw [setBound_sump]
  · rfl

theorem resend_frozen (g : Guard) (gasp : Bool) (s : State) : (resend g gasp s).guard.frozen = s.guard.frozen := by
  unfold resend
  split <;> rfl

theorem resend_vcode (g : Guard) (gasp : Bool) (s : State) : (resend g gasp s).guard.vcode = s.guard.vcode := by
  unfold resend
  split <;> rfl

theorem resend_sump (g : Guard) (gasp : Bool) (s : State) : (resend g gasp s).sump = s.sump := by
  unfold resend
  split <;> rfl

end Sys2Proof.Machine

namespace Sys2Proof

open Machine

/-- Settles O8: each command by its own ranges, and by whether a VOUT_COMMAND is in flight (R81 to R83, R86, R89). -/
theorem guardCommandsTakeEffect : Obligations.GuardCommandsTakeEffect := by
  unfold Obligations.GuardCommandsTakeEffect
  refine ⟨fun rq => completes_of (fun _ => rfl) fun u h => ?config, applyCfg_stopped, fun rq => completes_of (fun _ => rfl) fun _ _ => rfl,
    fun rq => completes_of (fun _ => rfl) fun u ⟨hcap, hmode, hflight⟩ => ?capLater,
    fun rq => completes_of (fun _ => rfl) fun u ⟨hlo, hhi, hmode, hflight⟩ => ?cap,
    fun rq => completes_of (fun _ => rfl) fun u ⟨h0, hmode, hflight, hconf⟩ => ?noCap⟩
  case config =>
    obtain ⟨hen, hstep, hstepLo, hstepHi, ht, htLo, htHi, hhLo, hhHi, hcLo, hcHi, hfLo, hfHi⟩ := h
    simp only [bne_iff_ne, Bool.or_eq_true, decide_eq_true_eq]
    rw [if_neg (by omega)]
    cases hf : u.guard.inFlight <;> simp [hf, onGuard]
  case capLater =>
    simp only [bne_iff_ne, Bool.and_eq_true, Bool.or_eq_true, decide_eq_true_eq]
    rw [if_neg (by omega), if_pos hflight]
    rfl
  case cap =>
    have hne : BitVec.ofNat 16 (rq.u16 0) ≠ 0#16 := fun h => by
      have := congrArg BitVec.toNat h
      simp at this
      omega
    simp only [bne_iff_ne, Bool.and_eq_true, Bool.or_eq_true, decide_eq_true_eq, hflight, applyCap_of_ne hne]
    rw [if_neg (by omega)]
    rfl
  case noCap => simp [h0, Nat.not_lt.mpr hmode, hflight, applyCap_zero _ hconf]

/-- Settles O9: the readings pass every later stage of a read, and each other event moves what it names (R76 to R83, R90). -/
theorem guardEventsTakeEffect : Obligations.GuardEventsTakeEffect := by
  unfold Obligations.GuardEventsTakeEffect
  refine ⟨fun preds s hrun => ?read, fun s hen hseen hshort hpred hbound => ?back, fun watts s hrun hcap => ?power, fun g watts c hc => ?vcap,
    fun s hfly => ?acked, fun s hfly => ?notAcked⟩
  case read =>
    have hread := (countRead_readings _).trans ((raiseBound_readings _).trans ((steerUnlessFrozen_readings _).trans
      ((noteFirstRead_readings _).trans ((takeSample_readings ((preds.take 24).map BitVec.toNat) _).trans
        (sample_readings_congr (takePending_readings s) _)))))
    have hx := sentinelRead_eq preds hrun
    obtain ⟨hpred, hrest⟩ := Prod.mk.inj hread
    exact ⟨_, hx, hpred, (Prod.mk.inj hrest).1, pred_le_countRead (pred_le_raiseBound _), changesOnly_exec_of 17263951876 hx rfl rfl⟩
  case back =>
    have hx : exec .latBoundReturn s = _ := if_pos (by simp [hen, hseen, hshort, hpred, hbound])
    have hlat : (BitVec.ofNat 10 (min s.guard.target.toNat 1023)).toNat = s.guard.target.toNat := by
      have := s.guard.latBound.isLt
      rw [BitVec.toNat_ofNat]
      omega
    refine ⟨_, hx, ?_, ?_, changesOnly_exec hx rfl⟩
    · split <;> simp only [setConflict_guard, setBound_guard, hlat]
    · split
      case isTrue h => simp only [setConflict_guard, h, Bool.not_true, Bool.and_false]
      case isFalse h => simp only [setBound_guard, Bool.eq_false_iff.mpr h, Bool.not_false, Bool.and_true]
  case power =>
    have hkept := (followCap_capState s.guard.enabled _).trans ((followConflict_capState s.guard.enabled s.guard.capFirst _).trans
      (takePower_capState watts s))
    have hx := powerReading_eq watts hrun hcap
    exact ⟨_, hx, congrArg Prod.fst hkept, congrArg Prod.snd hkept, changesOnly_exec_of 17196646404 hx rfl rfl⟩
  case vcap =>
    unfold Guard.readPower
    dsimp only
    split
    · simp [hc]
    · split <;> simp [hc]
  case acked =>
    show execGuardPmbus true s = _
    simp [execGuardPmbus, hfly, onGuard]
  case notAcked =>
    have hx := guardPmbus_eq hfly
    refine ⟨_, hx, ?_, ?_, ?_, changesOnly_exec hx rfl⟩
    · rw [resend_frozen, liftBound_frozen, freezeRequest_frozen]
    · rw [resend_vcode, liftBound_vcode, freezeRequest_vcode]
    · rw [resend_sump, liftBound_sump]
      unfold freezeRequest
      split <;> rfl

end Sys2Proof
end

section
/-! The power commands, the domain switches, and last gasp (21_power_reset.md). -/

namespace Sys2Proof.Machine

/-! ### What entering the safe state and a reaction leave alone -/

/-- What the sump has latched of events: its bits and their count. -/
def Sump.latched (p : Sump) : BitVec 64 × BitVec 48 := (p.status, p.events)

/-- Entering the safe state leaves the power controller. -/
theorem enterSafe_pwr (all : Bool) (s : State) : (enterSafe all s).pwr = s.pwr := same_pwr (enterSafe_view (M := 34443627560) rfl all s) rfl

/-- Entering the safe state latches nothing. -/
theorem enterSafe_latched (all : Bool) (s : State) : (enterSafe all s).sump.latched = s.sump.latched := by
  rw [enterSafe_sump]
  rfl

/-- The safe state is set once it is entered. -/
theorem enterSafe_safe (all : Bool) (s : State) : (enterSafe all s).sump.safe = true := by rw [enterSafe_sump]

/-- A message leaves the sump. -/
theorem sendMsix_sump (fn vec : Nat) (s : State) : (sendMsix fn vec s).sump = s.sump := same_sump (sendMsix_view (M := 17181966336) rfl fn vec s) rfl

/-- A message leaves the power controller. -/
theorem sendMsix_pwr (fn vec : Nat) (s : State) : (sendMsix fn vec s).pwr = s.pwr := same_pwr (sendMsix_view (M := 17181966336) rfl fn vec s) rfl

/-- Revoking a window leaves the power controller. -/
theorem revokeWindow_pwr (n : Nat) (s : State) : (revokeWindow n s).pwr = s.pwr := same_pwr (revokeWindow_view (M := 17180000256) rfl n s) rfl

/-- Last gasp begins in the power controller; the windows it revokes are the bays' (R458). -/
theorem beginGasp_pwr (s : State) : (beginGasp s).pwr
    = { s.pwr with lastGasp := true, lastGasps := bump s.pwr.lastGasps, switching := [], bist := [] } := by
  unfold beginGasp
  simp only [List.foldl_cons, List.foldl_nil, revokeWindow_pwr, onPwr]

/-- Last gasp leaves the sump. -/
theorem beginGasp_sump (s : State) : (beginGasp s).sump = s.sump := same_sump (beginGasp_view (M := 17213554688) rfl s) rfl

/-! ### What a reaction leaves -/

/-- What a latch leaves of the sump and of the power failure: the events latched, the safe state, PWRFAIL_N and a start-up that waits for
it. -/
structure LatchFacts where
  /-- The bits and the count of the events latched. -/
  events : BitVec 64 × BitVec 48
  /-- The safe state. -/
  safe : Bool
  /-- PWRFAIL_N is asserted. -/
  pwrfail : Bool
  /-- Start-up waits for PWRFAIL_N. -/
  restartUp : Bool

/-- These facts of a state. -/
def State.latchFacts (s : State) : LatchFacts := ⟨s.sump.latched, s.sump.safe, s.pwr.pwrfail, s.pwr.restartUp⟩

theorem enterSafe_facts (all : Bool) (s : State) : (enterSafe all s).latchFacts = { s.latchFacts with safe := true } := by
  simp only [State.latchFacts, enterSafe_latched, enterSafe_safe, enterSafe_pwr]

theorem sendMsix_facts (fn vec : Nat) (s : State) : (sendMsix fn vec s).latchFacts = s.latchFacts := by
  simp only [State.latchFacts, sendMsix_sump, sendMsix_pwr]

/-- A stage that runs only when its bit is set and keeps the facts keeps them in any case. -/
theorem ite_facts {c : Bool} {t s : State} (h : t.latchFacts = s.latchFacts) : (if c then t else s).latchFacts = s.latchFacts := by
  cases c
  · rfl
  · exact h

/-- Of these facts a reaction can set only the safe state, and it does with bit 5 or bit 3 (R435 to R438). -/
theorem react_facts (l : SumpLine) (bits had : Nat) (all : Bool) (s : State) :
    (react l bits had all s).latchFacts = { s.latchFacts with safe := s.sump.safe || bitOf bits 5 || bitOf bits 3 } := by
  unfold react
  extract_lets s1 s2 s3 s4 s5 s6
  have h1 : s1.latchFacts = { s.latchFacts with safe := s.sump.safe || bitOf bits 5 } := by
    show (if bitOf bits 5 then enterSafe all s else s).latchFacts = _
    cases bitOf bits 5
    · simp [State.latchFacts]
    · simp [enterSafe_facts]
  have h5 : s5.latchFacts = s1.latchFacts := by
    refine (ite_facts ?_).trans ((ite_facts ?_).trans ((ite_facts ?_).trans (ite_facts rfl)))
    · rfl
    · exact sendMsix_facts 0 1 _
    · rfl
  have h6 : s6.latchFacts = { s1.latchFacts with safe := true } := by
    rw [show s6 = enterSafe true s5 from rfl, enterSafe_facts, h5]
  cases bitOf bits 3
  · simpa [h1] using h5
  · simp only [if_true, Bool.or_true]
    split
    · rw [h6, h1]
    · split
      · exact h6.trans (by rw [h1])
      · exact h6.trans (by rw [h1])

/-- Entering the history leaves the safe state. -/
theorem Sump.enter_safe (e : Entry) (p : Sump) : (Sump.enter e p).safe = p.safe := by
  unfold Sump.enter
  split
  · rfl
  · split
    · rfl
    · dsimp only
      split
      · rfl
      · split <;> rfl

/-- Noting an event sets its bit and counts it. -/
theorem noteEvent_facts (l : SumpLine) (s : State) : (noteEvent l s).latchFacts
    = { s.latchFacts with events := (s.sump.status ||| BitVec.ofNat 64 (2 ^ l.src), bump s.sump.events) } := by
  unfold noteEvent State.latchFacts
  simp only [count_sump, count_pwr, onSump, Sump.latched, Sump.enter_safe]

/-- An event that latches sets its bit and is counted, and its reaction can set the safe state (R434 to R436). -/
theorem latchLine_facts (l : SumpLine) (s : State) : (latchLine l s).latchFacts = { s.latchFacts with
    events := (s.sump.status ||| BitVec.ofNat 64 (2 ^ l.src), bump s.sump.events),
    safe := s.sump.safe || bitOf (s.sump.actsOf l.src) 5 || bitOf (s.sump.actsOf l.src) 3 } := by
  have hnote := noteEvent_facts l s
  have hsafe : (noteEvent l s).sump.safe = s.sump.safe := congrArg LatchFacts.safe hnote
  unfold latchLine
  dsimp only
  split
  case isTrue h =>
    rw [hnote, h]
    simp [State.latchFacts, bitOf]
  case isFalse h =>
    split <;> rw [react_facts]
    · rw [show (captureFirst l (s.sump.actsOf l.src) (noteEvent l s)).latchFacts = _ from hnote,
        show (captureFirst l (s.sump.actsOf l.src) (noteEvent l s)).sump.safe = _ from hsafe]
    · rw [show (mergeEvent (s.sump.actsOf l.src) (noteEvent l s)).latchFacts = _ from hnote,
        show (mergeEvent (s.sump.actsOf l.src) (noteEvent l s)).sump.safe = _ from hsafe]

/-- The event that PWRFAIL_N latches (R457). -/
def pwrfailLine : SumpLine := { src := 4, code := 0x11B0 }

/-- Last gasp begins unless it has begun. -/
def gaspUnlessHeld (s : State) : State := if s.pwr.lastGasp then s else beginGasp s

theorem gaspUnlessHeld_lastGasp (s : State) : (gaspUnlessHeld s).pwr.lastGasp = true := by
  unfold gaspUnlessHeld
  split
  · assumption
  · rw [beginGasp_pwr]

theorem gaspUnlessHeld_pwrfail (s : State) : (gaspUnlessHeld s).pwr.pwrfail = s.pwr.pwrfail := by
  unfold gaspUnlessHeld
  split
  · rfl
  · rw [beginGasp_pwr]

theorem gaspUnlessHeld_sump (s : State) : (gaspUnlessHeld s).sump = s.sump := by
  unfold gaspUnlessHeld
  split
  · rfl
  · rw [beginGasp_sump]

theorem gaspUnlessHeld_latched (s : State) : (gaspUnlessHeld s).sump.latched = s.sump.latched := by rw [gaspUnlessHeld_sump]

theorem gaspUnlessHeld_safe (s : State) : (gaspUnlessHeld s).sump.safe = s.sump.safe := by rw [gaspUnlessHeld_sump]

end Sys2Proof.Machine

namespace Sys2Proof

open Machine

/-- Settles O10: each command by its own guards (R449, R453, R464, 23_test.md R485). -/
theorem powerCommandsTakeEffect : Obligations.PowerCommandsTakeEffect := by
  unfold Obligations.PowerCommandsTakeEffect
  refine ⟨fun rq => completes_of (fun _ => rfl) fun u ⟨hd, hon, hbond, hsw, his⟩ => ?asIs,
    fun rq => waits_of (fun _ => rfl) fun u ⟨hd, hon, hbond, hsw, his⟩ => ?up,
    fun rq => waits_of (fun _ => rfl) fun u ⟨hd, hon, hbond, hsw, his, hmay⟩ => ?down,
    fun rq => turnsAway_of (fun _ => rfl) fun u ⟨hd, hon, hbond, hsw, his, hmay⟩ => ?mayNot,
    fun rq => completes_of (fun _ => rfl) fun _ _ => rfl, fun rq s hs hmagic hpend hgasp => ?reset, fun s => ?asked,
    fun rq s hs hmagic hbusy => ?busy, fun rq => waits_of (fun _ => rfl) fun u ⟨hd, hbond, hsw, his, hmay⟩ => ?mbist⟩
  case asIs =>
    have hsame : (decide (rq.u8 1 = 1)) = (rq.u8 1 == 1) := rfl
    simp [Nat.not_lt.mpr hd, Nat.not_lt.mpr hon, hbond, hsw, his, hsame]
  case up => simp [Nat.not_lt.mpr hd, hon, hbond, hsw, his]; rfl
  case down => simp [Nat.not_lt.mpr hd, hon, hbond, hsw, his, hmay]; rfl
  case mayNot => simp [Nat.not_lt.mpr hd, hon, hbond, hsw, his, hmay]
  case reset =>
    show execPowerChipReset rq s = _
    simp [execPowerChipReset, hpend, hgasp, serve_of_served hs, show runs (cmdH 0x1103 4) rq s = true from hs, hmagic]
    rfl
  case asked =>
    unfold askReset
    simp [onSump, enterSafe_sump, enterSafe_pwr, beginGasp_pwr, onPwr]
  case busy =>
    show execPowerChipReset rq s = _
    have hb : (s.pwr.resetPending || s.pwr.lastGasp) = true := by simpa using hbusy
    simp [execPowerChipReset, hb, serve_of_served hs, hmagic]
    rfl
  case mbist => simp [Nat.not_lt.mpr hd, hbond, hsw, his, hmay]; rfl

/-- Settles O11: the switch, or the test, that is under way of the domain decides (R449, 23_test.md R485). -/
theorem domainSwitchesTakeEffect : Obligations.DomainSwitchesTakeEffect := by
  unfold Obligations.DomainSwitchesTakeEffect
  refine ⟨fun d ok mem s fn hsw hq => ?off, fun d mem s fn hsw => ?on, fun d mem s fn hsw => ?failed, fun d ok mem s fn hsw hbist hq => ?tested,
    fun g s fn hsw hq => ?timeout, fun d s hlo hhi => ?bank⟩
  case off =>
    show execDomainSwitchDone d ok mem s = _
    simp only [execDomainSwitchDone, hsw, hq, if_true]
  case on =>
    show execDomainSwitchDone d true mem s = _
    simp only [execDomainSwitchDone, hsw, if_true]
  case failed =>
    show execDomainSwitchDone d false mem s = _
    simp only [execDomainSwitchDone, hsw, Bool.false_eq_true, if_false]
    rfl
  case tested =>
    show execDomainSwitchDone d ok mem s = _
    simp only [execDomainSwitchDone, hsw, hbist, hq, if_true]
  case timeout =>
    show execBankGroupOffTimeout g s = _
    simp only [execBankGroupOffTimeout, hsw, hq, Bool.false_eq_true, if_false]
    rfl
  case bank =>
    have hwith : s.withDomain d = [d] := if_neg (by simp; omega)
    have hup : s.blockUp d = true := by
      unfold State.blockUp
      simp only [Bool.and_eq_true, decide_eq_true_eq]
      rw [if_neg (by omega), if_neg (by omega), if_neg (by omega), if_neg (by omega)]
    have hblock : ∀ u, blockOff d u = u := fun u => by
      unfold blockOff
      rw [if_neg (by omega), if_neg (by omega), if_neg (by omega), if_pos hhi]
    unfold switchOff
    simp only [hwith, hup, hblock, List.foldl_cons, List.foldl_nil, if_true, onPwr]

/-- Settles O13: PWRFAIL_N by what its latch leaves, the other events by the state they find (R437, R457 to R460). -/
theorem lastGaspTakesEffect : Obligations.LastGaspTakesEffect := by
  unfold Obligations.LastGaspTakesEffect
  refine ⟨fun s hfail hready hsafe => ?gasp, fun s hfail hready hrestart => ?startup, fun s hstop hgasp => ?stop,
    fun s hstop hgasp hrst => ?stopAlone,
    fun _ => rfl, fun s hgasp hstop hpages hpend => ?ended, fun s hgasp hstop hpages hpend => ?reset, fun s hfail hup => ?resume,
    fun s hfail hup hgasp => ?brownOut, fun s hfail hup hgasp hstop => ?stopped⟩
  case gasp =>
    have hx : exec .pwrfailNAssert s = .next (gaspUnlessHeld (latchLine pwrfailLine (onPwr (fun p => { p with pwrfail := true }) s))) :=
      (if_neg (by simp [hfail])).trans (if_pos (by simp [hready]))
    have hfacts := latchLine_facts pwrfailLine (onPwr (fun p => { p with pwrfail := true }) s)
    have hlatched := (gaspUnlessHeld_latched _).trans (congrArg LatchFacts.events hfacts)
    refine ⟨_, hx, ?_, gaspUnlessHeld_lastGasp _, ?_, congrArg Prod.fst hlatched, congrArg Prod.snd hlatched⟩
    · rw [gaspUnlessHeld_pwrfail]
      exact congrArg LatchFacts.pwrfail hfacts
    · rw [gaspUnlessHeld_safe]
      refine (congrArg LatchFacts.safe hfacts).trans ?_
      simp [onPwr, pwrfailLine, hsafe]
  case startup =>
    have hfacts := latchLine_facts pwrfailLine (onPwr (fun p => { p with pwrfail := true }) s)
    have hx : exec .pwrfailNAssert s = _ := (if_neg (by simp [hfail])).trans (if_neg (by simp [hready, hrestart]))
    refine ⟨_, hx, ?_, rfl, ?_⟩
    · exact congrArg LatchFacts.pwrfail hfacts
    · exact congrArg Prod.fst (congrArg LatchFacts.events hfacts)
  case stop =>
    show execAppendingStop s = _
    simp [execAppendingStop, hstop, hgasp]
  case stopAlone =>
    show execAppendingStop s = _
    simp [execAppendingStop, hstop, hgasp, hrst]
  case ended =>
    show execLastGaspEnd s = _
    simp [execLastGaspEnd, hstop, hgasp, hpages, hpend, onPwr]
  case reset =>
    show execLastGaspEnd s = _
    simp [execLastGaspEnd, hstop, hgasp, hpages, hpend]
  case resume =>
    show execPwrfailNRelease s = _
    simp [execPwrfailNRelease, hfail, hup, onPwr, onPh]
  case brownOut =>
    show execPwrfailNRelease s = _
    simp [execPwrfailNRelease, hfail, hup, hgasp, onPwr, onSump]
  case stopped =>
    show execPwrfailNRelease s = _
    simp [execPwrfailNRelease, hfail, hup, hgasp, hstop, onPwr]

end Sys2Proof
end

section
/-! The DRAM: its commands, its accesses and the channels' own events (17_dram.md). -/

namespace Sys2Proof.Machine

/-! ### A channel but for its command history -/

/-- A channel but for its command history. -/
def Ddr.quiet (d : Ddr) : Ddr := { d with recent := [], sinceTick := 0 }

/-- An output leaves the channels. -/
theorem emit_ddrAt (o : Out) (s : State) (k : Nat) : (emit o s).ddrAt k = s.ddrAt k := rfl

theorem dramEvent_ddrAt (c ev cause value : Nat) (s : State) (k : Nat) : (dramEvent c ev cause value s).ddrAt k = s.ddrAt k := rfl

theorem issueCmd_ddrAt_same (c : Nat) (cmd : DramCmd) (place : Nat) (s : State) : ∃ (r : List (BitVec 64)) (t : Nat),
    (issueCmd c cmd place s).ddrAt c = { s.ddrAt c with recent := r, sinceTick := t } := by
  unfold issueCmd
  exact ⟨_, _, (emit_ddrAt _ _ c).trans ((ddrAt_onDdr c _ s c).trans (if_pos rfl))⟩

/-- Content is no part of the command history. -/
theorem mem_of_quiet {d e : Ddr} (h : d.quiet = e.quiet) : d.mem = e.mem := (congrArg Ddr.mem h : d.quiet.mem = e.quiet.mem)

/-- A command put out enters the history of its channel alone (R387). -/
theorem issueCmd_quiet (c : Nat) (cmd : DramCmd) (place : Nat) (s : State) (k : Nat) :
    ((issueCmd c cmd place s).ddrAt k).quiet = (s.ddrAt k).quiet := by
  unfold issueCmd
  rw [emit_ddrAt, ddrAt_onDdr]
  split
  case isTrue h => rw [h]; rfl
  case isFalse => rfl

theorem issueCmd_ddrAt_ne (c : Nat) (cmd : DramCmd) (place : Nat) (s : State) {k : Nat} (h : k ≠ c) :
    (issueCmd c cmd place s).ddrAt k = s.ddrAt k := by
  unfold issueCmd
  rw [emit_ddrAt, ddrAt_onDdr, if_neg h]

theorem issueAccess_quiet (c : Nat) (write : Bool) (off : Nat) (s : State) (k : Nat) :
    ((issueAccess c write off s).ddrAt k).quiet = (s.ddrAt k).quiet := by
  unfold issueAccess
  rw [issueCmd_quiet, issueCmd_quiet, issueCmd_quiet]

theorem issueAccess_ddrAt_ne (c : Nat) (write : Bool) (off : Nat) (s : State) {k : Nat} (h : k ≠ c) :
    (issueAccess c write off s).ddrAt k = s.ddrAt k := by
  unfold issueAccess
  rw [issueCmd_ddrAt_ne _ _ _ _ h, issueCmd_ddrAt_ne _ _ _ _ h, issueCmd_ddrAt_ne _ _ _ _ h]

theorem issueCmd_out (c : Nat) (cmd : DramCmd) (place : Nat) (s : State) : (issueCmd c cmd place s).out = .dram c cmd.code :: s.out := rfl

/-- The bytes that a write stores (R389). -/
theorem storeDram_mem (c addr : Nat) (data : List Byte) (s : State) (k : Nat) : ((storeDram c addr data s).ddrAt k).mem
    = if k = c then Tab.putAll 0 (s.ddrAt c).mem (addr - dramBase c) data else (s.ddrAt k).mem := by
  unfold storeDram
  rw [ddrAt_onDdr]
  split <;> rfl

theorem storeDram_ddrAt_ne (c addr : Nat) (data : List Byte) (s : State) {k : Nat} (h : k ≠ c) :
    (storeDram c addr data s).ddrAt k = s.ddrAt k := by
  unfold storeDram
  rw [ddrAt_onDdr, if_neg h]

theorem beginExit_quiet (c : Nat) (s : State) (k : Nat) : ((beginExit c s).ddrAt k).quiet
    = if k = c then { (s.ddrAt c).quiet with srExiting := true } else (s.ddrAt k).quiet := by
  unfold beginExit
  rw [issueCmd_quiet, ddrAt_onDdr]
  split <;> rfl

/-- A request that waits joins the queue of its channel (R384). -/
theorem holdRequest_queue (c : Nat) (q : DdrReq) (s : State) : ((holdRequest c q s).ddrAt c).queue = (s.ddrAt c).queue ++ [q] := by
  unfold holdRequest
  dsimp only
  split
  · refine (congrArg Ddr.queue (beginExit_quiet c _ c)).trans ?_
    rw [if_pos rfl]
    show ((onDdr c _ s).ddrAt c).queue = _
    rw [ddrAt_onDdr, if_pos rfl]
  · rw [ddrAt_onDdr, if_pos rfl]

/-- A change of a channel that is not of its content stores nothing. -/
theorem onDdr_mem (c : Nat) {g : Ddr → Ddr} (hg : ∀ d, (g d).mem = d.mem) (s : State) (k : Nat) : ((onDdr c g s).ddrAt k).mem = (s.ddrAt k).mem := by
  rw [ddrAt_onDdr]
  split
  case isTrue h => rw [hg, h]
  case isFalse => rfl

theorem refresh_of_quiet {d e : Ddr} (h : d.quiet = e.quiet) : d.refresh = e.refresh :=
  (congrArg Ddr.refresh h : d.quiet.refresh = e.quiet.refresh)

theorem freezes_of_quiet {d e : Ddr} (h : d.quiet = e.quiet) : d.freezes = e.freezes :=
  (congrArg Ddr.freezes h : d.quiet.freezes = e.quiet.freezes)

theorem patrolAt_of_quiet {d e : Ddr} (h : d.quiet = e.quiet) : d.patrolAt = e.patrolAt :=
  (congrArg Ddr.patrolAt h : d.quiet.patrolAt = e.quiet.patrolAt)

/-- A channel's event joins the lines of the sump. -/
theorem dramEvent_lines (c ev cause value : Nat) (s : State) : (dramEvent c ev cause value s).sump.lines = s.sump.lines
    ++ [{ src := 28 + c, code := BitVec.ofNat 16 (sumpFirstCode (28 + c) + ev), unit := BitVec.ofNat 8 c, cause := BitVec.ofNat 8 cause,
          value := BitVec.ofNat 64 value, berth := none, kind := 0 }] := rfl

/-- A channel written twice holds what was written last. -/
theorem setDdr_setDdr (s : State) (c : Nat) (x y : Ddr) : (s.setDdr c x).setDdr c y = s.setDdr c y := by
  simp only [State.setDdr, Tab.put_put]

/-- A request that waits stores nothing. -/
theorem holdRequest_mem (c : Nat) (q : DdrReq) (s : State) (k : Nat) : ((holdRequest c q s).ddrAt k).mem = (s.ddrAt k).mem := by
  unfold holdRequest beginExit
  dsimp only
  split
  · rw [mem_of_quiet (issueCmd_quiet _ _ _ _ k), onDdr_mem c, onDdr_mem c] <;> exact fun _ => rfl
  · rw [onDdr_mem c]
    exact fun _ => rfl

/-- An answer leaves the channels. -/
theorem finishOpt_ddrAt (fn : Option Nat) (code : Nat) (st : Status) (p : List Byte) (s : State) (k : Nat) :
    (finishOpt fn code st p s).ddrAt k = s.ddrAt k := by
  unfold State.ddrAt
  rw [same_ddr (finishOpt_view (M := 17250123776) rfl fn code st p s) rfl]

/-- The requests that wait leave their channel without changing it otherwise. -/
theorem flushRequests_ddrAt (c : Nat) (s : State) : (flushRequests c s).ddrAt c = { s.ddrAt c with queue := [] } := by
  have hfold : ∀ (qs : List DdrReq) (u : State), (qs.foldl (fun s q => finishOpt q.fn 0x0F05 .frozen [] s) u).ddrAt c = u.ddrAt c := fun qs => by
    induction qs with
    | nil => exact fun _ => rfl
    | cons q qs ih => exact fun u => (ih _).trans (finishOpt_ddrAt _ _ _ _ u c)
  exact (hfold _ _).trans ((ddrAt_onDdr c _ s c).trans (if_pos rfl))

/-- A channel that freezes, but for its history and the stamp of its capture (R387). -/
theorem freezeDram_ddrAt (c kind client addr synd : Nat) (rank : Bool) (s : State) : ∃ (hist recent : List (BitVec 64)) (tick stamp : Nat),
    (freezeDram c kind client addr synd rank s).ddrAt c = { s.ddrAt c with
      st := 5, srEntering := true, srExiting := false, contentKept := false, froze := true, failKind := BitVec.ofNat 3 kind,
      failClient := BitVec.ofNat 3 client, failAddr := BitVec.ofNat 64 addr, failSynd := BitVec.ofNat 16 synd,
      failSub := addr / 64 % 2 == 1, failRank := rank, failStamp := stamp, hist := hist, recent := recent, sinceTick := tick, queue := [],
      freezes := bump (s.ddrAt c).freezes, eccUncorr := if kind = 1 then bump (s.ddrAt c).eccUncorr else (s.ddrAt c).eccUncorr,
      caParity := if kind = 2 then bump (s.ddrAt c).caParity else (s.ddrAt c).caParity } := by
  obtain ⟨r1, t1, h1⟩ := issueCmd_ddrAt_same c .preAll 0 s
  obtain ⟨r2, t2, h2⟩ := issueCmd_ddrAt_same c .sre 0 (issueCmd c .preAll 0 s)
  refine ⟨r2, r2, t2, s.stamp, ?_⟩
  unfold freezeDram
  dsimp only
  rw [flushRequests_ddrAt, dramEvent_ddrAt, ddrAt_onDdr, if_pos rfl, h2, h1]

theorem accessDram_ok_write {c : Nat} {q : DdrReq} {s : State} (he : q.err = .ok) (hw : q.write = true) :
    accessDram c q s = storeDram c q.addr.toNat q.data (issueAccess c true (q.addr.toNat - dramBase c) s) := by
  simp [accessDram, he, hw]

theorem accessDram_ok_read {c : Nat} {q : DdrReq} {s : State} (he : q.err = .ok) (hw : q.write = false) :
    accessDram c q s = issueAccess c false (q.addr.toNat - dramBase c) s := by
  simp [accessDram, he, hw]

theorem accessDram_parity {c : Nat} {q : DdrReq} {s : State} (he : q.err = .caParity) :
    accessDram c q s = freezeDram c 2 q.client q.addr.toNat 0 false (issueAccess c q.write (q.addr.toNat - dramBase c) s) := by
  simp [accessDram, he]

/-- A serving channel is READY. -/
theorem Ddr.st_of_serving {d : Ddr} (h : d.serving = true) : d.st = 2 := by
  simp only [Ddr.serving, Bool.and_eq_true, beq_iff_eq] at h
  exact h.1

/-- A request of a client on a serving channel accesses it (R384). -/
theorem dramRequest_serving {c : Fin 2} {write : Bool} {addr : BitVec 64} {data : List Byte} {err : DramErr} {s : State} (client : DramClient)
    (hchan : dramChannel addr.toNat = c.val) (hblock : addr.toNat % 64 + data.length ≤ 64)
    (hrange : s.dramRangeOk addr.toNat (max 1 data.length) = true) (hserving : (s.ddrAt c.val).serving = true) :
    exec (.dramRequest c client write addr data err) s = .next (accessDram c.val
      { client := clientCode client, write := write, addr := addr, data := data, err := err, fn := none }
      (countDram client write addr.toNat s)) := by
  show execDramRequest c client write addr data err s = _
  simp [execDramRequest, hchan, Nat.not_lt.mpr hblock, hrange, hserving, Ddr.st_of_serving hserving]

/-- A request of a client on a channel that is up but not serving waits (R384). -/
theorem dramRequest_waiting {c : Fin 2} {write : Bool} {addr : BitVec 64} {data : List Byte} {err : DramErr} {s : State} (client : DramClient)
    (hchan : dramChannel addr.toNat = c.val) (hblock : addr.toNat % 64 + data.length ≤ 64)
    (hrange : s.dramRangeOk addr.toNat (max 1 data.length) = true) (hserving : (s.ddrAt c.val).serving = false)
    (hlo : 2 ≤ (s.ddrAt c.val).st) (hhi : (s.ddrAt c.val).st < 5) :
    exec (.dramRequest c client write addr data err) s = .next (holdRequest c.val
      { client := clientCode client, write := write, addr := addr, data := data, err := err, fn := none }
      (countDram client write addr.toNat s)) := by
  show execDramRequest c client write addr data err s = _
  simp [execDramRequest, hchan, Nat.not_lt.mpr hblock, hrange, hserving, Nat.not_lt.mpr hlo, Nat.not_le.mpr hhi]

/-- The count of an access leaves the channels. -/
theorem countDram_ddrAt (client : DramClient) (write : Bool) (addr : Nat) (s : State) (k : Nat) :
    (countDram client write addr s).ddrAt k = s.ddrAt k := rfl

end Sys2Proof.Machine

namespace Sys2Proof

open Machine

/-- Settles O14: each command by its own guards (R379, R386 to R388, R391, R392). -/
theorem dramCommandsTakeEffect : Obligations.DramCommandsTakeEffect := by
  unfold Obligations.DramCommandsTakeEffect
  refine ⟨fun rq => completes_of (fun _ => rfl) fun u ⟨hc, hidle, hgap, hauto, hdram, hst⟩ => ?configLater,
    fun rq => completes_of (fun _ => rfl) fun u ⟨hc, hidle, hgap, hauto, hdram, h3, h4⟩ => ?config,
    fun rq => completes_of (fun _ => rfl) fun u ⟨hc, hdram⟩ => ?status, fun rq => completes_of (fun _ => rfl) fun u ⟨hc, hdram, hfroze⟩ => ?capture,
    fun rq => waits_of (fun _ => rfl) fun u ⟨hc, hdram, hst, hrec⟩ => ?recover,
    fun rq err => waits_of (fun _ => rfl) fun u ⟨hc, halign, hdram, hchan, hrange, hserving⟩ => ?read,
    fun rq err => waits_of (fun _ => rfl) fun u ⟨hc, halign, hdram, hchan, hrange, hst⟩ => ?readLater,
    fun rq err => turnsAway_of (fun _ => rfl) fun u ⟨hc, halign, hdram, hchan, hrange, hst⟩ => ?readFrozen⟩
  case configLater => simp [Nat.not_lt.mpr hc, Nat.not_lt.mpr hidle, Nat.not_lt.mpr hgap, Nat.not_lt.mpr hauto, hdram, hst, onDdr]
  case config => simp [Nat.not_lt.mpr hc, Nat.not_lt.mpr hidle, Nat.not_lt.mpr hgap, Nat.not_lt.mpr hauto, hdram, h3, h4, onDdr, Ddr.configured]
  case status => simp [Nat.not_lt.mpr hc, hdram]
  case capture => simp [Nat.not_lt.mpr hc, hdram, hfroze]
  case recover => simp [Nat.not_lt.mpr hc, hdram, hst, hrec, startRecovery, onDdr]
  case read =>
    simp [Nat.not_lt.mpr hc, halign, hdram, hchan, hrange, hserving, Ddr.st_of_serving hserving]
  case readLater =>
    have hnot : (u.ddrAt (rq.u8 0)).serving = false := by rcases hst with h | h <;> simp [Ddr.serving, h]
    rcases hst with h | h <;> simp [Nat.not_lt.mpr hc, halign, hdram, hchan, hrange, hnot, h]
  case readFrozen => simp [Nat.not_lt.mpr hc, halign, hdram, hchan, hrange, hst]

/-- Settles O15: a request is checked, counted, and then accesses its channel or waits (R376, R384, R387, R389). -/
theorem dramAccessesTakeEffect : Obligations.DramAccessesTakeEffect := by
  unfold Obligations.DramAccessesTakeEffect
  refine ⟨fun c client addr data s hchan hblock hrange hserving => ?write, fun c client addr data s hchan hblock hrange hserving => ?read,
    fun c client write addr data err s hchan hblock hrange hserving hlo hhi => ?wait,
    fun c client write addr data s hchan hblock hrange hserving => ?parity⟩
  case write =>
    have hx := dramRequest_serving (write := true) (err := .ok) client hchan hblock hrange hserving
    refine ⟨_, hx, fun a => ?_, fun k hk => ?_, ?_⟩
    · rw [accessDram_ok_write rfl rfl, storeDram_mem, if_pos rfl, Tab.look_putAll, mem_of_quiet (issueAccess_quiet _ _ _ _ _), countDram_ddrAt]
    · rw [accessDram_ok_write rfl rfl, storeDram_ddrAt_ne _ _ _ _ hk, issueAccess_ddrAt_ne _ _ _ _ hk, countDram_ddrAt]
    · rw [accessDram_ok_write rfl rfl]
      exact changesOnly_of_covers (M := 17247240192) ((storeDram_view rfl _ _ _ _).trans ((issueAccess_view rfl _ _ _ _).trans
        (countDram_view rfl _ _ _ s))) rfl
  case read =>
    have hx := dramRequest_serving (write := false) (err := .ok) client hchan hblock hrange hserving
    refine ⟨_, hx, fun k => ?_, ?_⟩
    · rw [accessDram_ok_read rfl rfl, mem_of_quiet (issueAccess_quiet _ _ _ _ _), countDram_ddrAt]
    · rw [accessDram_ok_read rfl rfl]
      exact changesOnly_of_covers (M := 17247240192) ((issueAccess_view rfl _ _ _ _).trans (countDram_view rfl _ _ _ s)) rfl
  case wait =>
    have hx := dramRequest_waiting (write := write) (err := err) client hchan hblock hrange hserving hlo hhi
    refine ⟨_, hx, holdRequest_queue _ _ _, holdRequest_mem _ _ _, ?_⟩
    exact changesOnly_of_covers (M := 17247240192) ((holdRequest_view rfl _ _ _).trans (countDram_view rfl _ _ _ s)) rfl
  case parity =>
    have hx := dramRequest_serving (write := write) (err := .caParity) client hchan hblock hrange hserving
    rw [accessDram_parity rfl] at hx
    obtain ⟨hist, recent, tick, stamp, hfrozen⟩ := freezeDram_ddrAt c.val 2 (clientCode client) addr.toNat 0 false
      (issueAccess c.val write (addr.toNat - dramBase c.val) (countDram client write addr.toNat s))
    have hbefore := issueAccess_quiet c.val write (addr.toNat - dramBase c.val) (countDram client write addr.toNat s) c.val
    rw [countDram_ddrAt] at hbefore
    refine ⟨_, hx, ?_⟩
    simp only [hfrozen, BitVec.ofNat_toNat, BitVec.setWidth_eq, true_and]
    exact ⟨rfl, mem_of_quiet hbefore, congrArg bump (freezes_of_quiet hbefore)⟩

/-- Settles O16: each event by the state of its channel (R380 to R386, R388, R389). -/
theorem dramEventsTakeEffect : Obligations.DramEventsTakeEffect := by
  unfold Obligations.DramEventsTakeEffect
  refine ⟨fun c s hserving hidle => ?idle, fun c s hent hst hq => ?entered, fun c s hent hst hq => ?enteredExit, fun c s hent hst => ?enteredFrozen,
    fun c s hst hexit => ?exit, fun c s hst hdrift => ?speed, fun c s hserving => ?refresh, fun c hot corrected s hserving => ?mr4,
    fun c hot corrected s hserving => ?mr4Hot, fun c s hserving hgap => ?patrol, fun c s hserving => ?drift, fun c s hst hrec hauto => ?auto,
    fun c s hrec hlen hkept => ?recovered, fun c s hrec => ?failed⟩
  case idle =>
    have hx : exec (.srIdleExpiry c) s = _ := if_neg (by simp [hserving, hidle])
    refine ⟨_, hx, ?_, ?_, rfl, changesOnly_exec_of 17180131328 hx rfl rfl⟩
    · refine (congrArg Ddr.srEntering ((issueCmd_quiet _ _ _ _ c.val).trans (issueCmd_quiet _ _ _ _ c.val))).trans ?_
      rw [ddrAt_onDdr, if_pos rfl]
      rfl
    · rw [mem_of_quiet (issueCmd_quiet _ _ _ _ _), mem_of_quiet (issueCmd_quiet _ _ _ _ _), onDdr_mem]
      exact fun _ => rfl
  case entered =>
    show execSrEntryDone c s = _
    simp [execSrEntryDone, hent, hst, hq, onDdr, setDdr_setDdr, ddrAt_setDdr]
  case enteredExit =>
    show execSrEntryDone c s = _
    simp [execSrEntryDone, hent, hst, hq, onDdr, setDdr_setDdr, ddrAt_setDdr]
  case enteredFrozen =>
    show execSrEntryDone c s = _
    simp [execSrEntryDone, hent, hst, onDdr, setDdr_setDdr, ddrAt_setDdr]
  case exit =>
    show execSrExitDone c s = _
    simp [execSrExitDone, hst, hexit]
  case speed =>
    show execSpeedChangeDone c s = _
    simp [execSpeedChangeDone, hst, hdrift, onDdr]
  case refresh =>
    show execRefresh c s = _
    simp [execRefresh, hserving]
  case mr4 =>
    show execMr4Read c hot false corrected s = _
    simp [execMr4Read, hserving, onDdr]
  case mr4Hot =>
    have hx : exec (.mr4Read c hot true corrected) s = _ := if_neg (by simp [hserving])
    refine ⟨_, hx, ?_, ?_⟩
    · rw [if_pos rfl, dramEvent_ddrAt, refresh_of_quiet (issueCmd_quiet _ _ _ _ _), ddrAt_onDdr, if_pos rfl]
    · rw [if_pos rfl, dramEvent_lines]
      fin_cases c <;> rfl
  case patrol =>
    have hx : exec (.patrolScrub c .ok) s = _ := if_neg (by simp [hserving, hgap])
    rw [accessDram_ok_read rfl rfl] at hx
    refine ⟨_, hx, ?_, ?_, ?_⟩
    · rw [patrolAt_of_quiet (issueAccess_quiet _ _ _ _ _), countDram_ddrAt, ddrAt_onDdr, if_pos rfl]
    · rw [mem_of_quiet (issueAccess_quiet _ _ _ _ _), countDram_ddrAt, onDdr_mem]
      exact fun _ => rfl
    · exact changesOnly_of_covers (M := 17247240192) ((issueAccess_view rfl _ _ _ _).trans ((countDram_view rfl _ _ _ _).trans
        (onDdr_view rfl _ _ s))) rfl
  case drift =>
    show execDriftUpdate c s = _
    simp [execDriftUpdate, hserving]
  case auto =>
    show execAutoRecoverExpiry c s = _
    simp [execAutoRecoverExpiry, hst, hrec, hauto, startRecovery, onDdr]
  case recovered =>
    show execRecoveryDone c true s = _
    simp [execRecoveryDone, hrec, Nat.not_lt.mpr hlen, hkept, onDdr]
  case failed =>
    have hx : exec (.recoveryDone c false) s = _ := (if_neg (by simp [hrec])).trans (if_pos rfl)
    refine ⟨_, hx, ?_⟩
    simp only [endRecovery, finishOpt_ddrAt, ddrAt_onDdr, dramEvent_ddrAt, failDram, if_true]
    exact ⟨trivial, trivial, trivial⟩

end Sys2Proof
end

section
/-! The test block (23_test.md), and the registers of a function's window (22_counters_trace.md, 25_interface_index.md). -/

namespace Sys2Proof.Machine

/-- Counting the errored bits of a lane changes that lane alone. -/
theorem countErrors_laneAt_ne (l errors : Nat) (s : State) {k : Nat} (h : k ≠ l) : (countErrors l errors s).laneAt k = s.laneAt k := by
  unfold countErrors countBits
  rw [laneAt_onLane, if_neg h, laneAt_onLane, if_neg h]

/-- Counting bits leaves the losses of lock. -/
theorem countBits_lockLoss (l : Nat) (s : State) : ((countBits l s).laneAt l).lockLoss = (s.laneAt l).lockLoss := by
  unfold countBits
  rw [laneAt_onLane, if_pos rfl]
  split <;> rfl

/-- Counting the errored bits leaves the losses of lock. -/
theorem countErrors_lockLoss (l errors : Nat) (s : State) : ((countErrors l errors s).laneAt l).lockLoss = (s.laneAt l).lockLoss := by
  unfold countErrors
  rw [countBits_lockLoss, laneAt_onLane, if_pos rfl]
  split <;> rfl

/-- The request area of PF0's mailbox lies below every block with a domain of its own (25_interface_index.md Table 25.3). -/
theorem regDomain_mbx {off : Nat} (h : off < 0x102000) : regDomain off = none := by
  unfold regDomain
  simp only [Bool.and_eq_true, decide_eq_true_eq]
  rw [if_neg (by omega), if_neg (by omega), if_neg (by omega), if_neg (by omega), if_neg (by omega)]

/-- A write of an aligned word to PF0's request area goes to its mailbox. -/
theorem writeReg_mbx {off : Nat} (hlo : 0x101000 ≤ off) (hhi : off < 0x102000) (v : BitVec 32) (s : State) :
    writeReg 0 off v s = writeMbx 0 (off - 0x100000) v s := by
  unfold writeReg vfEnableOff mbxBase
  simp only [if_true, Bool.and_eq_true, decide_eq_true_eq]
  rw [if_neg (by omega), if_neg (by omega), if_pos (by omega)]

/-- A write of an aligned word to PF0's request area (18_pumphouse.md R397). -/
theorem registerWrite_mbx {off v : BitVec 32} {s : State} (hlive : s.mmioLive 0 = true) (hlo : 0x101000 ≤ off.toNat) (hhi : off.toNat < 0x102000)
    (halign : off.toNat % 4 = 0) : exec (.registerWrite 0 off v) s = .next (writeMbx 0 (off.toNat - 0x100000) v (mmio 0 s)) := by
  show execRegisterWrite 0 off v s = _
  simp [execRegisterWrite, hlive, regDomain_mbx hhi, halign, writeReg_mbx hlo hhi]

end Sys2Proof.Machine

namespace Sys2Proof

open Machine

/-- Settles O17: each command by its own guards, each event by the state of its lane (R480 to R483, R486 to R488, R492, R493). -/
theorem testBlockTakesEffect : Obligations.TestBlockTakesEffect := by
  unfold Obligations.TestBlockTakesEffect
  refine ⟨fun rq => completes_of (fun _ => rfl) fun u ⟨hl, h0⟩ => ?stop,
    fun rq => completes_of (fun _ => rfl) fun u ⟨hl, h1, hok, hset, hidle, hon⟩ => ?start, fun rq x hact => ?started,
    fun rq => completes_of (fun _ => rfl) fun u ⟨hl, h2⟩ => ?clear, fun rq errors => completes_of (fun _ => rfl) fun u hl => ?status,
    fun l errors s hact hflag hlock => ?lock, fun l errors s hlock => ?lost,
    fun rq => waits_of (fun _ => rfl) fun u ⟨hl, hpLo, hpHi, hvLo, hvHi, hdLo, hdHi, hset, hfree, hlock⟩ => ?margin,
    fun l bits errors s fn hfn => ?dwell, fun _ => rfl, fun _ _ => rfl, fun c => ⟨rfl, rfl, rfl, rfl⟩⟩
  case stop => simp [Nat.not_lt.mpr hl, h0]
  case start => simp [Nat.not_lt.mpr hl, h1, hok, hset, hidle, hon]
  case started => simp [startPgc, hact]
  case clear => simp [Nat.not_lt.mpr hl, h2]
  case status => simp [Nat.not_lt.mpr hl]
  case lock =>
    show execPgcLock l false errors s = _
    unfold execPgcLock
    rw [if_neg Bool.false_ne_true, if_pos (by simp [hact, hflag, hlock])]
    rfl
  case lost =>
    have hx : exec (.pgcLock l true errors) s = _ := if_neg (by simp [hlock])
    refine ⟨_, hx, ?_, ?_, fun k hk => ?_, ?_⟩
    · rw [laneAt_onLane, if_pos rfl]
    · rw [laneAt_onLane, if_pos rfl, countErrors_lockLoss]
    · rw [laneAt_onLane, if_neg hk, countErrors_laneAt_ne _ _ _ hk]
    · exact changesOnly_of_covers (M := 268435456) ((onLane_view rfl _ _ _).trans (countErrors_view rfl _ _ s)) rfl
  case margin =>
    simp only [Bool.or_eq_true, decide_eq_true_eq, hset, hfree, hlock]
    rw [if_neg (by omega)]
    rfl
  case dwell =>
    show execMarginDwellEnd l bits errors s = _
    simp only [execMarginDwellEnd, hfn]
    rfl

/-- Settles O19: a half of a counter by its slot, and a word by where it is aimed (R12, R397, R448, R465). -/
theorem registersTakeEffect : Obligations.RegistersTakeEffect := by
  unfold Obligations.RegistersTakeEffect
  refine ⟨fun fn off s src sp c hlive hlow hsrc hspan hread hon => ?low, fun fn off s src sp c h hlive hhigh hsrc hspan hread hon hlatch => ?high,
    fun off v s hlive hlo hhi halign hbusy => ?area, fun off v s hlive hlo hhi halign hbusy => ?areaBusy, fun v s hlive => ?seed,
    fun off v s d hlive hdom hoff => ?off⟩
  case low =>
    show execCounterLowHalfRead fn off s = _
    simp [execCounterLowHalfRead, hlive, hlow, hsrc, hspan, hread, hon]
    rfl
  case high =>
    show execCounterLowHalfRead fn off s = _
    simp [execCounterLowHalfRead, hlive, hhigh, hsrc, hspan, hread, hon, readHigh, hlatch, emit]
  case area =>
    rw [registerWrite_mbx hlive hlo hhi halign]
    unfold writeMbx
    rw [mbxAt_mmio, if_neg (by omega), if_pos (by simp [hbusy]; omega), Nat.sub_sub]
  case areaBusy =>
    rw [registerWrite_mbx hlive hlo hhi halign]
    unfold writeMbx
    rw [mbxAt_mmio, if_neg (by omega), if_neg (by simp [hbusy])]
  case seed =>
    show execRegisterWrite 0 0x01800004 v s = _
    simp [execRegisterWrite, hlive, regDomain, writeReg, vfEnableOff]
  case off =>
    show execRegisterWrite 0 off v s = _
    simp [execRegisterWrite, hlive, hdom, hoff, offAccess]

end Sys2Proof
end

section
/-! The time commands and the tide gauge's own events (02_tide_gauge.md). -/

namespace Sys2Proof.Machine

/-- A new epoch in the tide gauge: what changes with it, and EPOCH one further (R61). -/
theorem newEpoch_tide (f : Tide → Tide) (s : State) : (newEpoch f s).tide = { f s.tide with epoch := (f s.tide).epoch + 1 } :=
  same_tide (appendAll_view (M := 17247174656) rfl _ _ _ _ _) rfl

/-- A new epoch raises nothing. -/
theorem newEpoch_sump (f : Tide → Tide) (s : State) : (newEpoch f s).sump = s.sump :=
  same_sump (newEpoch_view (M := 17247174658) rfl f s) rfl

/-- From LOCKED with a holdover limit the servo enters HOLDOVER: its time starts, the entry is counted, and raised (R54, R56). -/
theorem goHoldover_locked {s : State} (hst : s.tide.st = .locked) (hlim : s.tide.holdLimit ≠ 0) : (goHoldover id s).tide.st = .holdover
    ∧ (goHoldover id s).tide.epoch = s.tide.epoch + 1 ∧ (goHoldover id s).tide.holdoverCount = bump s.tide.holdoverCount
    ∧ (goHoldover id s).tide.holdStart = some s.tide.nowFs
    ∧ (goHoldover id s).sump.lines = s.sump.lines ++
        [{ src := 0, code := 0x0481, unit := 0, cause := 0, value := 0, berth := none, kind := 0 }] := by
  unfold goHoldover
  dsimp only
  rw [if_neg]
  · simp only [raise, newEpoch_tide, newEpoch_sump, hst]
    exact ⟨rfl, rfl, rfl, rfl, rfl⟩
  · simp only [raise, newEpoch_tide]
    simpa [Tide.enter] using hlim

/-- Naming no phase source outside FREE leads to FREE (R48, R54). -/
theorem setSource_none {rq : Req} {s : State} (h0 : rq.u8 0 = 0) (hst : s.tide.st ≠ .free) :
    setSource rq s = goFree (fun t => { setSourceFields rq t with ppsBad := 0 }) s := if_pos (by simp [h0, hst])

/-- In FREE, with SOURCE reading none, naming the sources only sets them; another phase source starts an epoch (R53, R54). -/
theorem setSource_free {rq : Req} {s : State} (hst : s.tide.st = .free) (hsrc : s.tide.source = 0) : ∃ q : Bool, (setSource rq s).tide
    = { setSourceFields rq s.tide with
        ppsBad := 0, qualified := q, epoch := if otherPhase rq s.tide then s.tide.epoch + 1 else s.tide.epoch } := by
  unfold setSource
  dsimp only
  rw [if_neg (by simp [hst])]
  cases hother : otherPhase rq s.tide
  · refine ⟨s.tide.qualified, ?_⟩
    rw [if_neg Bool.false_ne_true, if_neg Bool.false_ne_true, if_neg (by simp [setSourceFields, hst, Tide.sourceIn, hsrc])]
    rfl
  · refine ⟨false, ?_⟩
    rw [if_pos rfl, if_pos rfl, hst]
    dsimp only
    rw [newEpoch_tide]
    simp [setSourceFields, Tide.sourceIn, hsrc]

end Sys2Proof.Machine

namespace Sys2Proof

open Machine

/-- Settles O20: each command by its own ranges, and naming the sources by the state of the servo (R47 to R50, R54, R56 to R58, R60, R66, R71). -/
theorem timeCommandsTakeEffect : Obligations.TimeCommandsTakeEffect := by
  unfold Obligations.TimeCommandsTakeEffect
  refine ⟨fun rq => completes_of (fun _ => rfl) fun _ _ => rfl, fun rq => completes_of (fun _ => rfl) fun u h => if_pos h,
    fun rq s h0 hst => ?none, fun rq s hst hsrc => ?free, fun rq => completes_of (fun _ => rfl) fun u h => ?tai,
    fun rq => turnsAway_of (fun _ => rfl) fun u h => ?taiNot, fun rq => completes_of (fun _ => rfl) fun u ⟨hok, h0⟩ => ?utc,
    fun rq => completes_of (fun _ => rfl) fun u ⟨hok, h0⟩ => ?utcLater, fun off s => ?applied,
    fun rq => completes_of (fun _ => rfl) fun u ⟨hp, hi, he⟩ => ?delay, fun rq => completes_of (fun _ => rfl) fun u ⟨hok, hports⟩ => ?ptp,
    fun rq => completes_of (fun _ => rfl) fun u ⟨hb, hen, hlo, hhi⟩ => ?failClosed,
    fun rq => completes_of (fun _ => rfl) fun u ⟨hrate, hage, hlo, hhi⟩ => ?holdover,
    fun rq => completes_of (fun _ => rfl) fun u ⟨hlo, hhi, hlink⟩ => ?dissent⟩
  case none =>
    rw [setSource_none h0 hst]
    unfold goFree
    rw [newEpoch_tide]
    exact ⟨rfl, rfl⟩
  case free =>
    obtain ⟨q, hq⟩ := setSource_free (rq := rq) hst hsrc
    rw [hq]
    exact ⟨hst, rfl, rfl, rfl, rfl, rfl, rfl, rfl⟩
  case tai => rcases h with h | h <;> simp [h]
  case taiNot => rcases h with h | h <;> simp [h]
  case utc => simp [hok, h0]
  case utcLater => simp [hok, h0]
  case applied =>
    unfold applyUtc
    split
    case isTrue h =>
      simp only [Bool.and_eq_true] at h
      exact ⟨rfl, h.1, rfl, rfl, rfl⟩
    case isFalse h =>
      rw [newEpoch_tide]
      exact ⟨rfl, rfl, rfl, rfl, rfl⟩
  case delay => simp [Nat.not_lt.mpr hp, Nat.not_lt.mpr hi, Nat.not_lt.mpr he]
  case ptp => simp [hok, hports]
  case failClosed => simp [Nat.not_lt.mpr hb, Nat.not_lt.mpr hen, Nat.not_lt.mpr hlo, Nat.not_lt.mpr hhi]
  case holdover => simp [Nat.not_lt.mpr hrate, Nat.not_lt.mpr hage, Nat.not_lt.mpr hlo, Nat.not_lt.mpr hhi]
  case dissent => simp [Nat.ne_of_gt hlo, Nat.not_lt.mpr hhi, Nat.not_lt.mpr hlink]

/-- Settles O21: each transition by its new epoch, each event by the state of the servo (R43, R47 to R56, R66 to R68, R71, Table 02.6). -/
theorem timeEventsTakeEffect : Obligations.TimeEventsTakeEffect := by
  unfold Obligations.TimeEventsTakeEffect
  refine ⟨fun s hst => ?qualified, fun s hst hlim => ?lost, fun fn s hlive => ?read, fun d s ha hb hd => ?handover, fun d s ha hb hd => ?interp,
    fun ph s hph hst hwin hbad => ?rejected, fun ph s hph hst hq => ?edge, fun ph s hph hst hq => ?edgeQualifies, fun s hph hq => ?ppsLost,
    fun p bytes ph s tr m i hm hi hsup htr hdom => ?message, fun p bytes ph s tr m i hm hi hsup => ?discard, fun i s hpar hnot => ?receipt,
    fun i ph s hconf htype => ?announce, fun i ph s hconf htype hp2p => ?sync, fun i ph s hconf htype => ?request,
    fun s href hfreq => ?refLoss, fun s href hfreq hst => ?refLossHold, fun s href hst hhold => ?refBack, fun s href hst hfreq hhold => ?refBackHold,
    fun s hst => ?limit, fun s hst => ?limitAcquire, fun s off day hutc => ?day, fun s hready => ?pps⟩
  case qualified =>
    unfold qualify
    rcases hst with h | h <;> rw [h] <;> dsimp only <;> rw [newEpoch_tide] <;> exact ⟨rfl, rfl, rfl, rfl⟩
  case lost =>
    have hgo : disqualify id s = goHoldover id s := by
      unfold disqualify
      rw [hst]
    obtain ⟨h1, h2, h3, h4, h5⟩ := goHoldover_locked hst hlim
    rw [hgo]
    exact ⟨h1, h2, h3, h4, h5⟩
  case read =>
    show execTideNowNsRead fn s = _
    simp [execTideNowNsRead, hlive, emit]
  case handover =>
    show execInterpHandover d s = _
    simp [execInterpHandover, ha, hb, Nat.not_lt.mpr hd]
  case interp =>
    show execInterpHandover d s = _
    simp [execInterpHandover, ha, hb, hd, raise, sumpFirstCode]
  case rejected =>
    show execPpsInEdge ph s = _
    unfold execPpsInEdge
    rw [if_neg (by simp [hph])]
    dsimp only
    rw [if_pos ⟨hst, hwin⟩, if_neg (by omega)]
  case edge =>
    show execPpsInEdge ph s = _
    simp [execPpsInEdge, hph, hst, hq]
  case edgeQualifies =>
    show execPpsInEdge ph s = _
    simp [execPpsInEdge, hph, hst, hq]
  case ppsLost =>
    show execPpsLoss s = _
    simp [execPpsLoss, hph, hq]
  case message =>
    show execPtpMessage p bytes ph s = _
    simp [execPtpMessage, hm, hi, hsup, htr, hdom]
  case discard =>
    show execPtpMessage p bytes ph s = _
    simp [execPtpMessage, hm, hi, hsup]
  case receipt =>
    show execPtpReceiptTimeout i s = _
    unfold execPtpReceiptTimeout
    rw [if_pos hpar, ptpLost, if_neg (by simpa [State.setPtp] using hnot)]
  case announce =>
    show execPtpSyncInterval i true ph s = _
    simp [execPtpSyncInterval, hconf, htype]
  case sync =>
    show execPtpSyncInterval i false ph s = _
    simp [execPtpSyncInterval, hconf, htype, hp2p]
  case request =>
    show execPtpSyncInterval i false ph s = _
    simp [execPtpSyncInterval, hconf, htype]
  case refLoss =>
    show execRefInLoss s = _
    unfold execRefInLoss
    rw [if_neg (by simp [href])]
    dsimp only
    rw [if_pos (by simpa using hfreq)]
  case refLossHold =>
    have hx : exec .refInLoss s = _ := (if_neg (by simp [href])).trans ((if_neg (by simp [hfreq])).trans (if_pos hst))
    refine ⟨_, hx, ?_⟩
    rw [newEpoch_tide]
    exact ⟨rfl, rfl, rfl, by simp [Tide.sourceIn], rfl, rfl⟩
  case refBack =>
    show execRefInReturn s = _
    simp [execRefInReturn, href, hst, hhold]
  case refBackHold =>
    have hx : exec .refInReturn s = _ := (if_neg (by simp [href])).trans (if_pos ⟨hst, hfreq⟩)
    refine ⟨_, hx, ?_⟩
    rw [newEpoch_tide]
    simp only [hhold, if_true]
    exact ⟨trivial, trivial, trivial, by simp [Tide.sourceIn, hfreq], trivial⟩
  case limit =>
    refine ⟨goFree id s, ?_, ?_⟩
    · show execHoldoverLimit s = _
      simp [execHoldoverLimit, hst]
    · unfold goFree
      rw [newEpoch_tide]
      exact ⟨rfl, rfl, rfl, rfl⟩
  case limitAcquire =>
    show execHoldoverLimit s = _
    simp [execHoldoverLimit, hst]
  case day =>
    show execUtcDayEnd s = _
    simp [execUtcDayEnd, hutc]
  case pps =>
    show execPpsOut s = _
    simp [execPpsOut, hready, emit]

end Sys2Proof
end

section
/-! The commands of the berths, and what happens to a berth (09_berths.md). -/

namespace Sys2Proof.Machine

/-- An entry written after its deletion is an entry written (Tab.put deletes first). -/
theorem Tab.put_del {α : Type} [DecidableEq α] (d : α) (t : Tab α) (k : Nat) {v : α} (hv : v ≠ d) :
    Tab.put d (Tab.del t k) k v = Tab.put d t k v := by
  unfold Tab.put
  rw [if_neg hv, if_neg hv, Tab.del_del]

/-- Without a block move there is none to finish. -/
theorem finishMove_of_none {b : Nat} {s : State} (h : s.moveOf b = none) (n : Nat) : finishMove b n s = s := by
  cases n with
  | zero => rfl
  | succ n => simp only [finishMove, h]

/-- A berth changed twice. -/
theorem onBerth_onBerth (b : Nat) (f g : Berth → Berth) (s : State) : onBerth b g (onBerth b f s) = onBerth b (fun x => g (f x)) s := by
  unfold onBerth
  rw [berthAt_setBerth, if_pos rfl]
  simp only [State.setBerth, Tab.put_put]

/-- A berth's settings are no block move of it. -/
theorem finishMove_onBerth {b : Nat} {s : State} (h : s.moveOf b = none) (n : Nat) (f g : Berth → Berth) :
    finishMove b n (onBerth b g (onBerth b f s)) = onBerth b (fun x => g (f x)) s := by
  rw [onBerth_onBerth]
  exact finishMove_of_none (s := onBerth b _ s) h n

/-- What is left of a gangway that may go. -/
theorem eq_of_dropGangway {i : Nat} {s v : State} (h : dropGangway i s = some v) :
    v = { s with glb := { s.glb with gangway := Tab.del s.glb.gangway i } } := by
  unfold dropGangway at h
  dsimp only at h
  split at h
  · exact absurd h (by simp)
  · exact (Option.some.inj h).symm

/-- A berth that is ACTIVE or CLOSING exists. -/
theorem berthExists_of_state {s : State} {b : Nat} {n : BitVec 2} (h : (s.berthAt b).state = n) (hn : n ≠ 0#2) : s.berthExists b = true := by
  simp [State.berthExists, h, hn]

/-- A new berth with its key and its blocks, before its chain opens (R217, R317). -/
def newBerthBlocks (b : Nat) (rq : Req) (place : Nat × Nat × Nat) (s : State) : State :=
  onRdmaB b (fun _ => { qpBase := place.1, qps := createQps rq, mrBase := place.2.1, mrs := createMrs rq })
    (freshSettings b place.2.2 (drawn (s.setBerth b {
      state := 1, fabricOk := rq.u8 1 == 1, weirCtrs := rq.u32 8, keyNonce := some s.draw,
      pubKey := padTo 32 (Config.edPublic s.draw),
      cert := Config.berthCert b (padTo 32 (Config.edPublic s.draw)) ((sha256 (padTo 32 (Config.edPublic s.draw))).take 8) s.utcNow,
      vfEnabled := true })))

/-- Opening the chain of a new berth, and its first records, leave all but the ledger's parts. -/
theorem makeBerth_chain_view {M : Nat} (hM : 17247174656 ||| M = M) (b : Nat) (rq : Req) (place : Nat × Nat × Nat) (s : State) :
    (makeBerth b rq place s).view M = (newBerthBlocks b rq place s).view M :=
  (genRecords_view hM b _).trans (openChain_view hM b _ _ _)

/-- An answer leaves the berths. -/
theorem finish_berthAt (fn code : Nat) (st : Status) (p : List Byte) (s : State) (b : Nat) : (finish fn code st p s).berthAt b = s.berthAt b := by
  unfold State.berthAt
  rw [same_glb (finish_view (M := 17250123776) rfl fn code st p s) rfl]

end Sys2Proof.Machine

namespace Sys2Proof

open Machine

/-- Settles O22: each command by its own guards (R94, R207, R210, R213, R217 to R220, R222). -/
theorem berthCommandsTakeEffect : Obligations.BerthCommandsTakeEffect := by
  unfold Obligations.BerthCommandsTakeEffect
  refine ⟨fun rq p => completes_of (fun _ => rfl) fun u ⟨hb, hfab, hqps, hmrs, hmrsHi, hctrs, hnew, haud, hplace⟩ => ?create, fun b rq p s => ?made,
    fun rq keyOk => turnsAway_of (fun _ => rfl) fun u ⟨hb, hfab, hqps, hmrs, hmrsHi, hctrs, hold⟩ => ?createOld,
    fun rq => completes_of (fun _ => rfl) fun u ⟨hp, hb, h0, hbond, hlink, hact, hwhole, hshares⟩ => ?assign,
    fun rq => completes_of (fun _ => rfl) fun u ⟨hp, hb, h2, hbond, hlink⟩ => ?unassign,
    fun rq => turnsAway_of (fun _ => rfl) fun u ⟨hp, hb, hk, hbusy⟩ => ?assignNot,
    fun rq v => completes_of (fun _ => rfl) fun u ⟨h0, hi, hsrc, hdst, hne, hk, hport, hsact, hdact, hbond, hdrop⟩ => ?gangway,
    fun rq v => completes_of (fun _ => rfl) fun u ⟨h1, hi, hdrop⟩ => ?gangwayOff,
    fun rq => turnsAway_of (fun _ => rfl) fun u ⟨h1, hi, hdrop⟩ => ?gangwayUsed,
    fun rq => completes_of (fun _ => rfl) fun u ⟨hb, hex⟩ => ?key, fun rq => completes_of (fun _ => rfl) fun u hb => ?status,
    fun rq => completes_of (fun _ => rfl) fun u ⟨hv, hfree⟩ => ?auditor, fun rq => turnsAway_of (fun _ => rfl) fun u ⟨hv, hex⟩ => ?auditorNot,
    fun rq => completes_of (fun _ => rfl) fun u ⟨hb, hex⟩ => ?reset,
    fun rq => waits_of (fun _ => rfl) fun u ⟨hb, hst, hfn, hmove, hframes⟩ => ?destroy,
    fun rq => waits_of (fun _ => rfl) fun u ⟨hb, hst, hfn, hmove, hframes⟩ => ?destroyIdle⟩
  case create => simp [berthOk, hb, Nat.not_lt.mpr hfab, Nat.not_lt.mpr hqps, hmrs, Nat.not_lt.mpr hmrsHi, Nat.not_lt.mpr hctrs, hnew, haud, hplace]
  case made =>
    have hchain := makeBerth_chain_view (M := 17247174656) rfl b rq p s
    unfold State.berthAt State.rdmaB State.weirB
    rw [same_glb hchain rfl, same_rdma hchain rfl, same_weir hchain rfl, same_free hchain rfl]
    refine ⟨?_, ?_, ?_, rfl⟩
    · unfold newBerthBlocks freshSettings onRdmaB onRdma onWeirB onWeir drawn State.setBerth
      dsimp only
      rw [Tab.look_put, if_pos rfl]
    · unfold newBerthBlocks onRdmaB onRdma
      rw [Tab.look_upd, if_pos rfl]
    · unfold newBerthBlocks freshSettings onRdmaB onRdma onWeirB onWeir
      dsimp only
      rw [Tab.look_upd, if_pos rfl]
  case createOld => simp [berthOk, hb, Nat.not_lt.mpr hfab, Nat.not_lt.mpr hqps, hmrs, Nat.not_lt.mpr hmrsHi, Nat.not_lt.mpr hctrs, hold]
  case assign => simp [Nat.not_lt.mpr hp, Nat.not_lt.mpr hb, h0, hbond, hlink, hact, hwhole, hshares, onGlb]
  case unassign => simp [Nat.not_lt.mpr hp, Nat.not_lt.mpr hb, h2, hbond, hlink, onGlb]
  case assignNot =>
    simp only [Bool.or_eq_true, decide_eq_true_eq]
    rw [if_neg (by omega), if_pos (by simpa using hbusy)]
  case gangway =>
    have hput := Tab.put_del {} u.glb.gangway (rq.u8 0)
      (v := { valid := true, src := rq.u8 2, dst := rq.u8 3, kind := 0, target := BitVec.ofNat 8 (rq.u8 5) }) (by simp)
    simp [Nat.not_lt.mpr hi, Nat.not_lt.mpr hsrc, Nat.not_lt.mpr hdst, hne, hk, Nat.not_lt.mpr hport, h0, hsact, hdact, hbond, hdrop,
      eq_of_dropGangway hdrop, onGlb]
    exact hput
  case gangwayOff => simp [h1, Nat.not_lt.mpr hi, hdrop, eq_of_dropGangway hdrop]
  case gangwayUsed => simp [h1, Nat.not_lt.mpr hi, hdrop]
  case key => simp [berthOk, hb, hex]
  case status => simp [berthOk, hb]
  case auditor => 
    simp only [Bool.and_eq_true, decide_eq_true_eq]
    rw [if_neg (by omega), if_neg fun h => Bool.false_ne_true ((hfree h.1).symm.trans h.2)]
    rfl
  case auditorNot =>
    simp only [Bool.and_eq_true, decide_eq_true_eq]
    rw [if_neg (by omega), if_pos ⟨hv, hex⟩]
  case reset => simp [berthOk, hb, hex]
  case destroy =>
    have hq : ∀ g, (onBerth (rq.u8 0) g u).hasFrames (rq.u8 0) = true := fun _ => hframes
    simp [berthOk, hb, berthExists_of_state hst (by decide), hst, hfn, finishMove_onBerth hmove, hq]
  case destroyIdle =>
    have hq : ∀ g, (onBerth (rq.u8 0) g u).hasFrames (rq.u8 0) = false := fun _ => hframes
    simp [berthOk, hb, berthExists_of_state hst (by decide), hst, hfn, finishMove_onBerth hmove, hq]

/-- Settles O23: what a reset and a teardown do by the stage the berth is in (R219, R220). -/
theorem berthEventsTakeEffect : Obligations.BerthEventsTakeEffect := by
  unfold Obligations.BerthEventsTakeEffect
  refine ⟨fun b s => ?flr, fun b s hst hstep => ?drain, fun b s h => ?sealLater, fun b s hsign hroom => ?sealed, fun b s fn hst hfn hstep => ?timeout⟩
  case flr =>
    refine ⟨_, rfl, ?_, ?_, ?_, ?_⟩
    · show (resetMbx (1 + b.val) false _).mbxAt (1 + b.val) = {}
      unfold resetMbx
      rw [mbxAt_setMbx, if_pos rfl]
      rfl
    · exact (Tab.look_del _ _ _ _).trans (if_pos rfl)
    · show (if s.berthExists b.val then resetBerth b.val 1 s else s).host = _
      split <;> rfl
    · show (if s.berthExists b.val then resetBerth b.val 1 s else s).ledg = _
      split <;> rfl
  case drain =>
    show execDestroyDrainTimeout b s = _
    simp [execDestroyDrainTimeout, hst, hstep]
  case sealLater => exact if_pos (by simpa using h)
  case sealed => exact if_neg (by simp [hsign, hroom])
  case timeout =>
    refine ⟨_, ?_, rfl, ?_⟩
    · show execDestroySealTimeout b s = _
      simp [execDestroySealTimeout, hst, hstep, hfn]
      rfl
    · rw [finish_berthAt, berthAt_onBerth, if_pos rfl]

end Sys2Proof
end

section
/-! The receive and transmit rings (19_host_rings.md). -/

namespace Sys2Proof.Machine

/-- A receive ring changed twice. -/
theorem onRx_onRx (b r : Nat) (f g : RxRing → RxRing) (s : State) : onRx b r g (onRx b r f s) = onRx b r (fun x => g (f x)) s := by
  simp only [onRx, Tab.upd, Tab.put_put, Tab.look_put, if_true]

/-- A transmit ring changed twice. -/
theorem onTx_onTx (b r : Nat) (f g : TxRing → TxRing) (s : State) : onTx b r g (onTx b r f s) = onTx b r (fun x => g (f x)) s := by
  simp only [onTx, Tab.upd, Tab.put_put, Tab.look_put, if_true]

@[simp] theorem rxAt_mmio (fn : Nat) (s : State) (b r : Nat) : (mmio fn s).rxAt b r = s.rxAt b r := rfl

@[simp] theorem txAt_mmio (fn : Nat) (s : State) (b r : Nat) : (mmio fn s).txAt b r = s.txAt b r := rfl

/-- A change that leaves the entry as it finds it may be stated on the entry found. -/
theorem onRx_eq {b r : Nat} {g : RxRing → RxRing} {s : State} {x : RxRing} (h : g (s.rxAt b r) = x) :
    onRx b r g s = { s with host := { s.host with rx := Tab.put {} s.host.rx (4 * b + r) x } } := by
  rw [← h]
  rfl

theorem onTx_eq {b r : Nat} {g : TxRing → TxRing} {s : State} {x : TxRing} (h : g (s.txAt b r) = x) :
    onTx b r g s = { s with host := { s.host with tx := Tab.put {} s.host.tx (4 * b + r) x } } := by
  rw [← h]
  rfl

/-- A descriptor read that is not empty only moves the ring on. -/
theorem takeTxDesc_first {b r : Nat} {d : TxDesc} {s : State} (hskip : d.skipped = false) (heop : d.eop = false)
    (hgat : (s.txAt b r).gathering = false) :
    takeTxDesc b r true d s = onTx b r (fun x => { x with next := x.next + 1, cur := [d], gathering := true }) s := by
  unfold takeTxDesc cutChain
  dsimp only
  rw [hskip, heop, txAt_onTx, hgat]
  simp only [Bool.false_eq_true, if_false, if_true]
  exact onTx_onTx _ _ _ _ _

/-- A descriptor read within a frame joins it. -/
theorem takeTxDesc_next {b r : Nat} {d : TxDesc} {s : State} (hskip : d.skipped = false) (heop : d.eop = false)
    (hgat : (s.txAt b r).gathering = true) : takeTxDesc b r false d s = onTx b r (fun x => { x with next := x.next + 1, cur := x.cur ++ [d] }) s := by
  unfold takeTxDesc
  dsimp only
  rw [hskip, heop, txAt_onTx, hgat]
  simp only [Bool.false_eq_true, if_false, if_true]
  exact onTx_onTx _ _ _ _ _

/-- A descriptor read outside a frame without SOP is a wrong chain (R420). -/
theorem takeTxDesc_stray {b r : Nat} {d : TxDesc} {s : State} (hskip : d.skipped = false) (hgat : (s.txAt b r).gathering = false) :
    takeTxDesc b r false d s = queueWriteback b r [d] 4 (onTx b r (fun x => { x with next := x.next + 1 }) s) := by
  unfold takeTxDesc
  dsimp only
  rw [hskip, txAt_onTx, hgat]
  simp only [Bool.false_eq_true, if_false]

/-- An armed ring with writebacks not signalled sends its message at the trigger that is due (R423). -/
theorem signalRx_of_due {b r : Nat} {due : RxRing → Bool} {s : State} (harmed : (s.rxAt b r).armed = true) (hun : 0 < (s.rxAt b r).unsig)
    (hdue : due (s.rxAt b r) = true) :
    signalRx b r due s = sendMsix (1 + b) (1 + r) (onRx b r (fun x => { x with armed := false, unsig := 0 }) s) :=
  if_pos (by simp [harmed, hun, hdue])

theorem signalTx_of_due {b r : Nat} {due : TxRing → Bool} {s : State} (harmed : (s.txAt b r).armed = true) (hun : 0 < (s.txAt b r).unsig)
    (hdue : due (s.txAt b r) = true) :
    signalTx b r due s = sendMsix (1 + b) (5 + r) (onTx b r (fun x => { x with armed := false, unsig := 0 }) s) :=
  if_pos (by simp [harmed, hun, hdue])

end Sys2Proof.Machine

namespace Sys2Proof

open Machine

/-- Settles O24: each command and doorbell by its own guards, each descriptor by the frame in hand (R413, R418 to R423, R425, R426, R428). -/
theorem ringsTakeEffect : Obligations.RingsTakeEffect := by
  unfold Obligations.RingsTakeEffect
  refine ⟨fun rq => completes_of (fun _ => rfl) fun u ⟨hb, hsize, hn0, hbase, hitr, hfr, hrx, hlo, hhi, hmul, hwait, hoff, hframe⟩ => ?rx,
    fun rq => completes_of (fun _ => rfl) fun u ⟨hb, hsize, hn0, hbase, hitr, hfr, htx, hok, hpend, hmay, hoff, hgat⟩ => ?tx,
    fun rq => turnsAway_of (fun _ => rfl) fun u ⟨hb, hsize, hbase, hitr, hfr, htx, hok, hpend, hhar, hne⟩ => ?txNoPerm,
    fun rq => turnsAway_of (fun _ => rfl) fun u ⟨hb, hsize, hn0, hbase, hitr, hfr, hrx, hlo, hhi, hmul, hwait, hlive, hne⟩ => ?rxLive,
    fun rq => completes_of (fun _ => rfl) fun u ⟨hb, hrx⟩ => ?rxStatus, fun rq => completes_of (fun _ => rfl) fun u ⟨hb, htx⟩ => ?txStatus,
    fun b r v s hlive hon hfit => ?rxBell, fun b r v s hlive hbad => ?rxBellBad, fun b r v s hlive hon hfit => ?txBell,
    fun b r v s hlive hbad => ?txBellBad, fun b r desc data s hon hposted hskip hsop heop hgat => ?first,
    fun b r desc data s hon hposted hskip hsop heop hgat => ?next, fun b r desc data s hon hposted hskip hsop hgat => ?stray,
    fun s b r bufs hberth hring hbufs hframe => ?delivery, fun b r s hwait => if_pos hwait, fun b r s harmed hun hitr => ?rxTimer,
    fun b r s harmed hun hitr => ?txTimer⟩
  case rx =>
    have hcfg : (berthOk rq 0) = true := by simp [berthOk, hb]
    simp [hcfg, hsize, hbase, Nat.not_lt.mpr hitr, Nat.not_lt.mpr hfr, hrx, configRx, Nat.not_lt.mpr hlo, Nat.not_lt.mpr hhi, hmul,
      Nat.not_lt.mpr hwait, hoff, hn0]
    exact onRx_eq (by simp [hframe, RxRing.takeCfg])
  case tx =>
    have hcfg : (berthOk rq 0) = true := by simp [berthOk, hb]
    have hperm : (!isHarbour u rq && (rq.u8 2 == 1) != (u.txAt (rq.u8 0) (rq.u8 1 % 4)).txOk) = false := by
      rcases hmay with h | h <;> simp [h]
    simp only [hcfg, hsize, hbase, Nat.not_lt.mpr hitr, Nat.not_lt.mpr hfr, htx, configTx, Nat.not_lt.mpr hok, hpend, hperm, hoff, hn0,
      Bool.not_true, Bool.false_or, ne_eq, not_true_eq_false, decide_false, Bool.false_eq_true, if_false, if_true, Bool.false_and]
    exact congrArg (fun t => Reply.ok t []) (onTx_eq (by simp [hgat, TxRing.takeCfg]))
  case txNoPerm =>
    have hcfg : (berthOk rq 0) = true := by simp [berthOk, hb]
    have hperm : (!isHarbour u rq && (rq.u8 2 == 1) != (u.txAt (rq.u8 0) (rq.u8 1 % 4)).txOk) = true := by
      simpa [hhar] using hne
    simp only [hcfg, hsize, hbase, Nat.not_lt.mpr hitr, Nat.not_lt.mpr hfr, htx, configTx, Nat.not_lt.mpr hok, hpend, hperm,
      Bool.not_true, Bool.false_or, ne_eq, not_true_eq_false, decide_false, Bool.false_eq_true, if_false, if_true]
  case rxLive =>
    have hcfg : (berthOk rq 0) = true := by simp [berthOk, hb]
    simp [hcfg, hsize, hbase, Nat.not_lt.mpr hitr, Nat.not_lt.mpr hfr, hrx, configRx, Nat.not_lt.mpr hlo, Nat.not_lt.mpr hhi, hmul,
      Nat.not_lt.mpr hwait, hlive, hn0, hne]
  case rxStatus => simp [berthOk, hb, hrx]
  case txStatus => simp [berthOk, hb, htx]
  case rxBell =>
    show execRxDoorbell b r v s = _
    unfold execRxDoorbell
    rw [if_neg (by simp [hlive])]
    dsimp only
    rw [if_neg (by rw [Bool.or_eq_true, decide_eq_true_eq, decide_eq_true_eq, rxAt_mmio]; exact not_or.mpr ⟨hon, Nat.not_lt.mpr hfit⟩)]
    rfl
  case rxBellBad =>
    show execRxDoorbell b r v s = _
    unfold execRxDoorbell
    rw [if_neg (by simp [hlive])]
    dsimp only
    rw [if_pos (by rw [Bool.or_eq_true, decide_eq_true_eq, decide_eq_true_eq, rxAt_mmio]; exact hbad)]
    rfl
  case txBell =>
    show execTxDoorbell b r v s = _
    unfold execTxDoorbell
    rw [if_neg (by simp [hlive])]
    dsimp only
    rw [if_neg (by rw [Bool.or_eq_true, decide_eq_true_eq, decide_eq_true_eq, txAt_mmio]; exact not_or.mpr ⟨hon, Nat.not_lt.mpr hfit⟩)]
    rfl
  case txBellBad =>
    show execTxDoorbell b r v s = _
    unfold execTxDoorbell
    rw [if_neg (by simp [hlive])]
    dsimp only
    rw [if_pos (by rw [Bool.or_eq_true, decide_eq_true_eq, decide_eq_true_eq, txAt_mmio]; exact hbad)]
    rfl
  case first =>
    refine (if_neg (by simp [hon, hposted])).trans (congrArg Host.Outcome.next ?_)
    rw [hsop, takeTxDesc_first hskip heop hgat]
  case next =>
    refine (if_neg (by simp [hon, hposted])).trans (congrArg Host.Outcome.next ?_)
    rw [hsop, takeTxDesc_next hskip heop hgat]
  case stray =>
    refine (if_neg (by simp [hon, hposted])).trans (congrArg Host.Outcome.next ?_)
    rw [hsop, takeTxDesc_stray hskip hgat]
  case delivery =>
    show execHostDelivery bufs s = _
    unfold execHostDelivery
    generalize readyHost s = w at hberth hring hframe ⊢
    simp only [hberth, hring, Option.getD_some, hbufs, if_false]
    rw [if_neg]
    · rfl
    · show ¬ (w.rxAt b r).frame.isSome = true
      simp [hframe]
  case rxTimer =>
    show execItrTimer false b r s = _
    simp [execItrTimer, signalRx_of_due harmed hun, hitr]
  case txTimer =>
    show execItrTimer true b r s = _
    simp [execItrTimer, signalTx_of_due harmed hun, hitr]

end Sys2Proof
end

section
/-! The collectives (13_collectives.md). -/

namespace Sys2Proof.Machine

/-- A group the command may name is one in use. -/
theorem group_valid_of_groupErr {rq : Req} {s : State} (h : groupErr rq s = none) : (s.groupAt (rq.u32 4)).valid = true := by
  unfold groupErr at h
  dsimp only at h
  cases hv : (s.groupAt (rq.u32 4)).valid with
  | true => rfl
  | false => simp [hv] at h

end Sys2Proof.Machine

namespace Sys2Proof
open Machine

/-- Settles O39: each command under its own conditions, and each event of the Shuttle. -/
theorem collectivesTakeEffect : Obligations.CollectivesTakeEffect := by
  unfold Obligations.CollectivesTakeEffect
  refine ⟨fun rq lo hi => completes_of (fun _ => rfl) fun u ⟨hb, htag, hlo, hhi, hasg, hex, hval, hbox, hlen⟩ => ?create,
    fun rq => completes_of (fun _ => rfl) fun u ⟨herr, hbusy⟩ => ?destroy,
    fun rq => turnsAway_of (fun _ => rfl) fun u ⟨herr, hbusy⟩ => ?destroyBusy,
    fun rq data k => completes_of (fun _ => rfl) fun u ⟨herr, hargs, hin, hcin, hcout, hdom, hfree⟩ => ?start,
    fun rq data => turnsAway_of (fun _ => rfl) fun u ⟨herr, hargs⟩ => ?startBad,
    fun rq k => completes_of (fun _ => rfl) fun u ⟨herr, hfind⟩ => ?abort,
    fun rq => completes_of (fun _ => rfl) fun u herr => ?status,
    fun k bytes s u hlen hdom hpast hu hfit => ?message, fun i s m hm hpend => ?stale,
    fun k s a hslot hbegun haxis => ?timeout⟩
  case create => simp [berthOk, hb, htag, Nat.not_lt.mpr hlo, Nat.not_lt.mpr hhi, hasg, hex, hval, hbox, Nat.not_le.mpr hlen, onShtl]
  case destroy => simp [herr, hbusy, onShtl]
  case destroyBusy => simp [herr, hbusy]
  case start => simp [herr, hargs, hin, hcin, hcout, hdom, hfree]
  case startBad => simp [herr, hargs]
  case abort => simp [herr, hfind]
  case status => simp [herr]
  case message =>
    subst hu
    show execColMessage k _ s = _
    unfold execColMessage
    rw [if_neg (by simp [Nat.not_lt.mpr hlen, hdom, hpast])]
    dsimp only
    exact congrArg Host.Outcome.next (if_neg (Nat.not_lt.mpr hfit))
  case stale =>
    show execEarlyArrivalStale i s = _
    simp [execEarlyArrivalStale, hm, hpend, onShtl]
  case timeout =>
    show execCollectiveTimeout k s = _
    unfold execCollectiveTimeout
    dsimp only
    rw [if_neg (by simp only [hslot, hbegun]; decide), haxis]

end Sys2Proof
end

section
/-! The RDMA engines: their doorbells, packets, timers and failures (14_remote_memory.md). -/

namespace Sys2Proof.Machine

/-- What a doorbell of a send queue does: beyond the ring depth an error, else the new entries are read. -/
theorem postSends_of_live {b q prod : Nat} {s : State} (hd : (s.qpAt q).sqDepth ≠ 0) (hst : (s.qpAt q).state ≠ 0) : postSends b q prod s =
    if (s.qpAt q).sqDepth < (BitVec.ofNat 16 prod - (s.qpAt q).sqProd).toNat then qpError q 0x03 s
    else readRing b (s.qpAt q).sqAddr.toNat (s.qpAt q).sqDepth 64 (s.qpAt q).sqProd.toNat (BitVec.ofNat 16 prod - (s.qpAt q).sqProd).toNat
      (onQp q (fun x => { x with sqProd := BitVec.ofNat 16 prod }) s) :=
  if_neg (by simp only [Bool.or_eq_true, decide_eq_true_eq]; exact not_or.mpr ⟨hd, hst⟩)

/-- What a doorbell of a receive queue does: beyond the ring depth an error, else the new entries are read. -/
theorem postRecvs_of_live {b q prod : Nat} {s : State} (hd : (s.qpAt q).rqDepth ≠ 0) (hst : (s.qpAt q).state ≠ 0) : postRecvs b q prod s =
    if (s.qpAt q).rqDepth < (BitVec.ofNat 16 prod - (s.qpAt q).rqProd).toNat then qpError q 0x03 s
    else readRing b (s.qpAt q).rqAddr.toNat (s.qpAt q).rqDepth 32 (s.qpAt q).rqProd.toNat (BitVec.ofNat 16 prod - (s.qpAt q).rqProd).toNat
      (onQp q (fun x => { x with rqProd := BitVec.ofNat 16 prod }) s) :=
  if_neg (by simp only [Bool.or_eq_true, decide_eq_true_eq]; exact not_or.mpr ⟨hd, hst⟩)

theorem postSends_of_no_ring {b q prod : Nat} {s : State} (hd : (s.qpAt q).sqDepth = 0) : postSends b q prod s = s :=
  if_pos (by simp [hd])

/-- The safe state holds the timers of a queue pair on a river port (R327). -/
theorem timersHeld_of_safe {s : State} {x : Qp} (hsafe : s.sump.safe = true) (hpath : x.path = 0) : s.timersHeld x = true := by
  simp [State.timersHeld, hsafe, hpath]

/-- A live function's send doorbell for one of its queue pairs posts to that queue pair. -/
theorem exec_rdmaSqDb_of_live {b : Fin 16} {v : BitVec 32} {s : State} {q : Nat} (hlive : s.vfLive b.val = true)
    (hq : s.dbIndex b.val v.toNat = some q) :
    exec (.rdmaSqDb b v) s = .next (rdmaSettle (postSends b.val q (v.toNat / 65536) (mmio (1 + b.val) s))) := by
  show execRdmaSqDb b v s = _
  simp [execRdmaSqDb, hlive, hq]

theorem exec_rdmaRqDb_of_live {b : Fin 16} {v : BitVec 32} {s : State} {q : Nat} (hlive : s.vfLive b.val = true)
    (hq : s.dbIndex b.val v.toNat = some q) :
    exec (.rdmaRqDb b v) s = .next (rdmaSettle (postRecvs b.val q (v.toNat / 65536) (mmio (1 + b.val) s))) := by
  show execRdmaRqDb b v s = _
  simp [execRdmaRqDb, hlive, hq]

/-- A packet for a queue pair that may take it is taken. -/
theorem deliverPkt_of_taken {p : RdmaPkt} {ok : Qp → Bool} {data : List Byte} {s : State} (hk : p.pkey = 0xFFFF) (hlo : 0x1000 ≤ p.qpn)
    (hhi : p.qpn < 0x2000) (hused : (s.qpAt (p.qpn - 0x1000)).used = true) (hok : ok (s.qpAt (p.qpn - 0x1000)) = true) :
    deliverPkt p ok data s = rdmaSettle (qpTakes (p.qpn - 0x1000) p data s) := by
  unfold deliverPkt
  dsimp only
  have hlow : ¬ p.qpn < qpnBase := Nat.not_lt.mpr hlo
  have hhigh : ¬ qpnBase + 4096 ≤ p.qpn := Nat.not_le.mpr hhi
  have hbad : (decide (p.qpn < qpnBase) || decide (qpnBase + 4096 ≤ p.qpn) || !(s.qpAt (p.qpn - qpnBase)).used
      || !ok (s.qpAt (p.qpn - qpnBase))) = false := by
    rw [decide_eq_false hlow, decide_eq_false hhigh, show (s.qpAt (p.qpn - qpnBase)).used = true from hused,
      show ok (s.qpAt (p.qpn - qpnBase)) = true from hok]
    rfl
  rw [if_neg (by simp [hk]), hbad]
  rfl

end Sys2Proof.Machine

namespace Sys2Proof
open Machine

/-- Settles O41: each doorbell, packet, timer and failure under its own conditions. -/
theorem rdmaEnginesTakeEffect : Obligations.RdmaEnginesTakeEffect := by
  unfold Obligations.RdmaEnginesTakeEffect
  refine ⟨fun b v s q hlive hq => ⟨_, _, rfl, exec_rdmaSqDb_of_live hlive hq, fun hd hst hlt => ?sqOver,
      fun hd hst hle => ?sqRead, fun hd => ?sqNone⟩,
    fun b v s q hlive hq => ⟨_, _, rfl, exec_rdmaRqDb_of_live hlive hq, fun hd hst hlt => ?rqOver, fun hd hst hle => ?rqRead⟩,
    fun b v s c hlive hc hused => ?cqDb, fun b v s hlive => ⟨?sqDead, ?rqDead, ?cqDead⟩,
    fun q wqes data s hused hst => ⟨?fetchRecv, ?fetchSend⟩, fun q e d s => ⟨?fetched, fun hst => ?flushed⟩,
    fun p bytes data s h hroce => ⟨fun hbad => ?badIcrc, fun hgood => ?river⟩,
    fun d vc bytes data s x hx => ⟨fun hused hno => ?refused, fun hor => ?fabric⟩,
    fun p ok data s => ⟨fun hk => ?pkey, fun hk hlt => ?badQpn, fun hk hlo hhi hused hok => ?takes⟩,
    fun q s hst hheld hrnr hpsn => ?timeout, fun q s => ⟨fun hle => ?spent, fun hlt => ?again⟩,
    fun q s hdue hheld => ?ack, fun q s hwait hheld => ?rnr, fun q s hsafe hpath => ⟨?heldTimeout, ?heldAck, ?heldRnr⟩,
    fun q s => ⟨fun hpos => ?echoHeld, fun hzero => ?echoHalves⟩, fun b c bytes s hused herr hfull => ?cqFull,
    fun b c bytes s herr => ?cqErr, fun e s hon => ⟨_, rfl, ?engine⟩, fun q st s hused hst => ?qpErr⟩
  case sqOver => rw [postSends_of_live hd hst, if_pos hlt]
  case sqRead => rw [postSends_of_live hd hst, if_neg (Nat.not_lt.mpr hle)]
  case sqNone => rw [postSends_of_no_ring hd]
  case rqOver => rw [postRecvs_of_live hd hst, if_pos hlt]
  case rqRead => rw [postRecvs_of_live hd hst, if_neg (Nat.not_lt.mpr hle)]
  case cqDb =>
    show execRdmaCqDb b v s = _
    simp [execRdmaCqDb, hlive, hc, hused]
  case sqDead => exact if_pos (by simp [hlive])
  case rqDead => exact if_pos (by simp [hlive])
  case cqDead => exact if_pos (by simp [hlive])
  case fetchRecv =>
    show execWorkRequestFetched q true wqes data s = _
    unfold execWorkRequestFetched
    rw [if_neg (by simp only [hused, Bool.not_true, Bool.false_or, decide_eq_true_eq]; exact hst)]
    rfl
  case fetchSend =>
    show execWorkRequestFetched q false wqes data s = _
    unfold execWorkRequestFetched
    rw [if_neg (by simp only [hused, Bool.not_true, Bool.false_or, decide_eq_true_eq]; exact hst)]
    rfl
  case fetched => rw [qpAt_onQp, if_pos rfl]
  case flushed => simp [takeSendWrs, hst]
  case badIcrc =>
    show execRdmaPacket (.river p) bytes data s = _
    simp [execRdmaPacket, riverPacket, hroce, hbad, onRdma]
  case river =>
    show execRdmaPacket (.river p) bytes data s = _
    simp [execRdmaPacket, riverPacket, hroce, hgood]
  case refused =>
    subst hx
    show execRdmaPacket (.fabric d vc) bytes data s = _
    simp [execRdmaPacket, fabricPacket, hused, hno, onFab]
  case fabric =>
    subst hx
    show execRdmaPacket (.fabric d vc) bytes data s = _
    unfold execRdmaPacket fabricPacket
    dsimp only
    rw [if_neg (by rcases hor with h | h <;> simp [h])]
  case pkey => exact if_pos hk
  case badQpn =>
    unfold deliverPkt
    dsimp only
    rw [if_neg (by simp [hk]), if_pos (by simp [qpnBase, hlt])]
    rfl
  case takes => exact deliverPkt_of_taken hk hlo hhi hused hok
  case timeout =>
    show execRdmaRetransmitTimeout q s = _
    simp [execRdmaRetransmitTimeout, hst, hheld, hrnr, hpsn]
  case spent => exact if_pos hle
  case again => exact if_neg (Nat.not_le.mpr hlt)
  case ack =>
    show execAckCoalesceTimeout q s = _
    simp [execAckCoalesceTimeout, hdue, hheld]
  case rnr =>
    show execRnrTimer q s = _
    simp [execRnrTimer, hwait, hheld]
  case heldTimeout => exact if_pos (by simp [timersHeld_of_safe hsafe hpath])
  case heldAck => exact if_pos (by simp [timersHeld_of_safe hsafe hpath])
  case heldRnr => exact if_pos (by simp [timersHeld_of_safe hsafe hpath])
  case echoHeld => exact if_pos hpos
  case echoHalves => simp [echo, hzero, qpAt_onQp, onRdma]
  case cqFull => simp [writeCqe, hused, herr, hfull]
  case cqErr => simp [writeCqe, herr]
  case engine =>
    show execRdmaEngineFail e s = _
    simp [execRdmaEngineFail, hon, engineDown, onRdma]
  case qpErr => exact if_neg (by simp only [hused, Bool.not_true, Bool.false_or, decide_eq_true_eq]; exact hst)

end Sys2Proof
end

section
/-! The ledger's commands and events (15_ledger.md). -/

namespace Sys2Proof.Machine

/-- A record that leaves slot 62 free takes the next SEQ and the next slot of the open page. -/
theorem putRecord_chainAt {b ty : Nat} {rcd : Nat → List Byte} {s : State} (h : (s.chainAt b).page.slots.length < 62) :
    ((putRecord b ty rcd s).chainAt b).nextSeq = (s.chainAt b).nextSeq + 1
      ∧ ((putRecord b ty rcd s).chainAt b).page.slots = (s.chainAt b).page.slots ++ [rcd (s.chainAt b).nextSeq] := by
  simp [putRecord, putSlot, State.chainAt, State.setChain, count,
    show ¬ 62 ≤ (Tab.look {} s.ledg.chain b).page.slots.length from Nat.not_le.mpr h]

/-- A question agrees with a stored bit. -/
theorem decide_bne_of_iff {p : Prop} [Decidable p] {b : Bool} (h : p ↔ b = true) : (decide p != b) = false := by
  cases b <;> simp_all

/-- A question disagrees with a stored bit. -/
theorem decide_bne_of_not_iff {p : Prop} [Decidable p] {b : Bool} (h : ¬ (p ↔ b = true)) : (decide p != b) = true := by
  rw [bne_iff_ne]
  exact fun he => h (by rw [← he, decide_eq_true_eq])

/-- A ledger.config whose values are in range passes the range check. -/
theorem ledgerConfig_in_range {rq : Req} (hb : rq.u8 0 < 16) (h1 : rq.u8 1 ≤ 1) (h2 : rq.u8 2 ≤ 1) (hint : rq.u32 4 ≤ 1000000) :
    ¬ (!berthOk rq 0 || decide (1 < rq.u8 1) || decide (1 < rq.u8 2) || decide (1000000 < rq.u32 4)) = true := by
  simp [berthOk, hb, h1, h2, hint]

/-- A signature that is due completes: it closes its page, or fails for the first or for the second time (R339, R348). -/
theorem exec_sealSigned_of_due {b : Fin 16} {ok : Bool} {s : State} {p : Page} (hp : (s.chainAt b.val).closed.find? Page.awaitSig = some p)
    (hprev : p.prevHash ≠ none) (hup : s.engineUp = true) (hhold : (s.chainAt b.val).signHold = false) :
    exec (.sealSigned b ok) s = .next (if ok then sealDone b.val p s
      else if (s.chainAt b.val).signFails = 0 then onChain b.val (fun c => { c with signFails := 1 }) s
      else raise 26 2 0 0 0 (some b.val) (onChain b.val (fun c => { c with signFails := 2, signHold := true, full := true }) s)) := by
  show execSealSigned b ok s = _
  unfold execSealSigned
  simp only [hp]
  rw [if_neg (by simp [hprev, hup, hhold])]
  cases ok with
  | true => rfl
  | false => exact (apply_ite Host.Outcome.next _ _ _).symm

/-- No page goes to a bay while none is ACTIVE: the first with room in the ring is staged (R342). -/
theorem pageWrite_of_no_bay {s : State} {p q : Page} (hp : firstOf s.bufferedPages = some p) (hbay : s.activeBay = none)
    (hq : firstOf (s.bufferedPages.filter (fun p => 0 < s.ringRoom p.berth && !s.ledg.stopped)) = some q) :
    execPageWrite s = .next (stagePage q s) := by
  unfold execPageWrite
  simp only [hp, hbay, Option.filter_none, ite_self, hq]

end Sys2Proof.Machine

namespace Sys2Proof
open Machine

/-- Settles O42: each command and event of the ledger under its own conditions. -/
theorem ledgerTakesEffect : Obligations.LedgerTakesEffect := by
  unfold Obligations.LedgerTakesEffect
  refine ⟨fun rq => completes_of (fun _ => rfl) fun u ⟨hb, h1, h2, hint, hok, hgap, hex, hpol⟩ => ?config,
    fun rq => completes_of (fun _ => rfl) fun u ⟨hb, h1, h2, hint, hok, hgap, hex, hpol⟩ => ?configSpan,
    fun rq => turnsAway_of (fun _ => rfl) fun u ⟨hb, h1, h2, hint, hharb, hok⟩ => ?configPerm,
    fun rq => completes_of (fun _ => rfl) fun u ⟨hal, hhi, hn, hn16, hreg, hring, hfit, hlo, hst⟩ => ?staging,
    fun rq => turnsAway_of (fun _ => rfl) fun u ⟨hal, hhi, hn, hn16, hring⟩ => ?stagingState,
    fun rq => waits_of (fun _ => rfl) fun u ⟨hb, hex, hst, hact⟩ => ?sealNow,
    fun rq => turnsAway_of (fun _ => rfl) fun u ⟨hb, hor⟩ => ?sealNowState,
    fun rq => completes_of (fun _ => rfl) fun u hb => ?status, fun rq => completes_of (fun _ => rfl) fun u _ => ?cert,
    fun b ty rcd s h => putRecord_chainAt h, fun b s hact hint hstop => ⟨fun happ => ?due, fun happ => ?up⟩,
    fun b s => ⟨fun hor => ?waits, fun hsig hroom => ?writes⟩, fun b s p h hp hup hh => ?hash,
    fun b ok s p hp hprev hup hhold => ?signed, fun e s hon => ?engine, fun s p n hp hor hbay hroom => ?write,
    fun s p q hp hbay hq => pageWrite_of_no_bay hp hbay hq, fun s p n hp hbay hup hroom hpf => ⟨?lost, ?readback⟩⟩
  case config =>
    have hperm : (!isHarbour u rq && decide (rq.u8 2 = 1) != (u.chainAt (rq.u8 0)).gapOk) = false := by
      rcases hok with h | h
      · simp [h]
      · rw [decide_bne_of_iff h, Bool.and_false]
    dsimp only
    rw [if_neg (ledgerConfig_in_range hb h1 h2 hint), hperm, if_neg Bool.false_ne_true, if_neg (by simpa using hgap), if_neg (by simp [hex]),
      decide_bne_of_iff hpol.symm]
    rfl
  case configSpan =>
    dsimp only
    rw [if_neg (ledgerConfig_in_range hb h1 h2 hint), if_neg (by simp [hok]), if_neg (by simpa using hgap), if_neg (by simp [hex]),
      decide_bne_of_not_iff fun h => hpol h.symm]
    rfl
  case configPerm =>
    dsimp only
    rw [if_neg (ledgerConfig_in_range hb h1 h2 hint), hharb, decide_bne_of_not_iff hok]
    rfl
  case staging =>
    have hlive : ¬ ((u.ddrAt (dramChannel (rq.u64 0))).st = 0 ∨ (u.ddrAt (dramChannel (rq.u64 0))).st = 7) := by omega
    have hwarm : ¬ ((u.ddrAt (dramChannel (rq.u64 0))).st = 5 ∨ (u.ddrAt (dramChannel (rq.u64 0))).st = 6) := by omega
    dsimp only
    rw [if_neg (by simp [Nat.not_le.mpr hhi, Nat.pos_iff_ne_zero.mp hn, Nat.not_lt.mpr hn16]; exact hal),
      if_neg (by simpa [hreg, hring] using hlive), if_neg (by simp [hfit]), if_neg (by simpa using hwarm)]
    rfl
  case stagingState =>
    dsimp only
    rw [if_neg (by simp [Nat.not_le.mpr hhi, Nat.pos_iff_ne_zero.mp hn, Nat.not_lt.mpr hn16]; exact hal), if_pos (by simp [hring])]
  case sealNow =>
    simp [berthOk, hb, hex, show ¬ (u.berthAt (rq.u8 0)).state = 2#2 from hst, hact]
  case sealNowState => rcases hor with h | h <;> simp [berthOk, hb, h]
  case status => simp [berthOk, hb, Chain.lastSeq]
  case cert => rfl
  case due =>
    show execSealDue b s = _
    simp [execSealDue, hact, hint, hstop, happ]
  case up =>
    show execSealDue b s = _
    simp [execSealDue, hact, hint, hstop, happ]
  case waits => exact if_pos (by simpa using hor)
  case writes => exact if_neg (by simp [hsig, hroom])
  case hash =>
    subst hh
    show execPageHashDone b s = _
    simp [execPageHashDone, hp, hup]
  case signed =>
    refine ⟨_, exec_sealSigned_of_due hp hprev hup hhold, fun h => if_pos h, fun h h0 => ?_, fun h h0 => ?_⟩
    · rw [if_neg (by simp [h]), if_pos h0]
    · rw [if_neg (by simp [h]), if_neg h0]
  case engine =>
    show execLedgEngineFail e s = _
    simp [execLedgEngineFail, hon, onLedg]
  case write =>
    show execPageWrite s = _
    simp [execPageWrite, hp, hor, hbay, hroom, Option.filter]
  case lost =>
    show execStagingReadback _ s = _
    simp [execStagingReadback, hp, hbay, hup, hroom, hpf]
  case readback =>
    show execStagingReadback _ s = _
    simp [execStagingReadback, hp, hbay, hup, hroom, hpf]

end Sys2Proof
end

section
/-! The Cistern's commands, its bays and its cartridges (16_cistern.md). -/

namespace Sys2Proof.Machine

/-- What begins to probe: the bay is PROBING, without a window and without a nonce. -/
theorem startProbe_bayAt (n : Nat) (s : State) : (startProbe n s).bayAt n = { s.bayAt n with
    st := 1, fails := [], stalls := [], window := none, nonce := none, cart := some ((s.bayAt n).cart.getD {}) } := by
  unfold startProbe
  rw [bayAt_onBay]

/-- A bay whose cartridge has gone is EMPTY. -/
theorem vacate_bayAt_st (n : Nat) (s : State) : ((vacate n s).bayAt n).st = 0 := by
  unfold vacate
  dsimp only
  rw [bayAt_onBay]

/-- A bay that can be written, is spent, or awaits its removal is none of the states that refuse a command. -/
theorem cistern_state_ok {st : Nat} (h : st = 3 ∨ st = 5 ∨ st = 6 ∨ st = 7) :
    ¬ (decide (st ≤ 2) || decide (st = 4) || decide (st = 8)) = true := by
  simp only [Bool.or_eq_true, decide_eq_true_eq]
  omega

end Sys2Proof.Machine

namespace Sys2Proof
open Machine

/-- Settles O44: each command of the Cistern under its own conditions. -/
theorem cisternCommandsTakeEffect : Obligations.CisternCommandsTakeEffect := by
  unfold Obligations.CisternCommandsTakeEffect
  refine ⟨fun rq => completes_of (fun _ => rfl) fun u _ => ?status,
    fun rq => completes_of (fun _ => rfl) fun u ⟨hshare, hwarn⟩ => ?config,
    fun rq n m => waits_of (fun _ => rfl) fun u ⟨hact, hstb⟩ => ?swap,
    fun rq => turnsAway_of (fun _ => rfl) fun u hor => ?swapState,
    fun rq => turnsAway_of (fun _ => rfl) fun u ⟨hn, hst⟩ => ?releaseState,
    fun rq => completes_of (fun _ => rfl) fun u ⟨hn, hst⟩ => ?released,
    fun rq => waits_of (fun _ => rfl) fun u ⟨hn, hst⟩ => ?releaseActive,
    fun rq => completes_of (fun _ => rfl) fun u ⟨hn, hst⟩ => ?releaseOther,
    fun rq => completes_of (fun _ => rfl) fun u ⟨hn, hst, hid⟩ => ?identity,
    fun rq => completes_of (fun _ => rfl) fun u ⟨hn, hst⟩ => ?challenge,
    fun rq => turnsAway_of (fun _ => rfl) fun u ⟨hn, hst⟩ => ?challengeFault,
    fun rq => completes_of (fun _ => rfl) fun u ⟨hn, hst, hvalid⟩ => ?retire,
    fun rq hw => turnsAway_of (fun _ => rfl) fun u ⟨hn, hst⟩ => ?retireState, fun nonce ident buf => ?valid,
    fun rq => completes_of (fun _ => rfl) fun u ⟨hn, hone, hlba, hst⟩ => ?read⟩
  case status => rfl
  case config =>
    dsimp only
    rw [if_neg (by simp; omega)]
    rfl
  case swap => simp [hact, hstb, onCist]
  case swapState =>
    rcases hor with h | h
    · simp [h]
    · cases ha : u.activeBay <;> simp [h]
  case releaseState => simp [Nat.not_lt.mpr hn, hst]
  case released => simp [Nat.not_lt.mpr hn, hst]
  case releaseActive => simp [Nat.not_lt.mpr hn, hst]
  case releaseOther =>
    dsimp only
    rw [if_neg (Nat.not_lt.mpr hn), if_neg (by simp; omega), if_neg (by omega), if_neg (by omega)]
  case identity => simp [Nat.not_lt.mpr hn, hst, hid]
  case challenge => simp [Nat.not_lt.mpr hn, Nat.not_le.mpr hst]
  case challengeFault => simp [Nat.not_lt.mpr hn, Nat.not_le.mpr hst]
  case retire =>
    dsimp only
    rw [if_neg (Nat.not_lt.mpr hn), if_neg (cistern_state_ok hst), hvalid]
    rfl
  case retireState => simp [Nat.not_lt.mpr hn, hst]
  case valid => simp [retireValid, and_assoc]
  case read => simp [Nat.not_lt.mpr hn, hone, Nat.not_le.mpr hlba, Nat.not_le.mpr hst]

/-- Settles O45: each event of the bays and of the cartridges under its own conditions. -/
theorem cisternEventsTakeEffect : Obligations.CisternEventsTakeEffect := by
  unfold Obligations.CisternEventsTakeEffect
  refine ⟨fun n i s a ha => ⟨?append, ?appendFails⟩, fun n a s => ⟨_, _, rfl, rfl, rfl⟩,
    fun n s => ⟨fun h => ?reissue, fun h => ?noReissue⟩,
    fun n s recent u hout hrec hu => ⟨fun hfew => ?stall, fun hmany => ⟨_, rfl, ?violation⟩⟩, fun n s h0 h2 h8 => ?admin,
    fun n ident s hm => ⟨?life, ?media, ?async⟩, fun s us u hwait hus hu hne hm => ?share, fun s u hwait h0 h1 hu hw => ?openWindow,
    fun n s => rfl, fun n s u hp hu => ?insert, fun n s => by rw [startProbe_bayAt]; exact ⟨rfl, rfl, rfl⟩,
    fun n res s u hst hu => ?probed, fun n step s => rfl, fun used s => ⟨fun h => ?full, fun h ha => ?standby, fun h ha => ?active⟩,
    fun n s hst => ?linkTimeout, fun n s hp => ?remove, fun n s hp => ?absent, fun n s hp hst => ?linkLoss,
    fun n s u hu => ⟨fun hst => ?openActive, fun hst => ?openOther, fun hst => ?openNone⟩,
    fun n s u hu => ⟨fun hst => ?closeReleased, fun hst => ?closeOther⟩⟩
  case append =>
    show execZoneAppendComplete n i true s = _
    simp [execZoneAppendComplete, ha]
  case appendFails =>
    show execZoneAppendComplete n i false s = _
    simp [execZoneAppendComplete, ha]
  case reissue =>
    show execSwitchReissue n s = _
    simp [execSwitchReissue, Option.isSome_iff_ne_none, h]
  case noReissue =>
    show execSwitchReissue n s = _
    simp [execSwitchReissue, h]
  case stall =>
    subst hrec hu
    show execAppendStall n s = _
    unfold execAppendStall
    dsimp only
    rw [if_neg hout, if_pos hfew]
  case violation =>
    subst hrec hu
    show execAppendStall n s = _
    unfold execAppendStall
    dsimp only
    rw [if_neg hout, if_neg (Nat.not_lt.mpr hmany)]
    rfl
  case admin =>
    show execAdminTimeout n s = _
    simp [execAdminTimeout, faultBay, h0, h2, h8, cistEvent]
  case life =>
    show execLifeRead n ident s = _
    simp [execLifeRead, hm]
  case media =>
    show execAsyncEvent n true ident s = _
    simp [execAsyncEvent, hm]
  case async =>
    show execAsyncEvent n false ident s = _
    simp [execAsyncEvent, hm]
  case share =>
    subst hus hu
    show execHkPeriod s = _
    unfold execHkPeriod
    dsimp only [List.foldl_cons, List.foldl_nil]
    rw [if_pos hwait, if_neg (by simp only [Bool.or_eq_true, decide_eq_true_eq, Bool.not_eq_true']; rintro (h | h); exacts [hne h, by simp_all])]
  case openWindow =>
    subst hu
    show execHkPeriod s = _
    unfold execHkPeriod
    dsimp only [List.foldl_cons, List.foldl_nil]
    have hclosed : ¬ (s.bayAt 0).window = some 0xFFFFFFFF := by simp [h0]
    have hfirst : (if (s.bayAt 0).window = some 0xFFFFFFFF then s else grantWindow 0xFFFFFFFF 0 s) = grantWindow 0xFFFFFFFF 0 s := if_neg hclosed
    have hleft : ¬ ((grantWindow 0xFFFFFFFF 0 s).bayAt 1).window = some 0xFFFFFFFF := by simp [hw]
    rw [hwait, if_neg Bool.false_ne_true, hfirst, if_neg hleft]
  case insert =>
    subst hu
    exact if_neg (by simp [hp])
  case probed =>
    subst hu
    show execProbeComplete n res s = _
    unfold execProbeComplete
    rw [if_neg (by simp [hst])]
    dsimp only
    cases probeFails res (s.freeRun 16) <;> rfl
  case full => exact if_pos h
  case standby => exact (if_neg (Nat.not_le.mpr h)).trans (if_pos ha)
  case active => exact (if_neg (Nat.not_le.mpr h)).trans (if_neg (by simp [ha]))
  case linkTimeout =>
    show execProbeLinkTimeout n s = _
    simp [execProbeLinkTimeout, hst]
  case remove =>
    refine ⟨_, if_neg (by simp [hp]), ?_⟩
    rw [bayAt_onBay]
    exact ⟨vacate_bayAt_st n.val s, rfl⟩
  case absent => exact if_pos (by simp [hp])
  case linkLoss =>
    refine ⟨_, congrArg Host.Outcome.next (if_neg (by simp [hp, hst])), rfl, ?_⟩
    rw [startProbe_bayAt]
  case openActive =>
    subst hu
    exact if_pos hst
  case openOther =>
    subst hu
    show execLatchOpen n s = _
    unfold execLatchOpen
    dsimp only
    rw [if_neg (by omega), if_pos (by simpa [or_assoc] using hst)]
  case openNone =>
    subst hu
    show execLatchOpen n s = _
    unfold execLatchOpen
    dsimp only
    rw [if_neg (by omega), if_neg (by simp; omega)]
  case closeReleased =>
    subst hu
    exact congrArg Host.Outcome.next (if_pos hst)
  case closeOther =>
    subst hu
    exact congrArg Host.Outcome.next (if_neg hst)

end Sys2Proof
end

section
/-! The RDMA commands (14_remote_memory.md Table 14.9). -/

namespace Sys2Proof.Machine

/-- No element meets a question that each of them fails. -/
theorem any_eq_false_of_forall {α : Type} {l : List α} {p : α → Bool} (h : ∀ x ∈ l, p x = false) : l.any p = false := by
  rw [List.any_eq_false]
  exact fun x hx => by simp [h x hx]

/-- A queue pair that moves up does so by one state (Table 14.9). -/
theorem transitionOk_up {cur dest : Nat} (hlo : 1 ≤ dest) (hhi : dest ≤ 3) (hne : cur + 1 ≠ dest) : transitionOk cur dest = false := by
  simp [transitionOk]
  omega

/-- The transitions of Table 14.9. -/
theorem transitionOk_of_step {cur dest : Nat} (hdest : dest ≤ 4) (h : dest = 0 ∨ dest = 4 ∨ cur + 1 = dest) : transitionOk cur dest = true := by
  simp [transitionOk]
  omega

end Sys2Proof.Machine

namespace Sys2Proof
open Machine

/-- Settles O40: each RDMA command under its own conditions. -/
theorem rdmaCommandsTakeEffect : Obligations.RdmaCommandsTakeEffect := by
  unfold Obligations.RdmaCommandsTakeEffect
  refine ⟨fun rq new => completes_of (fun _ => rfl) fun u ⟨hb, hnew, hn, hend, hmr, hex, hkeep, hqp, hmrb⟩ => ?quota,
    fun rq => turnsAway_of (fun _ => rfl) fun u ⟨hb, hn, hend, hmr, hex, e, he, hused, hbe, hout⟩ => ?quotaState,
    fun rq i => completes_of (fun _ => rfl) fun u ⟨hb, hlo, hhi, hi, hie⟩ => ?reg,
    fun rq => turnsAway_of (fun _ => rfl) fun u hlen => ?regLen,
    fun rq i => completes_of (fun _ => rfl) fun u ⟨hb, hie, hlo, hhi, hval, hkey⟩ => ?dereg,
    fun rq c => completes_of (fun _ => rfl) fun u ⟨hc, hd, hal, hfree⟩ => ?cqCreate,
    fun rq c => turnsAway_of (fun _ => rfl) fun u ⟨hc, hd, hal, hused⟩ => ?cqInUse,
    fun rq c => completes_of (fun _ => rfl) fun u ⟨hc, hused, hnone⟩ => ?cqDestroy,
    fun rq c => turnsAway_of (fun _ => rfl) fun u ⟨hc, e, he, hused, hqp⟩ => ?cqHeld,
    fun rq q => completes_of (fun _ => rfl) fun u ⟨hq, hpath, hsq, hrq, hord, hsa, hra, hscq, hrcq, hharb, hfree, hs, hr⟩ => ?qpCreate,
    fun rq q => turnsAway_of (fun _ => rfl) fun u ⟨hq, hpath, hsq, hrq, hord, hsa, hra, hscq, hrcq, hharb⟩ => ?qpOrder,
    fun rq q => completes_of (fun _ => rfl) fun u ⟨hq, hdest, hmod, hused, htr, hpath⟩ => ?modify,
    fun rq q => turnsAway_of (fun _ => rfl) fun u ⟨hq, hmod, hlo, hhi, hne⟩ => ?modifyState,
    fun rq q => turnsAway_of (fun _ => rfl) fun u ⟨hq, hdest, hmod, hused, hst, heng, hpath⟩ => ?modifyPerm,
    fun x rq => ⟨rfl, rfl⟩, fun rq q => completes_of (fun _ => rfl) fun u ⟨hq, hused⟩ => ?query,
    fun rq q => completes_of (fun _ => rfl) fun u ⟨hq, hused, hst⟩ => ?destroy,
    fun rq q => turnsAway_of (fun _ => rfl) fun u ⟨hq, h0, h4⟩ => ?destroyState,
    fun rq => completes_of (fun _ => rfl) fun u _ => rfl⟩
  case quota =>
    subst hnew
    have hin : (u.rdma.qp.any fun e => e.2.used && e.2.berth == rq.u8 0
        && !(decide (rq.u16 2 ≤ e.1) && decide (e.1 < rq.u16 2 + rq.u16 4))) = false :=
      any_eq_false_of_forall fun e he => by
        by_cases h : e.2.used = true ∧ e.2.berth = rq.u8 0
        · simp [hkeep e he h.1 h.2]
        · simp only [Bool.and_eq_false_iff, beq_eq_false_iff_ne]
          exact Or.inl (by by_cases hu : e.2.used = true <;> simp_all)
    dsimp only at hn hend hmr ⊢
    rw [if_neg (by simp [berthOk, hb]; omega), hex, hin, if_neg (by decide), if_neg (by
      rw [any_eq_false_of_forall hqp, any_eq_false_of_forall hmrb]; decide)]
  case quotaState =>
    have hany : (u.rdma.qp.any fun e => e.2.used && e.2.berth == rq.u8 0
        && !(decide (rq.u16 2 ≤ e.1) && decide (e.1 < rq.u16 2 + rq.u16 4))) = true :=
      List.any_eq_true.mpr ⟨e, he, by simp [hused, hbe]; omega⟩
    dsimp only
    rw [if_neg (by simp [berthOk, hb]; omega), hany, Bool.or_true, if_pos rfl]
  case reg =>
    subst hie
    dsimp only
    rw [if_neg (by simp [berthOk, hb]; omega), if_neg (by omega), if_neg (Nat.not_le.mpr hi)]
    rfl
  case regLen => exact if_pos (by simpa [or_assoc] using Or.inr hlen)
  case dereg =>
    subst hie
    simp [berthOk, hb, Nat.not_lt.mpr hlo, Nat.not_le.mpr hhi, hval, hkey, onRdma]
  case cqCreate => simp [hc, hd, hal, hfree, onCq, onRdma]
  case cqInUse => simp [hc, hd, hal, hused]
  case cqDestroy =>
    have hany : (u.rdma.qp.any fun e => e.2.used && (e.2.sqCq == c || e.2.rqCq == c)) = false := any_eq_false_of_forall fun e he => by
      by_cases h : e.2.used = true
      · simp [hnone e he h]
      · simp [h]
    simp only [hc, hused, hany]
    rfl
  case cqHeld =>
    have hany : (u.rdma.qp.any fun e => e.2.used && (e.2.sqCq == c || e.2.rqCq == c)) = true :=
      List.any_eq_true.mpr ⟨e, he, by simpa [hused] using hqp⟩
    simp only [hc, hany, Bool.or_true, if_true]
  case qpCreate =>
    simp [hq, Nat.not_lt.mpr hpath, hsq, hrq, Nat.not_lt.mpr hord, hsa, hra, Nat.not_le.mpr hscq, Nat.not_le.mpr hrcq, hfree, hs, hr]
    exact hharb
  case qpOrder => simp [hq, Nat.not_lt.mpr hpath, hsq, hrq, hord, hsa, hra, Nat.not_le.mpr hscq, Nat.not_le.mpr hrcq, hharb]
  case modify =>
    simp only [hq]
    have heng : (!u.rdmaEngine q && decide (1 ≤ rq.u8 4) && decide (rq.u8 4 ≤ 3)) = false := by
      rcases htr with h | h | ⟨_, h⟩ <;> simp [h]
    rw [if_neg (by simp [hmod]; omega), transitionOk_of_step hdest (by tauto), hused, heng, if_neg (by decide), if_neg (by simpa using hpath)]
  case modifyState =>
    simp only [hq]
    rw [if_neg (by simp [hmod]; omega), if_pos (by rw [transitionOk_up hlo hhi hne]; simp)]
  case modifyPerm =>
    simp [hq, hdest, hmod, hused, hst, heng, hpath, transitionOk]
  case query => simp [hq, hused]
  case destroy =>
    have hdead : ((u.qpAt q).used && (decide ((u.qpAt q).state = 0) || decide ((u.qpAt q).state = 4))) = true := by
      rw [hused, Bool.true_and, Bool.or_eq_true, decide_eq_true_eq, decide_eq_true_eq]
      exact hst
    simp only [hq]
    rw [if_pos hdead]
    rfl
  case destroyState =>
    simp only [hq]
    rw [decide_eq_false h0, decide_eq_false h4, Bool.or_false, Bool.and_false, if_neg Bool.false_ne_true]

end Sys2Proof
end

section
/-! The witness exchange (11_crossings.md R263, R264). -/

namespace Sys2Proof.Machine

/-- The state in which a round has been opened on a link: the round still open is missed. -/
def roundOpened (k : Nat) (s : State) : State :=
  onXl k (fun x => { x with round := x.round + 1, witOpen := true, witBroken := false, witT1 := 0, witEpoch := s.tide.epoch })
    (if (s.xlAt k).witOpen then missRound k s else s)

theorem exec_witnessRound_of_up {k : Fin 8} {ph : Fin 32} {s : State} (h : (s.xlAt k.val).isUp = true) : exec (.witnessRound k ph) s =
    .next (sendByp k.val ([1, ((roundOpened k.val s).xlAt k.val).round, 0, 0] ++ leBytes 4 s.tide.word.toNat) (roundOpened k.val s)) :=
  if_neg (by simp [h])

/-- A round that opens counts the one it finds open as missed, and no other. -/
theorem roundOpened_xlAt (k : Nat) (s : State) : ((roundOpened k s).xlAt k).round = (s.xlAt k).round + 1
    ∧ ((roundOpened k s).xlAt k).witOpen = true ∧ ((roundOpened k s).xlAt k).witEpoch = s.tide.epoch
    ∧ ((roundOpened k s).xlAt k).witMissed = if (s.xlAt k).witOpen then bump (s.xlAt k).witMissed else (s.xlAt k).witMissed := by
  unfold roundOpened missRound
  rw [xlAt_onXl, if_pos rfl]
  cases (s.xlAt k).witOpen <;> simp [xlAt_onXl]

end Sys2Proof.Machine

namespace Sys2Proof
open Machine

/-- Settles O43: a round, a request, an answer and a miss, and the judging of an offset. -/
theorem witnessTakesEffect : Obligations.WitnessTakesEffect := by
  unfold Obligations.WitnessTakesEffect
  refine ⟨fun k ph s h => ⟨_, exec_witnessRound_of_up h, roundOpened_xlAt k.val s⟩, fun k ph s h => if_pos (by simp [h]),
    fun k bytes ph s h => if_neg (by simp [h]), fun k bytes ph s x t4 θ hc ho hx hr he hb ht hθ => ?answer,
    fun k bytes ph s hc ho hor => ?miss, fun k s h => if_pos h, fun k s h => if_neg (by simp [h]),
    fun k θ s hexc hdis hrun => ?raised, fun k θ s hin hdis hrun => ?cleared, fun k θ s hexc hrun => ?counted⟩
  case answer =>
    subst hx ht hθ
    show execWResp k bytes ph s = _
    unfold execWResp
    dsimp only
    rw [if_neg (by simp [hc, ho]), if_neg (by simp [hr, he, hb])]
  case miss =>
    show execWResp k bytes ph s = _
    unfold execWResp
    dsimp only
    rw [if_neg (by simp [hc, ho]), if_pos (by simpa [or_assoc] using hor)]
    rfl
  case raised => simp [judgeOffset, hexc, hdis, hrun]
  case cleared => simp [judgeOffset, Nat.not_lt.mpr hin, hdis, hrun]
  case counted => simp [judgeOffset, hexc, Nat.not_le.mpr hrun]

end Sys2Proof
end

section
/-! A frame arrives (01_order_path.md, 05_pumps.md R114, R115, 08_ferry_reservoir.md R186 to R191). -/

namespace Sys2Proof.Machine

/-- What a frame that is given a context holds: its engine, and unless it is parsed again its berth's settings of that instant. -/
theorem giveContext_frameAt (f e : Nat) (s : State) : (giveContext f e s).frameAt f =
    if (s.frameAt f).reparsed then { s.frameAt f with engine := some e }
    else { s.frameAt f with engine := some e, profEnable := (s.pumpB (s.frameAt f).berth).enable, profEntry := (s.pumpB (s.frameAt f).berth).entry,
                            actions := (s.pumpB (s.frameAt f).berth).action, mirror := (s.pumpB (s.frameAt f).berth).mirror } :=
  (frameAt_onFrame _ _ _ _).trans (if_pos rfl)

/-- An engine that is given a frame has it in one context more. -/
theorem giveContext_engineAt (f e : Nat) (s : State) : ((giveContext f e s).engineAt e).ctx = (s.engineAt e).ctx ++ [f] := by
  show ((onEngine e (fun x => { x with ctx := x.ctx ++ [f] }) s).engineAt e).ctx = _
  rw [engineAt_onEngine, if_pos rfl]

theorem dispatchHeader_of_engine {f e : Nat} {s : State} (h : s.chooseEngine = some e) : dispatchHeader f s = giveContext f e s := by
  unfold dispatchHeader
  rw [h]

/-- The frame that a start-of-frame on a river port of a berth begins. -/
def startedFrame (p b : Nat) (bytes : List Byte) (phase : Nat) (s : State) : Frame := {
  src := .port p, berth := b, bytes := bytes, rate := s.portRate p, pclass := pcpOf bytes,
  ts := s.ingressStamp p phase, sync := s.tide.word, tfcFail := s.timeFails b, latBound := s.guard.latBound,
  ptpEvent := frameIsPtpEvent bytes }

/-- A frame begins under an engine with a free context. -/
theorem beginFrame_of_engine {p b e : Nat} {bytes : List Byte} {phase : Nat} {s : State} (h : s.chooseEngine = some e) :
    beginFrame p b bytes phase s
      = giveContext s.nextFrame e ({ s with nextFrame := s.nextFrame + 1 }.setFrame s.nextFrame (startedFrame p b bytes phase s)) :=
  dispatchHeader_of_engine h

/-- A frame that has begun holds its engine and its berth's actions. -/
theorem startedFrame_given {p b e : Nat} {bytes : List Byte} {phase : Nat} {s u : State}
    (hu : u = { s with nextFrame := s.nextFrame + 1 }.setFrame s.nextFrame (startedFrame p b bytes phase s)) :
    (giveContext s.nextFrame e u).frameAt s.nextFrame = { startedFrame p b bytes phase s with
      engine := some e, profEnable := (s.pumpB b).enable, profEntry := (s.pumpB b).entry, actions := (s.pumpB b).action,
      mirror := (s.pumpB b).mirror } := by
  have hf : u.frameAt s.nextFrame = startedFrame p b bytes phase s := by rw [hu, frameAt_setFrame, if_pos rfl]
  rw [giveContext_frameAt, hf, hu]
  rfl

/-- A frame of no berth is counted at its port, and nothing else of it is kept (09_berths.md R211). -/
theorem exec_frameStart_of_no_berth {p : Fin 64} {bytes : List Byte} {ph : Fin 32} {s : State} (hne : bytes ≠ []) (hrx : s.receives p.val = true)
    (hty : fieldBe bytes 12 2 ≠ 0x8808) (hb : s.frameBerth p.val (outerVlan bytes) = none) : exec (.frameStart p bytes ph) s =
    .next (countRx p.val (min maxFrame bytes.length) (decide (maxFrame < bytes.length) || !fcsGood bytes) (bytes.length < 64)
      (decide (maxFrame < bytes.length)) { s with glb := { s.glb with noBerthDrop := bump s.glb.noBerthDrop } }) := by
  show execFrameStart p bytes ph s = _
  unfold execFrameStart
  rw [if_neg (by simp [hne, hrx, hty]), hb]

/-- A frame at the ferry gate, whose lookup has not been made and whose place is still open (R23). -/
def State.atGate (s : State) (f : Nat) : Prop :=
  s.hasFrame f = true ∧ (s.frameAt f).isRiver = true ∧ (s.frameAt f).lookedUp = false
    ∧ (s.frameAt f).routed = false ∧ (s.frameAt f).closed = false

/-- The state in which a lookup has been made, counted at index ix. -/
def gateLookedUp (f ix : Nat) (lset : Option (Nat × Nat)) (s : State) : State :=
  count 0x0042 { frameOcc (s.frameAt f).inPort (s.frameAt f).berth none with addr := some (1, 8, ix) } 1
    (onFrame f (fun y => { y with lookedUp := true, lset := lset }) s)

/-- The state in which a launch has been made: the frame joins the ferry lane of its launch set's egress port. -/
def gateLaunched (f eg tc : Nat) (wait : Bool) (x : Frame) (s : State) : State :=
  count 0x0012 (frameOcc x.inPort x.berth (some tc)) 1 (onEgress eg (fun g => { g with fifo := g.fifo ++ [f] })
    (onFrame f (fun y => { y with launched := true, queued := y.queued ++ [ferrySource], ferryWait := wait }) s))

/-- A lookup that finds no entry, and none that an error took: the frame takes the reservoir path. -/
theorem exec_launchLookup_of_no_set {f : Nat} {s : State} (hgate : s.atGate f)
    (hset : s.launchSet (s.frameAt f).berth (s.frameAt f).inPort ((s.frameAt f).bytes.take 6) = [])
    (hbrk : s.launchBroken (s.frameAt f).berth (s.frameAt f).inPort ((s.frameAt f).bytes.take 6) = false) :
    exec (.launchLookup f .ok) s = .next (toReservoir f (gateLookedUp f (s.rsvB (s.frameAt f).berth).fbase none s)) := by
  obtain ⟨hf, hriv, hlk, hrt, hcl⟩ := hgate
  show execLaunchLookup f .ok s = _
  unfold execLaunchLookup
  dsimp only
  rw [if_neg (by simp [hf, hriv, hlk, hrt, hcl]), hset, hbrk]
  rfl

/-- A lookup whose first entry may be launched on: the frame is launched. -/
theorem exec_launchLookup_of_launch {f i : Nat} {rest : List Nat} {s : State} (hgate : s.atGate f)
    (hset : s.launchSet (s.frameAt f).berth (s.frameAt f).inPort ((s.frameAt f).bytes.take 6) = i :: rest)
    (hmay : s.mayLaunch f (Tab.look {} s.rsv.ferry i).egPort.toNat (Tab.look {} s.rsv.ferry i).tc.toNat = true) :
    ∃ wait, exec (.launchLookup f .ok) s = .next (gateLaunched f (Tab.look {} s.rsv.ferry i).egPort.toNat
      (Tab.look {} s.rsv.ferry i).tc.toNat wait (s.frameAt f)
      (gateLookedUp f i (some ((Tab.look {} s.rsv.ferry i).egPort.toNat, (Tab.look {} s.rsv.ferry i).tc.toNat)) s)) := by
  obtain ⟨hf, hriv, hlk, hrt, hcl⟩ := hgate
  refine ⟨(s.egressAt (Tab.look {} s.rsv.ferry i).egPort.toNat).busy.isSome
    || (s.egressAt (Tab.look {} s.rsv.ferry i).egPort.toNat).fifo ≠ [], ?_⟩
  show execLaunchLookup f .ok s = _
  unfold execLaunchLookup
  dsimp only
  rw [if_neg (by simp [hf, hriv, hlk, hrt, hcl]), hset]
  rw [if_neg (by simp), if_neg (by
    rw [Bool.not_eq_true', Bool.not_eq_false]
    exact hmay)]
  rfl

theorem gateLaunched_frameAt (f eg tc : Nat) (wait : Bool) (x : Frame) (s : State) : (gateLaunched f eg tc wait x s).frameAt f =
    { s.frameAt f with launched := true, queued := (s.frameAt f).queued ++ [ferrySource], ferryWait := wait } := by
  show (onFrame f (fun y => { y with launched := true, queued := y.queued ++ [ferrySource], ferryWait := wait }) s).frameAt f = _
  rw [frameAt_onFrame, if_pos rfl]

theorem gateLaunched_egressAt (f eg tc : Nat) (wait : Bool) (x : Frame) (s : State) :
    ((gateLaunched f eg tc wait x s).egressAt eg).fifo = (s.egressAt eg).fifo ++ [f] := by
  show ((onEgress eg (fun g => { g with fifo := g.fifo ++ [f] }) _).egressAt eg).fifo = _
  rw [egressAt_onEgress, if_pos rfl]
  rfl

theorem gateLookedUp_frameAt (f ix : Nat) (lset : Option (Nat × Nat)) (s : State) :
    (gateLookedUp f ix lset s).frameAt f = { s.frameAt f with lookedUp := true, lset := lset } := by
  show (onFrame f (fun y => { y with lookedUp := true, lset := lset }) s).frameAt f = _
  rw [frameAt_onFrame, if_pos rfl]

/-- A frame that still has its copy takes the reservoir path as it stands. -/
theorem toReservoir_of_copy {f : Nat} {s : State} (h : (s.frameAt f).copyLost = false) : toReservoir f s = s := if_neg (by simp [h])

end Sys2Proof.Machine

namespace Sys2Proof
open Machine

/-- Settles O25: each stage of a frame's arrival under its own conditions. -/
theorem frameArrivalTakesEffect : Obligations.FrameArrivalTakesEffect := by
  unfold Obligations.FrameArrivalTakesEffect
  refine ⟨fun p bytes ph s b e hne hrx hty hb he => ?start, fun f s he hroom => ?hold, fun p bytes ph s hne hrx hty hb => ?noBerth,
    fun s f rest e hh he => ?dispatch, fun f s u hf hend hcells hcl hcopy htake => ?cell,
    fun f s hf hriv hlk hrt hcl hcopy hset hbrk => ?noSet, fun f s i rest hf hriv hlk hrt hcl hset hmay => ?launch,
    fun f s hf hset hconf => ?confirm, fun f s hf hriv hend hlen => ?cut, fun f corr uncorr s hf hriv hend hlen => ?ended,
    fun p len bad runt long s => ?counts⟩
  case start =>
    have hx : exec (.frameStart p bytes ph) s = .next (beginFrame p.val b bytes ph.val s) := by
      show execFrameStart p bytes ph s = _
      unfold execFrameStart
      rw [if_neg (by simp [hne, hrx, hty]), hb]
    rw [beginFrame_of_engine he] at hx
    have hframe := startedFrame_given (p := p.val) (b := b) (e := e) (bytes := bytes) (phase := ph.val) (s := s) rfl
    exact ⟨_, hx, rfl, congrArg Frame.src hframe, congrArg Frame.berth hframe, congrArg Frame.bytes hframe, congrArg Frame.ts hframe,
      congrArg Frame.sync hframe, congrArg Frame.engine hframe, congrArg Frame.actions hframe, giveContext_engineAt _ _ _,
      beginFrame_of_engine he ▸ changesOnly_of_covers (M := 16842976) (beginFrame_view rfl p.val b bytes ph.val s) rfl⟩
  case hold =>
    unfold dispatchHeader
    rw [he]
    exact if_pos hroom
  case noBerth =>
    refine ⟨_, exec_frameStart_of_no_berth hne hrx hty hb, rfl, rfl, ?_⟩
    unfold countRx
    rw [portAt_onPort, if_pos rfl]
    rfl
  case dispatch =>
    show execHoldingBufferDispatch s = _
    simp [execHoldingBufferDispatch, hh, he, onPump]
  case cell =>
    show execCellAllocate f s = _
    unfold execCellAllocate
    rw [if_neg (by simp [hf, hend]; omega)]
    unfold growTo
    rw [if_neg (by simp [hcl, hcopy]), htake]
    rfl
  case noSet =>
    rw [exec_launchLookup_of_no_set ⟨hf, hriv, hlk, hrt, hcl⟩ hset hbrk, toReservoir_of_copy (by rw [gateLookedUp_frameAt]; exact hcopy)]
    rfl
  case launch =>
    obtain ⟨wait, hx⟩ := exec_launchLookup_of_launch ⟨hf, hriv, hlk, hrt, hcl⟩ hset hmay
    refine ⟨_, hx, ?_, ?_, ?_, gateLaunched_egressAt _ _ _ _ _ _⟩
    all_goals rw [gateLaunched_frameAt, gateLookedUp_frameAt]
  case confirm => exact if_neg (by simp [hf, Option.isSome_iff_ne_none.mp hset, hconf])
  case cut => exact if_neg (by simp [hf, hriv, hend, maxFrame, Nat.not_le.mpr hlen])
  case ended =>
    show execIngressFrameEnd f corr uncorr s = _
    unfold execIngressFrameEnd
    dsimp only
    have hfec : (if (s.hasFrame f && (s.frameAt f).isRiver && !(s.frameAt f).ended) = true then countFec (s.frameAt f).inPort corr uncorr s else s)
        = countFec (s.frameAt f).inPort corr uncorr s := if_pos (by simp [hf, hriv, hend])
    have hstill : (countFec (s.frameAt f).inPort corr uncorr s).hasFrame f = true := hf
    rw [hfec, if_neg (by simp [hstill, hriv, hend])]
    exact if_neg (Nat.not_lt.mpr hlen)
  case counts =>
    unfold countRx
    rw [portAt_onPort, if_pos rfl]
    exact ⟨rfl, rfl, rfl⟩

end Sys2Proof
end

section
/-! A frame is parsed, strained and judged (05_pumps.md R116, R127, 06_strainer.md R147, R148, 10_weir_windlass.md R234 to R237). -/

namespace Sys2Proof.Machine

theorem countParse_engine (f : Nat) (r : Parsed) (s : State) : (countParse f r s).pump.engine = s.pump.engine := by
  unfold countParse
  dsimp only
  split <;> rfl

theorem storeFrag_engine (f : Nat) (h : FragHdr) (s : State) : (storeFrag f h s).pump.engine = s.pump.engine := by
  unfold storeFrag
  dsimp only
  split
  · rfl
  · split <;> rfl

theorem verdictArrives_pump (f v reason : Nat) (upd : Option Updates) (create : Option Nat) (s : State) :
    (verdictArrives f v reason upd create s).pump = s.pump := same_pump (verdictArrives_view (M := 17392733480) rfl f v reason upd create s) rfl

/-- A fragment's commit changes the fragment table of the pumps and leaves their engines alone. -/
theorem commitFrag_engine (f : Nat) (r : Parsed) (s : State) : (commitFrag f r s).pump.engine = s.pump.engine := by
  unfold commitFrag
  dsimp only
  split
  · rfl
  · rename_i h hfrag
    split
    · split
      · exact storeFrag_engine f h s
      · rfl
    · generalize hs1 : (if h.more = true then s else match s.findFrag h (s.frameAt f).berth with
        | some k => onPump (fun p => { p with frag := Tab.del p.frag k }) s
        | none => s) = s1
      have he : s1.pump.engine = s.pump.engine := by
        rw [← hs1]
        split
        · rfl
        · split <;> rfl
      split
      · exact he
      · split
        · exact he
        · exact (congrArg Pump.engine (verdictArrives_pump _ _ _ _ _ _)).trans he

/-- A commit takes the frame out of its engine's contexts. -/
theorem commit_engineAt (f e : Nat) (r : Parsed) (s : State) : ((commit f e r s).engineAt e).ctx = (s.engineAt e).ctx.erase f := by
  have hpump : (commit f e r s).pump.engine = (onEngine e (fun x => { x with ctx := x.ctx.erase f }) s).pump.engine :=
    (congrArg Pump.engine (same_pump (finalize_view (M := 17391681824) rfl f _) rfl)).trans ((commitFrag_engine f r _).trans
      ((congrArg Pump.engine (same_pump (reserveFor_view (M := 17247174688) rfl f _) rfl)).trans (countParse_engine f r _)))
  show (Tab.look {} (commit f e r s).pump.engine e).ctx = _
  rw [hpump]
  show ((onEngine e (fun x => { x with ctx := x.ctx.erase f }) s).engineAt e).ctx = _
  rw [engineAt_onEngine, if_pos rfl]

/-- A key that no entry of the range matches. -/
theorem strnLookup_of_none {b : Nat} {key : List Byte} {fr : Option Nat} {s : State} (h : s.matchesFrom b 0 key = []) :
    strnLookup b key fr s = (countStrn b 0 false false s,
      strnWord 0 (s.strnB b).onNoMatch.toNat 0 0 false false (s.strnErr b (byteAt key 40 % 64))) := by
  unfold strnLookup
  simp only [h]

/-- A key that one entry of the range matches. -/
theorem strnLookup_of_one {b i : Nat} {key : List Byte} {fr : Option Nat} {s : State} (h : s.matchesFrom b 0 key = [i]) :
    strnLookup b key fr s = (countStrn b i true false s,
      strnWord i ((s.ruleAt i).result.toNat % 16) 0 ((s.ruleAt i).result.toNat / 65536) true false (s.strnErr b (byteAt key 40 % 64))) := by
  unfold strnLookup
  simp only [h]
  rfl

theorem freeCtx_ctxAt (k : Nat) (s : State) : (freeCtx k s).ctxAt k = { seq := (s.ctxAt k).seq % 63 + 1 } := by
  simp only [freeCtx, State.ctxAt, Tab.look_upd, if_true]

/-- A live match context that ages is freed, and the frame that holds it gives it up. -/
theorem exec_handleAgeExpiry_of_live {b : Fin 16} {slot : Fin 64} {s : State} (h : (s.ctxAt (64 * b.val + slot.val)).live = true) :
    ∃ t, exec (.handleAgeExpiry b slot) s = .next t
      ∧ t.ctxAt (64 * b.val + slot.val) = (freeCtx (64 * b.val + slot.val) s).ctxAt (64 * b.val + slot.val) := by
  have hx : exec (.handleAgeExpiry b slot) s = _ := if_neg (by simp [h])
  cases hf : (s.ctxAt (64 * b.val + slot.val)).frame with
  | none => exact ⟨_, by rw [hx, hf], rfl⟩
  | some f =>
    refine ⟨_, by rw [hx, hf], ?_⟩
    rfl

end Sys2Proof.Machine

namespace Sys2Proof
open Machine

/-- Settles O26: each stage of a frame's judging under its own conditions. -/
theorem frameJudgingTakesEffect : Obligations.FrameJudgingTakesEffect := by
  unfold Obligations.FrameJudgingTakesEffect
  refine ⟨fun f s e r he hf hc hr => ⟨_, ?commit, commit_engineAt f e r s, rfl⟩, fun f s h => if_pos (by simp [h]),
    fun f s u res hf hc hcls hj hnone hlook => ?lookup, fun b key fr s h => by rw [strnLookup_of_none h],
    fun b key fr s i h => by rw [strnLookup_of_one h], fun b slot s h => ?aged, fun k s h => if_neg h,
    fun f s res j hf hc hcls hj hres hord hjudge hroom => ?order, fun f s res j hf hc hcls hj hres hord hjudge hv hfull => ?overflow,
    fun f s res hf hc hcls hj hres hord => ?noOrder, fun f s hf hc hfwd hriv hrdma => ?rdma,
    fun f s u o hf hc hfwd hriv hrdma hlook => ?forward⟩
  case commit =>
    show execParseCommit f s = _
    unfold execParseCommit
    simp only [he]
    rw [if_neg (by simp [hf, hc]), hr]
  case lookup =>
    show execStrainerLookup f s = _
    unfold execStrainerLookup
    dsimp only
    rw [if_neg (by simp [hf, hc, hcls, hj, hnone]), hlook]
  case aged =>
    obtain ⟨t, hx, ht⟩ := exec_handleAgeExpiry_of_live h
    exact ⟨t, hx, ht.trans (freeCtx_ctxAt _ _), changesOnly_exec_of 288 hx rfl rfl⟩
  case order =>
    subst hjudge
    show execWeirVerdict f s = _
    unfold execWeirVerdict
    simp only [hres]
    rw [if_neg (by simp [hf, hc, hcls, hj]), if_pos hord]
    have hexc : (decide ((judge s (s.frameAt f).berth (s.frameAt f).parse.toOrder
        { full := (s.frameAt f).slot == 2, timeFail := (s.frameAt f).tfcFail, strainer := res.toNat }).verdict = 3)
        && decide ((s.weirB (s.frameAt f).berth).holdMax.toNat ≤ (s.weirB (s.frameAt f).berth).held.length)) = false := by
      rw [Bool.and_eq_false_iff, decide_eq_false_iff_not, decide_eq_false_iff_not, Nat.not_le]
      exact hroom
    rw [hexc]
    rfl
  case overflow =>
    subst hjudge
    show execWeirVerdict f s = _
    unfold execWeirVerdict
    simp only [hres]
    rw [if_neg (by simp [hf, hc, hcls, hj]), if_pos hord, decide_eq_true hv, decide_eq_true hfull]
    rfl
  case noOrder =>
    show execWeirVerdict f s = _
    unfold execWeirVerdict
    simp only [hres]
    rw [if_neg (by simp [hf, hc, hcls, hj]), hord, if_neg Bool.false_ne_true]
    simp only [Bool.and_eq_true, decide_eq_true_eq, Bool.not_eq_true']
  case rdma =>
    show execForwardingResult f s = _
    unfold execForwardingResult
    dsimp only
    rw [if_neg (by simp [hf, hc, hfwd, hriv]), if_pos hrdma]
    rfl
  case forward =>
    show execForwardingResult f s = _
    unfold execForwardingResult
    dsimp only
    rw [if_neg (by simp [hf, hc, hfwd, hriv]), hrdma, if_neg Bool.false_ne_true, hlook]

end Sys2Proof
end

section
/-! The queueing commands (08_ferry_reservoir.md R186, R191, R197 to R206). -/

namespace Sys2Proof.Machine

/-- A command on a port between frames takes effect at once. -/
theorem atBoundary_now {port : Option Nat} {shaper : Bool} {rq : Req} {s : State} (h : ∀ p, port = some p → (s.egressAt p).busy = none) :
    atBoundary port shaper rq s = .ok (if shaper then setShaper rq s else setQueue rq s) [] := by
  unfold atBoundary
  cases port with
  | none => rfl
  | some p => exact if_pos (by rw [h p rfl]; rfl)

/-- A command on a port that transmits waits for its next frame boundary. -/
theorem atBoundary_later {p : Nat} {shaper : Bool} {rq : Req} {s : State} (h : (s.egressAt p).busy.isSome = true) :
    atBoundary (some p) shaper rq s = .later { s with rsv := { s.rsv with deferred := s.rsv.deferred ++ [(p, shaper, rq)] } } := by
  unfold atBoundary
  exact if_neg (by simpa [Option.isSome_iff_ne_none] using h)

/-- A launch set with no entry takes one of a port and a destination that the berth may name. -/
theorem addFerry_of_new {rq : Req} {s : State} (hf : ferryFieldsOk rq = true) (hin : s.hasPort (rq.u8 0) (rq.u8 4) = true)
    (hout : s.mayUsePort (rq.u8 0) (rq.u8 5) (rq.u8 6) = true) (hset : s.launchSet (rq.u8 0) (rq.u8 4) (rq.bytes 8 6) = []) :
    addFerry rq s = .ok { s with rsv := { s.rsv with ferry := Tab.put {} s.rsv.ferry (rq.u16 2) (ferryEntryOf rq) } } [] := by
  have hpeers : (s.launchSet (rq.u8 0) (rq.u8 4) (ferryEntryOf rq).dmac).filter (· ≠ rq.u16 2) = [] := by
    rw [show (ferryEntryOf rq).dmac = rq.bytes 8 6 from rfl, hset]
    rfl
  unfold addFerry
  dsimp only
  rw [hpeers, if_neg (by simp [hf]), if_neg (by simp [hin, hout]), if_neg (by simp), if_neg (by simp)]
  rfl

theorem addFerry_of_not_permitted {rq : Req} {s : State} (hf : ferryFieldsOk rq = true)
    (hout : s.mayUsePort (rq.u8 0) (rq.u8 5) (rq.u8 6) = false) : addFerry rq s = .err .noPerm := by
  unfold addFerry
  dsimp only
  rw [if_neg (by simp [hf]), if_pos (by simp [hout])]

/-- A range that overlaps that of no other berth. -/
theorem no_overlap_of_forall {b base size : Nat} {lo n : Nat → Nat} (h : ∀ o, o < 16 → o ≠ b → overlaps base size (lo o) (n o) = false) :
    (((List.range 16).filter (· ≠ b)).any fun o => overlaps base size (lo o) (n o)) = false := by
  rw [List.any_eq_false]
  intro o ho
  rw [List.mem_filter, List.mem_range, decide_eq_true_eq] at ho
  simp [h o ho.1 ho.2]

/-- A queue's settings in range. -/
theorem queueConfig_in_range {rq : Req} (hq : rq.u16 0 < 656) (h2 : rq.u8 2 ≤ 1) (h3 : rq.u8 3 ≤ 1) (hlo : 64 ≤ rq.u32 4)
    (hhi : rq.u32 4 ≤ 1048576) (hmax : rq.u32 8 ≤ 262144) : ¬ (decide (656 ≤ rq.u16 0) || decide (1 < rq.u8 2) || decide (1 < rq.u8 3)
      || decide (rq.u32 4 < 64) || decide (1048576 < rq.u32 4) || decide (262144 < rq.u32 8)) = true := by
  simp
  omega

/-- SAFE_STOP is the harbour's to change. -/
theorem safeStop_kept {u : State} {rq : Req} {b : Bool} (h : isHarbour u rq = true ∨ (rq.u8 3 == 1) = b) :
    ¬ (!isHarbour u rq && (rq.u8 3 == 1) != b) = true := by
  rcases h with h | h <;> simp [h]

end Sys2Proof.Machine

namespace Sys2Proof
open Machine

/-- Settles O28: each queueing command under its own conditions. -/
theorem queueingCommandsTakeEffect : Obligations.QueueingCommandsTakeEffect := by
  unfold Obligations.QueueingCommandsTakeEffect
  refine ⟨fun rq => completes_of (fun _ => rfl) fun u ⟨hb, h1, hrng, hf, hin, hout, hset⟩ => ?write,
    fun rq => completes_of (fun _ => rfl) fun u ⟨hb, h1, hrng⟩ => ?remove,
    fun rq => turnsAway_of (fun _ => rfl) fun u ⟨hb, h1, hrng, hf, hout⟩ => ?writePerm,
    fun rq => completes_of (fun _ => rfl) fun u ⟨hb, hbase, hend, hg, hm, hov, hsum⟩ => ?quota,
    fun rq => completes_of (fun _ => rfl) fun u ⟨hq, h2, h3, hlo, hhi, hmax, hsafe, hidle⟩ => ?queue,
    fun rq => waits_of (fun _ => rfl) fun u ⟨hq, h2, h3, hlo, hhi, hmax, hsafe, hbusy⟩ => ?queueLater,
    fun rq => turnsAway_of (fun _ => rfl) fun u ⟨hq, h2, h3, hlo, hhi, hmax, hharb, hsafe⟩ => ?queuePerm,
    fun rq => completes_of (fun _ => rfl) fun u ⟨hq, h2, h3, hrate, hlo, hhi, hover, hidle⟩ => ?shaper,
    fun x forgive rate burst overhead speed h => ?first,
    fun rq => completes_of (fun _ => rfl) fun u ⟨hp, hc, hne, hmax, hlt⟩ => ?thresh, fun rq => completes_of (fun _ => rfl) fun u _ => rfl⟩
  case write =>
    rw [if_neg (by simp [berthOk, hb, h1, hrng]), if_neg (by omega)]
    exact addFerry_of_new hf hin hout hset
  case remove =>
    rw [if_neg (by simp [berthOk, hb, h1, hrng]), if_pos h1]
    rfl
  case writePerm =>
    rw [if_neg (by simp [berthOk, hb, h1, hrng]), if_neg (by omega)]
    exact addFerry_of_not_permitted hf hout
  case quota =>
    dsimp only
    rw [if_neg (by simp [berthOk, hb]; omega), no_overlap_of_forall hov, if_neg (by simpa using hsum)]
    rfl
  case queue =>
    dsimp only
    rw [if_neg (queueConfig_in_range hq h2 h3 hlo hhi hmax), if_neg (safeStop_kept hsafe), atBoundary_now fun p hp => ?_]
    · rfl
    · split at hp
      · cases hp
        exact hidle.resolve_left (by omega)
      · cases hp
  case queueLater =>
    dsimp only
    rw [if_neg (queueConfig_in_range (by omega) h2 h3 hlo hhi hmax), if_neg (safeStop_kept hsafe), if_pos hq, atBoundary_later hbusy]
  case queuePerm =>
    dsimp only
    rw [if_neg (queueConfig_in_range hq h2 h3 hlo hhi hmax), if_pos (by simp [hharb]; simpa using hsafe)]
  case shaper =>
    dsimp only
    rw [if_neg (by simp; omega), if_pos hq, atBoundary_now fun p hp => by cases hp; exact hidle]
    unfold setShaper
    dsimp only
    rw [if_pos rfl, if_pos (by omega)]
  case first => simp [Shaper.configure, h]
  case thresh =>
    have hk : rq.u8 1 ≠ 0xFF := by omega
    have h8 : rq.u8 1 ≠ 8 := by omega
    dsimp only
    rw [if_neg hk, if_neg (by simp [hk]; omega), if_neg h8]

end Sys2Proof
end

section
/-! The pump commands, the patch and the engines' failures (05_pumps.md R117 to R139). -/

namespace Sys2Proof.Machine

theorem postEvent_pump (fn code : Nat) (d : List Byte) (s : State) : (postEvent fn code d s).pump = s.pump :=
  same_pump (postEvent_view (M := 17183014912) rfl fn code d s) rfl

theorem donePatch_pump (s : State) : (donePatch s).pump = s.pump := by
  unfold donePatch
  split
  · exact postEvent_pump _ _ _ s
  · rfl

/-- The engine that begins to drain stays in rotation, and the patch's list as it was. -/
theorem beginDrain_pump (s : State) : (beginDrain s).pump.patchLeft = s.pump.patchLeft ∧ (beginDrain s).pump.patchLoaded = s.pump.patchLoaded
    ∧ ∀ e, ((beginDrain s).engineAt e).inRotation = (s.engineAt e).inRotation := by
  unfold beginDrain
  split
  · rename_i d rest _
    refine ⟨rfl, rfl, fun e => ?_⟩
    rw [engineAt_onEngine]
    split <;> simp_all
  · exact ⟨rfl, rfl, fun _ => rfl⟩

/-- What an engine holds that has loaded the current image. -/
theorem loadEngine_engineAt (e : Nat) (s : State) : ((loadEngine e s).engineAt e).gen = s.pump.gen
    ∧ ((loadEngine e s).engineAt e).digest = s.pump.patchDigest ∧ ((loadEngine e s).engineAt e).newest = true
    ∧ ((loadEngine e s).engineAt e).inRotation = (s.engineAt e).inRotation := by
  unfold loadEngine
  dsimp only
  rw [engineAt_onEngine, if_pos rfl]
  exact ⟨rfl, rfl, rfl, rfl⟩

/-- An engine with no frames, and no patch in hand: its failure takes it out of rotation and raises PUMP_FAIL. -/
theorem failEngine_of_idle {e cause : Nat} {s : State} (hctx : (s.engineAt e).ctx = []) (hleft : s.pump.patchLeft = []) :
    failEngine e cause s = raise 10 0 e cause 0 none
      (onEngine e (fun x => { x with inRotation := false, failed := true, patching := false, ctx := [] }) s) := by
  unfold failEngine
  dsimp only
  rw [hctx, hleft, List.foldl_nil, List.contains_nil, if_neg Bool.false_ne_true]
  unfold leavePatch
  exact if_pos (by simp [onEngine, onPump, hleft])

/-- What the engine at the head of the patch leaves behind as it returns to rotation. -/
theorem readmitPatched_of_written {e : Nat} {rest : List Nat} {s : State} (hw : s.configWritten (microInfo e s.pump.gen.toNat) = true)
    (hleft : s.pump.patchLeft = e :: rest) : (readmitPatched e s).pump.patchLeft = rest ∧ (readmitPatched e s).pump.patchLoaded = false
      ∧ ((readmitPatched e s).engineAt e).inRotation = true := by
  unfold readmitPatched
  dsimp only
  rw [if_neg (by simp [hw])]
  obtain ⟨hl, hd, hr⟩ := beginDrain_pump (onPump (fun p => { p with patchLeft := p.patchLeft.erase e, patchLoaded := false })
    (onEngine e (fun x => { x with inRotation := true, patching := false }) s))
  refine ⟨?_, ?_, ?_⟩
  · rw [donePatch_pump, hl]
    show s.pump.patchLeft.erase e = rest
    rw [hleft, List.erase_cons_head]
  · rw [donePatch_pump, hd]
    rfl
  · show (Tab.look {} (donePatch _).pump.engine e).inRotation = true
    rw [donePatch_pump]
    refine (hr e).trans ?_
    show ((onEngine e (fun x => { x with inRotation := true, patching := false }) s).engineAt e).inRotation = true
    rw [engineAt_onEngine, if_pos rfl]

/-- The patch stops with engine e out of rotation, and PUMP_PATCH_STALL is posted (R131). -/
def patchStalled (e : Nat) (s : State) : State :=
  let t := onPump (fun p => { p with patchLeft := [], patchLoaded := false })
    (onEngine e (fun x => { x with inRotation := false, patching := false }) s)
  postEvent 0 0x0502 ([t.pump.gen, 0] ++ leBytes 2 t.newGen) (raise 10 2 e 0 0 none t)

end Sys2Proof.Machine

namespace Sys2Proof
open Machine

/-- Settles O29: each pump command under its own conditions. -/
theorem pumpCommandsTakeEffect : Obligations.PumpCommandsTakeEffect := by
  unfold Obligations.PumpCommandsTakeEffect
  refine ⟨fun rq => completes_of (fun _ => rfl) fun u ⟨hb, h1, he, hex⟩ => ?profile,
    fun rq => turnsAway_of (fun _ => rfl) fun u ⟨hb, h1, he, hex⟩ => ?profileState,
    fun rq => completes_of (fun _ => rfl) fun u ⟨hb, hlo, hhi, hact, hex⟩ => ?action,
    fun rq => turnsAway_of (fun _ => rfl) fun u ⟨hb, hlo, hhi, hact, hex, hport, hmay⟩ => ?actionPerm,
    fun rq => completes_of (fun _ => rfl) fun u hage => ?age, fun rq => completes_of (fun _ => rfl) fun u _ => rfl,
    fun rq => completes_of (fun _ => rfl) fun u ⟨hkey, hlock⟩ => ?lock, fun rq => turnsAway_of (fun _ => rfl) fun u hkey => if_pos hkey,
    fun rq => completes_of (fun _ => rfl) fun u ⟨hn, hmax, hend, hidle⟩ => ?stage,
    fun rq => completes_of (fun _ => rfl) fun u ⟨hlock, hst, hdig, hn, hgen, hres, hidle⟩ => ?commit,
    fun rq => turnsAway_of (fun _ => rfl) fun u ⟨hlock, hused⟩ => ?locked,
    fun rq k => completes_of (fun _ => rfl) fun u ⟨he, h1, hleft, hrot, hlast⟩ => ?leave,
    fun rq k => turnsAway_of (fun _ => rfl) fun u ⟨he, h1, hleft, hlast⟩ => ?last,
    fun rq => completes_of (fun _ => rfl) fun u ⟨he, h1, hleft, hrot, hctx⟩ => ?readmit⟩
  case profile => simp [berthOk, hb, Nat.not_lt.mpr h1, Nat.not_lt.mpr he, hex]
  case profileState => simp [berthOk, hb, Nat.not_lt.mpr h1, Nat.not_lt.mpr he, hex]
  case action =>
    have hthree : ¬ rq.u8 2 = 3 := by omega
    dsimp only
    rw [if_neg (by simp [berthOk, hb, hthree]; omega), if_neg (by simp [hex]), if_neg (by simp [hthree])]
  case actionPerm =>
    dsimp only
    rw [if_neg (by simp [berthOk, hb, hact]; omega), if_neg (by simp [hex]), if_pos (by simp [hact, hmay])]
  case age => exact if_neg (Nat.not_lt.mpr hage)
  case lock => simp [hkey, hlock]
  case stage => simp [hn, Nat.not_lt.mpr hmax, Nat.not_lt.mpr hend, hidle, onPump]
  case commit =>
    rw [if_neg (by rcases hlock with h | h <;> simp [h]), if_neg (by simp [hst, hdig, hn, hgen, hres]), if_neg (by simp [hidle])]
  case locked => exact if_pos (by simp [hlock, hused])
  case leave =>
    rw [if_neg (by simp [h1]; omega), hleft, if_neg Bool.false_ne_true, if_pos h1, if_neg (by simp [hrot]; omega)]
  case last =>
    dsimp only
    rw [if_neg (by simp [h1]; omega), hleft, if_neg Bool.false_ne_true, if_pos h1, if_pos (by simp [hlast])]
  case readmit =>
    dsimp only
    rw [if_neg (by simp [h1]; omega), hleft, if_neg Bool.false_ne_true, if_neg (by omega), hrot, hctx]
    rfl

/-- Settles O30: each event of the pump engines under its own conditions. -/
theorem pumpEventsTakeEffect : Obligations.PumpEventsTakeEffect := by
  unfold Obligations.PumpEventsTakeEffect
  refine ⟨fun e s hf hctx hleft => ?idle, fun e kind s hf => ?failParts, fun s e he => ?golden, fun s e he => ?goldenBad,
    fun s e rest hleft hload hctx => ?load, fun s e rest hleft hload hctx => ?loadBad, fun e s => loadEngine_engineAt e s,
    fun e s h => if_pos (by simp [h]), fun e s rest hw hleft => readmitPatched_of_written hw hleft,
    fun s e rest hleft hload hw => ?stall⟩
  case idle =>
    have hidle : ((onEngine e.val id s).engineAt e.val).ctx = [] := by rw [engineAt_onEngine, if_pos rfl]; exact hctx
    have hx : exec (.pumpFail e .selfCheck) s = .next (failEngine e.val 4 (onEngine e.val id s)) := if_neg (by simp [hf])
    rw [hx, failEngine_of_idle hidle hleft]
  case failParts =>
    have hx : exec (.pumpFail e kind) s = .next _ := if_neg (by simp [hf])
    exact ⟨_, hx, changesOnly_exec_of 17199857824 hx rfl rfl⟩
  case golden =>
    show execGoldenSelfCheck true s = _
    simp [execGoldenSelfCheck, he, onPump]
  case goldenBad =>
    show execGoldenSelfCheck false s = _
    simp [execGoldenSelfCheck, he, onPump]
  case load =>
    show execPatchEngineLoad true s = _
    unfold execPatchEngineLoad
    simp only [hleft, hload]
    rw [if_neg Bool.false_ne_true, if_neg (by simp [hctx]), if_neg (by simp)]
    rfl
  case loadBad =>
    show execPatchEngineLoad false s = _
    unfold execPatchEngineLoad
    simp only [hleft, hload]
    rw [if_neg Bool.false_ne_true, if_neg (by simp [hctx]), if_pos (by simp)]
  case stall =>
    have hx : exec .pumpPatchStall s = .next (patchStalled e s) := by
      show execPumpPatchStall s = _
      unfold execPumpPatchStall
      simp only [hleft, hload, hw]
      rfl
    have hpump : (patchStalled e s).pump = { (onEngine e (fun x => { x with inRotation := false, patching := false }) s).pump with
      patchLeft := [], patchLoaded := false } := postEvent_pump _ _ _ _
    have hengine : (patchStalled e s).engineAt e = { s.engineAt e with inRotation := false, patching := false } := by
      show Tab.look {} (patchStalled e s).pump.engine e = _
      rw [hpump]
      show (onEngine e (fun x => { x with inRotation := false, patching := false }) s).engineAt e = _
      rw [engineAt_onEngine, if_pos rfl]
    refine ⟨_, hx, ?_, ?_, ?_, ?_, changesOnly_exec_of 17199792256 hx rfl rfl⟩
    · rw [hpump]
    · rw [hpump]
    · rw [hengine]
    · rw [hengine]

end Sys2Proof
end

section
/-! The strainer's commands (06_strainer.md R140 to R160). -/

namespace Sys2Proof.Machine

/-- A range that moves loses its rules. -/
theorem setPartition_strnB_of_moved {rq : Req} {s : State} (h : rq.u16 2 ≠ (s.strnB (rq.u8 0)).rbase) :
    (setPartition rq s).strnB (rq.u8 0) = { s.strnB (rq.u8 0) with
      rbase := rq.u16 2, rsize := rq.u16 4, rcount := 0, pquota := rq.u16 6, squota := rq.u16 8 } := by
  unfold setPartition
  dsimp only
  rw [decide_eq_false h, Bool.false_and, if_neg Bool.false_ne_true, strnB_onStrnB, if_pos rfl]
  rfl

end Sys2Proof.Machine

namespace Sys2Proof
open Machine

/-- Settles O31: each command of the strainer under its own conditions. -/
theorem strainerCommandsTakeEffect : Obligations.StrainerCommandsTakeEffect := by
  unfold Obligations.StrainerCommandsTakeEffect
  refine ⟨fun rq => completes_of (fun _ => rfl) fun u ⟨hb, hbase, hend, hp, hs, hov, hpsum, hssum, hmove, hlive⟩ => ?partition,
    fun rq u h => setPartition_strnB_of_moved h,
    fun rq => completes_of (fun _ => rfl) fun u ⟨hb, hlen, hact, hage⟩ => ?config,
    fun rq => completes_of (fun _ => rfl) fun u ⟨hb, hn, hmax, hoff⟩ => ?stage,
    fun rq => completes_of (fun _ => rfl) fun u ⟨hb, hlen, hdig, hpat, hblk, hwait⟩ => ?commit,
    fun rq => turnsAway_of (fun _ => rfl) fun u ⟨hb, hlen, hdig⟩ => ?commitDigest,
    fun rq => completes_of (fun _ => rfl) fun u ⟨hb, hi, hlegal, hmove, hroom⟩ => ?insertEnd,
    fun rq => waits_of (fun _ => rfl) fun u ⟨hb, hlo, hhi, hlegal, hmove, hroom⟩ => ?insertMove,
    fun rq => turnsAway_of (fun _ => rfl) fun u ⟨hb, hi, hlegal, hmove, hfull⟩ => ?insertFull,
    fun rq => completes_of (fun _ => rfl) fun u ⟨hb, hused, hmove, hlast⟩ => ?deleteLast,
    fun rq => waits_of (fun _ => rfl) fun u ⟨hb, hused, hmove, hlast⟩ => ?deleteMove,
    fun rq => completes_of (fun _ => rfl) fun u ⟨hb, hused, hlegal, hmove⟩ => ?write,
    fun rq => completes_of (fun _ => rfl) fun u hb => ?lookup, fun rq b k j => completes_of (fun _ => rfl) fun u ⟨hctx, hnext⟩ => ?next,
    fun rq b k => completes_of (fun _ => rfl) fun u ⟨hctx, hnext⟩ => ?ended, fun rq => turnsAway_of (fun _ => rfl) fun u hctx => ?noHandle,
    fun rq => completes_of (fun _ => rfl) fun u _ => rfl⟩
  case partition =>
    dsimp only
    rw [if_neg (by simp [berthOk, hb]; omega), no_overlap_of_forall hov, if_neg (by
      rw [Bool.false_or, Bool.or_eq_true, decide_eq_true_eq, decide_eq_true_eq]; omega), if_neg (by simp [hmove, hlive])]
  case config =>
    rw [if_neg (by simp [berthOk, hb]; omega)]
  case stage => simp [berthOk, hb, hn, Nat.not_lt.mpr hmax, hoff]
  case commit =>
    dsimp only
    rw [if_neg (by simp [berthOk, hb, hlen, hdig]), if_neg (by simp [Nat.not_lt.mpr hpat, Nat.not_lt.mpr hblk]), hwait]
    rfl
  case commitDigest =>
    dsimp only
    rw [if_pos (by simp [hdig])]
  case insertEnd =>
    dsimp only
    rw [if_neg (by simp [berthOk, hb, hlegal]; omega), if_neg (by simp [hmove]), if_neg (Nat.not_le.mpr hroom), if_pos hi]
  case insertMove =>
    dsimp only
    rw [if_neg (by simp [berthOk, hb, hlegal]; omega), if_neg (by simp [hmove]), if_neg (Nat.not_le.mpr hroom), if_neg (by omega)]
  case insertFull =>
    dsimp only
    rw [if_neg (by simp [berthOk, hb, hlegal]; omega), if_neg (by simp [hmove]), if_pos hfull]
  case deleteLast =>
    dsimp only
    rw [if_neg (by simp [berthOk, hb, hused]), if_neg (by simp [hmove]), if_pos hlast]
  case deleteMove =>
    dsimp only
    rw [if_neg (by simp [berthOk, hb, hused]), if_neg (by simp [hmove]), if_neg hlast]
  case write =>
    dsimp only
    rw [if_neg (by simp [berthOk, hb, hused, hlegal]), if_neg (by simp [hmove])]
  case lookup => exact if_neg (by simp [berthOk, hb])
  case next => simp [hctx, hnext]
  case ended => simp [hctx, hnext]
  case noHandle => simp [hctx]

end Sys2Proof
end

section
/-! The table commands and the tables' background (07_tables.md R161 to R185). -/

namespace Sys2Proof.Machine

/-- A hashed table's partition passes the checks on its numbers. -/
theorem partition_in_range {rq : Req} {base : Nat} (hb : rq.u8 0 < 16) (ht : rq.u8 1 ≤ 6) (hsize : base + rq.u32 8 ≤ tableSize (rq.u8 1))
    (hbase : base % tableStep (rq.u8 1) = 0) (hstep : rq.u32 8 % tableStep (rq.u8 1) = 0) :
    ¬ (!berthOk rq 0 || decide (6 < rq.u8 1) || decide (tableSize (rq.u8 1) < base + rq.u32 8) || decide (base % tableStep (rq.u8 1) ≠ 0)
      || decide (rq.u32 8 % tableStep (rq.u8 1) ≠ 0)) = true := by
  simp [berthOk, hb, ht, hsize, hbase, hstep]

/-- A route whose path has its nodes, within the quota. -/
theorem addRoute_of_nodes {b len pfx r : Nat} {v6 : Bool} {s : State} {w : Fwd}
    (hquota : ((s.fwd.routes.filter (fun x => !x.isFor b v6 len pfx)).filter (fun x => x.berth == b && x.v6 == v6)).length
      < (s.fwdB b).sizeOf (famTable v6))
    (hw : s.addNodes b v6 pfx ((List.range (prefixLevel v6 len - 1)).map (· + 2)) s.fwd = some w) :
    addRoute b v6 len pfx r s = .ok { s with fwd := clearSlots b v6 len pfx { w with
      routes := s.fwd.routes.filter (fun x => !x.isFor b v6 len pfx)
        ++ [{ berth := b, v6 := v6, len := len, pfx := pfx, result := BitVec.ofNat 32 r }] } } [] := by
  unfold addRoute
  dsimp only
  rw [if_neg (Nat.not_le.mpr hquota), hw]
  rfl

/-- What a background read of a memory that is not in sounding does (R182). -/
theorem readWord_of_quiet {t m i : Nat} {err : EccErr} {same : Bool} {s : State} (h : (s.protAt t).sounding = false) :
    readWord t m i err same s = match err with
      | .ok => s
      | .corrected => onFwd (fun w => { w with eccCorr := bump w.eccCorr }) s
      | .uncorrectable => poisonWord t m i s := by
  unfold readWord
  dsimp only
  rw [h]
  exact if_pos rfl

end Sys2Proof.Machine

namespace Sys2Proof
open Machine

/-- Settles O33: each command of the tables, their ageing and their background, under its own conditions. -/
theorem tablesTakeEffect : Obligations.TablesTakeEffect := by
  unfold Obligations.TablesTakeEffect
  refine ⟨fun rq => completes_of (fun _ => rfl) fun u ⟨hb, ht, htrie, hsize, hbase, hstep, hov, hnone⟩ => ?partition,
    fun rq => turnsAway_of (fun _ => rfl) fun u ⟨hb, ht, htrie, hsize, hbase, hstep, hov, hsome, hless⟩ => ?partitionState,
    fun rq => completes_of (fun _ => rfl) fun u ⟨hb, hmode, hlearn, hl2, hroute, hkey, hv0, hv1, hfl, hage⟩ => ?config,
    fun rq w => completes_of (fun _ => rfl) fun u ⟨hb, h1, hf0, hf1, hmac, hres, hmay, hway⟩ => ?l2,
    fun rq => turnsAway_of (fun _ => rfl) fun u ⟨hb, h1, hf0, hf1, hmac, hres, hmay⟩ => ?l2Perm,
    fun rq w => completes_of (fun _ => rfl) fun u ⟨hb, h1, hf0, hf1, hmac, hway⟩ => ?l2Delete,
    fun rq w => completes_of (fun _ => rfl) fun u ⟨hb, h1, h4, hpfx, hres, hmay, hquota, hw⟩ => ?route,
    fun rq => completes_of (fun _ => rfl) fun u ⟨hb, h1, h4, hpfx⟩ => ?routeDelete,
    fun rq => completes_of (fun _ => rfl) fun u ⟨hb, hold, hports⟩ => ?mcast,
    fun rq => turnsAway_of (fun _ => rfl) fun u ⟨hb, hold, hports⟩ => ?mcastPerm,
    fun rq base => completes_of (fun _ => rfl) fun u ⟨hb, hn0, hn, hold, hms, hbase⟩ => ?ecmp,
    fun rq => completes_of (fun _ => rfl) fun u ⟨hb, h1⟩ => ?look3, fun rq => completes_of (fun _ => rfl) fun u ⟨hb, h0, hf0, hf1⟩ => ?look2,
    fun rq => completes_of (fun _ => rfl) fun u _ => rfl, fun rq => completes_of (fun _ => rfl) fun u ⟨ht, hoff, hrep⟩ => ?protectOff,
    fun rq => completes_of (fun _ => rfl) fun u ⟨ht, hon, hrep, hreg, hal, hrng, hst⟩ => ?protectOn, fun b s hage => ?sweep,
    fun t m err same s htrie hmem hstorm hsound hpause => ?access,
    fun t m i same s h => ⟨readWord_of_quiet h, readWord_of_quiet h, readWord_of_quiet h⟩⟩
  case partition =>
    dsimp only
    simp only [htrie, Bool.false_eq_true, if_false, Bool.false_and, Bool.not_false, if_true]
    rw [if_neg (partition_in_range hb ht hsize hbase hstep), no_overlap_of_forall hov, if_neg Bool.false_ne_true, if_neg (by simp [hnone])]
  case partitionState =>
    dsimp only
    simp only [htrie, Bool.false_eq_true, if_false, Bool.false_and, Bool.not_false, if_true]
    rw [if_neg (partition_in_range hb ht hsize hbase hstep), no_overlap_of_forall hov, if_neg Bool.false_ne_true, if_pos (by simp [hless, hsome])]
  case config =>
    dsimp only
    rw [if_neg (by simp [berthOk, hb]; omega), if_neg (by simp; omega)]
  case l2 =>
    dsimp only
    rw [if_neg (by simp [berthOk, hb, h1, hf0, hf1, hmac, hres]), if_neg (by omega), hmay]
    simp only [hway]
    rfl
  case l2Perm =>
    dsimp only
    rw [if_neg (by simp [berthOk, hb, h1, hf0, hf1, hmac, hres]), if_neg (by omega), hmay]
    rfl
  case l2Delete =>
    dsimp only
    rw [if_neg (by simp [berthOk, hb, h1, hf0, hf1, hmac]), if_pos h1, hway]
  case route =>
    have h6 : ¬ rq.u8 2 = 6 := by omega
    simp only [h6, decide_false, Bool.false_eq_true, if_false, Bool.false_and]
    rw [if_neg (by simp [berthOk, hb, h1, h4, hpfx, hres]), if_neg (by omega), hmay]
    exact addRoute_of_nodes hquota hw
  case routeDelete =>
    have h6 : ¬ rq.u8 2 = 6 := by omega
    simp only [h6, decide_false, Bool.false_eq_true, if_false, Bool.false_and]
    rw [if_neg (by simp [berthOk, hb, h1, h4, hpfx]), if_pos h1]
  case mcast =>
    dsimp only
    rw [if_neg (by simp [berthOk, hb, hold]), hports]
    rfl
  case mcastPerm =>
    dsimp only
    rw [if_neg (by simp [berthOk, hb, hold]), hports]
    rfl
  case ecmp =>
    have hok : (((List.range (rq.u8 1)).map fun i => rq.u32 (4 + 4 * i)).any fun r => !resultOk r || (resKind r != 1 && resKind r != 5)) = false := by
      simp only [List.any_map, List.any_eq_false, List.mem_range]
      intro i hi
      obtain ⟨hr, hk, _⟩ := hms i hi
      rcases hk with hk | hk <;> simp [hr, hk]
    have hmay : (((List.range (rq.u8 1)).map fun i => rq.u32 (4 + 4 * i)).any fun r => !u.mayResult (rq.u8 0) r) = false := by
      simp only [List.any_map, List.any_eq_false, List.mem_range]
      intro i hi
      simp [(hms i hi).2.2]
    dsimp only
    rw [hok, hmay, if_neg (by simp [berthOk, hb, hn0, Nat.not_lt.mpr hn, hold]), if_neg Bool.false_ne_true, hbase]
  case look3 =>
    dsimp only
    rw [if_neg (by simp [berthOk, hb, h1]), if_neg (by omega), if_pos h1]
    rfl
  case look2 =>
    dsimp only
    rw [if_neg (by simp [berthOk, hb, h0, hf0, hf1]), if_pos h0]
    rfl
  case protectOff =>
    have hno : ¬ rq.u8 1 = 1 := by omega
    simp only [hno, decide_false, Bool.false_and, Bool.false_eq_true, if_false]
    rw [if_neg (by simp [hoff]; omega)]
  case protectOn =>
    simp only [hon, decide_true, Bool.true_and, if_true]
    rw [if_neg (by simp; omega), if_neg (by simpa [Option.isSome_iff_ne_none] using hreg), if_neg (by simp [hal, hrng]), if_neg (by simpa using hst)]
  case sweep =>
    have hx : exec (.l2AgeSweep b) s = .next _ := if_neg hage
    exact ⟨_, hx, rfl, rfl, rfl, changesOnly_exec_of 512 hx rfl rfl⟩
  case access =>
    show execTableBackgroundAccess t m err same s = _
    unfold execTableBackgroundAccess
    simp only [htrie, hsound, hpause, Bool.false_eq_true, if_false, Bool.false_and]
    rw [if_neg (by simp [hmem, hstorm])]
    simp only [State.nextWord, hsound, Bool.false_and, Bool.false_eq_true, if_false]

end Sys2Proof
end

section
/-! The port commands, and what happens on the river side (04_river_ports.md). -/

namespace Sys2Proof.Machine

/-- A port changed twice. -/
theorem onPort_onPort (p : Nat) (f g : Port → Port) (s : State) : onPort p g (onPort p f s) = onPort p (fun v => g (f v)) s := by
  unfold onPort
  rw [portAt_setPort, if_pos rfl]
  simp only [State.setPort, Tab.put_put]

/-- A change that is stated on the port as it is found. -/
theorem onPort_eq {p : Nat} {f g : Port → Port} {s : State} (h : f (s.portAt p) = g (s.portAt p)) : onPort p f s = onPort p g s :=
  congrArg (s.setPort p) h

/-- A change that is stated on the quad as it is found. -/
theorem onQuad_eq {q : Nat} {f g : Quad → Quad} {s : State} (h : f (s.quadAt q) = g (s.quadAt q)) : onQuad q f s = onQuad q g s :=
  congrArg (s.setQuad q) h

theorem evalLink_quadAt (p q : Nat) (s : State) : (evalLink p s).quadAt q = s.quadAt q := by
  unfold State.quadAt
  rw [same_quad (evalLink_view (M := 16777224) rfl p s) rfl]

/-- Bringing the links of a quad up to date leaves the quads alone. -/
theorem evalLinks_quadAt (ps : List Nat) (q : Nat) (s : State) : (ps.foldl (fun s p => evalLink p s) s).quadAt q = s.quadAt q := by
  induction ps generalizing s with
  | nil => rfl
  | cons p ps ih => rw [List.foldl_cons, ih, evalLink_quadAt]

/-- A quad whose settling limit is not 0 drains, and no frame is dropped. -/
theorem startDrain_of_limit {q : Nat} {s : State} (h : (s.quadAt q).settleLimit ≠ 0) : startDrain q s =
    (quadPorts q).foldl (fun s p => onPort p (fun v => { v with resumed := false }) s)
      (onQuad q (fun x => { x with synth := 1, drainAt := s.tide.nowFs, recalDue := false, retries := 0 }) s) := if_neg h

/-- A change of some ports leaves the quads and the reservoir alone. -/
theorem foldl_onPort_keeps (ps : List Nat) (g : Port → Port) (s : State) :
    (ps.foldl (fun s p => onPort p g s) s).quad = s.quad ∧ (ps.foldl (fun s p => onPort p g s) s).rsv = s.rsv := by
  induction ps generalizing s with
  | nil => exact ⟨rfl, rfl⟩
  | cons p ps ih => exact ih (onPort p g s)

/-- A quad that drains under a limit is in DRAIN from now on, and nothing of the reservoir changes. -/
theorem startDrain_quadAt_of_limit {q : Nat} {s : State} (h : (s.quadAt q).settleLimit ≠ 0) : ((startDrain q s).quadAt q).synth = 1
    ∧ ((startDrain q s).quadAt q).drainAt = s.tide.nowFs ∧ (startDrain q s).rsv = s.rsv := by
  rw [startDrain_of_limit h]
  obtain ⟨hquad, hrsv⟩ := foldl_onPort_keeps (quadPorts q) (fun v => { v with resumed := false })
    (onQuad q (fun x => { x with synth := 1, drainAt := s.tide.nowFs, recalDue := false, retries := 0 }) s)
  rw [hrsv]
  unfold State.quadAt at *
  rw [hquad]
  have hat := quadAt_onQuad q (fun x => { x with synth := 1, drainAt := s.tide.nowFs, recalDue := false, retries := 0 }) s q
  rw [if_pos rfl] at hat
  unfold State.quadAt at hat
  rw [hat]
  exact ⟨rfl, rfl, rfl⟩

/-- LINK outside UP is never UP (R107). -/
theorem restLink_ne_up (p : Nat) (s : State) : s.restLink p ≠ 3 := by
  unfold State.restLink
  dsimp only
  split
  · decide
  · split
    · decide
    · split <;> decide

/-- A port that leaves UP: its exit is counted, and raised for the berth that owns it whole. -/
theorem evalLink_of_exit {p : Nat} {s : State} (hen : (s.portAt p).enabled = true) (hb : s.bondMember p = false) (hclean : s.linkClean p = false)
    (hup : (s.portAt p).link = 3) : evalLink p s = raise (riverSource (p / 4)) 0 p 0 0 (s.ownerAt p).whole
      (onPort p (fun v => { v with cleanSince := none, link := s.restLink p, linkDowns := bump v.linkDowns }) s) := by
  unfold evalLink
  dsimp only
  rw [if_neg (by simp [hen, hb]), hclean, if_neg Bool.false_ne_true, if_pos hup, onPort_onPort]

/-- A port without block lock is not clean. -/
theorem linkClean_of_no_lock {p : Nat} {s : State} (h : (s.portAt p).blockLock = false) : s.linkClean p = false := by
  simp [State.linkClean, h]

end Sys2Proof.Machine

namespace Sys2Proof
open Machine

/-- Settles O34: each port command under its own conditions. -/
theorem portCommandsTakeEffect : Obligations.PortCommandsTakeEffect := by
  unfold Obligations.PortCommandsTakeEffect
  refine ⟨fun rq => completes_of (fun _ => rfl) fun u ⟨hq, hr, hm, ha, hf, hlim, hauto, hsyn, hrate⟩ => ?settle,
    fun rq => completes_of (fun _ => rfl) fun u ⟨hq, hr, hm, ha, hf, hlim, hauto, hsyn, hrate⟩ => ?fec,
    fun rq => turnsAway_of (fun _ => rfl) fun u ⟨hq, hr, hm, ha, hf, hlim, hauto, hsyn⟩ => ?busy, fun q s h => ?drain,
    fun rq => completes_of (fun _ => rfl) fun u ⟨hp, h1, hdeb, hb, hdom, hpgc, hen⟩ => ?enable,
    fun rq => completes_of (fun _ => rfl) fun u ⟨hp, h0, hdeb, hb, hdom⟩ => ?disable,
    fun rq => turnsAway_of (fun _ => rfl) fun u ⟨hp, h1, hdeb, hpgc⟩ => ?enableState,
    fun rq => completes_of (fun _ => rfl) fun u ⟨hp, h1, hq, hb, hmode⟩ => ?flow,
    fun rq => completes_of (fun _ => rfl) fun u ⟨hq, hsyn⟩ => ?recal, fun rq => completes_of (fun _ => rfl) fun u ⟨hp, hb⟩ => ?status⟩
  case settle =>
    dsimp only
    rw [if_neg (by simp [hf]; omega), if_neg (by simp [hsyn]), if_neg hrate, if_neg (by simp [hsyn])]
    rw [onQuad_eq (g := fun x => { x with
        media := BitVec.ofNat 1 (rq.u8 2), an := rq.u8 3 == 1, settleLimit := BitVec.ofNat 32 (rq.u32 8),
        recalAuto := rq.u8 12 == 1, pend := some (rq.u8 1, quadFecs rq) }) (by simp only [hrate, if_false])]
  case fec =>
    dsimp only
    rw [if_neg (by simp [hf]; omega), if_neg (by simp [hsyn]), if_pos hrate]
    rw [onQuad_eq (g := fun x => { x with
        media := BitVec.ofNat 1 (rq.u8 2), an := rq.u8 3 == 1, settleLimit := BitVec.ofNat 32 (rq.u32 8),
        recalAuto := rq.u8 12 == 1, pend := none }) (by simp only [hrate, if_true])]
  case busy =>
    dsimp only
    rw [if_neg (by simp [hf]; omega), if_pos (by simpa using hsyn)]
  case drain => exact startDrain_quadAt_of_limit h
  case enable =>
    dsimp only
    rw [if_neg (by simp [h1]; omega), if_neg (by simp [hb, hdom, hpgc]), if_pos h1, hen, if_neg Bool.false_ne_true, onPort_onPort]
  case disable =>
    dsimp only
    rw [if_neg (by simp [h0]; omega), if_neg (by simp [hb, hdom, h0]), if_neg (by omega), onPort_onPort]
  case enableState =>
    dsimp only
    rw [if_neg (by simp [h1]; omega), if_pos (by simp [h1, hpgc])]
  case flow =>
    dsimp only
    rw [if_neg (by simp [hq]; omega), hb, if_neg Bool.false_ne_true]
    exact congrArg (Reply.ok · []) (onPort_eq (by simp [hmode]))
  case recal =>
    dsimp only
    rw [if_neg (Nat.not_lt.mpr hq), if_neg (by rcases hsyn with h | h <;> simp [h])]
  case status =>
    dsimp only
    rw [if_neg (Nat.not_lt.mpr hp), hb]
    rfl

/-- Settles O35: each event of the river side under its own conditions. -/
theorem portEventsTakeEffect : Obligations.PortEventsTakeEffect := by
  unfold Obligations.PortEventsTakeEffect
  refine ⟨fun p ev s hb => if_neg (by simp [hb]), fun p s hup hb hen hlink => ?down, fun p s hc hl => ?debounce,
    fun p s hen hb han hdone => ?restart, fun p fec s hen hb han hf => ?complete, fun q s hsyn hp hidle => ?drained,
    fun q s rate fecs hsyn hp hidle => ?rated, fun q s hsyn hdue => ?locked, fun p s hsyn hres hlf hrf hmay => ?resume,
    fun q s hsyn hr => ?retry, fun q s hsyn hr => ?failed, fun q s ha hsyn hd => ?recal, fun q s ha hraised hd hd80 => ?drift,
    fun p bytes s hrx hty hfcs hop hmode => ?pause, fun p s => rfl, fun p c s => rfl, fun p s => rfl, fun p s hrx => if_pos hrx⟩
  case down =>
    have hx : exec (.rpLinkDown p .blockLock) s = .next (evalLink p.val (onPort p.val (fun v => { v with blockLock := false }) s)) :=
      if_neg (by simp [hup])
    have hport : (onPort p.val (fun v => { v with blockLock := false }) s).portAt p.val = { s.portAt p.val with blockLock := false } := by
      rw [portAt_onPort, if_pos rfl]
    have hexit := evalLink_of_exit (p := p.val) (s := onPort p.val (fun v => { v with blockLock := false }) s)
      (by rw [hport]; exact hen) hb (linkClean_of_no_lock (by rw [hport])) (by rw [hport]; exact hlink)
    rw [hexit] at hx
    refine ⟨_, hx, ?_, ?_, ?_, rfl, changesOnly_exec_of 16777224 hx rfl rfl⟩
    all_goals rw [show ∀ src ev unit cause value berth t, (raise src ev unit cause value berth t).portAt p.val = t.portAt p.val from
      fun _ _ _ _ _ _ _ => rfl, portAt_onPort, if_pos rfl, hport]
    exact restLink_ne_up _ _
  case debounce => exact if_pos (by simpa [hc] using hl)
  case restart => exact if_neg (by simp [hen, hb, han, hdone])
  case complete => exact if_neg (by simp [hen, hb, han, hf])
  case drained =>
    show execSynthDrainDone q s = _
    unfold execSynthDrainDone
    dsimp only
    rw [hidle, if_neg (by simp [hsyn]), hp]
  case rated =>
    show execSynthDrainDone q s = _
    unfold execSynthDrainDone
    dsimp only
    rw [hidle, if_neg (by simp [hsyn]), hp]
  case locked =>
    have hx : exec (.synthLock q) s = .next ((quadPorts q.val).foldl (fun s p => evalLink p s) (onQuad q.val (fun y => { y with
        synth := 0, settleUs := BitVec.ofNat 8 (min 255 ((s.tide.nowFs - (s.quadAt q.val).settleAt) / 1000000000)), calTj := s.tjDeg,
        dueRaised := false, retrain := false, retries := 0 }) s)) := by
      show execSynthLock q s = _
      unfold execSynthLock
      dsimp only
      rw [if_neg (by simp [hsyn]), hdue]
      rfl
    refine ⟨_, hx, ?_⟩
    rw [evalLinks_quadAt, quadAt_onQuad, if_pos rfl]
    exact ⟨rfl, rfl, rfl, rfl⟩
  case resume =>
    show execSettleResume p s = _
    unfold execSettleResume
    dsimp only
    rw [if_neg (by simp [hsyn, hres, hlf, hrf]), hmay]
    rfl
  case retry =>
    show execSynthLockTimeout q s = _
    unfold execSynthLockTimeout
    dsimp only
    rw [if_neg (by simp [hsyn]), if_pos hr]
    rfl
  case failed =>
    show execSynthLockTimeout q s = _
    unfold execSynthLockTimeout
    dsimp only
    rw [if_neg (by simp [hsyn]), if_neg (Nat.not_lt.mpr hr)]
    rfl
  case recal =>
    show execRpRecalDue q s = _
    unfold execRpRecalDue
    simp only [ha, Bool.not_true, Bool.false_and, Bool.false_eq_true, if_false, if_true]
    rw [if_neg (by simp [hsyn]; omega), if_pos hsyn]
  case drift =>
    show execRpRecalDue q s = .next (raise (riverSource q.val) 1 q.val 0 0 none (onQuad q.val (fun x => { x with dueRaised := true }) s))
    unfold execRpRecalDue
    simp only [ha, hraised, Bool.not_false, Bool.true_and, Bool.and_true, Bool.false_eq_true, if_false, decide_eq_true_eq]
    rw [if_pos hd, if_pos (by simp [hd80])]
  case pause =>
    show execPauseReceive p bytes s = _
    unfold execPauseReceive
    dsimp only
    rw [if_neg (by simp [hrx, hty]), if_neg (by simp [hfcs]), if_pos hop]
    exact congrArg (fun x => Host.Outcome.next (s.setPort p.val x)) (if_pos (by rw [hmode]; rfl))

end Sys2Proof
end

section
/-! The Crossing links: their commands, flits, lanes and training (11_crossings.md). -/

namespace Sys2Proof.Machine

/-- A Crossing changed twice. -/
theorem onXl_onXl (k : Nat) (f g : Xl → Xl) (s : State) : onXl k g (onXl k f s) = onXl k (fun x => g (f x)) s := by
  unfold onXl
  rw [xlAt_setXl, if_pos rfl]
  simp only [State.setXl, Tab.put_put]

/-- fabric.link_ctl in range, on a link that is neither training nor settling. -/
theorem linkCtl_of_settled {x : Xl} (h2 : x.state ≠ 2) (h4 : x.state ≠ 4) (h5 : x.state ≠ 5) :
    ¬ (x.state == 2 || x.state == 4 || x.state == 5) = true := by
  simp only [Bool.or_eq_true, beq_iff_eq, not_or]
  exact ⟨⟨h2, h4⟩, h5⟩

/-- A discarded flit with a wrong CRC is counted, and the first of them is answered with RETRY (R257). -/
theorem takeFlit_of_bad_crc {k : Nat} {bytes : List Byte} {s : State} (hc : (s.xlAt k).carries = true) (hg : flitGood bytes = false) :
    takeFlit k bytes s = onXl k (fun x => { x with
      crcErr := bump x.crcErr, retryDue := x.retryDue || !x.discarding, discarding := true }) s := by
  unfold takeFlit discardFlit
  dsimp only
  rw [if_neg (by simp [hc]), if_pos (by simp [hg]), onXl_onXl]

/-- A good DATA flit in sequence is accepted (R254, R257). -/
theorem takeFlit_of_in_sequence {k : Nat} {bytes : List Byte} {s : State} (hc : (s.xlAt k).carries = true) (hg : flitGood bytes = true)
    (hd : (readFlit bytes).ftype ≠ 1) (hseq : (readFlit bytes).seq = ((onXl k (Xl.takeAck (readFlit bytes).ack) s).xlAt k).rxExpect) :
    takeFlit k bytes s = acceptFlit k (readFlit bytes) (onXl k (Xl.takeAck (readFlit bytes).ack) s) := by
  unfold takeFlit
  dsimp only
  rw [if_neg (by simp [hc]), if_neg (by simp [hg]), if_neg hd, if_pos hseq]

/-- TS sets go out, and no Crossing changes. -/
theorem sendTs_xlAt (k p : Nat) (s : State) (j : Nat) : (sendTs k p s).xlAt j = s.xlAt j := by
  unfold State.xlAt
  rw [same_xl (sendTs_view (M := 17179869184) rfl k p s) rfl]

/-- An event is raised, and no Crossing changes. -/
theorem raise_xlAt (src ev u c v : Nat) (b : Option Nat) (s : State) (j : Nat) : (raise src ev u c v b s).xlAt j = s.xlAt j := by
  unfold State.xlAt
  rw [same_xl (raise_view (M := 16777216) rfl src ev u c v b s) rfl]

/-- What a full training leaves of the link (R253). -/
theorem startFull_xlAt (k : Nat) (s : State) : ((startFull k s).xlAt k).state = 2 ∧ ((startFull k s).xlAt k).trainFull = true
    ∧ ((startFull k s).xlAt k).replay = [] ∧ ((startFull k s).xlAt k).txNext = 0 ∧ ((startFull k s).xlAt k).rxExpect = 0
    ∧ ((startFull k s).xlAt k).txLanes = 0 ∧ ((startFull k s).xlAt k).rxFailed = 0 := by
  unfold startFull
  rw [sendTs_xlAt, xlAt_onXl, if_pos rfl]
  exact ⟨rfl, rfl, rfl, rfl, rfl, rfl, rfl⟩

/-- With no pair of good lanes left the link goes down (R266). -/
theorem failLane_of_no_pair {k l : Nat} {s : State} (h : pairFor ((s.xlAt k).rxFailed ||| BitVec.ofNat 4 (2 ^ l)) = none) :
    failLane k l s = linkDown k (onXl k (fun x => { x with
      rxLock := x.rxLock &&& ~~~(BitVec.ofNat 4 (2 ^ l)), rxFailed := x.rxFailed ||| BitVec.ofNat 4 (2 ^ l) }) s) := by
  unfold failLane
  dsimp only
  rw [xlAt_onXl, if_pos rfl]
  dsimp only
  rw [h]

/-- No RESTORE waits: nothing ends. -/
theorem endRestore_of_none {k : Nat} {st : Status} {s : State} (h : (s.xlAt k).restore = none) : endRestore k st s = s := by
  unfold endRestore
  rw [h]

/-- What DEGRADE makes of the transmitter (R266). -/
def Xl.moved (code : BitVec 2) (x : Xl) : Xl :=
  { x.breakRound with
    state := if x.state = 5 then 5 else 4, txLanes := code, txDone := false, trainFull := false, peerHold := false, afterDegrade := true,
    replayPos := none, degrades := bump x.degrades }

theorem exec_degradeReceive_of_carries {k : Fin 8} {p : Fin 2} {s : State} (hc : (s.xlAt k.val).carries = true)
    (hr : (s.xlAt k.val).restore = none) : exec (.degradeReceive k p) s = .next (sendTs k.val 0
      (raise (xlSource k.val) 0 k.val 0 0 none (onXl k.val (Xl.moved (BitVec.ofNat 2 (p.val + 1))) s))) := by
  show execDegradeReceive k p s = _
  unfold execDegradeReceive
  dsimp only
  rw [if_neg (by simp [hc]), endRestore_of_none hr]
  rfl

end Sys2Proof.Machine

namespace Sys2Proof
open Machine

/-- Settles O36: the link commands by operation and state, then the flits. -/
theorem crossingFlitsTakeEffect : Obligations.CrossingFlitsTakeEffect := by
  unfold Obligations.CrossingFlitsTakeEffect
  refine ⟨fun rq => completes_of (fun _ => rfl) fun u ⟨hk, hm, hd0, hd, hw⟩ => ?config,
    fun rq => completes_of (fun _ => rfl) fun u ⟨hk, hop, hst, hen, hpgc, hdom⟩ => ?enable,
    fun rq => completes_of (fun _ => rfl) fun u ⟨hk, hop, h2, h4, h5⟩ => ?disable,
    fun rq => completes_of (fun _ => rfl) fun u ⟨hk, hop, hup⟩ => ?train,
    fun rq => waits_of (fun _ => rfl) fun u ⟨hk, hop, hup, hrx⟩ => ?restore,
    fun rq => turnsAway_of (fun _ => rfl) fun u ⟨hk, hop, hst⟩ => ?busy,
    fun rq => completes_of (fun _ => rfl) fun u hk => if_neg (by simpa using hk), fun k bytes bad s => rfl, fun k bytes s => rfl,
    fun k bytes s => takeFlit_of_bad_crc, fun k bytes s => takeFlit_of_in_sequence,
    fun k ph s ht hc => if_pos (by simp [ht, hc]), fun k s hc ha => if_pos (by simp [hc, ha]), fun k s hc hd => if_pos (by simp [hc, hd]),
    fun k s hc ht hr hh hg => if_pos (by simp [hc, ht, hr, hh, hg])⟩
  case config =>
    dsimp only
    have hall : (List.range 4).all (fun i => decide (1 ≤ rq.u8 (4 + i)) && decide (rq.u8 (4 + i) ≤ 63)) = true := by
      simpa [List.all_eq_true] using hw
    rw [if_neg (by rw [hall]; simp [hd0]; omega)]
  case enable =>
    dsimp only
    rw [if_neg (by simp [hop]; omega), if_neg (by simp [hst]), linkOp, hop, if_neg (by decide), if_pos rfl,
      if_neg (by simp [hen, hpgc, hdom])]
    rfl
  case disable =>
    dsimp only
    rw [if_neg (by simp [hop]; omega), if_neg (linkCtl_of_settled h2 h4 h5), linkOp, hop, if_pos rfl]
  case train =>
    dsimp only
    rw [if_neg (by simp [hop]; omega), if_neg (by simp [hup]), linkOp, hop, if_neg (by decide), if_neg (by decide), if_pos rfl,
      if_neg (by simp [Xl.isUp, hup])]
  case restore =>
    dsimp only
    rw [if_neg (by simp [hop]; omega), if_neg (by simp [hup]), linkOp, hop, if_neg (by decide), if_neg (by decide), if_neg (by decide),
      if_pos rfl, if_neg (by simp [Xl.isUp, hup]; intro _; exact hrx)]
  case busy =>
    dsimp only
    rw [if_neg (by simp; omega), if_pos (by simpa [or_assoc] using hst)]

/-- Settles O37: lock and training, lanes and DEGRADE, going down, grace and drift, and the synthesiser. -/
theorem crossingLinksTakeEffect : Obligations.CrossingLinksTakeEffect := by
  unfold Obligations.CrossingLinksTakeEffect
  refine ⟨fun k l s hen hst hsy => ?lock, fun k s => startFull_xlAt k s, fun k l bytes s hst hf => if_pos (by simp [hst, hf]),
    fun k l bytes s hst hf hd => ?fastSets, fun k l s hc hg hf => if_neg (by simp only [hc, hg, hf]; decide), fun k l s h => failLane_of_no_pair h,
    fun k p s hst hr => ⟨_, exec_degradeReceive_of_carries (by simp [Xl.carries, hst]) hr, ?degraded⟩,
    fun k s hg => if_neg (by simp [hg]), fun k s h => if_pos h, fun k s hc => if_pos hc, fun k s => rfl,
    fun k s hm hd => ?drift, fun k s hm hr h50 h80 => ?driftRaised, fun k s hsy hst => ?synthLock,
    fun k s hsy hn => ?retried, fun k s hsy hn => ?given⟩
  case lock =>
    show execXlLaneLock k l s = _
    unfold execXlLaneLock
    dsimp only
    rw [if_neg (by simp [hen]), if_pos (by simp [hst, hsy])]
  case fastSets =>
    show execTsReceive k l bytes s = _
    unfold execTsReceive
    dsimp only
    rw [if_neg (by simp [hst]), if_neg (by simp [hst]), if_pos (by simp [hst, hf, hd])]
  case degraded =>
    rw [sendTs_xlAt, raise_xlAt, xlAt_onXl, if_pos rfl]
    exact ⟨if_neg (by simp [hst]), rfl, rfl, rfl, rfl⟩
  case drift =>
    exact (if_pos (by rw [hm]; exact hd)).trans
      (congrArg (fun t => Host.Outcome.next (recalibrate k.val t)) (if_neg (by simp [hm])))
  case driftRaised =>
    exact (if_neg (by rw [hm]; exact Nat.not_le.mpr h80)).trans
      (congrArg Host.Outcome.next (if_pos (by simp [hm, hr, h50])))
  case synthLock =>
    show execXlSynthLock k s = _
    unfold execXlSynthLock
    dsimp only
    rw [if_neg (by simp [hsy]), if_pos hst]
  case retried =>
    show execXlSynthTimeout k s = _
    unfold execXlSynthTimeout
    dsimp only
    rw [if_neg (by simp [hsy]), if_pos hn]
  case given =>
    show execXlSynthTimeout k s = _
    unfold execXlSynthTimeout
    dsimp only
    rw [if_neg (by simp [hsy]), if_neg (Nat.not_lt.mpr hn)]

end Sys2Proof
end

section
/-! The risk commands (10_weir_windlass.md). -/

namespace Sys2Proof.Machine

/-- The ranges of a partition that overlap those of no other berth. -/
theorem no_partition_overlap {s : State} {others : List Nat} {ab az ib iz : Nat}
    (h : ∀ o ∈ others, overlaps ab az (s.weirB o).acctBase (s.weirB o).acctSize = false
      ∧ overlaps ib iz (s.weirB o).instrBase (s.weirB o).instrSize = false) :
    (others.any fun o => overlaps ab az (s.weirB o).acctBase (s.weirB o).acctSize
      || overlaps ib iz (s.weirB o).instrBase (s.weirB o).instrSize) = false := by
  rw [List.any_eq_false]
  intro o ho
  obtain ⟨hacct, hinstr⟩ := h o ho
  simp [hacct, hinstr]

/-- A named berth and an operation in range pass the first check. -/
theorem berthOp_in_range {rq : Req} {top : Nat} (hb : rq.u8 0 < 16) (hop : rq.u8 1 ≤ top) :
    ¬ (!berthOk rq 0 || decide (top < rq.u8 1)) = true := by
  simp [berthOk, hb]
  omega

/-- A named berth passes the first check. -/
theorem berth_in_range {rq : Req} (hb : rq.u8 0 < 16) : ¬ (!berthOk rq 0) = true := by
  simp [berthOk, hb]

end Sys2Proof.Machine

namespace Sys2Proof
open Machine

/-- Settles O46: each risk command under its own conditions. -/
theorem riskCommandsTakeEffect : Obligations.RiskCommandsTakeEffect := by
  unfold Obligations.RiskCommandsTakeEffect
  refine ⟨fun rq others => completes_of (fun _ => rfl) fun u ⟨hb, ha, hi, ho, hov, hagg, hscen, hex, ha0, hi0⟩ => ?partition,
    fun rq => completes_of (fun _ => rfl) fun u ⟨hb, h1, h2, h3, h4, h5, h6, h8, h12, h16⟩ => ?config,
    fun rq w => completes_of (fun _ => rfl) fun u ⟨hb, hop, hw⟩ => ?acctSet,
    fun rq => turnsAway_of (fun _ => rfl) fun u ⟨hb, hop, hw⟩ => ?acctNone,
    fun rq w => completes_of (fun _ => rfl) fun u ⟨hb, hop, hw⟩ => ?acctDelete,
    fun rq w e => completes_of (fun _ => rfl) fun u ⟨hb, hop, hw, he, hp⟩ => ?acctAdjust,
    fun rq w => completes_of (fun _ => rfl) fun u ⟨hb, hop, hm, hcol, hw⟩ => ?instrSet,
    fun rq w => completes_of (fun _ => rfl) fun u ⟨hb, hop, hw⟩ => ?instrDelete,
    fun rq w => completes_of (fun _ => rfl) fun u ⟨hb, hop, hw⟩ => ?posSet,
    fun rq w e => completes_of (fun _ => rfl) fun u ⟨hb, hop, hw, he, hp⟩ => ?posAdjust,
    fun rq w e => completes_of (fun _ => rfl) fun u ⟨hb, hop, hw, he, hp, h0⟩ => ?posDelete,
    fun rq w => turnsAway_of (fun _ => rfl) fun u ⟨hb, hop, hw, h0⟩ => ?posHeld,
    fun rq => completes_of (fun _ => rfl) fun u hb => if_neg (berth_in_range hb),
    fun rq h j => completes_of (fun _ => rfl) fun u ⟨hb, hd, hok, hh, hj⟩ => ?release,
    fun f s => rfl, fun f s hs => ?releaseFull,
    fun rq => turnsAway_of (fun _ => rfl) fun u ⟨hb, hd, hh⟩ => ?releaseNone,
    fun rq => completes_of (fun _ => rfl) fun u ⟨hb, h1, h4072, hsz⟩ => ?stage,
    fun rq w => completes_of (fun _ => rfl) fun u ⟨hb, hw⟩ => ?status⟩
  case partition =>
    subst ho
    dsimp only
    have hroom := not_or.mpr ⟨Nat.not_lt.mpr hagg, Nat.not_lt.mpr hscen⟩
    rw [if_neg (by simp [berthOk, hb]; omega), no_partition_overlap hov,
      if_neg (by simpa only [Bool.false_or, Bool.or_eq_true, decide_eq_true_eq] using hroom), if_neg (by simp [hex, ha0, hi0])]
  case config => exact if_neg (by simp [berthOk, hb]; omega)
  case acctSet =>
    dsimp only
    rw [if_neg (berthOp_in_range hb (by omega)), if_pos hop, hw]
    rfl
  case acctNone =>
    dsimp only
    rw [if_neg (berthOp_in_range hb (by omega)), if_pos hop, hw]
  case acctDelete =>
    dsimp only
    rw [if_neg (berthOp_in_range hb (by omega)), if_neg (by omega), hw]
    exact if_pos hop
  case acctAdjust =>
    subst he
    dsimp only
    rw [if_neg (berthOp_in_range hb (by omega)), if_neg (by omega), hw]
    dsimp only
    rw [if_neg (by omega), if_neg (Bool.eq_false_iff.mp hp)]
    rfl
  case instrSet =>
    dsimp only
    rw [if_neg (berthOp_in_range hb (by omega)), if_neg (by omega), if_neg (by simp [hm, hcol]), hw]
    rfl
  case instrDelete =>
    dsimp only
    rw [if_neg (berthOp_in_range hb (by omega)), if_pos hop, hw]
    rfl
  case posSet =>
    dsimp only
    rw [if_neg (berthOp_in_range hb (by omega)), if_pos hop, hw]
    rfl
  case posAdjust =>
    subst he
    dsimp only
    rw [if_neg (berthOp_in_range hb (by omega)), if_neg (by omega), hw]
    dsimp only
    rw [if_neg (Bool.eq_false_iff.mp hp), if_neg (by omega)]
    rfl
  case posDelete =>
    subst he
    dsimp only
    rw [if_neg (berthOp_in_range hb (by omega)), if_neg (by omega), hw]
    dsimp only
    rw [if_neg (Bool.eq_false_iff.mp hp), if_pos hop, if_pos h0]
    rfl
  case posHeld =>
    dsimp only
    rw [if_neg (berthOp_in_range hb (by omega)), if_neg (by omega), hw]
    dsimp only
    rw [if_pos hop, if_neg h0, ite_self]
  case release =>
    subst hj
    dsimp only
    rw [if_neg (berthOp_in_range hb hd), if_neg (by simpa using hok), hh]
  case releaseFull =>
    unfold releaseVerdict
    dsimp only
    rw [if_neg (by decide), if_neg (by decide), if_pos hs]
  case releaseNone =>
    dsimp only
    rw [if_neg (berthOp_in_range hb (by omega)), if_neg (by simp; omega), hh]
  case stage =>
    dsimp only
    rw [if_neg (by simp [berthOk, hb]; omega)]
  case status =>
    subst hw
    exact if_neg (berth_in_range hb)

end Sys2Proof
end

section
/-! The Windlass and the Weir's flushing (10_weir_windlass.md). -/

namespace Sys2Proof.Machine

/-- A named berth and an operation of risk.windlass_run pass the first check. -/
theorem windlassOp_in_range {rq : Req} (hb : rq.u8 0 < 16) (hop : rq.u8 1 ≤ 2) : ¬ (!berthOk rq 0 || decide (2 < rq.u8 1)) = true := by
  simp [berthOk, hb]
  omega

/-- An exposure starts from 0 and takes the greatest (R241). -/
theorem exposure_nonneg (r : WindRun) (g : Nat) : 0 ≤ r.exposure g := by
  unfold WindRun.exposure
  rw [List.foldl_max]
  exact le_max_left _ _

/-- A period of a configured berth with tiles falls due (R243). -/
theorem period_runs {s : State} {b : Nat} (hcfg : (s.weirB b).configured = true) (hper : (s.weirB b).period ≠ 0)
    (ht : (s.weirB b).tiles ≠ 0) : ¬ (!(s.weirB b).configured || decide ((s.weirB b).period = 0) || decide ((s.weirB b).tiles = 0)) = true := by
  simp only [hcfg, Bool.not_true, Bool.false_or, Bool.or_eq_true, decide_eq_true_eq, not_or]
  exact ⟨hper, ht⟩

/-- An output tile of the run in progress, still open, of a tile in service. -/
theorem outputTile_open {s : State} {r : WindRun} {i t : Nat} (hi : i < r.outTiles) (hd : r.done.contains i = false)
    (ht : s.weir.tiles.getLsbD t = true) : ¬ (decide (r.outTiles ≤ i) || r.done.contains i || !s.weir.tiles.getLsbD t) = true := by
  rw [hd, ht, decide_eq_false (Nat.not_le.mpr hi)]
  decide

/-- A used entry of the account directory that is poisoned. -/
theorem poisonWay_account {s : State} {way : Nat} (h : (Tab.look {} s.weir.acct way).valid = true) :
    (Tab.look {} (poisonWay .account way s).weir.acct way).poison = true := by
  show (Tab.look {} (Tab.upd {} s.weir.acct way (fun e => { e with poison := e.valid })) way).poison = true
  rw [Tab.look_upd, if_pos rfl]
  exact h

end Sys2Proof.Machine

namespace Sys2Proof
open Machine

/-- Settles O47: the command by operation, the periods and tiles, the installation and the flushing. -/
theorem windlassTakesEffect : Obligations.WindlassTakesEffect := by
  unfold Obligations.WindlassTakesEffect
  refine ⟨fun rq => completes_of (fun _ => rfl) fun u ⟨hb, hop, hargs, hagg, hscen⟩ => ?configured,
    fun rq => turnsAway_of (fun _ => rfl) fun u ⟨hb, hop, hargs, hroom⟩ => ?noRoom,
    fun rq => completes_of (fun _ => rfl) fun u ⟨hb, hop⟩ => ?stopped,
    fun rq => completes_of (fun _ => rfl) fun u ⟨hb, hop, hcfg, hno, ht, hw, hr⟩ => ?started,
    fun rq r => waits_of (fun _ => rfl) fun u ⟨hb, hop, hcfg, hno, ht, hw, hr⟩ => ?queued,
    fun rq => turnsAway_of (fun _ => rfl) fun u ⟨hb, hop, hcfg, hrun⟩ => ?running,
    fun b s hcfg hper ht => ⟨fun hrun => ?skipped, fun hrun => ?due⟩,
    fun i t s r hr hi hd ht => ⟨?tileFails, ?tileKept⟩, fun s r hr hred => ?installed, fun s r hr hred => ?notReduced,
    exposure_nonneg, fun t s ht => if_pos ht, fun t s ht => if_neg (by simp only [ht]; decide),
    fun dir way s u hu => hu ▸ ⟨rfl, rfl, rfl⟩, fun way s h => poisonWay_account h⟩
  case configured =>
    dsimp only
    rw [if_neg (windlassOp_in_range hb (by omega)), if_neg (by omega), if_pos hop, if_neg (by simp [hargs]), if_neg (by simp; omega)]
    rfl
  case noRoom =>
    dsimp only
    rw [if_neg (windlassOp_in_range hb (by omega)), if_neg (by omega), if_pos hop, if_neg (by simp [hargs]), if_pos (by simpa using hroom)]
  case stopped =>
    dsimp only
    rw [if_neg (windlassOp_in_range hb (by omega)), if_pos hop]
  case started =>
    dsimp only
    rw [if_neg (windlassOp_in_range hb (by omega)), if_neg (by omega), if_neg (by omega), if_neg (by simp [hcfg]), if_neg (by simp [hno]),
      if_neg ht, if_neg hw, if_neg (by simp [hr])]
  case queued =>
    dsimp only
    rw [if_neg (windlassOp_in_range hb (by omega)), if_neg (by omega), if_neg (by omega), if_neg (by simp [hcfg]), if_neg (by simp [hno]),
      if_neg ht, if_neg hw, if_pos (by simp [hr])]
    rfl
  case running =>
    dsimp only
    rw [if_neg (windlassOp_in_range hb (by omega)), if_neg (by omega), if_neg (by omega), if_neg (by simp [hcfg]), if_pos hrun]
  case skipped => exact (if_neg (period_runs hcfg hper ht)).trans (if_pos hrun)
  case due => exact (if_neg (period_runs hcfg hper ht)).trans (if_neg (by simp [hrun]))
  case tileFails =>
    show execOutputTileDone i t false s = _
    unfold execOutputTileDone
    rw [hr]
    exact if_neg (outputTile_open hi hd ht)
  case tileKept =>
    show execOutputTileDone i t true s = _
    unfold execOutputTileDone
    rw [hr]
    exact if_neg (outputTile_open hi hd ht)
  case installed =>
    show execExposureInstall s = _
    unfold execExposureInstall
    rw [hr]
    exact if_pos hred
  case notReduced =>
    show execExposureInstall s = _
    unfold execExposureInstall
    rw [hr]
    exact if_neg (by simp [hred])

end Sys2Proof
end
